-- ==== Sys2Proof/Word.lean ====
section
/-! DEFINITION. The word type of the device: a byte. Register values wider than a byte are held as
integers of the width their object states (R166), because the spec reads and compares them as
numbers; bytes on the wire, in memory and in stored records are bit vectors of 8 bits. -/

namespace Sys2Proof

/-- One byte (R166, code 16#02 and the elements of BLOB and STR values). -/
abbrev Byte := BitVec 8

end Sys2Proof
end

