-- ==== Sys2Proof/Syntax.lean ====
section
/-! DEFINITION. The commands of the device: one constructor per row of spec/opcode_table.json, with
the data types of their operands. An operand of a bounded index is a `Fin`; every other operand is a
number or a byte string whose width `Instr.wf` checks (WellFormed.lean). -/

namespace Sys2Proof

/-- One entry of a WRITE or BATCH request: index, subindex and the value's bytes (R147). -/
structure WEntry where
  /-- object index -/
  idx : Nat
  /-- object subindex -/
  sub : Nat
  /-- encoded value, without padding -/
  val : List Byte
  deriving DecidableEq, Repr

/-- The data set of a PTP Announce message that the best master clock algorithm compares (R122,
R126). -/
structure PtpAnnounce where
  /-- grandmaster priority 1 -/
  prio1 : Nat
  /-- grandmaster clock class -/
  clockClass : Nat
  /-- grandmaster clock accuracy -/
  accuracy : Nat
  /-- grandmaster offset scaled log variance -/
  variance : Nat
  /-- grandmaster priority 2 -/
  prio2 : Nat
  /-- grandmaster clock identity -/
  identity : Nat
  /-- steps removed -/
  steps : Nat
  /-- TAI − UTC in seconds as announced -/
  utcOffset : Int
  /-- PTP domain number -/
  domain : Nat
  deriving DecidableEq, Repr

/-- A PTP general message (R122): an Announce, or the Follow_Up of a two-step master with the precise
origin timestamp and correction, in nanoseconds. -/
inductive PtpGeneral where
  | announce (a : PtpAnnounce)
  | followUp (domain seqId : Nat) (origin corr : Int)
  deriving DecidableEq, Repr

/-- The PTP event messages the device takes a hardware timestamp of (R123): a one-step Sync, a
two-step Sync, and the response that completes a delay measurement with the measured mean path delay
computed from its four timestamps. -/
inductive PtpKind where
  | syncOneStep
  | syncTwoStep
  | delayMeasured
  deriving DecidableEq, Repr

/-- The payload of OPEN (R141). -/
structure OpenReq where
  /-- nonce -/
  nonce : Nat
  /-- node_id -/
  node : Nat
  /-- requested_session, 255 for any free slot -/
  reqSession : Nat
  /-- requested_role -/
  role : Nat
  /-- max_payload -/
  maxPayload : Nat
  /-- flags [0]: old_ack is valid -/
  restart : Bool
  /-- old_ack -/
  oldAck : Nat
  /-- initial credit limit for CTRL -/
  grantCtrl : Nat
  /-- initial credit limit for ITEM -/
  grantItem : Nat
  /-- initial credit limit for BULK -/
  grantBulk : Nat
  /-- initial credit limit for EVENT -/
  grantEvent : Nat
  /-- credential -/
  credential : List Byte
  deriving DecidableEq, Repr

/-- The body of a STATUS frame of a head module (R388). -/
structure HeadStatus where
  /-- fires_done -/
  firesDone : Nat
  /-- rejects_sent -/
  rejectsSent : Nat
  /-- fwd_code_errors -/
  codeErrors : Nat
  /-- head_boot -/
  headBoot : Nat
  /-- pair_epoch_selected -/
  epoch : Nat
  /-- input: 0 A, 1 B, 255 single-input head -/
  input : Nat
  /-- flags -/
  flags : Nat
  /-- head_temperature in 0.1 °C -/
  temperature : Int
  deriving DecidableEq, Repr

/-- What the Inspection Unit finds on one field of an item image after registration (R448, R449). -/
structure FieldFinding where
  /-- field number -/
  field : Nat
  /-- the field's box lies wholly in the camera's view -/
  inView : Bool
  /-- data decoded from a symbol; none for no decode, or for a field that is no symbol -/
  decoded : Option (List Byte)
  /-- overall grade estimated, in tenths; 255 for none -/
  grade : Nat
  /-- mismatch of the field's box in parts per thousand -/
  mismatch : Nat
  deriving DecidableEq, Repr

/-- What the Inspection Unit measures on the INSP frame of an item (R447 to R449, R461). -/
structure ItemFinding where
  /-- the work fitted before the next frame start of the camera (R454) -/
  inTime : Bool
  /-- cross-web offset of the registered pose in µm -/
  dx : Int
  /-- along-web offset in µm -/
  dy : Int
  /-- rotation in thousandths of a degree -/
  rot : Int
  /-- score, 0 to 100 -/
  score : Nat
  /-- fields -/
  fields : List FieldFinding
  /-- mismatch of the item region outside every field box, in parts per thousand -/
  area : Nat
  /-- image columns that are streaks -/
  streaks : List Nat
  deriving DecidableEq, Repr

/-- What the Inspection Unit measures on one dash of a test bar (R459). -/
structure DashFinding where
  /-- plane column -/
  col : Nat
  /-- integrated darkness -/
  dark : Nat
  /-- cross-web offset of the centroid from its column in µm -/
  dx : Int
  /-- along-web position of the centroid in µm -/
  y : Int
  deriving DecidableEq, Repr

/-- What the DRAM controller captures at a freeze (R342, R352). -/
structure FreezeInfo where
  /-- device address of the code word -/
  address : Nat
  /-- channel: 0 A, 1 B -/
  channel : Nat
  /-- bank -/
  bank : Nat
  /-- row -/
  row : Nat
  /-- column -/
  column : Nat
  /-- check field as read -/
  syndrome : Nat
  /-- requester (R321) -/
  requester : Nat
  /-- requests pending -/
  depth : Nat
  deriving DecidableEq, Repr

/-- A write of a register that has no command of its own: of a DMA channel (R359) or of a codec queue (R292),
with its offset and value, or of TIMER_CMP (R729). -/
inductive RegWrite where
  | dma (ch : Fin 16) (off v : Nat)
  | codec (inst : Fin 4) (q : Fin 2) (off v : Nat)
  | timerCmp (v : Nat)
  deriving DecidableEq, Repr


/-- What the observer of an axis estimates in one step from the currents and the commanded voltages (R559,
R560): the spec gives no equations of the motor model, so its estimates come with the command. -/
structure FocEstimate where
  /-- electrical angle in 1/65 536 turn -/
  angle : Nat
  /-- mechanical speed in rpm -/
  speed : Int
  /-- residual in percent of rated current -/
  residual : Nat
  /-- Ke_est in µV·s/rad -/
  ke : Nat
  deriving DecidableEq, Repr

/-- One temperature measurement of a TS channel (R595, R596): for a diode the averaged ΔV in nV and the reading at 100 µA in
µV; for a thermistor the voltage in µV as the second. -/
structure TsReading where
  /-- ΔV in nV -/
  dv : Nat
  /-- voltage in µV -/
  uv : Nat
  deriving DecidableEq, Repr

/-- A valid heartbeat or RELINQUISH of the partner (R692). The last three fields are content of the Mirror Link
that R692 does not lay out: what R691 and R711 need of the partner's identity. -/
structure Heartbeat where
  /-- sender_state -/
  state : Nat
  /-- pair_epoch -/
  epoch : Nat
  /-- firmware_major -/
  major : Nat
  /-- mirror_seq_sent -/
  sent : Nat
  /-- mirror_seq_received -/
  received : Nat
  /-- send_time -/
  time : Nat
  /-- web_position -/
  webPos : Int
  /-- high_water_count -/
  hwm : Int
  /-- last_fired, rings 0 to 5 -/
  fired : List Nat
  /-- fault_summary -/
  faults : Nat
  /-- health -/
  health : Nat
  /-- pair_priority of the partner -/
  priority : Nat
  /-- NETA MAC address of the partner -/
  mac : Nat
  /-- serial number of the partner -/
  serial : List Byte
  deriving DecidableEq, Repr

/-- What one mirror or sync frame carries of the mirrored data set (R693). Its layout is internal to the
device. -/
inductive MirrorMsg where
  /-- an accepted write to an object of 16#3000 to 16#5BFF -/
  | write (e : WEntry)
  /-- a committed mould, or a glyph set -/
  | resource (glyphs : Bool) (num : Nat) (content : List Byte)
  /-- an accepted item record, as its ITEM_PUT carries it -/
  | record (data : List Byte)
  /-- a binding: lane, stamp, TIME64 of the stamp, dead reckoning, its item_sequence, and its outcome: the slot of an
  item in flight, none for an item that is not -/
  | binding (lane : Fin 8) (x : Int) (time : Nat) (dr : Bool) (seq : Nat) (slot : Option (Fin 64))
  /-- disposition, flags and verdict of an item, as its ledger entry of 56 bytes shows them (R223) -/
  | ledger (entry : List Byte)
  /-- values of ledger counts, counters, queue marks and outputs, by object -/
  | values (sets : List (Nat × Int))
  /-- a staged entry of a compensation map: plane, column and entry -/
  | mapEntry (plane : Fin 4) (column entry : Nat)
  /-- a REJECT that an input of the active received -/
  | reject (link : Fin 48) (line cause blocks : Nat)
  /-- a STATUS that an input of the active received -/
  | status (link : Fin 48) (st : HeadStatus)
  /-- histories of a loop: three errors, three outputs, and the output in force -/
  | loop (l : Fin 32) (e y : List Int) (out : Int)
  /-- duties, speed reference and q-current reference of an axis -/
  | axis (a : Fin 6) (u v w : Nat) (ref iq : Int)
  deriving DecidableEq, Repr

/-- The attributes of an object that DECLARE gives (R161, R730). Minimum, maximum and default are encoded in the
object's own type, empty where they do not apply; a declared object is volatile and its Applies value is now. -/
structure DeclareMsg where
  /-- index -/
  idx : Nat
  /-- subindex -/
  sub : Nat
  /-- type code of R166 -/
  ty : Nat
  /-- largest encoded length -/
  len : Nat
  /-- fraction bits -/
  frac : Nat
  /-- lowest role that reads, 255 for none -/
  rd : Nat
  /-- lowest role that writes, 255 for none -/
  wr : Nat
  /-- minimum -/
  lo : List Byte
  /-- maximum -/
  hi : List Byte
  /-- default -/
  dflt : List Byte
  /-- name -/
  name : List Byte
  /-- unit -/
  unit : List Byte
  deriving DecidableEq, Repr

/-- The commands of the device, one constructor per row of spec/opcode_table.json. The first operand of
every constructor, `t`, is the instant of the command in nanoseconds (assumption log entry 1). -/
inductive Instr where
  /-- A qualified A/B edge of an encoder changes the count C and moves the web coordinate X,
  velocity and tracker state. (R43) -/
  | encoderEdge (t : Nat) (enc : Fin 4) (a b : Bool)
  /-- An index edge sets the reference or is checked against the expected count; a mismatch is
  handled as a phase jump. (R59) -/
  | zEdge (t : Nat) (enc : Fin 4) (level : Bool)
  /-- An encoder pair's line-fault detector reports a fault, which on the web encoder leads to
  dead reckoning or LOST. (R751) -/
  | encoderLineFault (t : Nat) (enc : Fin 4) (pair : Fin 3)
  /-- The line fault clears after 10 µs without either fault condition. (R751) -/
  | encoderLineFaultClear (t : Nat) (enc : Fin 4) (pair : Fin 3)
  /-- 4 predicted edge intervals pass without an edge, and the tracker enters DEAD_RECKONING or
  STANDSTILL. (R49) -/
  | edgeOverdue (t : Nat)
  /-- The dead-reckoned travel exceeds coast_limit_um; the tracker enters LOST, X freezes and
  unfired items close UNMARKED_FAULT. (R51) -/
  | coastLimitExceeded (t : Nat)
  /-- X reaches the tick position of a plane line; that line's fire is resolved and the next line
  is fetched. (R62) -/
  | lineTick (t : Nat) (plane : Fin 4) (struck : Bool)
  /-- A qualified product-detect edge on TRIGn is stamped, then accepted or rejected for its lane.
  (R68) -/
  | triggerEdge (t : Nat) (n : Fin 8) (rising : Bool)
  /-- A qualified mark edge acts as a trigger, or pairs with an item and corrects lane_correction.
  (R76) -/
  | lubberMark (t : Nat) (m : Fin 4) (rising : Bool)
  /-- An item passes X_e + mark_window_um without a mark and is counted in marks_missing. (R77) -/
  | markMissing (t : Nat) (m : Fin 4) (q : Nat)
  /-- X reaches an item's camera position, and CAM_TRIG[c] is pulsed, or the pulse is skipped
  under R79. (R78) -/
  | cameraTrigger (t : Nat) (c : Fin 4) (q : Nat)
  /-- X reaches a test bar's camera position, and CAM_TRIG[c] is pulsed for the bar. (R458) -/
  | barCameraTrigger (t : Nat) (c plane : Fin 4)
  /-- A camera trigger pulse ends after cam_pulse_us. (R78) -/
  | camPulseEnd (t : Nat) (c : Fin 4)
  /-- X reaches an item's reject decision point, and REJ_GATE decides whether to pulse. (R226) -/
  | rejectDecision (t : Nat) (g : Fin 4) (q : Nat)
  /-- A reject pulse ends after rej_pulse_ms, or after the extension of a merged pulse. (R227) -/
  | rejPulseEnd (t : Nat) (g : Fin 4)
  /-- Every enabled reason has been clear for speed_adv_hold_ms and SPEED_ADV negates. (R67) -/
  | speedAdvHoldExpiry (t : Nat)
  /-- 1 ms passes without a data-late line or scan miss and the DATA_LATE reason clears. (R67) -/
  | dataLateReasonExpiry (t : Nat)
  /-- A PLL's lock has held for 50 µs, and its outputs are enabled again glitch-free. (R114) -/
  | pllLockAcquired (t : Nat) (p : Fin 4)
  /-- A glide reaches its target, and the target write is acknowledged. (R112) -/
  | pllGlideDone (t : Nat) (p : Fin 4)
  /-- A PLL loses lock, which leads to HOLDOVER and the safe state, or to gated pixel clocks for
  PLL_PIX. (R109) -/
  | pllLockLoss (t : Nat) (p : Fin 4)
  /-- A monitor window finds an output more than 1 % off its expected frequency. (R108) -/
  | clockRangeFault (t : Nat) (out : Fin 32)
  /-- The crystal stops or runs out of range, and the Fault Collector and Power Supervisor switch
  to the internal oscillator. (R108) -/
  | crystalFault (t : Nat) (absent : Bool)
  /-- A port loses link or LOS asserts; the loss is counted and pushed, and traffic goes on the
  other port. (R158) -/
  | netLinkDown (t : Nat) (port : Fin 3) (los : Bool)
  /-- A port's link comes up. (R120) -/
  | netLinkUp (t : Nat) (port : Fin 3)
  /-- An SFP+ module is inserted; its identity is read and its transmitter enabled. (R120) -/
  | sfpModuleInserted (t : Nat) (port : Fin 2) (ident : List Byte)
  /-- An SFP+ module is removed, and its transmitter is disabled. (R120) -/
  | sfpModuleRemoved (t : Nat) (port : Fin 2)
  /-- A received PAUSE frame is counted and discarded. (R119) -/
  | pauseFrame (t : Nat) (port : Fin 3)
  /-- A PTP event message is timestamped in hardware and steers the PTP clock. (R123) -/
  | ptpEventMessage (t : Nat) (port : Fin 3) (kind : PtpKind) (domain seqId : Nat)
      (origin corr rx : Int)
  /-- 3 sync intervals pass without valid sync; the clock goes to HOLDOVER and may change port.
  (R125) -/
  | ptpSyncTimeout (t : Nat) (port : Fin 3)
  /-- A KLP packet arrives; it is accepted or discarded, and its ack, sack and credit fields are
  taken. (R132) -/
  | klpPacket (t : Nat) (port : Fin 3) (addr : Nat) (data : List Byte)
  /-- An unacknowledged packet's retransmission timeout expires; the packet is resent, or the
  session ends at the limit. (R135) -/
  | retransmitTimeout (t : Nat) (se : Fin 8) (seq : Nat)
  /-- The 20 µs acknowledgement delay after delivery expires, and an ack is sent. (R134) -/
  | ackDue (t : Nat) (se : Fin 8)
  /-- A rise in a credit limit not yet reported reaches 100 µs, and a NOSEQ update is sent. (R138) -/
  | creditUpdateDue (t : Nat) (se : Fin 8)
  /-- Nothing has been sent for a quarter of the session timeout, and a NOSEQ packet is sent.
  (R145) -/
  | keepaliveDue (t : Nat) (se : Fin 8)
  /-- Nothing valid is received for klp_session_timeout_ms, and the session ends. (R145) -/
  | sessionTimeout (t : Nat) (se : Fin 8)
  /-- A NOSEQ NOP serves only as acknowledgement, credit update and keepalive. (R129) -/
  | nop (t : Nat) (se : Fin 8) (port : Fin 3) (addr epoch ack sack limit cls : Nat)
  /-- An OPEN opens or restarts a session after its credential is checked, and is answered with
  OPEN_ACK. (R143) -/
  | open (t : Nat) (port : Fin 3) (addr : Nat) (o : OpenReq)
  /-- A delivered CLOSE ends the session and releases its role, subscriptions and windows. (R145) -/
  | close (t : Nat) (se : Fin 8) (req : Nat)
  /-- A READ of up to 64 objects is answered with READ_RESP. (R164) -/
  | read (t : Nat) (se : Fin 8) (req : Nat) (objs : List (Nat × Nat))
  /-- A WRITE of one object is checked, applied by its Applies value, logged, and answered with
  WRITE_RESP. (R165) -/
  | write (t : Nat) (se : Fin 8) (req : Nat) (e : WEntry)
  /-- An atomic multi-object write is checked whole and applied, then answered with BATCH_RESP.
  (R178) -/
  | batch (t : Nat) (se : Fin 8) (req : Nat) (es : List WEntry)
  /-- An item record is checked and appended to its lane queue, then answered with ITEM_STATUS.
  (R209) -/
  | itemPut (t : Nat) (se : Fin 8) (data : List Byte)
  /-- A bulk window for a target is opened, or rejected with BUSY. (R151) -/
  | bulkOpen (t : Nat) (se : Fin 8) (req : Nat) (window dir kind target length crc : Nat)
  /-- Data is written into an open write window at its offset. (R150) -/
  | bulkWrite (t : Nat) (se : Fin 8) (window offset : Nat) (data : List Byte)
  /-- A complete write window with matching CRC is handed to its owning block. (R150) -/
  | bulkCommit (t : Nat) (se : Fin 8) (req : Nat) (window : Nat)
  /-- An open window is discarded. (R149) -/
  | bulkAbort (t : Nat) (se : Fin 8) (req : Nat) (window : Nat)
  /-- A read window sends its next BULK_DATA as client BULK credits allow, ending with BULK_RESP.
  (R151) -/
  | bulkDataSend (t : Nat) (se : Fin 8) (window : Fin 4)
  /-- SUBSCRIBE of kind 16#00 sets the session's 256-bit event mask. (R154) -/
  | subscribeEvents (t : Nat) (se : Fin 8) (req : Nat) (mask : Nat)
  /-- SUBSCRIBE of kind 16#01 sets or deletes a cyclic subscription. (R155) -/
  | subscribeCyclic (t : Nat) (se : Fin 8) (req : Nat) (slot periodUs : Nat)
      (objs : List (Nat × Nat))
  /-- Queued events are sent in an EVENT message once EVENT credit is available. (R154) -/
  | eventSend (t : Nat) (se : Fin 8)
  /-- A cyclic subscription's period expires; the objects are sampled and a CYCLIC message is sent
  or the cycle skipped. (R155) -/
  | cyclicPeriod (t : Nat) (se : Fin 8) (slot : Fin 8)
  /-- The 60 s OPEN lockout of an IP address ends. (R171) -/
  | authLockoutExpiry (t : Nat) (addr : Nat)
  /-- A pending standby value takes effect when its owning block stops, and is logged as APPLIED.
  (R13) -/
  | pendingValueApplied (t : Nat) (idx sub : Nat)
  /-- The 100 ms timer, or 32 unflushed records, starts a flush of the RAM ring to flash. (R185) -/
  | changeLogFlush (t : Nat)
  /-- A ring flush completes, and any write waiting for it is accepted in change-number order.
  (R185) -/
  | changeLogFlushDone (t : Nat)
  /-- A write of change_log_release frees records up to the given number and is logged as RELEASE.
  (R188) -/
  | changeLogRelease (t : Nat) (se : Fin 8) (req : Nat) (n : Nat)
  /-- A write of self_role lowers the session's role for requests delivered after it. (R172) -/
  | selfRole (t : Nat) (se : Fin 8) (req : Nat) (role : Nat)
  /-- A write of reset_request starts the reset sequence after WRITE_RESP. (R198) -/
  | resetRequest (t : Nat) (se : Fin 8) (req : Nat) (v : Bool)
  /-- 2 ms after T_R, the reset takes effect whether or not the stop section is programmed. (R665) -/
  | resetDeadline (t : Nat)
  /-- A write of lane_flush discards every queued record of the lane. (R210) -/
  | laneFlush (t : Nat) (se : Fin 8) (req : Nat) (lane : Fin 8) (v : Bool)
  /-- A write of next_record_set sets next_record and the consumed mark while the queue is empty.
  (R208) -/
  | nextRecordSet (t : Nat) (se : Fin 8) (req : Nat) (lane : Fin 8) (n : Nat)
  /-- A write of ledger_reset zeroes the lane's counts in one instant, keeping in_flight. (R225) -/
  | ledgerReset (t : Nat) (se : Fin 8) (req : Nat) (lane : Fin 8) (v : Bool)
  /-- An item still PENDING verdict_timeout_ms after its close is given NOT_SEEN. (R222) -/
  | verdictTimeout (t : Nat) (q : Nat)
  /-- A write of mould_delete removes the current version of a mould. (R237) -/
  | mouldDelete (t : Nat) (se : Fin 8) (req : Nat) (n : Nat)
  /-- A write of glyph_set_delete removes the current version of a glyph set. (R237) -/
  | glyphSetDelete (t : Nat) (se : Fin 8) (req : Nat) (n : Nat)
  /-- A write of counter_value sets the counter, clears counter_exhausted and makes its validity
  EXACT. (R250) -/
  | counterValueWrite (t : Nat) (se : Fin 8) (req : Nat) (c : Fin 64) (n : Nat)
  /-- A Symbol Generator engine finishes a symbol, and takes the next one waiting. (R266) -/
  | symbolEncoded (t : Nat) (engine : Fin 2)
  /-- The Compositor completes a line of a ring and advances its couch_frontier. (R274) -/
  | lineCouched (t : Nat) (ring : Fin 6) (bad : Option (Fin 8))
  /-- A write of look_ahead_min_clear sets look_ahead_min to the current look-ahead. (R283) -/
  | lookAheadMinClear (t : Nat) (se : Fin 8) (req : Nat) (ring : Fin 6) (v : Bool)
  /-- A DOORBELL write to a Q2 or Q3 queue submits descriptors to the instance. (R292) -/
  | codecDoorbell (t : Nat) (inst : Fin 4) (q : Fin 2) (v : Nat)
  /-- CONTROL bit 0 enables or disables a Codec queue. (R292) -/
  | codecQueueEnable (t : Nat) (inst : Fin 4) (q : Fin 2) (enable : Bool)
  /-- CONTROL bit 1 aborts the running job and every pending descriptor of a queue. (R313) -/
  | codecAbort (t : Nat) (inst : Fin 4) (q : Fin 2) (steps : Nat)
  /-- A Codec job stops at its end, for space, for input or on an error, and its completion record
  is written. (R309) -/
  | codecJobEnd (t : Nat) (inst q : Fin 4) (item : Nat) (plane : Fin 4) (susp : Nat)
      (ecc : Option Nat)
  /-- A Codec access without a response within 16 384 cycles ends its job with BUS_ERROR. (R314) -/
  | codecBusTimeout (t : Nat) (inst : Fin 4) (steps : Nat)
  /-- A write of counts_reset zeroes a Codec instance's counts and sets them EXACT. (R317) -/
  | codecCountsReset (t : Nat) (se : Fin 8) (req : Nat) (inst : Fin 4) (v : Bool)
  /-- SCRUB finishes initialising every Couch Store word after PD_COUCH comes on. (R329) -/
  | couchInitDone (t : Nat)
  /-- SCRUB writes back a word corrected for a single-bit error. (R327) -/
  | couchScrubWriteback (t : Nat) (offset requester : Nat)
  /-- Boot training of every DRAM channel completes or fails. (R337) -/
  | dramTrainingDone (t : Nat) (good : Bool) (density : Fin 3)
  /-- The 100 ms oscillator read triggers a write-timing retrain without blocking traffic. (R337) -/
  | dramRetrain (t : Nat)
  /-- A per-bank refresh falls due at the MR4 interval. (R338) -/
  | dramRefresh (t : Nat) (postponed : Nat)
  /-- Every refresh_temp_poll_ms MR4 is read on each device and the refresh rate is updated.
  (R338) -/
  | mr4Poll (t : Nat) (codes : List Nat)
  /-- The patrol scrubber reads the next DRAM code word and rewrites any it corrects. (R341) -/
  | patrolScrub (t : Nat) (corrected last : Bool)
  /-- An uncorrectable DRAM error freezes the controller, captures the snapshot and closes items
  not fully couched. (R342) -/
  | dramFrozen (t : Nat) (f : FreezeInfo)
  /-- A write of freeze_clear clears the DRAM freeze snapshot. (R352) -/
  | freezeClear (t : Nat) (se : Fin 8) (req : Nat) (v : Bool)
  /-- DOORBELL 16#1 starts a chain at HEAD with fresh counts and budget. (R360) -/
  | dmaStart (t : Nat) (ch : Fin 16)
  /-- DOORBELL 16#2 continues a stopped chain at CUR_DESC from BYTES_DONE. (R360) -/
  | dmaResume (t : Nat) (ch : Fin 16)
  /-- CONTROL bit 0 stops the channel after its current burst. (R363) -/
  | dmaStopRequest (t : Nat) (ch : Fin 16)
  /-- A read of STATUS latches a consistent snapshot of the channel counts. (R359) -/
  | dmaStatusRead (t : Nat) (ch : Fin 16) (core : Fin 2) (cur bytes total descs : Nat)
  /-- A chain ends as DONE, STOPPED, CHAIN_BUDGET or on an error once its outstanding writes are
  answered. (R358) -/
  | dmaChainEnd (t : Nat) (ch : Fin 16) (cut : Option Nat) (ecc : Bool)
  /-- An access unanswered for 16 384 cycles stops new accesses on every channel and starts the
  drain. (R366) -/
  | dmaBusTimeout (t : Nat) (ch : Fin 16) (addr : Nat)
  /-- The drain completes or times out; running chains end BUS_STOPPED and bus_error_active is
  set. (R366) -/
  | dmaDrainEnd (t : Nat) (done : List Nat)
  /-- A write of bus_error_clear clears the engine-wide bus error. (R367) -/
  | busErrorClear (t : Nat) (se : Fin 8) (req : Nat) (v : Bool)
  /-- A write of counts_reset zeroes a DMA channel's counts and sets them EXACT. (R374) -/
  | dmaCountsReset (t : Nat) (se : Fin 8) (req : Nat) (ch : Fin 16) (v : Bool)
  /-- A write to a register with no row of its own is stored, or ignored and counted while the
  channel is busy. (R359) -/
  | registerWrite (t : Nat) (r : RegWrite)
  /-- A STATUS back frame is received and the link's counts are checked against it. (R399) -/
  | backStatus (t : Nat) (link : Fin 48) (st : HeadStatus)
  /-- A REJECT back frame moves the named blocks' drops from fired to suppressed. (R398) -/
  | backReject (t : Nat) (link : Fin 48) (line cause blocks : Nat)
  /-- An IDENTITY back frame delivers part of the identity block, and a complete block is accepted
  or refused. (R403) -/
  | backIdentity (t : Nat) (link : Fin 48) (offset : Nat) (data : List Byte)
  /-- An ACK back frame confirms or refuses a WAVE_WRITE or TRIM_WRITE. (R396) -/
  | backAck (t : Nat) (link : Fin 48) (seq : Nat) (applied : Bool)
  /-- A back frame with a bad CRC, code or type is discarded and counted. (R388) -/
  | backFrameBad (t : Nat) (link : Fin 48)
  /-- No valid STATUS arrives for 500 µs and the link's channels go to LINK_DOWN. (R400) -/
  | backChannelSilent (t : Nat) (link : Fin 48)
  /-- The identity block is incomplete 10 ms after IDENTIFY and the link goes INCOMPATIBLE. (R415) -/
  | identifyTimeout (t : Nat) (link : Fin 48)
  /-- A slot or trim write unacknowledged 10 ms after its EOF puts the link INCOMPATIBLE. (R415) -/
  | loadWriteTimeout (t : Nat) (link : Fin 48)
  /-- A gate input qualifies closed and holds the lines resolved after it on its targets. (R419) -/
  | gateClosed (t : Nat) (g : Fin 10)
  /-- A gate input qualifies open and releases the next resolved line. (R420) -/
  | gateOpened (t : Nat) (g : Fin 10)
  /-- A waveform slot write is accepted and sent by WAVE_WRITE to every link of the plane. (R411) -/
  | waveSlotWrite (t : Nat) (se : Fin 8) (req : Nat) (slot : Fin 64) (data : List Byte)
  /-- After at most 64 lines, a channel adds its accumulated counts into the counter table. (R427) -/
  | dropCountAccumulate (t : Nat) (ch : Fin 192)
  /-- Every 1 s the counter table is written to the drop-counter flash area. (R428) -/
  | dropCheckpoint (t : Nat) (complete : Bool)
  /-- A write of counts_reset zeroes a firing channel's totals and nozzle counters. (R428) -/
  | dropCountsReset (t : Nat) (se : Fin 8) (req : Nat) (ch : Fin 192) (v : Bool)
  /-- The Inspection Unit finishes an INSP frame and records the camera result for its item.
  (R450) -/
  | inspectionComplete (t : Nat) (c : Fin 4) (frame : Nat) (f : ItemFinding)
  /-- A bar frame is evaluated and each nozzle is classified. (R459) -/
  | barEvaluated (t : Nat) (c : Fin 4) (frame : Nat) (ds : List DashFinding)
  /-- A staging's entries and trims are written and its groups may switch. (R471) -/
  | stagingComplete (t : Nat) (plane : Fin 4)
  /-- Within 1 s of a switch, the map halves in force are written to flash with the head serials.
  (R473) -/
  | mapSaved (t : Nat) (plane : Fin 4)
  /-- A write of map_entry_write stages one compensation-map entry. (R474) -/
  | mapEntryWrite (t : Nat) (se : Fin 8) (req : Nat) (n : Nat)
  /-- A write of map_reset_learned stages the preload entries for every learned, unlocked entry of
  a plane. (R474) -/
  | mapResetLearned (t : Nat) (se : Fin 8) (req : Nat) (n : Nat)
  /-- A Frame Start packet pairs with a pending trigger, or begins an unsolicited frame. (R493) -/
  | csiFrameStart (t : Nat) (c : Fin 4) (vc num : Nat) (ecc : Fin 3)
  /-- A line of pixel data is received, checked and passed through the pipe into the streams.
  (R517) -/
  | csiLongPacket (t : Nat) (c : Fin 4) (vc dt : Nat) (data : List Byte) (ecc : Fin 3)
      (crcOk full : Bool)
  /-- A Frame End completes the frame's streams and may open a sensor window. (R517) -/
  | csiFrameEnd (t : Nat) (c : Fin 4) (vc : Nat) (ecc : Fin 3)
  /-- frame_max_us passes without a Frame End and the frame is ended by force. (R517) -/
  | frameForcedEnd (t : Nat) (c : Fin 4)
  /-- A pending trigger's window closes without a Frame Start, and the trigger is lost. (R493) -/
  | camTriggerLost (t : Nat) (c : Fin 4)
  /-- The last sensor write is acknowledged, the settings set is armed and the response is sent.
  (R500) -/
  | settingsSetArmed (t : Nat) (c : Fin 4)
  /-- No sensor window occurs within 100 ms and the list is sent in the first interval with no
  frame pending. (R501) -/
  | sensorWindowTimeout (t : Nat) (c : Fin 4)
  /-- A sensor write is NACKed; the write fails BUSY and the sensor becomes DIVERGED. (R502) -/
  | i2cNack (t : Nat) (c : Fin 4)
  /-- Clock stretching exceeds 10 ms and is handled as a failed sensor write. (R502) -/
  | i2cStretchTimeout (t : Nat) (c : Fin 4)
  /-- A write of i2c_read_reg reads that sensor register at once. (R521) -/
  | i2cReadReg (t : Nat) (se : Fin 8) (req : Nat) (c : Fin 4) (reg answer : Nat)
  /-- 1 ms after a port is enabled, CAM_RST_N is driven high. (R490) -/
  | camResetRelease (t : Nat) (c : Fin 4)
  /-- A qualified beam-detect edge restarts the pixel counter and selects and fetches the line for
  the next facet. (R534) -/
  | bdEdge (t : Nat) (unit : Fin 2) (rising half : Bool)
  /-- No BD edge arrives within 1.5 mean intervals and polygon lock is lost. (R532) -/
  | bdTimeout (t : Nat) (unit : Fin 2)
  /-- LASER_ILK_N goes low and LASER_EN and LASER_GATE are held low by hardware within 50 ns.
  (R528) -/
  | laserIlkLow (t : Nat) (unit : Fin 2)
  /-- A write of counts_reset zeroes a Beam Engine unit's pixel counts. (R548) -/
  | beamCountsReset (t : Nat) (se : Fin 8) (req : Nat) (unit : Fin 2) (v : Bool)
  /-- A PWM period begins; new duties load and a current sample window closes. (R551) -/
  | pwmPeriodBoundary (t : Nat) (a : Fin 6) (iu iv iw : Int) (bus : Nat)
  /-- The FOC engine runs one axis step: transform, observer, controllers, limit and modulation.
  (R556) -/
  | focStep (t : Nat) (a : Fin 6) (e : FocEstimate)
  /-- AXn_DRV_FLT_N is low for 2 cycles, and all gate commands go low and the axis faults. (R553) -/
  | driverFault (t : Nat) (a : Fin 6)
  /-- The 16 probes end and the axis starts, catches or brakes. (R563) -/
  | sensingComplete (t : Nat) (a : Fin 6) (still : Bool) (e : FocEstimate)
  /-- An abnormal Ke estimate held for 100 ms starts braking with a fault pending. (R560) -/
  | keAbnormal (t : Nat) (a : Fin 6)
  /-- The speed has stayed below stop_speed_percent for brake_hold_ms, and the axis starts or
  faults. (R565) -/
  | brakeHoldDone (t : Nat) (a : Fin 6)
  /-- Braking has not ended after brake_timeout_ms and the axis faults. (R565) -/
  | brakeTimeout (t : Nat) (a : Fin 6)
  /-- A start has not handed over within start_timeout_ms and the axis faults START_FAILED. (R568) -/
  | startTimeout (t : Nat) (a : Fin 6)
  /-- recatch_delay_ms after an observer loss, the coasting axis enters SENSING. (R569) -/
  | recatchDelayExpiry (t : Nat) (a : Fin 6)
  /-- A write of axis_enable starts sensing, or stops or disables the axis. (R576) -/
  | axisEnable (t : Nat) (se : Fin 8) (req : Nat) (a : Fin 6) (v : Bool)
  /-- A loop's sample tick takes pv, computes the filter output and writes its target. (R585) -/
  | loopSampleTick (t : Nat) (l : Fin 32) (pvCode spCode : Nat) (missed : Bool)
      (latency wait : Nat)
  /-- A write of loop_enable initialises the histories and starts or stops the loop. (R588) -/
  | loopEnable (t : Nat) (se : Fin 8) (req : Nat) (l : Fin 32) (v : Bool)
  /-- Every 1 ms each enabled AIN input and unpromoted TS channel is sampled. (R593) -/
  | slowAdcRound (t : Nat) (ain : List (Nat × Nat)) (ts : List (Nat × TsReading)) (late : Bool)
  /-- Every 50 µs each promoted TS channel is sampled. (R593) -/
  | fastAdcRound (t : Nat) (ts : List (Nat × TsReading)) (late : Bool)
  /-- Every 50 µs each die sensor is sampled. (R594) -/
  | tdSample (t : Nat) (n : Fin 8) (temp : Int) (err : Bool)
  /-- A qualified rising edge on PULSE_IN updates its frequency and duty. (R584) -/
  | pulseInEdge (t : Nat) (n : Fin 4) (high : Nat)
  /-- No edge arrives for pulse_timeout_ms, the value becomes 0 and the timeout bit is set. (R584) -/
  | pulseTimeout (t : Nat) (n : Fin 4)
  /-- A rising edge on MET_PDi starts a weighing, or is counted as ignored. (R620) -/
  | metPdEdge (t : Nat) (cell : Fin 2)
  /-- The weighing window ends, and the result is computed and sent on the sealed channel. (R620) -/
  | weighingWindowEnd (t : Nat) (cell : Fin 2) (n : Nat) (sum least greatest : Int)
  /-- The channel verifier checks a sealed record's tag and buffers or rejects it. (R630) -/
  | sealedRecord (t : Nat) (data : List Byte)
  /-- MET_SEAL_N has been high for 10 ms; the island becomes UNSEALED and event_counter rises.
  (R623) -/
  | sealOpened (t : Nat)
  /-- MET_SEAL_N has been low for 10 ms; the island becomes SEALED, sets zero and seal_epoch
  rises. (R623) -/
  | sealClosed (t : Nat)
  /-- A write of zero_request sets the zero of a stable, unloaded cell. (R621) -/
  | zeroRequest (t : Nat) (se : Fin 8) (req : Nat) (v : Bool)
  /-- A gross weight within ±0.5e of zero for 1 s is moved to zero. (R621) -/
  | zeroTracking (t : Nat) (cell : Fin 2) (mean : Int)
  /-- The island's image check and self-test finish and it enters SEALED, UNSEALED or FAULTED.
  (R628) -/
  | islandBootComplete (t : Nat) (imageOk selfTestOk : Bool)
  /-- A load-cell modulator is silent for 1 ms and the island enters FAULTED. (R628) -/
  | modulatorSilent (t : Nat) (cell : Fin 2)
  /-- The island watchdog expires and the island enters FAULTED. (R628) -/
  | islandWatchdog (t : Nat)
  /-- WAKE_N held low for 10 ms in STANDBY or OFF_WAIT makes an on request. (R644) -/
  | wakeOnRequest (t : Nat) (mv : Nat)
  /-- WAKE_N held low for wake_off_hold_ms in ON makes an off request. (R644) -/
  | wakeOffRequest (t : Nat)
  /-- A write of power_off_request makes an off request. (R644) -/
  | powerOffRequest (t : Nat) (se : Fin 8) (req : Nat) (v : Bool)
  /-- seq_on_delay_us after its step begins, a channel's SEQ_EN goes high. (R647) -/
  | seqEnableDelayExpiry (t : Nat) (c : Fin 16)
  /-- A channel has stayed in its window for seq_settle_us, which may complete its step. (R647) -/
  | seqChannelSettled (t : Nat) (c : Fin 16) (mv : Nat)
  /-- A channel misses its window within seq_up_timeout_ms and the rails come down with a fault.
  (R647) -/
  | seqUpTimeout (t : Nat) (c : Fin 16)
  /-- seq_off_delay_us after a step's turn begins, a channel's SEQ_EN goes low. (R648) -/
  | seqDisableDelayExpiry (t : Nat) (c : Fin 16)
  /-- Every monitor of a step falls below seq_off_level_mv, and the next step comes down. (R648) -/
  | seqChannelDown (t : Nat) (c : Fin 16) (mv : Nat)
  /-- A step is not down after seq_down_timeout_ms; the fault is counted and the sequence goes on.
  (R648) -/
  | seqDownTimeout (t : Nat)
  /-- A channel lies outside its window for longer than seq_glitch_us in ON, which is a rail
  fault. (R649) -/
  | seqWindowLost (t : Nat) (c : Fin 16) (mv main : Nat)
  /-- A write of seq_fault_clear in SERVICE clears the latch and brings the service rails down.
  (R646) -/
  | seqFaultClear (t : Nat) (se : Fin 8) (req : Nat) (v : Bool)
  /-- power_min_off_ms passes in OFF_WAIT and the device goes to SERVICE, POWERING_UP or STANDBY.
  (R646) -/
  | minOffTimeExpiry (t : Nat) (mv : Nat)
  /-- Every 100 µs a margin moves 0.1 % towards its target. (R653) -/
  | marginRampStep (t : Nat) (m : Fin 8)
  /-- The main input stays below sup_warn_mv for the filter time, and the hold-up sequence starts.
  (R655) -/
  | supplyWarning (t : Nat) (mv : Nat)
  /-- At T_S the device enters the safe state and gives in-flight items the power cause. (R656) -/
  | powerStop (t : Nat) (mv : Nat)
  /-- The warning clears before T_S; the RECOVERED stop section is written and the dip is counted.
  (R657) -/
  | supplyWarningCleared (t : Nat) (mv : Nat)
  /-- The main input rises from below 5 V; latches are cleared and the device enters STANDBY.
  (R658) -/
  | mainSupplyPowerOn (t : Nat) (mv : Nat) (aonLost : Bool)
  /-- Pending state-journal entries are programmed, at least every 250 µs. (R660) -/
  | journalProgram (t : Nat)
  /-- Every 1 s a state checkpoint of counts, counters, marks and slots is written. (R660) -/
  | stateCheckpoint (t : Nat)
  /-- The journal entries pending at T_W are programmed. (R661) -/
  | holdupJournalProgrammed (t : Nat)
  /-- The hold-up record body is programmed. (R661) -/
  | holdupBodyProgrammed (t : Nat)
  /-- The stop section is programmed and SEQ_EN is released, or the reset takes effect. (R661) -/
  | holdupStopProgrammed (t : Nat)
  /-- A hold-up sector whose records are all older than the newest is erased. (R663) -/
  | holdupSectorErased (t : Nat)
  /-- A fault source's pattern holds ACTIVE or PAIR_ERROR for 2 samples, and its actions are
  taken. (R677) -/
  | faultSourceActive (t : Nat) (n : Fin 256) (pair : Bool)
  /-- A fault source returns to INACTIVE, and its group's quiet period may start. (R679) -/
  | faultSourceInactive (t : Nat) (n : Fin 256)
  /-- The 10 µs FAULT_N pulse ends and the pin follows fault_n_mode. (R680) -/
  | faultNPulseEnd (t : Nat)
  /-- A write of fault_clear clears the sticky bit of an inactive source. (R679) -/
  | faultClear (t : Nat) (se : Fin 8) (req : Nat) (n : Nat)
  /-- A write of fault_inject inverts a source's check line to test it. (R681) -/
  | faultInject (t : Nat) (se : Fin 8) (req : Nat) (n : Nat) (seen : Bool)
  /-- The collector injects the next source in its self-test cycle. (R682) -/
  | faultSelfTestTurn (t : Nat) (seen : Bool)
  /-- A write of action_write sets a source's action set, keeping fixed actions. (R678) -/
  | actionWrite (t : Nat) (se : Fin 8) (req : Nat) (n : Nat)
  /-- A register mismatch in the collector enters the safe state at once. (R683) -/
  | collectorSelfFault (t : Nat)
  /-- A group's sources stay inactive for quiet_period_ms; sticky bits clear and the safe state
  may be left. (R684) -/
  | groupRecovered (t : Nat) (g : Fin 8)
  /-- A write of recovery_count_reset sets a group's recovery_count to 0. (R684) -/
  | recoveryCountReset (t : Nat) (se : Fin 8) (req : Nat) (g : Fin 8) (v : Bool)
  /-- A write of safe_state_exit leaves the safe state when every exit condition holds. (R687) -/
  | safeStateExit (t : Nat) (se : Fin 8) (req : Nat) (v : Bool)
  /-- Every 10 µs the device sends a heartbeat on both Mirror Link lanes. (R692) -/
  | heartbeatSend (t : Nat)
  /-- A valid heartbeat from the partner updates pair state and health. (R691) -/
  | heartbeatReceived (t : Nat) (h : Heartbeat)
  /-- The standby applies a mirror frame of the mirrored data set. (R693) -/
  | mirrorFrameReceived (t : Nat) (m : MirrorMsg) (lag : Nat)
  /-- A RELINQUISH makes a ready standby start a takeover. (R696) -/
  | relinquishReceived (t : Nat) (h : Heartbeat)
  /-- No valid heartbeat arrives for pair_loss_us; the standby starts a takeover or returns to
  SEEKING. (R696) -/
  | partnerLossTimeout (t : Nat)
  /-- At T_A the new active advances pair_epoch, applies gap dispositions and fires. (R697) -/
  | takeoverComplete (t : Nat)
  /-- PAIR_FENCE_IN_N low makes the shared outputs high-impedance and the device FENCED. (R689) -/
  | pairFenceInLow (t : Nat)
  /-- PAIR_FENCE_IN_N returns high and a fenced device may resume SEEKING. (R691) -/
  | pairFenceInHigh (t : Nat)
  /-- pair_seek_ms passes without a heartbeat and with PAIR_PEER_ACT low; the device becomes
  ACTIVE_ALONE. (R691) -/
  | pairSeekTimeout (t : Nat)
  /-- The mirrored data set is complete and health is ready; the device enters STANDBY. (R691) -/
  | syncComplete (t : Nat)
  /-- A write of pair_switchover_request makes the active send RELINQUISH and fence. (R691) -/
  | pairSwitchoverRequest (t : Nat) (se : Fin 8) (req : Nat) (v : Bool)
  /-- A management core's watchdog expires, which raises source 16#E0 and starts the reset
  sequence. (R713) -/
  | watchdogExpiry (t : Nat) (core : Fin 2)
  /-- Erasing and programming of the target slot completes; it is marked PENDING and BULK_RESP is
  sent. (R724) -/
  | firmwareImageWritten (t : Nat) (good : Bool)
  /-- A write of update_confirm confirms the running PENDING slot and raises the rollback counter.
  (R723) -/
  | updateConfirm (t : Nat) (se : Fin 8) (req : Nat) (v : Bool)
  /-- update_auto_confirm_s of uninterrupted running in ON confirms the running slot. (R723) -/
  | autoConfirmExpiry (t : Nat)
  /-- A write of update_activate starts the reset sequence that boots the trial slot. (R725) -/
  | updateActivate (t : Nat) (se : Fin 8) (req : Nat) (v : Bool)
  /-- A write of integ_run starts the integrator core by loading its image, or resets it. (R732) -/
  | integRun (t : Nat) (se : Fin 8) (req : Nat) (v : Bool)
  /-- The service call OD_READ reads objects with integ_role. (R730) -/
  | odRead (t : Nat) (req : Nat) (objs : List (Nat × Nat))
  /-- The service call OD_WRITE writes an object with integ_role, logged with origin Integrator
  core. (R730) -/
  | odWrite (t : Nat) (req : Nat) (e : WEntry)
  /-- The service call DECLARE declares an integrator object of 16#8000 to 16#FFFF. (R730) -/
  | declare (t : Nat) (req : Nat) (d : DeclareMsg)
  /-- The service call EVENT_PUSH pushes an integrator event. (R730) -/
  | eventPush (t : Nat) (req code : Nat) (data : List Byte)
  /-- A read of SC_RESP clears the response-ready bit. (R729) -/
  | scRespRead (t : Nat)
  /-- SERVE_DOORBELL sends the integrator's reply to a served object access. (R731) -/
  | serveDoorbell (t : Nat) (resp : List Byte)
  /-- A served access without a reply in integ_serve_timeout_ms is answered BUSY. (R731) -/
  | serveTimeout (t : Nat)
  /-- A write of 16#5A5A to WDT_KICK restarts the integrator watchdog. (R732) -/
  | wdtKick (t : Nat) (v : Nat)
  /-- No kick for integ_watchdog_ms resets the integrator core into FAULTED. (R732) -/
  | integWatchdogExpiry (t : Nat)
  /-- integ_restart_delay_ms after a watchdog fault, the core restarts while integ_auto_restart is
  set. (R732) -/
  | integRestartDelayExpiry (t : Nat)
  /-- TIME_NOW reaches TIMER_CMP and the integrator timer interrupt asserts. (R729) -/
  | integTimerInterrupt (t : Nat)
  /-- The flash program that makes a durable write's value and Change Log record durable
  completes, and the held WRITE_RESP or BATCH_RESP is sent. (R176) -/
  | flashProgramComplete (t : Nat)
  /-- Loading and checking of the integrator image ends, and the core leaves LOADING for RUNNING
  or FAULTED. (R732) -/
  | integImageLoaded (t : Nat)
  /-- The PD_METRO supply faults, and the island enters FAULTED with reason SUPPLY. (R628) -/
  | pdMetroSupplyFault (t : Nat)
  /-- A Mirror Link lane loses block lock, which sets health bit MIRROR_LANE and makes fault
  source 16#F0 or 16#F1 active. (R703) -/
  | mirrorLaneLockLost (t : Nat) (lane : Fin 2)
  /-- A Mirror Link lane regains block lock and the lane is up again for takeover readiness.
  (R703) -/
  | mirrorLaneLockRegained (t : Nat) (lane : Fin 2)
  /-- A mirrored binding, or an own stamp, has no counterpart within 100 µs, and health bit
  TRIGGER is set. (R703) -/
  | triggerCounterpartTimeout (t : Nat)
  /-- The main input dips below sup_warn_mv for less than sup_filter_us, and the dip is counted in
  sup_glitches. (R654) -/
  | supplyGlitch (t : Nat)
  /-- The main input has stayed above sup_warn_mv + sup_hysteresis_mv for power_min_off_ms, and a
  waiting on request begins its power-up. (R644) -/
  | mainInputQualified (t : Nat) (mv : Nat)
  /-- V_HU falls below 9.0 V; the hold-up rails stop, PD_AON moves to VBAT, and a record whose
  stop section is still erased is left incomplete. (R661) -/
  | holdUpExhausted (t : Nat)
  /-- The 156.25 MHz network reference becomes absent or out of range, which changes netref_status
  and makes fault source 16#05 active. (R116) -/
  | netrefFault (t : Nat) (absent : Bool)
  /-- A PTP general message (Announce or Follow_Up) is received; it drives master selection and
  supplies the precise timestamp of a two-step master. (R122) -/
  | ptpGeneralMessage (t : Nat) (port : Fin 3) (msg : PtpGeneral)
  deriving DecidableEq, Repr

end Sys2Proof
end

