-- ==== Sys2Proof/Decode.lean ====
section
/-! DEFINITION. The command a word of the opcode table spells. The table gives bits to no row: the commands are
events, requests and register accesses with structured operands, so no word spells one. -/

namespace Sys2Proof

/-- No row of the table has bits; every word is rejected. -/
def decodeTableWord (_nbits _w : Nat) : Option Instr := none

end Sys2Proof
end

