-- ==== Sys2Proof/Config.lean ====
section
/-! DEFINITION. What an implementation fixes and the spec leaves open: opaque constants without a
body, so that a statement holds for every value they could have. `free` is applied to the counter
`State.freeCtr`; the others are functions of the data the spec says they depend on. -/

namespace Sys2Proof

/-- A fresh free number for each count (assumption log entry 3). -/
opaque Config.free : Nat → Nat

/-- The addend, in ppb, that the PTP servo chooses from the old addend and the measured offset in ns
(R122 to R124 give its accuracy, not its arithmetic). -/
opaque Config.ptpServo : Int → Int → Int

/-- The step the clock takes at a sync while it is not LOCKED, before it is held within the measured
offset (R126 bounds it and gives no more). -/
opaque Config.ptpStep : Int → Int

/-- Bytes of the DRAM staging area of bulk windows (R151 names it and gives no size). -/
opaque Config.stagingBytes : Nat

/-- Code of the event that reports a lost link (R158 names none). -/
opaque Config.netLinkEvent : Nat

/-- The vendor key placed at manufacture (R197). -/
opaque Config.vndKey : List Byte

/-- The service key provisioned at manufacture, in force while key_svc has not been written (R197). -/
opaque Config.svcKey : List Byte

/-- The metrology key held by the island (R197, R617). -/
opaque Config.metKey : List Byte

/-- The KRF tokens the encoder chooses for a line under the line above it (R303 fixes that the choice is
a function of the input and bounds its length, and gives no more). -/
opaque Config.krfLine : List Nat → List Nat → List Byte

/-- The dark modules of a matrix symbol, row by row as the list of its dark columns, that the cited
standards give for a symbology, the descriptor's parameters and the data (R262 to R264); no rows where the
data does not fit (SYMBOL_CAPACITY). -/
opaque Config.symbol : Nat → List Nat → List Byte → List (List Nat)

/-- Modules across a matrix symbol (R262 to R264). -/
opaque Config.symbolWidth : Nat → List Nat → List Byte → Nat

/-- The elements of a linear symbol, bar first and alternating, as widths in narrow elements; of ITF-14, 2
stands for a wide element (R262); empty where the data does not fit. -/
opaque Config.symbolBars : Nat → List Byte → List Nat

/-- The quiet zones of a linear symbology's standard in narrow elements, before and after the bars
(R265). -/
opaque Config.symbolQuiet : Nat → Nat × Nat

/-- The value needs an option of its standard that R262 does not support. -/
opaque Config.symbolUnsupported : Nat → List Nat → List Byte → Bool

/-- An element string passes the AI table of the GS1 release in use (R263). -/
opaque Config.gs1Valid : List Byte → Bool

/-- The channel key in the fuses of the island and of the channel verifier (R617). -/
opaque Config.channelKey : List Byte

/-- tare_mg of a load cell (R620 subtracts it; no object or command of the spec sets it). -/
opaque Config.tareMg : Nat → Int

/-- The reading in counts of a stable and unloaded load cell when the island takes it to set a zero; none
when the cell is not stable and unloaded (R621). First argument: the cell; second: the model's counter. -/
opaque Config.cellReading : Nat → Nat → Option Int

/-- The 5 by 5 edge-preserving filter of a strength from 1 to 15 on the lines of a frame (R507 names it and
gives no coefficients). -/
opaque Config.spatialNr : Nat → List (List Nat) → List (List Nat)

/-- A crop scaled bilinearly to a width and a height (R511 gives no placement of the samples). -/
opaque Config.viewScale : Nat → Nat → List (List Nat) → List (List Nat)

/-- What the JPEG-LS encoder of R304 has put out for the sample bytes read so far: bits, width, height and
samples (the standard gives the whole stream; how much of it has left the coder mid-way is the device's). -/
opaque Config.jlsEncode : Nat → Nat → Nat → List Byte → List Byte

/-- What the JPEG-LS decoder of R305 makes of the stream bytes read so far: bits, width and height of the
descriptor and the stream; sample bytes put out, stream bytes consumed, lines, and the status: 0 at the end,
2 while more is needed, 8 to 10 for an error of R298. -/
opaque Config.jlsDecode : Nat → Nat → Nat → List Byte → List Byte × Nat × Nat × Nat

/-- The bytes a codec stop leaves in a context area, by the model's number of the save (R311 gives no
layout). -/
opaque Config.codecContext : Nat → List Byte

/-- The d and q currents in mA of three phase currents at a rotor angle (R556 names the transform and gives no
arithmetic). -/
opaque Config.park : Int → Int → Int → Nat → Int × Int

/-- The q-current reference in mA, before its limits, that the PI speed controller gives for speed_kp, speed_ki,
the speed error in 10^-11 rpm, and the model's number of the step, which stands for its history (R557 gives no
discrete form). -/
opaque Config.speedPi : Int → Int → Int → Nat → Int

/-- The peak phase voltage in mV and the electrical angle that the d and q current controllers command, from
current_bw_hz, rs, ld, lq, the reference, the measured currents, the angle and the step's number (R557). -/
opaque Config.currentPi : List Int → Nat → Nat × Nat

/-- The three on-intervals in ns for an index of modulation in 0.0001, an angle and a period in ns (R558 gives
the regions and no arithmetic). -/
opaque Config.modulate : Nat → Nat → Nat → Nat × Nat × Nat

/-- The filtered roll radius in µm from the old one, the web speed in µm/s, the speed in rpm and the time since
the last step in ns (R573). -/
opaque Config.rollRadius : Nat → Int → Int → Nat → Nat

/-- The temperature in 0.1 °C of a thermistor, from its voltage in µV, its current in µA, th_r0_ohm and
th_beta (R596 gives no rounding). -/
opaque Config.thermistor : Nat → Nat → Nat → Nat → Int

/-- The temperature in 0.1 °C of a diode, from ΔV in nV, ts_series_mohm and ts_ideality (R595 gives no
rounding). -/
opaque Config.diode : Nat → Nat → Nat → Int

/-- The SHA-256 of the root public key, in fuses (R719). -/
opaque Config.rootKeyHash : List Byte

/-- An ECDSA signature over P-256 with SHA-256 verifies: public key, signature, message (R718, R719 cite the
standard). -/
opaque Config.ecdsaVerify : List Byte → List Byte → List Byte → Bool

/-- Factory values of objects whose tables give no number: serial number, ordering code, JEDEC identities of the
flash devices, name and version of the island firmware, and the release of the GS1 table (R190, R280, R634, R735), by
key. -/
opaque Config.factoryText : Nat → List Byte

/-- MAC addresses by port, and the first 8 bytes of the island image's digest (R193, R634), by key. -/
opaque Config.factoryNumber : Nat → Nat

end Sys2Proof
end

