-- ==== Sys2Proof/Machine/Bits.lean ====
section
/-! DEFINITION. Bit-field, byte-order, serial-arithmetic, checksum and digest helpers used by every
family: little-endian encoding (R4), bit numbering (R3), serial arithmetic (R760), CRC-32C (R149,
R182), SHA-256 and HMAC-SHA-256 (R169). -/

namespace Sys2Proof.Machine

/-- The byte of value `n` modulo 256. -/
def byteOf (n : Nat) : Byte := BitVec.ofNat 8 n

/-- `w` bytes of `n`, least significant first (R4). -/
def leBytes : Nat → Nat → List Byte
  | 0, _ => []
  | w + 1, n => byteOf n :: leBytes w (n / 256)

/-- The number a little-endian byte string spells (R4). -/
def leNat : List Byte → Nat
  | [] => 0
  | b :: bs => b.toNat + 256 * leNat bs

/-- Two's complement reading of the low `bits` bits of `n` (R166). -/
def signedOf (bits n : Nat) : Int :=
  let m := n % 2 ^ bits
  if m < 2 ^ (bits - 1) then (m : Int) else (m : Int) - (2 ^ bits : Nat)

/-- The `bits`-bit pattern of an integer, two's complement (R166). -/
def patternOf (bits : Nat) (i : Int) : Nat := (i % (2 ^ bits : Nat)).toNat

/-- The field [hi:lo] of a number (R3). -/
def field (n hi lo : Nat) : Nat := (n >>> lo) % 2 ^ (hi + 1 - lo)

/-- Bit `i` of a number (R3). -/
def bitAt (n i : Nat) : Bool := (n >>> i) % 2 == 1

/-- `n` with bit `i` set or cleared. -/
def withBit (n i : Nat) (b : Bool) : Nat :=
  if b then n ||| (1 <<< i) else if bitAt n i then n - (1 <<< i) else n

/-- 1 or 0 for a truth value: the encoding of BOOL (R166). -/
def b2n (b : Bool) : Nat := if b then 1 else 0

/-- The integer form of `b2n`. -/
def b2i (b : Bool) : Int := if b then 1 else 0

/-- Greater-than in serial arithmetic on `bits` bits (R760). -/
def serialGt (bits a b : Nat) : Bool :=
  let d := (a + 2 ^ bits - b % 2 ^ bits) % 2 ^ bits
  decide (1 ≤ d) && decide (d ≤ 2 ^ (bits - 1) - 1)

/-- Distance a − b modulo 2^bits. -/
def serialDist (bits a b : Nat) : Nat := (a + 2 ^ bits - b % 2 ^ bits) % 2 ^ bits

/-- Rounded-up division. -/
def ceilDiv (a b : Nat) : Nat := (a + b - 1) / b

/-- Division of integers rounded to the nearest, halves away from zero (R21, R57, and every rule that
says "rounded to the nearest"). -/
def roundDiv (a : Int) (b : Nat) : Int :=
  if b = 0 then 0
  else if 0 ≤ a then (2 * a + b) / (2 * b) else - ((2 * (-a) + b) / (2 * b))

/-- `v` held within `[lo, hi]`. -/
def clampInt (lo hi v : Int) : Int := if v < lo then lo else if hi < v then hi else v

/-- `bytes` cut or zero-padded to `n` bytes. -/
def padTo (n : Nat) (bs : List Byte) : List Byte :=
  bs.take n ++ List.replicate (n - bs.length) 0

/-- `bytes` zero-padded to a multiple of `n` (R147, R153). -/
def padMul (n : Nat) (bs : List Byte) : List Byte :=
  bs ++ List.replicate ((n - bs.length % n) % n) 0

/-- `len` bytes from offset `off`. -/
def slice (off len : Nat) (bs : List Byte) : List Byte := (bs.drop off).take len

/-- The little-endian number of `len` bytes at `off`; absent bytes read as zero. -/
def leAt (bs : List Byte) (off len : Nat) : Nat := leNat (slice off len bs)

/-- One bit step of the reflected CRC-32C register. -/
def crcBit (c : Nat) : Nat := if c % 2 = 1 then (c >>> 1) ^^^ 0x82F63B78 else c >>> 1

/-- Eight bit steps. -/
def crcByte (c : Nat) : Nat :=
  crcBit (crcBit (crcBit (crcBit (crcBit (crcBit (crcBit (crcBit c)))))))

/-- The CRC register over a byte string. -/
def crcRun : Nat → List Byte → Nat
  | c, [] => c
  | c, b :: bs => crcRun (crcByte (c ^^^ b.toNat)) bs

/-- CRC-32C (Castagnoli), as R149, R182 and R323 use it. -/
def crc32c (bs : List Byte) : Nat := crcRun 0xFFFFFFFF bs ^^^ 0xFFFFFFFF

/-- Right rotation of a 32-bit word. -/
def rotr32 (x n : Nat) : Nat := ((x >>> n) ||| (x <<< (32 - n))) % 0x100000000

/-- The round constants of SHA-256 (FIPS 180-4), first half. -/
def shaKLow : List Nat :=
  [0x428a2f98, 0x71374491, 0xb5c0fbcf, 0xe9b5dba5, 0x3956c25b, 0x59f111f1, 0x923f82a4, 0xab1c5ed5,
   0xd807aa98, 0x12835b01, 0x243185be, 0x550c7dc3, 0x72be5d74, 0x80deb1fe, 0x9bdc06a7, 0xc19bf174,
   0xe49b69c1, 0xefbe4786, 0x0fc19dc6, 0x240ca1cc, 0x2de92c6f, 0x4a7484aa, 0x5cb0a9dc, 0x76f988da,
   0x983e5152, 0xa831c66d, 0xb00327c8, 0xbf597fc7, 0xc6e00bf3, 0xd5a79147, 0x06ca6351, 0x14292967]

/-- The round constants of SHA-256, second half. -/
def shaKHigh : List Nat :=
  [0x27b70a85, 0x2e1b2138, 0x4d2c6dfc, 0x53380d13, 0x650a7354, 0x766a0abb, 0x81c2c92e, 0x92722c85,
   0xa2bfe8a1, 0xa81a664b, 0xc24b8b70, 0xc76c51a3, 0xd192e819, 0xd6990624, 0xf40e3585, 0x106aa070,
   0x19a4c116, 0x1e376c08, 0x2748774c, 0x34b0bcb5, 0x391c0cb3, 0x4ed8aa4a, 0x5b9cca4f, 0x682e6ff3,
   0x748f82ee, 0x78a5636f, 0x84c87814, 0x8cc70208, 0x90befffa, 0xa4506ceb, 0xbef9a3f7, 0xc67178f2]

/-- The eight working words of SHA-256. -/
structure ShaWords where
  (a b c d e f g h : Nat)
  deriving DecidableEq, Repr

/-- The initial hash value of SHA-256. -/
def shaInit : ShaWords :=
  ⟨0x6a09e667, 0xbb67ae85, 0x3c6ef372, 0xa54ff53a, 0x510e527f, 0x9b05688c, 0x1f83d9ab, 0x5be0cd19⟩

/-- One SHA-256 round with constant plus schedule word `kw`. -/
def shaRound (s : ShaWords) (kw : Nat) : ShaWords :=
  let s1 := rotr32 s.e 6 ^^^ rotr32 s.e 11 ^^^ rotr32 s.e 25
  let ch := (s.e &&& s.f) ^^^ ((s.e ^^^ 0xFFFFFFFF) &&& s.g)
  let t1 := (s.h + s1 + ch + kw) % 0x100000000
  let s0 := rotr32 s.a 2 ^^^ rotr32 s.a 13 ^^^ rotr32 s.a 22
  let mj := (s.a &&& s.b) ^^^ (s.a &&& s.c) ^^^ (s.b &&& s.c)
  let t2 := (s0 + mj) % 0x100000000
  ⟨(t1 + t2) % 0x100000000, s.a, s.b, s.c, (s.d + t1) % 0x100000000, s.e, s.f, s.g⟩

/-- Extends the message schedule, held newest first, by `n` words. -/
def shaExtend : Nat → List Nat → List Nat
  | 0, w => w
  | n + 1, w =>
    let w2 := w.getD 1 0
    let w7 := w.getD 6 0
    let w15 := w.getD 14 0
    let w16 := w.getD 15 0
    let s0 := rotr32 w15 7 ^^^ rotr32 w15 18 ^^^ (w15 >>> 3)
    let s1 := rotr32 w2 17 ^^^ rotr32 w2 19 ^^^ (w2 >>> 10)
    shaExtend n (((w16 + s0 + w7 + s1) % 0x100000000) :: w)

/-- The big-endian number of a byte string (FIPS 180-4 byte order). -/
def beNat (bs : List Byte) : Nat := bs.foldl (fun a b => a * 256 + b.toNat) 0

/-- `n` words of 4 bytes, big-endian. -/
def beWords : Nat → List Byte → List Nat
  | 0, _ => []
  | n + 1, bs => beNat (bs.take 4) :: beWords n (bs.drop 4)

/-- One 64-byte block into the hash value. -/
def shaBlock (h : ShaWords) (blk : List Byte) : ShaWords :=
  let w := (shaExtend 48 (beWords 16 blk).reverse).reverse
  let r := ((shaKLow ++ shaKHigh).zip w).foldl (fun s p => shaRound s (p.1 + p.2)) h
  let ad := fun x y => (x + y) % 0x100000000
  ⟨ad h.a r.a, ad h.b r.b, ad h.c r.c, ad h.d r.d, ad h.e r.e, ad h.f r.f, ad h.g r.g, ad h.h r.h⟩

/-- `n` blocks of 64 bytes. -/
def shaBlocks : Nat → ShaWords → List Byte → ShaWords
  | 0, h, _ => h
  | n + 1, h, bs => shaBlocks n (shaBlock h (bs.take 64)) (bs.drop 64)

/-- `w` bytes of `n`, most significant first. -/
def beBytes (w n : Nat) : List Byte := (leBytes w n).reverse

/-- SHA-256 (FIPS 180-4), as R169, R635 and R720 use it. -/
def sha256 (m : List Byte) : List Byte :=
  let z := (119 - m.length % 64) % 64
  let p := m ++ (0x80 : Byte) :: List.replicate z 0 ++ beBytes 8 (8 * m.length)
  let h := shaBlocks (p.length / 64) shaInit p
  beBytes 4 h.a ++ beBytes 4 h.b ++ beBytes 4 h.c ++ beBytes 4 h.d ++
  beBytes 4 h.e ++ beBytes 4 h.f ++ beBytes 4 h.g ++ beBytes 4 h.h

/-- HMAC-SHA-256 (FIPS 198-1) under key `k` (R169). -/
def hmacSha256 (k m : List Byte) : List Byte :=
  let k0 := padTo 64 (if k.length ≤ 64 then k else sha256 k)
  sha256 (k0.map (· ^^^ (0x5c : Byte)) ++ sha256 (k0.map (· ^^^ (0x36 : Byte)) ++ m))

/-- Fractions with a positive denominator, compared and rounded without division: the exact positions
and times of the web coordinate (R43, R62). -/
structure Frac where
  /-- numerator -/
  num : Int
  /-- denominator, at least 1 -/
  den : Nat
  deriving DecidableEq, Repr

/-- The fraction of an integer. -/
def Frac.ofInt (i : Int) : Frac := ⟨i, 1⟩

/-- The greatest integer not above a fraction. -/
def fracFloor (f : Frac) : Int := if f.den = 0 then 0 else f.num / f.den

/-- The fraction reduced to lowest terms. -/
def fracNorm (n : Int) (d : Nat) : Frac :=
  if d = 0 then ⟨0, 1⟩
  else let g := Nat.gcd n.natAbs d
    ⟨n / g, d / g⟩

/-- Sum. -/
def fracAdd (a b : Frac) : Frac := fracNorm (a.num * b.den + b.num * a.den) (a.den * b.den)

/-- Product with `n/d`. -/
def fracMul (a : Frac) (n : Int) (d : Nat) : Frac := fracNorm (a.num * n) (a.den * d)

/-- Strictly below. -/
def fracLt (a b : Frac) : Bool := decide (a.num * b.den < b.num * a.den)

/-- At most. -/
def fracLe (a b : Frac) : Bool := decide (a.num * b.den ≤ b.num * a.den)

end Sys2Proof.Machine
end

