-- ==== Sys2Proof/Machine/OdTypes.lean ====
section
/-! DEFINITION. The shapes of the object dictionary: data types (R166), roles (R168), persistence
classes and description attributes (R161), one row per subindex, and one group per run of indexes
that share a table. The rows themselves stand in OdTableA.lean to OdTableC.lean. -/

namespace Sys2Proof.Machine

/-- A value of an object: a number, or a byte string (STR and BLOB). BOOL, ENUM8, BITS32, TIME64 and
the Q-formats are numbers; F32 is held as its 32-bit pattern (R166). -/
inductive OVal where
  | int (i : Int)
  | bytes (b : List Byte)
  deriving DecidableEq, Repr

/-- The types of R166. -/
inductive OTy where
  | bool | u8 | u16 | u32 | u64 | i16 | i32 | i64 | f32 | enum8 | bits32 | time64
  | str (n : Nat)
  | blob (n : Nat)
  | q16 (f : Nat)
  | q32 (f : Nat)
  deriving DecidableEq, Repr

/-- One subindex of an object table (R161). Roles and Applies are the codes of R168 and R11, with
255 for none; persistence is the code of R161. -/
structure OdRow where
  /-- subindex -/
  sub : Nat
  /-- name attribute -/
  name : String
  /-- type -/
  ty : OTy
  /-- lowest role that reads, 255 for a write-only object (R173) -/
  rd : Nat
  /-- lowest role that writes, 255 for a read-only object -/
  wr : Nat
  /-- 0 volatile, 1 persistent, 2 sealed, 3 session-local -/
  per : Nat
  /-- 0 now, 1 line, 2 item, 3 frame, 4 standby, 5 restart, 255 none (R11) -/
  app : Nat
  /-- least and greatest value, where the table gives them -/
  lo : Option Int
  /-- greatest value -/
  hi : Option Int
  /-- legal codes as closed ranges; empty when every value of the type is legal (R6) -/
  legal : List (Nat × Nat)
  /-- defined bits of a field with reserved bits; 0 when no bit is reserved (R5) -/
  mask : Nat
  /-- the exact lengths a STR or BLOB value may have; empty when any length up to n may -/
  lens : List Nat
  /-- default; none where the table gives none -/
  dflt : Option OVal
  /-- unit attribute (R761) -/
  unit : String
  /-- true for an object that performs a command when written and reads back its default (R162) -/
  cmd : Bool
  deriving DecidableEq, Repr

/-- A run of `count` consecutive indexes that share one table. -/
structure OdGroup where
  /-- first index -/
  base : Nat
  /-- number of indexes -/
  count : Nat
  /-- the rows of the table -/
  rows : List OdRow
  deriving Repr

/-- The key of an object: index and subindex in one number. -/
def odKey (idx sub : Nat) : Nat := idx * 256 + sub

/-- Type code of R166. -/
def OTy.code : OTy → Nat
  | .bool => 0x01 | .u8 => 0x02 | .u16 => 0x03 | .u32 => 0x04 | .u64 => 0x05
  | .i16 => 0x06 | .i32 => 0x07 | .i64 => 0x08 | .f32 => 0x09 | .enum8 => 0x0A
  | .bits32 => 0x0B | .time64 => 0x0C | .str _ => 0x0D | .blob _ => 0x0E
  | .q16 _ => 0x10 | .q32 _ => 0x11

/-- Encoded length of a fixed type; the greatest length of STR and BLOB. -/
def OTy.size : OTy → Nat
  | .bool => 1 | .u8 => 1 | .u16 => 2 | .u32 => 4 | .u64 => 8
  | .i16 => 2 | .i32 => 4 | .i64 => 8 | .f32 => 4 | .enum8 => 1
  | .bits32 => 4 | .time64 => 8 | .str n => n | .blob n => n
  | .q16 _ => 2 | .q32 _ => 4

/-- True of STR and BLOB. -/
def OTy.isBytes : OTy → Bool
  | .str _ => true | .blob _ => true
  | .bool => false | .u8 => false | .u16 => false | .u32 => false | .u64 => false
  | .i16 => false | .i32 => false | .i64 => false | .f32 => false | .enum8 => false
  | .bits32 => false | .time64 => false | .q16 _ => false
  | .q32 _ => false

/-- True of the two's complement types. -/
def OTy.isSigned : OTy → Bool
  | .i16 => true | .i32 => true | .i64 => true | .q16 _ => true | .q32 _ => true
  | .bool => false | .u8 => false | .u16 => false | .u32 => false | .u64 => false
  | .f32 => false | .enum8 => false | .bits32 => false | .time64 => false
  | .str _ => false | .blob _ => false

/-- Fraction bits of a Q-format, 0 otherwise (R161). -/
def OTy.frac : OTy → Nat
  | .q16 f => f | .q32 f => f
  | .bool => 0 | .u8 => 0 | .u16 => 0 | .u32 => 0 | .u64 => 0
  | .i16 => 0 | .i32 => 0 | .i64 => 0 | .f32 => 0 | .enum8 => 0
  | .bits32 => 0 | .time64 => 0 | .str _ => 0 | .blob _ => 0

/-- The number of a value; 0 for a byte string. -/
def OVal.toInt : OVal → Int
  | .int i => i
  | .bytes _ => 0

/-- The bytes of a value; empty for a number. -/
def OVal.toBytes : OVal → List Byte
  | .bytes b => b
  | .int _ => []

/-- The little-endian encoding of a value of type `ty` (R166). -/
def encodeVal (ty : OTy) : OVal → List Byte
  | .int i => if ty.isBytes then [] else leBytes ty.size (patternOf (8 * ty.size) i)
  | .bytes b => b

/-- The value a wire encoding of type `ty` spells. -/
def decodeVal (ty : OTy) (b : List Byte) : OVal :=
  if ty.isBytes then .bytes b
  else if ty.isSigned then .int (signedOf (8 * ty.size) (leNat b))
  else .int (leNat b)

/-- The zero value of a type: what an object without a table default holds before anything sets it. -/
def zeroVal (ty : OTy) : OVal := if ty.isBytes then .bytes [] else .int 0

/-- One step of the UTF-8 check of a STR value: bytes left of the current sequence, and the range the
next byte must lie in. -/
def utf8Go : List Byte → Nat → Nat → Nat → Bool
  | [], need, _, _ => need == 0
  | b :: bs, need, lo, hi =>
    let x := b.toNat
    if need = 0 then
      if x < 0x80 then utf8Go bs 0 0 0
      else if decide (0xC2 ≤ x) && decide (x ≤ 0xDF) then utf8Go bs 1 0x80 0xBF
      else if x = 0xE0 then utf8Go bs 2 0xA0 0xBF
      else if x = 0xED then utf8Go bs 2 0x80 0x9F
      else if decide (0xE1 ≤ x) && decide (x ≤ 0xEF) then utf8Go bs 2 0x80 0xBF
      else if x = 0xF0 then utf8Go bs 3 0x90 0xBF
      else if decide (0xF1 ≤ x) && decide (x ≤ 0xF3) then utf8Go bs 3 0x80 0xBF
      else if x = 0xF4 then utf8Go bs 3 0x80 0x8F
      else false
    else decide (lo ≤ x) && decide (x ≤ hi) && utf8Go bs (need - 1) 0x80 0xBF

/-- Well-formed UTF-8 (R166, code 16#0D). -/
def utf8Ok (b : List Byte) : Bool := utf8Go b 0 0 0

/-- The UTF-8 encoding of one code point. -/
def utf8Enc (c : Nat) : List Byte :=
  if c < 0x80 then [byteOf c]
  else if c < 0x800 then [byteOf (0xC0 + c / 64), byteOf (0x80 + c % 64)]
  else if c < 0x10000 then
    [byteOf (0xE0 + c / 4096), byteOf (0x80 + c / 64 % 64), byteOf (0x80 + c % 64)]
  else [byteOf (0xF0 + c / 262144), byteOf (0x80 + c / 4096 % 64), byteOf (0x80 + c / 64 % 64),
        byteOf (0x80 + c % 64)]

/-- The UTF-8 bytes of a string of the dictionary (names and units). -/
def strBytes (s : String) : List Byte := s.toList.flatMap (fun c => utf8Enc c.toNat)

end Sys2Proof.Machine
end

