-- ==== Sys2Proof/Machine/OdTableA.lean ====
section
/-! DEFINITION. Rows of the object dictionary, indexes 16#0000 to 16#3FFF, as the object tables of
spec/02 to spec/20 give them. -/

namespace Sys2Proof.Machine

/-- 16#1000 device_identity (R190). -/
def odRows_device_identity : List OdRow :=
  [ ⟨0x01, "vendor_name", (.str 16), 0, 255, 0, 255, none, none, [], 0, [], (some (.bytes [87, 65, 71, 79, 87, 69, 78])), "", false⟩,
    ⟨0x02, "product_code", .u32, 0, 255, 0, 255, none, none, [], 0, [], (some (.int 16786)), "", false⟩,
    ⟨0x03, "silicon_stepping", (.str 4), 0, 255, 0, 255, none, none, [], 0, [], (some (.bytes [66, 48])), "", false⟩,
    ⟨0x04, "serial_number", (.str 16), 0, 255, 0, 255, none, none, [], 0, [], none, "", false⟩,
    ⟨0x05, "ordering_code", (.str 16), 0, 255, 0, 255, none, none, [], 0, [], none, "", false⟩,
    ⟨0x06, "firmware_version", .u32, 0, 255, 0, 255, none, none, [], 0, [], none, "", false⟩,
    ⟨0x07, "firmware_slot", .enum8, 0, 255, 0, 255, none, none, [], 0, [], none, "", false⟩,
    ⟨0x08, "boot_id", .u32, 0, 255, 0, 255, none, none, [], 0, [], none, "", false⟩,
    ⟨0x09, "features", .bits32, 0, 255, 0, 255, none, none, [], 0, [], none, "", false⟩,
    ⟨0x0A, "integrator_version", .u32, 0, 255, 0, 255, none, none, [], 0, [], (some (.int 0)), "", false⟩,
    ⟨0x0B, "uptime_s", .u64, 0, 255, 0, 255, none, none, [], 0, [], (some (.int 0)), "s", false⟩ ]

/-- 16#1010 od_describe (R191). -/
def odRows_od_describe : List OdRow :=
  [ ⟨0x01, "describe_index", .u16, 0, 0, 3, 0, none, none, [], 0, [], (some (.int 4096)), "", false⟩,
    ⟨0x02, "describe_subindex", .u8, 0, 0, 3, 0, none, none, [], 0, [], (some (.int 0)), "", false⟩,
    ⟨0x03, "describe_present", .bool, 0, 255, 3, 255, none, none, [], 0, [], none, "", false⟩,
    ⟨0x04, "describe_name", (.str 32), 0, 255, 3, 255, none, none, [], 0, [], none, "", false⟩,
    ⟨0x05, "describe_type", .u8, 0, 255, 3, 255, none, none, [], 0, [], none, "", false⟩,
    ⟨0x06, "describe_length", .u16, 0, 255, 3, 255, none, none, [], 0, [], none, "", false⟩,
    ⟨0x07, "describe_read_role", .enum8, 0, 255, 3, 255, none, none, [], 0, [], none, "", false⟩,
    ⟨0x08, "describe_write_role", .enum8, 0, 255, 3, 255, none, none, [], 0, [], none, "", false⟩,
    ⟨0x09, "describe_persistence", .enum8, 0, 255, 3, 255, none, none, [], 0, [], none, "", false⟩,
    ⟨0x0A, "describe_applies", .enum8, 0, 255, 3, 255, none, none, [], 0, [], none, "", false⟩,
    ⟨0x0B, "describe_minimum", (.blob 8), 0, 255, 3, 255, none, none, [], 0, [], none, "", false⟩,
    ⟨0x0C, "describe_maximum", (.blob 8), 0, 255, 3, 255, none, none, [], 0, [], none, "", false⟩,
    ⟨0x0D, "describe_default", (.blob 64), 0, 255, 3, 255, none, none, [], 0, [], none, "", false⟩,
    ⟨0x0E, "describe_unit", (.str 16), 0, 255, 3, 255, none, none, [], 0, [], none, "", false⟩,
    ⟨0x0F, "describe_frac_bits", .u8, 0, 255, 3, 255, none, none, [], 0, [], none, "", false⟩,
    ⟨0x10, "describe_default_length", .u16, 0, 255, 3, 255, none, none, [], 0, [], none, "", false⟩ ]

/-- 16#1020 session_self (R192). -/
def odRows_session_self : List OdRow :=
  [ ⟨0x01, "self_session", .u8, 0, 255, 3, 255, none, none, [], 0, [], none, "", false⟩,
    ⟨0x02, "self_role", .enum8, 0, 0, 3, 0, none, none, [(0, 5)], 0, [], none, "", false⟩ ]

/-- 16#1100 to 16#1102 net_port (R193). -/
def odRows_net_port : List OdRow :=
  [ ⟨0x01, "port_enable", .bool, 0, 3, 1, 5, none, none, [], 0, [], (some (.int 1)), "", false⟩,
    ⟨0x02, "mac_address", .u64, 0, 255, 0, 255, none, none, [], 0, [], none, "", false⟩,
    ⟨0x03, "ipv4_address", .u32, 0, 3, 1, 5, none, none, [], 0, [], (some (.int 0)), "", false⟩,
    ⟨0x04, "ipv4_prefix", .u8, 0, 3, 1, 5, (some 0), (some 32), [], 0, [], (some (.int 24)), "", false⟩,
    ⟨0x05, "ipv4_gateway", .u32, 0, 3, 1, 5, none, none, [], 0, [], (some (.int 0)), "", false⟩,
    ⟨0x06, "ipv6_address", (.blob 16), 0, 3, 1, 5, none, none, [], 0, [], (some (.bytes [])), "", false⟩,
    ⟨0x07, "ipv6_prefix", .u8, 0, 3, 1, 5, (some 0), (some 128), [], 0, [], (some (.int 64)), "", false⟩,
    ⟨0x08, "vlan_id", .u16, 0, 3, 1, 5, (some 0), (some 4094), [], 0, [], (some (.int 0)), "", false⟩,
    ⟨0x09, "jumbo_enable", .bool, 0, 3, 1, 5, none, none, [], 0, [], (some (.int 0)), "", false⟩,
    ⟨0x0A, "class_pcp", .u16, 0, 3, 1, 5, none, none, [], 0x7777, [], (some (.int 25927)), "", false⟩,
    ⟨0x0B, "class_dscp", .u32, 0, 3, 1, 5, none, none, [], 0x3F3F3F3F, [], (some (.int 772417582)), "", false⟩,
    ⟨0x0C, "link_up", .bool, 0, 255, 0, 255, none, none, [], 0, [], (some (.int 0)), "", false⟩,
    ⟨0x0D, "module_identity", (.str 32), 0, 255, 0, 255, none, none, [], 0, [], (some (.bytes [])), "", false⟩,
    ⟨0x0E, "rx_frames", .u64, 0, 255, 0, 255, none, none, [], 0, [], (some (.int 0)), "", false⟩,
    ⟨0x0F, "rx_errors", .u32, 0, 255, 0, 255, none, none, [], 0, [], (some (.int 0)), "", false⟩,
    ⟨0x10, "pause_frames", .u32, 0, 255, 0, 255, none, none, [], 0, [], (some (.int 0)), "", false⟩,
    ⟨0x11, "duplicates_discarded", .u32, 0, 255, 0, 255, none, none, [], 0, [], (some (.int 0)), "", false⟩,
    ⟨0x12, "link_losses", .u32, 0, 255, 0, 255, none, none, [], 0, [], (some (.int 0)), "", false⟩ ]

/-- 16#1110 redundancy (R194). -/
def odRows_redundancy : List OdRow :=
  [ ⟨0x01, "redundancy_mode", .enum8, 0, 3, 1, 5, none, none, [(0, 0), (1, 1)], 0, [], (some (.int 0)), "", false⟩,
    ⟨0x02, "pair_status", .bits32, 0, 255, 0, 255, none, none, [], 0, [], (some (.int 0)), "", false⟩ ]

/-- 16#1200 klp_config (R195). -/
def odRows_klp_config : List OdRow :=
  [ ⟨0x01, "klp_udp_port", .u16, 0, 3, 1, 5, (some 1024), (some 65535), [], 0, [], (some (.int 47900)), "", false⟩,
    ⟨0x02, "klp_max_payload", .u16, 0, 3, 1, 5, (some 512), (some 8192), [], 0, [], (some (.int 1408)), "B", false⟩,
    ⟨0x03, "klp_rto_min_us", .u32, 0, 3, 1, 5, (some 100), (some 8000), [], 0, [], (some (.int 500)), "µs", false⟩,
    ⟨0x04, "klp_session_timeout_ms", .u32, 0, 3, 1, 5, (some 10), (some 60000), [], 0, [], (some (.int 1000)), "ms", false⟩,
    ⟨0x05, "klp_retx_limit", .u8, 0, 3, 1, 5, (some 1), (some 255), [], 0, [], (some (.int 16)), "", false⟩,
    ⟨0x06, "event_queue_depth", .u16, 0, 3, 1, 5, (some 256), (some 16384), [], 0, [], (some (.int 4096)), "", false⟩ ]

/-- 16#1210 to 16#1217 session_status (R196). -/
def odRows_session_status : List OdRow :=
  [ ⟨0x01, "session_open", .bool, 0, 255, 0, 255, none, none, [], 0, [], (some (.int 0)), "", false⟩,
    ⟨0x02, "node_id", .u16, 0, 255, 0, 255, none, none, [], 0, [], (some (.int 0)), "", false⟩,
    ⟨0x03, "role", .enum8, 0, 255, 0, 255, none, none, [], 0, [], (some (.int 255)), "", false⟩,
    ⟨0x04, "epoch", .u8, 0, 255, 0, 255, none, none, [], 0, [], (some (.int 0)), "", false⟩,
    ⟨0x05, "port_mask", .bits32, 0, 255, 0, 255, none, none, [], 0, [], (some (.int 0)), "", false⟩,
    ⟨0x06, "open_time", .time64, 0, 255, 0, 255, none, none, [], 0, [], (some (.int 0)), "", false⟩,
    ⟨0x07, "retransmissions", .u32, 0, 255, 0, 255, none, none, [], 0, [], (some (.int 0)), "", false⟩,
    ⟨0x08, "granted_ctrl", .u32, 0, 255, 0, 255, none, none, [], 0, [], (some (.int 0)), "", false⟩,
    ⟨0x09, "granted_item", .u32, 0, 255, 0, 255, none, none, [], 0, [], (some (.int 0)), "", false⟩,
    ⟨0x0A, "granted_bulk", .u32, 0, 255, 0, 255, none, none, [], 0, [], (some (.int 0)), "", false⟩,
    ⟨0x0B, "consumed_ctrl", .u32, 0, 255, 0, 255, none, none, [], 0, [], (some (.int 0)), "", false⟩,
    ⟨0x0C, "consumed_item", .u32, 0, 255, 0, 255, none, none, [], 0, [], (some (.int 0)), "", false⟩,
    ⟨0x0D, "consumed_bulk", .u32, 0, 255, 0, 255, none, none, [], 0, [], (some (.int 0)), "", false⟩,
    ⟨0x0E, "credit_validity", .enum8, 0, 255, 0, 255, none, none, [], 0, [], (some (.int 0)), "", false⟩,
    ⟨0x0F, "events_dropped", .u32, 0, 255, 0, 255, none, none, [], 0, [], (some (.int 0)), "", false⟩ ]

/-- 16#1300 role_keys (R197). -/
def odRows_role_keys : List OdRow :=
  [ ⟨0x01, "key_opr", (.blob 32), 255, 2, 1, 0, none, none, [], 0, [32], (some (.bytes [])), "", false⟩,
    ⟨0x02, "key_eng", (.blob 32), 255, 3, 1, 0, none, none, [], 0, [32], (some (.bytes [])), "", false⟩,
    ⟨0x03, "key_svc", (.blob 32), 255, 3, 1, 0, none, none, [], 0, [32], (some (.bytes [])), "", false⟩,
    ⟨0x04, "key_set", .bits32, 0, 255, 1, 255, none, none, [], 0, [], none, "", false⟩,
    ⟨0x05, "last_stamps", (.blob 40), 0, 255, 1, 255, none, none, [], 0, [], (some (.bytes (List.replicate 40 0))), "", false⟩,
    ⟨0x06, "auth_failures", .u32, 0, 255, 0, 255, none, none, [], 0, [], (some (.int 0)), "", false⟩ ]

/-- 16#2000 management (R198). -/
def odRows_management : List OdRow :=
  [ ⟨0x01, "reset_cause", .enum8, 0, 255, 0, 255, none, none, [], 0, [], none, "", false⟩,
    ⟨0x02, "reset_request", .bool, 0, 3, 0, 0, none, none, [], 0, [], (some (.int 0)), "", true⟩,
    ⟨0x03, "restore_defaults", .bool, 0, 3, 1, 5, none, none, [], 0, [], (some (.int 0)), "", false⟩,
    ⟨0x04, "restart_pending", .bool, 0, 255, 0, 255, none, none, [], 0, [], (some (.int 0)), "", false⟩ ]

/-- 16#2100 change_log (R199). -/
def odRows_change_log : List OdRow :=
  [ ⟨0x01, "change_log_first", .u64, 0, 255, 0, 255, none, none, [], 0, [], none, "", false⟩,
    ⟨0x02, "change_log_last", .u64, 0, 255, 0, 255, none, none, [], 0, [], none, "", false⟩,
    ⟨0x03, "change_log_durable", .u64, 0, 255, 0, 255, none, none, [], 0, [], none, "", false⟩,
    ⟨0x04, "ring_unflushed", .u8, 0, 255, 0, 255, none, none, [], 0, [], (some (.int 0)), "", false⟩,
    ⟨0x05, "flush_count", .u32, 0, 255, 0, 255, none, none, [], 0, [], (some (.int 0)), "", false⟩,
    ⟨0x06, "change_log_full_action", .enum8, 0, 3, 1, 0, none, none, [(0, 0), (1, 1)], 0, [], (some (.int 0)), "", false⟩,
    ⟨0x07, "change_log_capacity", .u32, 0, 255, 0, 255, none, none, [], 0, [], (some (.int 1048576)), "", false⟩,
    ⟨0x08, "records_overwritten", .u64, 0, 255, 0, 255, none, none, [], 0, [], (some (.int 0)), "", false⟩,
    ⟨0x09, "tail_restored", .u8, 0, 255, 0, 255, none, none, [], 0, [], (some (.int 0)), "", false⟩,
    ⟨0x0A, "log_validity", .enum8, 0, 255, 0, 255, none, none, [], 0, [], (some (.int 0)), "", false⟩,
    ⟨0x0B, "change_log_release", .u64, 0, 3, 1, 0, none, none, [], 0, [], (some (.int 0)), "", false⟩ ]

/-- 16#2200 firmware_update (R734). -/
def odRows_firmware_update : List OdRow :=
  [ ⟨0x01, "running_slot", .enum8, 0, 255, 0, 255, none, none, [], 0, [], none, "", false⟩,
    ⟨0x02, "slot_a_state", .enum8, 0, 255, 0, 255, none, none, [], 0, [], none, "", false⟩,
    ⟨0x03, "slot_b_state", .enum8, 0, 255, 0, 255, none, none, [], 0, [], none, "", false⟩,
    ⟨0x04, "slot_a_version", .u32, 0, 255, 0, 255, none, none, [], 0, [], none, "", false⟩,
    ⟨0x05, "slot_b_version", .u32, 0, 255, 0, 255, none, none, [], 0, [], none, "", false⟩,
    ⟨0x06, "tries_left", .u8, 0, 255, 0, 255, none, none, [], 0, [], none, "", false⟩,
    ⟨0x07, "update_trial_tries", .u8, 0, 3, 1, 0, (some 1), (some 15), [], 0, [], (some (.int 3)), "", false⟩,
    ⟨0x08, "update_auto_confirm_s", .u32, 0, 3, 1, 0, none, none, [(0, 0), (60, 604800)], 0, [], (some (.int 0)), "s", false⟩,
    ⟨0x09, "update_confirm", .bool, 0, 3, 0, 0, none, none, [], 0, [], (some (.int 0)), "", true⟩,
    ⟨0x0A, "update_activate", .bool, 0, 3, 0, 0, none, none, [], 0, [], (some (.int 0)), "", true⟩,
    ⟨0x0B, "update_state", .enum8, 0, 255, 0, 255, none, none, [], 0, [], (some (.int 0)), "", false⟩,
    ⟨0x0C, "update_error", .enum8, 0, 255, 0, 255, none, none, [], 0, [], (some (.int 0)), "", false⟩,
    ⟨0x0D, "rollback_counter", .u8, 0, 255, 0, 255, none, none, [], 0, [], none, "", false⟩,
    ⟨0x0E, "update_progress_percent", .u8, 0, 255, 0, 255, none, none, [], 0, [], (some (.int 0)), "%", false⟩ ]

/-- 16#2201 boot_status (R735). -/
def odRows_boot_status : List OdRow :=
  [ ⟨0x01, "boot_fail_code", .enum8, 0, 255, 0, 255, none, none, [], 0, [], (some (.int 0)), "", false⟩,
    ⟨0x02, "boot_stage_reached", .u8, 0, 255, 0, 255, none, none, [], 0, [], none, "", false⟩,
    ⟨0x03, "boot_time_ms", .u32, 0, 255, 0, 255, none, none, [], 0, [], none, "ms", false⟩,
    ⟨0x04, "slot_fallbacks", .u32, 0, 255, 1, 255, none, none, [], 0, [], (some (.int 0)), "", false⟩,
    ⟨0x05, "flash0_identity", (.str 16), 0, 255, 0, 255, none, none, [], 0, [], none, "", false⟩,
    ⟨0x06, "flash1_identity", (.str 16), 0, 255, 0, 255, none, none, [], 0, [], none, "", false⟩ ]

/-- 16#2300 integrator_core (R736). -/
def odRows_integrator_core : List OdRow :=
  [ ⟨0x01, "integ_run", .bool, 0, 2, 1, 0, none, none, [], 0, [], (some (.int 0)), "", false⟩,
    ⟨0x02, "integ_state", .enum8, 0, 255, 0, 255, none, none, [], 0, [], (some (.int 0)), "", false⟩,
    ⟨0x03, "integ_fault", .enum8, 0, 255, 0, 255, none, none, [], 0, [], (some (.int 0)), "", false⟩,
    ⟨0x04, "integ_role", .enum8, 0, 3, 1, 0, none, none, [(0, 2)], 0, [], (some (.int 1)), "", false⟩,
    ⟨0x05, "integ_watchdog_ms", .u16, 0, 2, 1, 0, none, none, [(0, 0), (10, 60000)], 0, [], (some (.int 100)), "ms", false⟩,
    ⟨0x06, "integ_auto_restart", .bool, 0, 2, 1, 0, none, none, [], 0, [], (some (.int 1)), "", false⟩,
    ⟨0x07, "integ_restart_delay_ms", .u32, 0, 2, 1, 0, (some 10), (some 600000), [], 0, [], (some (.int 1000)), "ms", false⟩,
    ⟨0x08, "integ_key_hash", (.blob 32), 0, 3, 1, 5, none, none, [], 0, [0, 32], (some (.bytes [])), "", false⟩,
    ⟨0x09, "integ_serve_timeout_ms", .u16, 0, 2, 1, 0, (some 1), (some 1000), [], 0, [], (some (.int 10)), "ms", false⟩,
    ⟨0x0A, "integ_restarts", .u32, 0, 255, 0, 255, none, none, [], 0, [], (some (.int 0)), "", false⟩,
    ⟨0x0B, "objects_served", .u16, 0, 255, 0, 255, none, none, [], 0, [], (some (.int 0)), "", false⟩ ]

/-- 16#2400 ptp_config (R200). -/
def odRows_ptp_config : List OdRow :=
  [ ⟨0x01, "ptp_enable", .bool, 0, 2, 1, 5, none, none, [], 0, [], (some (.int 1)), "", false⟩,
    ⟨0x02, "ptp_domain", .u8, 0, 2, 1, 5, (some 0), (some 127), [], 0, [], (some (.int 0)), "", false⟩,
    ⟨0x03, "ptp_profile", .enum8, 0, 2, 1, 5, none, none, [(0, 0), (1, 1)], 0, [], (some (.int 0)), "", false⟩,
    ⟨0x04, "ptp_transport", .enum8, 0, 2, 1, 5, none, none, [(0, 0), (1, 1), (2, 2)], 0, [], (some (.int 0)), "", false⟩,
    ⟨0x05, "ptp_port_enable", .bits32, 0, 2, 1, 5, none, none, [], 0x7, [], (some (.int 3)), "", false⟩,
    ⟨0x06, "ptp_asymmetry_ns", .i32, 0, 2, 1, 0, (some (-100000)), (some 100000), [], 0, [], (some (.int 0)), "ns", false⟩ ]

/-- 16#2401 ptp_status (R201). -/
def odRows_ptp_status : List OdRow :=
  [ ⟨0x01, "ptp_state", .enum8, 0, 255, 0, 255, none, none, [], 0, [], (some (.int 0)), "", false⟩,
    ⟨0x02, "ptp_offset_ns", .i64, 0, 255, 0, 255, none, none, [], 0, [], (some (.int 0)), "ns", false⟩,
    ⟨0x03, "ptp_path_delay_ns", .i64, 0, 255, 0, 255, none, none, [], 0, [], (some (.int 0)), "ns", false⟩,
    ⟨0x04, "ptp_master_identity", .u64, 0, 255, 0, 255, none, none, [], 0, [], (some (.int 0)), "", false⟩,
    ⟨0x05, "ptp_active_port", .enum8, 0, 255, 0, 255, none, none, [], 0, [], (some (.int 255)), "", false⟩,
    ⟨0x06, "ptp_locked_s", .u32, 0, 255, 0, 255, none, none, [], 0, [], (some (.int 0)), "s", false⟩,
    ⟨0x07, "utc_offset_s", .i16, 0, 255, 0, 255, none, none, [], 0, [], (some (.int 37)), "s", false⟩,
    ⟨0x08, "ptp_time", .time64, 0, 255, 0, 255, none, none, [], 0, [], none, "", false⟩ ]

/-- 16#3000 to 16#3003 encoder (R84). -/
def odRows_encoder : List OdRow :=
  [ ⟨0x01, "enc_enable", .bool, 0, 2, 1, 4, none, none, [], 0, [], (some (.int 0)), "", false⟩,
    ⟨0x02, "enc_filter_samples", .u8, 0, 2, 1, 4, (some 0), (some 255), [], 0, [], (some (.int 4)), "", false⟩,
    ⟨0x03, "enc_swap_ab", .bool, 0, 2, 1, 4, none, none, [], 0, [], (some (.int 0)), "", false⟩,
    ⟨0x04, "enc_z_enable", .bool, 0, 2, 1, 4, none, none, [], 0, [], (some (.int 0)), "", false⟩,
    ⟨0x05, "enc_counts_per_rev", .u32, 0, 2, 1, 4, none, none, [], 0, [], (some (.int 0)), "", false⟩,
    ⟨0x06, "enc_count", .u64, 0, 255, 0, 255, none, none, [], 0, [], (some (.int 0)), "", false⟩,
    ⟨0x07, "enc_error_count", .u32, 0, 255, 0, 255, none, none, [], 0, [], (some (.int 0)), "", false⟩,
    ⟨0x08, "enc_status", .bits32, 0, 255, 0, 255, none, none, [], 0, [], (some (.int 0)), "", false⟩,
    ⟨0x09, "enc_count_rate", .u32, 0, 255, 0, 255, none, none, [], 0, [], (some (.int 0)), "", false⟩ ]

/-- 16#3010 web_geometry (R85). -/
def odRows_web_geometry : List OdRow :=
  [ ⟨0x01, "web_encoder", .enum8, 0, 2, 1, 4, none, none, [(0, 3), (255, 255)], 0, [], (some (.int 0)), "", false⟩,
    ⟨0x02, "lines_per_inch", .enum8, 0, 2, 1, 4, none, none, [(0, 0), (1, 1), (2, 2), (3, 3)], 0, [], (some (.int 2)), "", false⟩,
    ⟨0x03, "counts_per_m_num", .u32, 0, 2, 1, 4, (some 1), (some 4294967295), [], 0, [], (some (.int 400000)), "", false⟩,
    ⟨0x04, "counts_per_m_den", .u32, 0, 2, 1, 4, (some 1), (some 4294967295), [], 0, [], (some (.int 1)), "", false⟩ ]

/-- 16#3020 tracker_config (R86). -/
def odRows_tracker_config : List OdRow :=
  [ ⟨0x01, "tracker_enable", .bool, 0, 2, 1, 4, none, none, [], 0, [], (some (.int 0)), "", false⟩,
    ⟨0x02, "hysteresis_counts", .u16, 0, 2, 1, 0, (some 0), (some 65534), [], 0, [], (some (.int 2)), "", false⟩,
    ⟨0x03, "reversal_counts", .u16, 0, 2, 1, 0, (some 1), (some 65535), [], 0, [], (some (.int 64)), "", false⟩,
    ⟨0x04, "coast_limit_um", .u32, 0, 2, 1, 0, (some 0), (some 64000), [], 0, [], (some (.int 8000)), "µm", false⟩,
    ⟨0x05, "coast_min_speed_um_s", .u32, 0, 2, 1, 0, (some 100), (some 1000000), [], 0, [], (some (.int 10000)), "µm/s", false⟩,
    ⟨0x06, "capture_window_ps", .u8, 0, 2, 1, 0, (some 0), (some 64), [], 0, [], (some (.int 32)), "", false⟩,
    ⟨0x07, "break_degrade_percent", .u8, 0, 2, 1, 0, (some 0), (some 100), [], 0, [], (some (.int 50)), "%", false⟩,
    ⟨0x08, "velocity_window_us", .u16, 0, 2, 1, 0, (some 10), (some 10000), [], 0, [], (some (.int 200)), "µs", false⟩,
    ⟨0x09, "return_edges", .u8, 0, 2, 1, 0, (some 2), (some 64), [], 0, [], (some (.int 4)), "", false⟩,
    ⟨0x0A, "reacquire_edges", .u8, 0, 2, 1, 0, (some 4), (some 255), [], 0, [], (some (.int 16)), "", false⟩,
    ⟨0x0B, "z_tolerance_counts", .u8, 0, 2, 1, 0, (some 0), (some 255), [], 0, [], (some (.int 1)), "", false⟩,
    ⟨0x0C, "coast_accel_limit_mm_s2", .u32, 0, 2, 1, 0, (some 1), (some 1000000), [], 0, [], (some (.int 5000)), "mm/s²", false⟩ ]

/-- 16#3030 tracker_status (R87). -/
def odRows_tracker_status : List OdRow :=
  [ ⟨0x01, "tracker_state", .enum8, 0, 255, 0, 255, none, none, [], 0, [], (some (.int 0)), "", false⟩,
    ⟨0x02, "web_position_ps", .u64, 0, 255, 0, 255, none, none, [], 0, [], (some (.int 0)), "", false⟩,
    ⟨0x03, "high_water_count", .u64, 0, 255, 0, 255, none, none, [], 0, [], (some (.int 0)), "", false⟩,
    ⟨0x04, "velocity_um_s", .i32, 0, 255, 0, 255, none, none, [], 0, [], (some (.int 0)), "µm/s", false⟩,
    ⟨0x05, "line_rate_hz", .u32, 0, 255, 0, 255, none, none, [], 0, [], (some (.int 0)), "Hz", false⟩,
    ⟨0x06, "coast_distance_um", .u32, 0, 255, 0, 255, none, none, [], 0, [], (some (.int 0)), "µm", false⟩,
    ⟨0x07, "last_phase_jump_ps", .i32, 0, 255, 0, 255, none, none, [], 0, [], (some (.int 0)), "", false⟩,
    ⟨0x08, "reversal_count", .u32, 0, 255, 0, 255, none, none, [], 0, [], (some (.int 0)), "", false⟩,
    ⟨0x09, "coast_count", .u32, 0, 255, 0, 255, none, none, [], 0, [], (some (.int 0)), "", false⟩,
    ⟨0x0A, "break_count", .u32, 0, 255, 0, 255, none, none, [], 0, [], (some (.int 0)), "", false⟩,
    ⟨0x0B, "backstep_count", .u32, 0, 255, 0, 255, none, none, [], 0, [], (some (.int 0)), "", false⟩,
    ⟨0x0C, "state_entry_time", .time64, 0, 255, 0, 255, none, none, [], 0, [], (some (.int 0)), "", false⟩ ]

/-- 16#3040 to 16#3043 plane_tick (R88). -/
def odRows_plane_tick : List OdRow :=
  [ ⟨0x01, "plane_distance_um", .u32, 0, 2, 1, 4, (some 0), (some 2000000), [], 0, [], (some (.int 0)), "µm", false⟩,
    ⟨0x02, "cable_delay_ns", .u16, 0, 2, 1, 1, (some 0), (some 65535), [], 0, [], (some (.int 0)), "ns", false⟩,
    ⟨0x03, "flight_time_ns", .u32, 0, 2, 1, 1, (some 0), (some 2000000), [], 0, [], (some (.int 0)), "ns", false⟩,
    ⟨0x04, "head_latency_ns", .u32, 0, 255, 0, 255, none, none, [], 0, [], none, "ns", false⟩,
    ⟨0x05, "throw_advance_ps", .u32, 0, 255, 0, 255, none, none, [], 0, [], (some (.int 0)), "", false⟩,
    ⟨0x06, "grid_phase_ps", .i64, 0, 255, 0, 255, none, none, [], 0, [], (some (.int 0)), "", false⟩,
    ⟨0x07, "grid_phase_source", .enum8, 0, 2, 1, 4, none, none, [(0, 7), (255, 255)], 0, [], (some (.int 255)), "", false⟩,
    ⟨0x08, "fire_limit_hz", .u32, 0, 255, 0, 255, none, none, [], 0, [], none, "Hz", false⟩,
    ⟨0x09, "line_index", .u64, 0, 255, 0, 255, none, none, [], 0, [], (some (.int 0)), "", false⟩,
    ⟨0x0A, "lines_not_issued", .u64, 0, 255, 0, 255, none, none, [], 0, [], (some (.int 0)), "", false⟩ ]

/-- 16#3050 speed_advice (R89). -/
def odRows_speed_advice : List OdRow :=
  [ ⟨0x01, "overspeed_warn_percent", .u8, 0, 2, 1, 0, (some 50), (some 100), [], 0, [], (some (.int 95)), "%", false⟩,
    ⟨0x02, "speed_adv_reason_enable", .bits32, 0, 2, 1, 0, none, none, [], 0x1F, [], (some (.int 31)), "", false⟩,
    ⟨0x03, "speed_adv_hold_ms", .u16, 0, 2, 1, 0, (some 0), (some 60000), [], 0, [], (some (.int 10)), "ms", false⟩,
    ⟨0x04, "speed_adv_reasons", .bits32, 0, 255, 0, 255, none, none, [], 0, [], (some (.int 0)), "", false⟩,
    ⟨0x05, "speed_adv_count", .u32, 0, 255, 0, 255, none, none, [], 0, [], (some (.int 0)), "", false⟩ ]

/-- 16#3100 to 16#3107 lane_trigger (R90). -/
def odRows_lane_trigger : List OdRow :=
  [ ⟨0x01, "trig_enable", .bool, 0, 2, 1, 4, none, none, [], 0, [], (some (.int 0)), "", false⟩,
    ⟨0x02, "trig_source", .enum8, 0, 2, 1, 4, none, none, [(0, 0), (16, 19)], 0, [], (some (.int 0)), "", false⟩,
    ⟨0x03, "trig_edge", .enum8, 0, 2, 1, 4, none, none, [(0, 0), (1, 1)], 0, [], (some (.int 0)), "", false⟩,
    ⟨0x04, "trig_filter_ns", .u16, 0, 2, 1, 4, (some 0), (some 65535), [], 0, [], (some (.int 1000)), "ns", false⟩,
    ⟨0x05, "trig_latency_ns", .u32, 0, 2, 1, 2, (some 0), (some 100000), [], 0, [], (some (.int 0)), "ns", false⟩,
    ⟨0x06, "trigger_distance_um", .u32, 0, 2, 1, 2, (some 0), (some 4000000), [], 0, [], (some (.int 0)), "µm", false⟩,
    ⟨0x07, "pitch_guard_um", .u32, 0, 2, 1, 2, none, none, [], 0, [], (some (.int 0)), "µm", false⟩,
    ⟨0x08, "triggers_seen", .u64, 0, 255, 0, 255, none, none, [], 0, [], (some (.int 0)), "", false⟩,
    ⟨0x0A, "triggers_rejected_pitch", .u32, 0, 255, 0, 255, none, none, [], 0, [], (some (.int 0)), "", false⟩,
    ⟨0x0B, "triggers_rejected_state", .u32, 0, 255, 0, 255, none, none, [], 0, [], (some (.int 0)), "", false⟩,
    ⟨0x0C, "last_stamp_ps", .u64, 0, 255, 0, 255, none, none, [], 0, [], (some (.int 0)), "", false⟩,
    ⟨0x0D, "last_stamp_time", .time64, 0, 255, 0, 255, none, none, [], 0, [], (some (.int 0)), "", false⟩,
    ⟨0x0E, "lane_correction_ps", .i32, 0, 3, 1, 2, none, none, [], 0, [], (some (.int 0)), "", false⟩ ]

/-- 16#3180 to 16#3183 lubber_mark (R91). -/
def odRows_lubber_mark : List OdRow :=
  [ ⟨0x01, "mark_enable", .bool, 0, 2, 1, 4, none, none, [], 0, [], (some (.int 0)), "", false⟩,
    ⟨0x02, "mark_lane", .u8, 0, 2, 1, 4, (some 0), (some 7), [], 0, [], (some (.int 0)), "", false⟩,
    ⟨0x03, "mark_mode", .enum8, 0, 2, 1, 4, none, none, [(0, 0), (1, 1)], 0, [], (some (.int 1)), "", false⟩,
    ⟨0x04, "mark_edge", .enum8, 0, 2, 1, 4, none, none, [(0, 1)], 0, [], (some (.int 0)), "", false⟩,
    ⟨0x05, "mark_filter_ns", .u16, 0, 2, 1, 4, none, none, [], 0, [], (some (.int 200)), "ns", false⟩,
    ⟨0x06, "mark_latency_ns", .u32, 0, 2, 1, 0, (some 0), (some 100000), [], 0, [], (some (.int 0)), "ns", false⟩,
    ⟨0x07, "mark_expect_um", .i32, 0, 2, 1, 2, none, none, [], 0, [], (some (.int 0)), "µm", false⟩,
    ⟨0x08, "mark_window_um", .u32, 0, 2, 1, 0, (some 0), (some 100000), [], 0, [], (some (.int 2000)), "µm", false⟩,
    ⟨0x09, "mark_gain_percent", .u8, 0, 2, 1, 0, (some 0), (some 100), [], 0, [], (some (.int 50)), "%", false⟩,
    ⟨0x0A, "mark_step_limit_um", .u32, 0, 2, 1, 0, (some 0), (some 10000), [], 0, [], (some (.int 200)), "µm", false⟩,
    ⟨0x0B, "mark_error_um", .i32, 0, 255, 0, 255, none, none, [], 0, [], (some (.int 0)), "µm", false⟩,
    ⟨0x0C, "marks_unpaired", .u32, 0, 255, 0, 255, none, none, [], 0, [], (some (.int 0)), "", false⟩,
    ⟨0x0D, "marks_missing", .u32, 0, 255, 0, 255, none, none, [], 0, [], (some (.int 0)), "", false⟩ ]

/-- 16#3200 to 16#3203 camera_trigger (R92). -/
def odRows_camera_trigger : List OdRow :=
  [ ⟨0x01, "cam_trig_enable", .bool, 0, 2, 1, 4, none, none, [], 0, [], (some (.int 0)), "", false⟩,
    ⟨0x02, "cam_lane_mask", .bits32, 0, 2, 1, 2, none, none, [], 0xFF, [], (some (.int 0)), "", false⟩,
    ⟨0x03, "cam_distance_um", .u32, 0, 2, 1, 2, (some 0), (some 4000000), [], 0, [], (some (.int 0)), "µm", false⟩,
    ⟨0x04, "cam_offset_um", .i32, 0, 2, 1, 2, none, none, [], 0, [], (some (.int 0)), "µm", false⟩,
    ⟨0x05, "cam_latency_ns", .u32, 0, 2, 1, 2, (some 0), (some 1000000), [], 0, [], (some (.int 0)), "ns", false⟩,
    ⟨0x06, "cam_min_interval_us", .u32, 0, 2, 1, 0, (some 1), (some 10000000), [], 0, [], (some (.int 1000)), "µs", false⟩,
    ⟨0x07, "cam_pulse_us", .u16, 0, 2, 1, 0, (some 1), (some 10000), [], 0, [], (some (.int 10)), "µs", false⟩,
    ⟨0x08, "cam_trig_issued", .u64, 0, 255, 0, 255, none, none, [], 0, [], (some (.int 0)), "", false⟩,
    ⟨0x09, "cam_trig_skipped", .u32, 0, 255, 0, 255, none, none, [], 0, [], (some (.int 0)), "", false⟩ ]

/-- 16#3280 to 16#3281 beam_tick (R93). -/
def odRows_beam_tick : List OdRow :=
  [ ⟨0x01, "beam_distance_um", .u32, 0, 2, 1, 4, (some 0), (some 4000000), [], 0, [], (some (.int 0)), "µm", false⟩,
    ⟨0x02, "beam_latency_ns", .u32, 0, 2, 1, 1, (some 0), (some 1000000), [], 0, [], (some (.int 0)), "ns", false⟩,
    ⟨0x03, "beam_advance_ps", .u32, 0, 255, 0, 255, none, none, [], 0, [], (some (.int 0)), "", false⟩,
    ⟨0x04, "beam_grid_phase_ps", .i64, 0, 255, 0, 255, none, none, [], 0, [], (some (.int 0)), "", false⟩ ]

/-- 16#3400 to 16#3407 lane_config (R228). -/
def odRows_lane_config : List OdRow :=
  [ ⟨0x01, "lane_enable", .bool, 0, 2, 1, 4, none, none, [], 0, [], (some (.int 0)), "", false⟩,
    ⟨0x02, "lane_target", .enum8, 0, 2, 1, 4, none, none, [(0, 0), (1, 1), (2, 2)], 0, [], (some (.int 0)), "", false⟩,
    ⟨0x03, "lane_planes", .bits32, 0, 2, 1, 4, none, none, [], 0xF, [], (some (.int 15)), "", false⟩,
    ⟨0x04, "queue_low_mark", .u16, 0, 2, 1, 0, (some 0), (some 4096), [], 0, [], (some (.int 16)), "", false⟩,
    ⟨0x05, "verdict_timeout_ms", .u32, 0, 2, 1, 0, (some 10), (some 60000), [], 0, [], (some (.int 2000)), "ms", false⟩,
    ⟨0x06, "lane_flush", .bool, 0, 1, 0, 0, none, none, [], 0, [], (some (.int 0)), "", true⟩,
    ⟨0x07, "next_record_set", .u32, 0, 2, 1, 0, (some 1), (some 4294967295), [], 0, [], (some (.int 1)), "", false⟩ ]

/-- 16#3410 to 16#3417 lane_status (R229). -/
def odRows_lane_status : List OdRow :=
  [ ⟨0x01, "queue_depth", .u16, 0, 255, 0, 255, none, none, [], 0, [], (some (.int 0)), "", false⟩,
    ⟨0x02, "next_record", .u32, 0, 255, 0, 255, none, none, [], 0, [], (some (.int 1)), "", false⟩,
    ⟨0x03, "head_record", .u32, 0, 255, 0, 255, none, none, [], 0, [], (some (.int 0)), "", false⟩,
    ⟨0x04, "records_accepted", .u64, 0, 255, 0, 255, none, none, [], 0, [], (some (.int 0)), "", false⟩,
    ⟨0x05, "records_refused", .u32, 0, 255, 0, 255, none, none, [], 0, [], (some (.int 0)), "", false⟩,
    ⟨0x06, "records_flushed", .u32, 0, 255, 0, 255, none, none, [], 0, [], (some (.int 0)), "", false⟩,
    ⟨0x07, "last_refusal", .enum8, 0, 255, 0, 255, none, none, [], 0, [], (some (.int 0)), "", false⟩,
    ⟨0x08, "consumed_mark", .u32, 0, 255, 0, 255, none, none, [], 0, [], (some (.int 0)), "", false⟩ ]

/-- 16#3420 to 16#3427 ledger (R230). -/
def odRows_ledger : List OdRow :=
  [ ⟨0x01, "triggers_accepted", .u64, 0, 255, 0, 255, none, none, [], 0, [], (some (.int 0)), "", false⟩,
    ⟨0x02, "in_flight", .u16, 0, 255, 0, 255, none, none, [], 0, [], (some (.int 0)), "", false⟩,
    ⟨0x03, "ledger_validity", .enum8, 0, 255, 0, 255, none, none, [], 0, [], (some (.int 0)), "", false⟩,
    ⟨0x04, "ledger_reset", .bool, 0, 3, 0, 0, none, none, [], 0, [], (some (.int 0)), "", true⟩,
    ⟨0x05, "last_reset_time", .time64, 0, 255, 0, 255, none, none, [], 0, [], (some (.int 0)), "", false⟩,
    ⟨0x10, "count_marked", .u64, 0, 255, 0, 255, none, none, [], 0, [], (some (.int 0)), "", false⟩,
    ⟨0x11, "count_marked_degraded", .u64, 0, 255, 0, 255, none, none, [], 0, [], (some (.int 0)), "", false⟩,
    ⟨0x12, "count_reversed", .u64, 0, 255, 0, 255, none, none, [], 0, [], (some (.int 0)), "", false⟩,
    ⟨0x13, "count_unmarked_unbound", .u64, 0, 255, 0, 255, none, none, [], 0, [], (some (.int 0)), "", false⟩,
    ⟨0x14, "count_unmarked_overflow", .u64, 0, 255, 0, 255, none, none, [], 0, [], (some (.int 0)), "", false⟩,
    ⟨0x15, "count_unmarked_gated", .u64, 0, 255, 0, 255, none, none, [], 0, [], (some (.int 0)), "", false⟩,
    ⟨0x16, "count_unmarked_fault", .u64, 0, 255, 0, 255, none, none, [], 0, [], (some (.int 0)), "", false⟩,
    ⟨0x17, "count_unmarked_power", .u64, 0, 255, 0, 255, none, none, [], 0, [], (some (.int 0)), "", false⟩,
    ⟨0x18, "count_partial_power", .u64, 0, 255, 0, 255, none, none, [], 0, [], (some (.int 0)), "", false⟩,
    ⟨0x19, "count_partial_switchover", .u64, 0, 255, 0, 255, none, none, [], 0, [], (some (.int 0)), "", false⟩,
    ⟨0x20, "verdict_pending", .u32, 0, 255, 0, 255, none, none, [], 0, [], (some (.int 0)), "", false⟩,
    ⟨0x21, "verdict_pass", .u64, 0, 255, 0, 255, none, none, [], 0, [], (some (.int 0)), "", false⟩,
    ⟨0x22, "verdict_fail", .u64, 0, 255, 0, 255, none, none, [], 0, [], (some (.int 0)), "", false⟩,
    ⟨0x23, "verdict_not_seen", .u64, 0, 255, 0, 255, none, none, [], 0, [], (some (.int 0)), "", false⟩,
    ⟨0x24, "rejects_issued", .u64, 0, 255, 0, 255, none, none, [], 0, [], (some (.int 0)), "", false⟩ ]

/-- 16#3480 item_window (R231). -/
def odRows_item_window : List OdRow :=
  [ ⟨0x01, "slots_used", .u8, 0, 255, 0, 255, none, none, [], 0, [], (some (.int 0)), "", false⟩,
    ⟨0x02, "in_flight_total", .u8, 0, 255, 0, 255, none, none, [], 0, [], (some (.int 0)), "", false⟩,
    ⟨0x03, "verdict_store_used", .u16, 0, 255, 0, 255, none, none, [], 0, [], (some (.int 0)), "", false⟩,
    ⟨0x04, "verdict_store_forced", .u32, 0, 255, 0, 255, none, none, [], 0, [], (some (.int 0)), "", false⟩,
    ⟨0x05, "next_item_sequence", .u32, 0, 255, 0, 255, none, none, [], 0, [], (some (.int 1)), "", false⟩ ]

/-- 16#3490 ledger_query (R232). -/
def odRows_ledger_query : List OdRow :=
  [ ⟨0x01, "query_sequence", .u32, 0, 0, 3, 0, none, none, [], 0, [], (some (.int 0)), "", false⟩,
    ⟨0x02, "query_found", .bool, 0, 255, 3, 255, none, none, [], 0, [], (some (.int 0)), "", false⟩,
    ⟨0x03, "query_entry", (.blob 56), 0, 255, 3, 255, none, none, [], 0, [], (some (.bytes [])), "", false⟩ ]

/-- 16#3500 to 16#3503 reject_gate (R233). -/
def odRows_reject_gate : List OdRow :=
  [ ⟨0x01, "rej_enable", .bool, 0, 2, 1, 4, none, none, [], 0, [], (some (.int 0)), "", false⟩,
    ⟨0x02, "rej_lane_mask", .bits32, 0, 2, 1, 2, none, none, [], 0xFF, [], (some (.int 0)), "", false⟩,
    ⟨0x03, "rej_distance_um", .u32, 0, 2, 1, 2, (some 0), (some 20000000), [], 0, [], (some (.int 0)), "µm", false⟩,
    ⟨0x04, "rej_latency_ns", .u32, 0, 2, 1, 2, (some 0), (some 100000000), [], 0, [], (some (.int 0)), "ns", false⟩,
    ⟨0x05, "rej_disposition_mask", .bits32, 0, 2, 1, 2, none, none, [], 0x3FF, [], (some (.int 1022)), "", false⟩,
    ⟨0x06, "rej_verdict_mask", .bits32, 0, 2, 1, 2, none, none, [], 0xF, [], (some (.int 13)), "", false⟩,
    ⟨0x07, "rej_pulse_ms", .u16, 0, 2, 1, 0, (some 1), (some 10000), [], 0, [], (some (.int 50)), "ms", false⟩,
    ⟨0x08, "rej_issued", .u64, 0, 255, 0, 255, none, none, [], 0, [], (some (.int 0)), "", false⟩,
    ⟨0x09, "rej_pulse_merged", .u32, 0, 255, 0, 255, none, none, [], 0, [], (some (.int 0)), "", false⟩ ]

/-- 16#3800 compositor_config (R280). -/
def odRows_compositor_config : List OdRow :=
  [ ⟨0x01, "resource_store_mib", .u16, 0, 3, 1, 5, (some 64), (some 4096), [], 0, [], (some (.int 512)), "MiB", false⟩,
    ⟨0x02, "pre_resolve_depth", .u8, 0, 2, 1, 0, (some 0), (some 64), [], 0, [], (some (.int 8)), "", false⟩,
    ⟨0x03, "date_time_policy", .enum8, 0, 2, 1, 2, none, none, [(0, 0), (1, 1), (2, 2)], 0, [], (some (.int 1)), "", false⟩,
    ⟨0x04, "fixed_production_date", .time64, 0, 1, 1, 2, none, none, [], 0, [], (some (.int 0)), "", false⟩,
    ⟨0x05, "gs1_table_release", (.str 8), 0, 255, 0, 255, none, none, [], 0, [], none, "", false⟩ ]

/-- 16#3801 compositor_status (R281). -/
def odRows_compositor_status : List OdRow :=
  [ ⟨0x01, "items_composing", .u8, 0, 255, 0, 255, none, none, [], 0, [], (some (.int 0)), "", false⟩,
    ⟨0x02, "symbol_queue", .u8, 0, 255, 0, 255, none, none, [], 0, [], (some (.int 0)), "", false⟩,
    ⟨0x03, "symbols_encoded", .u64, 0, 255, 0, 255, none, none, [], 0, [], (some (.int 0)), "", false⟩,
    ⟨0x04, "symbol_time_max_us", .u16, 0, 255, 0, 255, none, none, [], 0, [], (some (.int 0)), "µs", false⟩,
    ⟨0x05, "error_count", .u32, 0, 255, 0, 255, none, none, [], 0, [], (some (.int 0)), "", false⟩,
    ⟨0x06, "last_error_code", .enum8, 0, 255, 0, 255, none, none, [], 0, [], (some (.int 0)), "", false⟩,
    ⟨0x07, "last_error_item", .u32, 0, 255, 0, 255, none, none, [], 0, [], (some (.int 0)), "", false⟩,
    ⟨0x08, "last_error_field", .u8, 0, 255, 0, 255, none, none, [], 0, [], (some (.int 255)), "", false⟩,
    ⟨0x09, "clipped_pixels", .u64, 0, 255, 0, 255, none, none, [], 0, [], (some (.int 0)), "", false⟩,
    ⟨0x0A, "compose_load_percent", .u8, 0, 255, 0, 255, none, none, [], 0, [], (some (.int 0)), "%", false⟩,
    ⟨0x0B, "compose_rate_percent", .u8, 0, 255, 0, 255, none, none, [], 0, [], (some (.int 100)), "%", false⟩ ]

/-- 16#3802 composition_errors (R282). -/
def odRows_composition_errors : List OdRow :=
  [ ⟨0x01, "err_mould_absent", .u32, 0, 255, 0, 255, none, none, [], 0, [], (some (.int 0)), "", false⟩,
    ⟨0x02, "err_lpi_mismatch", .u32, 0, 255, 0, 255, none, none, [], 0, [], (some (.int 0)), "", false⟩,
    ⟨0x03, "err_field_unknown", .u32, 0, 255, 0, 255, none, none, [], 0, [], (some (.int 0)), "", false⟩,
    ⟨0x04, "err_field_value", .u32, 0, 255, 0, 255, none, none, [], 0, [], (some (.int 0)), "", false⟩,
    ⟨0x05, "err_glyph_missing", .u32, 0, 255, 0, 255, none, none, [], 0, [], (some (.int 0)), "", false⟩,
    ⟨0x06, "err_overflow", .u32, 0, 255, 0, 255, none, none, [], 0, [], (some (.int 0)), "", false⟩,
    ⟨0x07, "err_symbol_capacity", .u32, 0, 255, 0, 255, none, none, [], 0, [], (some (.int 0)), "", false⟩,
    ⟨0x08, "err_gs1_syntax", .u32, 0, 255, 0, 255, none, none, [], 0, [], (some (.int 0)), "", false⟩,
    ⟨0x09, "err_counter_exhausted", .u32, 0, 255, 0, 255, none, none, [], 0, [], (some (.int 0)), "", false⟩,
    ⟨0x0A, "err_counter_unknown", .u32, 0, 255, 0, 255, none, none, [], 0, [], (some (.int 0)), "", false⟩,
    ⟨0x0B, "err_time_invalid", .u32, 0, 255, 0, 255, none, none, [], 0, [], (some (.int 0)), "", false⟩,
    ⟨0x0C, "err_overlap", .u32, 0, 255, 0, 255, none, none, [], 0, [], (some (.int 0)), "", false⟩,
    ⟨0x0D, "err_decode", .u32, 0, 255, 0, 255, none, none, [], 0, [], (some (.int 0)), "", false⟩,
    ⟨0x0E, "err_weight_refused", .u32, 0, 255, 0, 255, none, none, [], 0, [], (some (.int 0)), "", false⟩ ]

/-- 16#3810 to 16#3815 compose_ring (R283). -/
def odRows_compose_ring : List OdRow :=
  [ ⟨0x01, "look_ahead_lines", .u16, 0, 2, 1, 4, (some 16), (some 256), [], 0, [], (some (.int 256)), "", false⟩,
    ⟨0x02, "resume_gap_lines", .u16, 0, 2, 1, 0, none, none, [], 0, [], (some (.int 16)), "", false⟩,
    ⟨0x03, "look_ahead_now", .u16, 0, 255, 0, 255, none, none, [], 0, [], (some (.int 0)), "", false⟩,
    ⟨0x04, "look_ahead_min", .u16, 0, 255, 0, 255, none, none, [], 0, [], (some (.int 256)), "", false⟩,
    ⟨0x05, "look_ahead_min_clear", .bool, 0, 1, 0, 0, none, none, [], 0, [], (some (.int 0)), "", true⟩,
    ⟨0x06, "couch_frontier", .u64, 0, 255, 0, 255, none, none, [], 0, [], (some (.int 0)), "", false⟩,
    ⟨0x07, "lines_couched", .u64, 0, 255, 0, 255, none, none, [], 0, [], (some (.int 0)), "", false⟩,
    ⟨0x08, "lines_blank", .u64, 0, 255, 0, 255, none, none, [], 0, [], (some (.int 0)), "", false⟩ ]

/-- 16#3820 mould_query (R284). -/
def odRows_mould_query : List OdRow :=
  [ ⟨0x01, "query_mould", .u16, 0, 0, 3, 0, (some 0), (some 1023), [], 0, [], (some (.int 0)), "", false⟩,
    ⟨0x02, "mould_resident", .bool, 0, 255, 3, 255, none, none, [], 0, [], (some (.int 0)), "", false⟩,
    ⟨0x03, "mould_revision", .u32, 0, 255, 3, 255, none, none, [], 0, [], (some (.int 0)), "", false⟩,
    ⟨0x04, "mould_bytes", .u32, 0, 255, 3, 255, none, none, [], 0, [], (some (.int 0)), "B", false⟩,
    ⟨0x05, "mould_planes", .bits32, 0, 255, 3, 255, none, none, [], 0, [], (some (.int 0)), "", false⟩,
    ⟨0x06, "mould_width_px", .u32, 0, 255, 3, 255, none, none, [], 0, [], (some (.int 0)), "", false⟩,
    ⟨0x07, "mould_height_lines", .u32, 0, 255, 3, 255, none, none, [], 0, [], (some (.int 0)), "", false⟩,
    ⟨0x08, "mould_field_count", .u8, 0, 255, 3, 255, none, none, [], 0, [], (some (.int 0)), "", false⟩,
    ⟨0x09, "mould_pinned", .u16, 0, 255, 3, 255, none, none, [], 0, [], (some (.int 0)), "", false⟩,
    ⟨0x0A, "mould_commit_time", .time64, 0, 255, 3, 255, none, none, [], 0, [], (some (.int 0)), "", false⟩ ]

/-- 16#3821 mould_control (R285). -/
def odRows_mould_control : List OdRow :=
  [ ⟨0x01, "mould_delete", .u16, 0, 2, 0, 0, (some 0), (some 1023), [], 0, [], (some (.int 0)), "", true⟩,
    ⟨0x02, "last_commit_error", .enum8, 0, 255, 0, 255, none, none, [], 0, [], (some (.int 0)), "", false⟩,
    ⟨0x03, "last_commit_field", .u8, 0, 255, 0, 255, none, none, [], 0, [], (some (.int 255)), "", false⟩,
    ⟨0x04, "resource_store_used_kib", .u32, 0, 255, 0, 255, none, none, [], 0, [], (some (.int 0)), "KiB", false⟩,
    ⟨0x05, "moulds_resident", .u16, 0, 255, 0, 255, none, none, [], 0, [], (some (.int 0)), "", false⟩ ]

/-- 16#3830 glyph_query (R286). -/
def odRows_glyph_query : List OdRow :=
  [ ⟨0x01, "query_set", .u8, 0, 0, 3, 0, (some 0), (some 31), [], 0, [], (some (.int 0)), "", false⟩,
    ⟨0x02, "set_resident", .bool, 0, 255, 3, 255, none, none, [], 0, [], (some (.int 0)), "", false⟩,
    ⟨0x03, "set_revision", .u32, 0, 255, 3, 255, none, none, [], 0, [], (some (.int 0)), "", false⟩,
    ⟨0x04, "set_glyphs", .u32, 0, 255, 3, 255, none, none, [], 0, [], (some (.int 0)), "", false⟩,
    ⟨0x05, "set_bpp", .u8, 0, 255, 3, 255, none, none, [], 0, [], (some (.int 0)), "", false⟩,
    ⟨0x06, "set_lpi", .enum8, 0, 255, 3, 255, none, none, [], 0, [], (some (.int 2)), "", false⟩,
    ⟨0x07, "set_pinned", .u16, 0, 255, 3, 255, none, none, [], 0, [], (some (.int 0)), "", false⟩,
    ⟨0x08, "set_bytes", .u32, 0, 255, 3, 255, none, none, [], 0, [], (some (.int 0)), "B", false⟩ ]

/-- 16#3831 glyph_control (R287). -/
def odRows_glyph_control : List OdRow :=
  [ ⟨0x01, "glyph_set_delete", .u8, 0, 2, 0, 0, none, none, [(0, 31), (255, 255)], 0, [], (some (.int 255)), "", true⟩,
    ⟨0x02, "sets_resident", .u8, 0, 255, 0, 255, none, none, [], 0, [], (some (.int 0)), "", false⟩ ]

/-- 16#3840 to 16#387F counter (R288). -/
def odRows_counter : List OdRow :=
  [ ⟨0x01, "counter_value", .u64, 0, 1, 0, 2, none, none, [], 0, [], (some (.int 0)), "", false⟩,
    ⟨0x02, "counter_step", .i32, 0, 2, 1, 2, none, none, [], 0, [], (some (.int 1)), "", false⟩,
    ⟨0x03, "counter_min", .u64, 0, 2, 1, 2, none, none, [], 0, [], (some (.int 0)), "", false⟩,
    ⟨0x04, "counter_max", .u64, 0, 2, 1, 2, none, none, [], 0, [], (some (.int 999999999)), "", false⟩,
    ⟨0x05, "counter_limit_action", .enum8, 0, 2, 1, 2, none, none, [(0, 0), (1, 1)], 0, [], (some (.int 0)), "", false⟩,
    ⟨0x06, "counter_validity", .enum8, 0, 255, 0, 255, none, none, [], 0, [], (some (.int 0)), "", false⟩,
    ⟨0x07, "counter_advances", .u64, 0, 255, 0, 255, none, none, [], 0, [], (some (.int 0)), "", false⟩,
    ⟨0x08, "counter_exhausted", .bool, 0, 255, 0, 255, none, none, [], 0, [], (some (.int 0)), "", false⟩ ]

/-- 16#3880 to 16#3887 time_zone (R289). -/
def odRows_time_zone : List OdRow :=
  [ ⟨0x01, "tz_std_offset_min", .i16, 0, 2, 1, 2, (some (-840)), (some 840), [], 0, [], (some (.int 0)), "min", false⟩,
    ⟨0x02, "tz_dst_offset_min", .i16, 0, 2, 1, 2, (some 0), (some 120), [], 0, [], (some (.int 0)), "min", false⟩,
    ⟨0x03, "tz_dst_start", .u32, 0, 2, 1, 2, none, none, [], 0, [], (some (.int 0)), "", false⟩,
    ⟨0x04, "tz_dst_end", .u32, 0, 2, 1, 2, none, none, [], 0, [], (some (.int 0)), "", false⟩,
    ⟨0x05, "tz_name", (.str 8), 0, 2, 1, 2, none, none, [], 0, [], (some (.bytes [])), "", false⟩ ]

/-- The groups of this range, lowest index first. -/
def odGroupsA : List OdGroup :=
  [ ⟨0x1000, 1, odRows_device_identity⟩,
    ⟨0x1010, 1, odRows_od_describe⟩,
    ⟨0x1020, 1, odRows_session_self⟩,
    ⟨0x1100, 3, odRows_net_port⟩,
    ⟨0x1110, 1, odRows_redundancy⟩,
    ⟨0x1200, 1, odRows_klp_config⟩,
    ⟨0x1210, 8, odRows_session_status⟩,
    ⟨0x1300, 1, odRows_role_keys⟩,
    ⟨0x2000, 1, odRows_management⟩,
    ⟨0x2100, 1, odRows_change_log⟩,
    ⟨0x2200, 1, odRows_firmware_update⟩,
    ⟨0x2201, 1, odRows_boot_status⟩,
    ⟨0x2300, 1, odRows_integrator_core⟩,
    ⟨0x2400, 1, odRows_ptp_config⟩,
    ⟨0x2401, 1, odRows_ptp_status⟩,
    ⟨0x3000, 4, odRows_encoder⟩,
    ⟨0x3010, 1, odRows_web_geometry⟩,
    ⟨0x3020, 1, odRows_tracker_config⟩,
    ⟨0x3030, 1, odRows_tracker_status⟩,
    ⟨0x3040, 4, odRows_plane_tick⟩,
    ⟨0x3050, 1, odRows_speed_advice⟩,
    ⟨0x3100, 8, odRows_lane_trigger⟩,
    ⟨0x3180, 4, odRows_lubber_mark⟩,
    ⟨0x3200, 4, odRows_camera_trigger⟩,
    ⟨0x3280, 2, odRows_beam_tick⟩,
    ⟨0x3400, 8, odRows_lane_config⟩,
    ⟨0x3410, 8, odRows_lane_status⟩,
    ⟨0x3420, 8, odRows_ledger⟩,
    ⟨0x3480, 1, odRows_item_window⟩,
    ⟨0x3490, 1, odRows_ledger_query⟩,
    ⟨0x3500, 4, odRows_reject_gate⟩,
    ⟨0x3800, 1, odRows_compositor_config⟩,
    ⟨0x3801, 1, odRows_compositor_status⟩,
    ⟨0x3802, 1, odRows_composition_errors⟩,
    ⟨0x3810, 6, odRows_compose_ring⟩,
    ⟨0x3820, 1, odRows_mould_query⟩,
    ⟨0x3821, 1, odRows_mould_control⟩,
    ⟨0x3830, 1, odRows_glyph_query⟩,
    ⟨0x3831, 1, odRows_glyph_control⟩,
    ⟨0x3840, 64, odRows_counter⟩,
    ⟨0x3880, 8, odRows_time_zone⟩ ]

end Sys2Proof.Machine
end

