-- ==== Sys2Proof/Machine/OdTableB.lean ====
section
/-! DEFINITION. Rows of the object dictionary, indexes 16#4000 to 16#53FF, as the object tables of
spec/02 to spec/20 give them. -/

namespace Sys2Proof.Machine

/-- 16#4000 to 16#4003 plane_firing (R431). -/
def odRows_plane_firing : List OdRow :=
  [ ⟨0x01, "firing_enable", .bool, 0, 1, 0, 1, none, none, [], 0, [], (some (.int 0)), "", false⟩,
    ⟨0x02, "channel_mask", .u64, 0, 2, 1, 4, none, none, [], 0xFFFFFFFFFFFF, [], (some (.int 281474976710655)), "", false⟩,
    ⟨0x03, "lookahead_low_mark", .u16, 0, 2, 1, 0, (some 8), (some 255), [], 0, [], (some (.int 64)), "", false⟩,
    ⟨0x04, "max_drop_level", .u8, 0, 2, 1, 1, (some 1), (some 3), [], 0, [], (some (.int 3)), "", false⟩,
    ⟨0x05, "wave_slots", .u32, 0, 2, 1, 1, none, none, [], 0xF0F0F0F, [], (some (.int 0)), "", false⟩,
    ⟨0x06, "wave_band_1_hz", .u32, 0, 2, 1, 1, none, none, [], 0, [], (some (.int 4294967295)), "Hz", false⟩,
    ⟨0x07, "wave_band_2_hz", .u32, 0, 2, 1, 1, none, none, [], 0, [], (some (.int 4294967295)), "Hz", false⟩,
    ⟨0x08, "wave_band_3_hz", .u32, 0, 2, 1, 1, none, none, [], 0, [], (some (.int 4294967295)), "Hz", false⟩,
    ⟨0x09, "tickle_enable", .bool, 0, 2, 1, 1, none, none, [], 0, [], (some (.int 0)), "", false⟩,
    ⟨0x0A, "preheat_percent", .u8, 0, 2, 1, 1, (some 0), (some 100), [], 0, [], (some (.int 0)), "%", false⟩,
    ⟨0x0B, "spit_enable", .bool, 0, 2, 1, 1, none, none, [], 0, [], (some (.int 0)), "", false⟩,
    ⟨0x0C, "spit_interval_lines", .u32, 0, 2, 1, 1, (some 1), (some 16777215), [], 0, [], (some (.int 10000)), "", false⟩,
    ⟨0x0D, "spit_level", .u8, 0, 2, 1, 1, (some 1), (some 3), [], 0, [], (some (.int 1)), "", false⟩,
    ⟨0x0E, "volume_remap_low", .u8, 0, 2, 1, 4, none, none, [], 0, [], (some (.int 228)), "", false⟩,
    ⟨0x0F, "volume_remap_high", .u8, 0, 2, 1, 4, none, none, [], 0, [], (some (.int 228)), "", false⟩ ]

/-- 16#4004 to 16#4007 plane_fire_status (R432). -/
def odRows_plane_fire_status : List OdRow :=
  [ ⟨0x01, "plane_state", .enum8, 0, 255, 0, 255, none, none, [], 0, [], (some (.int 0)), "", false⟩,
    ⟨0x02, "gate_reasons", .bits32, 0, 255, 0, 255, none, none, [], 0, [], (some (.int 0)), "", false⟩,
    ⟨0x03, "conflict_reason", .enum8, 0, 255, 0, 255, none, none, [], 0, [], (some (.int 0)), "", false⟩,
    ⟨0x04, "lines_issued", .u64, 0, 255, 0, 255, none, none, [], 0, [], (some (.int 0)), "", false⟩,
    ⟨0x05, "lines_data_late", .u64, 0, 255, 0, 255, none, none, [], 0, [], (some (.int 0)), "", false⟩,
    ⟨0x06, "lines_gated", .u64, 0, 255, 0, 255, none, none, [], 0, [], (some (.int 0)), "", false⟩,
    ⟨0x07, "clamp_in_effect", .u8, 0, 255, 0, 255, none, none, [], 0, [], (some (.int 3)), "", false⟩,
    ⟨0x08, "preheat_in_effect", .u8, 0, 255, 0, 255, none, none, [], 0, [], (some (.int 0)), "", false⟩,
    ⟨0x09, "band_in_effect", .u8, 0, 255, 0, 255, none, none, [], 0, [], (some (.int 0)), "", false⟩,
    ⟨0x0A, "lookahead_low_active", .bool, 0, 255, 0, 255, none, none, [], 0, [], (some (.int 0)), "", false⟩ ]

/-- 16#4008 suppression_policy (R433). -/
def odRows_suppression_policy : List OdRow :=
  [ ⟨0x01, "item_suppress_limit_0", .u32, 0, 2, 1, 2, none, none, [], 0, [], (some (.int 0)), "", false⟩,
    ⟨0x02, "item_suppress_limit_1", .u32, 0, 2, 1, 2, none, none, [], 0, [], (some (.int 0)), "", false⟩,
    ⟨0x03, "item_suppress_limit_2", .u32, 0, 2, 1, 2, none, none, [], 0, [], (some (.int 0)), "", false⟩,
    ⟨0x04, "item_suppress_limit_3", .u32, 0, 2, 1, 2, none, none, [], 0, [], (some (.int 0)), "", false⟩,
    ⟨0x05, "item_suppress_limit_4", .u32, 0, 2, 1, 2, none, none, [], 0, [], (some (.int 0)), "", false⟩,
    ⟨0x06, "item_suppress_limit_5", .u32, 0, 2, 1, 2, none, none, [], 0, [], (some (.int 0)), "", false⟩,
    ⟨0x07, "item_suppress_limit_6", .u32, 0, 2, 1, 2, none, none, [], 0, [], (some (.int 0)), "", false⟩,
    ⟨0x08, "item_suppress_limit_7", .u32, 0, 2, 1, 2, none, none, [], 0, [], (some (.int 0)), "", false⟩ ]

/-- 16#4010 to 16#4019 gate_input (R434). -/
def odRows_gate_input : List OdRow :=
  [ ⟨0x01, "gate_enable", .bool, 0, 3, 1, 4, none, none, [], 0, [], (some (.int 1)), "", false⟩,
    ⟨0x02, "gate_target", .bits32, 0, 3, 1, 0, none, none, [], 0x3F, [], none, "", false⟩,
    ⟨0x03, "gate_filter_ns", .u16, 0, 2, 1, 0, (some 0), (some 2000), [], 0, [], (some (.int 200)), "ns", false⟩,
    ⟨0x04, "gate_closed", .bool, 0, 255, 0, 255, none, none, [], 0, [], none, "", false⟩,
    ⟨0x05, "gate_closures", .u32, 0, 255, 0, 255, none, none, [], 0, [], (some (.int 0)), "", false⟩,
    ⟨0x06, "gate_change_time", .time64, 0, 255, 0, 255, none, none, [], 0, [], (some (.int 0)), "", false⟩ ]

/-- 16#4040 to 16#40FF firing_channel (R435). -/
def odRows_firing_channel : List OdRow :=
  [ ⟨0x01, "channel_state", .enum8, 0, 255, 0, 255, none, none, [], 0, [], (some (.int 0)), "", false⟩,
    ⟨0x02, "state_reason", .enum8, 0, 255, 0, 255, none, none, [], 0, [], (some (.int 0)), "", false⟩,
    ⟨0x03, "drops_demanded", .u64, 0, 255, 0, 255, none, none, [], 0, [], (some (.int 0)), "", false⟩,
    ⟨0x04, "drops_fired", .u64, 0, 255, 0, 255, none, none, [], 0, [], (some (.int 0)), "", false⟩,
    ⟨0x05, "drops_suppressed", .u64, 0, 255, 0, 255, none, none, [], 0, [], (some (.int 0)), "", false⟩,
    ⟨0x06, "supp_gated", .u64, 0, 255, 0, 255, none, none, [], 0, [], (some (.int 0)), "", false⟩,
    ⟨0x07, "supp_tick_ceiling", .u64, 0, 255, 0, 255, none, none, [], 0, [], (some (.int 0)), "", false⟩,
    ⟨0x08, "supp_recharge", .u64, 0, 255, 0, 255, none, none, [], 0, [], (some (.int 0)), "", false⟩,
    ⟨0x09, "supp_head_reject", .u64, 0, 255, 0, 255, none, none, [], 0, [], (some (.int 0)), "", false⟩,
    ⟨0x0A, "supp_head_missed", .u64, 0, 255, 0, 255, none, none, [], 0, [], (some (.int 0)), "", false⟩,
    ⟨0x0B, "supp_link_down", .u64, 0, 255, 0, 255, none, none, [], 0, [], (some (.int 0)), "", false⟩,
    ⟨0x0C, "drops_spit", .u64, 0, 255, 0, 255, none, none, [], 0, [], (some (.int 0)), "", false⟩,
    ⟨0x0D, "drops_level_clamped", .u64, 0, 255, 0, 255, none, none, [], 0, [], (some (.int 0)), "", false⟩,
    ⟨0x0E, "count_validity", .enum8, 0, 255, 0, 255, none, none, [], 0, [], (some (.int 0)), "", false⟩,
    ⟨0x0F, "counts_reset", .bool, 0, 3, 0, 0, none, none, [], 0, [], (some (.int 0)), "", true⟩,
    ⟨0x10, "late_reports", .u32, 0, 255, 0, 255, none, none, [], 0, [], (some (.int 0)), "", false⟩ ]

/-- 16#4100 to 16#411F deckle (R436). -/
def odRows_deckle : List OdRow :=
  [ ⟨0x01, "deckle_lane", .u8, 0, 255, 0, 255, none, none, [], 0, [], none, "", false⟩,
    ⟨0x02, "deckle_plane", .u8, 0, 255, 0, 255, none, none, [], 0, [], none, "", false⟩,
    ⟨0x03, "deckle_left", .u16, 0, 2, 1, 2, (some 0), (some 49151), [], 0, [], (some (.int 0)), "", false⟩,
    ⟨0x04, "deckle_width", .u16, 0, 2, 1, 2, (some 0), (some 49152), [], 0, [], (some (.int 49152)), "", false⟩ ]

/-- 16#4120 nozzle_query (R437). -/
def odRows_nozzle_query : List OdRow :=
  [ ⟨0x01, "query_plane", .u8, 0, 0, 3, 0, (some 0), (some 3), [], 0, [], (some (.int 0)), "", false⟩,
    ⟨0x02, "query_column", .u16, 0, 0, 3, 0, (some 0), (some 49151), [], 0, [], (some (.int 0)), "", false⟩,
    ⟨0x03, "nozzle_channel", .u8, 0, 255, 3, 255, none, none, [], 0, [], (some (.int 0)), "", false⟩,
    ⟨0x04, "nozzle_fired", .u64, 0, 255, 3, 255, none, none, [], 0, [], (some (.int 0)), "", false⟩,
    ⟨0x05, "nozzle_suppressed", .u64, 0, 255, 3, 255, none, none, [], 0, [], (some (.int 0)), "", false⟩,
    ⟨0x06, "nozzle_validity", .enum8, 0, 255, 3, 255, none, none, [], 0, [], (some (.int 0)), "", false⟩,
    ⟨0x07, "nozzle_idle_lines", .u32, 0, 255, 3, 255, none, none, [], 0, [], (some (.int 0)), "", false⟩ ]

/-- 16#4130 drop_checkpoint (R438). -/
def odRows_drop_checkpoint : List OdRow :=
  [ ⟨0x01, "checkpoint_time", .time64, 0, 255, 0, 255, none, none, [], 0, [], (some (.int 0)), "", false⟩,
    ⟨0x02, "checkpoints_written", .u64, 0, 255, 0, 255, none, none, [], 0, [], (some (.int 0)), "", false⟩,
    ⟨0x03, "checkpoint_failures", .u32, 0, 255, 0, 255, none, none, [], 0, [], (some (.int 0)), "", false⟩ ]

/-- 16#4400 to 16#442F head_link (R439). -/
def odRows_head_link : List OdRow :=
  [ ⟨0x01, "link_enable", .bool, 0, 2, 1, 4, none, none, [], 0, [], (some (.int 1)), "", false⟩,
    ⟨0x02, "hl_cable_ns", .u16, 0, 2, 1, 1, none, none, [], 0, [], (some (.int 0)), "ns", false⟩,
    ⟨0x03, "link_state", .enum8, 0, 255, 0, 255, none, none, [], 0, [], (some (.int 0)), "", false⟩,
    ⟨0x04, "equalisation_ns", .u16, 0, 255, 0, 255, none, none, [], 0, [], (some (.int 0)), "ns", false⟩,
    ⟨0x05, "head_serial", (.str 16), 0, 255, 0, 255, none, none, [], 0, [], (some (.bytes [])), "", false⟩,
    ⟨0x06, "head_vendor_model", .u32, 0, 255, 0, 255, none, none, [], 0, [], (some (.int 0)), "", false⟩,
    ⟨0x07, "head_kind", .enum8, 0, 255, 0, 255, none, none, [], 0, [], (some (.int 0)), "", false⟩,
    ⟨0x08, "head_latency_ns", .u32, 0, 255, 0, 255, none, none, [], 0, [], (some (.int 0)), "ns", false⟩,
    ⟨0x09, "head_fire_limit_hz", .u32, 0, 255, 0, 255, none, none, [], 0, [], (some (.int 0)), "Hz", false⟩,
    ⟨0x0A, "line_frames_sent", .u64, 0, 255, 0, 255, none, none, [], 0, [], (some (.int 0)), "", false⟩,
    ⟨0x0B, "fires_sent", .u64, 0, 255, 0, 255, none, none, [], 0, [], (some (.int 0)), "", false⟩,
    ⟨0x0C, "rejects_crc", .u32, 0, 255, 0, 255, none, none, [], 0, [], (some (.int 0)), "", false⟩,
    ⟨0x0D, "rejects_missed", .u32, 0, 255, 0, 255, none, none, [], 0, [], (some (.int 0)), "", false⟩,
    ⟨0x0E, "back_frames_bad", .u32, 0, 255, 0, 255, none, none, [], 0, [], (some (.int 0)), "", false⟩,
    ⟨0x0F, "fwd_errors_reported", .u32, 0, 255, 0, 255, none, none, [], 0, [], (some (.int 0)), "", false⟩,
    ⟨0x10, "link_losses", .u32, 0, 255, 0, 255, none, none, [], 0, [], (some (.int 0)), "", false⟩,
    ⟨0x11, "head_input", .enum8, 0, 255, 0, 255, none, none, [], 0, [], (some (.int 255)), "", false⟩,
    ⟨0x12, "pair_epoch_sent", .u16, 0, 255, 0, 255, none, none, [], 0, [], (some (.int 0)), "", false⟩,
    ⟨0x13, "head_temperature", .i16, 0, 255, 0, 255, none, none, [], 0, [], (some (.int 0)), "0.1 °C", false⟩ ]

/-- 16#4480 identity_query (R440). -/
def odRows_identity_query : List OdRow :=
  [ ⟨0x01, "query_link", .u8, 0, 0, 3, 0, (some 0), (some 47), [], 0, [], (some (.int 0)), "", false⟩,
    ⟨0x02, "identity_present", .bool, 0, 255, 3, 255, none, none, [], 0, [], (some (.int 0)), "", false⟩,
    ⟨0x03, "identity_header", (.blob 256), 0, 255, 3, 255, none, none, [], 0, [], (some (.bytes [])), "", false⟩,
    ⟨0x04, "query_block", .u8, 0, 0, 3, 0, (some 0), (some 3), [], 0, [], (some (.int 0)), "", false⟩,
    ⟨0x05, "rank_block", (.blob 2048), 0, 255, 3, 255, none, none, [], 0, [], (some (.bytes [])), "", false⟩ ]

/-- 16#4500 to 16#453F waveform_slot (R441). -/
def odRows_waveform_slot : List OdRow :=
  [ ⟨0x01, "wave_data", (.blob 128), 0, 2, 1, 0, none, none, [], 0, [128], (some (.bytes (List.replicate 128 0))), "", false⟩,
    ⟨0x02, "wave_loaded", .bits32, 0, 255, 0, 255, none, none, [], 0, [], (some (.int 0)), "", false⟩ ]

/-- 16#4800 inspection_config (R477). -/
def odRows_inspection_config : List OdRow :=
  [ ⟨0x01, "inspect_enable", .bool, 0, 2, 1, 4, none, none, [], 0, [], (some (.int 0)), "", false⟩,
    ⟨0x02, "reg_search_um", .u32, 0, 2, 1, 3, (some 100), (some 20000), [], 0, [], (some (.int 2000)), "µm", false⟩,
    ⟨0x03, "reg_min_score", .u8, 0, 2, 1, 3, (some 0), (some 100), [], 0, [], (some (.int 60)), "", false⟩,
    ⟨0x04, "min_grade_2d", .u8, 0, 2, 1, 3, (some 0), (some 40), [], 0, [], (some (.int 20)), "", false⟩,
    ⟨0x05, "min_grade_1d", .u8, 0, 2, 1, 3, (some 0), (some 40), [], 0, [], (some (.int 20)), "", false⟩,
    ⟨0x06, "grade_check_enable", .bool, 0, 2, 1, 3, none, none, [], 0, [], (some (.int 1)), "", false⟩,
    ⟨0x07, "text_mismatch_permille", .u16, 0, 2, 1, 3, (some 0), (some 1000), [], 0, [], (some (.int 150)), "‰", false⟩,
    ⟨0x08, "area_mismatch_permille", .u16, 0, 2, 1, 3, (some 0), (some 1000), [], 0, [], (some (.int 50)), "‰", false⟩ ]

/-- 16#4801 inspection_status (R478). -/
def odRows_inspection_status : List OdRow :=
  [ ⟨0x01, "results_pass", .u64, 0, 255, 0, 255, none, none, [], 0, [], (some (.int 0)), "", false⟩,
    ⟨0x02, "results_fail", .u64, 0, 255, 0, 255, none, none, [], 0, [], (some (.int 0)), "", false⟩,
    ⟨0x03, "results_not_seen", .u64, 0, 255, 0, 255, none, none, [], 0, [], (some (.int 0)), "", false⟩,
    ⟨0x04, "late_results", .u32, 0, 255, 0, 255, none, none, [], 0, [], (some (.int 0)), "", false⟩,
    ⟨0x05, "frames_not_inspected", .u32, 0, 255, 0, 255, none, none, [], 0, [], (some (.int 0)), "", false⟩,
    ⟨0x06, "inspect_load_percent", .u8, 0, 255, 0, 255, none, none, [], 0, [], (some (.int 0)), "%", false⟩,
    ⟨0x07, "last_fail_check", .enum8, 0, 255, 0, 255, none, none, [], 0, [], (some (.int 0)), "", false⟩,
    ⟨0x08, "last_fail_item", .u32, 0, 255, 0, 255, none, none, [], 0, [], (some (.int 0)), "", false⟩,
    ⟨0x09, "streaks_found", .u64, 0, 255, 0, 255, none, none, [], 0, [], (some (.int 0)), "", false⟩ ]

/-- 16#4810 to 16#4813 camera_inspection (R479). -/
def odRows_camera_inspection : List OdRow :=
  [ ⟨0x01, "cam_inspect_enable", .bool, 0, 2, 1, 4, none, none, [], 0, [], (some (.int 0)), "", false⟩,
    ⟨0x02, "cam_col_origin_mcol", .i32, 0, 2, 1, 3, none, none, [], 0, [], (some (.int 0)), "", false⟩,
    ⟨0x03, "cam_px_pitch_nm", .u32, 0, 2, 1, 3, (some 1000), (some 1000000), [], 0, [], (some (.int 21167)), "nm", false⟩,
    ⟨0x04, "cam_line_pitch_nm", .u32, 0, 2, 1, 3, (some 1000), (some 1000000), [], 0, [], (some (.int 21167)), "nm", false⟩,
    ⟨0x05, "cam_mirror", .bool, 0, 2, 1, 3, none, none, [], 0, [], (some (.int 0)), "", false⟩,
    ⟨0x06, "cam_frames_inspected", .u64, 0, 255, 0, 255, none, none, [], 0, [], (some (.int 0)), "", false⟩ ]

/-- 16#4820 to 16#4823 test_bar (R480). -/
def odRows_test_bar : List OdRow :=
  [ ⟨0x01, "bar_enable", .bool, 0, 2, 1, 0, none, none, [], 0, [], (some (.int 0)), "", false⟩,
    ⟨0x02, "bar_stagger", .u8, 0, 2, 1, 0, (some 2), (some 32), [], 0, [], (some (.int 8)), "", false⟩,
    ⟨0x03, "bar_dash_lines", .u8, 0, 2, 1, 0, (some 1), (some 64), [], 0, [], (some (.int 8)), "", false⟩,
    ⟨0x04, "bar_gap_lines", .u8, 0, 2, 1, 0, (some 0), (some 64), [], 0, [], (some (.int 8)), "", false⟩,
    ⟨0x05, "bar_guard_lines", .u16, 0, 2, 1, 0, (some 0), (some 1024), [], 0, [], (some (.int 32)), "", false⟩,
    ⟨0x06, "bar_level", .u8, 0, 2, 1, 0, (some 1), (some 3), [], 0, [], (some (.int 2)), "", false⟩,
    ⟨0x07, "bar_interval_ms", .u32, 0, 2, 1, 0, (some 1), (some 3600000), [], 0, [], (some (.int 100)), "ms", false⟩,
    ⟨0x08, "bar_left", .u16, 0, 2, 1, 0, (some 0), (some 49151), [], 0, [], (some (.int 0)), "", false⟩,
    ⟨0x09, "bar_width", .u16, 0, 2, 1, 0, (some 1), (some 49152), [], 0, [], (some (.int 49152)), "", false⟩,
    ⟨0x0A, "bar_camera_mask", .bits32, 0, 2, 1, 0, none, none, [], 0xF, [], (some (.int 0)), "", false⟩,
    ⟨0x0B, "bar_cam_offset_um", .i32, 0, 2, 1, 0, none, none, [], 0, [], (some (.int 0)), "µm", false⟩,
    ⟨0x0C, "bars_printed", .u64, 0, 255, 0, 255, none, none, [], 0, [], (some (.int 0)), "", false⟩,
    ⟨0x0D, "bars_evaluated", .u64, 0, 255, 0, 255, none, none, [], 0, [], (some (.int 0)), "", false⟩,
    ⟨0x0E, "bars_abandoned", .u32, 0, 255, 0, 255, none, none, [], 0, [], (some (.int 0)), "", false⟩,
    ⟨0x0F, "bars_unseen", .u32, 0, 255, 0, 255, none, none, [], 0, [], (some (.int 0)), "", false⟩ ]

/-- 16#4830 to 16#4833 nozzle_health (R481). -/
def odRows_nozzle_health : List OdRow :=
  [ ⟨0x01, "auto_compensate", .bool, 0, 2, 1, 0, none, none, [], 0, [], (some (.int 1)), "", false⟩,
    ⟨0x02, "confirm_count", .u8, 0, 2, 1, 0, (some 1), (some 16), [], 0, [], (some (.int 2)), "", false⟩,
    ⟨0x03, "missing_percent", .u8, 0, 2, 1, 0, (some 1), (some 99), [], 0, [], (some (.int 25)), "%", false⟩,
    ⟨0x04, "weak_percent", .u8, 0, 2, 1, 0, (some 1), (some 99), [], 0, [], (some (.int 70)), "%", false⟩,
    ⟨0x05, "strong_percent", .u16, 0, 2, 1, 0, (some 101), (some 400), [], 0, [], (some (.int 140)), "%", false⟩,
    ⟨0x06, "deviation_limit_um", .u16, 0, 2, 1, 0, (some 1), (some 1000), [], 0, [], (some (.int 15)), "µm", false⟩,
    ⟨0x07, "trim_deadband_um", .u16, 0, 2, 1, 0, (some 1), (some 1000), [], 0, [], (some (.int 10)), "µm", false⟩,
    ⟨0x08, "disable_limit", .u16, 0, 2, 1, 0, (some 0), (some 1024), [], 0, [], (some (.int 16)), "", false⟩,
    ⟨0x09, "nozzles_disabled", .u32, 0, 255, 0, 255, none, none, [], 0, [], (some (.int 0)), "", false⟩,
    ⟨0x0A, "nozzles_remapped", .u32, 0, 255, 0, 255, none, none, [], 0, [], (some (.int 0)), "", false⟩,
    ⟨0x0B, "detections", .u64, 0, 255, 0, 255, none, none, [], 0, [], (some (.int 0)), "", false⟩,
    ⟨0x0C, "uncovered_nozzles", .u32, 0, 255, 0, 255, none, none, [], 0, [], (some (.int 0)), "", false⟩ ]

/-- 16#4840 to 16#4843 map_status (R482). -/
def odRows_map_status : List OdRow :=
  [ ⟨0x01, "staged_nozzles", .u32, 0, 255, 0, 255, none, none, [], 0, [], (some (.int 0)), "", false⟩,
    ⟨0x02, "map_switches", .u64, 0, 255, 0, 255, none, none, [], 0, [], (some (.int 0)), "", false⟩,
    ⟨0x03, "last_switch_line", .u64, 0, 255, 0, 255, none, none, [], 0, [], (some (.int 0)), "", false⟩,
    ⟨0x04, "last_switch_time", .time64, 0, 255, 0, 255, none, none, [], 0, [], (some (.int 0)), "", false⟩,
    ⟨0x05, "last_latency_us", .u32, 0, 255, 0, 255, none, none, [], 0, [], (some (.int 0)), "µs", false⟩,
    ⟨0x06, "max_latency_us", .u32, 0, 255, 0, 255, none, none, [], 0, [], (some (.int 0)), "µs", false⟩,
    ⟨0x07, "groups_waiting", .u16, 0, 255, 0, 255, none, none, [], 0, [], (some (.int 0)), "", false⟩,
    ⟨0x08, "map_saved_time", .time64, 0, 255, 0, 255, none, none, [], 0, [], (some (.int 0)), "", false⟩ ]

/-- 16#4850 map_query (R483). -/
def odRows_map_query : List OdRow :=
  [ ⟨0x01, "query_plane", .u8, 0, 0, 3, 0, (some 0), (some 3), [], 0, [], (some (.int 0)), "", false⟩,
    ⟨0x02, "query_column", .u16, 0, 0, 3, 0, (some 0), (some 49151), [], 0, [], (some (.int 0)), "", false⟩,
    ⟨0x03, "entry_in_force", .u32, 0, 255, 3, 255, none, none, [], 0, [], (some (.int 228)), "", false⟩,
    ⟨0x04, "entry_staged", .u32, 0, 255, 3, 255, none, none, [], 0, [], (some (.int 228)), "", false⟩,
    ⟨0x05, "last_class", .enum8, 0, 255, 3, 255, none, none, [], 0, [], (some (.int 0)), "", false⟩ ]

/-- 16#4851 map_write (R484). -/
def odRows_map_write : List OdRow :=
  [ ⟨0x01, "map_entry_write", .u64, 0, 2, 0, 0, none, none, [], 0xFFFFFFFF0003FFFF, [], (some (.int 0)), "", false⟩ ]

/-- 16#4852 map_reset (R485). -/
def odRows_map_reset : List OdRow :=
  [ ⟨0x01, "map_reset_learned", .u8, 0, 3, 0, 0, none, none, [(0, 3), (255, 255)], 0, [], (some (.int 255)), "", true⟩ ]

/-- 16#4860 inspection_query (R486). -/
def odRows_inspection_query : List OdRow :=
  [ ⟨0x01, "query_item", .u32, 0, 0, 3, 0, none, none, [], 0, [], (some (.int 0)), "", false⟩,
    ⟨0x02, "query_camera", .u8, 0, 0, 3, 0, (some 0), (some 3), [], 0, [], (some (.int 0)), "", false⟩,
    ⟨0x03, "result_found", .bool, 0, 255, 3, 255, none, none, [], 0, [], (some (.int 0)), "", false⟩,
    ⟨0x04, "result", (.blob 48), 0, 255, 3, 255, none, none, [], 0, [], (some (.bytes [])), "", false⟩ ]

/-- 16#4C00 image_pipeline (R519). -/
def odRows_image_pipeline : List OdRow :=
  [ ⟨0x01, "pipe0_rate_mpix", .u16, 0, 255, 0, 255, none, none, [], 0, [], (some (.int 0)), "", false⟩,
    ⟨0x02, "pipe1_rate_mpix", .u16, 0, 255, 0, 255, none, none, [], 0, [], (some (.int 0)), "", false⟩,
    ⟨0x03, "pipe0_load_percent", .u8, 0, 255, 0, 255, none, none, [], 0, [], (some (.int 0)), "%", false⟩,
    ⟨0x04, "pipe1_load_percent", .u8, 0, 255, 0, 255, none, none, [], 0, [], (some (.int 0)), "%", false⟩,
    ⟨0x05, "pipe_rate_limit_percent", .u8, 0, 255, 0, 255, none, none, [], 0, [], (some (.int 100)), "%", false⟩ ]

/-- 16#4C10 to 16#4C13 csi_port (R520). -/
def odRows_csi_port : List OdRow :=
  [ ⟨0x01, "port_enable", .bool, 0, 2, 1, 4, none, none, [], 0, [], (some (.int 0)), "", false⟩,
    ⟨0x02, "data_lanes", .u8, 0, 2, 1, 4, none, none, [(1, 2), (4, 4)], 0, [], (some (.int 4)), "", false⟩,
    ⟨0x03, "lane_rate_mbps", .u16, 0, 2, 1, 4, (some 80), (some 2500), [], 0, [], (some (.int 1500)), "", false⟩,
    ⟨0x04, "virtual_channel", .u8, 0, 2, 1, 4, (some 0), (some 3), [], 0, [], (some (.int 0)), "", false⟩,
    ⟨0x05, "data_type", .enum8, 0, 2, 1, 4, none, none, [(42, 42), (43, 43), (44, 44)], 0, [], (some (.int 43)), "", false⟩,
    ⟨0x06, "lane_map", .u16, 0, 2, 1, 4, none, none, [], 0x1FFF, [], (some (.int 228)), "", false⟩,
    ⟨0x07, "width_px", .u16, 0, 2, 1, 4, none, none, [], 0, [], (some (.int 4096)), "", false⟩,
    ⟨0x08, "height_lines", .u16, 0, 2, 1, 4, none, none, [], 0, [], (some (.int 1024)), "", false⟩,
    ⟨0x09, "pipe", .u8, 0, 2, 1, 4, (some 0), (some 1), [], 0, [], none, "", false⟩,
    ⟨0x0A, "frame_timeout_us", .u32, 0, 2, 1, 0, (some 10), (some 1000000), [], 0, [], (some (.int 500)), "µs", false⟩,
    ⟨0x0B, "frame_max_us", .u32, 0, 2, 1, 0, (some 100), (some 10000000), [], 0, [], (some (.int 50000)), "µs", false⟩,
    ⟨0x0C, "csi_frame_wrap", .u16, 0, 2, 1, 4, none, none, [(0, 0), (2, 65535)], 0, [], (some (.int 0)), "", false⟩,
    ⟨0x0D, "port_state", .enum8, 0, 255, 0, 255, none, none, [], 0, [], (some (.int 0)), "", false⟩,
    ⟨0x0E, "conflict_reason", .enum8, 0, 255, 0, 255, none, none, [], 0, [], (some (.int 0)), "", false⟩,
    ⟨0x0F, "frames_received", .u64, 0, 255, 0, 255, none, none, [], 0, [], (some (.int 0)), "", false⟩,
    ⟨0x10, "frames_lost", .u32, 0, 255, 0, 255, none, none, [], 0, [], (some (.int 0)), "", false⟩,
    ⟨0x11, "frames_unsolicited", .u32, 0, 255, 0, 255, none, none, [], 0, [], (some (.int 0)), "", false⟩,
    ⟨0x12, "csi_ecc_corrected", .u32, 0, 255, 0, 255, none, none, [], 0, [], (some (.int 0)), "", false⟩,
    ⟨0x13, "csi_errors", .u32, 0, 255, 0, 255, none, none, [], 0, [], (some (.int 0)), "", false⟩,
    ⟨0x14, "packets_ignored", .u32, 0, 255, 0, 255, none, none, [], 0, [], (some (.int 0)), "", false⟩ ]

/-- 16#4C20 to 16#4C23 camera_sensor (R521). -/
def odRows_camera_sensor : List OdRow :=
  [ ⟨0x01, "i2c_address", .u8, 0, 2, 1, 4, (some 8), (some 119), [], 0, [], (some (.int 16)), "", false⟩,
    ⟨0x02, "i2c_speed", .enum8, 0, 2, 1, 4, none, none, [(0, 0), (1, 1), (2, 2)], 0, [], (some (.int 1)), "", false⟩,
    ⟨0x03, "i2c_reg_bytes", .u8, 0, 2, 1, 4, (some 1), (some 2), [], 0, [], (some (.int 2)), "B", false⟩,
    ⟨0x04, "i2c_data_bytes", .u8, 0, 2, 1, 4, (some 1), (some 2), [], 0, [], (some (.int 1)), "B", false⟩,
    ⟨0x05, "sensor_writes", (.blob 256), 0, 2, 1, 3, none, none, [], 0, [], (some (.bytes [])), "", false⟩,
    ⟨0x06, "pad_value", .u16, 0, 2, 1, 3, (some 0), (some 4095), [], 0, [], (some (.int 0)), "", false⟩,
    ⟨0x07, "settings_set_id", .u16, 0, 255, 0, 255, none, none, [], 0, [], (some (.int 0)), "", false⟩,
    ⟨0x08, "sensor_state", .enum8, 0, 255, 0, 255, none, none, [], 0, [], (some (.int 0)), "", false⟩,
    ⟨0x09, "i2c_read_reg", .u16, 0, 3, 0, 0, none, none, [], 0, [], (some (.int 0)), "", false⟩,
    ⟨0x0A, "i2c_read_value", .u16, 0, 255, 0, 255, none, none, [], 0, [], (some (.int 0)), "", false⟩,
    ⟨0x0B, "i2c_errors", .u32, 0, 255, 0, 255, none, none, [], 0, [], (some (.int 0)), "", false⟩,
    ⟨0x0C, "torn_frames", .u32, 0, 255, 0, 255, none, none, [], 0, [], (some (.int 0)), "", false⟩ ]

/-- 16#4C30 to 16#4C33 isp (R522). -/
def odRows_isp : List OdRow :=
  [ ⟨0x01, "black_level", .u16, 0, 2, 1, 3, (some 0), (some 4095), [], 0, [], (some (.int 64)), "", false⟩,
    ⟨0x02, "defect_table", (.blob 1024), 0, 2, 1, 3, none, none, [], 0, [], (some (.bytes [])), "", false⟩,
    ⟨0x03, "dynamic_defect_threshold", .u16, 0, 2, 1, 3, (some 0), (some 4095), [], 0, [], (some (.int 0)), "", false⟩,
    ⟨0x04, "shading_map", (.blob 2178), 0, 2, 1, 3, none, none, [], 0, [0, 2178], (some (.bytes [])), "", false⟩,
    ⟨0x05, "spatial_nr", .u8, 0, 2, 1, 3, (some 0), (some 15), [], 0, [], (some (.int 0)), "", false⟩,
    ⟨0x06, "temporal_nr", .u8, 0, 2, 1, 3, (some 0), (some 15), [], 0, [], (some (.int 0)), "", false⟩,
    ⟨0x07, "tone_curve", (.blob 130), 0, 2, 1, 3, none, none, [], 0, [0, 130], (some (.bytes [])), "", false⟩ ]

/-- 16#4C40 to 16#4C43 camera_streams (R523). -/
def odRows_camera_streams : List OdRow :=
  [ ⟨0x01, "insp_enable", .bool, 0, 2, 1, 3, none, none, [], 0, [], (some (.int 1)), "", false⟩,
    ⟨0x02, "insp_crop", .u64, 0, 2, 1, 3, none, none, [], 0, [], (some (.int 0)), "", false⟩,
    ⟨0x03, "insp_bin", .u8, 0, 2, 1, 3, none, none, [], 0, [], (some (.int 0)), "", false⟩,
    ⟨0x04, "view_enable", .bool, 0, 2, 1, 3, none, none, [], 0, [], (some (.int 0)), "", false⟩,
    ⟨0x05, "view_crop", .u64, 0, 2, 1, 3, none, none, [], 0, [], (some (.int 0)), "", false⟩,
    ⟨0x06, "view_size", .u32, 0, 2, 1, 3, none, none, [], 0, [], (some (.int 26215040)), "", false⟩,
    ⟨0x07, "view_ring_frames", .u8, 0, 2, 1, 4, (some 2), (some 16), [], 0, [], (some (.int 4)), "", false⟩,
    ⟨0x08, "arch_enable", .bool, 0, 2, 1, 3, none, none, [], 0, [], (some (.int 0)), "", false⟩,
    ⟨0x09, "arch_crop", .u64, 0, 2, 1, 3, none, none, [], 0, [], (some (.int 0)), "", false⟩,
    ⟨0x0A, "arch_bin", .u8, 0, 2, 1, 3, none, none, [], 0, [], (some (.int 0)), "", false⟩,
    ⟨0x0B, "arch_format", .u8, 0, 2, 1, 3, none, none, [(0, 2), (4, 6)], 0x7, [], (some (.int 0)), "", false⟩,
    ⟨0x0C, "stat_enable", .bool, 0, 2, 1, 3, none, none, [], 0, [], (some (.int 1)), "", false⟩,
    ⟨0x0D, "stat_crop", .u64, 0, 2, 1, 3, none, none, [], 0, [], (some (.int 0)), "", false⟩ ]

/-- 16#4C50 to 16#4C53 stream_status (R524). -/
def odRows_stream_status : List OdRow :=
  [ ⟨0x01, "frame_sequence", .u32, 0, 255, 0, 255, none, none, [], 0, [], (some (.int 0)), "", false⟩,
    ⟨0x02, "insp_frames", .u64, 0, 255, 0, 255, none, none, [], 0, [], (some (.int 0)), "", false⟩,
    ⟨0x03, "view_frames", .u64, 0, 255, 0, 255, none, none, [], 0, [], (some (.int 0)), "", false⟩,
    ⟨0x04, "arch_frames", .u64, 0, 255, 0, 255, none, none, [], 0, [], (some (.int 0)), "", false⟩,
    ⟨0x05, "arch_not_stored", .u32, 0, 255, 0, 255, none, none, [], 0, [], (some (.int 0)), "", false⟩,
    ⟨0x06, "frames_flagged", .u32, 0, 255, 0, 255, none, none, [], 0, [], (some (.int 0)), "", false⟩,
    ⟨0x07, "last_metadata", (.blob 64), 0, 255, 0, 255, none, none, [], 0, [], (some (.bytes [])), "", false⟩,
    ⟨0x08, "last_stat", (.blob 368), 0, 255, 0, 255, none, none, [], 0, [], (some (.bytes [])), "", false⟩,
    ⟨0x09, "view_ring_base", .u64, 0, 255, 0, 255, none, none, [], 0, [], (some (.int 0)), "", false⟩,
    ⟨0x0A, "view_write_index", .u32, 0, 255, 0, 255, none, none, [], 0, [], (some (.int 0)), "", false⟩ ]

/-- 16#4C60 archive_store (R525). -/
def odRows_archive_store : List OdRow :=
  [ ⟨0x01, "arch_store_mib", .u32, 0, 3, 1, 5, (some 0), (some 4096), [], 0, [], (some (.int 256)), "MiB", false⟩,
    ⟨0x02, "arch_full_action", .enum8, 0, 2, 1, 0, none, none, [(0, 0), (1, 1)], 0, [], (some (.int 0)), "", false⟩,
    ⟨0x03, "arch_raw_slots", .u8, 0, 3, 1, 5, (some 2), (some 32), [], 0, [], (some (.int 8)), "", false⟩,
    ⟨0x04, "arch_images_held", .u32, 0, 255, 0, 255, none, none, [], 0, [], (some (.int 0)), "", false⟩,
    ⟨0x05, "arch_bytes_held", .u64, 0, 255, 0, 255, none, none, [], 0, [], (some (.int 0)), "B", false⟩,
    ⟨0x06, "arch_overwritten", .u64, 0, 255, 0, 255, none, none, [], 0, [], (some (.int 0)), "", false⟩,
    ⟨0x07, "arch_refused", .u32, 0, 255, 0, 255, none, none, [], 0, [], (some (.int 0)), "", false⟩ ]

/-- 16#5000 to 16#5001 beam_unit_config (R547). -/
def odRows_beam_unit_config : List OdRow :=
  [ ⟨0x01, "beam_enable", .bool, 0, 1, 0, 1, none, none, [], 0, [], (some (.int 0)), "", false⟩,
    ⟨0x02, "polygon_axis", .enum8, 0, 2, 1, 4, none, none, [(4, 4), (5, 5)], 0, [], none, "", false⟩,
    ⟨0x03, "polygon_facets", .u8, 0, 2, 1, 4, (some 2), (some 32), [], 0, [], (some (.int 8)), "", false⟩,
    ⟨0x04, "bd_edge", .enum8, 0, 2, 1, 4, none, none, [(0, 0), (1, 1)], 0, [], (some (.int 0)), "", false⟩,
    ⟨0x05, "bd_filter_ns", .u16, 0, 2, 1, 4, (some 0), (some 200), [], 0, [], (some (.int 8)), "ns", false⟩,
    ⟨0x06, "scan_start_px", .u32, 0, 2, 1, 4, (some 0), (some 1000000), [], 0, [], (some (.int 0)), "", false⟩,
    ⟨0x07, "scan_pixels", .u16, 0, 2, 1, 4, (some 1), (some 49152), [], 0, [], (some (.int 4096)), "", false⟩,
    ⟨0x08, "scan_first_column", .u16, 0, 2, 1, 4, (some 0), (some 49151), [], 0, [], (some (.int 0)), "", false⟩,
    ⟨0x09, "scan_reverse", .bool, 0, 2, 1, 4, none, none, [], 0, [], (some (.int 0)), "", false⟩,
    ⟨0x0A, "bd_tolerance_ppm", .u16, 0, 2, 1, 0, (some 100), (some 50000), [], 0, [], (some (.int 2000)), "ppm", false⟩,
    ⟨0x0B, "power_mode", .enum8, 0, 2, 1, 1, none, none, [(0, 0), (1, 1)], 0, [], (some (.int 0)), "", false⟩,
    ⟨0x0C, "power_table", .u64, 0, 2, 1, 1, none, none, [], 0xFFF0FFF0FFF, [], (some (.int 17588069991765)), "", false⟩,
    ⟨0x0D, "power_fixed", .u16, 0, 2, 1, 1, (some 0), (some 4095), [], 0, [], (some (.int 0)), "", false⟩,
    ⟨0x0E, "lookahead_low_mark", .u16, 0, 2, 1, 0, (some 8), (some 255), [], 0, [], (some (.int 64)), "", false⟩ ]

/-- 16#5010 to 16#5011 beam_unit_status (R548). -/
def odRows_beam_unit_status : List OdRow :=
  [ ⟨0x01, "unit_state", .enum8, 0, 255, 0, 255, none, none, [], 0, [], (some (.int 0)), "", false⟩,
    ⟨0x02, "state_reason", .enum8, 0, 255, 0, 255, none, none, [], 0, [], (some (.int 0)), "", false⟩,
    ⟨0x03, "facet_period_ns", .u32, 0, 255, 0, 255, none, none, [], 0, [], (some (.int 0)), "ns", false⟩,
    ⟨0x04, "pixel_clock_hz", .u32, 0, 255, 0, 255, none, none, [], 0, [], (some (.int 0)), "Hz", false⟩,
    ⟨0x05, "scans_emitted", .u64, 0, 255, 0, 255, none, none, [], 0, [], (some (.int 0)), "", false⟩,
    ⟨0x06, "scans_blank", .u64, 0, 255, 0, 255, none, none, [], 0, [], (some (.int 0)), "", false⟩,
    ⟨0x07, "lines_skipped", .u64, 0, 255, 0, 255, none, none, [], 0, [], (some (.int 0)), "", false⟩,
    ⟨0x08, "pixels_demanded", .u64, 0, 255, 0, 255, none, none, [], 0, [], (some (.int 0)), "", false⟩,
    ⟨0x09, "pixels_emitted", .u64, 0, 255, 0, 255, none, none, [], 0, [], (some (.int 0)), "", false⟩,
    ⟨0x0A, "supp_gated", .u64, 0, 255, 0, 255, none, none, [], 0, [], (some (.int 0)), "", false⟩,
    ⟨0x0B, "supp_tick_ceiling", .u64, 0, 255, 0, 255, none, none, [], 0, [], (some (.int 0)), "", false⟩,
    ⟨0x0C, "count_validity", .enum8, 0, 255, 0, 255, none, none, [], 0, [], (some (.int 0)), "", false⟩,
    ⟨0x0D, "counts_reset", .bool, 0, 3, 0, 0, none, none, [], 0, [], (some (.int 0)), "", true⟩,
    ⟨0x0E, "lock_losses", .u32, 0, 255, 0, 255, none, none, [], 0, [], (some (.int 0)), "", false⟩,
    ⟨0x0F, "placement_error_max_ps", .u16, 0, 255, 0, 255, none, none, [], 0, [], (some (.int 0)), "", false⟩ ]

/-- The groups of this range, lowest index first. -/
def odGroupsB : List OdGroup :=
  [ ⟨0x4000, 4, odRows_plane_firing⟩,
    ⟨0x4004, 4, odRows_plane_fire_status⟩,
    ⟨0x4008, 1, odRows_suppression_policy⟩,
    ⟨0x4010, 10, odRows_gate_input⟩,
    ⟨0x4040, 192, odRows_firing_channel⟩,
    ⟨0x4100, 32, odRows_deckle⟩,
    ⟨0x4120, 1, odRows_nozzle_query⟩,
    ⟨0x4130, 1, odRows_drop_checkpoint⟩,
    ⟨0x4400, 48, odRows_head_link⟩,
    ⟨0x4480, 1, odRows_identity_query⟩,
    ⟨0x4500, 64, odRows_waveform_slot⟩,
    ⟨0x4800, 1, odRows_inspection_config⟩,
    ⟨0x4801, 1, odRows_inspection_status⟩,
    ⟨0x4810, 4, odRows_camera_inspection⟩,
    ⟨0x4820, 4, odRows_test_bar⟩,
    ⟨0x4830, 4, odRows_nozzle_health⟩,
    ⟨0x4840, 4, odRows_map_status⟩,
    ⟨0x4850, 1, odRows_map_query⟩,
    ⟨0x4851, 1, odRows_map_write⟩,
    ⟨0x4852, 1, odRows_map_reset⟩,
    ⟨0x4860, 1, odRows_inspection_query⟩,
    ⟨0x4C00, 1, odRows_image_pipeline⟩,
    ⟨0x4C10, 4, odRows_csi_port⟩,
    ⟨0x4C20, 4, odRows_camera_sensor⟩,
    ⟨0x4C30, 4, odRows_isp⟩,
    ⟨0x4C40, 4, odRows_camera_streams⟩,
    ⟨0x4C50, 4, odRows_stream_status⟩,
    ⟨0x4C60, 1, odRows_archive_store⟩,
    ⟨0x5000, 2, odRows_beam_unit_config⟩,
    ⟨0x5010, 2, odRows_beam_unit_status⟩ ]

end Sys2Proof.Machine
end

