-- ==== Sys2Proof/Machine/OdTableC.lean ====
section
/-! DEFINITION. Rows of the object dictionary, indexes 16#5400 to 16#5BFF, as the object tables of
spec/02 to spec/20 give them. -/

namespace Sys2Proof.Machine

/-- 16#5400 to 16#5405 axis_config (R579). -/
def odRows_axis_config : List OdRow :=
  [ ⟨0x01, "axis_enable", .bool, 0, 1, 0, 0, none, none, [], 0, [], (some (.int 0)), "", false⟩,
    ⟨0x02, "axis_role", .enum8, 0, 2, 1, 4, none, none, [(0, 4)], 0, [], (some (.int 0)), "", false⟩,
    ⟨0x03, "pwm_freq_hz", .u32, 0, 2, 1, 4, (some 8000), (some 200000), [], 0, [], (some (.int 20000)), "Hz", false⟩,
    ⟨0x04, "dead_time_ns", .u16, 0, 2, 1, 4, (some 0), (some 2000), [], 0, [], (some (.int 500)), "ns", false⟩,
    ⟨0x05, "min_pulse_ns", .u16, 0, 2, 1, 4, (some 0), (some 5000), [], 0, [], (some (.int 250)), "ns", false⟩,
    ⟨0x06, "sense_topology", .enum8, 0, 2, 1, 4, none, none, [(0, 0), (1, 1)], 0, [], (some (.int 0)), "", false⟩,
    ⟨0x07, "sinc_osr", .u16, 0, 2, 1, 4, none, none, [(16, 16), (32, 32), (64, 64), (128, 128), (256, 256)], 0, [], (some (.int 64)), "", false⟩,
    ⟨0x08, "feedback", .enum8, 0, 2, 1, 4, none, none, [(0, 3), (255, 255)], 0, [], (some (.int 255)), "", false⟩,
    ⟨0x09, "start_method", .enum8, 0, 2, 1, 4, none, none, [(0, 0), (1, 1)], 0, [], (some (.int 0)), "", false⟩,
    ⟨0x0A, "dc_bus_ain", .u8, 0, 2, 1, 4, (some 0), (some 31), [], 0, [], (some (.int 0)), "", false⟩,
    ⟨0x0B, "max_modulation", .u16, 0, 2, 1, 0, (some 9069), (some 10000), [], 0, [], (some (.int 10000)), "", false⟩,
    ⟨0x0C, "speed_set_rpm", .i32, 0, 1, 0, 0, (some (-200000)), (some 200000), [], 0, [], (some (.int 0)), "rpm", false⟩,
    ⟨0x0D, "accel_rpm_s", .u32, 0, 2, 1, 0, (some 1), (some 1000000), [], 0, [], (some (.int 1000)), "rpm/s", false⟩,
    ⟨0x0E, "current_bw_hz", .u16, 0, 2, 1, 4, (some 100), (some 10000), [], 0, [], (some (.int 2000)), "Hz", false⟩,
    ⟨0x0F, "speed_kp", (.q32 28), 0, 2, 1, 0, none, none, [], 0, [], (some (.int 2684355)), "A·s/rad", false⟩,
    ⟨0x10, "speed_ki", (.q32 28), 0, 2, 1, 0, none, none, [], 0, [], (some (.int 26843546)), "A/rad", false⟩,
    ⟨0x11, "tension_set_mn", .u32, 0, 1, 0, 0, none, none, [], 0, [], (some (.int 0)), "mN", false⟩,
    ⟨0x12, "tension_loop", .enum8, 0, 2, 1, 0, none, none, [(0, 31), (255, 255)], 0, [], (some (.int 255)), "", false⟩,
    ⟨0x13, "roll_radius_min_um", .u32, 0, 2, 1, 0, (some 1000), (some 2000000), [], 0, [], (some (.int 20000)), "µm", false⟩,
    ⟨0x14, "roll_radius_max_um", .u32, 0, 2, 1, 0, (some 1000), (some 2000000), [], 0, [], (some (.int 500000)), "µm", false⟩,
    ⟨0x15, "dc_bus_max_mv", .u32, 0, 2, 1, 0, (some 1000), (some 1000000), [], 0, [], (some (.int 60000)), "mV", false⟩ ]

/-- 16#5410 to 16#5415 axis_motor (R580). -/
def odRows_axis_motor : List OdRow :=
  [ ⟨0x01, "pole_pairs", .u8, 0, 2, 1, 4, (some 1), (some 32), [], 0, [], (some (.int 4)), "", false⟩,
    ⟨0x02, "rated_speed_rpm", .u32, 0, 2, 1, 4, (some 100), (some 200000), [], 0, [], (some (.int 3000)), "rpm", false⟩,
    ⟨0x03, "rated_current_ma", .u32, 0, 2, 1, 4, (some 100), (some 500000), [], 0, [], (some (.int 5000)), "mA", false⟩,
    ⟨0x04, "current_limit_ma", .u32, 0, 2, 1, 4, (some 100), (some 1000000), [], 0, [], (some (.int 7500)), "mA", false⟩,
    ⟨0x05, "rs_mohm", .u32, 0, 2, 1, 4, none, none, [], 0, [], (some (.int 500)), "mΩ", false⟩,
    ⟨0x06, "ld_uh", .u32, 0, 2, 1, 4, none, none, [], 0, [], (some (.int 1000)), "µH", false⟩,
    ⟨0x07, "lq_uh", .u32, 0, 2, 1, 4, none, none, [], 0, [], (some (.int 1000)), "µH", false⟩,
    ⟨0x08, "ke_nominal_uvs", .u32, 0, 2, 1, 4, none, none, [], 0, [], (some (.int 100000)), "µV·s/rad", false⟩,
    ⟨0x09, "ke_band_percent", .u8, 0, 2, 1, 4, (some 1), (some 50), [], 0, [], (some (.int 15)), "%", false⟩,
    ⟨0x0A, "catch_speed_percent", .u8, 0, 2, 1, 4, (some 2), (some 50), [], 0, [], (some (.int 5)), "%", false⟩,
    ⟨0x0B, "stop_speed_percent", .u8, 0, 2, 1, 4, (some 1), (some 10), [], 0, [], (some (.int 1)), "%", false⟩,
    ⟨0x0C, "handover_speed_percent", .u8, 0, 2, 1, 4, (some 1), (some 50), [], 0, [], (some (.int 5)), "%", false⟩,
    ⟨0x0D, "brake_current_ma", .u32, 0, 2, 1, 4, none, none, [], 0, [], (some (.int 5000)), "mA", false⟩,
    ⟨0x0E, "brake_hold_ms", .u16, 0, 2, 1, 4, (some 1), (some 10000), [], 0, [], (some (.int 50)), "ms", false⟩,
    ⟨0x0F, "brake_timeout_ms", .u32, 0, 2, 1, 4, (some 100), (some 600000), [], 0, [], (some (.int 10000)), "ms", false⟩,
    ⟨0x10, "residual_limit_percent", .u8, 0, 2, 1, 4, (some 5), (some 100), [], 0, [], (some (.int 30)), "%", false⟩,
    ⟨0x11, "residual_periods", .u8, 0, 2, 1, 4, (some 1), (some 255), [], 0, [], (some (.int 16)), "", false⟩,
    ⟨0x12, "recatch_delay_ms", .u16, 0, 2, 1, 4, (some 1), (some 10000), [], 0, [], (some (.int 20)), "ms", false⟩,
    ⟨0x13, "recatch_limit", .u8, 0, 2, 1, 4, (some 0), (some 10), [], 0, [], (some (.int 3)), "", false⟩,
    ⟨0x14, "start_current_ma", .u32, 0, 2, 1, 4, none, none, [], 0, [], (some (.int 2500)), "mA", false⟩,
    ⟨0x15, "start_timeout_ms", .u32, 0, 2, 1, 4, (some 100), (some 600000), [], 0, [], (some (.int 5000)), "ms", false⟩,
    ⟨0x16, "align_ms", .u16, 0, 2, 1, 4, (some 10), (some 10000), [], 0, [], (some (.int 500)), "ms", false⟩,
    ⟨0x17, "align_current_ma", .u32, 0, 2, 1, 4, none, none, [], 0, [], (some (.int 2500)), "mA", false⟩ ]

/-- 16#5420 to 16#5425 axis_status (R581). -/
def odRows_axis_status : List OdRow :=
  [ ⟨0x01, "axis_state", .enum8, 0, 255, 0, 255, none, none, [], 0, [], (some (.int 0)), "", false⟩,
    ⟨0x02, "state_reason", .enum8, 0, 255, 0, 255, none, none, [], 0, [], (some (.int 0)), "", false⟩,
    ⟨0x03, "speed_rpm", .i32, 0, 255, 0, 255, none, none, [], 0, [], (some (.int 0)), "rpm", false⟩,
    ⟨0x04, "electrical_angle", .u16, 0, 255, 0, 255, none, none, [], 0, [], (some (.int 0)), "", false⟩,
    ⟨0x05, "id_ma", .i32, 0, 255, 0, 255, none, none, [], 0, [], (some (.int 0)), "mA", false⟩,
    ⟨0x06, "iq_ma", .i32, 0, 255, 0, 255, none, none, [], 0, [], (some (.int 0)), "mA", false⟩,
    ⟨0x07, "modulation", .u16, 0, 255, 0, 255, none, none, [], 0, [], (some (.int 0)), "", false⟩,
    ⟨0x08, "mod_region", .enum8, 0, 255, 0, 255, none, none, [], 0, [], (some (.int 0)), "", false⟩,
    ⟨0x09, "ke_estimate_uvs", .u32, 0, 255, 0, 255, none, none, [], 0, [], (some (.int 0)), "", false⟩,
    ⟨0x0A, "residual_percent", .u8, 0, 255, 0, 255, none, none, [], 0, [], (some (.int 0)), "%", false⟩,
    ⟨0x0B, "predicted_periods", .u64, 0, 255, 0, 255, none, none, [], 0, [], (some (.int 0)), "", false⟩,
    ⟨0x0C, "deadline_misses", .u32, 0, 255, 0, 255, none, none, [], 0, [], (some (.int 0)), "", false⟩,
    ⟨0x0D, "recatch_attempts", .u8, 0, 255, 0, 255, none, none, [], 0, [], (some (.int 0)), "", false⟩,
    ⟨0x0E, "observer_losses", .u32, 0, 255, 0, 255, none, none, [], 0, [], (some (.int 0)), "", false⟩,
    ⟨0x0F, "dc_bus_mv", .u32, 0, 255, 0, 255, none, none, [], 0, [], (some (.int 0)), "mV", false⟩,
    ⟨0x10, "roll_radius_um", .u32, 0, 255, 0, 255, none, none, [], 0, [], (some (.int 0)), "µm", false⟩,
    ⟨0x11, "pwm_freq_actual_hz", .u32, 0, 255, 0, 255, none, none, [], 0, [], (some (.int 0)), "Hz", false⟩ ]

/-- 16#5440 transport_ramp (R582). -/
def odRows_transport_ramp : List OdRow :=
  [ ⟨0x01, "la_decel_percent_s", .u16, 0, 2, 1, 0, (some 1), (some 1000), [], 0, [], (some (.int 20)), "%/s", false⟩,
    ⟨0x02, "la_floor_percent", .u8, 0, 2, 1, 0, (some 0), (some 100), [], 0, [], (some (.int 50)), "%", false⟩,
    ⟨0x03, "la_ramp_active", .bool, 0, 255, 0, 255, none, none, [], 0, [], (some (.int 0)), "", false⟩ ]

/-- 16#5800 to 16#581F loop_config (R607). -/
def odRows_loop_config : List OdRow :=
  [ ⟨0x01, "loop_enable", .bool, 0, 1, 0, 0, none, none, [], 0, [], (some (.int 0)), "", false⟩,
    ⟨0x02, "loop_form", .enum8, 0, 2, 1, 4, none, none, [(0, 0), (1, 1)], 0, [], (some (.int 0)), "", false⟩,
    ⟨0x03, "sample_period_ns", .u32, 0, 2, 1, 4, (some 5000), (some 1000000000), [], 0, [], (some (.int 1000000)), "ns", false⟩,
    ⟨0x04, "pv_source", .enum8, 0, 2, 1, 4, none, none, [(0, 55)], 0, [], (some (.int 0)), "", false⟩,
    ⟨0x05, "sp_source", .enum8, 0, 2, 1, 4, none, none, [(0, 31), (64, 67), (255, 255)], 0, [], (some (.int 255)), "", false⟩,
    ⟨0x06, "sp_gain", (.q32 28), 0, 2, 1, 0, none, none, [], 0, [], (some (.int 268435456)), "", false⟩,
    ⟨0x07, "sp_offset", (.q32 28), 0, 2, 1, 0, none, none, [], 0, [], (some (.int 0)), "", false⟩,
    ⟨0x08, "sp_slew_per_s", (.q32 28), 0, 2, 1, 0, (some 0), (some 2147483648), [], 0, [], (some (.int 0)), "", false⟩,
    ⟨0x09, "setpoint", (.q32 28), 0, 1, 0, 0, none, none, [], 0, [], (some (.int 0)), "", false⟩,
    ⟨0x0A, "coeff_b0", (.q32 28), 0, 2, 1, 0, none, none, [], 0, [], (some (.int 0)), "", false⟩,
    ⟨0x0B, "coeff_b1", (.q32 28), 0, 2, 1, 0, none, none, [], 0, [], (some (.int 0)), "", false⟩,
    ⟨0x0C, "coeff_b2", (.q32 28), 0, 2, 1, 0, none, none, [], 0, [], (some (.int 0)), "", false⟩,
    ⟨0x0D, "coeff_b3", (.q32 28), 0, 2, 1, 0, none, none, [], 0, [], (some (.int 0)), "", false⟩,
    ⟨0x0E, "coeff_a1", (.q32 28), 0, 2, 1, 0, none, none, [], 0, [], (some (.int 0)), "", false⟩,
    ⟨0x0F, "coeff_a2", (.q32 28), 0, 2, 1, 0, none, none, [], 0, [], (some (.int 0)), "", false⟩,
    ⟨0x10, "coeff_a3", (.q32 28), 0, 2, 1, 0, none, none, [], 0, [], (some (.int 0)), "", false⟩,
    ⟨0x11, "out_target", .enum8, 0, 2, 1, 4, none, none, [(0, 15), (255, 255)], 0, [], (some (.int 255)), "", false⟩,
    ⟨0x12, "out_min", (.q32 28), 0, 2, 1, 0, none, none, [], 0, [], (some (.int 0)), "", false⟩,
    ⟨0x13, "out_max", (.q32 28), 0, 2, 1, 0, none, none, [], 0, [], (some (.int 268435456)), "", false⟩,
    ⟨0x14, "out_full_scale", .u32, 0, 2, 1, 0, none, none, [], 0, [], (some (.int 1000)), "", false⟩,
    ⟨0x15, "safe_output", (.q32 28), 0, 2, 1, 0, none, none, [], 0, [], (some (.int 0)), "", false⟩,
    ⟨0x16, "manual_output", (.q32 28), 0, 1, 0, 0, none, none, [], 0, [], (some (.int 0)), "", false⟩,
    ⟨0x17, "loop_miss_limit", .u8, 0, 2, 1, 0, none, none, [], 0, [], (some (.int 8)), "", false⟩ ]

/-- 16#5840 to 16#585F loop_status (R608). -/
def odRows_loop_status : List OdRow :=
  [ ⟨0x01, "loop_state", .enum8, 0, 255, 0, 255, none, none, [], 0, [], (some (.int 0)), "", false⟩,
    ⟨0x02, "loop_reason", .enum8, 0, 255, 0, 255, none, none, [], 0, [], (some (.int 0)), "", false⟩,
    ⟨0x03, "pv", (.q32 28), 0, 255, 0, 255, none, none, [], 0, [], (some (.int 0)), "", false⟩,
    ⟨0x04, "sp_in_force", (.q32 28), 0, 255, 0, 255, none, none, [], 0, [], (some (.int 0)), "", false⟩,
    ⟨0x05, "loop_output", (.q32 28), 0, 255, 0, 255, none, none, [], 0, [], (some (.int 0)), "", false⟩,
    ⟨0x06, "samples", .u64, 0, 255, 0, 255, none, none, [], 0, [], (some (.int 0)), "", false⟩,
    ⟨0x07, "misses", .u32, 0, 255, 0, 255, none, none, [], 0, [], (some (.int 0)), "", false⟩,
    ⟨0x08, "latency_max_ns", .u32, 0, 255, 0, 255, none, none, [], 0, [], (some (.int 0)), "ns", false⟩ ]

/-- 16#5900 to 16#591F ain (R609). -/
def odRows_ain : List OdRow :=
  [ ⟨0x01, "ain_enable", .bool, 0, 2, 1, 0, none, none, [], 0, [], (some (.int 0)), "", false⟩,
    ⟨0x02, "ain_full_scale_mv", .u32, 0, 2, 1, 0, none, none, [], 0, [], (some (.int 1800)), "mV", false⟩,
    ⟨0x03, "ain_code", .u16, 0, 255, 0, 255, none, none, [], 0, [], (some (.int 0)), "", false⟩,
    ⟨0x04, "ain_mv", .i32, 0, 255, 0, 255, none, none, [], 0, [], (some (.int 0)), "mV", false⟩,
    ⟨0x05, "ain_time", .time64, 0, 255, 0, 255, none, none, [], 0, [], (some (.int 0)), "", false⟩ ]

/-- 16#5930 to 16#5933 pulse_in (R610). -/
def odRows_pulse_in : List OdRow :=
  [ ⟨0x01, "pulse_mode", .enum8, 0, 2, 1, 0, none, none, [(0, 0), (1, 1)], 0, [], (some (.int 0)), "", false⟩,
    ⟨0x02, "pulse_filter_ns", .u16, 0, 2, 1, 0, (some 0), (some 10000), [], 0, [], (some (.int 100)), "ns", false⟩,
    ⟨0x03, "pulse_full_scale_hz", .u32, 0, 2, 1, 0, (some 1), (some 10000000), [], 0, [], (some (.int 10000)), "Hz", false⟩,
    ⟨0x04, "pulse_timeout_ms", .u16, 0, 2, 1, 0, (some 1), (some 60000), [], 0, [], (some (.int 100)), "ms", false⟩,
    ⟨0x05, "pulse_value", (.q32 28), 0, 255, 0, 255, none, none, [], 0, [], (some (.int 0)), "", false⟩,
    ⟨0x06, "pulse_freq_mhz", .u32, 0, 255, 0, 255, none, none, [], 0, [], (some (.int 0)), "mHz", false⟩,
    ⟨0x07, "pulse_status", .bits32, 0, 255, 0, 255, none, none, [], 0, [], (some (.int 0)), "", false⟩ ]

/-- 16#5940 to 16#594F output (R611). -/
def odRows_output : List OdRow :=
  [ ⟨0x01, "out_enable", .bool, 0, 2, 1, 0, none, none, [], 0, [], (some (.int 0)), "", false⟩,
    ⟨0x02, "hpwm_freq_hz", .u32, 0, 2, 1, 4, (some 100), (some 100000), [], 0, [], (some (.int 1000)), "Hz", false⟩,
    ⟨0x03, "out_value", (.q32 28), 0, 1, 0, 0, (some 0), (some 268435456), [], 0, [], (some (.int 0)), "", false⟩,
    ⟨0x04, "out_owner", .enum8, 0, 255, 0, 255, none, none, [], 0, [], (some (.int 255)), "", false⟩ ]

/-- 16#5A00 to 16#5A0F remote_temp (R612). -/
def odRows_remote_temp : List OdRow :=
  [ ⟨0x01, "ts_enable", .bool, 0, 2, 1, 0, none, none, [], 0, [], (some (.int 0)), "", false⟩,
    ⟨0x02, "ts_kind", .enum8, 0, 2, 1, 0, none, none, [(0, 0), (1, 1)], 0, [], (some (.int 0)), "", false⟩,
    ⟨0x03, "ts_class", .enum8, 0, 2, 1, 0, none, none, [(0, 0), (1, 1), (2, 2)], 0, [], (some (.int 0)), "", false⟩,
    ⟨0x04, "ts_planes", .bits32, 0, 2, 1, 0, none, none, [], 0xF, [], (some (.int 0)), "", false⟩,
    ⟨0x05, "ts_ideality", .u16, 0, 2, 1, 0, (some 9000), (some 11000), [], 0, [], (some (.int 10080)), "", false⟩,
    ⟨0x06, "ts_series_mohm", .u32, 0, 2, 1, 0, (some 0), (some 1000000), [], 0, [], (some (.int 0)), "mΩ", false⟩,
    ⟨0x07, "th_r0_ohm", .u32, 0, 2, 1, 0, none, none, [], 0, [], (some (.int 10000)), "Ω", false⟩,
    ⟨0x08, "th_beta", .u16, 0, 2, 1, 0, (some 1000), (some 10000), [], 0, [], (some (.int 3950)), "K", false⟩,
    ⟨0x09, "ts_current", .enum8, 0, 2, 1, 0, none, none, [(0, 0), (1, 1)], 0, [], (some (.int 0)), "", false⟩,
    ⟨0x0A, "throttle_limit", .i16, 0, 2, 1, 0, (some (-400)), (some 1500), [], 0, [], (some (.int 800)), "0.1 °C", false⟩,
    ⟨0x0B, "shutdown_limit", .i16, 0, 2, 1, 0, (some (-390)), (some 1500), [], 0, [], (some (.int 900)), "0.1 °C", false⟩,
    ⟨0x0C, "near_band", .u16, 0, 2, 1, 0, (some 0), (some 500), [], 0, [], (some (.int 50)), "0.1 °C", false⟩,
    ⟨0x0D, "temperature", .i16, 0, 255, 0, 255, none, none, [], 0, [], (some (.int 0)), "0.1 °C", false⟩,
    ⟨0x0E, "ts_status", .enum8, 0, 255, 0, 255, none, none, [], 0, [], (some (.int 0)), "", false⟩,
    ⟨0x0F, "ts_promoted", .bool, 0, 255, 0, 255, none, none, [], 0, [], (some (.int 0)), "", false⟩,
    ⟨0x10, "ts_r_permille", .u16, 0, 255, 0, 255, none, none, [], 0, [], (some (.int 0)), "‰", false⟩ ]

/-- 16#5A10 to 16#5A17 die_temp (R613). -/
def odRows_die_temp : List OdRow :=
  [ ⟨0x01, "td_throttle_limit", .i16, 0, 3, 1, 0, (some 600), (some 1240), [], 0, [], (some (.int 1000)), "0.1 °C", false⟩,
    ⟨0x02, "td_shutdown_limit", .i16, 0, 3, 1, 0, (some 610), (some 1250), [], 0, [], (some (.int 1150)), "0.1 °C", false⟩,
    ⟨0x03, "td_temperature", .i16, 0, 255, 0, 255, none, none, [], 0, [], (some (.int 0)), "0.1 °C", false⟩,
    ⟨0x04, "td_status", .enum8, 0, 255, 0, 255, none, none, [], 0, [], (some (.int 0)), "", false⟩,
    ⟨0x05, "td_r_permille", .u16, 0, 255, 0, 255, none, none, [], 0, [], (some (.int 0)), "‰", false⟩ ]

/-- 16#5A20 thermal_status (R614). -/
def odRows_thermal_status : List OdRow :=
  [ ⟨0x01, "throttle_release_percent_s", .u16, 0, 2, 1, 0, (some 1), (some 100), [], 0, [], (some (.int 10)), "%/s", false⟩,
    ⟨0x02, "shutdown_samples", .u8, 0, 3, 1, 0, (some 1), (some 16), [], 0, [], (some (.int 3)), "", false⟩,
    ⟨0x03, "sensor_fault_action", .enum8, 0, 3, 1, 0, none, none, [(0, 0), (1, 1)], 0, [], (some (.int 0)), "", false⟩,
    ⟨0x04, "plane_preheat_limits", .u32, 0, 255, 0, 255, none, none, [], 0, [], (some (.int 1684300900)), "%", false⟩,
    ⟨0x05, "plane_level_limits", .u32, 0, 255, 0, 255, none, none, [], 0, [], (some (.int 50529027)), "", false⟩,
    ⟨0x06, "die_r_permille", .u16, 0, 255, 0, 255, none, none, [], 0, [], (some (.int 0)), "‰", false⟩,
    ⟨0x07, "thermal_shutdown_latched", .bool, 0, 255, 0, 255, none, none, [], 0, [], (some (.int 0)), "", false⟩,
    ⟨0x08, "shutdown_sensor", .u8, 0, 255, 1, 255, none, none, [], 0, [], (some (.int 255)), "", false⟩,
    ⟨0x09, "shutdown_temperature", .i16, 0, 255, 1, 255, none, none, [], 0, [], (some (.int 0)), "0.1 °C", false⟩ ]

/-- 16#5A30 adc_status (R615). -/
def odRows_adc_status : List OdRow :=
  [ ⟨0x01, "adc0_load_percent", .u8, 0, 255, 0, 255, none, none, [], 0, [], (some (.int 0)), "%", false⟩,
    ⟨0x02, "adc1_load_percent", .u8, 0, 255, 0, 255, none, none, [], 0, [], (some (.int 0)), "%", false⟩,
    ⟨0x03, "slow_rounds_late", .u32, 0, 255, 0, 255, none, none, [], 0, [], (some (.int 0)), "", false⟩,
    ⟨0x04, "fast_rounds_late", .u32, 0, 255, 0, 255, none, none, [], 0, [], (some (.int 0)), "", false⟩,
    ⟨0x05, "trigger_wait_max_ns", .u32, 0, 255, 0, 255, none, none, [], 0, [], (some (.int 0)), "ns", false⟩ ]

/-- The groups of this range, lowest index first. -/
def odGroupsC : List OdGroup :=
  [ ⟨0x5400, 6, odRows_axis_config⟩,
    ⟨0x5410, 6, odRows_axis_motor⟩,
    ⟨0x5420, 6, odRows_axis_status⟩,
    ⟨0x5440, 1, odRows_transport_ramp⟩,
    ⟨0x5800, 32, odRows_loop_config⟩,
    ⟨0x5840, 32, odRows_loop_status⟩,
    ⟨0x5900, 32, odRows_ain⟩,
    ⟨0x5930, 4, odRows_pulse_in⟩,
    ⟨0x5940, 16, odRows_output⟩,
    ⟨0x5A00, 16, odRows_remote_temp⟩,
    ⟨0x5A10, 8, odRows_die_temp⟩,
    ⟨0x5A20, 1, odRows_thermal_status⟩,
    ⟨0x5A30, 1, odRows_adc_status⟩ ]

end Sys2Proof.Machine
end

