-- ==== Sys2Proof/Machine/OdTableD.lean ====
section
/-! DEFINITION. Rows of the object dictionary, indexes 16#5C00 to 16#FFFF, as the object tables of
spec/02 to spec/20 give them. -/

namespace Sys2Proof.Machine

/-- 16#5C00 power_control (R669). -/
def odRows_power_control : List OdRow :=
  [ ⟨0x01, "power_state", .enum8, 0, 255, 0, 255, none, none, [], 0, [], none, "", false⟩,
    ⟨0x02, "power_cause", .enum8, 0, 255, 0, 255, none, none, [], 0, [], (some (.int 0)), "", false⟩,
    ⟨0x03, "power_off_request", .bool, 0, 3, 0, 0, none, none, [], 0, [], (some (.int 0)), "", true⟩,
    ⟨0x04, "power_auto_restart", .bool, 0, 2, 1, 0, none, none, [], 0, [], (some (.int 1)), "", false⟩,
    ⟨0x05, "power_min_off_ms", .u16, 0, 3, 1, 0, (some 100), (some 60000), [], 0, [], (some (.int 100)), "ms", false⟩,
    ⟨0x06, "wake_off_hold_ms", .u16, 0, 3, 1, 0, none, none, [(0, 0), (1000, 30000)], 0, [], (some (.int 4000)), "ms", false⟩,
    ⟨0x07, "seq_fault_latched", .bool, 0, 255, 0, 255, none, none, [], 0, [], (some (.int 0)), "", false⟩,
    ⟨0x08, "seq_fault_channel", .u8, 0, 255, 0, 255, none, none, [], 0, [], (some (.int 255)), "", false⟩,
    ⟨0x09, "seq_fault_kind", .enum8, 0, 255, 0, 255, none, none, [], 0, [], (some (.int 0)), "", false⟩,
    ⟨0x0A, "seq_fault_clear", .bool, 0, 3, 0, 0, none, none, [], 0, [], (some (.int 0)), "", true⟩,
    ⟨0x0B, "seq_step_now", .u8, 0, 255, 0, 255, none, none, [], 0, [], (some (.int 255)), "", false⟩,
    ⟨0x0C, "aon_state_lost", .bool, 0, 255, 0, 255, none, none, [], 0, [], (some (.int 0)), "", false⟩ ]

/-- 16#5C01 supply_supervisor (R670). -/
def odRows_supply_supervisor : List OdRow :=
  [ ⟨0x01, "sup_divider_milli", .u32, 0, 3, 1, 0, (some 1000), (some 100000), [], 0, [], (some (.int 25000)), "", false⟩,
    ⟨0x02, "sup_warn_mv", .u32, 0, 3, 1, 0, (some 10000), (some 60000), [], 0, [], (some (.int 19000)), "mV", false⟩,
    ⟨0x03, "sup_reset_mv", .u32, 0, 3, 1, 0, (some 9000), (some 59000), [], 0, [], (some (.int 16500)), "mV", false⟩,
    ⟨0x04, "sup_hysteresis_mv", .u16, 0, 3, 1, 0, (some 100), (some 5000), [], 0, [], (some (.int 500)), "mV", false⟩,
    ⟨0x05, "sup_filter_us", .u16, 0, 3, 1, 0, (some 1), (some 100), [], 0, [], (some (.int 2)), "µs", false⟩,
    ⟨0x06, "sup_main_mv", .u32, 0, 255, 0, 255, none, none, [], 0, [], none, "mV", false⟩,
    ⟨0x07, "holdup_active", .bool, 0, 255, 0, 255, none, none, [], 0, [], (some (.int 0)), "", false⟩,
    ⟨0x08, "sup_warnings", .u32, 0, 255, 0, 255, none, none, [], 0, [], (some (.int 0)), "", false⟩,
    ⟨0x09, "sup_glitches", .u32, 0, 255, 0, 255, none, none, [], 0, [], (some (.int 0)), "", false⟩,
    ⟨0x0A, "brownouts_recovered", .u32, 0, 255, 1, 255, none, none, [], 0, [], (some (.int 0)), "", false⟩ ]

/-- 16#5C02 holdup_status (R671). -/
def odRows_holdup_status : List OdRow :=
  [ ⟨0x01, "last_warning_time", .time64, 0, 255, 0, 255, none, none, [], 0, [], (some (.int 0)), "", false⟩,
    ⟨0x02, "last_stop_kind", .enum8, 0, 255, 0, 255, none, none, [], 0, [], (some (.int 255)), "", false⟩,
    ⟨0x03, "last_sequence_us", .u32, 0, 255, 0, 255, none, none, [], 0, [], (some (.int 0)), "µs", false⟩,
    ⟨0x04, "journal_pending_max", .u32, 0, 255, 0, 255, none, none, [], 0, [], (some (.int 0)), "B", false⟩,
    ⟨0x05, "record_slots_erased", .u8, 0, 255, 0, 255, none, none, [], 0, [], (some (.int 16)), "", false⟩,
    ⟨0x06, "boot_record", .enum8, 0, 255, 0, 255, none, none, [], 0, [], (some (.int 0)), "", false⟩,
    ⟨0x07, "items_closed_at_boot", .u8, 0, 255, 0, 255, none, none, [], 0, [], (some (.int 0)), "", false⟩ ]

/-- 16#5C10 to 16#5C1F seq_channel (R672). -/
def odRows_seq_channel : List OdRow :=
  [ ⟨0x01, "seq_step", .u8, 0, 3, 1, 5, none, none, [(0, 15), (255, 255)], 0, [], (some (.int 255)), "", false⟩,
    ⟨0x02, "seq_on_delay_us", .u32, 0, 3, 1, 5, (some 0), (some 1000000), [], 0, [], (some (.int 0)), "µs", false⟩,
    ⟨0x03, "seq_win_min_mv", .u16, 0, 3, 1, 5, (some 0), (some 1200), [], 0, [], (some (.int 0)), "mV", false⟩,
    ⟨0x04, "seq_win_max_mv", .u16, 0, 3, 1, 5, (some 0), (some 1200), [], 0, [], (some (.int 1200)), "mV", false⟩,
    ⟨0x05, "seq_nominal_mv", .u16, 0, 3, 1, 5, (some 0), (some 1200), [], 0, [], (some (.int 600)), "mV", false⟩,
    ⟨0x06, "seq_up_timeout_ms", .u16, 0, 3, 1, 5, (some 1), (some 10000), [], 0, [], (some (.int 100)), "ms", false⟩,
    ⟨0x07, "seq_settle_us", .u32, 0, 3, 1, 5, (some 0), (some 1000000), [], 0, [], (some (.int 1000)), "µs", false⟩,
    ⟨0x08, "seq_glitch_us", .u16, 0, 3, 1, 5, (some 1), (some 10000), [], 0, [], (some (.int 20)), "µs", false⟩,
    ⟨0x09, "seq_off_delay_us", .u32, 0, 3, 1, 5, (some 0), (some 1000000), [], 0, [], (some (.int 0)), "µs", false⟩,
    ⟨0x0A, "seq_off_level_mv", .u16, 0, 3, 1, 5, (some 0), (some 1200), [], 0, [], (some (.int 60)), "mV", false⟩,
    ⟨0x0B, "seq_down_timeout_ms", .u16, 0, 3, 1, 5, (some 1), (some 10000), [], 0, [], (some (.int 100)), "ms", false⟩,
    ⟨0x0C, "seq_safe_action", .enum8, 0, 3, 1, 5, none, none, [(0, 0), (1, 1)], 0, [], (some (.int 0)), "", false⟩,
    ⟨0x0D, "seq_service", .bool, 0, 3, 1, 5, none, none, [], 0, [], (some (.int 0)), "", false⟩,
    ⟨0x0E, "seq_monitor_mv", .u16, 0, 255, 0, 255, none, none, [], 0, [], (some (.int 0)), "mV", false⟩,
    ⟨0x0F, "seq_channel_state", .enum8, 0, 255, 0, 255, none, none, [], 0, [], (some (.int 0)), "", false⟩,
    ⟨0x10, "seq_faults", .u32, 0, 255, 0, 255, none, none, [], 0, [], (some (.int 0)), "", false⟩ ]

/-- 16#5C30 to 16#5C37 margin (R673). -/
def odRows_margin : List OdRow :=
  [ ⟨0x01, "margin_channel", .u8, 0, 3, 1, 4, none, none, [(0, 15), (255, 255)], 0, [], (some (.int 255)), "", false⟩,
    ⟨0x02, "margin_tenths", .i16, 0, 3, 0, 0, (some (-100)), (some 100), [], 0, [], (some (.int 0)), "", false⟩,
    ⟨0x03, "margin_in_effect", .i16, 0, 255, 0, 255, none, none, [], 0, [], (some (.int 0)), "", false⟩ ]

/-- 16#5C40 to 16#5C4D power_domain (R674). -/
def odRows_power_domain : List OdRow :=
  [ ⟨0x01, "domain_enable", .bool, 0, 2, 1, 4, none, none, [], 0, [], (some (.int 1)), "", false⟩,
    ⟨0x02, "domain_state", .enum8, 0, 255, 0, 255, none, none, [], 0, [], (some (.int 0)), "", false⟩,
    ⟨0x03, "domain_on_count", .u32, 0, 255, 0, 255, none, none, [], 0, [], (some (.int 0)), "", false⟩ ]

/-- 16#6000 fault_collector (R706). -/
def odRows_fault_collector : List OdRow :=
  [ ⟨0x01, "collector_state", .enum8, 0, 255, 0, 255, none, none, [], 0, [], (some (.int 0)), "", false⟩,
    ⟨0x02, "safe_cause", .u16, 0, 255, 0, 255, none, none, [], 0, [], (some (.int 65535)), "", false⟩,
    ⟨0x03, "safe_entry_time", .time64, 0, 255, 0, 255, none, none, [], 0, [], (some (.int 0)), "", false⟩,
    ⟨0x04, "safe_state_exit", .bool, 0, 3, 0, 0, none, none, [], 0, [], (some (.int 0)), "", true⟩,
    ⟨0x05, "fault_n_mode", .enum8, 0, 2, 1, 0, none, none, [(0, 0), (1, 1)], 0, [], (some (.int 0)), "", false⟩,
    ⟨0x06, "fault_n_drive", .bool, 0, 2, 0, 0, none, none, [], 0, [], (some (.int 0)), "", false⟩,
    ⟨0x07, "fault_n_asserted", .bool, 0, 255, 0, 255, none, none, [], 0, [], (some (.int 0)), "", false⟩,
    ⟨0x08, "self_test_period_ms", .u16, 0, 3, 1, 0, (some 10), (some 10000), [], 0, [], (some (.int 100)), "ms", false⟩,
    ⟨0x09, "safe_entries", .u32, 0, 255, 0, 255, none, none, [], 0, [], (some (.int 0)), "", false⟩ ]

/-- 16#6001 fault_control (R707). -/
def odRows_fault_control : List OdRow :=
  [ ⟨0x01, "fault_clear", .u16, 0, 1, 0, 0, (some 0), (some 256), [], 0, [], (some (.int 65535)), "", true⟩,
    ⟨0x02, "fault_inject", .u16, 0, 3, 0, 0, (some 0), (some 255), [], 0, [], (some (.int 65535)), "", true⟩,
    ⟨0x03, "inject_result", .enum8, 0, 255, 0, 255, none, none, [], 0, [], (some (.int 0)), "", false⟩,
    ⟨0x04, "action_write", .u32, 0, 2, 0, 0, none, none, [], 0x1FFF, [], (some (.int 0)), "", false⟩,
    ⟨0x05, "sources_active", .u16, 0, 255, 0, 255, none, none, [], 0, [], (some (.int 0)), "", false⟩,
    ⟨0x06, "pair_errors", .u32, 0, 255, 0, 255, none, none, [], 0, [], (some (.int 0)), "", false⟩ ]

/-- 16#6010 to 16#6017 fault_group (R708). -/
def odRows_fault_group : List OdRow :=
  [ ⟨0x01, "quiet_period_ms", .u16, 0, 2, 1, 0, (some 10), (some 60000), [], 0, [], (some (.int 100)), "ms", false⟩,
    ⟨0x02, "safe_exit_mode", .enum8, 0, 3, 1, 0, none, none, [(0, 0), (1, 1)], 0, [], (some (.int 0)), "", false⟩,
    ⟨0x03, "recovery_limit", .u16, 0, 3, 1, 0, none, none, [], 0, [], (some (.int 3)), "", false⟩,
    ⟨0x04, "recovery_count", .u16, 0, 255, 0, 255, none, none, [], 0, [], (some (.int 0)), "", false⟩,
    ⟨0x05, "recovery_count_reset", .bool, 0, 3, 0, 0, none, none, [], 0, [], (some (.int 0)), "", true⟩,
    ⟨0x06, "active_mask", .u64, 0, 255, 0, 255, none, none, [], 0, [], (some (.int 0)), "", false⟩,
    ⟨0x07, "sticky_mask", .u64, 0, 255, 0, 255, none, none, [], 0, [], (some (.int 0)), "", false⟩,
    ⟨0x08, "last_activation_time", .time64, 0, 255, 0, 255, none, none, [], 0, [], (some (.int 0)), "", false⟩ ]

/-- 16#6020 fault_source_query (R709). -/
def odRows_fault_source_query : List OdRow :=
  [ ⟨0x01, "query_source", .u8, 0, 0, 3, 0, (some 0), (some 255), [], 0, [], (some (.int 0)), "", false⟩,
    ⟨0x02, "source_state", .enum8, 0, 255, 3, 255, none, none, [], 0, [], (some (.int 0)), "", false⟩,
    ⟨0x03, "source_sticky", .bool, 0, 255, 3, 255, none, none, [], 0, [], (some (.int 0)), "", false⟩,
    ⟨0x04, "source_actions", .bits32, 0, 255, 3, 255, none, none, [], 0, [], (some (.int 0)), "", false⟩,
    ⟨0x05, "source_fixed", .bits32, 0, 255, 3, 255, none, none, [], 0, [], (some (.int 0)), "", false⟩,
    ⟨0x06, "source_activations", .u32, 0, 255, 3, 255, none, none, [], 0, [], (some (.int 0)), "", false⟩,
    ⟨0x07, "source_name", (.str 24), 0, 255, 3, 255, none, none, [], 0, [], none, "", false⟩ ]

/-- 16#6100 pair_config (R710). -/
def odRows_pair_config : List OdRow :=
  [ ⟨0x01, "pair_enable", .bool, 0, 3, 1, 5, none, none, [], 0, [], (some (.int 0)), "", false⟩,
    ⟨0x02, "pair_priority", .u8, 0, 3, 1, 5, none, none, [], 0, [], (some (.int 0)), "", false⟩,
    ⟨0x03, "pair_seek_ms", .u16, 0, 3, 1, 5, (some 100), (some 10000), [], 0, [], (some (.int 500)), "ms", false⟩,
    ⟨0x04, "pair_loss_us", .u16, 0, 3, 1, 0, (some 15), (some 1000), [], 0, [], (some (.int 25)), "µs", false⟩,
    ⟨0x05, "pair_enc_tolerance_counts", .u8, 0, 2, 1, 0, (some 0), (some 64), [], 0, [], (some (.int 2)), "", false⟩,
    ⟨0x06, "pair_switchover_request", .bool, 0, 3, 0, 0, none, none, [], 0, [], (some (.int 0)), "", true⟩,
    ⟨0x07, "pair_auto_resync", .bool, 0, 3, 1, 0, none, none, [], 0, [], (some (.int 1)), "", false⟩,
    ⟨0x08, "pair_shared_seq", .bits32, 0, 3, 1, 5, none, none, [], 0xFFFF, [], (some (.int 0)), "", false⟩ ]

/-- 16#6101 pair_status (R711). -/
def odRows_pair_status : List OdRow :=
  [ ⟨0x01, "pair_state", .enum8, 0, 255, 0, 255, none, none, [], 0, [], (some (.int 0)), "", false⟩,
    ⟨0x02, "pair_reason", .enum8, 0, 255, 0, 255, none, none, [], 0, [], (some (.int 0)), "", false⟩,
    ⟨0x03, "pair_epoch", .u16, 0, 255, 0, 255, none, none, [], 0, [], (some (.int 0)), "", false⟩,
    ⟨0x04, "partner_serial", (.str 16), 0, 255, 0, 255, none, none, [], 0, [], (some (.bytes [])), "", false⟩,
    ⟨0x05, "switchovers", .u32, 0, 255, 0, 255, none, none, [], 0, [], (some (.int 0)), "", false⟩,
    ⟨0x06, "last_switchover_time", .time64, 0, 255, 0, 255, none, none, [], 0, [], (some (.int 0)), "", false⟩,
    ⟨0x07, "last_takeover_us", .u32, 0, 255, 0, 255, none, none, [], 0, [], (some (.int 0)), "µs", false⟩,
    ⟨0x08, "last_gap_lines", .u32, 0, 255, 0, 255, none, none, [], 0, [], (some (.int 0)), "", false⟩,
    ⟨0x09, "mirror_lag_us", .u32, 0, 255, 0, 255, none, none, [], 0, [], (some (.int 0)), "µs", false⟩,
    ⟨0x0A, "sync_progress_percent", .u8, 0, 255, 0, 255, none, none, [], 0, [], (some (.int 0)), "%", false⟩ ]

/-- 16#6102 pair_health (R712). -/
def odRows_pair_health : List OdRow :=
  [ ⟨0x01, "health", .bits32, 0, 255, 0, 255, none, none, [], 0, [], (some (.int 0)), "", false⟩,
    ⟨0x02, "health_links", .u64, 0, 255, 0, 255, none, none, [], 0, [], (some (.int 0)), "", false⟩,
    ⟨0x03, "takeover_ready", .bool, 0, 255, 0, 255, none, none, [], 0, [], (some (.int 0)), "", false⟩,
    ⟨0x04, "encoder_mismatch_max", .i32, 0, 255, 0, 255, none, none, [], 0, [], (some (.int 0)), "", false⟩,
    ⟨0x05, "trigger_mismatches", .u32, 0, 255, 0, 255, none, none, [], 0, [], (some (.int 0)), "", false⟩,
    ⟨0x06, "mirror_frame_errors", .u32, 0, 255, 0, 255, none, none, [], 0, [], (some (.int 0)), "", false⟩ ]

/-- 16#6400 couch_store_status (R349). -/
def odRows_couch_store_status : List OdRow :=
  [ ⟨0x01, "couch_init_done", .bool, 0, 255, 0, 255, none, none, [], 0, [], (some (.int 0)), "", false⟩,
    ⟨0x02, "couch_ecc_corrected", .u64, 0, 255, 0, 255, none, none, [], 0, [], (some (.int 0)), "", false⟩,
    ⟨0x03, "couch_ecc_uncorrectable", .u32, 0, 255, 0, 255, none, none, [], 0, [], (some (.int 0)), "", false⟩,
    ⟨0x04, "last_ecc_offset", .u32, 0, 255, 0, 255, none, none, [], 0, [], (some (.int 0)), "", false⟩,
    ⟨0x05, "last_ecc_requester", .enum8, 0, 255, 0, 255, none, none, [], 0, [], (some (.int 255)), "", false⟩,
    ⟨0x06, "fetch_latency_max", .u16, 0, 255, 0, 255, none, none, [], 0, [], (some (.int 0)), "", false⟩,
    ⟨0x07, "starvation_promotions", .u32, 0, 255, 0, 255, none, none, [], 0, [], (some (.int 0)), "", false⟩,
    ⟨0x08, "bank_busy_percent", .u8, 0, 255, 0, 255, none, none, [], 0, [], (some (.int 0)), "%", false⟩,
    ⟨0x09, "protection_violations", .u32, 0, 255, 0, 255, none, none, [], 0, [], (some (.int 0)), "", false⟩ ]

/-- 16#6410 dram_config (R350). -/
def odRows_dram_config : List OdRow :=
  [ ⟨0x01, "dram_ecc_enable", .bool, 0, 3, 1, 5, none, none, [], 0, [], (some (.int 1)), "", false⟩,
    ⟨0x02, "integ_dram_mib", .u32, 0, 2, 1, 5, none, none, [], 0, [], (some (.int 256)), "MiB", false⟩,
    ⟨0x03, "patrol_scrub_hours", .u16, 0, 3, 1, 0, (some 0), (some 168), [], 0, [], (some (.int 24)), "h", false⟩,
    ⟨0x04, "refresh_temp_poll_ms", .u16, 0, 3, 1, 0, (some 50), (some 1000), [], 0, [], (some (.int 250)), "ms", false⟩,
    ⟨0x05, "rt_panic_percent", .u8, 0, 3, 1, 0, (some 5), (some 50), [], 0, [], (some (.int 25)), "%", false⟩ ]

/-- 16#6411 dram_status (R351). -/
def odRows_dram_status : List OdRow :=
  [ ⟨0x01, "dram_state", .enum8, 0, 255, 0, 255, none, none, [], 0, [], (some (.int 0)), "", false⟩,
    ⟨0x02, "device_density_gbit", .u8, 0, 255, 0, 255, none, none, [], 0, [], (some (.int 0)), "", false⟩,
    ⟨0x03, "physical_mib", .u32, 0, 255, 0, 255, none, none, [], 0, [], (some (.int 0)), "MiB", false⟩,
    ⟨0x04, "logical_mib", .u32, 0, 255, 0, 255, none, none, [], 0, [], (some (.int 0)), "MiB", false⟩,
    ⟨0x05, "dram_ecc_corrected", .u64, 0, 255, 0, 255, none, none, [], 0, [], (some (.int 0)), "", false⟩,
    ⟨0x06, "dram_ecc_uncorrectable", .u32, 0, 255, 0, 255, none, none, [], 0, [], (some (.int 0)), "", false⟩,
    ⟨0x07, "panic_entries", .u32, 0, 255, 0, 255, none, none, [], 0, [], (some (.int 0)), "", false⟩,
    ⟨0x08, "refresh_postponed_max", .u8, 0, 255, 0, 255, none, none, [], 0, [], (some (.int 0)), "", false⟩,
    ⟨0x09, "refresh_rate_code", .u8, 0, 255, 0, 255, none, none, [], 0, [], (some (.int 0)), "", false⟩,
    ⟨0x0A, "last_training_time", .time64, 0, 255, 0, 255, none, none, [], 0, [], (some (.int 0)), "", false⟩,
    ⟨0x0B, "bandwidth_percent", .u8, 0, 255, 0, 255, none, none, [], 0, [], (some (.int 0)), "%", false⟩,
    ⟨0x0C, "raw_forwards", .u64, 0, 255, 0, 255, none, none, [], 0, [], (some (.int 0)), "", false⟩,
    ⟨0x0D, "scrub_passes", .u32, 0, 255, 0, 255, none, none, [], 0, [], (some (.int 0)), "", false⟩ ]

/-- 16#6412 dram_freeze_snapshot (R352). -/
def odRows_dram_freeze_snapshot : List OdRow :=
  [ ⟨0x01, "freeze_valid", .bool, 0, 255, 0, 255, none, none, [], 0, [], (some (.int 0)), "", false⟩,
    ⟨0x02, "freeze_time", .time64, 0, 255, 0, 255, none, none, [], 0, [], (some (.int 0)), "", false⟩,
    ⟨0x03, "freeze_boot_id", .u32, 0, 255, 0, 255, none, none, [], 0, [], (some (.int 0)), "", false⟩,
    ⟨0x04, "freeze_address", .u64, 0, 255, 0, 255, none, none, [], 0, [], (some (.int 0)), "", false⟩,
    ⟨0x05, "freeze_channel", .u8, 0, 255, 0, 255, none, none, [], 0, [], (some (.int 0)), "", false⟩,
    ⟨0x06, "freeze_bank", .u8, 0, 255, 0, 255, none, none, [], 0, [], (some (.int 0)), "", false⟩,
    ⟨0x07, "freeze_row", .u32, 0, 255, 0, 255, none, none, [], 0, [], (some (.int 0)), "", false⟩,
    ⟨0x08, "freeze_column", .u16, 0, 255, 0, 255, none, none, [], 0, [], (some (.int 0)), "", false⟩,
    ⟨0x09, "freeze_syndrome", .u16, 0, 255, 0, 255, none, none, [], 0, [], (some (.int 0)), "", false⟩,
    ⟨0x0A, "freeze_requester", .enum8, 0, 255, 0, 255, none, none, [], 0, [], (some (.int 255)), "", false⟩,
    ⟨0x0B, "freeze_queue_depth", .u16, 0, 255, 0, 255, none, none, [], 0, [], (some (.int 0)), "", false⟩,
    ⟨0x0C, "freeze_items_closed", .u16, 0, 255, 0, 255, none, none, [], 0, [], (some (.int 0)), "", false⟩,
    ⟨0x0D, "freeze_clear", .bool, 0, 3, 0, 0, none, none, [], 0, [], (some (.int 0)), "", true⟩ ]

/-- 16#6500 dma_engine (R373). -/
def odRows_dma_engine : List OdRow :=
  [ ⟨0x01, "bus_error_active", .bool, 0, 255, 0, 255, none, none, [], 0, [], (some (.int 0)), "", false⟩,
    ⟨0x02, "bus_error_address", .u64, 0, 255, 0, 255, none, none, [], 0, [], (some (.int 0)), "", false⟩,
    ⟨0x03, "bus_error_map", .enum8, 0, 255, 0, 255, none, none, [], 0, [], (some (.int 0)), "", false⟩,
    ⟨0x04, "bus_error_time", .time64, 0, 255, 0, 255, none, none, [], 0, [], (some (.int 0)), "", false⟩,
    ⟨0x05, "bus_error_count", .u32, 0, 255, 0, 255, none, none, [], 0, [], (some (.int 0)), "", false⟩,
    ⟨0x06, "bus_error_clear", .bool, 0, 3, 0, 0, none, none, [], 0, [], (some (.int 0)), "", true⟩,
    ⟨0x07, "engine_busy_percent", .u8, 0, 255, 0, 255, none, none, [], 0, [], (some (.int 0)), "%", false⟩ ]

/-- 16#6510 to 16#651F dma_channel (R374). -/
def odRows_dma_channel : List OdRow :=
  [ ⟨0x01, "channel_owner", .enum8, 0, 255, 0, 255, none, none, [], 0, [], none, "", false⟩,
    ⟨0x02, "channel_state", .enum8, 0, 255, 0, 255, none, none, [], 0, [], (some (.int 0)), "", false⟩,
    ⟨0x03, "chains_ended", .u64, 0, 255, 0, 255, none, none, [], 0, [], (some (.int 0)), "", false⟩,
    ⟨0x04, "descriptors_done", .u64, 0, 255, 0, 255, none, none, [], 0, [], (some (.int 0)), "", false⟩,
    ⟨0x05, "bytes_moved", .u64, 0, 255, 0, 255, none, none, [], 0, [], (some (.int 0)), "B", false⟩,
    ⟨0x06, "count_validity", .enum8, 0, 255, 0, 255, none, none, [], 0, [], (some (.int 0)), "", false⟩,
    ⟨0x07, "counts_reset", .bool, 0, 3, 0, 0, none, none, [], 0, [], (some (.int 0)), "", true⟩,
    ⟨0x08, "budget_stops", .u32, 0, 255, 0, 255, none, none, [], 0, [], (some (.int 0)), "", false⟩,
    ⟨0x09, "doorbell_errors", .u32, 0, 255, 0, 255, none, none, [], 0, [], (some (.int 0)), "", false⟩,
    ⟨0x0A, "last_error", .enum8, 0, 255, 0, 255, none, none, [], 0, [], (some (.int 0)), "", false⟩,
    ⟨0x0B, "chain_budget_default", .u32, 0, 3, 1, 4, (some 1), (some 16777215), [], 0, [], (some (.int 65535)), "", false⟩ ]

/-- 16#6600 to 16#6603 codec_instance (R317). -/
def odRows_codec_instance : List OdRow :=
  [ ⟨0x01, "jobs_done", .u64, 0, 255, 0, 255, none, none, [], 0, [], (some (.int 0)), "", false⟩,
    ⟨0x02, "bytes_consumed", .u64, 0, 255, 0, 255, none, none, [], 0, [], (some (.int 0)), "B", false⟩,
    ⟨0x03, "bytes_produced", .u64, 0, 255, 0, 255, none, none, [], 0, [], (some (.int 0)), "B", false⟩,
    ⟨0x04, "count_validity", .enum8, 0, 255, 0, 255, none, none, [], 0, [], (some (.int 0)), "", false⟩,
    ⟨0x05, "counts_reset", .bool, 0, 3, 0, 0, none, none, [], 0, [], (some (.int 0)), "", true⟩,
    ⟨0x06, "errors", .u32, 0, 255, 0, 255, none, none, [], 0, [], (some (.int 0)), "", false⟩,
    ⟨0x07, "suspensions", .u32, 0, 255, 0, 255, none, none, [], 0, [], (some (.int 0)), "", false⟩,
    ⟨0x08, "last_error", .enum8, 0, 255, 0, 255, none, none, [], 0, [], (some (.int 0)), "", false⟩,
    ⟨0x09, "busy_percent", .u8, 0, 255, 0, 255, none, none, [], 0, [], (some (.int 0)), "%", false⟩,
    ⟨0x0A, "doorbell_errors", .u32, 0, 255, 0, 255, none, none, [], 0, [], (some (.int 0)), "", false⟩ ]

/-- 16#6610 codec_config (R318). -/
def odRows_codec_config : List OdRow :=
  [ ⟨0x01, "q2_share", .u8, 0, 3, 1, 0, (some 0), (some 100), [], 0, [], (some (.int 50)), "%", false⟩,
    ⟨0x02, "compositor_instances", .bits32, 0, 3, 1, 4, none, none, [], 0xF, [], (some (.int 15)), "", false⟩,
    ⟨0x03, "archive_instances", .bits32, 0, 2, 1, 4, none, none, [], 0xF, [], (some (.int 12)), "", false⟩ ]

/-- 16#6800 clock_sources (R116). -/
def odRows_clock_sources : List OdRow :=
  [ ⟨0x01, "xtal_status", .enum8, 0, 255, 0, 255, none, none, [], 0, [], (some (.int 0)), "", false⟩,
    ⟨0x02, "netref_status", .enum8, 0, 255, 0, 255, none, none, [], 0, [], (some (.int 0)), "", false⟩,
    ⟨0x03, "rtc_status", .enum8, 0, 255, 0, 255, none, none, [], 0, [], (some (.int 0)), "", false⟩,
    ⟨0x04, "fallback_active", .bool, 0, 255, 0, 255, none, none, [], 0, [], (some (.int 0)), "", false⟩,
    ⟨0x05, "xtal_offset_ppb", .i32, 0, 255, 0, 255, none, none, [], 0, [], (some (.int 0)), "ppb", false⟩ ]

/-- 16#6810 to 16#6813 pll (R117). -/
def odRows_pll : List OdRow :=
  [ ⟨0x01, "pll_enable", .bool, 0, 3, 1, 0, none, none, [], 0, [], none, "", false⟩,
    ⟨0x02, "pll_ref_source", .enum8, 0, 3, 1, 5, none, none, [(0, 0), (1, 1)], 0, [], (some (.int 0)), "", false⟩,
    ⟨0x03, "pll_ref_mode", .enum8, 0, 3, 1, 5, none, none, [(0, 0), (1, 1), (2, 2), (3, 3)], 0, [], (some (.int 3)), "", false⟩,
    ⟨0x04, "pll_vco_target_hz", .u64, 0, 3, 1, 0, (some 4000000000), (some 8000000000), [], 0, [], none, "Hz", false⟩,
    ⟨0x05, "pll_glide_rate_ppm", .u16, 0, 3, 1, 0, (some 1), (some 1000), [], 0, [], (some (.int 1000)), "ppm", false⟩,
    ⟨0x06, "pll_loop_bw_khz", .u16, 0, 3, 1, 5, (some 100), (some 2000), [], 0, [], (some (.int 500)), "kHz", false⟩,
    ⟨0x07, "pll_spur_min_offset_khz", .u32, 0, 3, 1, 5, (some 0), (some 50000), [], 0, [], (some (.int 2000)), "kHz", false⟩,
    ⟨0x08, "pll_state", .enum8, 0, 255, 0, 255, none, none, [], 0, [], none, "", false⟩,
    ⟨0x09, "pll_n_int", .u16, 0, 255, 0, 255, none, none, [], 0, [], none, "", false⟩,
    ⟨0x0A, "pll_fraction", .u32, 0, 255, 0, 255, none, none, [], 0, [], none, "", false⟩,
    ⟨0x0B, "pll_pfd_hz", .u32, 0, 255, 0, 255, none, none, [], 0, [], none, "Hz", false⟩,
    ⟨0x0C, "pll_vco_error_ppb", .i32, 0, 255, 0, 255, none, none, [], 0, [], none, "ppb", false⟩,
    ⟨0x0D, "pll_spur_offset_khz", .u32, 0, 255, 0, 255, none, none, [], 0, [], none, "kHz", false⟩,
    ⟨0x0E, "pll_anchor_hz", .u64, 0, 255, 0, 255, none, none, [], 0, [], none, "Hz", false⟩,
    ⟨0x0F, "pll_lock_held_us", .u32, 0, 255, 0, 255, none, none, [], 0, [], (some (.int 0)), "µs", false⟩,
    ⟨0x10, "pll_lock_loss_count", .u32, 0, 255, 0, 255, none, none, [], 0, [], (some (.int 0)), "", false⟩ ]

/-- 16#6820 to 16#683F clock_out (R118). -/
def odRows_clock_out : List OdRow :=
  [ ⟨0x01, "out_enable", .bool, 0, 3, 1, 0, none, none, [], 0, [], none, "", false⟩,
    ⟨0x02, "out_divider", .u16, 0, 3, 1, 4, (some 2), (some 1023), [], 0, [], none, "", false⟩,
    ⟨0x03, "out_delay_steps", .u16, 0, 3, 1, 0, none, none, [], 0, [], (some (.int 0)), "", false⟩,
    ⟨0x04, "out_freq_hz", .u32, 0, 255, 0, 255, none, none, [], 0, [], none, "Hz", false⟩,
    ⟨0x05, "out_clock_name", (.str 16), 0, 255, 0, 255, none, none, [], 0, [], none, "", false⟩,
    ⟨0x06, "out_range_fault_count", .u32, 0, 255, 0, 255, none, none, [], 0, [], (some (.int 0)), "", false⟩ ]

/-- 16#7000 island_identity (R634). -/
def odRows_island_identity : List OdRow :=
  [ ⟨0x01, "island_state", .enum8, 0, 255, 0, 255, none, none, [], 0, [], (some (.int 1)), "", false⟩,
    ⟨0x02, "fault_reason", .enum8, 0, 255, 0, 255, none, none, [], 0, [], (some (.int 0)), "", false⟩,
    ⟨0x03, "software_id", (.str 16), 0, 255, 0, 255, none, none, [], 0, [], none, "", false⟩,
    ⟨0x04, "software_digest", .u64, 0, 255, 0, 255, none, none, [], 0, [], none, "", false⟩,
    ⟨0x05, "event_counter", .u32, 0, 255, 0, 255, none, none, [], 0, [], (some (.int 0)), "", false⟩,
    ⟨0x06, "seal_epoch", .u16, 0, 255, 0, 255, none, none, [], 0, [], (some (.int 0)), "", false⟩,
    ⟨0x07, "seal_openings", .u32, 0, 255, 0, 255, none, none, [], 0, [], (some (.int 0)), "", false⟩ ]

/-- 16#7010 weighing_config (R635). -/
def odRows_weighing_config : List OdRow :=
  [ ⟨0x01, "max_capacity_mg", .u32, 0, 5, 2, 0, none, none, [], 0, [], (some (.int 6000000)), "mg", false⟩,
    ⟨0x02, "scale_interval_mg", .u32, 0, 5, 2, 0, none, none, [], 0, [], (some (.int 2000)), "mg", false⟩,
    ⟨0x03, "min_intervals", .u16, 0, 5, 2, 0, none, none, [], 0, [], (some (.int 20)), "", false⟩,
    ⟨0x04, "zero_range_percent", .u8, 0, 5, 2, 0, (some 1), (some 20), [], 0, [], (some (.int 4)), "%", false⟩,
    ⟨0x05, "zero_tracking", .bool, 0, 5, 2, 0, none, none, [], 0, [], (some (.int 1)), "", false⟩,
    ⟨0x06, "stability_band_tenths", .u8, 0, 5, 2, 0, none, none, [], 0, [], (some (.int 10)), "", false⟩,
    ⟨0x07, "unit_text", (.str 4), 0, 5, 2, 0, none, none, [], 0, [], (some (.bytes [107, 103])), "", false⟩,
    ⟨0x08, "unit_mg", .u32, 0, 5, 2, 0, none, none, [], 0, [], (some (.int 1000000)), "mg", false⟩,
    ⟨0x09, "weight_decimals", .u8, 0, 5, 2, 0, (some 0), (some 6), [], 0, [], (some (.int 3)), "", false⟩,
    ⟨0x0A, "currency_text", (.str 4), 0, 5, 2, 0, none, none, [], 0, [], (some (.bytes [226, 130, 172])), "", false⟩,
    ⟨0x0B, "price_decimals", .u8, 0, 5, 2, 0, (some 0), (some 3), [], 0, [], (some (.int 2)), "", false⟩,
    ⟨0x0C, "result_max_age_ms", .u32, 0, 5, 2, 0, (some 100), (some 600000), [], 0, [], (some (.int 10000)), "ms", false⟩ ]

/-- 16#7011 to 16#7012 load_cell (R636). -/
def odRows_load_cell : List OdRow :=
  [ ⟨0x01, "wp_lane", .u8, 0, 5, 2, 0, (some 0), (some 7), [], 0, [], (some (.int 0)), "", false⟩,
    ⟨0x02, "wp_delay_ms", .u16, 0, 5, 2, 0, (some 0), (some 10000), [], 0, [], (some (.int 150)), "ms", false⟩,
    ⟨0x03, "wp_window_ms", .u16, 0, 5, 2, 0, (some 5), (some 2000), [], 0, [], (some (.int 80)), "ms", false⟩,
    ⟨0x04, "cal_span", .f32, 0, 5, 2, 0, none, none, [], 0, [], (some (.int 1065353216)), "mg", false⟩,
    ⟨0x05, "cal_zero", .i32, 0, 5, 2, 0, none, none, [], 0, [], (some (.int 0)), "", false⟩ ]

/-- 16#7030 to 16#7037 unit_price (R637). -/
def odRows_unit_price : List OdRow :=
  [ ⟨0x01, "unit_price", .u32, 0, 1, 1, 0, (some 0), (some 99999999), [], 0, [], (some (.int 0)), "", false⟩ ]

/-- 16#7040 weighing_status (R638). -/
def odRows_weighing_status : List OdRow :=
  [ ⟨0x01, "zero_request", .bool, 0, 1, 0, 0, none, none, [], 0, [], (some (.int 0)), "", true⟩,
    ⟨0x02, "last_sequence", .u32, 0, 255, 0, 255, none, none, [], 0, [], (some (.int 0)), "", false⟩,
    ⟨0x03, "results_issued", .u64, 0, 255, 0, 255, none, none, [], 0, [], (some (.int 0)), "", false⟩,
    ⟨0x04, "results_bound", .u64, 0, 255, 0, 255, none, none, [], 0, [], (some (.int 0)), "", false⟩,
    ⟨0x05, "results_expired", .u32, 0, 255, 0, 255, none, none, [], 0, [], (some (.int 0)), "", false⟩,
    ⟨0x06, "results_rejected_tag", .u32, 0, 255, 0, 255, none, none, [], 0, [], (some (.int 0)), "", false⟩,
    ⟨0x07, "edges_ignored", .u32, 0, 255, 0, 255, none, none, [], 0, [], (some (.int 0)), "", false⟩,
    ⟨0x08, "buffer_used", .u16, 0, 255, 0, 255, none, none, [], 0, [], (some (.int 0)), "", false⟩ ]

/-- The groups of this range, lowest index first. -/
def odGroupsD : List OdGroup :=
  [ ⟨0x5C00, 1, odRows_power_control⟩,
    ⟨0x5C01, 1, odRows_supply_supervisor⟩,
    ⟨0x5C02, 1, odRows_holdup_status⟩,
    ⟨0x5C10, 16, odRows_seq_channel⟩,
    ⟨0x5C30, 8, odRows_margin⟩,
    ⟨0x5C40, 14, odRows_power_domain⟩,
    ⟨0x6000, 1, odRows_fault_collector⟩,
    ⟨0x6001, 1, odRows_fault_control⟩,
    ⟨0x6010, 8, odRows_fault_group⟩,
    ⟨0x6020, 1, odRows_fault_source_query⟩,
    ⟨0x6100, 1, odRows_pair_config⟩,
    ⟨0x6101, 1, odRows_pair_status⟩,
    ⟨0x6102, 1, odRows_pair_health⟩,
    ⟨0x6400, 1, odRows_couch_store_status⟩,
    ⟨0x6410, 1, odRows_dram_config⟩,
    ⟨0x6411, 1, odRows_dram_status⟩,
    ⟨0x6412, 1, odRows_dram_freeze_snapshot⟩,
    ⟨0x6500, 1, odRows_dma_engine⟩,
    ⟨0x6510, 16, odRows_dma_channel⟩,
    ⟨0x6600, 4, odRows_codec_instance⟩,
    ⟨0x6610, 1, odRows_codec_config⟩,
    ⟨0x6800, 1, odRows_clock_sources⟩,
    ⟨0x6810, 4, odRows_pll⟩,
    ⟨0x6820, 32, odRows_clock_out⟩,
    ⟨0x7000, 1, odRows_island_identity⟩,
    ⟨0x7010, 1, odRows_weighing_config⟩,
    ⟨0x7011, 2, odRows_load_cell⟩,
    ⟨0x7030, 8, odRows_unit_price⟩,
    ⟨0x7040, 1, odRows_weighing_status⟩ ]

end Sys2Proof.Machine
end

