-- ==== Sys2Proof/Machine/OdDefaults.lean ====
section
/-! DEFINITION. Looking up the dictionary: the row of a key, whether an object exists (R160, R167), and
its default, including the defaults a table gives per member of an indexed family. -/

namespace Sys2Proof.Machine

/-- The group an index lies in. -/
def findGroup : List OdGroup → Nat → Option OdGroup
  | [], _ => none
  | g :: gs, i => if g.base ≤ i ∧ i < g.base + g.count then some g else findGroup gs i

/-- The row of a subindex. -/
def findRow : List OdRow → Nat → Option OdRow
  | [], _ => none
  | r :: rs, i => if r.sub = i then some r else findRow rs i

/-- The groups of the part of the index range an index lies in (R167). -/
def groupsFor (i : Nat) : List OdGroup :=
  if i < 0x4000 then odGroupsA
  else if i < 0x5400 then odGroupsB
  else if i < 0x5C00 then odGroupsC
  else odGroupsD

/-- The row of subindex 16#00, highest_subindex (R160). -/
def highestRow (n : Nat) : OdRow :=
  ⟨0, "highest_subindex", .u8, 0, 255, 0, 255, none, none, [], 0, [], some (.int n), "", false⟩

/-- What a rule says of single members of a family whose table is common: objects that are read-only on some of
them, and Applies values that differ (R114, R117, R193, R674). -/
def memberRow (k : Nat) (r : OdRow) : OdRow :=
  let i := k / 256
  let ro := { r with wr := 255, app := 255 }
  if 0x6810 ≤ i ∧ i ≤ 0x6813 then
    let p := i - 0x6810
    if r.sub = 1 ∧ p ≠ 3 then ro
    else if p = 3 ∧ (r.sub = 2 ∨ r.sub = 3 ∨ r.sub = 6) then { r with app := 4 }
    else if r.sub = 4 ∧ (p = 1 ∨ p = 2) then { r with app := 5 }
    else r
  else if i = 0x1102 ∧ r.sub = 9 then ro
  else if 0x5C40 ≤ i ∧ i ≤ 0x5C4D ∧ r.sub = 1 then
    if i = 0x5C48 ∨ i = 0x5C4A ∨ i = 0x5C4B ∨ i = 0x5C4D then r else ro
  else r

/-- The row of a key of the device's own dictionary. -/
def odRow (k : Nat) : Option OdRow :=
  match findGroup (groupsFor (k / 256)) (k / 256) with
  | none => none
  | some g =>
    if k % 256 = 0 then some (highestRow ((g.rows.map (fun r => r.sub)).foldl max 0))
    else (findRow g.rows (k % 256)).map (memberRow k)

/-- Clock names of R105, by PLL: each output's name and divider; the outputs after them are unassigned. -/
def clockPlan : List (List (String × Nat)) :=
  [[("CORE", 6), ("COMPOSE", 6), ("COUCH", 6), ("MGMT", 5), ("INTEG", 6), ("FIRE", 12), ("CAM", 12)],
    [("DDR_WCK", 2), ("DDR", 8), ("ANA", 64)],
    [("HLINK_SER", 2), ("MOTION", 25), ("CAM_MCLK0", 250), ("CAM_MCLK1", 250), ("CAM_MCLK2", 250),
      ("CAM_MCLK3", 250)],
    [("PIX0", 48), ("PIX1", 48)]]

/-- Output defaults of R105: enabled, divider, name. An unassigned output has the least divider (assumption log
entry 40). -/
def clockOutDefault (o : Nat) : Bool × Nat × List Byte :=
  match ((clockPlan.getD (o / 8) [])[o % 8]?) with
  | some c => (decide (o < 24), c.2, strBytes c.1)
  | none => (false, 2, [])

/-- VCO targets of R105. -/
def pllTargetDefault (p : Nat) : Nat :=
  if p = 1 then 6400000000 else if p = 2 then 6250000000 else 6000000000

/-- Default gate_target of a gate (R418). -/
def gateTargetDefault (g : Nat) : Nat :=
  if g < 4 then 2 ^ g else if g < 8 then 0x3F else if g = 8 then 0x10 else 0x20

/-- Defaults of identity objects: the features and the firmware major of this manual, and factory values. -/
def identityDefault (k : Nat) : Option OVal :=
  if k = 0x100009 then some (.int 3)
  else if k = 0x100006 then some (.int 0x04000000)
  else if k = 0x100004 ∨ k = 0x100005 ∨ k = 0x220105 ∨ k = 0x220106 ∨ k = 0x380005 ∨ k = 0x700003 then
    some (.bytes (Config.factoryText k))
  else if k = 0x110002 ∨ k = 0x110102 ∨ k = 0x110202 ∨ k = 0x700004 then
    some (.int (Config.factoryNumber k : Nat))
  else none

/-- Defaults that differ between the members of an indexed family, by key. -/
def odMemberDefault (k : Nat) : Option OVal :=
  let i := k / 256
  let j := k % 256
  let num := fun (n : Nat) => some (OVal.int n)
  if 0x6810 ≤ i ∧ i ≤ 0x6813 then
    if j = 1 then num (b2n (decide (i ≠ 0x6813))) else if j = 4 then num (pllTargetDefault (i - 0x6810)) else none
  else if 0x6820 ≤ i ∧ i ≤ 0x683F then
    let d := clockOutDefault (i - 0x6820)
    if j = 1 then num (b2n d.1) else if j = 2 then num d.2.1 else if j = 5 then some (.bytes d.2.2) else none
  else if 0x4010 ≤ i ∧ i ≤ 0x4019 ∧ j = 2 then num (gateTargetDefault (i - 0x4010))
  else if 0x4100 ≤ i ∧ i ≤ 0x411F then
    if j = 1 then num ((i - 0x4100) / 4) else if j = 2 then num (i % 4) else none
  else if 0x4C10 ≤ i ∧ i ≤ 0x4C13 ∧ j = 9 then num ((i - 0x4C10) / 2)
  else if (i = 0x5000 ∨ i = 0x5001) ∧ j = 2 then num (4 + (i - 0x5000))
  else if 0x6510 ≤ i ∧ i ≤ 0x651F ∧ j = 1 then num ((i - 0x6510) / 8)
  else identityDefault k

/-- The default of an object: the table's, or the zero of its type where the table gives none. -/
def odDefault (k : Nat) : OVal :=
  match odMemberDefault k with
  | some v => v
  | none =>
    match odRow k with
    | some r => r.dflt.getD (zeroVal r.ty)
    | none => .int 0

end Sys2Proof.Machine
end

