-- ==== Sys2Proof/Machine/OdKeys.lean ====
section
/-! DEFINITION. The keys of the objects, each by the name its table gives it (index and subindex in one
number, `odKey`). An object of an indexed family takes the number of the member. -/

namespace Sys2Proof.Machine

/-- OD 16#1000.01 (R190). -/
abbrev Od.device_identity.vendor_name : Nat := 0x100001
/-- OD 16#1000.02 (R190). -/
abbrev Od.device_identity.product_code : Nat := 0x100002
/-- OD 16#1000.03 (R190). -/
abbrev Od.device_identity.silicon_stepping : Nat := 0x100003
/-- OD 16#1000.04 (R190). -/
abbrev Od.device_identity.serial_number : Nat := 0x100004
/-- OD 16#1000.05 (R190). -/
abbrev Od.device_identity.ordering_code : Nat := 0x100005
/-- OD 16#1000.06 (R190). -/
abbrev Od.device_identity.firmware_version : Nat := 0x100006
/-- OD 16#1000.07 (R190). -/
abbrev Od.device_identity.firmware_slot : Nat := 0x100007
/-- OD 16#1000.08 (R190). -/
abbrev Od.device_identity.boot_id : Nat := 0x100008
/-- OD 16#1000.09 (R190). -/
abbrev Od.device_identity.features : Nat := 0x100009
/-- OD 16#1000.0A (R190). -/
abbrev Od.device_identity.integrator_version : Nat := 0x10000A
/-- OD 16#1000.0B (R190). -/
abbrev Od.device_identity.uptime_s : Nat := 0x10000B
/-- OD 16#1010.01 (R191). -/
abbrev Od.od_describe.describe_index : Nat := 0x101001
/-- OD 16#1010.02 (R191). -/
abbrev Od.od_describe.describe_subindex : Nat := 0x101002
/-- OD 16#1010.03 (R191). -/
abbrev Od.od_describe.describe_present : Nat := 0x101003
/-- OD 16#1010.04 (R191). -/
abbrev Od.od_describe.describe_name : Nat := 0x101004
/-- OD 16#1010.05 (R191). -/
abbrev Od.od_describe.describe_type : Nat := 0x101005
/-- OD 16#1010.06 (R191). -/
abbrev Od.od_describe.describe_length : Nat := 0x101006
/-- OD 16#1010.07 (R191). -/
abbrev Od.od_describe.describe_read_role : Nat := 0x101007
/-- OD 16#1010.08 (R191). -/
abbrev Od.od_describe.describe_write_role : Nat := 0x101008
/-- OD 16#1010.09 (R191). -/
abbrev Od.od_describe.describe_persistence : Nat := 0x101009
/-- OD 16#1010.0A (R191). -/
abbrev Od.od_describe.describe_applies : Nat := 0x10100A
/-- OD 16#1010.0B (R191). -/
abbrev Od.od_describe.describe_minimum : Nat := 0x10100B
/-- OD 16#1010.0C (R191). -/
abbrev Od.od_describe.describe_maximum : Nat := 0x10100C
/-- OD 16#1010.0D (R191). -/
abbrev Od.od_describe.describe_default : Nat := 0x10100D
/-- OD 16#1010.0E (R191). -/
abbrev Od.od_describe.describe_unit : Nat := 0x10100E
/-- OD 16#1010.0F (R191). -/
abbrev Od.od_describe.describe_frac_bits : Nat := 0x10100F
/-- OD 16#1010.10 (R191). -/
abbrev Od.od_describe.describe_default_length : Nat := 0x101010
/-- OD 16#1020.01 (R192). -/
abbrev Od.session_self.self_session : Nat := 0x102001
/-- OD 16#1020.02 (R192). -/
abbrev Od.session_self.self_role : Nat := 0x102002
/-- OD 16#1100.01, member n of 3 (R193). -/
abbrev Od.net_port.port_enable (n : Nat) : Nat := 0x110001 + 256 * n
/-- OD 16#1100.02, member n of 3 (R193). -/
abbrev Od.net_port.mac_address (n : Nat) : Nat := 0x110002 + 256 * n
/-- OD 16#1100.03, member n of 3 (R193). -/
abbrev Od.net_port.ipv4_address (n : Nat) : Nat := 0x110003 + 256 * n
/-- OD 16#1100.04, member n of 3 (R193). -/
abbrev Od.net_port.ipv4_prefix (n : Nat) : Nat := 0x110004 + 256 * n
/-- OD 16#1100.05, member n of 3 (R193). -/
abbrev Od.net_port.ipv4_gateway (n : Nat) : Nat := 0x110005 + 256 * n
/-- OD 16#1100.06, member n of 3 (R193). -/
abbrev Od.net_port.ipv6_address (n : Nat) : Nat := 0x110006 + 256 * n
/-- OD 16#1100.07, member n of 3 (R193). -/
abbrev Od.net_port.ipv6_prefix (n : Nat) : Nat := 0x110007 + 256 * n
/-- OD 16#1100.08, member n of 3 (R193). -/
abbrev Od.net_port.vlan_id (n : Nat) : Nat := 0x110008 + 256 * n
/-- OD 16#1100.09, member n of 3 (R193). -/
abbrev Od.net_port.jumbo_enable (n : Nat) : Nat := 0x110009 + 256 * n
/-- OD 16#1100.0A, member n of 3 (R193). -/
abbrev Od.net_port.class_pcp (n : Nat) : Nat := 0x11000A + 256 * n
/-- OD 16#1100.0B, member n of 3 (R193). -/
abbrev Od.net_port.class_dscp (n : Nat) : Nat := 0x11000B + 256 * n
/-- OD 16#1100.0C, member n of 3 (R193). -/
abbrev Od.net_port.link_up (n : Nat) : Nat := 0x11000C + 256 * n
/-- OD 16#1100.0D, member n of 3 (R193). -/
abbrev Od.net_port.module_identity (n : Nat) : Nat := 0x11000D + 256 * n
/-- OD 16#1100.0E, member n of 3 (R193). -/
abbrev Od.net_port.rx_frames (n : Nat) : Nat := 0x11000E + 256 * n
/-- OD 16#1100.0F, member n of 3 (R193). -/
abbrev Od.net_port.rx_errors (n : Nat) : Nat := 0x11000F + 256 * n
/-- OD 16#1100.10, member n of 3 (R193). -/
abbrev Od.net_port.pause_frames (n : Nat) : Nat := 0x110010 + 256 * n
/-- OD 16#1100.11, member n of 3 (R193). -/
abbrev Od.net_port.duplicates_discarded (n : Nat) : Nat := 0x110011 + 256 * n
/-- OD 16#1100.12, member n of 3 (R193). -/
abbrev Od.net_port.link_losses (n : Nat) : Nat := 0x110012 + 256 * n
/-- OD 16#1110.01 (R194). -/
abbrev Od.redundancy.redundancy_mode : Nat := 0x111001
/-- OD 16#1110.02 (R194). -/
abbrev Od.redundancy.pair_status : Nat := 0x111002
/-- OD 16#1200.01 (R195). -/
abbrev Od.klp_config.klp_udp_port : Nat := 0x120001
/-- OD 16#1200.02 (R195). -/
abbrev Od.klp_config.klp_max_payload : Nat := 0x120002
/-- OD 16#1200.03 (R195). -/
abbrev Od.klp_config.klp_rto_min_us : Nat := 0x120003
/-- OD 16#1200.04 (R195). -/
abbrev Od.klp_config.klp_session_timeout_ms : Nat := 0x120004
/-- OD 16#1200.05 (R195). -/
abbrev Od.klp_config.klp_retx_limit : Nat := 0x120005
/-- OD 16#1200.06 (R195). -/
abbrev Od.klp_config.event_queue_depth : Nat := 0x120006
/-- OD 16#1210.01, member n of 8 (R196). -/
abbrev Od.session_status.session_open (n : Nat) : Nat := 0x121001 + 256 * n
/-- OD 16#1210.02, member n of 8 (R196). -/
abbrev Od.session_status.node_id (n : Nat) : Nat := 0x121002 + 256 * n
/-- OD 16#1210.03, member n of 8 (R196). -/
abbrev Od.session_status.role (n : Nat) : Nat := 0x121003 + 256 * n
/-- OD 16#1210.04, member n of 8 (R196). -/
abbrev Od.session_status.epoch (n : Nat) : Nat := 0x121004 + 256 * n
/-- OD 16#1210.05, member n of 8 (R196). -/
abbrev Od.session_status.port_mask (n : Nat) : Nat := 0x121005 + 256 * n
/-- OD 16#1210.06, member n of 8 (R196). -/
abbrev Od.session_status.open_time (n : Nat) : Nat := 0x121006 + 256 * n
/-- OD 16#1210.07, member n of 8 (R196). -/
abbrev Od.session_status.retransmissions (n : Nat) : Nat := 0x121007 + 256 * n
/-- OD 16#1210.08, member n of 8 (R196). -/
abbrev Od.session_status.granted_ctrl (n : Nat) : Nat := 0x121008 + 256 * n
/-- OD 16#1210.09, member n of 8 (R196). -/
abbrev Od.session_status.granted_item (n : Nat) : Nat := 0x121009 + 256 * n
/-- OD 16#1210.0A, member n of 8 (R196). -/
abbrev Od.session_status.granted_bulk (n : Nat) : Nat := 0x12100A + 256 * n
/-- OD 16#1210.0B, member n of 8 (R196). -/
abbrev Od.session_status.consumed_ctrl (n : Nat) : Nat := 0x12100B + 256 * n
/-- OD 16#1210.0C, member n of 8 (R196). -/
abbrev Od.session_status.consumed_item (n : Nat) : Nat := 0x12100C + 256 * n
/-- OD 16#1210.0D, member n of 8 (R196). -/
abbrev Od.session_status.consumed_bulk (n : Nat) : Nat := 0x12100D + 256 * n
/-- OD 16#1210.0E, member n of 8 (R196). -/
abbrev Od.session_status.credit_validity (n : Nat) : Nat := 0x12100E + 256 * n
/-- OD 16#1210.0F, member n of 8 (R196). -/
abbrev Od.session_status.events_dropped (n : Nat) : Nat := 0x12100F + 256 * n
/-- OD 16#1300.01 (R197). -/
abbrev Od.role_keys.key_opr : Nat := 0x130001
/-- OD 16#1300.02 (R197). -/
abbrev Od.role_keys.key_eng : Nat := 0x130002
/-- OD 16#1300.03 (R197). -/
abbrev Od.role_keys.key_svc : Nat := 0x130003
/-- OD 16#1300.04 (R197). -/
abbrev Od.role_keys.key_set : Nat := 0x130004
/-- OD 16#1300.05 (R197). -/
abbrev Od.role_keys.last_stamps : Nat := 0x130005
/-- OD 16#1300.06 (R197). -/
abbrev Od.role_keys.auth_failures : Nat := 0x130006
/-- OD 16#2000.01 (R198). -/
abbrev Od.management.reset_cause : Nat := 0x200001
/-- OD 16#2000.02 (R198). -/
abbrev Od.management.reset_request : Nat := 0x200002
/-- OD 16#2000.03 (R198). -/
abbrev Od.management.restore_defaults : Nat := 0x200003
/-- OD 16#2000.04 (R198). -/
abbrev Od.management.restart_pending : Nat := 0x200004
/-- OD 16#2100.01 (R199). -/
abbrev Od.change_log.change_log_first : Nat := 0x210001
/-- OD 16#2100.02 (R199). -/
abbrev Od.change_log.change_log_last : Nat := 0x210002
/-- OD 16#2100.03 (R199). -/
abbrev Od.change_log.change_log_durable : Nat := 0x210003
/-- OD 16#2100.04 (R199). -/
abbrev Od.change_log.ring_unflushed : Nat := 0x210004
/-- OD 16#2100.05 (R199). -/
abbrev Od.change_log.flush_count : Nat := 0x210005
/-- OD 16#2100.06 (R199). -/
abbrev Od.change_log.change_log_full_action : Nat := 0x210006
/-- OD 16#2100.07 (R199). -/
abbrev Od.change_log.change_log_capacity : Nat := 0x210007
/-- OD 16#2100.08 (R199). -/
abbrev Od.change_log.records_overwritten : Nat := 0x210008
/-- OD 16#2100.09 (R199). -/
abbrev Od.change_log.tail_restored : Nat := 0x210009
/-- OD 16#2100.0A (R199). -/
abbrev Od.change_log.log_validity : Nat := 0x21000A
/-- OD 16#2100.0B (R199). -/
abbrev Od.change_log.change_log_release : Nat := 0x21000B
/-- OD 16#2200.01 (R734). -/
abbrev Od.firmware_update.running_slot : Nat := 0x220001
/-- OD 16#2200.02 (R734). -/
abbrev Od.firmware_update.slot_a_state : Nat := 0x220002
/-- OD 16#2200.03 (R734). -/
abbrev Od.firmware_update.slot_b_state : Nat := 0x220003
/-- OD 16#2200.04 (R734). -/
abbrev Od.firmware_update.slot_a_version : Nat := 0x220004
/-- OD 16#2200.05 (R734). -/
abbrev Od.firmware_update.slot_b_version : Nat := 0x220005
/-- OD 16#2200.06 (R734). -/
abbrev Od.firmware_update.tries_left : Nat := 0x220006
/-- OD 16#2200.07 (R734). -/
abbrev Od.firmware_update.update_trial_tries : Nat := 0x220007
/-- OD 16#2200.08 (R734). -/
abbrev Od.firmware_update.update_auto_confirm_s : Nat := 0x220008
/-- OD 16#2200.09 (R734). -/
abbrev Od.firmware_update.update_confirm : Nat := 0x220009
/-- OD 16#2200.0A (R734). -/
abbrev Od.firmware_update.update_activate : Nat := 0x22000A
/-- OD 16#2200.0B (R734). -/
abbrev Od.firmware_update.update_state : Nat := 0x22000B
/-- OD 16#2200.0C (R734). -/
abbrev Od.firmware_update.update_error : Nat := 0x22000C
/-- OD 16#2200.0D (R734). -/
abbrev Od.firmware_update.rollback_counter : Nat := 0x22000D
/-- OD 16#2200.0E (R734). -/
abbrev Od.firmware_update.update_progress_percent : Nat := 0x22000E
/-- OD 16#2201.01 (R735). -/
abbrev Od.boot_status.boot_fail_code : Nat := 0x220101
/-- OD 16#2201.02 (R735). -/
abbrev Od.boot_status.boot_stage_reached : Nat := 0x220102
/-- OD 16#2201.03 (R735). -/
abbrev Od.boot_status.boot_time_ms : Nat := 0x220103
/-- OD 16#2201.04 (R735). -/
abbrev Od.boot_status.slot_fallbacks : Nat := 0x220104
/-- OD 16#2201.05 (R735). -/
abbrev Od.boot_status.flash0_identity : Nat := 0x220105
/-- OD 16#2201.06 (R735). -/
abbrev Od.boot_status.flash1_identity : Nat := 0x220106
/-- OD 16#2300.01 (R736). -/
abbrev Od.integrator_core.integ_run : Nat := 0x230001
/-- OD 16#2300.02 (R736). -/
abbrev Od.integrator_core.integ_state : Nat := 0x230002
/-- OD 16#2300.03 (R736). -/
abbrev Od.integrator_core.integ_fault : Nat := 0x230003
/-- OD 16#2300.04 (R736). -/
abbrev Od.integrator_core.integ_role : Nat := 0x230004
/-- OD 16#2300.05 (R736). -/
abbrev Od.integrator_core.integ_watchdog_ms : Nat := 0x230005
/-- OD 16#2300.06 (R736). -/
abbrev Od.integrator_core.integ_auto_restart : Nat := 0x230006
/-- OD 16#2300.07 (R736). -/
abbrev Od.integrator_core.integ_restart_delay_ms : Nat := 0x230007
/-- OD 16#2300.08 (R736). -/
abbrev Od.integrator_core.integ_key_hash : Nat := 0x230008
/-- OD 16#2300.09 (R736). -/
abbrev Od.integrator_core.integ_serve_timeout_ms : Nat := 0x230009
/-- OD 16#2300.0A (R736). -/
abbrev Od.integrator_core.integ_restarts : Nat := 0x23000A
/-- OD 16#2300.0B (R736). -/
abbrev Od.integrator_core.objects_served : Nat := 0x23000B
/-- OD 16#2400.01 (R200). -/
abbrev Od.ptp_config.ptp_enable : Nat := 0x240001
/-- OD 16#2400.02 (R200). -/
abbrev Od.ptp_config.ptp_domain : Nat := 0x240002
/-- OD 16#2400.03 (R200). -/
abbrev Od.ptp_config.ptp_profile : Nat := 0x240003
/-- OD 16#2400.04 (R200). -/
abbrev Od.ptp_config.ptp_transport : Nat := 0x240004
/-- OD 16#2400.05 (R200). -/
abbrev Od.ptp_config.ptp_port_enable : Nat := 0x240005
/-- OD 16#2400.06 (R200). -/
abbrev Od.ptp_config.ptp_asymmetry_ns : Nat := 0x240006
/-- OD 16#2401.01 (R201). -/
abbrev Od.ptp_status.ptp_state : Nat := 0x240101
/-- OD 16#2401.02 (R201). -/
abbrev Od.ptp_status.ptp_offset_ns : Nat := 0x240102
/-- OD 16#2401.03 (R201). -/
abbrev Od.ptp_status.ptp_path_delay_ns : Nat := 0x240103
/-- OD 16#2401.04 (R201). -/
abbrev Od.ptp_status.ptp_master_identity : Nat := 0x240104
/-- OD 16#2401.05 (R201). -/
abbrev Od.ptp_status.ptp_active_port : Nat := 0x240105
/-- OD 16#2401.06 (R201). -/
abbrev Od.ptp_status.ptp_locked_s : Nat := 0x240106
/-- OD 16#2401.07 (R201). -/
abbrev Od.ptp_status.utc_offset_s : Nat := 0x240107
/-- OD 16#2401.08 (R201). -/
abbrev Od.ptp_status.ptp_time : Nat := 0x240108
/-- OD 16#3000.01, member n of 4 (R84). -/
abbrev Od.encoder.enc_enable (n : Nat) : Nat := 0x300001 + 256 * n
/-- OD 16#3000.02, member n of 4 (R84). -/
abbrev Od.encoder.enc_filter_samples (n : Nat) : Nat := 0x300002 + 256 * n
/-- OD 16#3000.03, member n of 4 (R84). -/
abbrev Od.encoder.enc_swap_ab (n : Nat) : Nat := 0x300003 + 256 * n
/-- OD 16#3000.04, member n of 4 (R84). -/
abbrev Od.encoder.enc_z_enable (n : Nat) : Nat := 0x300004 + 256 * n
/-- OD 16#3000.05, member n of 4 (R84). -/
abbrev Od.encoder.enc_counts_per_rev (n : Nat) : Nat := 0x300005 + 256 * n
/-- OD 16#3000.06, member n of 4 (R84). -/
abbrev Od.encoder.enc_count (n : Nat) : Nat := 0x300006 + 256 * n
/-- OD 16#3000.07, member n of 4 (R84). -/
abbrev Od.encoder.enc_error_count (n : Nat) : Nat := 0x300007 + 256 * n
/-- OD 16#3000.08, member n of 4 (R84). -/
abbrev Od.encoder.enc_status (n : Nat) : Nat := 0x300008 + 256 * n
/-- OD 16#3000.09, member n of 4 (R84). -/
abbrev Od.encoder.enc_count_rate (n : Nat) : Nat := 0x300009 + 256 * n
/-- OD 16#3010.01 (R85). -/
abbrev Od.web_geometry.web_encoder : Nat := 0x301001
/-- OD 16#3010.02 (R85). -/
abbrev Od.web_geometry.lines_per_inch : Nat := 0x301002
/-- OD 16#3010.03 (R85). -/
abbrev Od.web_geometry.counts_per_m_num : Nat := 0x301003
/-- OD 16#3010.04 (R85). -/
abbrev Od.web_geometry.counts_per_m_den : Nat := 0x301004
/-- OD 16#3020.01 (R86). -/
abbrev Od.tracker_config.tracker_enable : Nat := 0x302001
/-- OD 16#3020.02 (R86). -/
abbrev Od.tracker_config.hysteresis_counts : Nat := 0x302002
/-- OD 16#3020.03 (R86). -/
abbrev Od.tracker_config.reversal_counts : Nat := 0x302003
/-- OD 16#3020.04 (R86). -/
abbrev Od.tracker_config.coast_limit_um : Nat := 0x302004
/-- OD 16#3020.05 (R86). -/
abbrev Od.tracker_config.coast_min_speed_um_s : Nat := 0x302005
/-- OD 16#3020.06 (R86). -/
abbrev Od.tracker_config.capture_window_ps : Nat := 0x302006
/-- OD 16#3020.07 (R86). -/
abbrev Od.tracker_config.break_degrade_percent : Nat := 0x302007
/-- OD 16#3020.08 (R86). -/
abbrev Od.tracker_config.velocity_window_us : Nat := 0x302008
/-- OD 16#3020.09 (R86). -/
abbrev Od.tracker_config.return_edges : Nat := 0x302009
/-- OD 16#3020.0A (R86). -/
abbrev Od.tracker_config.reacquire_edges : Nat := 0x30200A
/-- OD 16#3020.0B (R86). -/
abbrev Od.tracker_config.z_tolerance_counts : Nat := 0x30200B
/-- OD 16#3020.0C (R86). -/
abbrev Od.tracker_config.coast_accel_limit_mm_s2 : Nat := 0x30200C
/-- OD 16#3030.01 (R87). -/
abbrev Od.tracker_status.tracker_state : Nat := 0x303001
/-- OD 16#3030.02 (R87). -/
abbrev Od.tracker_status.web_position_ps : Nat := 0x303002
/-- OD 16#3030.03 (R87). -/
abbrev Od.tracker_status.high_water_count : Nat := 0x303003
/-- OD 16#3030.04 (R87). -/
abbrev Od.tracker_status.velocity_um_s : Nat := 0x303004
/-- OD 16#3030.05 (R87). -/
abbrev Od.tracker_status.line_rate_hz : Nat := 0x303005
/-- OD 16#3030.06 (R87). -/
abbrev Od.tracker_status.coast_distance_um : Nat := 0x303006
/-- OD 16#3030.07 (R87). -/
abbrev Od.tracker_status.last_phase_jump_ps : Nat := 0x303007
/-- OD 16#3030.08 (R87). -/
abbrev Od.tracker_status.reversal_count : Nat := 0x303008
/-- OD 16#3030.09 (R87). -/
abbrev Od.tracker_status.coast_count : Nat := 0x303009
/-- OD 16#3030.0A (R87). -/
abbrev Od.tracker_status.break_count : Nat := 0x30300A
/-- OD 16#3030.0B (R87). -/
abbrev Od.tracker_status.backstep_count : Nat := 0x30300B
/-- OD 16#3030.0C (R87). -/
abbrev Od.tracker_status.state_entry_time : Nat := 0x30300C
/-- OD 16#3040.01, member n of 4 (R88). -/
abbrev Od.plane_tick.plane_distance_um (n : Nat) : Nat := 0x304001 + 256 * n
/-- OD 16#3040.02, member n of 4 (R88). -/
abbrev Od.plane_tick.cable_delay_ns (n : Nat) : Nat := 0x304002 + 256 * n
/-- OD 16#3040.03, member n of 4 (R88). -/
abbrev Od.plane_tick.flight_time_ns (n : Nat) : Nat := 0x304003 + 256 * n
/-- OD 16#3040.04, member n of 4 (R88). -/
abbrev Od.plane_tick.head_latency_ns (n : Nat) : Nat := 0x304004 + 256 * n
/-- OD 16#3040.05, member n of 4 (R88). -/
abbrev Od.plane_tick.throw_advance_ps (n : Nat) : Nat := 0x304005 + 256 * n
/-- OD 16#3040.06, member n of 4 (R88). -/
abbrev Od.plane_tick.grid_phase_ps (n : Nat) : Nat := 0x304006 + 256 * n
/-- OD 16#3040.07, member n of 4 (R88). -/
abbrev Od.plane_tick.grid_phase_source (n : Nat) : Nat := 0x304007 + 256 * n
/-- OD 16#3040.08, member n of 4 (R88). -/
abbrev Od.plane_tick.fire_limit_hz (n : Nat) : Nat := 0x304008 + 256 * n
/-- OD 16#3040.09, member n of 4 (R88). -/
abbrev Od.plane_tick.line_index (n : Nat) : Nat := 0x304009 + 256 * n
/-- OD 16#3040.0A, member n of 4 (R88). -/
abbrev Od.plane_tick.lines_not_issued (n : Nat) : Nat := 0x30400A + 256 * n
/-- OD 16#3050.01 (R89). -/
abbrev Od.speed_advice.overspeed_warn_percent : Nat := 0x305001
/-- OD 16#3050.02 (R89). -/
abbrev Od.speed_advice.speed_adv_reason_enable : Nat := 0x305002
/-- OD 16#3050.03 (R89). -/
abbrev Od.speed_advice.speed_adv_hold_ms : Nat := 0x305003
/-- OD 16#3050.04 (R89). -/
abbrev Od.speed_advice.speed_adv_reasons : Nat := 0x305004
/-- OD 16#3050.05 (R89). -/
abbrev Od.speed_advice.speed_adv_count : Nat := 0x305005
/-- OD 16#3100.01, member n of 8 (R90). -/
abbrev Od.lane_trigger.trig_enable (n : Nat) : Nat := 0x310001 + 256 * n
/-- OD 16#3100.02, member n of 8 (R90). -/
abbrev Od.lane_trigger.trig_source (n : Nat) : Nat := 0x310002 + 256 * n
/-- OD 16#3100.03, member n of 8 (R90). -/
abbrev Od.lane_trigger.trig_edge (n : Nat) : Nat := 0x310003 + 256 * n
/-- OD 16#3100.04, member n of 8 (R90). -/
abbrev Od.lane_trigger.trig_filter_ns (n : Nat) : Nat := 0x310004 + 256 * n
/-- OD 16#3100.05, member n of 8 (R90). -/
abbrev Od.lane_trigger.trig_latency_ns (n : Nat) : Nat := 0x310005 + 256 * n
/-- OD 16#3100.06, member n of 8 (R90). -/
abbrev Od.lane_trigger.trigger_distance_um (n : Nat) : Nat := 0x310006 + 256 * n
/-- OD 16#3100.07, member n of 8 (R90). -/
abbrev Od.lane_trigger.pitch_guard_um (n : Nat) : Nat := 0x310007 + 256 * n
/-- OD 16#3100.08, member n of 8 (R90). -/
abbrev Od.lane_trigger.triggers_seen (n : Nat) : Nat := 0x310008 + 256 * n
/-- OD 16#3100.0A, member n of 8 (R90). -/
abbrev Od.lane_trigger.triggers_rejected_pitch (n : Nat) : Nat := 0x31000A + 256 * n
/-- OD 16#3100.0B, member n of 8 (R90). -/
abbrev Od.lane_trigger.triggers_rejected_state (n : Nat) : Nat := 0x31000B + 256 * n
/-- OD 16#3100.0C, member n of 8 (R90). -/
abbrev Od.lane_trigger.last_stamp_ps (n : Nat) : Nat := 0x31000C + 256 * n
/-- OD 16#3100.0D, member n of 8 (R90). -/
abbrev Od.lane_trigger.last_stamp_time (n : Nat) : Nat := 0x31000D + 256 * n
/-- OD 16#3100.0E, member n of 8 (R90). -/
abbrev Od.lane_trigger.lane_correction_ps (n : Nat) : Nat := 0x31000E + 256 * n
/-- OD 16#3180.01, member n of 4 (R91). -/
abbrev Od.lubber_mark.mark_enable (n : Nat) : Nat := 0x318001 + 256 * n
/-- OD 16#3180.02, member n of 4 (R91). -/
abbrev Od.lubber_mark.mark_lane (n : Nat) : Nat := 0x318002 + 256 * n
/-- OD 16#3180.03, member n of 4 (R91). -/
abbrev Od.lubber_mark.mark_mode (n : Nat) : Nat := 0x318003 + 256 * n
/-- OD 16#3180.04, member n of 4 (R91). -/
abbrev Od.lubber_mark.mark_edge (n : Nat) : Nat := 0x318004 + 256 * n
/-- OD 16#3180.05, member n of 4 (R91). -/
abbrev Od.lubber_mark.mark_filter_ns (n : Nat) : Nat := 0x318005 + 256 * n
/-- OD 16#3180.06, member n of 4 (R91). -/
abbrev Od.lubber_mark.mark_latency_ns (n : Nat) : Nat := 0x318006 + 256 * n
/-- OD 16#3180.07, member n of 4 (R91). -/
abbrev Od.lubber_mark.mark_expect_um (n : Nat) : Nat := 0x318007 + 256 * n
/-- OD 16#3180.08, member n of 4 (R91). -/
abbrev Od.lubber_mark.mark_window_um (n : Nat) : Nat := 0x318008 + 256 * n
/-- OD 16#3180.09, member n of 4 (R91). -/
abbrev Od.lubber_mark.mark_gain_percent (n : Nat) : Nat := 0x318009 + 256 * n
/-- OD 16#3180.0A, member n of 4 (R91). -/
abbrev Od.lubber_mark.mark_step_limit_um (n : Nat) : Nat := 0x31800A + 256 * n
/-- OD 16#3180.0B, member n of 4 (R91). -/
abbrev Od.lubber_mark.mark_error_um (n : Nat) : Nat := 0x31800B + 256 * n
/-- OD 16#3180.0C, member n of 4 (R91). -/
abbrev Od.lubber_mark.marks_unpaired (n : Nat) : Nat := 0x31800C + 256 * n
/-- OD 16#3180.0D, member n of 4 (R91). -/
abbrev Od.lubber_mark.marks_missing (n : Nat) : Nat := 0x31800D + 256 * n
/-- OD 16#3200.01, member n of 4 (R92). -/
abbrev Od.camera_trigger.cam_trig_enable (n : Nat) : Nat := 0x320001 + 256 * n
/-- OD 16#3200.02, member n of 4 (R92). -/
abbrev Od.camera_trigger.cam_lane_mask (n : Nat) : Nat := 0x320002 + 256 * n
/-- OD 16#3200.03, member n of 4 (R92). -/
abbrev Od.camera_trigger.cam_distance_um (n : Nat) : Nat := 0x320003 + 256 * n
/-- OD 16#3200.04, member n of 4 (R92). -/
abbrev Od.camera_trigger.cam_offset_um (n : Nat) : Nat := 0x320004 + 256 * n
/-- OD 16#3200.05, member n of 4 (R92). -/
abbrev Od.camera_trigger.cam_latency_ns (n : Nat) : Nat := 0x320005 + 256 * n
/-- OD 16#3200.06, member n of 4 (R92). -/
abbrev Od.camera_trigger.cam_min_interval_us (n : Nat) : Nat := 0x320006 + 256 * n
/-- OD 16#3200.07, member n of 4 (R92). -/
abbrev Od.camera_trigger.cam_pulse_us (n : Nat) : Nat := 0x320007 + 256 * n
/-- OD 16#3200.08, member n of 4 (R92). -/
abbrev Od.camera_trigger.cam_trig_issued (n : Nat) : Nat := 0x320008 + 256 * n
/-- OD 16#3200.09, member n of 4 (R92). -/
abbrev Od.camera_trigger.cam_trig_skipped (n : Nat) : Nat := 0x320009 + 256 * n
/-- OD 16#3280.01, member n of 2 (R93). -/
abbrev Od.beam_tick.beam_distance_um (n : Nat) : Nat := 0x328001 + 256 * n
/-- OD 16#3280.02, member n of 2 (R93). -/
abbrev Od.beam_tick.beam_latency_ns (n : Nat) : Nat := 0x328002 + 256 * n
/-- OD 16#3280.03, member n of 2 (R93). -/
abbrev Od.beam_tick.beam_advance_ps (n : Nat) : Nat := 0x328003 + 256 * n
/-- OD 16#3280.04, member n of 2 (R93). -/
abbrev Od.beam_tick.beam_grid_phase_ps (n : Nat) : Nat := 0x328004 + 256 * n
/-- OD 16#3400.01, member n of 8 (R228). -/
abbrev Od.lane_config.lane_enable (n : Nat) : Nat := 0x340001 + 256 * n
/-- OD 16#3400.02, member n of 8 (R228). -/
abbrev Od.lane_config.lane_target (n : Nat) : Nat := 0x340002 + 256 * n
/-- OD 16#3400.03, member n of 8 (R228). -/
abbrev Od.lane_config.lane_planes (n : Nat) : Nat := 0x340003 + 256 * n
/-- OD 16#3400.04, member n of 8 (R228). -/
abbrev Od.lane_config.queue_low_mark (n : Nat) : Nat := 0x340004 + 256 * n
/-- OD 16#3400.05, member n of 8 (R228). -/
abbrev Od.lane_config.verdict_timeout_ms (n : Nat) : Nat := 0x340005 + 256 * n
/-- OD 16#3400.06, member n of 8 (R228). -/
abbrev Od.lane_config.lane_flush (n : Nat) : Nat := 0x340006 + 256 * n
/-- OD 16#3400.07, member n of 8 (R228). -/
abbrev Od.lane_config.next_record_set (n : Nat) : Nat := 0x340007 + 256 * n
/-- OD 16#3410.01, member n of 8 (R229). -/
abbrev Od.lane_status.queue_depth (n : Nat) : Nat := 0x341001 + 256 * n
/-- OD 16#3410.02, member n of 8 (R229). -/
abbrev Od.lane_status.next_record (n : Nat) : Nat := 0x341002 + 256 * n
/-- OD 16#3410.03, member n of 8 (R229). -/
abbrev Od.lane_status.head_record (n : Nat) : Nat := 0x341003 + 256 * n
/-- OD 16#3410.04, member n of 8 (R229). -/
abbrev Od.lane_status.records_accepted (n : Nat) : Nat := 0x341004 + 256 * n
/-- OD 16#3410.05, member n of 8 (R229). -/
abbrev Od.lane_status.records_refused (n : Nat) : Nat := 0x341005 + 256 * n
/-- OD 16#3410.06, member n of 8 (R229). -/
abbrev Od.lane_status.records_flushed (n : Nat) : Nat := 0x341006 + 256 * n
/-- OD 16#3410.07, member n of 8 (R229). -/
abbrev Od.lane_status.last_refusal (n : Nat) : Nat := 0x341007 + 256 * n
/-- OD 16#3410.08, member n of 8 (R229). -/
abbrev Od.lane_status.consumed_mark (n : Nat) : Nat := 0x341008 + 256 * n
/-- OD 16#3420.01, member n of 8 (R230). -/
abbrev Od.ledger.triggers_accepted (n : Nat) : Nat := 0x342001 + 256 * n
/-- OD 16#3420.02, member n of 8 (R230). -/
abbrev Od.ledger.in_flight (n : Nat) : Nat := 0x342002 + 256 * n
/-- OD 16#3420.03, member n of 8 (R230). -/
abbrev Od.ledger.ledger_validity (n : Nat) : Nat := 0x342003 + 256 * n
/-- OD 16#3420.04, member n of 8 (R230). -/
abbrev Od.ledger.ledger_reset (n : Nat) : Nat := 0x342004 + 256 * n
/-- OD 16#3420.05, member n of 8 (R230). -/
abbrev Od.ledger.last_reset_time (n : Nat) : Nat := 0x342005 + 256 * n
/-- OD 16#3420.10, member n of 8 (R230). -/
abbrev Od.ledger.count_marked (n : Nat) : Nat := 0x342010 + 256 * n
/-- OD 16#3420.11, member n of 8 (R230). -/
abbrev Od.ledger.count_marked_degraded (n : Nat) : Nat := 0x342011 + 256 * n
/-- OD 16#3420.12, member n of 8 (R230). -/
abbrev Od.ledger.count_reversed (n : Nat) : Nat := 0x342012 + 256 * n
/-- OD 16#3420.13, member n of 8 (R230). -/
abbrev Od.ledger.count_unmarked_unbound (n : Nat) : Nat := 0x342013 + 256 * n
/-- OD 16#3420.14, member n of 8 (R230). -/
abbrev Od.ledger.count_unmarked_overflow (n : Nat) : Nat := 0x342014 + 256 * n
/-- OD 16#3420.15, member n of 8 (R230). -/
abbrev Od.ledger.count_unmarked_gated (n : Nat) : Nat := 0x342015 + 256 * n
/-- OD 16#3420.16, member n of 8 (R230). -/
abbrev Od.ledger.count_unmarked_fault (n : Nat) : Nat := 0x342016 + 256 * n
/-- OD 16#3420.17, member n of 8 (R230). -/
abbrev Od.ledger.count_unmarked_power (n : Nat) : Nat := 0x342017 + 256 * n
/-- OD 16#3420.18, member n of 8 (R230). -/
abbrev Od.ledger.count_partial_power (n : Nat) : Nat := 0x342018 + 256 * n
/-- OD 16#3420.19, member n of 8 (R230). -/
abbrev Od.ledger.count_partial_switchover (n : Nat) : Nat := 0x342019 + 256 * n
/-- OD 16#3420.20, member n of 8 (R230). -/
abbrev Od.ledger.verdict_pending (n : Nat) : Nat := 0x342020 + 256 * n
/-- OD 16#3420.21, member n of 8 (R230). -/
abbrev Od.ledger.verdict_pass (n : Nat) : Nat := 0x342021 + 256 * n
/-- OD 16#3420.22, member n of 8 (R230). -/
abbrev Od.ledger.verdict_fail (n : Nat) : Nat := 0x342022 + 256 * n
/-- OD 16#3420.23, member n of 8 (R230). -/
abbrev Od.ledger.verdict_not_seen (n : Nat) : Nat := 0x342023 + 256 * n
/-- OD 16#3420.24, member n of 8 (R230). -/
abbrev Od.ledger.rejects_issued (n : Nat) : Nat := 0x342024 + 256 * n
/-- OD 16#3480.01 (R231). -/
abbrev Od.item_window.slots_used : Nat := 0x348001
/-- OD 16#3480.02 (R231). -/
abbrev Od.item_window.in_flight_total : Nat := 0x348002
/-- OD 16#3480.03 (R231). -/
abbrev Od.item_window.verdict_store_used : Nat := 0x348003
/-- OD 16#3480.04 (R231). -/
abbrev Od.item_window.verdict_store_forced : Nat := 0x348004
/-- OD 16#3480.05 (R231). -/
abbrev Od.item_window.next_item_sequence : Nat := 0x348005
/-- OD 16#3490.01 (R232). -/
abbrev Od.ledger_query.query_sequence : Nat := 0x349001
/-- OD 16#3490.02 (R232). -/
abbrev Od.ledger_query.query_found : Nat := 0x349002
/-- OD 16#3490.03 (R232). -/
abbrev Od.ledger_query.query_entry : Nat := 0x349003
/-- OD 16#3500.01, member n of 4 (R233). -/
abbrev Od.reject_gate.rej_enable (n : Nat) : Nat := 0x350001 + 256 * n
/-- OD 16#3500.02, member n of 4 (R233). -/
abbrev Od.reject_gate.rej_lane_mask (n : Nat) : Nat := 0x350002 + 256 * n
/-- OD 16#3500.03, member n of 4 (R233). -/
abbrev Od.reject_gate.rej_distance_um (n : Nat) : Nat := 0x350003 + 256 * n
/-- OD 16#3500.04, member n of 4 (R233). -/
abbrev Od.reject_gate.rej_latency_ns (n : Nat) : Nat := 0x350004 + 256 * n
/-- OD 16#3500.05, member n of 4 (R233). -/
abbrev Od.reject_gate.rej_disposition_mask (n : Nat) : Nat := 0x350005 + 256 * n
/-- OD 16#3500.06, member n of 4 (R233). -/
abbrev Od.reject_gate.rej_verdict_mask (n : Nat) : Nat := 0x350006 + 256 * n
/-- OD 16#3500.07, member n of 4 (R233). -/
abbrev Od.reject_gate.rej_pulse_ms (n : Nat) : Nat := 0x350007 + 256 * n
/-- OD 16#3500.08, member n of 4 (R233). -/
abbrev Od.reject_gate.rej_issued (n : Nat) : Nat := 0x350008 + 256 * n
/-- OD 16#3500.09, member n of 4 (R233). -/
abbrev Od.reject_gate.rej_pulse_merged (n : Nat) : Nat := 0x350009 + 256 * n
/-- OD 16#3800.01 (R280). -/
abbrev Od.compositor_config.resource_store_mib : Nat := 0x380001
/-- OD 16#3800.02 (R280). -/
abbrev Od.compositor_config.pre_resolve_depth : Nat := 0x380002
/-- OD 16#3800.03 (R280). -/
abbrev Od.compositor_config.date_time_policy : Nat := 0x380003
/-- OD 16#3800.04 (R280). -/
abbrev Od.compositor_config.fixed_production_date : Nat := 0x380004
/-- OD 16#3800.05 (R280). -/
abbrev Od.compositor_config.gs1_table_release : Nat := 0x380005
/-- OD 16#3801.01 (R281). -/
abbrev Od.compositor_status.items_composing : Nat := 0x380101
/-- OD 16#3801.02 (R281). -/
abbrev Od.compositor_status.symbol_queue : Nat := 0x380102
/-- OD 16#3801.03 (R281). -/
abbrev Od.compositor_status.symbols_encoded : Nat := 0x380103
/-- OD 16#3801.04 (R281). -/
abbrev Od.compositor_status.symbol_time_max_us : Nat := 0x380104
/-- OD 16#3801.05 (R281). -/
abbrev Od.compositor_status.error_count : Nat := 0x380105
/-- OD 16#3801.06 (R281). -/
abbrev Od.compositor_status.last_error_code : Nat := 0x380106
/-- OD 16#3801.07 (R281). -/
abbrev Od.compositor_status.last_error_item : Nat := 0x380107
/-- OD 16#3801.08 (R281). -/
abbrev Od.compositor_status.last_error_field : Nat := 0x380108
/-- OD 16#3801.09 (R281). -/
abbrev Od.compositor_status.clipped_pixels : Nat := 0x380109
/-- OD 16#3801.0A (R281). -/
abbrev Od.compositor_status.compose_load_percent : Nat := 0x38010A
/-- OD 16#3801.0B (R281). -/
abbrev Od.compositor_status.compose_rate_percent : Nat := 0x38010B
/-- OD 16#3802.01 (R282). -/
abbrev Od.composition_errors.err_mould_absent : Nat := 0x380201
/-- OD 16#3802.02 (R282). -/
abbrev Od.composition_errors.err_lpi_mismatch : Nat := 0x380202
/-- OD 16#3802.03 (R282). -/
abbrev Od.composition_errors.err_field_unknown : Nat := 0x380203
/-- OD 16#3802.04 (R282). -/
abbrev Od.composition_errors.err_field_value : Nat := 0x380204
/-- OD 16#3802.05 (R282). -/
abbrev Od.composition_errors.err_glyph_missing : Nat := 0x380205
/-- OD 16#3802.06 (R282). -/
abbrev Od.composition_errors.err_overflow : Nat := 0x380206
/-- OD 16#3802.07 (R282). -/
abbrev Od.composition_errors.err_symbol_capacity : Nat := 0x380207
/-- OD 16#3802.08 (R282). -/
abbrev Od.composition_errors.err_gs1_syntax : Nat := 0x380208
/-- OD 16#3802.09 (R282). -/
abbrev Od.composition_errors.err_counter_exhausted : Nat := 0x380209
/-- OD 16#3802.0A (R282). -/
abbrev Od.composition_errors.err_counter_unknown : Nat := 0x38020A
/-- OD 16#3802.0B (R282). -/
abbrev Od.composition_errors.err_time_invalid : Nat := 0x38020B
/-- OD 16#3802.0C (R282). -/
abbrev Od.composition_errors.err_overlap : Nat := 0x38020C
/-- OD 16#3802.0D (R282). -/
abbrev Od.composition_errors.err_decode : Nat := 0x38020D
/-- OD 16#3802.0E (R282). -/
abbrev Od.composition_errors.err_weight_refused : Nat := 0x38020E
/-- OD 16#3810.01, member n of 6 (R283). -/
abbrev Od.compose_ring.look_ahead_lines (n : Nat) : Nat := 0x381001 + 256 * n
/-- OD 16#3810.02, member n of 6 (R283). -/
abbrev Od.compose_ring.resume_gap_lines (n : Nat) : Nat := 0x381002 + 256 * n
/-- OD 16#3810.03, member n of 6 (R283). -/
abbrev Od.compose_ring.look_ahead_now (n : Nat) : Nat := 0x381003 + 256 * n
/-- OD 16#3810.04, member n of 6 (R283). -/
abbrev Od.compose_ring.look_ahead_min (n : Nat) : Nat := 0x381004 + 256 * n
/-- OD 16#3810.05, member n of 6 (R283). -/
abbrev Od.compose_ring.look_ahead_min_clear (n : Nat) : Nat := 0x381005 + 256 * n
/-- OD 16#3810.06, member n of 6 (R283). -/
abbrev Od.compose_ring.couch_frontier (n : Nat) : Nat := 0x381006 + 256 * n
/-- OD 16#3810.07, member n of 6 (R283). -/
abbrev Od.compose_ring.lines_couched (n : Nat) : Nat := 0x381007 + 256 * n
/-- OD 16#3810.08, member n of 6 (R283). -/
abbrev Od.compose_ring.lines_blank (n : Nat) : Nat := 0x381008 + 256 * n
/-- OD 16#3820.01 (R284). -/
abbrev Od.mould_query.query_mould : Nat := 0x382001
/-- OD 16#3820.02 (R284). -/
abbrev Od.mould_query.mould_resident : Nat := 0x382002
/-- OD 16#3820.03 (R284). -/
abbrev Od.mould_query.mould_revision : Nat := 0x382003
/-- OD 16#3820.04 (R284). -/
abbrev Od.mould_query.mould_bytes : Nat := 0x382004
/-- OD 16#3820.05 (R284). -/
abbrev Od.mould_query.mould_planes : Nat := 0x382005
/-- OD 16#3820.06 (R284). -/
abbrev Od.mould_query.mould_width_px : Nat := 0x382006
/-- OD 16#3820.07 (R284). -/
abbrev Od.mould_query.mould_height_lines : Nat := 0x382007
/-- OD 16#3820.08 (R284). -/
abbrev Od.mould_query.mould_field_count : Nat := 0x382008
/-- OD 16#3820.09 (R284). -/
abbrev Od.mould_query.mould_pinned : Nat := 0x382009
/-- OD 16#3820.0A (R284). -/
abbrev Od.mould_query.mould_commit_time : Nat := 0x38200A
/-- OD 16#3821.01 (R285). -/
abbrev Od.mould_control.mould_delete : Nat := 0x382101
/-- OD 16#3821.02 (R285). -/
abbrev Od.mould_control.last_commit_error : Nat := 0x382102
/-- OD 16#3821.03 (R285). -/
abbrev Od.mould_control.last_commit_field : Nat := 0x382103
/-- OD 16#3821.04 (R285). -/
abbrev Od.mould_control.resource_store_used_kib : Nat := 0x382104
/-- OD 16#3821.05 (R285). -/
abbrev Od.mould_control.moulds_resident : Nat := 0x382105
/-- OD 16#3830.01 (R286). -/
abbrev Od.glyph_query.query_set : Nat := 0x383001
/-- OD 16#3830.02 (R286). -/
abbrev Od.glyph_query.set_resident : Nat := 0x383002
/-- OD 16#3830.03 (R286). -/
abbrev Od.glyph_query.set_revision : Nat := 0x383003
/-- OD 16#3830.04 (R286). -/
abbrev Od.glyph_query.set_glyphs : Nat := 0x383004
/-- OD 16#3830.05 (R286). -/
abbrev Od.glyph_query.set_bpp : Nat := 0x383005
/-- OD 16#3830.06 (R286). -/
abbrev Od.glyph_query.set_lpi : Nat := 0x383006
/-- OD 16#3830.07 (R286). -/
abbrev Od.glyph_query.set_pinned : Nat := 0x383007
/-- OD 16#3830.08 (R286). -/
abbrev Od.glyph_query.set_bytes : Nat := 0x383008
/-- OD 16#3831.01 (R287). -/
abbrev Od.glyph_control.glyph_set_delete : Nat := 0x383101
/-- OD 16#3831.02 (R287). -/
abbrev Od.glyph_control.sets_resident : Nat := 0x383102
/-- OD 16#3840.01, member n of 64 (R288). -/
abbrev Od.counter.counter_value (n : Nat) : Nat := 0x384001 + 256 * n
/-- OD 16#3840.02, member n of 64 (R288). -/
abbrev Od.counter.counter_step (n : Nat) : Nat := 0x384002 + 256 * n
/-- OD 16#3840.03, member n of 64 (R288). -/
abbrev Od.counter.counter_min (n : Nat) : Nat := 0x384003 + 256 * n
/-- OD 16#3840.04, member n of 64 (R288). -/
abbrev Od.counter.counter_max (n : Nat) : Nat := 0x384004 + 256 * n
/-- OD 16#3840.05, member n of 64 (R288). -/
abbrev Od.counter.counter_limit_action (n : Nat) : Nat := 0x384005 + 256 * n
/-- OD 16#3840.06, member n of 64 (R288). -/
abbrev Od.counter.counter_validity (n : Nat) : Nat := 0x384006 + 256 * n
/-- OD 16#3840.07, member n of 64 (R288). -/
abbrev Od.counter.counter_advances (n : Nat) : Nat := 0x384007 + 256 * n
/-- OD 16#3840.08, member n of 64 (R288). -/
abbrev Od.counter.counter_exhausted (n : Nat) : Nat := 0x384008 + 256 * n
/-- OD 16#3880.01, member n of 8 (R289). -/
abbrev Od.time_zone.tz_std_offset_min (n : Nat) : Nat := 0x388001 + 256 * n
/-- OD 16#3880.02, member n of 8 (R289). -/
abbrev Od.time_zone.tz_dst_offset_min (n : Nat) : Nat := 0x388002 + 256 * n
/-- OD 16#3880.03, member n of 8 (R289). -/
abbrev Od.time_zone.tz_dst_start (n : Nat) : Nat := 0x388003 + 256 * n
/-- OD 16#3880.04, member n of 8 (R289). -/
abbrev Od.time_zone.tz_dst_end (n : Nat) : Nat := 0x388004 + 256 * n
/-- OD 16#3880.05, member n of 8 (R289). -/
abbrev Od.time_zone.tz_name (n : Nat) : Nat := 0x388005 + 256 * n
/-- OD 16#4000.01, member n of 4 (R431). -/
abbrev Od.plane_firing.firing_enable (n : Nat) : Nat := 0x400001 + 256 * n
/-- OD 16#4000.02, member n of 4 (R431). -/
abbrev Od.plane_firing.channel_mask (n : Nat) : Nat := 0x400002 + 256 * n
/-- OD 16#4000.03, member n of 4 (R431). -/
abbrev Od.plane_firing.lookahead_low_mark (n : Nat) : Nat := 0x400003 + 256 * n
/-- OD 16#4000.04, member n of 4 (R431). -/
abbrev Od.plane_firing.max_drop_level (n : Nat) : Nat := 0x400004 + 256 * n
/-- OD 16#4000.05, member n of 4 (R431). -/
abbrev Od.plane_firing.wave_slots (n : Nat) : Nat := 0x400005 + 256 * n
/-- OD 16#4000.06, member n of 4 (R431). -/
abbrev Od.plane_firing.wave_band_1_hz (n : Nat) : Nat := 0x400006 + 256 * n
/-- OD 16#4000.07, member n of 4 (R431). -/
abbrev Od.plane_firing.wave_band_2_hz (n : Nat) : Nat := 0x400007 + 256 * n
/-- OD 16#4000.08, member n of 4 (R431). -/
abbrev Od.plane_firing.wave_band_3_hz (n : Nat) : Nat := 0x400008 + 256 * n
/-- OD 16#4000.09, member n of 4 (R431). -/
abbrev Od.plane_firing.tickle_enable (n : Nat) : Nat := 0x400009 + 256 * n
/-- OD 16#4000.0A, member n of 4 (R431). -/
abbrev Od.plane_firing.preheat_percent (n : Nat) : Nat := 0x40000A + 256 * n
/-- OD 16#4000.0B, member n of 4 (R431). -/
abbrev Od.plane_firing.spit_enable (n : Nat) : Nat := 0x40000B + 256 * n
/-- OD 16#4000.0C, member n of 4 (R431). -/
abbrev Od.plane_firing.spit_interval_lines (n : Nat) : Nat := 0x40000C + 256 * n
/-- OD 16#4000.0D, member n of 4 (R431). -/
abbrev Od.plane_firing.spit_level (n : Nat) : Nat := 0x40000D + 256 * n
/-- OD 16#4000.0E, member n of 4 (R431). -/
abbrev Od.plane_firing.volume_remap_low (n : Nat) : Nat := 0x40000E + 256 * n
/-- OD 16#4000.0F, member n of 4 (R431). -/
abbrev Od.plane_firing.volume_remap_high (n : Nat) : Nat := 0x40000F + 256 * n
/-- OD 16#4004.01, member n of 4 (R432). -/
abbrev Od.plane_fire_status.plane_state (n : Nat) : Nat := 0x400401 + 256 * n
/-- OD 16#4004.02, member n of 4 (R432). -/
abbrev Od.plane_fire_status.gate_reasons (n : Nat) : Nat := 0x400402 + 256 * n
/-- OD 16#4004.03, member n of 4 (R432). -/
abbrev Od.plane_fire_status.conflict_reason (n : Nat) : Nat := 0x400403 + 256 * n
/-- OD 16#4004.04, member n of 4 (R432). -/
abbrev Od.plane_fire_status.lines_issued (n : Nat) : Nat := 0x400404 + 256 * n
/-- OD 16#4004.05, member n of 4 (R432). -/
abbrev Od.plane_fire_status.lines_data_late (n : Nat) : Nat := 0x400405 + 256 * n
/-- OD 16#4004.06, member n of 4 (R432). -/
abbrev Od.plane_fire_status.lines_gated (n : Nat) : Nat := 0x400406 + 256 * n
/-- OD 16#4004.07, member n of 4 (R432). -/
abbrev Od.plane_fire_status.clamp_in_effect (n : Nat) : Nat := 0x400407 + 256 * n
/-- OD 16#4004.08, member n of 4 (R432). -/
abbrev Od.plane_fire_status.preheat_in_effect (n : Nat) : Nat := 0x400408 + 256 * n
/-- OD 16#4004.09, member n of 4 (R432). -/
abbrev Od.plane_fire_status.band_in_effect (n : Nat) : Nat := 0x400409 + 256 * n
/-- OD 16#4004.0A, member n of 4 (R432). -/
abbrev Od.plane_fire_status.lookahead_low_active (n : Nat) : Nat := 0x40040A + 256 * n
/-- OD 16#4008.01 (R433). -/
abbrev Od.suppression_policy.item_suppress_limit_0 : Nat := 0x400801
/-- OD 16#4008.02 (R433). -/
abbrev Od.suppression_policy.item_suppress_limit_1 : Nat := 0x400802
/-- OD 16#4008.03 (R433). -/
abbrev Od.suppression_policy.item_suppress_limit_2 : Nat := 0x400803
/-- OD 16#4008.04 (R433). -/
abbrev Od.suppression_policy.item_suppress_limit_3 : Nat := 0x400804
/-- OD 16#4008.05 (R433). -/
abbrev Od.suppression_policy.item_suppress_limit_4 : Nat := 0x400805
/-- OD 16#4008.06 (R433). -/
abbrev Od.suppression_policy.item_suppress_limit_5 : Nat := 0x400806
/-- OD 16#4008.07 (R433). -/
abbrev Od.suppression_policy.item_suppress_limit_6 : Nat := 0x400807
/-- OD 16#4008.08 (R433). -/
abbrev Od.suppression_policy.item_suppress_limit_7 : Nat := 0x400808
/-- OD 16#4010.01, member n of 10 (R434). -/
abbrev Od.gate_input.gate_enable (n : Nat) : Nat := 0x401001 + 256 * n
/-- OD 16#4010.02, member n of 10 (R434). -/
abbrev Od.gate_input.gate_target (n : Nat) : Nat := 0x401002 + 256 * n
/-- OD 16#4010.03, member n of 10 (R434). -/
abbrev Od.gate_input.gate_filter_ns (n : Nat) : Nat := 0x401003 + 256 * n
/-- OD 16#4010.04, member n of 10 (R434). -/
abbrev Od.gate_input.gate_closed (n : Nat) : Nat := 0x401004 + 256 * n
/-- OD 16#4010.05, member n of 10 (R434). -/
abbrev Od.gate_input.gate_closures (n : Nat) : Nat := 0x401005 + 256 * n
/-- OD 16#4010.06, member n of 10 (R434). -/
abbrev Od.gate_input.gate_change_time (n : Nat) : Nat := 0x401006 + 256 * n
/-- OD 16#4040.01, member n of 192 (R435). -/
abbrev Od.firing_channel.channel_state (n : Nat) : Nat := 0x404001 + 256 * n
/-- OD 16#4040.02, member n of 192 (R435). -/
abbrev Od.firing_channel.state_reason (n : Nat) : Nat := 0x404002 + 256 * n
/-- OD 16#4040.03, member n of 192 (R435). -/
abbrev Od.firing_channel.drops_demanded (n : Nat) : Nat := 0x404003 + 256 * n
/-- OD 16#4040.04, member n of 192 (R435). -/
abbrev Od.firing_channel.drops_fired (n : Nat) : Nat := 0x404004 + 256 * n
/-- OD 16#4040.05, member n of 192 (R435). -/
abbrev Od.firing_channel.drops_suppressed (n : Nat) : Nat := 0x404005 + 256 * n
/-- OD 16#4040.06, member n of 192 (R435). -/
abbrev Od.firing_channel.supp_gated (n : Nat) : Nat := 0x404006 + 256 * n
/-- OD 16#4040.07, member n of 192 (R435). -/
abbrev Od.firing_channel.supp_tick_ceiling (n : Nat) : Nat := 0x404007 + 256 * n
/-- OD 16#4040.08, member n of 192 (R435). -/
abbrev Od.firing_channel.supp_recharge (n : Nat) : Nat := 0x404008 + 256 * n
/-- OD 16#4040.09, member n of 192 (R435). -/
abbrev Od.firing_channel.supp_head_reject (n : Nat) : Nat := 0x404009 + 256 * n
/-- OD 16#4040.0A, member n of 192 (R435). -/
abbrev Od.firing_channel.supp_head_missed (n : Nat) : Nat := 0x40400A + 256 * n
/-- OD 16#4040.0B, member n of 192 (R435). -/
abbrev Od.firing_channel.supp_link_down (n : Nat) : Nat := 0x40400B + 256 * n
/-- OD 16#4040.0C, member n of 192 (R435). -/
abbrev Od.firing_channel.drops_spit (n : Nat) : Nat := 0x40400C + 256 * n
/-- OD 16#4040.0D, member n of 192 (R435). -/
abbrev Od.firing_channel.drops_level_clamped (n : Nat) : Nat := 0x40400D + 256 * n
/-- OD 16#4040.0E, member n of 192 (R435). -/
abbrev Od.firing_channel.count_validity (n : Nat) : Nat := 0x40400E + 256 * n
/-- OD 16#4040.0F, member n of 192 (R435). -/
abbrev Od.firing_channel.counts_reset (n : Nat) : Nat := 0x40400F + 256 * n
/-- OD 16#4040.10, member n of 192 (R435). -/
abbrev Od.firing_channel.late_reports (n : Nat) : Nat := 0x404010 + 256 * n
/-- OD 16#4100.01, member n of 32 (R436). -/
abbrev Od.deckle.deckle_lane (n : Nat) : Nat := 0x410001 + 256 * n
/-- OD 16#4100.02, member n of 32 (R436). -/
abbrev Od.deckle.deckle_plane (n : Nat) : Nat := 0x410002 + 256 * n
/-- OD 16#4100.03, member n of 32 (R436). -/
abbrev Od.deckle.deckle_left (n : Nat) : Nat := 0x410003 + 256 * n
/-- OD 16#4100.04, member n of 32 (R436). -/
abbrev Od.deckle.deckle_width (n : Nat) : Nat := 0x410004 + 256 * n
/-- OD 16#4120.01 (R437). -/
abbrev Od.nozzle_query.query_plane : Nat := 0x412001
/-- OD 16#4120.02 (R437). -/
abbrev Od.nozzle_query.query_column : Nat := 0x412002
/-- OD 16#4120.03 (R437). -/
abbrev Od.nozzle_query.nozzle_channel : Nat := 0x412003
/-- OD 16#4120.04 (R437). -/
abbrev Od.nozzle_query.nozzle_fired : Nat := 0x412004
/-- OD 16#4120.05 (R437). -/
abbrev Od.nozzle_query.nozzle_suppressed : Nat := 0x412005
/-- OD 16#4120.06 (R437). -/
abbrev Od.nozzle_query.nozzle_validity : Nat := 0x412006
/-- OD 16#4120.07 (R437). -/
abbrev Od.nozzle_query.nozzle_idle_lines : Nat := 0x412007
/-- OD 16#4130.01 (R438). -/
abbrev Od.drop_checkpoint.checkpoint_time : Nat := 0x413001
/-- OD 16#4130.02 (R438). -/
abbrev Od.drop_checkpoint.checkpoints_written : Nat := 0x413002
/-- OD 16#4130.03 (R438). -/
abbrev Od.drop_checkpoint.checkpoint_failures : Nat := 0x413003
/-- OD 16#4400.01, member n of 48 (R439). -/
abbrev Od.head_link.link_enable (n : Nat) : Nat := 0x440001 + 256 * n
/-- OD 16#4400.02, member n of 48 (R439). -/
abbrev Od.head_link.hl_cable_ns (n : Nat) : Nat := 0x440002 + 256 * n
/-- OD 16#4400.03, member n of 48 (R439). -/
abbrev Od.head_link.link_state (n : Nat) : Nat := 0x440003 + 256 * n
/-- OD 16#4400.04, member n of 48 (R439). -/
abbrev Od.head_link.equalisation_ns (n : Nat) : Nat := 0x440004 + 256 * n
/-- OD 16#4400.05, member n of 48 (R439). -/
abbrev Od.head_link.head_serial (n : Nat) : Nat := 0x440005 + 256 * n
/-- OD 16#4400.06, member n of 48 (R439). -/
abbrev Od.head_link.head_vendor_model (n : Nat) : Nat := 0x440006 + 256 * n
/-- OD 16#4400.07, member n of 48 (R439). -/
abbrev Od.head_link.head_kind (n : Nat) : Nat := 0x440007 + 256 * n
/-- OD 16#4400.08, member n of 48 (R439). -/
abbrev Od.head_link.head_latency_ns (n : Nat) : Nat := 0x440008 + 256 * n
/-- OD 16#4400.09, member n of 48 (R439). -/
abbrev Od.head_link.head_fire_limit_hz (n : Nat) : Nat := 0x440009 + 256 * n
/-- OD 16#4400.0A, member n of 48 (R439). -/
abbrev Od.head_link.line_frames_sent (n : Nat) : Nat := 0x44000A + 256 * n
/-- OD 16#4400.0B, member n of 48 (R439). -/
abbrev Od.head_link.fires_sent (n : Nat) : Nat := 0x44000B + 256 * n
/-- OD 16#4400.0C, member n of 48 (R439). -/
abbrev Od.head_link.rejects_crc (n : Nat) : Nat := 0x44000C + 256 * n
/-- OD 16#4400.0D, member n of 48 (R439). -/
abbrev Od.head_link.rejects_missed (n : Nat) : Nat := 0x44000D + 256 * n
/-- OD 16#4400.0E, member n of 48 (R439). -/
abbrev Od.head_link.back_frames_bad (n : Nat) : Nat := 0x44000E + 256 * n
/-- OD 16#4400.0F, member n of 48 (R439). -/
abbrev Od.head_link.fwd_errors_reported (n : Nat) : Nat := 0x44000F + 256 * n
/-- OD 16#4400.10, member n of 48 (R439). -/
abbrev Od.head_link.link_losses (n : Nat) : Nat := 0x440010 + 256 * n
/-- OD 16#4400.11, member n of 48 (R439). -/
abbrev Od.head_link.head_input (n : Nat) : Nat := 0x440011 + 256 * n
/-- OD 16#4400.12, member n of 48 (R439). -/
abbrev Od.head_link.pair_epoch_sent (n : Nat) : Nat := 0x440012 + 256 * n
/-- OD 16#4400.13, member n of 48 (R439). -/
abbrev Od.head_link.head_temperature (n : Nat) : Nat := 0x440013 + 256 * n
/-- OD 16#4480.01 (R440). -/
abbrev Od.identity_query.query_link : Nat := 0x448001
/-- OD 16#4480.02 (R440). -/
abbrev Od.identity_query.identity_present : Nat := 0x448002
/-- OD 16#4480.03 (R440). -/
abbrev Od.identity_query.identity_header : Nat := 0x448003
/-- OD 16#4480.04 (R440). -/
abbrev Od.identity_query.query_block : Nat := 0x448004
/-- OD 16#4480.05 (R440). -/
abbrev Od.identity_query.rank_block : Nat := 0x448005
/-- OD 16#4500.01, member n of 64 (R441). -/
abbrev Od.waveform_slot.wave_data (n : Nat) : Nat := 0x450001 + 256 * n
/-- OD 16#4500.02, member n of 64 (R441). -/
abbrev Od.waveform_slot.wave_loaded (n : Nat) : Nat := 0x450002 + 256 * n
/-- OD 16#4800.01 (R477). -/
abbrev Od.inspection_config.inspect_enable : Nat := 0x480001
/-- OD 16#4800.02 (R477). -/
abbrev Od.inspection_config.reg_search_um : Nat := 0x480002
/-- OD 16#4800.03 (R477). -/
abbrev Od.inspection_config.reg_min_score : Nat := 0x480003
/-- OD 16#4800.04 (R477). -/
abbrev Od.inspection_config.min_grade_2d : Nat := 0x480004
/-- OD 16#4800.05 (R477). -/
abbrev Od.inspection_config.min_grade_1d : Nat := 0x480005
/-- OD 16#4800.06 (R477). -/
abbrev Od.inspection_config.grade_check_enable : Nat := 0x480006
/-- OD 16#4800.07 (R477). -/
abbrev Od.inspection_config.text_mismatch_permille : Nat := 0x480007
/-- OD 16#4800.08 (R477). -/
abbrev Od.inspection_config.area_mismatch_permille : Nat := 0x480008
/-- OD 16#4801.01 (R478). -/
abbrev Od.inspection_status.results_pass : Nat := 0x480101
/-- OD 16#4801.02 (R478). -/
abbrev Od.inspection_status.results_fail : Nat := 0x480102
/-- OD 16#4801.03 (R478). -/
abbrev Od.inspection_status.results_not_seen : Nat := 0x480103
/-- OD 16#4801.04 (R478). -/
abbrev Od.inspection_status.late_results : Nat := 0x480104
/-- OD 16#4801.05 (R478). -/
abbrev Od.inspection_status.frames_not_inspected : Nat := 0x480105
/-- OD 16#4801.06 (R478). -/
abbrev Od.inspection_status.inspect_load_percent : Nat := 0x480106
/-- OD 16#4801.07 (R478). -/
abbrev Od.inspection_status.last_fail_check : Nat := 0x480107
/-- OD 16#4801.08 (R478). -/
abbrev Od.inspection_status.last_fail_item : Nat := 0x480108
/-- OD 16#4801.09 (R478). -/
abbrev Od.inspection_status.streaks_found : Nat := 0x480109
/-- OD 16#4810.01, member n of 4 (R479). -/
abbrev Od.camera_inspection.cam_inspect_enable (n : Nat) : Nat := 0x481001 + 256 * n
/-- OD 16#4810.02, member n of 4 (R479). -/
abbrev Od.camera_inspection.cam_col_origin_mcol (n : Nat) : Nat := 0x481002 + 256 * n
/-- OD 16#4810.03, member n of 4 (R479). -/
abbrev Od.camera_inspection.cam_px_pitch_nm (n : Nat) : Nat := 0x481003 + 256 * n
/-- OD 16#4810.04, member n of 4 (R479). -/
abbrev Od.camera_inspection.cam_line_pitch_nm (n : Nat) : Nat := 0x481004 + 256 * n
/-- OD 16#4810.05, member n of 4 (R479). -/
abbrev Od.camera_inspection.cam_mirror (n : Nat) : Nat := 0x481005 + 256 * n
/-- OD 16#4810.06, member n of 4 (R479). -/
abbrev Od.camera_inspection.cam_frames_inspected (n : Nat) : Nat := 0x481006 + 256 * n
/-- OD 16#4820.01, member n of 4 (R480). -/
abbrev Od.test_bar.bar_enable (n : Nat) : Nat := 0x482001 + 256 * n
/-- OD 16#4820.02, member n of 4 (R480). -/
abbrev Od.test_bar.bar_stagger (n : Nat) : Nat := 0x482002 + 256 * n
/-- OD 16#4820.03, member n of 4 (R480). -/
abbrev Od.test_bar.bar_dash_lines (n : Nat) : Nat := 0x482003 + 256 * n
/-- OD 16#4820.04, member n of 4 (R480). -/
abbrev Od.test_bar.bar_gap_lines (n : Nat) : Nat := 0x482004 + 256 * n
/-- OD 16#4820.05, member n of 4 (R480). -/
abbrev Od.test_bar.bar_guard_lines (n : Nat) : Nat := 0x482005 + 256 * n
/-- OD 16#4820.06, member n of 4 (R480). -/
abbrev Od.test_bar.bar_level (n : Nat) : Nat := 0x482006 + 256 * n
/-- OD 16#4820.07, member n of 4 (R480). -/
abbrev Od.test_bar.bar_interval_ms (n : Nat) : Nat := 0x482007 + 256 * n
/-- OD 16#4820.08, member n of 4 (R480). -/
abbrev Od.test_bar.bar_left (n : Nat) : Nat := 0x482008 + 256 * n
/-- OD 16#4820.09, member n of 4 (R480). -/
abbrev Od.test_bar.bar_width (n : Nat) : Nat := 0x482009 + 256 * n
/-- OD 16#4820.0A, member n of 4 (R480). -/
abbrev Od.test_bar.bar_camera_mask (n : Nat) : Nat := 0x48200A + 256 * n
/-- OD 16#4820.0B, member n of 4 (R480). -/
abbrev Od.test_bar.bar_cam_offset_um (n : Nat) : Nat := 0x48200B + 256 * n
/-- OD 16#4820.0C, member n of 4 (R480). -/
abbrev Od.test_bar.bars_printed (n : Nat) : Nat := 0x48200C + 256 * n
/-- OD 16#4820.0D, member n of 4 (R480). -/
abbrev Od.test_bar.bars_evaluated (n : Nat) : Nat := 0x48200D + 256 * n
/-- OD 16#4820.0E, member n of 4 (R480). -/
abbrev Od.test_bar.bars_abandoned (n : Nat) : Nat := 0x48200E + 256 * n
/-- OD 16#4820.0F, member n of 4 (R480). -/
abbrev Od.test_bar.bars_unseen (n : Nat) : Nat := 0x48200F + 256 * n
/-- OD 16#4830.01, member n of 4 (R481). -/
abbrev Od.nozzle_health.auto_compensate (n : Nat) : Nat := 0x483001 + 256 * n
/-- OD 16#4830.02, member n of 4 (R481). -/
abbrev Od.nozzle_health.confirm_count (n : Nat) : Nat := 0x483002 + 256 * n
/-- OD 16#4830.03, member n of 4 (R481). -/
abbrev Od.nozzle_health.missing_percent (n : Nat) : Nat := 0x483003 + 256 * n
/-- OD 16#4830.04, member n of 4 (R481). -/
abbrev Od.nozzle_health.weak_percent (n : Nat) : Nat := 0x483004 + 256 * n
/-- OD 16#4830.05, member n of 4 (R481). -/
abbrev Od.nozzle_health.strong_percent (n : Nat) : Nat := 0x483005 + 256 * n
/-- OD 16#4830.06, member n of 4 (R481). -/
abbrev Od.nozzle_health.deviation_limit_um (n : Nat) : Nat := 0x483006 + 256 * n
/-- OD 16#4830.07, member n of 4 (R481). -/
abbrev Od.nozzle_health.trim_deadband_um (n : Nat) : Nat := 0x483007 + 256 * n
/-- OD 16#4830.08, member n of 4 (R481). -/
abbrev Od.nozzle_health.disable_limit (n : Nat) : Nat := 0x483008 + 256 * n
/-- OD 16#4830.09, member n of 4 (R481). -/
abbrev Od.nozzle_health.nozzles_disabled (n : Nat) : Nat := 0x483009 + 256 * n
/-- OD 16#4830.0A, member n of 4 (R481). -/
abbrev Od.nozzle_health.nozzles_remapped (n : Nat) : Nat := 0x48300A + 256 * n
/-- OD 16#4830.0B, member n of 4 (R481). -/
abbrev Od.nozzle_health.detections (n : Nat) : Nat := 0x48300B + 256 * n
/-- OD 16#4830.0C, member n of 4 (R481). -/
abbrev Od.nozzle_health.uncovered_nozzles (n : Nat) : Nat := 0x48300C + 256 * n
/-- OD 16#4840.01, member n of 4 (R482). -/
abbrev Od.map_status.staged_nozzles (n : Nat) : Nat := 0x484001 + 256 * n
/-- OD 16#4840.02, member n of 4 (R482). -/
abbrev Od.map_status.map_switches (n : Nat) : Nat := 0x484002 + 256 * n
/-- OD 16#4840.03, member n of 4 (R482). -/
abbrev Od.map_status.last_switch_line (n : Nat) : Nat := 0x484003 + 256 * n
/-- OD 16#4840.04, member n of 4 (R482). -/
abbrev Od.map_status.last_switch_time (n : Nat) : Nat := 0x484004 + 256 * n
/-- OD 16#4840.05, member n of 4 (R482). -/
abbrev Od.map_status.last_latency_us (n : Nat) : Nat := 0x484005 + 256 * n
/-- OD 16#4840.06, member n of 4 (R482). -/
abbrev Od.map_status.max_latency_us (n : Nat) : Nat := 0x484006 + 256 * n
/-- OD 16#4840.07, member n of 4 (R482). -/
abbrev Od.map_status.groups_waiting (n : Nat) : Nat := 0x484007 + 256 * n
/-- OD 16#4840.08, member n of 4 (R482). -/
abbrev Od.map_status.map_saved_time (n : Nat) : Nat := 0x484008 + 256 * n
/-- OD 16#4850.01 (R483). -/
abbrev Od.map_query.query_plane : Nat := 0x485001
/-- OD 16#4850.02 (R483). -/
abbrev Od.map_query.query_column : Nat := 0x485002
/-- OD 16#4850.03 (R483). -/
abbrev Od.map_query.entry_in_force : Nat := 0x485003
/-- OD 16#4850.04 (R483). -/
abbrev Od.map_query.entry_staged : Nat := 0x485004
/-- OD 16#4850.05 (R483). -/
abbrev Od.map_query.last_class : Nat := 0x485005
/-- OD 16#4851.01 (R484). -/
abbrev Od.map_write.map_entry_write : Nat := 0x485101
/-- OD 16#4852.01 (R485). -/
abbrev Od.map_reset.map_reset_learned : Nat := 0x485201
/-- OD 16#4860.01 (R486). -/
abbrev Od.inspection_query.query_item : Nat := 0x486001
/-- OD 16#4860.02 (R486). -/
abbrev Od.inspection_query.query_camera : Nat := 0x486002
/-- OD 16#4860.03 (R486). -/
abbrev Od.inspection_query.result_found : Nat := 0x486003
/-- OD 16#4860.04 (R486). -/
abbrev Od.inspection_query.result : Nat := 0x486004
/-- OD 16#4C00.01 (R519). -/
abbrev Od.image_pipeline.pipe0_rate_mpix : Nat := 0x4C0001
/-- OD 16#4C00.02 (R519). -/
abbrev Od.image_pipeline.pipe1_rate_mpix : Nat := 0x4C0002
/-- OD 16#4C00.03 (R519). -/
abbrev Od.image_pipeline.pipe0_load_percent : Nat := 0x4C0003
/-- OD 16#4C00.04 (R519). -/
abbrev Od.image_pipeline.pipe1_load_percent : Nat := 0x4C0004
/-- OD 16#4C00.05 (R519). -/
abbrev Od.image_pipeline.pipe_rate_limit_percent : Nat := 0x4C0005
/-- OD 16#4C10.01, member n of 4 (R520). -/
abbrev Od.csi_port.port_enable (n : Nat) : Nat := 0x4C1001 + 256 * n
/-- OD 16#4C10.02, member n of 4 (R520). -/
abbrev Od.csi_port.data_lanes (n : Nat) : Nat := 0x4C1002 + 256 * n
/-- OD 16#4C10.03, member n of 4 (R520). -/
abbrev Od.csi_port.lane_rate_mbps (n : Nat) : Nat := 0x4C1003 + 256 * n
/-- OD 16#4C10.04, member n of 4 (R520). -/
abbrev Od.csi_port.virtual_channel (n : Nat) : Nat := 0x4C1004 + 256 * n
/-- OD 16#4C10.05, member n of 4 (R520). -/
abbrev Od.csi_port.data_type (n : Nat) : Nat := 0x4C1005 + 256 * n
/-- OD 16#4C10.06, member n of 4 (R520). -/
abbrev Od.csi_port.lane_map (n : Nat) : Nat := 0x4C1006 + 256 * n
/-- OD 16#4C10.07, member n of 4 (R520). -/
abbrev Od.csi_port.width_px (n : Nat) : Nat := 0x4C1007 + 256 * n
/-- OD 16#4C10.08, member n of 4 (R520). -/
abbrev Od.csi_port.height_lines (n : Nat) : Nat := 0x4C1008 + 256 * n
/-- OD 16#4C10.09, member n of 4 (R520). -/
abbrev Od.csi_port.pipe (n : Nat) : Nat := 0x4C1009 + 256 * n
/-- OD 16#4C10.0A, member n of 4 (R520). -/
abbrev Od.csi_port.frame_timeout_us (n : Nat) : Nat := 0x4C100A + 256 * n
/-- OD 16#4C10.0B, member n of 4 (R520). -/
abbrev Od.csi_port.frame_max_us (n : Nat) : Nat := 0x4C100B + 256 * n
/-- OD 16#4C10.0C, member n of 4 (R520). -/
abbrev Od.csi_port.csi_frame_wrap (n : Nat) : Nat := 0x4C100C + 256 * n
/-- OD 16#4C10.0D, member n of 4 (R520). -/
abbrev Od.csi_port.port_state (n : Nat) : Nat := 0x4C100D + 256 * n
/-- OD 16#4C10.0E, member n of 4 (R520). -/
abbrev Od.csi_port.conflict_reason (n : Nat) : Nat := 0x4C100E + 256 * n
/-- OD 16#4C10.0F, member n of 4 (R520). -/
abbrev Od.csi_port.frames_received (n : Nat) : Nat := 0x4C100F + 256 * n
/-- OD 16#4C10.10, member n of 4 (R520). -/
abbrev Od.csi_port.frames_lost (n : Nat) : Nat := 0x4C1010 + 256 * n
/-- OD 16#4C10.11, member n of 4 (R520). -/
abbrev Od.csi_port.frames_unsolicited (n : Nat) : Nat := 0x4C1011 + 256 * n
/-- OD 16#4C10.12, member n of 4 (R520). -/
abbrev Od.csi_port.csi_ecc_corrected (n : Nat) : Nat := 0x4C1012 + 256 * n
/-- OD 16#4C10.13, member n of 4 (R520). -/
abbrev Od.csi_port.csi_errors (n : Nat) : Nat := 0x4C1013 + 256 * n
/-- OD 16#4C10.14, member n of 4 (R520). -/
abbrev Od.csi_port.packets_ignored (n : Nat) : Nat := 0x4C1014 + 256 * n
/-- OD 16#4C20.01, member n of 4 (R521). -/
abbrev Od.camera_sensor.i2c_address (n : Nat) : Nat := 0x4C2001 + 256 * n
/-- OD 16#4C20.02, member n of 4 (R521). -/
abbrev Od.camera_sensor.i2c_speed (n : Nat) : Nat := 0x4C2002 + 256 * n
/-- OD 16#4C20.03, member n of 4 (R521). -/
abbrev Od.camera_sensor.i2c_reg_bytes (n : Nat) : Nat := 0x4C2003 + 256 * n
/-- OD 16#4C20.04, member n of 4 (R521). -/
abbrev Od.camera_sensor.i2c_data_bytes (n : Nat) : Nat := 0x4C2004 + 256 * n
/-- OD 16#4C20.05, member n of 4 (R521). -/
abbrev Od.camera_sensor.sensor_writes (n : Nat) : Nat := 0x4C2005 + 256 * n
/-- OD 16#4C20.06, member n of 4 (R521). -/
abbrev Od.camera_sensor.pad_value (n : Nat) : Nat := 0x4C2006 + 256 * n
/-- OD 16#4C20.07, member n of 4 (R521). -/
abbrev Od.camera_sensor.settings_set_id (n : Nat) : Nat := 0x4C2007 + 256 * n
/-- OD 16#4C20.08, member n of 4 (R521). -/
abbrev Od.camera_sensor.sensor_state (n : Nat) : Nat := 0x4C2008 + 256 * n
/-- OD 16#4C20.09, member n of 4 (R521). -/
abbrev Od.camera_sensor.i2c_read_reg (n : Nat) : Nat := 0x4C2009 + 256 * n
/-- OD 16#4C20.0A, member n of 4 (R521). -/
abbrev Od.camera_sensor.i2c_read_value (n : Nat) : Nat := 0x4C200A + 256 * n
/-- OD 16#4C20.0B, member n of 4 (R521). -/
abbrev Od.camera_sensor.i2c_errors (n : Nat) : Nat := 0x4C200B + 256 * n
/-- OD 16#4C20.0C, member n of 4 (R521). -/
abbrev Od.camera_sensor.torn_frames (n : Nat) : Nat := 0x4C200C + 256 * n
/-- OD 16#4C30.01, member n of 4 (R522). -/
abbrev Od.isp.black_level (n : Nat) : Nat := 0x4C3001 + 256 * n
/-- OD 16#4C30.02, member n of 4 (R522). -/
abbrev Od.isp.defect_table (n : Nat) : Nat := 0x4C3002 + 256 * n
/-- OD 16#4C30.03, member n of 4 (R522). -/
abbrev Od.isp.dynamic_defect_threshold (n : Nat) : Nat := 0x4C3003 + 256 * n
/-- OD 16#4C30.04, member n of 4 (R522). -/
abbrev Od.isp.shading_map (n : Nat) : Nat := 0x4C3004 + 256 * n
/-- OD 16#4C30.05, member n of 4 (R522). -/
abbrev Od.isp.spatial_nr (n : Nat) : Nat := 0x4C3005 + 256 * n
/-- OD 16#4C30.06, member n of 4 (R522). -/
abbrev Od.isp.temporal_nr (n : Nat) : Nat := 0x4C3006 + 256 * n
/-- OD 16#4C30.07, member n of 4 (R522). -/
abbrev Od.isp.tone_curve (n : Nat) : Nat := 0x4C3007 + 256 * n
/-- OD 16#4C40.01, member n of 4 (R523). -/
abbrev Od.camera_streams.insp_enable (n : Nat) : Nat := 0x4C4001 + 256 * n
/-- OD 16#4C40.02, member n of 4 (R523). -/
abbrev Od.camera_streams.insp_crop (n : Nat) : Nat := 0x4C4002 + 256 * n
/-- OD 16#4C40.03, member n of 4 (R523). -/
abbrev Od.camera_streams.insp_bin (n : Nat) : Nat := 0x4C4003 + 256 * n
/-- OD 16#4C40.04, member n of 4 (R523). -/
abbrev Od.camera_streams.view_enable (n : Nat) : Nat := 0x4C4004 + 256 * n
/-- OD 16#4C40.05, member n of 4 (R523). -/
abbrev Od.camera_streams.view_crop (n : Nat) : Nat := 0x4C4005 + 256 * n
/-- OD 16#4C40.06, member n of 4 (R523). -/
abbrev Od.camera_streams.view_size (n : Nat) : Nat := 0x4C4006 + 256 * n
/-- OD 16#4C40.07, member n of 4 (R523). -/
abbrev Od.camera_streams.view_ring_frames (n : Nat) : Nat := 0x4C4007 + 256 * n
/-- OD 16#4C40.08, member n of 4 (R523). -/
abbrev Od.camera_streams.arch_enable (n : Nat) : Nat := 0x4C4008 + 256 * n
/-- OD 16#4C40.09, member n of 4 (R523). -/
abbrev Od.camera_streams.arch_crop (n : Nat) : Nat := 0x4C4009 + 256 * n
/-- OD 16#4C40.0A, member n of 4 (R523). -/
abbrev Od.camera_streams.arch_bin (n : Nat) : Nat := 0x4C400A + 256 * n
/-- OD 16#4C40.0B, member n of 4 (R523). -/
abbrev Od.camera_streams.arch_format (n : Nat) : Nat := 0x4C400B + 256 * n
/-- OD 16#4C40.0C, member n of 4 (R523). -/
abbrev Od.camera_streams.stat_enable (n : Nat) : Nat := 0x4C400C + 256 * n
/-- OD 16#4C40.0D, member n of 4 (R523). -/
abbrev Od.camera_streams.stat_crop (n : Nat) : Nat := 0x4C400D + 256 * n
/-- OD 16#4C50.01, member n of 4 (R524). -/
abbrev Od.stream_status.frame_sequence (n : Nat) : Nat := 0x4C5001 + 256 * n
/-- OD 16#4C50.02, member n of 4 (R524). -/
abbrev Od.stream_status.insp_frames (n : Nat) : Nat := 0x4C5002 + 256 * n
/-- OD 16#4C50.03, member n of 4 (R524). -/
abbrev Od.stream_status.view_frames (n : Nat) : Nat := 0x4C5003 + 256 * n
/-- OD 16#4C50.04, member n of 4 (R524). -/
abbrev Od.stream_status.arch_frames (n : Nat) : Nat := 0x4C5004 + 256 * n
/-- OD 16#4C50.05, member n of 4 (R524). -/
abbrev Od.stream_status.arch_not_stored (n : Nat) : Nat := 0x4C5005 + 256 * n
/-- OD 16#4C50.06, member n of 4 (R524). -/
abbrev Od.stream_status.frames_flagged (n : Nat) : Nat := 0x4C5006 + 256 * n
/-- OD 16#4C50.07, member n of 4 (R524). -/
abbrev Od.stream_status.last_metadata (n : Nat) : Nat := 0x4C5007 + 256 * n
/-- OD 16#4C50.08, member n of 4 (R524). -/
abbrev Od.stream_status.last_stat (n : Nat) : Nat := 0x4C5008 + 256 * n
/-- OD 16#4C50.09, member n of 4 (R524). -/
abbrev Od.stream_status.view_ring_base (n : Nat) : Nat := 0x4C5009 + 256 * n
/-- OD 16#4C50.0A, member n of 4 (R524). -/
abbrev Od.stream_status.view_write_index (n : Nat) : Nat := 0x4C500A + 256 * n
/-- OD 16#4C60.01 (R525). -/
abbrev Od.archive_store.arch_store_mib : Nat := 0x4C6001
/-- OD 16#4C60.02 (R525). -/
abbrev Od.archive_store.arch_full_action : Nat := 0x4C6002
/-- OD 16#4C60.03 (R525). -/
abbrev Od.archive_store.arch_raw_slots : Nat := 0x4C6003
/-- OD 16#4C60.04 (R525). -/
abbrev Od.archive_store.arch_images_held : Nat := 0x4C6004
/-- OD 16#4C60.05 (R525). -/
abbrev Od.archive_store.arch_bytes_held : Nat := 0x4C6005
/-- OD 16#4C60.06 (R525). -/
abbrev Od.archive_store.arch_overwritten : Nat := 0x4C6006
/-- OD 16#4C60.07 (R525). -/
abbrev Od.archive_store.arch_refused : Nat := 0x4C6007
/-- OD 16#5000.01, member n of 2 (R547). -/
abbrev Od.beam_unit_config.beam_enable (n : Nat) : Nat := 0x500001 + 256 * n
/-- OD 16#5000.02, member n of 2 (R547). -/
abbrev Od.beam_unit_config.polygon_axis (n : Nat) : Nat := 0x500002 + 256 * n
/-- OD 16#5000.03, member n of 2 (R547). -/
abbrev Od.beam_unit_config.polygon_facets (n : Nat) : Nat := 0x500003 + 256 * n
/-- OD 16#5000.04, member n of 2 (R547). -/
abbrev Od.beam_unit_config.bd_edge (n : Nat) : Nat := 0x500004 + 256 * n
/-- OD 16#5000.05, member n of 2 (R547). -/
abbrev Od.beam_unit_config.bd_filter_ns (n : Nat) : Nat := 0x500005 + 256 * n
/-- OD 16#5000.06, member n of 2 (R547). -/
abbrev Od.beam_unit_config.scan_start_px (n : Nat) : Nat := 0x500006 + 256 * n
/-- OD 16#5000.07, member n of 2 (R547). -/
abbrev Od.beam_unit_config.scan_pixels (n : Nat) : Nat := 0x500007 + 256 * n
/-- OD 16#5000.08, member n of 2 (R547). -/
abbrev Od.beam_unit_config.scan_first_column (n : Nat) : Nat := 0x500008 + 256 * n
/-- OD 16#5000.09, member n of 2 (R547). -/
abbrev Od.beam_unit_config.scan_reverse (n : Nat) : Nat := 0x500009 + 256 * n
/-- OD 16#5000.0A, member n of 2 (R547). -/
abbrev Od.beam_unit_config.bd_tolerance_ppm (n : Nat) : Nat := 0x50000A + 256 * n
/-- OD 16#5000.0B, member n of 2 (R547). -/
abbrev Od.beam_unit_config.power_mode (n : Nat) : Nat := 0x50000B + 256 * n
/-- OD 16#5000.0C, member n of 2 (R547). -/
abbrev Od.beam_unit_config.power_table (n : Nat) : Nat := 0x50000C + 256 * n
/-- OD 16#5000.0D, member n of 2 (R547). -/
abbrev Od.beam_unit_config.power_fixed (n : Nat) : Nat := 0x50000D + 256 * n
/-- OD 16#5000.0E, member n of 2 (R547). -/
abbrev Od.beam_unit_config.lookahead_low_mark (n : Nat) : Nat := 0x50000E + 256 * n
/-- OD 16#5010.01, member n of 2 (R548). -/
abbrev Od.beam_unit_status.unit_state (n : Nat) : Nat := 0x501001 + 256 * n
/-- OD 16#5010.02, member n of 2 (R548). -/
abbrev Od.beam_unit_status.state_reason (n : Nat) : Nat := 0x501002 + 256 * n
/-- OD 16#5010.03, member n of 2 (R548). -/
abbrev Od.beam_unit_status.facet_period_ns (n : Nat) : Nat := 0x501003 + 256 * n
/-- OD 16#5010.04, member n of 2 (R548). -/
abbrev Od.beam_unit_status.pixel_clock_hz (n : Nat) : Nat := 0x501004 + 256 * n
/-- OD 16#5010.05, member n of 2 (R548). -/
abbrev Od.beam_unit_status.scans_emitted (n : Nat) : Nat := 0x501005 + 256 * n
/-- OD 16#5010.06, member n of 2 (R548). -/
abbrev Od.beam_unit_status.scans_blank (n : Nat) : Nat := 0x501006 + 256 * n
/-- OD 16#5010.07, member n of 2 (R548). -/
abbrev Od.beam_unit_status.lines_skipped (n : Nat) : Nat := 0x501007 + 256 * n
/-- OD 16#5010.08, member n of 2 (R548). -/
abbrev Od.beam_unit_status.pixels_demanded (n : Nat) : Nat := 0x501008 + 256 * n
/-- OD 16#5010.09, member n of 2 (R548). -/
abbrev Od.beam_unit_status.pixels_emitted (n : Nat) : Nat := 0x501009 + 256 * n
/-- OD 16#5010.0A, member n of 2 (R548). -/
abbrev Od.beam_unit_status.supp_gated (n : Nat) : Nat := 0x50100A + 256 * n
/-- OD 16#5010.0B, member n of 2 (R548). -/
abbrev Od.beam_unit_status.supp_tick_ceiling (n : Nat) : Nat := 0x50100B + 256 * n
/-- OD 16#5010.0C, member n of 2 (R548). -/
abbrev Od.beam_unit_status.count_validity (n : Nat) : Nat := 0x50100C + 256 * n
/-- OD 16#5010.0D, member n of 2 (R548). -/
abbrev Od.beam_unit_status.counts_reset (n : Nat) : Nat := 0x50100D + 256 * n
/-- OD 16#5010.0E, member n of 2 (R548). -/
abbrev Od.beam_unit_status.lock_losses (n : Nat) : Nat := 0x50100E + 256 * n
/-- OD 16#5010.0F, member n of 2 (R548). -/
abbrev Od.beam_unit_status.placement_error_max_ps (n : Nat) : Nat := 0x50100F + 256 * n
/-- OD 16#5400.01, member n of 6 (R579). -/
abbrev Od.axis_config.axis_enable (n : Nat) : Nat := 0x540001 + 256 * n
/-- OD 16#5400.02, member n of 6 (R579). -/
abbrev Od.axis_config.axis_role (n : Nat) : Nat := 0x540002 + 256 * n
/-- OD 16#5400.03, member n of 6 (R579). -/
abbrev Od.axis_config.pwm_freq_hz (n : Nat) : Nat := 0x540003 + 256 * n
/-- OD 16#5400.04, member n of 6 (R579). -/
abbrev Od.axis_config.dead_time_ns (n : Nat) : Nat := 0x540004 + 256 * n
/-- OD 16#5400.05, member n of 6 (R579). -/
abbrev Od.axis_config.min_pulse_ns (n : Nat) : Nat := 0x540005 + 256 * n
/-- OD 16#5400.06, member n of 6 (R579). -/
abbrev Od.axis_config.sense_topology (n : Nat) : Nat := 0x540006 + 256 * n
/-- OD 16#5400.07, member n of 6 (R579). -/
abbrev Od.axis_config.sinc_osr (n : Nat) : Nat := 0x540007 + 256 * n
/-- OD 16#5400.08, member n of 6 (R579). -/
abbrev Od.axis_config.feedback (n : Nat) : Nat := 0x540008 + 256 * n
/-- OD 16#5400.09, member n of 6 (R579). -/
abbrev Od.axis_config.start_method (n : Nat) : Nat := 0x540009 + 256 * n
/-- OD 16#5400.0A, member n of 6 (R579). -/
abbrev Od.axis_config.dc_bus_ain (n : Nat) : Nat := 0x54000A + 256 * n
/-- OD 16#5400.0B, member n of 6 (R579). -/
abbrev Od.axis_config.max_modulation (n : Nat) : Nat := 0x54000B + 256 * n
/-- OD 16#5400.0C, member n of 6 (R579). -/
abbrev Od.axis_config.speed_set_rpm (n : Nat) : Nat := 0x54000C + 256 * n
/-- OD 16#5400.0D, member n of 6 (R579). -/
abbrev Od.axis_config.accel_rpm_s (n : Nat) : Nat := 0x54000D + 256 * n
/-- OD 16#5400.0E, member n of 6 (R579). -/
abbrev Od.axis_config.current_bw_hz (n : Nat) : Nat := 0x54000E + 256 * n
/-- OD 16#5400.0F, member n of 6 (R579). -/
abbrev Od.axis_config.speed_kp (n : Nat) : Nat := 0x54000F + 256 * n
/-- OD 16#5400.10, member n of 6 (R579). -/
abbrev Od.axis_config.speed_ki (n : Nat) : Nat := 0x540010 + 256 * n
/-- OD 16#5400.11, member n of 6 (R579). -/
abbrev Od.axis_config.tension_set_mn (n : Nat) : Nat := 0x540011 + 256 * n
/-- OD 16#5400.12, member n of 6 (R579). -/
abbrev Od.axis_config.tension_loop (n : Nat) : Nat := 0x540012 + 256 * n
/-- OD 16#5400.13, member n of 6 (R579). -/
abbrev Od.axis_config.roll_radius_min_um (n : Nat) : Nat := 0x540013 + 256 * n
/-- OD 16#5400.14, member n of 6 (R579). -/
abbrev Od.axis_config.roll_radius_max_um (n : Nat) : Nat := 0x540014 + 256 * n
/-- OD 16#5400.15, member n of 6 (R579). -/
abbrev Od.axis_config.dc_bus_max_mv (n : Nat) : Nat := 0x540015 + 256 * n
/-- OD 16#5410.01, member n of 6 (R580). -/
abbrev Od.axis_motor.pole_pairs (n : Nat) : Nat := 0x541001 + 256 * n
/-- OD 16#5410.02, member n of 6 (R580). -/
abbrev Od.axis_motor.rated_speed_rpm (n : Nat) : Nat := 0x541002 + 256 * n
/-- OD 16#5410.03, member n of 6 (R580). -/
abbrev Od.axis_motor.rated_current_ma (n : Nat) : Nat := 0x541003 + 256 * n
/-- OD 16#5410.04, member n of 6 (R580). -/
abbrev Od.axis_motor.current_limit_ma (n : Nat) : Nat := 0x541004 + 256 * n
/-- OD 16#5410.05, member n of 6 (R580). -/
abbrev Od.axis_motor.rs_mohm (n : Nat) : Nat := 0x541005 + 256 * n
/-- OD 16#5410.06, member n of 6 (R580). -/
abbrev Od.axis_motor.ld_uh (n : Nat) : Nat := 0x541006 + 256 * n
/-- OD 16#5410.07, member n of 6 (R580). -/
abbrev Od.axis_motor.lq_uh (n : Nat) : Nat := 0x541007 + 256 * n
/-- OD 16#5410.08, member n of 6 (R580). -/
abbrev Od.axis_motor.ke_nominal_uvs (n : Nat) : Nat := 0x541008 + 256 * n
/-- OD 16#5410.09, member n of 6 (R580). -/
abbrev Od.axis_motor.ke_band_percent (n : Nat) : Nat := 0x541009 + 256 * n
/-- OD 16#5410.0A, member n of 6 (R580). -/
abbrev Od.axis_motor.catch_speed_percent (n : Nat) : Nat := 0x54100A + 256 * n
/-- OD 16#5410.0B, member n of 6 (R580). -/
abbrev Od.axis_motor.stop_speed_percent (n : Nat) : Nat := 0x54100B + 256 * n
/-- OD 16#5410.0C, member n of 6 (R580). -/
abbrev Od.axis_motor.handover_speed_percent (n : Nat) : Nat := 0x54100C + 256 * n
/-- OD 16#5410.0D, member n of 6 (R580). -/
abbrev Od.axis_motor.brake_current_ma (n : Nat) : Nat := 0x54100D + 256 * n
/-- OD 16#5410.0E, member n of 6 (R580). -/
abbrev Od.axis_motor.brake_hold_ms (n : Nat) : Nat := 0x54100E + 256 * n
/-- OD 16#5410.0F, member n of 6 (R580). -/
abbrev Od.axis_motor.brake_timeout_ms (n : Nat) : Nat := 0x54100F + 256 * n
/-- OD 16#5410.10, member n of 6 (R580). -/
abbrev Od.axis_motor.residual_limit_percent (n : Nat) : Nat := 0x541010 + 256 * n
/-- OD 16#5410.11, member n of 6 (R580). -/
abbrev Od.axis_motor.residual_periods (n : Nat) : Nat := 0x541011 + 256 * n
/-- OD 16#5410.12, member n of 6 (R580). -/
abbrev Od.axis_motor.recatch_delay_ms (n : Nat) : Nat := 0x541012 + 256 * n
/-- OD 16#5410.13, member n of 6 (R580). -/
abbrev Od.axis_motor.recatch_limit (n : Nat) : Nat := 0x541013 + 256 * n
/-- OD 16#5410.14, member n of 6 (R580). -/
abbrev Od.axis_motor.start_current_ma (n : Nat) : Nat := 0x541014 + 256 * n
/-- OD 16#5410.15, member n of 6 (R580). -/
abbrev Od.axis_motor.start_timeout_ms (n : Nat) : Nat := 0x541015 + 256 * n
/-- OD 16#5410.16, member n of 6 (R580). -/
abbrev Od.axis_motor.align_ms (n : Nat) : Nat := 0x541016 + 256 * n
/-- OD 16#5410.17, member n of 6 (R580). -/
abbrev Od.axis_motor.align_current_ma (n : Nat) : Nat := 0x541017 + 256 * n
/-- OD 16#5420.01, member n of 6 (R581). -/
abbrev Od.axis_status.axis_state (n : Nat) : Nat := 0x542001 + 256 * n
/-- OD 16#5420.02, member n of 6 (R581). -/
abbrev Od.axis_status.state_reason (n : Nat) : Nat := 0x542002 + 256 * n
/-- OD 16#5420.03, member n of 6 (R581). -/
abbrev Od.axis_status.speed_rpm (n : Nat) : Nat := 0x542003 + 256 * n
/-- OD 16#5420.04, member n of 6 (R581). -/
abbrev Od.axis_status.electrical_angle (n : Nat) : Nat := 0x542004 + 256 * n
/-- OD 16#5420.05, member n of 6 (R581). -/
abbrev Od.axis_status.id_ma (n : Nat) : Nat := 0x542005 + 256 * n
/-- OD 16#5420.06, member n of 6 (R581). -/
abbrev Od.axis_status.iq_ma (n : Nat) : Nat := 0x542006 + 256 * n
/-- OD 16#5420.07, member n of 6 (R581). -/
abbrev Od.axis_status.modulation (n : Nat) : Nat := 0x542007 + 256 * n
/-- OD 16#5420.08, member n of 6 (R581). -/
abbrev Od.axis_status.mod_region (n : Nat) : Nat := 0x542008 + 256 * n
/-- OD 16#5420.09, member n of 6 (R581). -/
abbrev Od.axis_status.ke_estimate_uvs (n : Nat) : Nat := 0x542009 + 256 * n
/-- OD 16#5420.0A, member n of 6 (R581). -/
abbrev Od.axis_status.residual_percent (n : Nat) : Nat := 0x54200A + 256 * n
/-- OD 16#5420.0B, member n of 6 (R581). -/
abbrev Od.axis_status.predicted_periods (n : Nat) : Nat := 0x54200B + 256 * n
/-- OD 16#5420.0C, member n of 6 (R581). -/
abbrev Od.axis_status.deadline_misses (n : Nat) : Nat := 0x54200C + 256 * n
/-- OD 16#5420.0D, member n of 6 (R581). -/
abbrev Od.axis_status.recatch_attempts (n : Nat) : Nat := 0x54200D + 256 * n
/-- OD 16#5420.0E, member n of 6 (R581). -/
abbrev Od.axis_status.observer_losses (n : Nat) : Nat := 0x54200E + 256 * n
/-- OD 16#5420.0F, member n of 6 (R581). -/
abbrev Od.axis_status.dc_bus_mv (n : Nat) : Nat := 0x54200F + 256 * n
/-- OD 16#5420.10, member n of 6 (R581). -/
abbrev Od.axis_status.roll_radius_um (n : Nat) : Nat := 0x542010 + 256 * n
/-- OD 16#5420.11, member n of 6 (R581). -/
abbrev Od.axis_status.pwm_freq_actual_hz (n : Nat) : Nat := 0x542011 + 256 * n
/-- OD 16#5440.01 (R582). -/
abbrev Od.transport_ramp.la_decel_percent_s : Nat := 0x544001
/-- OD 16#5440.02 (R582). -/
abbrev Od.transport_ramp.la_floor_percent : Nat := 0x544002
/-- OD 16#5440.03 (R582). -/
abbrev Od.transport_ramp.la_ramp_active : Nat := 0x544003
/-- OD 16#5800.01, member n of 32 (R607). -/
abbrev Od.loop_config.loop_enable (n : Nat) : Nat := 0x580001 + 256 * n
/-- OD 16#5800.02, member n of 32 (R607). -/
abbrev Od.loop_config.loop_form (n : Nat) : Nat := 0x580002 + 256 * n
/-- OD 16#5800.03, member n of 32 (R607). -/
abbrev Od.loop_config.sample_period_ns (n : Nat) : Nat := 0x580003 + 256 * n
/-- OD 16#5800.04, member n of 32 (R607). -/
abbrev Od.loop_config.pv_source (n : Nat) : Nat := 0x580004 + 256 * n
/-- OD 16#5800.05, member n of 32 (R607). -/
abbrev Od.loop_config.sp_source (n : Nat) : Nat := 0x580005 + 256 * n
/-- OD 16#5800.06, member n of 32 (R607). -/
abbrev Od.loop_config.sp_gain (n : Nat) : Nat := 0x580006 + 256 * n
/-- OD 16#5800.07, member n of 32 (R607). -/
abbrev Od.loop_config.sp_offset (n : Nat) : Nat := 0x580007 + 256 * n
/-- OD 16#5800.08, member n of 32 (R607). -/
abbrev Od.loop_config.sp_slew_per_s (n : Nat) : Nat := 0x580008 + 256 * n
/-- OD 16#5800.09, member n of 32 (R607). -/
abbrev Od.loop_config.setpoint (n : Nat) : Nat := 0x580009 + 256 * n
/-- OD 16#5800.0A, member n of 32 (R607). -/
abbrev Od.loop_config.coeff_b0 (n : Nat) : Nat := 0x58000A + 256 * n
/-- OD 16#5800.0B, member n of 32 (R607). -/
abbrev Od.loop_config.coeff_b1 (n : Nat) : Nat := 0x58000B + 256 * n
/-- OD 16#5800.0C, member n of 32 (R607). -/
abbrev Od.loop_config.coeff_b2 (n : Nat) : Nat := 0x58000C + 256 * n
/-- OD 16#5800.0D, member n of 32 (R607). -/
abbrev Od.loop_config.coeff_b3 (n : Nat) : Nat := 0x58000D + 256 * n
/-- OD 16#5800.0E, member n of 32 (R607). -/
abbrev Od.loop_config.coeff_a1 (n : Nat) : Nat := 0x58000E + 256 * n
/-- OD 16#5800.0F, member n of 32 (R607). -/
abbrev Od.loop_config.coeff_a2 (n : Nat) : Nat := 0x58000F + 256 * n
/-- OD 16#5800.10, member n of 32 (R607). -/
abbrev Od.loop_config.coeff_a3 (n : Nat) : Nat := 0x580010 + 256 * n
/-- OD 16#5800.11, member n of 32 (R607). -/
abbrev Od.loop_config.out_target (n : Nat) : Nat := 0x580011 + 256 * n
/-- OD 16#5800.12, member n of 32 (R607). -/
abbrev Od.loop_config.out_min (n : Nat) : Nat := 0x580012 + 256 * n
/-- OD 16#5800.13, member n of 32 (R607). -/
abbrev Od.loop_config.out_max (n : Nat) : Nat := 0x580013 + 256 * n
/-- OD 16#5800.14, member n of 32 (R607). -/
abbrev Od.loop_config.out_full_scale (n : Nat) : Nat := 0x580014 + 256 * n
/-- OD 16#5800.15, member n of 32 (R607). -/
abbrev Od.loop_config.safe_output (n : Nat) : Nat := 0x580015 + 256 * n
/-- OD 16#5800.16, member n of 32 (R607). -/
abbrev Od.loop_config.manual_output (n : Nat) : Nat := 0x580016 + 256 * n
/-- OD 16#5800.17, member n of 32 (R607). -/
abbrev Od.loop_config.loop_miss_limit (n : Nat) : Nat := 0x580017 + 256 * n
/-- OD 16#5840.01, member n of 32 (R608). -/
abbrev Od.loop_status.loop_state (n : Nat) : Nat := 0x584001 + 256 * n
/-- OD 16#5840.02, member n of 32 (R608). -/
abbrev Od.loop_status.loop_reason (n : Nat) : Nat := 0x584002 + 256 * n
/-- OD 16#5840.03, member n of 32 (R608). -/
abbrev Od.loop_status.pv (n : Nat) : Nat := 0x584003 + 256 * n
/-- OD 16#5840.04, member n of 32 (R608). -/
abbrev Od.loop_status.sp_in_force (n : Nat) : Nat := 0x584004 + 256 * n
/-- OD 16#5840.05, member n of 32 (R608). -/
abbrev Od.loop_status.loop_output (n : Nat) : Nat := 0x584005 + 256 * n
/-- OD 16#5840.06, member n of 32 (R608). -/
abbrev Od.loop_status.samples (n : Nat) : Nat := 0x584006 + 256 * n
/-- OD 16#5840.07, member n of 32 (R608). -/
abbrev Od.loop_status.misses (n : Nat) : Nat := 0x584007 + 256 * n
/-- OD 16#5840.08, member n of 32 (R608). -/
abbrev Od.loop_status.latency_max_ns (n : Nat) : Nat := 0x584008 + 256 * n
/-- OD 16#5900.01, member n of 32 (R609). -/
abbrev Od.ain.ain_enable (n : Nat) : Nat := 0x590001 + 256 * n
/-- OD 16#5900.02, member n of 32 (R609). -/
abbrev Od.ain.ain_full_scale_mv (n : Nat) : Nat := 0x590002 + 256 * n
/-- OD 16#5900.03, member n of 32 (R609). -/
abbrev Od.ain.ain_code (n : Nat) : Nat := 0x590003 + 256 * n
/-- OD 16#5900.04, member n of 32 (R609). -/
abbrev Od.ain.ain_mv (n : Nat) : Nat := 0x590004 + 256 * n
/-- OD 16#5900.05, member n of 32 (R609). -/
abbrev Od.ain.ain_time (n : Nat) : Nat := 0x590005 + 256 * n
/-- OD 16#5930.01, member n of 4 (R610). -/
abbrev Od.pulse_in.pulse_mode (n : Nat) : Nat := 0x593001 + 256 * n
/-- OD 16#5930.02, member n of 4 (R610). -/
abbrev Od.pulse_in.pulse_filter_ns (n : Nat) : Nat := 0x593002 + 256 * n
/-- OD 16#5930.03, member n of 4 (R610). -/
abbrev Od.pulse_in.pulse_full_scale_hz (n : Nat) : Nat := 0x593003 + 256 * n
/-- OD 16#5930.04, member n of 4 (R610). -/
abbrev Od.pulse_in.pulse_timeout_ms (n : Nat) : Nat := 0x593004 + 256 * n
/-- OD 16#5930.05, member n of 4 (R610). -/
abbrev Od.pulse_in.pulse_value (n : Nat) : Nat := 0x593005 + 256 * n
/-- OD 16#5930.06, member n of 4 (R610). -/
abbrev Od.pulse_in.pulse_freq_mhz (n : Nat) : Nat := 0x593006 + 256 * n
/-- OD 16#5930.07, member n of 4 (R610). -/
abbrev Od.pulse_in.pulse_status (n : Nat) : Nat := 0x593007 + 256 * n
/-- OD 16#5940.01, member n of 16 (R611). -/
abbrev Od.output.out_enable (n : Nat) : Nat := 0x594001 + 256 * n
/-- OD 16#5940.02, member n of 16 (R611). -/
abbrev Od.output.hpwm_freq_hz (n : Nat) : Nat := 0x594002 + 256 * n
/-- OD 16#5940.03, member n of 16 (R611). -/
abbrev Od.output.out_value (n : Nat) : Nat := 0x594003 + 256 * n
/-- OD 16#5940.04, member n of 16 (R611). -/
abbrev Od.output.out_owner (n : Nat) : Nat := 0x594004 + 256 * n
/-- OD 16#5A00.01, member n of 16 (R612). -/
abbrev Od.remote_temp.ts_enable (n : Nat) : Nat := 0x5A0001 + 256 * n
/-- OD 16#5A00.02, member n of 16 (R612). -/
abbrev Od.remote_temp.ts_kind (n : Nat) : Nat := 0x5A0002 + 256 * n
/-- OD 16#5A00.03, member n of 16 (R612). -/
abbrev Od.remote_temp.ts_class (n : Nat) : Nat := 0x5A0003 + 256 * n
/-- OD 16#5A00.04, member n of 16 (R612). -/
abbrev Od.remote_temp.ts_planes (n : Nat) : Nat := 0x5A0004 + 256 * n
/-- OD 16#5A00.05, member n of 16 (R612). -/
abbrev Od.remote_temp.ts_ideality (n : Nat) : Nat := 0x5A0005 + 256 * n
/-- OD 16#5A00.06, member n of 16 (R612). -/
abbrev Od.remote_temp.ts_series_mohm (n : Nat) : Nat := 0x5A0006 + 256 * n
/-- OD 16#5A00.07, member n of 16 (R612). -/
abbrev Od.remote_temp.th_r0_ohm (n : Nat) : Nat := 0x5A0007 + 256 * n
/-- OD 16#5A00.08, member n of 16 (R612). -/
abbrev Od.remote_temp.th_beta (n : Nat) : Nat := 0x5A0008 + 256 * n
/-- OD 16#5A00.09, member n of 16 (R612). -/
abbrev Od.remote_temp.ts_current (n : Nat) : Nat := 0x5A0009 + 256 * n
/-- OD 16#5A00.0A, member n of 16 (R612). -/
abbrev Od.remote_temp.throttle_limit (n : Nat) : Nat := 0x5A000A + 256 * n
/-- OD 16#5A00.0B, member n of 16 (R612). -/
abbrev Od.remote_temp.shutdown_limit (n : Nat) : Nat := 0x5A000B + 256 * n
/-- OD 16#5A00.0C, member n of 16 (R612). -/
abbrev Od.remote_temp.near_band (n : Nat) : Nat := 0x5A000C + 256 * n
/-- OD 16#5A00.0D, member n of 16 (R612). -/
abbrev Od.remote_temp.temperature (n : Nat) : Nat := 0x5A000D + 256 * n
/-- OD 16#5A00.0E, member n of 16 (R612). -/
abbrev Od.remote_temp.ts_status (n : Nat) : Nat := 0x5A000E + 256 * n
/-- OD 16#5A00.0F, member n of 16 (R612). -/
abbrev Od.remote_temp.ts_promoted (n : Nat) : Nat := 0x5A000F + 256 * n
/-- OD 16#5A00.10, member n of 16 (R612). -/
abbrev Od.remote_temp.ts_r_permille (n : Nat) : Nat := 0x5A0010 + 256 * n
/-- OD 16#5A10.01, member n of 8 (R613). -/
abbrev Od.die_temp.td_throttle_limit (n : Nat) : Nat := 0x5A1001 + 256 * n
/-- OD 16#5A10.02, member n of 8 (R613). -/
abbrev Od.die_temp.td_shutdown_limit (n : Nat) : Nat := 0x5A1002 + 256 * n
/-- OD 16#5A10.03, member n of 8 (R613). -/
abbrev Od.die_temp.td_temperature (n : Nat) : Nat := 0x5A1003 + 256 * n
/-- OD 16#5A10.04, member n of 8 (R613). -/
abbrev Od.die_temp.td_status (n : Nat) : Nat := 0x5A1004 + 256 * n
/-- OD 16#5A10.05, member n of 8 (R613). -/
abbrev Od.die_temp.td_r_permille (n : Nat) : Nat := 0x5A1005 + 256 * n
/-- OD 16#5A20.01 (R614). -/
abbrev Od.thermal_status.throttle_release_percent_s : Nat := 0x5A2001
/-- OD 16#5A20.02 (R614). -/
abbrev Od.thermal_status.shutdown_samples : Nat := 0x5A2002
/-- OD 16#5A20.03 (R614). -/
abbrev Od.thermal_status.sensor_fault_action : Nat := 0x5A2003
/-- OD 16#5A20.04 (R614). -/
abbrev Od.thermal_status.plane_preheat_limits : Nat := 0x5A2004
/-- OD 16#5A20.05 (R614). -/
abbrev Od.thermal_status.plane_level_limits : Nat := 0x5A2005
/-- OD 16#5A20.06 (R614). -/
abbrev Od.thermal_status.die_r_permille : Nat := 0x5A2006
/-- OD 16#5A20.07 (R614). -/
abbrev Od.thermal_status.thermal_shutdown_latched : Nat := 0x5A2007
/-- OD 16#5A20.08 (R614). -/
abbrev Od.thermal_status.shutdown_sensor : Nat := 0x5A2008
/-- OD 16#5A20.09 (R614). -/
abbrev Od.thermal_status.shutdown_temperature : Nat := 0x5A2009
/-- OD 16#5A30.01 (R615). -/
abbrev Od.adc_status.adc0_load_percent : Nat := 0x5A3001
/-- OD 16#5A30.02 (R615). -/
abbrev Od.adc_status.adc1_load_percent : Nat := 0x5A3002
/-- OD 16#5A30.03 (R615). -/
abbrev Od.adc_status.slow_rounds_late : Nat := 0x5A3003
/-- OD 16#5A30.04 (R615). -/
abbrev Od.adc_status.fast_rounds_late : Nat := 0x5A3004
/-- OD 16#5A30.05 (R615). -/
abbrev Od.adc_status.trigger_wait_max_ns : Nat := 0x5A3005
/-- OD 16#5C00.01 (R669). -/
abbrev Od.power_control.power_state : Nat := 0x5C0001
/-- OD 16#5C00.02 (R669). -/
abbrev Od.power_control.power_cause : Nat := 0x5C0002
/-- OD 16#5C00.03 (R669). -/
abbrev Od.power_control.power_off_request : Nat := 0x5C0003
/-- OD 16#5C00.04 (R669). -/
abbrev Od.power_control.power_auto_restart : Nat := 0x5C0004
/-- OD 16#5C00.05 (R669). -/
abbrev Od.power_control.power_min_off_ms : Nat := 0x5C0005
/-- OD 16#5C00.06 (R669). -/
abbrev Od.power_control.wake_off_hold_ms : Nat := 0x5C0006
/-- OD 16#5C00.07 (R669). -/
abbrev Od.power_control.seq_fault_latched : Nat := 0x5C0007
/-- OD 16#5C00.08 (R669). -/
abbrev Od.power_control.seq_fault_channel : Nat := 0x5C0008
/-- OD 16#5C00.09 (R669). -/
abbrev Od.power_control.seq_fault_kind : Nat := 0x5C0009
/-- OD 16#5C00.0A (R669). -/
abbrev Od.power_control.seq_fault_clear : Nat := 0x5C000A
/-- OD 16#5C00.0B (R669). -/
abbrev Od.power_control.seq_step_now : Nat := 0x5C000B
/-- OD 16#5C00.0C (R669). -/
abbrev Od.power_control.aon_state_lost : Nat := 0x5C000C
/-- OD 16#5C01.01 (R670). -/
abbrev Od.supply_supervisor.sup_divider_milli : Nat := 0x5C0101
/-- OD 16#5C01.02 (R670). -/
abbrev Od.supply_supervisor.sup_warn_mv : Nat := 0x5C0102
/-- OD 16#5C01.03 (R670). -/
abbrev Od.supply_supervisor.sup_reset_mv : Nat := 0x5C0103
/-- OD 16#5C01.04 (R670). -/
abbrev Od.supply_supervisor.sup_hysteresis_mv : Nat := 0x5C0104
/-- OD 16#5C01.05 (R670). -/
abbrev Od.supply_supervisor.sup_filter_us : Nat := 0x5C0105
/-- OD 16#5C01.06 (R670). -/
abbrev Od.supply_supervisor.sup_main_mv : Nat := 0x5C0106
/-- OD 16#5C01.07 (R670). -/
abbrev Od.supply_supervisor.holdup_active : Nat := 0x5C0107
/-- OD 16#5C01.08 (R670). -/
abbrev Od.supply_supervisor.sup_warnings : Nat := 0x5C0108
/-- OD 16#5C01.09 (R670). -/
abbrev Od.supply_supervisor.sup_glitches : Nat := 0x5C0109
/-- OD 16#5C01.0A (R670). -/
abbrev Od.supply_supervisor.brownouts_recovered : Nat := 0x5C010A
/-- OD 16#5C02.01 (R671). -/
abbrev Od.holdup_status.last_warning_time : Nat := 0x5C0201
/-- OD 16#5C02.02 (R671). -/
abbrev Od.holdup_status.last_stop_kind : Nat := 0x5C0202
/-- OD 16#5C02.03 (R671). -/
abbrev Od.holdup_status.last_sequence_us : Nat := 0x5C0203
/-- OD 16#5C02.04 (R671). -/
abbrev Od.holdup_status.journal_pending_max : Nat := 0x5C0204
/-- OD 16#5C02.05 (R671). -/
abbrev Od.holdup_status.record_slots_erased : Nat := 0x5C0205
/-- OD 16#5C02.06 (R671). -/
abbrev Od.holdup_status.boot_record : Nat := 0x5C0206
/-- OD 16#5C02.07 (R671). -/
abbrev Od.holdup_status.items_closed_at_boot : Nat := 0x5C0207
/-- OD 16#5C10.01, member n of 16 (R672). -/
abbrev Od.seq_channel.seq_step (n : Nat) : Nat := 0x5C1001 + 256 * n
/-- OD 16#5C10.02, member n of 16 (R672). -/
abbrev Od.seq_channel.seq_on_delay_us (n : Nat) : Nat := 0x5C1002 + 256 * n
/-- OD 16#5C10.03, member n of 16 (R672). -/
abbrev Od.seq_channel.seq_win_min_mv (n : Nat) : Nat := 0x5C1003 + 256 * n
/-- OD 16#5C10.04, member n of 16 (R672). -/
abbrev Od.seq_channel.seq_win_max_mv (n : Nat) : Nat := 0x5C1004 + 256 * n
/-- OD 16#5C10.05, member n of 16 (R672). -/
abbrev Od.seq_channel.seq_nominal_mv (n : Nat) : Nat := 0x5C1005 + 256 * n
/-- OD 16#5C10.06, member n of 16 (R672). -/
abbrev Od.seq_channel.seq_up_timeout_ms (n : Nat) : Nat := 0x5C1006 + 256 * n
/-- OD 16#5C10.07, member n of 16 (R672). -/
abbrev Od.seq_channel.seq_settle_us (n : Nat) : Nat := 0x5C1007 + 256 * n
/-- OD 16#5C10.08, member n of 16 (R672). -/
abbrev Od.seq_channel.seq_glitch_us (n : Nat) : Nat := 0x5C1008 + 256 * n
/-- OD 16#5C10.09, member n of 16 (R672). -/
abbrev Od.seq_channel.seq_off_delay_us (n : Nat) : Nat := 0x5C1009 + 256 * n
/-- OD 16#5C10.0A, member n of 16 (R672). -/
abbrev Od.seq_channel.seq_off_level_mv (n : Nat) : Nat := 0x5C100A + 256 * n
/-- OD 16#5C10.0B, member n of 16 (R672). -/
abbrev Od.seq_channel.seq_down_timeout_ms (n : Nat) : Nat := 0x5C100B + 256 * n
/-- OD 16#5C10.0C, member n of 16 (R672). -/
abbrev Od.seq_channel.seq_safe_action (n : Nat) : Nat := 0x5C100C + 256 * n
/-- OD 16#5C10.0D, member n of 16 (R672). -/
abbrev Od.seq_channel.seq_service (n : Nat) : Nat := 0x5C100D + 256 * n
/-- OD 16#5C10.0E, member n of 16 (R672). -/
abbrev Od.seq_channel.seq_monitor_mv (n : Nat) : Nat := 0x5C100E + 256 * n
/-- OD 16#5C10.0F, member n of 16 (R672). -/
abbrev Od.seq_channel.seq_channel_state (n : Nat) : Nat := 0x5C100F + 256 * n
/-- OD 16#5C10.10, member n of 16 (R672). -/
abbrev Od.seq_channel.seq_faults (n : Nat) : Nat := 0x5C1010 + 256 * n
/-- OD 16#5C30.01, member n of 8 (R673). -/
abbrev Od.margin.margin_channel (n : Nat) : Nat := 0x5C3001 + 256 * n
/-- OD 16#5C30.02, member n of 8 (R673). -/
abbrev Od.margin.margin_tenths (n : Nat) : Nat := 0x5C3002 + 256 * n
/-- OD 16#5C30.03, member n of 8 (R673). -/
abbrev Od.margin.margin_in_effect (n : Nat) : Nat := 0x5C3003 + 256 * n
/-- OD 16#5C40.01, member n of 14 (R674). -/
abbrev Od.power_domain.domain_enable (n : Nat) : Nat := 0x5C4001 + 256 * n
/-- OD 16#5C40.02, member n of 14 (R674). -/
abbrev Od.power_domain.domain_state (n : Nat) : Nat := 0x5C4002 + 256 * n
/-- OD 16#5C40.03, member n of 14 (R674). -/
abbrev Od.power_domain.domain_on_count (n : Nat) : Nat := 0x5C4003 + 256 * n
/-- OD 16#6000.01 (R706). -/
abbrev Od.fault_collector.collector_state : Nat := 0x600001
/-- OD 16#6000.02 (R706). -/
abbrev Od.fault_collector.safe_cause : Nat := 0x600002
/-- OD 16#6000.03 (R706). -/
abbrev Od.fault_collector.safe_entry_time : Nat := 0x600003
/-- OD 16#6000.04 (R706). -/
abbrev Od.fault_collector.safe_state_exit : Nat := 0x600004
/-- OD 16#6000.05 (R706). -/
abbrev Od.fault_collector.fault_n_mode : Nat := 0x600005
/-- OD 16#6000.06 (R706). -/
abbrev Od.fault_collector.fault_n_drive : Nat := 0x600006
/-- OD 16#6000.07 (R706). -/
abbrev Od.fault_collector.fault_n_asserted : Nat := 0x600007
/-- OD 16#6000.08 (R706). -/
abbrev Od.fault_collector.self_test_period_ms : Nat := 0x600008
/-- OD 16#6000.09 (R706). -/
abbrev Od.fault_collector.safe_entries : Nat := 0x600009
/-- OD 16#6001.01 (R707). -/
abbrev Od.fault_control.fault_clear : Nat := 0x600101
/-- OD 16#6001.02 (R707). -/
abbrev Od.fault_control.fault_inject : Nat := 0x600102
/-- OD 16#6001.03 (R707). -/
abbrev Od.fault_control.inject_result : Nat := 0x600103
/-- OD 16#6001.04 (R707). -/
abbrev Od.fault_control.action_write : Nat := 0x600104
/-- OD 16#6001.05 (R707). -/
abbrev Od.fault_control.sources_active : Nat := 0x600105
/-- OD 16#6001.06 (R707). -/
abbrev Od.fault_control.pair_errors : Nat := 0x600106
/-- OD 16#6010.01, member n of 8 (R708). -/
abbrev Od.fault_group.quiet_period_ms (n : Nat) : Nat := 0x601001 + 256 * n
/-- OD 16#6010.02, member n of 8 (R708). -/
abbrev Od.fault_group.safe_exit_mode (n : Nat) : Nat := 0x601002 + 256 * n
/-- OD 16#6010.03, member n of 8 (R708). -/
abbrev Od.fault_group.recovery_limit (n : Nat) : Nat := 0x601003 + 256 * n
/-- OD 16#6010.04, member n of 8 (R708). -/
abbrev Od.fault_group.recovery_count (n : Nat) : Nat := 0x601004 + 256 * n
/-- OD 16#6010.05, member n of 8 (R708). -/
abbrev Od.fault_group.recovery_count_reset (n : Nat) : Nat := 0x601005 + 256 * n
/-- OD 16#6010.06, member n of 8 (R708). -/
abbrev Od.fault_group.active_mask (n : Nat) : Nat := 0x601006 + 256 * n
/-- OD 16#6010.07, member n of 8 (R708). -/
abbrev Od.fault_group.sticky_mask (n : Nat) : Nat := 0x601007 + 256 * n
/-- OD 16#6010.08, member n of 8 (R708). -/
abbrev Od.fault_group.last_activation_time (n : Nat) : Nat := 0x601008 + 256 * n
/-- OD 16#6020.01 (R709). -/
abbrev Od.fault_source_query.query_source : Nat := 0x602001
/-- OD 16#6020.02 (R709). -/
abbrev Od.fault_source_query.source_state : Nat := 0x602002
/-- OD 16#6020.03 (R709). -/
abbrev Od.fault_source_query.source_sticky : Nat := 0x602003
/-- OD 16#6020.04 (R709). -/
abbrev Od.fault_source_query.source_actions : Nat := 0x602004
/-- OD 16#6020.05 (R709). -/
abbrev Od.fault_source_query.source_fixed : Nat := 0x602005
/-- OD 16#6020.06 (R709). -/
abbrev Od.fault_source_query.source_activations : Nat := 0x602006
/-- OD 16#6020.07 (R709). -/
abbrev Od.fault_source_query.source_name : Nat := 0x602007
/-- OD 16#6100.01 (R710). -/
abbrev Od.pair_config.pair_enable : Nat := 0x610001
/-- OD 16#6100.02 (R710). -/
abbrev Od.pair_config.pair_priority : Nat := 0x610002
/-- OD 16#6100.03 (R710). -/
abbrev Od.pair_config.pair_seek_ms : Nat := 0x610003
/-- OD 16#6100.04 (R710). -/
abbrev Od.pair_config.pair_loss_us : Nat := 0x610004
/-- OD 16#6100.05 (R710). -/
abbrev Od.pair_config.pair_enc_tolerance_counts : Nat := 0x610005
/-- OD 16#6100.06 (R710). -/
abbrev Od.pair_config.pair_switchover_request : Nat := 0x610006
/-- OD 16#6100.07 (R710). -/
abbrev Od.pair_config.pair_auto_resync : Nat := 0x610007
/-- OD 16#6100.08 (R710). -/
abbrev Od.pair_config.pair_shared_seq : Nat := 0x610008
/-- OD 16#6101.01 (R711). -/
abbrev Od.pair_status.pair_state : Nat := 0x610101
/-- OD 16#6101.02 (R711). -/
abbrev Od.pair_status.pair_reason : Nat := 0x610102
/-- OD 16#6101.03 (R711). -/
abbrev Od.pair_status.pair_epoch : Nat := 0x610103
/-- OD 16#6101.04 (R711). -/
abbrev Od.pair_status.partner_serial : Nat := 0x610104
/-- OD 16#6101.05 (R711). -/
abbrev Od.pair_status.switchovers : Nat := 0x610105
/-- OD 16#6101.06 (R711). -/
abbrev Od.pair_status.last_switchover_time : Nat := 0x610106
/-- OD 16#6101.07 (R711). -/
abbrev Od.pair_status.last_takeover_us : Nat := 0x610107
/-- OD 16#6101.08 (R711). -/
abbrev Od.pair_status.last_gap_lines : Nat := 0x610108
/-- OD 16#6101.09 (R711). -/
abbrev Od.pair_status.mirror_lag_us : Nat := 0x610109
/-- OD 16#6101.0A (R711). -/
abbrev Od.pair_status.sync_progress_percent : Nat := 0x61010A
/-- OD 16#6102.01 (R712). -/
abbrev Od.pair_health.health : Nat := 0x610201
/-- OD 16#6102.02 (R712). -/
abbrev Od.pair_health.health_links : Nat := 0x610202
/-- OD 16#6102.03 (R712). -/
abbrev Od.pair_health.takeover_ready : Nat := 0x610203
/-- OD 16#6102.04 (R712). -/
abbrev Od.pair_health.encoder_mismatch_max : Nat := 0x610204
/-- OD 16#6102.05 (R712). -/
abbrev Od.pair_health.trigger_mismatches : Nat := 0x610205
/-- OD 16#6102.06 (R712). -/
abbrev Od.pair_health.mirror_frame_errors : Nat := 0x610206
/-- OD 16#6400.01 (R349). -/
abbrev Od.couch_store_status.couch_init_done : Nat := 0x640001
/-- OD 16#6400.02 (R349). -/
abbrev Od.couch_store_status.couch_ecc_corrected : Nat := 0x640002
/-- OD 16#6400.03 (R349). -/
abbrev Od.couch_store_status.couch_ecc_uncorrectable : Nat := 0x640003
/-- OD 16#6400.04 (R349). -/
abbrev Od.couch_store_status.last_ecc_offset : Nat := 0x640004
/-- OD 16#6400.05 (R349). -/
abbrev Od.couch_store_status.last_ecc_requester : Nat := 0x640005
/-- OD 16#6400.06 (R349). -/
abbrev Od.couch_store_status.fetch_latency_max : Nat := 0x640006
/-- OD 16#6400.07 (R349). -/
abbrev Od.couch_store_status.starvation_promotions : Nat := 0x640007
/-- OD 16#6400.08 (R349). -/
abbrev Od.couch_store_status.bank_busy_percent : Nat := 0x640008
/-- OD 16#6400.09 (R349). -/
abbrev Od.couch_store_status.protection_violations : Nat := 0x640009
/-- OD 16#6410.01 (R350). -/
abbrev Od.dram_config.dram_ecc_enable : Nat := 0x641001
/-- OD 16#6410.02 (R350). -/
abbrev Od.dram_config.integ_dram_mib : Nat := 0x641002
/-- OD 16#6410.03 (R350). -/
abbrev Od.dram_config.patrol_scrub_hours : Nat := 0x641003
/-- OD 16#6410.04 (R350). -/
abbrev Od.dram_config.refresh_temp_poll_ms : Nat := 0x641004
/-- OD 16#6410.05 (R350). -/
abbrev Od.dram_config.rt_panic_percent : Nat := 0x641005
/-- OD 16#6411.01 (R351). -/
abbrev Od.dram_status.dram_state : Nat := 0x641101
/-- OD 16#6411.02 (R351). -/
abbrev Od.dram_status.device_density_gbit : Nat := 0x641102
/-- OD 16#6411.03 (R351). -/
abbrev Od.dram_status.physical_mib : Nat := 0x641103
/-- OD 16#6411.04 (R351). -/
abbrev Od.dram_status.logical_mib : Nat := 0x641104
/-- OD 16#6411.05 (R351). -/
abbrev Od.dram_status.dram_ecc_corrected : Nat := 0x641105
/-- OD 16#6411.06 (R351). -/
abbrev Od.dram_status.dram_ecc_uncorrectable : Nat := 0x641106
/-- OD 16#6411.07 (R351). -/
abbrev Od.dram_status.panic_entries : Nat := 0x641107
/-- OD 16#6411.08 (R351). -/
abbrev Od.dram_status.refresh_postponed_max : Nat := 0x641108
/-- OD 16#6411.09 (R351). -/
abbrev Od.dram_status.refresh_rate_code : Nat := 0x641109
/-- OD 16#6411.0A (R351). -/
abbrev Od.dram_status.last_training_time : Nat := 0x64110A
/-- OD 16#6411.0B (R351). -/
abbrev Od.dram_status.bandwidth_percent : Nat := 0x64110B
/-- OD 16#6411.0C (R351). -/
abbrev Od.dram_status.raw_forwards : Nat := 0x64110C
/-- OD 16#6411.0D (R351). -/
abbrev Od.dram_status.scrub_passes : Nat := 0x64110D
/-- OD 16#6412.01 (R352). -/
abbrev Od.dram_freeze_snapshot.freeze_valid : Nat := 0x641201
/-- OD 16#6412.02 (R352). -/
abbrev Od.dram_freeze_snapshot.freeze_time : Nat := 0x641202
/-- OD 16#6412.03 (R352). -/
abbrev Od.dram_freeze_snapshot.freeze_boot_id : Nat := 0x641203
/-- OD 16#6412.04 (R352). -/
abbrev Od.dram_freeze_snapshot.freeze_address : Nat := 0x641204
/-- OD 16#6412.05 (R352). -/
abbrev Od.dram_freeze_snapshot.freeze_channel : Nat := 0x641205
/-- OD 16#6412.06 (R352). -/
abbrev Od.dram_freeze_snapshot.freeze_bank : Nat := 0x641206
/-- OD 16#6412.07 (R352). -/
abbrev Od.dram_freeze_snapshot.freeze_row : Nat := 0x641207
/-- OD 16#6412.08 (R352). -/
abbrev Od.dram_freeze_snapshot.freeze_column : Nat := 0x641208
/-- OD 16#6412.09 (R352). -/
abbrev Od.dram_freeze_snapshot.freeze_syndrome : Nat := 0x641209
/-- OD 16#6412.0A (R352). -/
abbrev Od.dram_freeze_snapshot.freeze_requester : Nat := 0x64120A
/-- OD 16#6412.0B (R352). -/
abbrev Od.dram_freeze_snapshot.freeze_queue_depth : Nat := 0x64120B
/-- OD 16#6412.0C (R352). -/
abbrev Od.dram_freeze_snapshot.freeze_items_closed : Nat := 0x64120C
/-- OD 16#6412.0D (R352). -/
abbrev Od.dram_freeze_snapshot.freeze_clear : Nat := 0x64120D
/-- OD 16#6500.01 (R373). -/
abbrev Od.dma_engine.bus_error_active : Nat := 0x650001
/-- OD 16#6500.02 (R373). -/
abbrev Od.dma_engine.bus_error_address : Nat := 0x650002
/-- OD 16#6500.03 (R373). -/
abbrev Od.dma_engine.bus_error_map : Nat := 0x650003
/-- OD 16#6500.04 (R373). -/
abbrev Od.dma_engine.bus_error_time : Nat := 0x650004
/-- OD 16#6500.05 (R373). -/
abbrev Od.dma_engine.bus_error_count : Nat := 0x650005
/-- OD 16#6500.06 (R373). -/
abbrev Od.dma_engine.bus_error_clear : Nat := 0x650006
/-- OD 16#6500.07 (R373). -/
abbrev Od.dma_engine.engine_busy_percent : Nat := 0x650007
/-- OD 16#6510.01, member n of 16 (R374). -/
abbrev Od.dma_channel.channel_owner (n : Nat) : Nat := 0x651001 + 256 * n
/-- OD 16#6510.02, member n of 16 (R374). -/
abbrev Od.dma_channel.channel_state (n : Nat) : Nat := 0x651002 + 256 * n
/-- OD 16#6510.03, member n of 16 (R374). -/
abbrev Od.dma_channel.chains_ended (n : Nat) : Nat := 0x651003 + 256 * n
/-- OD 16#6510.04, member n of 16 (R374). -/
abbrev Od.dma_channel.descriptors_done (n : Nat) : Nat := 0x651004 + 256 * n
/-- OD 16#6510.05, member n of 16 (R374). -/
abbrev Od.dma_channel.bytes_moved (n : Nat) : Nat := 0x651005 + 256 * n
/-- OD 16#6510.06, member n of 16 (R374). -/
abbrev Od.dma_channel.count_validity (n : Nat) : Nat := 0x651006 + 256 * n
/-- OD 16#6510.07, member n of 16 (R374). -/
abbrev Od.dma_channel.counts_reset (n : Nat) : Nat := 0x651007 + 256 * n
/-- OD 16#6510.08, member n of 16 (R374). -/
abbrev Od.dma_channel.budget_stops (n : Nat) : Nat := 0x651008 + 256 * n
/-- OD 16#6510.09, member n of 16 (R374). -/
abbrev Od.dma_channel.doorbell_errors (n : Nat) : Nat := 0x651009 + 256 * n
/-- OD 16#6510.0A, member n of 16 (R374). -/
abbrev Od.dma_channel.last_error (n : Nat) : Nat := 0x65100A + 256 * n
/-- OD 16#6510.0B, member n of 16 (R374). -/
abbrev Od.dma_channel.chain_budget_default (n : Nat) : Nat := 0x65100B + 256 * n
/-- OD 16#6600.01, member n of 4 (R317). -/
abbrev Od.codec_instance.jobs_done (n : Nat) : Nat := 0x660001 + 256 * n
/-- OD 16#6600.02, member n of 4 (R317). -/
abbrev Od.codec_instance.bytes_consumed (n : Nat) : Nat := 0x660002 + 256 * n
/-- OD 16#6600.03, member n of 4 (R317). -/
abbrev Od.codec_instance.bytes_produced (n : Nat) : Nat := 0x660003 + 256 * n
/-- OD 16#6600.04, member n of 4 (R317). -/
abbrev Od.codec_instance.count_validity (n : Nat) : Nat := 0x660004 + 256 * n
/-- OD 16#6600.05, member n of 4 (R317). -/
abbrev Od.codec_instance.counts_reset (n : Nat) : Nat := 0x660005 + 256 * n
/-- OD 16#6600.06, member n of 4 (R317). -/
abbrev Od.codec_instance.errors (n : Nat) : Nat := 0x660006 + 256 * n
/-- OD 16#6600.07, member n of 4 (R317). -/
abbrev Od.codec_instance.suspensions (n : Nat) : Nat := 0x660007 + 256 * n
/-- OD 16#6600.08, member n of 4 (R317). -/
abbrev Od.codec_instance.last_error (n : Nat) : Nat := 0x660008 + 256 * n
/-- OD 16#6600.09, member n of 4 (R317). -/
abbrev Od.codec_instance.busy_percent (n : Nat) : Nat := 0x660009 + 256 * n
/-- OD 16#6600.0A, member n of 4 (R317). -/
abbrev Od.codec_instance.doorbell_errors (n : Nat) : Nat := 0x66000A + 256 * n
/-- OD 16#6610.01 (R318). -/
abbrev Od.codec_config.q2_share : Nat := 0x661001
/-- OD 16#6610.02 (R318). -/
abbrev Od.codec_config.compositor_instances : Nat := 0x661002
/-- OD 16#6610.03 (R318). -/
abbrev Od.codec_config.archive_instances : Nat := 0x661003
/-- OD 16#6800.01 (R116). -/
abbrev Od.clock_sources.xtal_status : Nat := 0x680001
/-- OD 16#6800.02 (R116). -/
abbrev Od.clock_sources.netref_status : Nat := 0x680002
/-- OD 16#6800.03 (R116). -/
abbrev Od.clock_sources.rtc_status : Nat := 0x680003
/-- OD 16#6800.04 (R116). -/
abbrev Od.clock_sources.fallback_active : Nat := 0x680004
/-- OD 16#6800.05 (R116). -/
abbrev Od.clock_sources.xtal_offset_ppb : Nat := 0x680005
/-- OD 16#6810.01, member n of 4 (R117). -/
abbrev Od.pll.pll_enable (n : Nat) : Nat := 0x681001 + 256 * n
/-- OD 16#6810.02, member n of 4 (R117). -/
abbrev Od.pll.pll_ref_source (n : Nat) : Nat := 0x681002 + 256 * n
/-- OD 16#6810.03, member n of 4 (R117). -/
abbrev Od.pll.pll_ref_mode (n : Nat) : Nat := 0x681003 + 256 * n
/-- OD 16#6810.04, member n of 4 (R117). -/
abbrev Od.pll.pll_vco_target_hz (n : Nat) : Nat := 0x681004 + 256 * n
/-- OD 16#6810.05, member n of 4 (R117). -/
abbrev Od.pll.pll_glide_rate_ppm (n : Nat) : Nat := 0x681005 + 256 * n
/-- OD 16#6810.06, member n of 4 (R117). -/
abbrev Od.pll.pll_loop_bw_khz (n : Nat) : Nat := 0x681006 + 256 * n
/-- OD 16#6810.07, member n of 4 (R117). -/
abbrev Od.pll.pll_spur_min_offset_khz (n : Nat) : Nat := 0x681007 + 256 * n
/-- OD 16#6810.08, member n of 4 (R117). -/
abbrev Od.pll.pll_state (n : Nat) : Nat := 0x681008 + 256 * n
/-- OD 16#6810.09, member n of 4 (R117). -/
abbrev Od.pll.pll_n_int (n : Nat) : Nat := 0x681009 + 256 * n
/-- OD 16#6810.0A, member n of 4 (R117). -/
abbrev Od.pll.pll_fraction (n : Nat) : Nat := 0x68100A + 256 * n
/-- OD 16#6810.0B, member n of 4 (R117). -/
abbrev Od.pll.pll_pfd_hz (n : Nat) : Nat := 0x68100B + 256 * n
/-- OD 16#6810.0C, member n of 4 (R117). -/
abbrev Od.pll.pll_vco_error_ppb (n : Nat) : Nat := 0x68100C + 256 * n
/-- OD 16#6810.0D, member n of 4 (R117). -/
abbrev Od.pll.pll_spur_offset_khz (n : Nat) : Nat := 0x68100D + 256 * n
/-- OD 16#6810.0E, member n of 4 (R117). -/
abbrev Od.pll.pll_anchor_hz (n : Nat) : Nat := 0x68100E + 256 * n
/-- OD 16#6810.0F, member n of 4 (R117). -/
abbrev Od.pll.pll_lock_held_us (n : Nat) : Nat := 0x68100F + 256 * n
/-- OD 16#6810.10, member n of 4 (R117). -/
abbrev Od.pll.pll_lock_loss_count (n : Nat) : Nat := 0x681010 + 256 * n
/-- OD 16#6820.01, member n of 32 (R118). -/
abbrev Od.clock_out.out_enable (n : Nat) : Nat := 0x682001 + 256 * n
/-- OD 16#6820.02, member n of 32 (R118). -/
abbrev Od.clock_out.out_divider (n : Nat) : Nat := 0x682002 + 256 * n
/-- OD 16#6820.03, member n of 32 (R118). -/
abbrev Od.clock_out.out_delay_steps (n : Nat) : Nat := 0x682003 + 256 * n
/-- OD 16#6820.04, member n of 32 (R118). -/
abbrev Od.clock_out.out_freq_hz (n : Nat) : Nat := 0x682004 + 256 * n
/-- OD 16#6820.05, member n of 32 (R118). -/
abbrev Od.clock_out.out_clock_name (n : Nat) : Nat := 0x682005 + 256 * n
/-- OD 16#6820.06, member n of 32 (R118). -/
abbrev Od.clock_out.out_range_fault_count (n : Nat) : Nat := 0x682006 + 256 * n
/-- OD 16#7000.01 (R634). -/
abbrev Od.island_identity.island_state : Nat := 0x700001
/-- OD 16#7000.02 (R634). -/
abbrev Od.island_identity.fault_reason : Nat := 0x700002
/-- OD 16#7000.03 (R634). -/
abbrev Od.island_identity.software_id : Nat := 0x700003
/-- OD 16#7000.04 (R634). -/
abbrev Od.island_identity.software_digest : Nat := 0x700004
/-- OD 16#7000.05 (R634). -/
abbrev Od.island_identity.event_counter : Nat := 0x700005
/-- OD 16#7000.06 (R634). -/
abbrev Od.island_identity.seal_epoch : Nat := 0x700006
/-- OD 16#7000.07 (R634). -/
abbrev Od.island_identity.seal_openings : Nat := 0x700007
/-- OD 16#7010.01 (R635). -/
abbrev Od.weighing_config.max_capacity_mg : Nat := 0x701001
/-- OD 16#7010.02 (R635). -/
abbrev Od.weighing_config.scale_interval_mg : Nat := 0x701002
/-- OD 16#7010.03 (R635). -/
abbrev Od.weighing_config.min_intervals : Nat := 0x701003
/-- OD 16#7010.04 (R635). -/
abbrev Od.weighing_config.zero_range_percent : Nat := 0x701004
/-- OD 16#7010.05 (R635). -/
abbrev Od.weighing_config.zero_tracking : Nat := 0x701005
/-- OD 16#7010.06 (R635). -/
abbrev Od.weighing_config.stability_band_tenths : Nat := 0x701006
/-- OD 16#7010.07 (R635). -/
abbrev Od.weighing_config.unit_text : Nat := 0x701007
/-- OD 16#7010.08 (R635). -/
abbrev Od.weighing_config.unit_mg : Nat := 0x701008
/-- OD 16#7010.09 (R635). -/
abbrev Od.weighing_config.weight_decimals : Nat := 0x701009
/-- OD 16#7010.0A (R635). -/
abbrev Od.weighing_config.currency_text : Nat := 0x70100A
/-- OD 16#7010.0B (R635). -/
abbrev Od.weighing_config.price_decimals : Nat := 0x70100B
/-- OD 16#7010.0C (R635). -/
abbrev Od.weighing_config.result_max_age_ms : Nat := 0x70100C
/-- OD 16#7011.01, member n of 2 (R636). -/
abbrev Od.load_cell.wp_lane (n : Nat) : Nat := 0x701101 + 256 * n
/-- OD 16#7011.02, member n of 2 (R636). -/
abbrev Od.load_cell.wp_delay_ms (n : Nat) : Nat := 0x701102 + 256 * n
/-- OD 16#7011.03, member n of 2 (R636). -/
abbrev Od.load_cell.wp_window_ms (n : Nat) : Nat := 0x701103 + 256 * n
/-- OD 16#7011.04, member n of 2 (R636). -/
abbrev Od.load_cell.cal_span (n : Nat) : Nat := 0x701104 + 256 * n
/-- OD 16#7011.05, member n of 2 (R636). -/
abbrev Od.load_cell.cal_zero (n : Nat) : Nat := 0x701105 + 256 * n
/-- OD 16#7030.01, member n of 8 (R637). -/
abbrev Od.unit_price.unit_price (n : Nat) : Nat := 0x703001 + 256 * n
/-- OD 16#7040.01 (R638). -/
abbrev Od.weighing_status.zero_request : Nat := 0x704001
/-- OD 16#7040.02 (R638). -/
abbrev Od.weighing_status.last_sequence : Nat := 0x704002
/-- OD 16#7040.03 (R638). -/
abbrev Od.weighing_status.results_issued : Nat := 0x704003
/-- OD 16#7040.04 (R638). -/
abbrev Od.weighing_status.results_bound : Nat := 0x704004
/-- OD 16#7040.05 (R638). -/
abbrev Od.weighing_status.results_expired : Nat := 0x704005
/-- OD 16#7040.06 (R638). -/
abbrev Od.weighing_status.results_rejected_tag : Nat := 0x704006
/-- OD 16#7040.07 (R638). -/
abbrev Od.weighing_status.edges_ignored : Nat := 0x704007
/-- OD 16#7040.08 (R638). -/
abbrev Od.weighing_status.buffer_used : Nat := 0x704008

end Sys2Proof.Machine
end

