-- ==== Sys2Proof/Machine/State.lean ====
section
/-! DEFINITION. The state of the device as plain data: the clock of the model, the queue of commands
that wait, the object store, and, by chapter of the spec, everything no object holds. `State.reset` is
the device right after reset. -/

namespace Sys2Proof.Machine

/-! ### Network ports and the Kevoud Line Protocol (spec/04) -/

/-- A packet of a session's peer that is accepted and not yet delivered (R132). -/
structure RxPkt where
  /-- sequence number -/
  seq : Nat
  /-- traffic class (R128) -/
  cls : Nat
  /-- MORE flag (R131) -/
  more : Bool
  /-- message type (R130) -/
  mtype : Nat
  /-- port of the first copy (R157) -/
  port : Nat
  /-- payload -/
  payload : List Byte
  deriving DecidableEq, Repr

/-- A delivered message that waits in the receive buffer of its session (R131, R139). -/
structure RxMsg where
  /-- traffic class -/
  cls : Nat
  /-- message type -/
  mtype : Nat
  /-- sequence number of its last fragment -/
  seq : Nat
  /-- credits its packets consumed -/
  credits : Nat
  /-- port of the first copy of its last packet -/
  port : Nat
  /-- role the session held at its delivery (R172) -/
  role : Nat
  /-- node_id of the session -/
  node : Nat
  /-- its epoch -/
  epoch : Nat
  /-- the message -/
  body : List Byte
  deriving DecidableEq, Repr

/-- A packet the device has sent and the peer has not acknowledged (R135). -/
structure TxPkt where
  /-- sequence number -/
  seq : Nat
  /-- traffic class -/
  cls : Nat
  /-- MORE flag -/
  more : Bool
  /-- message type -/
  mtype : Nat
  /-- payload -/
  payload : List Byte
  /-- instant of the last sending -/
  sentAt : Nat
  /-- retransmissions so far -/
  retx : Nat
  /-- retransmission timeout in force, in microseconds -/
  rtoUs : Nat
  /-- shown received in the peer's sack -/
  sacked : Bool
  /-- already resent for 3 higher sequences (R135) -/
  fast : Bool
  deriving DecidableEq, Repr

/-- A message the device has produced that waits for credit or window (R133, R137). -/
structure TxMsg where
  /-- traffic class -/
  cls : Nat
  /-- message type -/
  mtype : Nat
  /-- the message -/
  body : List Byte
  deriving DecidableEq, Repr

/-- One event entry (R153). -/
structure Ev where
  /-- event_number, device-wide -/
  num : Nat
  /-- TIME64 -/
  time : Nat
  /-- event code -/
  code : Nat
  /-- data -/
  data : List Byte
  deriving DecidableEq, Repr

/-- A cyclic subscription (R155). -/
structure Cyclic where
  /-- period in microseconds -/
  periodUs : Nat
  /-- objects sampled -/
  objs : List (Nat × Nat)
  /-- next cycle_number -/
  cycle : Nat
  deriving DecidableEq, Repr

/-- An open bulk window (R149 to R151). A write window lists the bytes written so far by offset; a read
window holds its content and how much of it has been sent. -/
structure BulkWin where
  /-- true for a write window (direction 16#00) -/
  toDevice : Bool
  /-- target_kind -/
  kind : Nat
  /-- target_id -/
  target : Nat
  /-- length in bytes -/
  length : Nat
  /-- CRC-32C of the whole content, 0 for a read window -/
  crc : Nat
  /-- bytes written, by rising offset -/
  written : List Host.Cell
  /-- content of a read window -/
  content : List Byte
  /-- bytes of a read window sent so far -/
  sent : Nat
  /-- request_id of the BULK_OPEN -/
  req : Nat
  deriving DecidableEq, Repr

/-- One session slot (R140 to R146, R196). -/
structure Sess where
  /-- the slot holds an open session -/
  isOpen : Bool
  /-- node_id of the holder, kept after the end for the epoch rule of R144 -/
  node : Nat
  /-- role held (R168), 255 for none -/
  role : Nat
  /-- epoch -/
  epoch : Nat
  /-- an OPEN has used the slot since the device reset (R144) -/
  used : Bool
  /-- ports on which the client is known (R156) -/
  portMask : Nat
  /-- client address learned per port (R156) -/
  addrs : List (Nat × Nat)
  /-- address and nonce of the last accepted OPEN (R140) -/
  openFrom : Nat
  /-- nonce of the last accepted OPEN -/
  nonce : Nat
  /-- OPEN_ACK sent to the last accepted OPEN -/
  openAck : List Byte
  /-- lower of the client's max_payload and klp_max_payload (R142) -/
  maxPayload : Nat
  /-- TIME64 of the OPEN -/
  openTime : Nat
  /-- ack: next sequence expected (R127) -/
  rxNext : Nat
  /-- packets accepted above a gap, rising -/
  rxHeld : List RxPkt
  /-- fragments of a message half delivered (R131) -/
  frags : List RxPkt
  /-- delivered messages in the receive buffer -/
  inbox : List RxMsg
  /-- cumulative limits granted to the peer per class (R138, R139) -/
  granted : Vector Nat 4
  /-- credits consumed by the device per class (R136) -/
  consumed : Vector Nat 4
  /-- packets that broke R137 -/
  creditBreaks : Nat
  /-- an acknowledgement is due (R134) -/
  ackDue : Bool
  /-- limits last reported to the peer (R138) -/
  reported : Vector Nat 4
  /-- class whose limit the next packet reports (R138) -/
  reportTurn : Nat
  /-- instant of the last valid packet from the peer (R145) -/
  lastRx : Nat
  /-- instant of the last packet sent (R145) -/
  lastTx : Nat
  /-- next sequence to send -/
  txNext : Nat
  /-- peer's last reported ack (R133) -/
  peerAck : Nat
  /-- packets sent and not acknowledged -/
  unacked : List TxPkt
  /-- messages that wait to be sent -/
  waiting : List TxMsg
  /-- credit limits the peer granted per class (R138) -/
  txLimit : Vector Nat 4
  /-- credits of the packets sent per class (R137) -/
  txUsed : Vector Nat 4
  /-- packets retransmitted (R196) -/
  retransmissions : Nat
  /-- 256-bit event mask (R154) -/
  evMask : Nat
  /-- events that wait for EVENT credit -/
  evQueue : List Ev
  /-- events discarded since the previous entry (R153) -/
  evDropped : Nat
  /-- events discarded in all (R196) -/
  evDroppedTotal : Nat
  /-- cyclic subscriptions (R155) -/
  cyclics : Vector (Option Cyclic) 8
  /-- bulk windows (R149) -/
  windows : Vector (Option BulkWin) 4
  /-- values of the session-local objects (R163), by key -/
  locals : List (Nat × OVal)
  deriving DecidableEq, Repr

/-- A free slot. -/
def Sess.free : Sess :=
  { isOpen := false, node := 0, role := 255, epoch := 0, used := false, portMask := 0, addrs := [],
    openFrom := 0, nonce := 0, openAck := [], maxPayload := 0, openTime := 0, rxNext := 0,
    rxHeld := [], frags := [], inbox := [], granted := Vector.replicate 4 0,
    consumed := Vector.replicate 4 0, creditBreaks := 0, ackDue := false,
    reported := Vector.replicate 4 0, reportTurn := 0, lastRx := 0, lastTx := 0, txNext := 0,
    peerAck := 0, unacked := [], waiting := [], txLimit := Vector.replicate 4 0,
    txUsed := Vector.replicate 4 0, retransmissions := 0, evMask := 0, evQueue := [],
    evDropped := 0, evDroppedTotal := 0, cyclics := Vector.replicate 8 none,
    windows := Vector.replicate 4 none, locals := [] }

/-- The refusals of one IP address (R171). -/
structure Lockout where
  /-- IP address -/
  addr : Nat
  /-- instants of the refusals of the last 60 s, oldest first -/
  refusals : List Nat
  /-- end of the 60 s in which every OPEN is answered with AUTH -/
  lockedUntil : Option Nat
  deriving DecidableEq, Repr

/-- A two-step Sync that waits for its Follow_Up (R122). -/
structure PtpPending where
  /-- sequenceId -/
  seqId : Nat
  /-- hardware receive timestamp -/
  rx : Int
  /-- correction field -/
  corr : Int
  deriving DecidableEq, Repr

/-- The PTP clock and the ordinary clock that steers it (R122 to R126). PTP time at instant t is
`base + (t − at) · (10^9 + ratePpb) / 10^9`. -/
structure Ptp where
  /-- TIME64 at the instant `at` -/
  base : Nat
  /-- instant of the last steering -/
  at_ : Nat
  /-- fractional addend in force, in ppb -/
  ratePpb : Int
  /-- best announce seen per port (R126) -/
  masters : Vector (Option PtpAnnounce) 3
  /-- two-step Sync waiting per port -/
  pending : Vector (Option PtpPending) 3
  /-- mean path delay per port -/
  delay : Vector Int 3
  /-- instant of entry to LOCKED -/
  lockedAt : Nat
  deriving DecidableEq, Repr

/-- Network state that no object holds. -/
structure NetSt where
  /-- the 8 session slots -/
  sess : Vector Sess 8
  /-- OPEN refusals per IP address (R171) -/
  lockouts : List Lockout
  /-- last OPEN_ACK sent to a rejected OPEN: address and payload (R142) -/
  lastReject : Option (Nat × List Byte)
  /-- last NOSEQ packet or ERROR outside a session -/
  lastNoSeq : Option (Nat × List Byte)
  /-- next event_number (R153) -/
  nextEvent : Nat
  /-- PTP clock -/
  ptp : Ptp
  /-- SFP+ module present on NETA, NETB (R120) -/
  sfp : Vector Bool 2
  /-- NETx_TX_DISABLE driven on NETA, NETB (R120) -/
  txDisable : Vector Bool 2
  deriving DecidableEq, Repr

/-! ### Change Log and durability (spec/05) -/

/-- A Change Log record (R182), its fields decoded; `old` and `new` are the value fields of 16 bytes. -/
structure LogRec where
  /-- change_number -/
  num : Nat
  /-- TIME64 of acceptance -/
  time : Nat
  /-- kind (R183) -/
  kind : Nat
  /-- origin (R183) -/
  origin : Nat
  /-- session, 255 for an origin without one -/
  sess : Nat
  /-- role -/
  role : Nat
  /-- node_id -/
  node : Nat
  /-- index -/
  idx : Nat
  /-- subindex -/
  sub : Nat
  /-- type code -/
  type : Nat
  /-- flags -/
  flags : Nat
  /-- epoch -/
  epoch : Nat
  /-- encoded length of the old value -/
  oldLen : Nat
  /-- encoded length of the new value -/
  newLen : Nat
  /-- old_value -/
  old : List Byte
  /-- new_value -/
  new : List Byte
  deriving DecidableEq, Repr

/-- Who writes: origin of R183, session slot or 255, role, node and epoch. -/
structure Writer where
  /-- origin code -/
  origin : Nat
  /-- session slot, 255 for none -/
  sess : Nat
  /-- role -/
  role : Nat
  /-- node_id -/
  node : Nat
  /-- epoch -/
  epoch : Nat
  deriving DecidableEq, Repr

/-- How a write is answered. -/
inductive Reply where
  /-- no response (the device itself) -/
  | silent
  /-- the mirror frame of this number has been applied, for the partner's acknowledgement (R694) -/
  | partner (seq : Nat)
  /-- WRITE_RESP with this request_id for one object -/
  | write (sess epoch req idx sub : Nat)
  /-- BATCH_RESP with this request_id and count; whether an entry lies in the mirrored data set -/
  | batch (sess epoch req count : Nat) (mirrored : Bool)
  /-- the service-call response of the integrator core for one object (R730) -/
  | integ (idx sub : Nat)
  deriving DecidableEq, Repr

/-- An accepted write whose response waits for durability and effect (R14, R148, R180). -/
structure Held where
  /-- number by which flash programs and pending values name it -/
  id : Nat
  /-- how it is answered -/
  reply : Reply
  /-- first change number -/
  change : Nat
  /-- a flash program is outstanding -/
  needFlash : Bool
  /-- planes and Beam Engine units on which a line value is not yet in effect, bits 0 to 5 -/
  rings : Nat
  /-- cameras on which a frame value is not yet armed, bits 0 to 3 -/
  cams : Nat
  /-- PLLs whose glide or relock is not yet done, bits 0 to 3 (R112, R114) -/
  plls : Nat
  /-- a reset sequence follows the response (R198, R725) -/
  reset : Bool
  deriving DecidableEq, Repr

/-- A pending value of Applies standby or restart (R13). -/
structure Pend where
  /-- object -/
  key : Nat
  /-- value -/
  val : OVal
  /-- 4 standby, 5 restart -/
  app : Nat
  /-- who wrote it -/
  who : Writer
  deriving DecidableEq, Repr

/-- One flash program in progress or waiting (R176, R180): values and records that become durable
together. -/
structure FlashOp where
  /-- the held response, if any -/
  held : Option Nat
  /-- values that take effect or have taken effect -/
  vals : List (Nat × OVal)
  /-- values that are pending (R13) -/
  pends : List Pend
  /-- records -/
  recs : List LogRec
  deriving DecidableEq, Repr

/-- A value of Applies line that waits for its ring's next line (R11, R12, R179). -/
structure LinePend where
  /-- ring: 0 to 3 for P0 to P3, 4 and 5 for BE0 and BE1 -/
  ring : Nat
  /-- object -/
  key : Nat
  /-- value -/
  val : OVal
  /-- held response -/
  held : Nat
  deriving DecidableEq, Repr

/-- A write that waits for the flush of the RAM ring (R185). -/
structure Deferred where
  /-- who writes -/
  who : Writer
  /-- true for a BATCH -/
  isBatch : Bool
  /-- the entries -/
  entries : List WEntry
  /-- how it is answered -/
  reply : Reply
  deriving DecidableEq, Repr

/-- The Change Log and what waits on flash. -/
structure LogSt where
  /-- records in flash, by rising change number (R181, R188) -/
  flash : List LogRec
  /-- RAM ring of the last 256 records that pass through it (R185) -/
  ring : List LogRec
  /-- how many of them are unflushed -/
  unflushed : Nat
  /-- records of a flush in progress, none while no flush runs -/
  flushing : Option Nat
  /-- next change number -/
  nextNum : Nat
  /-- writes that wait for the flush -/
  waiting : List Deferred
  /-- accepted writes whose response is held -/
  held : List Held
  /-- next number of a held response -/
  nextHeld : Nat
  /-- flash programs, oldest first -/
  program : List FlashOp
  deriving DecidableEq, Repr

/-- The object store: the values in force of the objects that have been set, by rising key
(`odKey`); the pending values of Applies line, standby and restart; and the durable copies (R175). -/
structure OdSt where
  /-- values in force -/
  vals : List (Nat × OVal)
  /-- values of Applies standby and restart that are pending (R13) -/
  pend : List Pend
  /-- values of Applies line that wait for a tick -/
  line : List LinePend
  /-- durable values in flash (R175) -/
  flash : List (Nat × OVal)
  /-- durable copies of pending values (R13, R189) -/
  kept : List Pend
  deriving DecidableEq, Repr

/-! ### Web position, line ticks and triggers (spec/02) -/

/-- One encoder input (R36 to R38, R84). -/
structure EncSt where
  /-- qualified level of A -/
  a : Bool
  /-- qualified level of B -/
  b : Bool
  /-- qualified level of Z -/
  z : Bool
  /-- count C -/
  count : Int
  /-- count modulo 4 less the quadrature state, from the last accepted edge (R53) -/
  phase : Int
  /-- instant and direction of recent edges, newest first (OD 16#300n.09) -/
  recent : List (Nat × Int)
  deriving DecidableEq, Repr

/-- The line grid and tick stream of a plane or Beam Engine unit (R61 to R65, R80). -/
structure Grid where
  /-- grid phase φ, in phase steps -/
  phi : Int
  /-- target φ' that φ moves towards (R65) -/
  target : Option Int
  /-- next line m whose tick position X has not reached -/
  nextLine : Int
  /-- instant of the last tick issued (R23) -/
  lastTick : Option Nat
  deriving DecidableEq, Repr

/-- A camera trigger output (R78, R79). -/
structure CamTrig where
  /-- CAM_TRIG level -/
  level : Bool
  /-- instant the last pulse began -/
  lastPulse : Option Nat
  deriving DecidableEq, Repr

/-- The Encoder Tracker and the outputs it places. Positions are exact fractions of a phase step, X in
them as R40 defines it. -/
structure WebSt where
  /-- the encoder inputs -/
  enc : Vector EncSt 4
  /-- count at which the position reference was taken (R39, R60) -/
  refCount : Int
  /-- its position -/
  refPos : Frac
  /-- high-water count -/
  chwm : Int
  /-- count R44 to R46 measure from while X is held after a break with J < 0 (R56) -/
  measure : Option Int
  /-- forward edges above the high-water mark, newest first: instant, count (R42) -/
  edges : List (Nat × Int)
  /-- edges in either direction that trigger stamps interpolate between, newest first (R68, R69) -/
  hist : List (Nat × Int)
  /-- v_edge as counts per nanoseconds: numerator -/
  veNum : Nat
  /-- v_edge: denominator -/
  veDen : Nat
  /-- v held while the count stands below the high-water mark within the hysteresis (R44) -/
  vBand : Option (Nat × Nat)
  /-- last edge interval in ns (R42) -/
  lastInterval : Nat
  /-- instant of the last accepted edge -/
  tEdge : Nat
  /-- X at the last update -/
  x : Frac
  /-- the position X follows, at the last update -/
  tgt : Frac
  /-- what X still lacks of it, slewed out at 1/16 of travel (R50, R55) -/
  slew : Frac
  /-- index reference (R59) -/
  zRef : Option Int
  /-- instants of the edges of a return being qualified, newest first (R52) -/
  ret : List Nat
  /-- instants of the edges of a reacquisition being qualified, newest first (R60) -/
  reacq : List Nat
  /-- entry to DEAD_RECKONING of the current or last coast -/
  coastFrom : Nat
  /-- grids of P0 to P3 -/
  planes : Vector Grid 4
  /-- grids of BE0 and BE1 -/
  beams : Vector Grid 2
  /-- tracker cycle of the last state change (R72) -/
  stCycle : Nat
  /-- tracker state at the start of that cycle (R72) -/
  stBefore : Nat
  /-- SPEED_ADV asserted (R67) -/
  speedAdv : Bool
  /-- stamp of the last accepted trigger per lane (R70) -/
  lastStamp : Vector (Option Int) 8
  /-- consecutive missing marks per mark input (R77) -/
  missRun : Vector Nat 4
  /-- camera trigger outputs -/
  cams : Vector CamTrig 4
  deriving DecidableEq, Repr

/-- An encoder input at reset: levels low, count 0. -/
def EncSt.reset : EncSt :=
  { a := false, b := false, z := false, count := 0, phase := 0, recent := [] }

/-- A grid at reset. -/
def Grid.reset : Grid := { phi := 0, target := none, nextLine := 0, lastTick := none }

/-- The tracker at reset: DISABLED, X and C_hwm 0 (R81, R87). -/
def WebSt.reset : WebSt :=
  { enc := Vector.replicate 4 EncSt.reset, refCount := 0, refPos := ⟨0, 1⟩, chwm := 0,
    measure := none, edges := [], hist := [], veNum := 0, veDen := 1, vBand := none, lastInterval := 0, tEdge := 0,
    x := ⟨0, 1⟩, tgt := ⟨0, 1⟩, slew := ⟨0, 1⟩, zRef := none, ret := [], reacq := [],
    coastFrom := 0, planes := Vector.replicate 4 Grid.reset,
    beams := Vector.replicate 2 Grid.reset, stCycle := 0, stBefore := 0, speedAdv := false,
    lastStamp := Vector.replicate 8 none, missRun := Vector.replicate 4 0,
    cams := Vector.replicate 4 ⟨false, none⟩ }

/-! ### Lanes, items and the Item Ledger (spec/06) -/

/-- A queued item record (R205, R206). -/
structure ItemRec where
  /-- record_number -/
  num : Nat
  /-- flags [0] inspect_required -/
  inspect : Bool
  /-- mould number -/
  mould : Nat
  /-- item_tag -/
  tag : Nat
  /-- field entries: field number and value -/
  fields : List (Nat × List Byte)
  /-- pre-resolution has been started for it (R248) -/
  pre : Bool
  deriving DecidableEq, Repr

/-- The lines of an item on one ring: grid line of its line 0, and how many lines it has (R64). -/
structure RingSpan where
  /-- grid line m_p -/
  first : Int
  /-- lines of the mould -/
  count : Nat
  /-- snap error, −32 to 32 phase steps -/
  snap : Int
  deriving DecidableEq, Repr

/-- One camera's result for an item, or for a test bar (R451): the 48 bytes, and the outcome. -/
structure CamResult where
  /-- item_sequence -/
  item : Nat
  /-- camera -/
  cam : Nat
  /-- camera_verdict, coded as R222: 1 PASS, 2 FAIL, 3 NOT_SEEN -/
  outcome : Nat
  /-- the result as stored (R451) -/
  bytes : List Byte
  deriving DecidableEq, Repr

/-- An item from the acceptance of its trigger on (R212 to R224). The list of items holds those in
flight and the last 65 536 closed ones, which are the history of R224. -/
structure Item where
  /-- item_sequence -/
  seq : Nat
  /-- record_number, 0 for UNMARKED_UNBOUND -/
  recNum : Nat
  /-- item_tag -/
  tag : Nat
  /-- lane -/
  lane : Nat
  /-- mould number, 16#FFFF for UNMARKED_UNBOUND -/
  mould : Nat
  /-- in-flight slot while BOUND, PRINTING or DRAINING (R215) -/
  slot : Option Nat
  /-- state: 1 BOUND, 2 PRINTING, 3 DRAINING, 4 CLOSED (R214) -/
  state : Nat
  /-- disposition (R217), none before it is recorded -/
  disp : Option Nat
  /-- reason (R218) -/
  reason : Nat
  /-- verdict (R222): 0 PENDING, 1 PASS, 2 FAIL, 3 NOT_SEEN -/
  verdict : Nat
  /-- flag [0] dead reckoning -/
  fDr : Bool
  /-- flag [1] a line fired -/
  fPartial : Bool
  /-- degrade flag of suppression (R219) -/
  degSupp : Bool
  /-- degrade flag of a registration break (R57) -/
  degBreak : Bool
  /-- flag [4] closed from the hold-up record -/
  fHoldup : Bool
  /-- flag [5] reject pulse issued -/
  fReject : Bool
  /-- flag [6] inspect_required -/
  inspect : Bool
  /-- drops suppressed, saturating (R223) -/
  dropsSupp : Nat
  /-- suppressed drops that count towards the limit of R425 -/
  dropsLimit : Nat
  /-- X_item (R73) -/
  xItem : Int
  /-- TIME64 of the stamp -/
  trigTime : Nat
  /-- TIME64 of the disposition -/
  closeTime : Nat
  /-- TIME64 of the verdict -/
  verdictTime : Nat
  /-- tracker cycle in which the disposition was recorded (R220) -/
  closeCycle : Nat
  /-- values of Applies item in force at the binding (R11, R213), by key -/
  snap : List (Nat × OVal)
  /-- lines on P0 to P3, BE0 and BE1 -/
  spans : Vector (Option RingSpan) 6
  /-- lines fired per ring -/
  fired : Vector Nat 6
  /-- last line per ring whose tick position X has passed, as a count of the item's lines passed -/
  passed : Vector Nat 6
  /-- a line was fired in the current coast (R57) -/
  coastFired : Bool
  /-- the trigger was stamped in the current coast (R58) -/
  coastStamp : Bool
  /-- mould version pinned (R236) -/
  mouldId : Option Nat
  /-- glyph set versions pinned: set number and version -/
  glyphIds : List (Nat × Nat)
  /-- a composition error has taken effect on it (R279) -/
  compErr : Bool
  /-- resolved text per field (R246) -/
  resolved : List (Nat × List Byte)
  /-- the record's field entries, held until the verdict (R213) -/
  fields : List (Nat × List Byte)
  /-- cameras that serve it, fixed at its binding (R452) -/
  servCams : List Nat
  /-- cameras whose trigger for the item has been issued or skipped (R78, R79) -/
  camDone : List Nat
  /-- cameras reported as not capturing the item (R79) -/
  camMissed : List Nat
  /-- reject gates that have decided (R226) -/
  gateDone : List Nat
  /-- mark inputs whose mark has paired or passed (R75, R77) -/
  markDone : List Nat
  /-- planes whose static layer a Q0 job has decoded to its end (R290, R308) -/
  layerRun : List Nat
  deriving DecidableEq, Repr

/-- A reject gate output (R226, R227). -/
structure RejGate where
  /-- REJ_GATE level -/
  level : Bool
  /-- end of the pulse in progress -/
  pulseEnd : Nat
  deriving DecidableEq, Repr

/-- Lanes and items. -/
structure LaneSt where
  /-- lane queues, head first (R210) -/
  queues : Vector (List ItemRec) 8
  /-- the depth is below queue_low_mark, as at its last change or the last write of the mark (R210) -/
  lowSent : Vector Bool 8
  /-- items in flight and the history, oldest first -/
  items : List Item
  /-- camera results, oldest first, at most 65 536 (R486) -/
  results : List CamResult
  /-- reject gate outputs -/
  gates : Vector RejGate 4
  deriving DecidableEq, Repr

/-- One entry of the state journal (R660): the retained values it records, as they stand after the step
it records, and the item it names. -/
structure JEnt where
  /-- entry number -/
  num : Nat
  /-- retained values, by key -/
  sets : List (Nat × OVal)
  /-- the item as the entry records it -/
  item : Option Item
  deriving DecidableEq, Repr

/-- The state journal and the state checkpoint (R660). -/
structure Journal where
  /-- next entry number -/
  next : Nat
  /-- entries not yet programmed, oldest first -/
  pending : List JEnt
  /-- entries programmed since the checkpoint, oldest first -/
  flash : List JEnt
  /-- retained values of the last state checkpoint -/
  ckpt : List (Nat × OVal)
  /-- in-flight items of the last state checkpoint -/
  ckptItems : List Item
  deriving DecidableEq, Repr

/-- The journal at the first power-on: empty. -/
def Journal.reset : Journal := { next := 1, pending := [], flash := [], ckpt := [], ckptItems := [] }

/-- Lanes at reset: empty queues, no item (R208, R224). -/
def LaneSt.reset : LaneSt :=
  { queues := Vector.replicate 8 [], lowSent := Vector.replicate 8 true, items := [], results := [],
    gates := Vector.replicate 4 ⟨false, 0⟩ }

/-! ### Compositor (spec/07) -/

/-- A version of a mould or glyph set in the resource store (R235 to R238). -/
structure ResVer where
  /-- the model's own number of the version -/
  id : Nat
  /-- mould or set number -/
  num : Nat
  /-- content as committed -/
  bytes : List Byte
  /-- tracker cycle in which the commit took effect -/
  fromCyc : Nat
  /-- tracker cycle in which it was superseded or deleted -/
  untilCyc : Option Nat
  /-- TIME64 of the commit -/
  time : Nat
  deriving DecidableEq, Repr

/-- A symbol waiting for an engine or being encoded (R266). -/
structure SymJob where
  /-- true for a binding-dependent symbol, which engine 0 takes -/
  bound : Bool
  /-- item_sequence of a bound item, or record number of a queued one -/
  owner : Nat
  /-- lane -/
  lane : Nat
  /-- field number -/
  field : Nat
  /-- instant its encoding started -/
  started : Nat
  deriving DecidableEq, Repr

/-- A test bar being couched, printed or awaited on a plane (R455 to R458). -/
structure BarJob where
  /-- bar number -/
  number : Nat
  /-- row group printed -/
  row : Nat
  /-- first line of the leading guard -/
  first : Int
  /-- lines of each guard -/
  guard : Nat
  /-- dash lines of each row -/
  dash : Nat
  /-- gap lines between rows -/
  gap : Nat
  /-- rows -/
  rows : Nat
  /-- level -/
  level : Nat
  /-- first column -/
  left : Nat
  /-- columns -/
  width : Nat
  /-- cameras that see it -/
  cams : Nat
  /-- camera offset in phase steps -/
  offset : Int
  /-- web speed in µm/s at the tick of its first line (R464) -/
  speed : Nat
  /-- cameras triggered for it -/
  camDone : List Nat
  /-- cameras whose frame has been evaluated -/
  evaluated : List Nat
  deriving DecidableEq, Repr

/-- The Compositor's state that no object holds. -/
structure CompSt where
  /-- mould versions -/
  moulds : List ResVer
  /-- glyph set versions -/
  glyphs : List ResVer
  /-- next version number -/
  nextId : Nat
  /-- symbols waiting, oldest first -/
  symQueue : List SymJob
  /-- lane that pre-resolution served last (R266) -/
  preLane : Nat
  /-- the two engines -/
  engines : Vector (Option SymJob) 2
  /-- a ring waits for its look-ahead to fall below the resume gap (R272) -/
  full : Vector Bool 6
  deriving DecidableEq, Repr

/-- The Compositor at reset: an empty resource store (R281, R285). -/
def CompSt.reset : CompSt :=
  { moulds := [], glyphs := [], nextId := 1, symQueue := [], preLane := 7, engines := Vector.replicate 2 none,
    full := Vector.replicate 6 false }

/-! ### Firing channels and head links (spec/11) -/

/-- The counts of one nozzle (R427), keyed by plane times 65 536 plus column. -/
structure Nozzle where
  /-- drops fired, in the counter table -/
  fired : Nat
  /-- drops suppressed, in the counter table -/
  supp : Nat
  /-- fired since the last accumulation (R427); a REJECT can make it negative -/
  newFired : Int
  /-- suppressed since the last accumulation -/
  newSupp : Int
  /-- tick instant t_f of the last fired or spit drop (R424) -/
  lastAt : Option Nat
  /-- level of that drop -/
  lastLevel : Nat
  /-- lines of the plane ticked when it fired (R413) -/
  lastCount : Nat
  deriving DecidableEq, Repr

/-- Counts of one channel since its last accumulation (R427). -/
structure ChanAcc where
  /-- drops demanded -/
  demanded : Nat
  /-- drops fired -/
  fired : Int
  /-- drops suppressed by reason 1 to 6 (R426), first at 0 -/
  supp : Vector Nat 6
  /-- spit drops -/
  spit : Nat
  /-- drops lowered to the clamp -/
  clamped : Nat
  deriving DecidableEq, Repr

/-- A line a plane has fetched, as it stands in the framer (R377, R386). -/
structure HeldLine where
  /-- line index -/
  n : Int
  /-- the plane was firing at the fetch (R416) -/
  firing : Bool
  /-- data late (R422) -/
  late : Bool
  /-- demanded drops: column and level after the map and the clamp (R377) -/
  drops : List (Nat × Nat)
  /-- columns suppressed by the recharge check (R424) -/
  recharge : List Nat
  /-- columns with a spit drop (R413) -/
  spit : List Nat
  /-- spit level -/
  spitLevel : Nat
  /-- waveform slot of the line's band (R410) -/
  slot : Nat
  /-- preheat_scale (R412) -/
  preheat : Nat
  /-- IDLE_WAVE (R412) -/
  idleWave : Bool
  /-- links whose channels hold the line, bits 0 to 11 -/
  links : Nat
  /-- segments whose channels were FIRING at the fetch, or READY on a plane that does not fire -/
  up : List Nat
  /-- nonzero levels lowered to the clamp, by segment -/
  clamped : List (Nat × Nat)
  /-- a gap line of a switchover (R698): it carries nothing -/
  gap : Bool
  deriving DecidableEq, Repr

/-- A line whose FIRE was sent, kept for the REJECT that may come (R398). -/
structure FlownLine where
  /-- line index -/
  n : Int
  /-- columns fired, with their level -/
  drops : List (Nat × Nat)
  /-- item_sequence of each owning item -/
  owners : List Nat
  deriving DecidableEq, Repr

/-- A WAVE_WRITE or TRIM_WRITE that waits for its ACK (R396). -/
structure CtlOut where
  /-- control_seq -/
  seq : Nat
  /-- waveform slot, none for a TRIM_WRITE -/
  slot : Option Nat
  /-- block of a TRIM_WRITE -/
  block : Nat
  /-- first nozzle position of a TRIM_WRITE -/
  first : Nat
  /-- bank of a TRIM_WRITE -/
  bank : Nat
  deriving DecidableEq, Repr

/-- One head link (R381 to R406). -/
structure LinkSt where
  /-- parts of the identity block received so far, oldest first: offset and bytes -/
  asm : List (Nat × List Byte)
  /-- accepted identity block, empty while none is held -/
  block : List Byte
  /-- serial of the last accepted block (R405) -/
  serial : List Byte
  /-- head_boot of the last STATUS (R399) -/
  headBoot : Option Nat
  /-- REJECT frames received since it changed -/
  rejects : Nat
  /-- FIREs sent since it changed -/
  fires : Nat
  /-- fires_done of the last STATUS -/
  done : Nat
  /-- writes that wait for their ACK -/
  waiting : List CtlOut
  /-- waveform slots the head has acknowledged -/
  slots : List Nat
  /-- next control_seq -/
  ctlSeq : Nat
  /-- trim bank in use (R406) -/
  bank : Nat
  /-- pair_epoch_selected of the last STATUS (R388) -/
  epochSel : Option Nat
  /-- consecutive STATUS frames whose pair_epoch_selected differs from the device's own (R702) -/
  misEpoch : Nat
  deriving DecidableEq, Repr

/-- Firing channels, gates and the drop counters that no object holds. -/
structure FireSt where
  /-- nozzles that differ from a fresh one -/
  nozzles : List (Nat × Nozzle)
  /-- channel counts that wait to be accumulated -/
  acc : List (Nat × ChanAcc)
  /-- line fetched by each plane for its next tick -/
  line : Vector (Option HeldLine) 4
  /-- lines that a REJECT can still name, newest first -/
  flown : Vector (List FlownLine) 4
  /-- lines each plane has ticked since reset, for the spit interval (R413) -/
  ticked : Vector Nat 4
  /-- rings whose look-ahead is low, P0 to P3, BE0 and BE1 (R421) -/
  low : Vector Bool 6
  /-- resolved lines of a standby that wait for a heartbeat's last_fired (R695): plane and line -/
  shadow : List (Nat × HeldLine)
  /-- head links -/
  links : Vector LinkSt 48
  /-- lines held while closed, by gate (R430) -/
  gateHeld : Vector Nat 10
  /-- nozzle counters of the last drop checkpoint in flash: fired and suppressed (R428) -/
  ckptNozzles : List (Nat × Nat × Nat)
  /-- channel counters of the last drop checkpoint in flash -/
  ckptVals : List (Nat × OVal)
  deriving DecidableEq, Repr

/-- A fresh nozzle. -/
def Nozzle.fresh : Nozzle :=
  { fired := 0, supp := 0, newFired := 0, newSupp := 0, lastAt := none, lastLevel := 0, lastCount := 0 }

/-- No counts. -/
def ChanAcc.zero : ChanAcc :=
  { demanded := 0, fired := 0, supp := Vector.replicate 6 0, spit := 0, clamped := 0 }

/-- A link at reset. -/
def LinkSt.reset : LinkSt :=
  { asm := [], block := [], serial := [], headBoot := none, rejects := 0, fires := 0,
    done := 0, waiting := [], slots := [], ctlSeq := 1, bank := 0, epochSel := none, misEpoch := 0 }

/-- The firing part at reset. -/
def FireSt.reset : FireSt :=
  { nozzles := [], acc := [], line := Vector.replicate 4 none, flown := Vector.replicate 4 [],
    ticked := Vector.replicate 4 0, low := Vector.replicate 6 false, shadow := [], links := Vector.replicate 48 LinkSt.reset,
    gateHeld := Vector.replicate 10 0, ckptNozzles := [], ckptVals := [] }


/-! ### Inspection and live nozzle compensation (spec/12) -/

/-- A switch group of a staging (R467): the staged nozzles whose neighbourhoods meet the same set of
deckles. -/
structure MapGroup where
  /-- the model's own number of the group -/
  id : Nat
  /-- plane -/
  plane : Nat
  /-- staged entries by column -/
  entries : List (Nat × Nat)
  /-- enabled lanes whose deckles meet it: the set S -/
  lanes : List Nat
  /-- its staging is complete (R469) -/
  complete : Bool
  /-- instant of detection T_d, none for a written change -/
  det : Option Nat
  /-- line_index of the plane at T_d -/
  detLine : Int
  /-- links on which the group changes a trim and the TRIM_WRITEs are not yet sent (R470) -/
  trimDue : List Nat
  /-- links whose TRIM_WRITEs have been sent and wait for their ACK -/
  trimOut : List Nat
  /-- links whose bank flips at the switch -/
  flips : List Nat
  /-- counted in groups_waiting and pushed (R469) -/
  counted : Bool
  deriving DecidableEq, Repr

/-- The Inspection Unit and the compensation map. -/
structure InspSt where
  /-- test bars being couched, printed or awaited: plane and bar, oldest first -/
  bars : List (Nat × BarJob)
  /-- bar number given last (R458) -/
  barCount : Nat
  /-- instant of the last bar start per plane (R456) -/
  lastBar : Vector (Option Nat) 4
  /-- a streak request is pending per plane (R461) -/
  streak : Vector Bool 4
  /-- plane whose turn came last (R456) -/
  turn : Nat
  /-- map entries in force that differ from the identity entry, by nozzle key (R462) -/
  force : List (Nat × Nat)
  /-- switch groups that wait (R467) -/
  groups : List MapGroup
  /-- next group number -/
  nextGroup : Nat
  /-- class of the last evaluation and how often it has come in a row, by nozzle key (R460) -/
  runs : List (Nat × Nat × Nat)
  /-- segments in which disable_limit has refused a change (R465), by plane times 64 plus segment -/
  limited : List Nat
  /-- map of each plane in flash (R473) -/
  saved : Vector (List (Nat × Nat)) 4
  /-- serial of each link's head with that map -/
  savedSerial : Vector (List Byte) 48
  deriving DecidableEq, Repr

/-- The Inspection Unit at reset: identity maps, no bar. -/
def InspSt.reset : InspSt :=
  { bars := [], barCount := 0, lastBar := Vector.replicate 4 none, streak := Vector.replicate 4 false,
    turn := 3, force := [], groups := [], nextGroup := 1, runs := [], limited := [],
    saved := Vector.replicate 4 [], savedSerial := Vector.replicate 48 [] }


/-! ### Cameras and the image pipeline (spec/13) -/

/-- A pending trigger of a port (R493). -/
structure CamPend where
  /-- trigger kind: 1 item, 2 bar (R516) -/
  kind : Nat
  /-- item_sequence or bar number -/
  ident : Nat
  /-- pulse instant -/
  pulse : Nat
  /-- exposure start -/
  expose : Nat
  deriving DecidableEq, Repr

/-- A settings set of a camera (R499). -/
structure CamSet where
  /-- settings_set_id -/
  id : Nat
  /-- instant it was armed -/
  armed : Nat
  /-- instant from which its list was sent, none when nothing was sent (R501) -/
  sendFrom : Option Nat
  /-- values of the camera's frame objects that differ from the dictionary's -/
  vals : List (Nat × OVal)
  deriving DecidableEq, Repr

/-- A settings set that waits for its sensor list to be sent and acknowledged (R500). -/
structure CamSetWait where
  /-- settings_set_id -/
  id : Nat
  /-- instant of its first write -/
  since : Nat
  /-- its values -/
  vals : List (Nat × OVal)
  /-- numbers of the writes that wait for it -/
  writes : List Nat
  /-- no sensor window has occurred within 100 ms (R501) -/
  late : Bool
  /-- instant from which the list is being sent -/
  sendFrom : Option Nat
  deriving DecidableEq, Repr

/-- A received line: 12-bit samples, cut to width_px and not padded, and whether it is valid (R510, R517);
a line of an INSP frame likewise. -/
structure CamLine where
  /-- samples -/
  px : List Nat
  /-- validity bit -/
  valid : Bool
  deriving DecidableEq, Repr

/-- A frame being received (R493, R516, R517). -/
structure CamFrame where
  /-- the trigger it is paired with -/
  trig : CamPend
  /-- frame_sequence -/
  seq : Nat
  /-- CSI-2 frame number -/
  num : Nat
  /-- instant of the Frame Start -/
  start : Nat
  /-- set that governs it (R503) -/
  setId : Nat
  /-- values of that set -/
  vals : List (Nat × OVal)
  /-- flagged SETTINGS_TORN -/
  torn : Bool
  /-- lines within height_lines, newest first -/
  lines : List CamLine
  /-- lines received in all -/
  received : Nat
  /-- shortest and longest line received -/
  minPx : Nat
  /-- longest line -/
  maxPx : Nat
  /-- corrupt lines -/
  corrupt : Nat
  /-- flags of R516 met so far -/
  flags : Nat
  /-- first line that VIEW drops, once it drops the remainder (R517) -/
  viewCut : Option Nat
  /-- lines received that were longer than width_px -/
  long : Nat
  deriving DecidableEq, Repr

/-- A frame of the INSP stream in its slot (R510): metadata, lines and validity. -/
structure InspFrame where
  /-- the 64-byte metadata -/
  metadata : List Byte
  /-- trigger kind -/
  kind : Nat
  /-- item_sequence or bar number -/
  ident : Nat
  /-- frame_sequence -/
  seq : Nat
  /-- settings_set_id -/
  setId : Nat
  /-- values of that set -/
  vals : List (Nat × OVal)
  /-- lines -/
  lines : List CamLine
  deriving DecidableEq, Repr

/-- An ARCH frame in a raw slot, until its JLS_ENCODE job ends (R512). -/
structure ArchRaw where
  /-- camera -/
  cam : Nat
  /-- item_sequence -/
  item : Nat
  /-- metadata -/
  metadata : List Byte
  /-- sample bits -/
  bits : Nat
  /-- samples -/
  lines : List (List Nat)
  deriving DecidableEq, Repr

/-- A part of an archive image (R513): camera, metadata, original CRC and stream; no stream when it was not
stored. -/
structure ArchPart where
  /-- camera -/
  cam : Nat
  /-- metadata -/
  metadata : List Byte
  /-- original_crc -/
  crc : Nat
  /-- JPEG-LS stream -/
  stream : List Byte
  /-- the camera's ARCH stream was on (R512) -/
  wanted : Bool
  deriving DecidableEq, Repr

/-- One camera port. -/
structure CamSt where
  /-- pending triggers, oldest first -/
  queue : List CamPend
  /-- frame being received; none between frames and through an unsolicited frame -/
  frame : Option CamFrame
  /-- CSI-2 number of the last paired frame (R494) -/
  lastNum : Option Nat
  /-- triggers issued since that frame -/
  since : Nat
  /-- armed sets, newest first -/
  sets : List CamSet
  /-- id given last -/
  lastSet : Nat
  /-- set that waits to be armed -/
  wait : Option CamSetWait
  /-- CAM_RST_N level -/
  rst : Bool
  /-- INSP slots, newest first, at most 2 -/
  insp : List InspFrame
  /-- previous VIEW-path frame, for temporal noise reduction (R507); empty after a restart -/
  prev : List (List Nat)
  /-- set of that frame -/
  prevSet : Nat
  /-- sensor registers the device has read or written, as the bus carried them -/
  bus : List (Nat × Nat)
  deriving DecidableEq, Repr

/-- A write that waits for sensor lists (R500, R502). -/
structure CamWrite where
  /-- number by which settings sets name it -/
  id : Nat
  /-- the write -/
  what : Deferred
  /-- cameras whose list has yet to be acknowledged, bits 0 to 3 -/
  cams : Nat
  /-- cameras whose list the write changes, bits 0 to 3 -/
  need : Nat
  deriving DecidableEq, Repr

/-- The image pipeline. -/
structure ImgSt where
  /-- ports -/
  cams : Vector CamSt 4
  /-- raw slots in use, oldest first -/
  raw : List ArchRaw
  /-- parts of images not yet assembled: item and part -/
  parts : List (Nat × ArchPart)
  /-- archive images held, oldest first: item and image -/
  store : List (Nat × List Byte)
  /-- writes that wait for sensor lists, oldest first -/
  writes : List CamWrite
  /-- number of the next of them -/
  nextWrite : Nat
  deriving DecidableEq, Repr

/-- A port at reset (R490, R496, R499). -/
def CamSt.reset : CamSt :=
  { queue := [], frame := none, lastNum := none, since := 0, sets := [], lastSet := 0, wait := none,
    rst := false, insp := [], prev := [], prevSet := 0, bus := [] }

/-- The pipeline at reset. -/
def ImgSt.reset : ImgSt :=
  { cams := Vector.replicate 4 CamSt.reset, raw := [], parts := [], store := [], writes := [],
    nextWrite := 1 }


/-! ### Beam Engine (spec/14) -/

/-- A line selected for a facet, or being scanned (R534, R539). -/
structure ScanLine where
  /-- line -/
  n : Int
  /-- scan pixels with a nonzero level, by rising scan position: position and level (R529) -/
  pixels : List (Nat × Nat)
  /-- held by a gate (R540) -/
  held : Bool
  /-- data late (R536) -/
  late : Bool
  /-- owning items -/
  owners : List Nat
  /-- power values of levels 1 to 3 (R538) -/
  power : Nat × Nat × Nat
  /-- emission is held low through the whole scan by R528 -/
  dark : Bool
  /-- instant of the beam detect of its facet, in half nanoseconds; 0 before -/
  at2 : Nat
  deriving DecidableEq, Repr

/-- One Beam Engine unit. -/
structure BeamUnit where
  /-- LASER_EN -/
  laserEn : Bool
  /-- LASER_ILK_N is low (R528) -/
  ilkLow : Bool
  /-- beam-detect instants in half nanoseconds, newest first (R531, R532) -/
  bd : List Nat
  /-- consecutive intervals within the tolerance (R532) -/
  good : Nat
  /-- consecutive intervals outside it -/
  bad : Nat
  /-- line selected for the next facet -/
  next : Option ScanLine
  /-- line being scanned -/
  scan : Option ScanLine
  deriving DecidableEq, Repr

/-- The Beam Engine. -/
structure BeamSt where
  /-- BE0 and BE1 -/
  units : Vector BeamUnit 2
  /-- scans of a standby that wait for a heartbeat's last_fired (R695): unit, line, pixels, emitted -/
  shadow : List (Nat × Int × Nat × Bool)
  deriving DecidableEq, Repr

/-- A unit at reset: OFF. -/
def BeamUnit.reset : BeamUnit :=
  { laserEn := false, ilkLow := false, bd := [], good := 0, bad := 0, next := none, scan := none }

/-- The Beam Engine at reset. -/
def BeamSt.reset : BeamSt := { units := Vector.replicate 2 BeamUnit.reset, shadow := [] }


/-! ### Codec (spec/08) and DMA engine (spec/10) -/

/-- The decoder of KRF between two tokens (R299 to R301), as the compositor and the codec keep it. -/
structure KrfSt where
  /-- pixels written on the current line -/
  line : List Nat
  /-- nothing has been written on the current line -/
  atStart : Bool
  /-- the line above -/
  above : List Nat
  /-- lines completed -/
  lines : Nat
  /-- a LIT ran over the line end with level 0: the next token must end the line (R301) -/
  mustEnd : Bool
  /-- END has been read, or, of an encoder, written -/
  ended : Bool
  deriving DecidableEq, Repr

/-- A codec job: its descriptor's fields and how far it has come (R293, R311). -/
structure CodecJob where
  /-- op -/
  op : Nat
  /-- CHECK_CRC -/
  check : Bool
  /-- sample_bits -/
  bits : Nat
  /-- width_px -/
  width : Nat
  /-- height_lines -/
  height : Nat
  /-- job_tag -/
  tag : Nat
  /-- expected_crc -/
  crc : Nat
  /-- context_addr, 0 for none -/
  ctx : Nat
  /-- input_addr -/
  inAddr : Nat
  /-- input_length -/
  inLen : Nat
  /-- output_addr -/
  outAddr : Nat
  /-- output_length -/
  outLen : Nat
  /-- status the job ends with before any access: DESC_INVALID, CONTEXT or BUS_ERROR -/
  bad : Option Nat
  /-- input bytes consumed in all -/
  consumed : Nat
  /-- output bytes written in all -/
  produced : Nat
  /-- lines completed -/
  lines : Nat
  /-- CRC-32C register over the original so far (R307) -/
  reg : Nat
  /-- coder state of KRF -/
  krf : KrfSt
  /-- output that waits -/
  pend : List Byte
  /-- input of the line in progress (KRF_ENCODE), or every input byte so far (JPEG-LS) -/
  part : List Byte
  deriving DecidableEq, Repr

/-- A context area written by a stop (R311). -/
structure CodecCtx where
  /-- its address as a device address -/
  addr : Nat
  /-- the model's number of the save -/
  num : Nat
  /-- the job as it stood -/
  job : CodecJob
  deriving DecidableEq, Repr

/-- The register block of a queue Q2 or Q3 (R292). -/
structure CodecQueue where
  /-- DESC_BASE -/
  descBase : Nat
  /-- DESC_COUNT -/
  descCount : Nat
  /-- DOORBELL -/
  doorbell : Nat
  /-- CONSUMER -/
  consumer : Nat
  /-- DONE -/
  done : Nat
  /-- CPL_BASE -/
  cplBase : Nat
  /-- CONTROL [0] -/
  enable : Bool
  /-- CONTROL [2] -/
  irqEach : Bool
  /-- interrupts raised on completions -/
  irqs : Nat
  deriving DecidableEq, Repr

/-- One codec instance: its Q2 and Q3, and the descriptor job that runs, with its queue (0 for Q2, 1 for
Q3). -/
structure CodecInst where
  /-- Q2 and Q3 -/
  queues : Vector CodecQueue 2
  /-- the running job -/
  running : Option (Nat × CodecJob)
  deriving DecidableEq, Repr

/-- One DMA channel (R359). -/
structure DmaChan where
  /-- HEAD -/
  head : Nat
  /-- BUDGET -/
  budget : Nat
  /-- STATUS [7:0] -/
  state : Nat
  /-- STATUS [8] -/
  ecc : Bool
  /-- STATUS [31:16] -/
  tag : Nat
  /-- CONTROL [0] -/
  stopReq : Bool
  /-- CONTROL [1] -/
  irqEnd : Bool
  /-- CUR_DESC -/
  cur : Nat
  /-- BYTES_DONE -/
  bytes : Nat
  /-- TOTAL_BYTES -/
  total : Nat
  /-- DESC_DONE -/
  descs : Nat
  /-- DOORBELL_ERRORS -/
  errors : Nat
  /-- descriptors started since the last START or RESUME -/
  started : Nat
  /-- the descriptor named by CUR_DESC has been started (R364) -/
  begun : Bool
  /-- what the last STATUS read of the management core and of the integrator core latched: CUR_DESC,
  BYTES_DONE, TOTAL_BYTES, DESC_DONE -/
  latched : Vector (Nat × Nat × Nat × Nat) 2
  /-- interrupts raised to the owner -/
  irqs : Nat
  deriving DecidableEq, Repr

/-- The Codec and the DMA engine. -/
structure MoverSt where
  /-- codec instances -/
  codec : Vector CodecInst 4
  /-- context areas as stops left them -/
  ctxs : List CodecCtx
  /-- number of the next save -/
  nextCtx : Nat
  /-- DMA channels -/
  dma : Vector DmaChan 16
  /-- a bus timeout being drained: address, map code, TIME64 (R366) -/
  drain : Option (Nat × Nat × Nat)
  deriving DecidableEq, Repr

/-- A queue at reset (R292 gives no reset values: assumption log). -/
def CodecQueue.reset : CodecQueue :=
  { descBase := 0, descCount := 16, doorbell := 0, consumer := 0, done := 0, cplBase := 0, enable := false,
    irqEach := false, irqs := 0 }

/-- An instance at reset: idle. -/
def CodecInst.reset : CodecInst := { queues := Vector.replicate 2 CodecQueue.reset, running := none }

/-- A channel at reset: IDLE, with the budget of chain_budget_default (R359, R361, R374). -/
def DmaChan.reset : DmaChan :=
  { head := 0, budget := 65535, state := 0, ecc := false, tag := 0, stopReq := false, irqEnd := false,
    cur := 0, bytes := 0, total := 0, descs := 0, errors := 0, started := 0, begun := false,
    latched := Vector.replicate 2 (0, 0, 0, 0), irqs := 0 }

/-- Codec and DMA at reset. -/
def MoverSt.reset : MoverSt :=
  { codec := Vector.replicate 4 CodecInst.reset, ctxs := [], nextCtx := 1,
    dma := Vector.replicate 16 DmaChan.reset, drain := none }


/-! ### Memories (spec/09) -/

/-- The bytes of the device address map (R346) that differ from what an unlisted address reads as, by
rising address: Couch Store, management SRAM, integrator SRAM and the DRAM logical space. -/
structure MemSt where
  /-- listed bytes -/
  cells : List Host.Cell
  deriving DecidableEq, Repr

/-- Memories at reset: nothing listed (R329; assumption log). -/
def MemSt.reset : MemSt := { cells := [] }

/-! ### Motor axes (spec/15) -/

/-- One axis. -/
structure Axis where
  /-- the fault that braking ends in (R565), 0 for none -/
  pend : Nat
  /-- power stage: 0 all switches off, 1 all low sides on, 2 PWM, 3 zero-vector probes -/
  power : Nat
  /-- all six switches are off for the rest of the period: DRV_FLT_N, or the current limit of R565 -/
  cut : Bool
  /-- high-side on-intervals of the period in progress, in ns (R551) -/
  duty : Nat × Nat × Nat
  /-- duties computed in this period, for the next one -/
  next : Option (Nat × Nat × Nat)
  /-- an FOC step is due by the next boundary -/
  due : Bool
  /-- phase samples of the last window, in mA -/
  amps : Int × Int × Int
  /-- phases whose sample is valid (R555), bits 0 to 2 -/
  valid : Nat
  /-- consecutive predicted periods -/
  predRun : Nat
  /-- consecutive deadline misses (R571) -/
  missRun : Nat
  /-- consecutive periods whose residual exceeds the limit (R559) -/
  residRun : Nat
  /-- the constant has been abnormal since this instant (R560) -/
  keFrom : Option Nat
  /-- speed reference in 10^-11 rpm -/
  ref : Int
  /-- instant up to which it has ramped -/
  refAt : Nat
  /-- q-current reference in mA (R557) -/
  iqRef : Int
  /-- instant of the last change of state -/
  since : Nat
  /-- encoder offset in 1/65 536 turn, none before the first start after an enable (R561, R566) -/
  encOff : Option Nat
  deriving DecidableEq, Repr

/-- An axis at reset: DISABLED, all switches off. -/
def Axis.reset : Axis :=
  { pend := 0, power := 0, cut := false, duty := (0, 0, 0), next := none, due := false, amps := (0, 0, 0),
    valid := 7, predRun := 0, missRun := 0, residRun := 0, keFrom := none, ref := 0, refAt := 0, iqRef := 0,
    since := 0, encOff := none }


/-! ### Control loops, inputs and thermal management (spec/16) -/

/-- What no object holds of a loop: histories in Q3.28, newest first (R585). -/
structure LoopSt where
  /-- e[k−1], e[k−2], e[k−3] -/
  e : List Int
  /-- y[k−1], y[k−2], y[k−3], as limited -/
  y : List Int
  /-- output in force: y in Q3.28 -/
  out : Int
  /-- consecutive misses -/
  missRun : Nat
  deriving DecidableEq, Repr

/-- A PULSE_IN input (R584). -/
structure PulseSt where
  /-- instant of the last qualified rising edge, in 10 ns; none before the first after reset or a timeout -/
  last : Option Nat
  deriving DecidableEq, Repr

/-- A temperature sensor: TS0 to TS15, TD0 to TD7 (R597, R603). -/
structure Sensor where
  /-- consecutive faulty measurements -/
  bad : Nat
  /-- consecutive good ones while in sensor fault -/
  good : Nat
  /-- consecutive samples at or above shutdown_limit -/
  hot : Nat
  /-- excess fraction r in 10^-11 (R599) -/
  r : Nat
  deriving DecidableEq, Repr

/-- A throttling target: P0 to P3, and the die (R600, R601). -/
structure Throttle where
  /-- r in force, in 10^-11 -/
  r : Nat
  /-- instant of its last update -/
  at_ : Nat
  deriving DecidableEq, Repr

/-- Axes, loops, inputs and thermal management. -/
structure CtlSt where
  /-- AX0 to AX5 -/
  axes : Vector Axis 6
  /-- L0 to L31 -/
  loops : Vector LoopSt 32
  /-- PULSE_IN0 to PULSE_IN3 -/
  pulses : Vector PulseSt 4
  /-- TS0 to TS15, then TD0 to TD7 -/
  sensors : Vector Sensor 24
  /-- P0 to P3, then the die -/
  throttle : Vector Throttle 5
  deriving DecidableEq, Repr

/-- A loop at reset. -/
def LoopSt.reset : LoopSt := { e := [0, 0, 0], y := [0, 0, 0], out := 0, missRun := 0 }

/-- Axes and loops at reset: DISABLED and OFF, nothing sampled. -/
def CtlSt.reset : CtlSt :=
  { axes := Vector.replicate 6 Axis.reset, loops := Vector.replicate 32 LoopSt.reset,
    pulses := Vector.replicate 4 ⟨none⟩, sensors := Vector.replicate 24 ⟨0, 0, 0, 0⟩,
    throttle := Vector.replicate 5 ⟨0, 0⟩ }


/-! ### Metrology island (spec/17) -/

/-- A verified weighing result in the result buffer (R629, R630). -/
structure Weighed where
  /-- sequence -/
  seq : Nat
  /-- lane -/
  lane : Nat
  /-- status (R620) -/
  status : Nat
  /-- seal_epoch of the issue -/
  epoch : Nat
  /-- TIME64 at the end of the window -/
  time : Nat
  /-- net, tare, unit price and price text, up to their first zero byte -/
  texts : List (List Byte)
  /-- item_sequence it is bound to (R257) -/
  bound : Option Nat
  deriving DecidableEq, Repr

/-- A load cell (R620, R621). -/
structure LoadCell where
  /-- instant of the edge that started the weighing in progress -/
  started : Option Nat
  /-- zero offset in counts; none until a zero has been set since entry to SEALED -/
  zero : Option Int
  /-- offset in counts that is in use for the gross weight -/
  offset : Int
  deriving DecidableEq, Repr

/-- A record of the island's audit trail (R625). -/
structure Audit where
  /-- event_counter -/
  counter : Nat
  /-- TIME64 -/
  time : Nat
  /-- node_id -/
  node : Nat
  /-- objects with their old and new values -/
  objs : List (Nat × OVal × OVal)
  deriving DecidableEq, Repr

/-- The metrology island and the channel verifier. -/
structure MetSt where
  /-- load cells -/
  cells : Vector LoadCell 2
  /-- result buffer, oldest first (R630) -/
  buffer : List Weighed
  /-- records on the sealed channel that have not reached the verifier -/
  channel : List (List Byte)
  /-- next sequence number (R627) -/
  nextSeq : Nat
  /-- last number of the last reserved block, in the island flash (R627) -/
  reserved : Nat
  /-- the seal switch is closed, qualified (R623) -/
  sealShut : Bool
  /-- an opening while unpowered is latched (R623) -/
  openLatched : Bool
  /-- audit records, oldest first, at most 1 024 (R625) -/
  audit : List Audit
  deriving DecidableEq, Repr

/-- The island at the first power-on: nothing weighed, the switch closed (assumption log). -/
def MetSt.reset : MetSt :=
  { cells := Vector.replicate 2 ⟨none, none, 0⟩, buffer := [], channel := [], nextSeq := 1,
    reserved := 0, sealShut := true, openLatched := false, audit := [] }

/-! ### Power (spec/18) -/

/-- A sequencer channel (R647, R648). -/
structure SeqCh where
  /-- SEQ_EN level -/
  en : Bool
  /-- brought down by seq_safe_action OFF (R650) -/
  safeOff : Bool
  deriving DecidableEq, Repr

/-- A hold-up record in the hold-up area (R662). -/
structure HoldRec where
  /-- boot_id of the boot that wrote it -/
  bootId : Nat
  /-- write_number -/
  writeNum : Nat
  /-- the body has been programmed -/
  body : Bool
  /-- stop_kind, 255 while the stop section is erased -/
  stopKind : Nat
  /-- stop_time, TIME64 -/
  stopTime : Nat
  /-- item_sequence of each item in BOUND or PRINTING at T_S, with whether it had fired: slot_busy and
  slot_fired -/
  busy : List (Nat × Bool)
  /-- journal_last -/
  journalLast : Nat
  /-- warning_time, TIME64 -/
  warnTime : Nat
  /-- drop_checkpoint_time, TIME64 -/
  dropTime : Nat
  /-- next_record per lane -/
  nextRecord : List Nat
  /-- last_bound per lane -/
  lastBound : List Nat
  /-- change_log_tail (R186) -/
  tail : List LogRec
  deriving DecidableEq, Repr

/-- Power supervision and the rail sequencer. -/
structure PowerSt where
  /-- sequencer channels -/
  seq : Vector SeqCh 16
  /-- channels of the step in progress that have yet to settle, or to fall -/
  stepWait : List Nat
  /-- the power-up in progress is a service power-up (R651) -/
  service : Bool
  /-- service_failed (R646) -/
  svcFailed : Bool
  /-- an off request waits for the step in progress (R646) -/
  offWanted : Bool
  /-- an on request is remembered (R646) -/
  onWanted : Bool
  /-- cause the remembered on request carries (R668) -/
  onCause : Nat
  /-- rails that the safe state took down are coming up again (R687) -/
  safeUp : Bool
  /-- T_W: instant of the warning whose sequence runs (R655) -/
  warnAt : Option Nat
  /-- T_S or T_R with its stop_kind: firing and binding have stopped (R656, R665) -/
  stopAt : Option (Nat × Nat)
  /-- reset_cause of the reset whose sequence runs (R198, R665) -/
  resetWhy : Nat
  /-- the record the running sequence writes -/
  record : Option HoldRec
  /-- records in the hold-up area, oldest first (R663) -/
  area : List HoldRec
  /-- write_number of the next record -/
  writeNum : Nat
  /-- TIME64 of the last complete drop checkpoint (R34) -/
  dropTime : Nat
  /-- VAON has been lost (R643) -/
  aonLost : Bool
  /-- instant of the last device reset, from which uptime_s counts (R190) -/
  resetAt : Nat
  /-- instant of the on request of the last power-up, or of the reset, from which boot_time_ms counts (R735) -/
  onAt : Nat
  /-- the response of an accepted reset_request or update_activate has been sent (R198, R725) -/
  resetDue : Bool
  deriving DecidableEq, Repr

/-- Power supervision at the first power-on: every rail down, an empty hold-up area (R645, R671). -/
def PowerSt.reset : PowerSt :=
  { seq := Vector.replicate 16 ⟨false, false⟩, stepWait := [], service := false, svcFailed := false,
    offWanted := false, onWanted := false, onCause := 0, safeUp := false, warnAt := none,
    stopAt := none, resetWhy := 0, record := none, area := [], writeNum := 1, dropTime := 0, aonLost := false,
    resetAt := 0, onAt := 0, resetDue := false }

/-! ### Fault collection and pairs (spec/19) -/

/-- A fault source (R675 to R679). -/
structure Source where
  /-- 0 INACTIVE, 1 ACTIVE, 2 PAIR_ERROR, 3 TEST_FAILED -/
  state : Nat
  /-- the pattern of its lines, kept through a test: 0 INACTIVE, 1 ACTIVE, 2 PAIR_ERROR -/
  lines : Nat
  /-- sticky bit -/
  sticky : Bool
  /-- source_activations -/
  count : Nat
  deriving DecidableEq, Repr

/-- An answer that waits until the standby has applied what it acknowledges (R694). -/
structure MirrorHeld where
  /-- mirror frame that carries it -/
  seq : Nat
  /-- session slot -/
  slot : Nat
  /-- epoch of the session -/
  epoch : Nat
  /-- traffic class -/
  cls : Nat
  /-- message type -/
  mtype : Nat
  /-- message -/
  body : List Byte
  deriving DecidableEq, Repr

/-- A trigger the standby has stamped itself, or a mirrored binding, that waits for its counterpart
(R698, R703). -/
structure ShadowTrig where
  /-- lane -/
  lane : Nat
  /-- stamp -/
  x : Int
  /-- TIME64 of the stamp -/
  time : Nat
  /-- dead reckoning -/
  dr : Bool
  /-- true for a mirrored binding, false for an own stamp -/
  mirrored : Bool
  deriving DecidableEq, Repr

/-- The Fault Collector and the pair. -/
structure FaultSt where
  /-- the 256 sources, those that are not at rest, by number -/
  sources : List (Nat × Source)
  /-- action sets that differ from the default, by source -/
  actions : List (Nat × Nat)
  /-- the action sets that are durable (R678) -/
  kept : List (Nat × Nat)
  /-- groups whose quiet period runs, each with the instant it began (R684) -/
  quiet : List (Nat × Nat)
  /-- end of the 10 µs FAULT_N pulse -/
  pulseEnd : Nat
  /-- next source of the self-test (R682) -/
  testNext : Nat
  /-- mirror_seq_sent -/
  mirrorSent : Nat
  /-- mirror_seq_received -/
  mirrorRx : Nat
  /-- mirror frames received whose write is not yet durable and in effect (R694) -/
  applying : List Nat
  /-- mirror_seq_received of the partner's last heartbeat -/
  partnerRx : Nat
  /-- answers that wait for the standby -/
  held : List MirrorHeld
  /-- triggers and bindings that wait for their counterpart -/
  shadow : List ShadowTrig
  /-- own stamps after the last mirrored binding, oldest first (R698) -/
  unbound : List ShadowTrig
  /-- send_time of the partner's last valid heartbeat or RELINQUISH: T_H -/
  lastHeart : Option Nat
  /-- partner's sender_state -/
  partner : Nat
  /-- partner's health -/
  partnerHealth : Nat
  /-- partner's last_fired -/
  partnerFired : List Nat
  /-- Mirror Link lanes with block lock -/
  laneUp : Vector Bool 2
  /-- instant of detection T_D of the takeover in progress -/
  takeAt : Option Nat
  /-- firing gap: lines of each ring with a tick after T_H are gap lines from this one on (R698) -/
  gapFrom : List Int
  /-- PAIR_FENCE_OUT_N driven low (R697) -/
  fenceOut : Bool
  /-- PAIR_FENCE_IN_N is low (R689) -/
  fenceIn : Bool
  /-- PAIR_ACT_OUT (R689) -/
  actOut : Bool
  /-- the shared outputs are high-impedance (R689) -/
  hiZ : Bool
  /-- partner's web_position and high_water_count (R692) -/
  partnerPos : Int × Int
  /-- the last heartbeat or RELINQUISH sent on the Mirror Link (R692) -/
  sent : List Byte
  /-- instants and delays in µs of the mirror frames of the last 1 s (R711) -/
  lags : List (Nat × Nat)
  /-- consecutive heartbeats with an encoder mismatch (R703) -/
  encMiss : Nat
  /-- consecutive passing tests per health bit (R703) -/
  passes : Vector Nat 9
  deriving DecidableEq, Repr

/-- The collector and the pair at reset: every source INACTIVE, running alone (R690). -/
def FaultSt.reset : FaultSt :=
  { sources := [], actions := [], kept := [], quiet := [], pulseEnd := 0, testNext := 0, mirrorSent := 0, mirrorRx := 0,
    applying := [],
    partnerRx := 0, held := [], shadow := [], unbound := [], lastHeart := none, partner := 0,
    partnerHealth := 0, partnerFired := [], laneUp := Vector.replicate 2 false, takeAt := none,
    gapFrom := [], fenceOut := false, fenceIn := false, actOut := true, hiZ := false,
    partnerPos := (0, 0), sent := [], lags := [], encMiss := 0, passes := Vector.replicate 9 0 }

/-! ### Management subsystem and integrator core (spec/20) -/

/-- A boot directory (R721). -/
structure Directory where
  /-- dir_sequence -/
  seq : Nat
  /-- slot_a_state and slot_b_state: 0 EMPTY, 1 PENDING, 2 CONFIRMED, 3 BAD, 4 WRITING -/
  states : Nat × Nat
  /-- trial_slot: 0 A, 1 B, 255 none -/
  trial : Nat
  /-- tries_left -/
  tries : Nat
  /-- versions -/
  versions : Nat × Nat
  /-- security versions -/
  security : Nat × Nat
  /-- preferred_slot -/
  preferred : Nat
  deriving DecidableEq, Repr

/-- A firmware commit whose image is being programmed (R724). -/
structure UpdateJob where
  /-- session slot -/
  sess : Nat
  /-- its epoch -/
  epoch : Nat
  /-- request_id of the BULK_COMMIT -/
  req : Nat
  /-- window -/
  window : Nat
  /-- the image -/
  image : List Byte
  deriving DecidableEq, Repr

/-- An object the integrator core declared (R730). -/
structure Declared where
  /-- index -/
  idx : Nat
  /-- subindex -/
  sub : Nat
  /-- type -/
  ty : OTy
  /-- read role -/
  rd : Nat
  /-- write role -/
  wr : Nat
  /-- least value -/
  lo : Option Int
  /-- greatest value -/
  hi : Option Int
  /-- name -/
  name : List Byte
  /-- unit -/
  unit : List Byte
  /-- default, encoded -/
  dflt : List Byte
  deriving DecidableEq, Repr

/-- An access to declared objects that the integrator core serves (R731): a READ with what has been answered so far
and what remains, or a write whose entries up to `served` are done with. -/
structure ServeJob where
  /-- who asks: of a READ, its session, role and epoch -/
  who : Writer
  /-- request_id of a READ -/
  req : Nat
  /-- count of a READ -/
  count : Nat
  /-- READ_RESP entries so far -/
  done : List Byte
  /-- objects still to read, the one being served first -/
  rest : List (Nat × Nat)
  /-- the WRITE or BATCH; none for a READ -/
  what : Option Deferred
  /-- entries of the write before this position need no more serving -/
  served : Nat
  deriving DecidableEq, Repr

/-- The management subsystem and the integrator core. -/
structure MgmtSt where
  /-- the two copies of the boot directory, none for an invalid one -/
  dirs : Vector (Option Directory) 2
  /-- contents of slots A and B -/
  slots : Vector (List Byte) 2
  /-- the boot ROM runs recovery (R726) -/
  recovery : Bool
  /-- anti-rollback counter in fuses (R720) -/
  fuses : Nat
  /-- firmware commit in progress -/
  update : Option UpdateJob
  /-- integrator image in flash (R728) -/
  integImage : List Byte
  /-- declared objects -/
  declared : List Declared
  /-- SC_REQ (R729) -/
  scReq : List Byte
  /-- SC_RESP -/
  scResp : List Byte
  /-- SC_STATUS [0] -/
  scBusy : Bool
  /-- SC_STATUS [1] -/
  scReady : Bool
  /-- SERVE_REQ -/
  serveReq : List Byte
  /-- SERVE_RESP -/
  serveResp : List Byte
  /-- SC_STATUS [2]: accesses to serve, the one in SERVE_REQ first -/
  serves : List ServeJob
  /-- TIMER_CMP -/
  timerCmp : Nat
  /-- the timer interrupt is raised -/
  timerIrq : Bool
  /-- instant of the last start of the integrator core or WDT_KICK -/
  kicked : Nat
  /-- the integrator core's own values of the session-local objects (R163), by key -/
  locals : List (Nat × OVal)
  deriving DecidableEq, Repr

/-- Management at reset: empty directory copies and slots (assumption log). -/
def MgmtSt.reset : MgmtSt :=
  { dirs := Vector.replicate 2 none, slots := Vector.replicate 2 [], recovery := false, fuses := 0,
    update := none, integImage := [], declared := [], scReq := [], scResp := [], scBusy := false,
    scReady := false, serveReq := [], serveResp := [], serves := [], timerCmp := 0, timerIrq := false,
    kicked := 0, locals := [] }


/-! ### Clock generation (spec/03) -/

/-- What no object holds of a synthesizer. -/
structure PllSt where
  /-- reference source in use (R100) -/
  source : Nat
  /-- reference mode in use: 0 for times 1, 1 for times 2, 2 for half -/
  mode : Nat
  /-- instant from which lock has held without a break (R107) -/
  lockedAt : Option Nat
  /-- its outputs are gated low through a relock or a loss of lock (R110, R114) -/
  gated : Bool
  /-- target of the glide or relock in progress, or of the last one -/
  target : Nat
  deriving DecidableEq, Repr

/-- Clock generation. -/
structure ClkSt where
  /-- PLL_SYS, PLL_DDR, PLL_AUX, PLL_PIX -/
  plls : Vector PllSt 4
  deriving DecidableEq, Repr

/-- Every synthesizer off (R95). -/
def ClkSt.reset : ClkSt := { plls := Vector.replicate 4 ⟨0, 1, none, true, 0⟩ }


/-! ### The whole state -/

/-- The device. -/
structure State where
  /-- commands that wait, first in, first out -/
  pending : List Instr
  /-- instant of the last command, in nanoseconds since the start of the model's time -/
  now : Nat
  /-- the model's own counter of free values taken so far (not the spec's) -/
  freeCtr : Nat
  /-- object store (spec/05) -/
  od : OdSt
  /-- Change Log and flash programs (spec/05) -/
  log : LogSt
  /-- network and sessions (spec/04) -/
  net : NetSt
  /-- Encoder Tracker, ticks and triggers (spec/02) -/
  web : WebSt
  /-- lanes and items (spec/06) -/
  lane : LaneSt
  /-- state journal (R660) -/
  jrn : Journal
  /-- Compositor (spec/07) -/
  comp : CompSt
  /-- firing channels and head links (spec/11) -/
  fire : FireSt
  /-- Inspection Unit and compensation map (spec/12) -/
  insp : InspSt
  /-- cameras and image pipeline (spec/13) -/
  img : ImgSt
  /-- Beam Engine (spec/14) -/
  beam : BeamSt
  /-- Codec and DMA (spec/08, spec/10) -/
  mover : MoverSt
  /-- memories (spec/09) -/
  mem : MemSt
  /-- metrology island (spec/17) -/
  met : MetSt
  /-- power supervision and sequencer (spec/18) -/
  power : PowerSt
  /-- Fault Collector and pair (spec/19) -/
  fault : FaultSt
  /-- management subsystem and integrator core (spec/20) -/
  mgmt : MgmtSt
  /-- clock generation (spec/03) -/
  clk : ClkSt
  /-- motor axes, control loops and thermal management (spec/15, spec/16) -/
  ctl : CtlSt
  deriving DecidableEq, Repr

/-- Ways a step can stop with a fault. The spec gives every command of the table an effect, so no
command of this model faults and the type has no constructor. -/
inductive Fault where
  deriving DecidableEq, Repr

/-- Ways a step can be refused. -/
inductive Refusal where
  /-- A command the model gives no meaning yet; raised by the dispatch alone. Safe: the step stops. -/
  | notModelled (mnemonic : String)
  deriving DecidableEq, Repr

/-- The PTP clock at reset: free running from 0 (R125; assumption log). -/
def Ptp.reset : Ptp :=
  { base := 0, at_ := 0, ratePpb := 0, masters := Vector.replicate 3 none,
    pending := Vector.replicate 3 none, delay := Vector.replicate 3 0, lockedAt := 0 }

/-- Network state at reset: no session, no lockout, next event 1 (R144, R153, R175). -/
def NetSt.reset : NetSt :=
  { sess := Vector.replicate 8 Sess.free, lockouts := [], lastReject := none, lastNoSeq := none,
    nextEvent := 1, ptp := Ptp.reset, sfp := Vector.replicate 2 false,
    txDisable := Vector.replicate 2 true }

/-- The Change Log at the first boot: empty, next change number 1 (R181). -/
def LogSt.reset : LogSt :=
  { flash := [], ring := [], unflushed := 0, flushing := none, nextNum := 1, waiting := [],
    held := [], nextHeld := 1, program := [] }

/-- The object store at reset: every object at its default (R175). -/
def OdSt.reset : OdSt := { vals := [], pend := [], line := [], flash := [], kept := [] }

/-- The device right after reset. -/
def State.reset : State :=
  { pending := [], now := 0, freeCtr := 0, od := OdSt.reset, log := LogSt.reset,
    net := NetSt.reset, web := WebSt.reset, lane := LaneSt.reset, jrn := Journal.reset, comp := CompSt.reset, fire := FireSt.reset, insp := InspSt.reset, img := ImgSt.reset, beam := BeamSt.reset,
    mover := MoverSt.reset, mem := MemSt.reset, met := MetSt.reset,
    power := PowerSt.reset, fault := FaultSt.reset, mgmt := MgmtSt.reset, clk := ClkSt.reset,
    ctl := CtlSt.reset }

end Sys2Proof.Machine
end

