-- ==== Sys2Proof/Machine/Ops.lean ====
section
/-! DEFINITION. The operations every family uses: reading and writing objects, counters, time, free
values, events (R153, R154), sending on a session (R133, R137), and the Change Log (R181 to R188). -/

namespace Sys2Proof.Machine

/-! ### Sorted key and value lists -/

/-- The value of a key. -/
def kvGet {α : Type} : List (Nat × α) → Nat → Option α
  | [], _ => none
  | p :: ps, k => if p.1 = k then some p.2 else kvGet ps k

/-- The list with key `k` at value `v`, keys rising. -/
def kvSet {α : Type} : List (Nat × α) → Nat → α → List (Nat × α)
  | [], k, v => [(k, v)]
  | p :: ps, k, v =>
    if k < p.1 then (k, v) :: p :: ps
    else if p.1 = k then (k, v) :: ps
    else p :: kvSet ps k v

/-- The list without key `k`. -/
def kvDel {α : Type} : List (Nat × α) → Nat → List (Nat × α)
  | [], _ => []
  | p :: ps, k => if p.1 = k then kvDel ps k else p :: kvDel ps k

/-! ### Objects -/

/-- The stored value of an object: what it was last set to, or what the dictionary gives (R175). -/
def State.ov (s : State) (k : Nat) : OVal :=
  match kvGet s.od.vals k with
  | some v => v
  | none => odDefault k

/-- The number an object holds. -/
def State.oi (s : State) (k : Nat) : Int := (s.ov k).toInt

/-- The number an object holds, as a natural number. -/
def State.on (s : State) (k : Nat) : Nat := (s.ov k).toInt.toNat

/-- The truth value a BOOL object holds. -/
def State.ob (s : State) (k : Nat) : Bool := decide ((s.ov k).toInt ≠ 0)

/-- The bytes an object holds. -/
def State.obytes (s : State) (k : Nat) : List Byte := (s.ov k).toBytes

/-- The state with an object at a value. -/
def State.setv (s : State) (k : Nat) (v : OVal) : State :=
  { s with od := { s.od with vals := kvSet s.od.vals k v } }

/-- The state with an object at a number. -/
def State.seti (s : State) (k : Nat) (i : Int) : State := s.setv k (.int i)

/-- The state with an object at a natural number. -/
def State.setn (s : State) (k : Nat) (n : Nat) : State := s.setv k (.int n)

/-- The state with a BOOL object at a truth value. -/
def State.setb (s : State) (k : Nat) (b : Bool) : State := s.setv k (.int (b2i b))

/-- A counter object raised by `n`, modulo 2^`bits` (assumption log entry 9). -/
def State.bump (s : State) (k bits n : Nat) : State := s.setn k ((s.on k + n) % 2 ^ bits)

/-- A U32 counter raised by 1. -/
def State.inc32 (s : State) (k : Nat) : State := s.bump k 32 1

/-- A U64 counter raised by 1. -/
def State.inc64 (s : State) (k : Nat) : State := s.bump k 64 1

/-! ### Time and free values -/

/-- The state at the instant of a command (assumption log entry 1). -/
def State.atTime (s : State) (t : Nat) : State := { s with now := max s.now t }

/-- PTP time at an instant, in ns (TIME64, R166). -/
def ptpAt (p : Ptp) (t : Nat) : Nat :=
  let d : Int := (t : Int) - p.at_
  ((p.base : Int) + d + d * p.ratePpb / 1000000000).toNat % 2 ^ 64

/-- PTP time now. -/
def State.time (s : State) : Nat := ptpAt s.net.ptp s.now

/-- A fresh free value. -/
def State.freeVal (s : State) : Nat := Config.free s.freeCtr

/-- The state after a free value has been taken. -/
def State.freeNext (s : State) : State := { s with freeCtr := s.freeCtr + 1 }

/-- The outcome of a command that completes. -/
def ok (s : State) : Host.Outcome State Fault Refusal := .next s

/-! ### Sessions -/

/-- The slot `i`; slots outside 0 to 7 read as free. -/
def State.sess (s : State) (i : Nat) : Sess := s.net.sess.toList.getD i Sess.free

/-- The state with slot `i` replaced. -/
def State.setSess (s : State) (i : Nat) (x : Sess) : State :=
  { s with net := { s.net with sess := s.net.sess.setIfInBounds i x } }

/-- Changes slot `i`. -/
def State.modSess (s : State) (i : Nat) (f : Sess → Sess) : State := s.setSess i (f (s.sess i))

/-- Credits of a payload: ceil(length / 256) (R136). -/
def creditsOf (n : Nat) : Nat := ceilDiv n 256

/-- Splits a message into payloads of at most `m` bytes (R131); `fuel` bounds the count. -/
def fragments : Nat → Nat → List Byte → List (List Byte)
  | 0, _, _ => []
  | fuel + 1, m, b =>
    if b.length ≤ m then [b] else b.take m :: fragments fuel m (b.drop m)

/-- The payloads of a message on a session. -/
def Sess.frags_ (x : Sess) (b : List Byte) : List (List Byte) :=
  fragments (b.length + 1) (max 1 x.maxPayload) b

/-- Credits a message needs on a session. -/
def Sess.need (x : Sess) (b : List Byte) : Nat := ((x.frags_ b).map (fun p => creditsOf p.length)).sum

/-- The sender may send `need` credits of a class and `n` packets now (R133, R137). -/
def Sess.maySend (x : Sess) (cls need n : Nat) : Bool :=
  decide (x.txUsed.toList.getD cls 0 + need ≤ x.txLimit.toList.getD cls 0) &&
  decide (serialDist 32 (x.txNext + n - 1) x.peerAck ≤ 64 || n = 0)

/-- Adds `n` at class `c`. -/
def addAt (v : Vector Nat 4) (c n : Nat) : Vector Nat 4 :=
  v.setIfInBounds c (v.toList.getD c 0 + n)

/-- Marks that a packet went out: it carries the current ack and the limit of the class whose turn it
is (R134, R138, R145). -/
def Sess.noteSent (x : Sess) (t : Nat) : Sess :=
  { x with
    ackDue := false, lastTx := t,
    reported := x.reported.setIfInBounds x.reportTurn (x.granted.toList.getD x.reportTurn 0),
    reportTurn := (x.reportTurn + 1) % 4 }

/-- Sends the payloads of one message at consecutive sequence numbers. -/
def Sess.emit (x : Sess) (t rtoUs cls mtype : Nat) : List (List Byte) → Sess
  | [] => x
  | p :: ps =>
    let pkt : TxPkt := { seq := x.txNext, cls := cls, more := !ps.isEmpty, mtype := mtype,
                         payload := p, sentAt := t, retx := 0, rtoUs := rtoUs, sacked := false,
                         fast := false }
    let y := { x with unacked := x.unacked ++ [pkt], txNext := (x.txNext + 1) % 2 ^ 32,
                      txUsed := addAt x.txUsed cls (creditsOf p.length) }
    (y.noteSent t).emit t rtoUs cls mtype ps

/-- The first waiting message of class `c`, with the rest of the queue. -/
def takeCls : Nat → List TxMsg → Option (TxMsg × List TxMsg)
  | _, [] => none
  | c, m :: ms =>
    if m.cls = c then some (m, ms)
    else match takeCls c ms with
      | some (x, r) => some (x, m :: r)
      | none => none

/-- The first class of a priority list whose oldest waiting message may be sent. -/
def Sess.pick (x : Sess) : List Nat → Option (TxMsg × List TxMsg)
  | [] => none
  | c :: cs =>
    match takeCls c x.waiting with
    | some (m, r) =>
      if x.maySend c (x.need m.body) (x.frags_ m.body).length then some (m, r) else x.pick cs
    | none => x.pick cs

/-- Sends what credit and window allow, in the priority CTRL, ITEM, EVENT, BULK (R121). -/
def Sess.pump (t rtoUs : Nat) : Nat → Sess → Sess
  | 0, x => x
  | fuel + 1, x =>
    match x.pick [0, 1, 3, 2] with
    | some (m, r) =>
      Sess.pump t rtoUs fuel (({ x with waiting := r }).emit t rtoUs m.cls m.mtype (x.frags_ m.body))
    | none => x

/-- Pumps slot `i`. -/
def State.pump (s : State) (i : Nat) : State :=
  let x := s.sess i
  if x.isOpen then s.setSess i (x.pump s.now (s.on Od.klp_config.klp_rto_min_us) x.waiting.length)
  else s

/-- Sends a message on slot `i` if its session is open (a response is lost with its session, R159). -/
def State.send (s : State) (i cls mtype : Nat) (body : List Byte) : State :=
  if (s.sess i).isOpen then
    (s.modSess i (fun x => { x with waiting := x.waiting ++ [⟨cls, mtype, body⟩] })).pump i
  else s

/-- Sends on slot `i` if the session is open and still in epoch `e`. -/
def State.sendIn (s : State) (i e cls mtype : Nat) (body : List Byte) : State :=
  if (s.sess i).epoch = e then s.send i cls mtype body else s

/-- ERROR of R147: code, message type and sequence that caused it, with request_id 0. -/
def State.sendError (s : State) (i code mtype seq : Nat) : State :=
  s.send i 0 0x7F (leBytes 4 0 ++ leBytes 1 code ++ leBytes 1 mtype ++ leBytes 2 0 ++ leBytes 4 seq)

/-! ### Events -/

/-- One event into the queue of a session (R154): a full queue discards its oldest entry. -/
def Sess.pushEv (x : Sess) (depth : Nat) (e : Ev) : Sess :=
  if x.isOpen && bitAt x.evMask (e.code / 256) then
    if x.evQueue.length < depth then { x with evQueue := x.evQueue ++ [e] }
    else { x with evQueue := x.evQueue.drop 1 ++ [e], evDropped := x.evDropped + 1,
                  evDroppedTotal := (x.evDroppedTotal + 1) % 2 ^ 32 }
  else x

/-- Pushes an event with its code and data to every session whose mask selects it (R153, R154). -/
def State.event (s : State) (code : Nat) (data : List Byte) : State :=
  let e : Ev := { num := s.net.nextEvent, time := s.time, code := code, data := data }
  let depth := s.on Od.klp_config.event_queue_depth
  { s with net := { s.net with
      nextEvent := s.net.nextEvent + 1,
      sess := s.net.sess.map (fun x => x.pushEv depth e) } }

/-! ### The Change Log -/

/-- The bytes of a record (R182). -/
def LogRec.encode (r : LogRec) : List Byte :=
  let b := leBytes 8 r.num ++ leBytes 8 r.time ++ leBytes 1 r.kind ++ leBytes 1 r.origin ++
    leBytes 1 r.sess ++ leBytes 1 r.role ++ leBytes 2 r.node ++ leBytes 2 r.idx ++
    leBytes 1 r.sub ++ leBytes 1 r.type ++ leBytes 1 r.flags ++ leBytes 1 r.epoch ++
    leBytes 2 r.oldLen ++ leBytes 2 r.newLen ++ padTo 16 r.old ++ padTo 16 r.new
  b ++ leBytes 4 (crc32c b) ++ leBytes 4 0

/-- A value field of a record: inline up to 16 bytes, else its CRC-32C (R184). -/
def logValue (b : List Byte) : List Byte :=
  if b.length ≤ 16 then padTo 16 b else padTo 16 (leBytes 4 (crc32c b))

/-- Records the log holds or is about to hold (R188). -/
def State.logCount (s : State) : Nat :=
  s.log.flash.length + s.log.unflushed + (s.log.program.map (fun p => p.recs.length)).sum

/-- A log under REFUSE has room for `n` more records (R188). -/
def State.logRoom (s : State) (n : Nat) : Bool :=
  s.on Od.change_log.change_log_full_action = 0 ||
  decide (s.logCount + n ≤ s.on Od.change_log.change_log_capacity)

/-- Inserts a record by rising change number. -/
def insertRec (r : LogRec) : List LogRec → List LogRec
  | [] => [r]
  | x :: xs => if r.num < x.num then r :: x :: xs else x :: insertRec r xs

/-- Puts records into the flash region; past its capacity the oldest goes, counted (R188). -/
def State.logFlash (s : State) (rs : List LogRec) : State :=
  let l := rs.foldl (fun a r => insertRec r a) s.log.flash
  let excess := l.length - s.on Od.change_log.change_log_capacity
  let s1 := { s with log := { s.log with flash := l.drop excess } }
  if excess = 0 then s1 else s1.bump Od.change_log.records_overwritten 64 excess

/-- Starts a flash program (R176). -/
def State.program (s : State) (op : FlashOp) : State :=
  { s with log := { s.log with program := s.log.program ++ [op] } }

/-- Makes a record of a kind without an object (R183); it becomes durable by a flash program of its
own (R185). -/
def State.logKind (s : State) (kind : Nat) (w : Writer) (new : List Byte) : State :=
  let r : LogRec :=
    { num := s.log.nextNum, time := s.time, kind := kind, origin := w.origin, sess := w.sess,
      role := w.role, node := w.node, idx := 0, sub := 0, type := 0, flags := 0, epoch := w.epoch,
      oldLen := 0, newLen := new.length, old := [], new := new }
  { s with log := { s.log with nextNum := s.log.nextNum + 1 } }.program ⟨none, [], [], [r]⟩

/-- Makes a record of a kind that names an object, by the device (DEFAULTS, APPLIED; R183). -/
def State.logObj (s : State) (kind : Nat) (w : Writer) (k : Nat) (old new : OVal) (flash : Bool) :
    State :=
  match odRow k with
  | none => s
  | some row =>
    let eo := encodeVal row.ty old
    let en := encodeVal row.ty new
    let r : LogRec :=
      { num := s.log.nextNum, time := s.time, kind := kind, origin := w.origin, sess := w.sess,
        role := w.role, node := w.node, idx := k / 256, sub := k % 256, type := row.ty.code,
        flags := b2n (decide (16 < eo.length)) + 2 * b2n (decide (16 < en.length)),
        epoch := w.epoch, oldLen := eo.length, newLen := en.length, old := logValue eo,
        new := logValue en }
    let s1 := { s with log := { s.log with nextNum := s.log.nextNum + 1 } }
    if flash then s1.program ⟨none, [(k, new)], [], [r]⟩
    else { s1 with log := { s1.log with ring := (s1.log.ring ++ [r]).drop (s1.log.ring.length + 1 - 256),
                                        unflushed := s1.log.unflushed + 1 } }

/-- Logs a write of a volatile object whose record needs durability (R185): the record alone is
programmed. -/
def State.logRecord (s : State) (w : Writer) (k : Nat) (old new : OVal) : State :=
  match odRow k with
  | none => s
  | some row =>
    let eo := encodeVal row.ty old
    let en := encodeVal row.ty new
    let r : LogRec :=
      { num := s.log.nextNum, time := s.time, kind := 1, origin := w.origin, sess := w.sess, role := w.role,
        node := w.node, idx := k / 256, sub := k % 256, type := row.ty.code,
        flags := b2n (decide (16 < eo.length)) + 2 * b2n (decide (16 < en.length)), epoch := w.epoch,
        oldLen := eo.length, newLen := en.length, old := logValue eo, new := logValue en }
    { s with log := { s.log with nextNum := s.log.nextNum + 1 } }.program ⟨none, [], [], [r]⟩

/-- The device itself as a writer (R183). -/
def Writer.device : Writer := { origin := 4, sess := 255, role := 255, node := 0, epoch := 0 }

/-- The writer of a session: origin by the port given (R183). -/
def State.writerOf (s : State) (i port : Nat) : Writer :=
  let x := s.sess i
  { origin := port, sess := i, role := x.role, node := x.node, epoch := x.epoch }

/-- Sets an object that the device itself keeps persistently, and its durable copy. -/
def State.setDurable (s : State) (k : Nat) (v : OVal) : State :=
  let s1 := s.setv k v
  { s1 with od := { s1.od with flash := kvSet s1.od.flash k v } }

/-! ### Pair, safe state and stop -/

/-- pair_state (R690). -/
def State.pairState (s : State) : Nat := s.on Od.pair_status.pair_state

/-- The device fires and keeps the ledger: SOLO, ACTIVE_ALONE or ACTIVE (R689, R694). -/
def State.pairActive (s : State) : Bool :=
  s.pairState = 0 || s.pairState = 2 || s.pairState = 5

/-- The safe state stands (R685); after a collector self-fault it stands too (R683). -/
def State.safe (s : State) : Bool := s.on Od.fault_collector.collector_state ≠ 0

/-- T_S or T_R has passed (R656, R665). -/
def State.stopped (s : State) : Bool := s.power.stopAt.isSome

/-- A supply warning stands (R655). -/
def State.warned (s : State) : Bool := s.ob Od.supply_supervisor.holdup_active

/-- Sends a mirror frame (R693). -/
def State.mirror (s : State) : State :=
  if s.pairState = 5 ∨ s.pairState = 2 then
    { s with fault := { s.fault with mirrorSent := (s.fault.mirrorSent + 1) % 2 ^ 32 } }
  else s

/-- Answers a mirrored request on a session. In ACTIVE the answer waits until the standby has applied the
mirror frame that carries it (R694). -/
def State.answer (s : State) (i cls mtype : Nat) (body : List Byte) : State :=
  if s.pairState = 5 then
    let s := s.mirror
    { s with fault := { s.fault with
        held := s.fault.held ++ [⟨s.fault.mirrorSent, i, (s.sess i).epoch, cls, mtype, body⟩] } }
  else s.mirror.send i cls mtype body

/-! ### Health of a standby (R703) -/

/-- takeover_ready follows the health bits and the lanes. -/
def State.renewReady (s : State) : State :=
  let h := s.on Od.pair_health.health
  s.setb Od.pair_health.takeover_ready
    (!(bitAt h 2 || bitAt h 3 || bitAt h 6 || bitAt h 7 || bitAt h 8) && s.fault.laneUp.toList.any id)

/-- A health bit is set. -/
def State.failBit (s : State) (b : Nat) : State :=
  let s : State := { s with fault := { s.fault with passes := s.fault.passes.setIfInBounds b 0 } }
  (s.setn Od.pair_health.health (withBit (s.on Od.pair_health.health) b true)).renewReady

/-- One test of a health bit: it clears after 100 passes in a row. -/
def State.testBit (s : State) (b : Nat) (pass : Bool) : State :=
  if pass = false then s.failBit b
  else if bitAt (s.on Od.pair_health.health) b = false then s
  else
    let n := s.fault.passes.toList.getD b 0 + 1
    let m := if n = 100 then 0 else n
    let s : State := { s with fault := { s.fault with passes := s.fault.passes.setIfInBounds b m } }
    if n < 100 then s
    else (s.setn Od.pair_health.health (withBit (s.on Od.pair_health.health) b false)).renewReady

end Sys2Proof.Machine
end

