-- ==== Sys2Proof/Machine/Operands.lean ====
section
/-! DEFINITION. The forms operands take on the wire: the KLP header (R127, R128, R130), and the role
chain that decides who may read and write (R8 to R10). -/

namespace Sys2Proof.Machine

/-- The KLP header (R127). -/
structure KlpHeader where
  /-- magic -/
  magic : Nat
  /-- version -/
  version : Nat
  /-- session -/
  sess : Nat
  /-- traffic class -/
  cls : Nat
  /-- MORE -/
  more : Bool
  /-- NOSEQ -/
  noseq : Bool
  /-- message type -/
  mtype : Nat
  /-- payload_length -/
  len : Nat
  /-- sequence -/
  seq : Nat
  /-- ack -/
  ack : Nat
  /-- sack -/
  sack : Nat
  /-- credit_limit -/
  limit : Nat
  /-- credit_class -/
  limitCls : Nat
  /-- epoch -/
  epoch : Nat
  deriving DecidableEq, Repr

/-- Reads the header of a datagram (R127); reserved bits are ignored (R5). -/
def parseKlp (d : List Byte) : KlpHeader :=
  let fl := leAt d 4 1
  { magic := leAt d 0 2, version := leAt d 2 1, sess := leAt d 3 1, cls := fl % 4,
    more := bitAt fl 2, noseq := bitAt fl 4, mtype := leAt d 5 1, len := leAt d 6 2,
    seq := leAt d 8 4, ack := leAt d 12 4, sack := leAt d 16 8, limit := leAt d 24 4,
    limitCls := leAt d 28 1 % 4, epoch := leAt d 29 1 }

/-- The header the device sends on a session for a packet of `cls`, `mtype` and `seq` (R127, R138). -/
def klpHeader (slot : Nat) (x : Sess) (flags mtype len seq : Nat) : List Byte :=
  let sack := x.rxHeld.foldl (fun a p =>
    let d := serialDist 32 p.seq x.rxNext
    if 1 ≤ d ∧ d ≤ 64 then a ||| (1 <<< (d - 1)) else a) 0
  leBytes 2 0x4C4B ++ leBytes 1 1 ++ leBytes 1 slot ++ leBytes 1 flags ++ leBytes 1 mtype ++
  leBytes 2 len ++ leBytes 4 seq ++ leBytes 4 x.rxNext ++ leBytes 8 sack ++
  leBytes 4 (x.granted.toList.getD x.reportTurn 0) ++ leBytes 1 x.reportTurn ++
  leBytes 1 x.epoch ++ leBytes 2 0

/-- The traffic class of a message type the client may send (R130); none for the others. -/
def clsToDevice (m : Nat) : Option Nat :=
  if m = 0x03 ∨ m = 0x10 ∨ m = 0x12 ∨ m = 0x14 ∨ m = 0x30 ∨ m = 0x33 ∨ m = 0x34 ∨ m = 0x40 then some 0
  else if m = 0x20 then some 1
  else if m = 0x31 then some 2
  else none

/-- Role `held` holds the rights of role `need` (R8 to R10): the chain OBS, OPR, ENG, SVC, VND, and MET
with the rights of OBS alone; 255 is no role. -/
def roleHolds (held need : Nat) : Bool :=
  if need = 255 ∨ held = 255 then false
  else if need = 5 then held = 5
  else if held = 5 then need = 0
  else decide (held ≤ 4) && decide (need ≤ held)

/-- The response status codes of R152. -/
abbrev errOk : Nat := 0x00
/-- MALFORMED -/
abbrev errMalformed : Nat := 0x01
/-- NO_SESSION -/
abbrev errNoSession : Nat := 0x02
/-- ROLE -/
abbrev errRole : Nat := 0x03
/-- NO_OBJECT -/
abbrev errNoObject : Nat := 0x04
/-- RANGE -/
abbrev errRange : Nat := 0x05
/-- BUSY -/
abbrev errBusy : Nat := 0x06
/-- CREDIT -/
abbrev errCredit : Nat := 0x07
/-- WINDOW -/
abbrev errWindow : Nat := 0x08
/-- CRC -/
abbrev errCrc : Nat := 0x09
/-- SESSIONS_FULL -/
abbrev errSessionsFull : Nat := 0x0A
/-- AUTH -/
abbrev errAuth : Nat := 0x0B
/-- TIMEOUT -/
abbrev errTimeout : Nat := 0x0C
/-- CLASS -/
abbrev errClass : Nat := 0x0D

end Sys2Proof.Machine
end

