-- ==== Sys2Proof/Machine/Items.lean ====
section
/-! DEFINITION. Items and the Item Ledger (R213 to R227): the shared operations that find an item,
record its disposition and its verdict, and close it. -/

namespace Sys2Proof.Machine

/-! ### Items -/

/-- The item of a sequence number (R223). -/
def State.item (s : State) (q : Nat) : Option Item := s.lane.items.find? (fun it => it.seq = q)

/-- Replaces the items. -/
def State.setItems (s : State) (l : List Item) : State := { s with lane := { s.lane with items := l } }

/-- Changes the item of a sequence number. -/
def State.modItem (s : State) (q : Nat) (f : Item → Item) : State :=
  s.setItems (s.lane.items.map (fun it => if it.seq = q then f it else it))

/-- The values of Applies item in force, which a binding fixes (R11, R213): those that differ from the
dictionary's. -/
def State.itemValues (s : State) : List (Nat × OVal) :=
  s.od.vals.filter (fun p => match odRow p.1 with
    | some r => decide (r.app = 2)
    | none => false)

/-- The number an object of Applies item had at an item's binding (R213). -/
def Item.iv (it : Item) (k : Nat) : Int :=
  match kvGet it.snap k with
  | some v => v.toInt
  | none => (odDefault k).toInt

/-- The same as a natural number. -/
def Item.ivn (it : Item) (k : Nat) : Nat := (it.iv k).toNat

/-- BOUND or PRINTING: in flight (R215). -/
def Item.inFlight (it : Item) : Bool := it.state = 1 || it.state = 2

/-- Lines fired on all rings. -/
def Item.firedAll (it : Item) : Nat := it.fired.toList.foldl (· + ·) 0

/-- Lines on all rings. -/
def Item.linesAll (it : Item) : Nat :=
  (it.spans.toList.map (fun o => match o with | some r => r.count | none => 0)).foldl (· + ·) 0

/-- Every line's tick position has been passed on every ring. -/
def Item.allPassed (it : Item) : Bool :=
  (it.spans.toList.zip it.passed.toList).all (fun p => match p.1 with
    | some r => decide (r.count ≤ p.2)
    | none => true)

/-- The ledger flags (R221, R223). -/
def Item.flags (it : Item) : Nat :=
  let deg := it.disp = some 1
  b2n it.fDr + 2 * b2n it.fPartial + 4 * b2n (deg && it.degSupp) + 8 * b2n (deg && it.degBreak) +
  16 * b2n it.fHoldup + 32 * b2n it.fReject + 64 * b2n it.inspect

/-- The ledger entry of 56 bytes (R223). -/
def Item.entry (it : Item) : List Byte :=
  leBytes 4 it.seq ++ leBytes 4 it.recNum ++ leBytes 4 it.tag ++ leBytes 1 it.lane ++
  leBytes 1 (it.disp.getD 0) ++ leBytes 1 it.reason ++ leBytes 1 it.verdict ++
  leBytes 2 it.flags ++ leBytes 2 it.mould ++ leBytes 4 (min it.dropsSupp 0xFFFFFFFF) ++
  leBytes 8 (patternOf 64 it.xItem) ++ leBytes 8 it.trigTime ++ leBytes 8 it.closeTime ++
  leBytes 8 it.verdictTime

/-- Slots occupied (R215). -/
def State.slotsUsed (s : State) : Nat := (s.lane.items.filter (fun it => it.slot.isSome)).length

/-- Items of a lane in flight (R29, R215). -/
def State.inFlightOf (s : State) (lane : Nat) : Nat :=
  (s.lane.items.filter (fun it => it.lane = lane && it.inFlight)).length

/-- Closed items whose verdict is pending (R222): an item closes when its disposition is recorded. -/
def State.pendingVerdicts (s : State) : List Item :=
  s.lane.items.filter (fun it => it.disp.isSome && it.verdict = 0)

/-- The ledger counter of a disposition (R230). -/
def dispKey (lane disp : Nat) : Nat := Od.ledger.count_marked lane + disp

/-- The ledger counter of a final verdict (R230). -/
def verdictKey (lane v : Nat) : Nat := Od.ledger.verdict_pending lane + v

/-! ### The state journal (R660) -/

/-- Appends a journal entry: the retained values of `ks` as they stand, and the item of number `q`, 0 for
none (R660). -/
def State.journal (s : State) (ks : List Nat) (q : Nat) : State :=
  let e : JEnt := { num := s.jrn.next, sets := ks.map (fun k => (k, s.ov k)), item := s.item q }
  { s with jrn := { s.jrn with next := s.jrn.next + 1, pending := s.jrn.pending ++ [e] } }

/-! ### Verdict (R222) -/

/-- Records a verdict once, on a device that keeps the ledger (R694, R702): time, count, ITEM_VERDICT, and the record is released (R213, R216). -/
def State.recordVerdict (s : State) (q v : Nat) : State :=
  match s.item q with
  | none => s
  | some it =>
    if it.verdict ≠ 0 ∨ s.pairActive = false then s
    else
      let it2 := { it with verdict := v, verdictTime := s.time, fields := [] }
      (((s.modItem q (fun _ => it2)).inc64 (verdictKey it.lane v)).journal [verdictKey it.lane v] q
        ).event 0x0401 it2.entry

/-- A full verdict store forces the oldest pending item (R222). -/
def State.forceOldest (s : State) : State :=
  let p := s.pendingVerdicts
  if 16384 < p.length then
    match p with
    | it :: _ => (s.recordVerdict it.seq 3).inc32 Od.item_window.verdict_store_forced
    | [] => s
  else s

/-! ### Disposition (R217 to R220) -/

/-- Rank of a terminal cause (R220), 1 the highest; 7 for a normal end. -/
def causeRank (disp reason : Nat) : Nat :=
  if disp = 7 ∨ disp = 8 then 1
  else if disp = 6 ∧ reason = 7 then 2
  else if disp = 9 then 3
  else if disp = 2 then 4
  else if disp = 5 then 5
  else if disp = 6 then 6
  else 7

/-- A cause in the same tracker cycle replaces the one recorded (R220). -/
def outranks (d r d0 r0 : Nat) : Bool :=
  decide (causeRank d r < causeRank d0 r0) ||
  (causeRank d r == 6 && causeRank d0 r0 == 6 && decide (r < r0))

/-- The state an item takes when its disposition is recorded (R216). -/
def Item.afterDisp (it : Item) (disp : Nat) : Nat :=
  if disp ≤ 1 ∨ it.state = 0 ∨ it.allPassed then 4 else 3

/-- Steps of an item that has just closed: NOT_SEEN where no camera serves it, and the store limit
(R222). -/
def State.afterClose (s : State) (it : Item) : State :=
  if it.servCams.isEmpty then s.recordVerdict it.seq 3 else s.forceOldest

/-- T_S has passed: items in flight carry the power cause, and the hold-up record closes them (R216, R656). -/
def State.powerCut (s : State) : Bool :=
  match s.power.stopAt with
  | some p => p.2 = 1
  | none => false

/-- Records the disposition of an item: ledger count, ITEM_CLOSED, and the lifecycle step of R216. A device of a
pair that does not keep the ledger records none (R694, R702). Of two terminal causes in one tracker cycle the higher rank stands (R219, R220). -/
def State.dispose (s : State) (q disp reason : Nat) : State :=
  match s.item q with
  | none => s
  | some it =>
    match it.disp with
    | none =>
      if (s.powerCut && it.inFlight) || !s.pairActive then s
      else
      let st := it.afterDisp disp
      let it2 := { it with disp := some disp, reason := reason, closeTime := s.time,
                           closeCycle := s.now / 4, state := st,
                           slot := if st = 4 then none else it.slot }
      let k := dispKey it.lane disp
      ((((s.modItem q (fun _ => it2)).inc64 k).journal [k] q).event 0x0400 it2.entry).afterClose it2
    | some d0 =>
      if it.closeCycle = s.now / 4 && outranks disp reason d0 it.reason then
        let it2 := { it with disp := some disp, reason := reason }
        let k := dispKey it.lane d0
        let s := (s.modItem q (fun _ => it2)).setn k (s.on k - 1)
        ((s.inc64 (dispKey it.lane disp)).journal [k, dispKey it.lane disp] q).event 0x0400 it2.entry
      else s

/-- Disposes of every item in flight that a test selects. -/
def State.disposeAll (s : State) (p : Item → Bool) (disp reason : Nat) : State :=
  (s.lane.items.filter (fun it => it.inFlight && p it)).foldl
    (fun a it => a.dispose it.seq disp reason) s

/-- A DRAINING item whose last line's tick position has been passed everywhere closes (R216). -/
def State.drain (s : State) (q : Nat) : State :=
  match s.item q with
  | some it =>
    if it.state = 3 && it.allPassed then s.modItem q (fun x => { x with state := 4, slot := none })
    else s
  | none => s

/-- The tracker enters LOST: every DRAINING item closes (R216). -/
def State.drainAll (s : State) : State :=
  s.setItems (s.lane.items.map (fun it =>
    if it.state = 3 then { it with state := 4, slot := none } else it))

/-- The print window ends: MARKED, or MARKED_DEGRADED with a degrade flag (R217). -/
def State.endWindow (s : State) (it : Item) : State :=
  s.dispose it.seq (if it.degSupp || it.degBreak then 1 else 0) 0

/-- Keeps the last 65 536 closed items (R224). -/
def trimItems (l : List Item) : List Item :=
  let closed := (l.filter (fun it => it.state = 4)).length
  if closed ≤ 65536 then l
  else l.eraseP (fun it => it.state = 4)

/-- The next item_sequence, modulo 2^32, skipping 0 (R223). -/
def nextSeq (n : Nat) : Nat := if (n + 1) % 2 ^ 32 = 0 then 1 else (n + 1) % 2 ^ 32

/-- A record number after another, skipping 0 (R208). -/
def nextRecord (n : Nat) : Nat := nextSeq n

/-- The lowest free slot of the 64 (R215). -/
def State.freeSlot (s : State) : Option Nat :=
  (List.range 64).find? (fun i => !s.lane.items.any (fun it => it.slot = some i))

end Sys2Proof.Machine
end

