-- ==== Sys2Proof/Machine/Results.lean ====
section
/-! DEFINITION. Camera results and the verdict they give (R451 to R453): shared by the camera triggers,
the ports and the Inspection Unit. -/

namespace Sys2Proof.Machine

/-- What one camera found on one item (R450, R451). -/
structure Finding where
  /-- camera_verdict: 1 PASS, 2 FAIL, 3 NOT_SEEN -/
  outcome : Nat
  /-- check (R450) -/
  check : Nat
  /-- field of the failing check, 255 for none -/
  field : Nat
  /-- frame_sequence -/
  frameSeq : Nat
  /-- settings_set_id -/
  setId : Nat
  /-- cross-web offset in µm -/
  dx : Int
  /-- along-web offset in µm -/
  dy : Int
  /-- rotation in thousandths of a degree -/
  rot : Int
  /-- score -/
  score : Nat
  /-- worst_grade -/
  grade : Nat
  /-- worst_mismatch -/
  mismatch : Nat
  /-- streaks -/
  streaks : Nat
  deriving DecidableEq, Repr

/-- A finding without an image: NOT_SEEN or FAIL with its check (R450). -/
def Finding.bare (outcome check : Nat) : Finding :=
  { outcome := outcome, check := check, field := 255, frameSeq := 0, setId := 0, dx := 0, dy := 0, rot := 0,
    score := 0, grade := 255, mismatch := 0, streaks := 0 }

/-- The 48-byte inspection result (R451). -/
def Finding.encode (f : Finding) (item cam time : Nat) : List Byte :=
  leBytes 4 item ++ leBytes 1 cam ++ leBytes 1 f.outcome ++ leBytes 1 f.check ++ leBytes 1 f.field ++
  leBytes 4 f.frameSeq ++ leBytes 2 f.setId ++ leBytes 2 0 ++ leBytes 4 (patternOf 32 f.dx) ++
  leBytes 4 (patternOf 32 f.dy) ++ leBytes 2 (patternOf 16 f.rot) ++ leBytes 1 f.score ++
  leBytes 1 f.grade ++ leBytes 2 f.mismatch ++ leBytes 2 f.streaks ++ leBytes 8 time ++ leBytes 8 0

/-- The camera_verdict a camera has given for an item, if any. -/
def State.camVerdict (s : State) (q cam : Nat) : Option Nat :=
  (s.lane.results.find? (fun r => r.item = q && r.cam = cam)).map (fun r => r.outcome)

/-- The verdict the serving cameras' results give, if any (R452). -/
def State.verdictOf (s : State) (it : Item) : Option Nat :=
  let v := it.servCams.map (fun c => s.camVerdict it.seq c)
  if v.any (fun x => x = some 2) then some 2
  else if v.isEmpty || v.any (fun x => x = none) then none
  else if v.all (fun x => x = some 1) then some 1
  else some 3

/-- Counts one camera result (R478). -/
def State.countResult (s : State) (q : Nat) (f : Finding) : State :=
  if f.outcome = 1 then s.inc64 Od.inspection_status.results_pass
  else if f.outcome = 2 then
    ((s.inc64 Od.inspection_status.results_fail).setn Od.inspection_status.last_fail_check f.check).setn
      Od.inspection_status.last_fail_item q
  else s.inc64 Od.inspection_status.results_not_seen

/-- The result buffer with the oldest results dropped beyond its 65 536. -/
def newestResults (l : List CamResult) : List CamResult :=
  if 65536 < l.length then l.drop (l.length - 65536) else l

/-- A result enters the result buffer. -/
def State.addResult (s : State) (r : CamResult) : State :=
  { s with lane := { s.lane with results := newestResults (s.lane.results ++ [r]) } }

/-- A camera's result for an item: recorded, counted, pushed when it is FAIL, and the verdict follows by
R452. A result for an item whose verdict stands is discarded and counted (R453, R475). -/
def State.camResult (s : State) (q cam : Nat) (f : Finding) : State :=
  match s.item q with
  | none => s.inc32 Od.inspection_status.late_results
  | some it =>
    if it.verdict ≠ 0 then s.inc32 Od.inspection_status.late_results
    else if !it.servCams.contains cam || (s.camVerdict q cam).isSome then s
    else
      let b := f.encode q cam s.time
      let s := s.addResult ⟨q, cam, f.outcome, b⟩
      let s := s.countResult q f
      let s := if f.outcome = 2 then s.event 0x4804 b else s
      match s.verdictOf it with
      | some v => s.recordVerdict q v
      | none => s

end Sys2Proof.Machine
end

