-- ==== Sys2Proof/Machine/Cams.lean ====
section
/-! DEFINITION. Camera ports as every block sees them: the queue of pending triggers, lost triggers, frame
metadata and the archive store (R451, R458, R493, R496, R513, R514, R516). -/

namespace Sys2Proof.Machine

/-- A camera port. -/
def State.cam (s : State) (c : Nat) : CamSt := s.img.cams.toList.getD c CamSt.reset

/-- Replaces a camera port. -/
def State.setCam (s : State) (c : Nat) (x : CamSt) : State :=
  { s with img := { s.img with cams := s.img.cams.setIfInBounds c x } }

/-- A bar whose frame from a camera will not be evaluated (R458). -/
def State.barUnseen (s : State) (number cam : Nat) : State :=
  match s.insp.bars.find? (fun q => q.2.number = number) with
  | none => s
  | some q =>
    let b := { q.2 with evaluated := q.2.evaluated ++ [cam] }
    let s := s.inc32 (Od.test_bar.bars_unseen q.1)
    let done := (List.range 4).all (fun c => !bitAt b.cams c || b.evaluated.contains c)
    { s with insp := { s.insp with bars := s.insp.bars.filterMap (fun y =>
      if y.2.number = number then (if done then none else some (y.1, b)) else some y) } }

/-! ### Metadata and the archive store -/

/-- The fields of the frame metadata (R516). -/
structure FrameInfo where
  /-- camera -/
  cam : Nat
  /-- stream: 0 INSP, 1 VIEW, 2 ARCH, 3 STAT -/
  stream : Nat
  /-- frame_sequence -/
  seq : Nat
  /-- settings_set_id -/
  setId : Nat
  /-- csi_frame_number -/
  num : Nat
  /-- trigger_kind -/
  kind : Nat
  /-- sample_bits -/
  bits : Nat
  /-- flags -/
  flags : Nat
  /-- trigger_id -/
  ident : Nat
  /-- width_px -/
  width : Nat
  /-- height_lines -/
  height : Nat
  /-- trigger_time -/
  trigTime : Nat
  /-- exposure_start -/
  expTime : Nat
  /-- frame_end_time -/
  endTime : Nat
  /-- lines_received -/
  received : Nat
  /-- lines_padded -/
  padded : Nat
  /-- lines_cut -/
  cut : Nat
  /-- line_px_min -/
  minPx : Nat
  /-- line_px_max -/
  maxPx : Nat
  /-- corrupt_lines -/
  corrupt : Nat
  deriving DecidableEq, Repr

/-- The 64 bytes of the metadata (R516). -/
def FrameInfo.encode (i : FrameInfo) : List Byte :=
  let b := leBytes 2 0x464D ++ leBytes 1 i.cam ++ leBytes 1 i.stream ++ leBytes 4 i.seq ++
    leBytes 2 i.setId ++ leBytes 2 i.num ++ leBytes 1 i.kind ++ leBytes 1 i.bits ++ leBytes 2 i.flags ++
    leBytes 4 i.ident ++ leBytes 2 i.width ++ leBytes 2 i.height ++ leBytes 8 i.trigTime ++
    leBytes 8 i.expTime ++ leBytes 8 i.endTime ++ leBytes 2 (min i.received 65535) ++
    leBytes 2 (min i.padded 65535) ++ leBytes 2 (min i.cut 65535) ++ leBytes 2 i.minPx ++
    leBytes 2 i.maxPx ++ leBytes 2 (min i.corrupt 65535)
  b ++ leBytes 4 (crc32c b)

/-- The bytes of one part of an archive image (R513). -/
def ArchPart.encode (p : ArchPart) : List Byte :=
  p.metadata ++ leBytes 4 p.stream.length ++ leBytes 4 p.crc ++ padMul 4 p.stream

/-- An archive image of an item from its parts, in camera order (R513). -/
def archImage (q : Nat) (ps : List ArchPart) : List Byte :=
  let body := (List.range 4).flatMap (fun c =>
    ((ps.filter (fun p => p.cam = c)).take 1).flatMap ArchPart.encode)
  leBytes 2 0x4941 ++ leBytes 1 1 ++ leBytes 1 ps.length ++ leBytes 4 q ++ leBytes 4 (16 + body.length) ++
  leBytes 4 0 ++ body

/-- The counts of the archive store follow its content (R525). -/
def State.archCounts (s : State) : State :=
  (s.setn Od.archive_store.arch_images_held s.img.store.length).setn Od.archive_store.arch_bytes_held
    ((s.img.store.map (fun p => p.2.length)).sum)

/-- Frees the oldest images until `n` bytes fit; with the number freed (R514). -/
def freeOldest (cap n : Nat) : List (Nat × List Byte) → List (Nat × List Byte) × Nat
  | [] => ([], 0)
  | x :: xs =>
    if n + ((x :: xs).map (fun p => p.2.length)).sum ≤ cap then (x :: xs, 0)
    else
      let r := freeOldest cap n xs
      (r.1, r.2 + 1)

/-- Stores an image, frees for it, or refuses it (R514). -/
def State.archStore (s : State) (q : Nat) (img : List Byte) : State :=
  let cap := s.on Od.archive_store.arch_store_mib * 2 ^ 20
  let used := (s.img.store.map (fun p => p.2.length)).sum
  let put := fun (l : List (Nat × List Byte)) =>
    ({ s with img := { s.img with store := l ++ [(q, img)] } } : State).archCounts
  if used + img.length ≤ cap then put s.img.store
  else if s.on Od.archive_store.arch_full_action = 0 ∧ img.length ≤ cap then
    let r := freeOldest cap img.length s.img.store
    (put r.1).bump Od.archive_store.arch_overwritten 64 r.2
  else s.inc32 Od.archive_store.arch_refused

/-- A camera's part of an item's archive image is known; with the last of the serving cameras the image is
assembled (R513). No image is made when no serving camera had its ARCH stream on. -/
def State.archPart (s : State) (q : Nat) (p : ArchPart) : State :=
  match s.item q with
  | none => s
  | some it =>
    let ps := s.img.parts ++ [(q, p)]
    let mine := (ps.filter (fun x => x.1 = q)).map (fun x => x.2)
    if it.servCams.all (fun c => mine.any (fun x => x.cam = c)) then
      let s : State := { s with img := { s.img with parts := ps.filter (fun x => x.1 ≠ q) } }
      let serving := mine.filter (fun x => it.servCams.contains x.cam)
      if serving.any (fun x => x.wanted) then s.archStore q (archImage q serving) else s
    else { s with img := { s.img with parts := ps } }

/-- The part of a camera whose trigger was lost: stream_length 0 and flag [7] (R513). -/
def State.archLost (s : State) (c q : Nat) (pulse expose : Nat) : State :=
  let i : FrameInfo :=
    { cam := c, stream := 2, seq := 0, setId := 0, num := 0, kind := 1, bits := 8, flags := 0x80, ident := q,
      width := 0, height := 0, trigTime := ptpAt s.net.ptp pulse, expTime := ptpAt s.net.ptp expose,
      endTime := 0, received := 0, padded := 0, cut := 0, minPx := 0, maxPx := 0, corrupt := 0 }
  s.archPart q ⟨c, i.encode, 0, [], s.ob (Od.camera_streams.arch_enable c)⟩

/-! ### Pending triggers -/

/-- A pending trigger is lost: an item's camera reports FRAME_NOT_INSPECTED, a bar is unseen (R493, R496).
Its archive part is not stored (R513), and temporal noise reduction restarts (R507). -/
def State.loseTrigger (s : State) (c : Nat) (p : CamPend) : State :=
  let s := s.inc32 (Od.csi_port.frames_lost c)
  let s := s.setCam c { s.cam c with prev := [] }
  if p.kind = 1 then (s.camResult p.ident c (Finding.bare 3 2)).archLost c p.ident p.pulse p.expose
  else s.barUnseen p.ident c

/-- A pulse enters the port's queue; the oldest trigger is lost when a fifth enters (R493). -/
def State.queueFrame (s : State) (c : Nat) (p : CamPend) : State :=
  let x := s.cam c
  let q := x.queue ++ [p]
  let s := s.setCam c { x with queue := q.drop (q.length - 4), since := x.since + 1 }
  (q.take (q.length - 4)).foldl (fun a o => a.loseTrigger c o) s

end Sys2Proof.Machine
end

