-- ==== Sys2Proof/Machine/Mem.lean ====
section
/-! DEFINITION. Memory: one byte list in canonical form over the device address map (R346), the layout of
the Couch Store (R330, R331), and the reads and writes every block makes. -/

namespace Sys2Proof.Machine

/-- What an address that is not listed reads as: zero, as SCRUB leaves every word of the Couch Store
(R329); for the other memories see assumption log entry 12. -/
def memDefault : Byte := 0

/-- The byte at an address. -/
def memGet : List Host.Cell → Nat → Byte
  | [], _ => memDefault
  | c :: cs, a => if c.1 = a then c.2 else memGet cs a

/-- `n` bytes from an address. -/
def memRange (cs : List Host.Cell) (a : Nat) : Nat → List Byte
  | 0 => []
  | n + 1 => memGet cs a :: memRange cs (a + 1) n

/-- The cells that a byte string makes at an address: those that differ from the unlisted value. -/
def memCells : Nat → List Byte → List Host.Cell
  | _, [] => []
  | a, b :: bs => if b = memDefault then memCells (a + 1) bs else (a, b) :: memCells (a + 1) bs

/-- The cells with a range replaced by a byte string. -/
def memPut (cs : List Host.Cell) (a : Nat) (bs : List Byte) : List Host.Cell :=
  cs.filter (fun c => decide (c.1 < a)) ++ memCells a bs ++
  cs.filter (fun c => decide (a + bs.length ≤ c.1))

/-- Addresses rise strictly from `lo` on, and no cell holds the unlisted value. -/
def memSorted : Nat → List Host.Cell → Bool
  | _, [] => true
  | lo, c :: cs => decide (lo ≤ c.1) && decide (c.2 ≠ memDefault) && memSorted (c.1 + 1) cs

/-- The canonical form. -/
def Memory.wf (m : MemSt) : Bool := memSorted 0 m.cells

/-- The byte of the device at an address. -/
def State.byteAt (s : State) (a : Nat) : Byte := memGet s.mem.cells a

/-- `n` bytes of the device from an address. -/
def State.load (s : State) (a n : Nat) : List Byte := memRange s.mem.cells a n

/-- Writes bytes at an address. -/
def State.store (s : State) (a : Nat) (bs : List Byte) : State :=
  { s with mem := { s.mem with cells := memPut s.mem.cells a bs } }

/-- Base of a ring in the Couch Store (R330). -/
def ringBase (ring : Nat) : Nat := 0x300000 * ring

/-- Bytes of a line (R331). -/
abbrev lineBytes : Nat := 12288

/-- Address of line n of a ring (R331). -/
def lineAddr (ring : Nat) (n : Int) : Nat := ringBase ring + lineBytes * (n % 256).toNat

/-- Address of the tag of line n of a ring (R331). -/
def tagAddr (ring : Nat) (n : Int) : Nat := 0x1200000 + 0x1000 * ring + 16 * (n % 256).toNat

/-- The DRAM base of the device address map (R346). -/
abbrev dramBase : Nat := 0x400000000

/-- The DRAM is frozen (R342). -/
def State.frozen (s : State) : Bool := s.on Od.dram_status.dram_state = 3

/-- An uncorrectable error met at an offset of the Couch Store by a requester of R321 (R328). -/
def State.couchBad (s : State) (offset requester : Nat) : State :=
  ((s.inc32 Od.couch_store_status.couch_ecc_uncorrectable).setn Od.couch_store_status.last_ecc_offset
    (offset % 2 ^ 25)).setn Od.couch_store_status.last_ecc_requester requester

end Sys2Proof.Machine
end

