-- ==== Sys2Proof/Machine/Dates.lean ====
section
/-! DEFINITION. Dates and numbers as text: the civil calendar, local time (R252, R253, R256), the picture
tokens (R254), and digits. -/

namespace Sys2Proof.Machine

/-- `n` decimal digits of a number, least significant first; `base` at most 16. -/
def digitsRev : Nat → Nat → Nat → List Nat
  | 0, _, _ => []
  | fuel + 1, base, n => if n < base then [n] else n % base :: digitsRev fuel base (n / base)

/-- ASCII of a digit, upper-case above 9 (R245). -/
def digitByte (d : Nat) : Byte := byteOf (if d < 10 then 0x30 + d else 0x37 + d)

/-- A number in ASCII digits. -/
def numText (base n : Nat) : List Byte := ((digitsRev 70 base n).reverse).map digitByte

/-- A number padded with leading zeros to `w` digits. -/
def padNum (w n : Nat) : List Byte :=
  let t := numText 10 n
  List.replicate (w - t.length) 0x30 ++ t

/-- A leap year. -/
def isLeap (y : Int) : Bool := decide (y % 4 = 0) && (decide (y % 100 ≠ 0) || decide (y % 400 = 0))

/-- Days of a month, 1 to 12. -/
def monthDays (y : Int) (m : Nat) : Nat :=
  if m = 2 then (if isLeap y then 29 else 28)
  else if m = 4 ∨ m = 6 ∨ m = 9 ∨ m = 11 then 30
  else 31

/-- Days from 1970-01-01 to a date of the civil calendar. -/
def daysOf (y : Int) (m d : Nat) : Int :=
  let y := if m ≤ 2 then y - 1 else y
  let era := y / 400
  let yoe := y - era * 400
  let mp : Int := if m > 2 then m - 3 else m + 9
  let doy := (153 * mp + 2) / 5 + d - 1
  era * 146097 + (yoe * 365 + yoe / 4 - yoe / 100 + doy) - 719468

/-- A date. -/
structure Date where
  /-- year -/
  y : Int
  /-- month, 1 to 12 -/
  m : Nat
  /-- day, 1 to 31 -/
  d : Nat
  deriving DecidableEq, Repr

/-- The date of a day number. -/
def dateOf (days : Int) : Date :=
  let z := days + 719468
  let era := z / 146097
  let doe := z - era * 146097
  let yoe := (doe - doe / 1460 + doe / 36524 - doe / 146096) / 365
  let doy := doe - (365 * yoe + yoe / 4 - yoe / 100)
  let mp := (5 * doy + 2) / 153
  let d := (doy - (153 * mp + 2) / 5 + 1).toNat
  let m := (if mp < 10 then mp + 3 else mp - 9).toNat
  { y := yoe + era * 400 + (if m ≤ 2 then 1 else 0), m := m, d := d }

/-- Day number of a date. -/
def Date.days (x : Date) : Int := daysOf x.y x.m x.d

/-- Weekday of a day number, 0 for Sunday. -/
def weekday (days : Int) : Nat := ((days + 4) % 7).toNat

/-- Weekday as ISO 8601-1 numbers it, 1 for Monday. -/
def isoWeekday (days : Int) : Nat := if weekday days = 0 then 7 else weekday days

/-- ISO week-based year and week of a day (R254). -/
def isoWeek (days : Int) : Int × Nat :=
  let thursday := days + 4 - isoWeekday days
  let y := (dateOf thursday).y
  (y, ((thursday - daysOf y 1 1) / 7 + 1).toNat)

/-- The local instant, in seconds from 1970, at which a zone rule applies in a year (R256). -/
def ruleInstant (y : Int) (rule : Nat) : Int :=
  let m := field rule 3 0
  let w := field rule 6 4
  let wd := field rule 9 7
  let first := daysOf y m 1
  let off := (wd + 7 - weekday first) % 7
  let day := off + 7 * (w - 1)
  let day := if monthDays y m ≤ day then day - 7 else day
  (first + day) * 86400 + 60 * (field rule 20 10 : Nat)

/-- Offset of local time from UTC in seconds at a UTC instant (R252, R256). -/
def zoneOffset (std dst : Int) (start stop : Nat) (utc : Int) : Int :=
  let y := (dateOf ((utc + 60 * std) / 86400)).y
  let a := ruleInstant y start - 60 * std
  let b := ruleInstant y stop - 60 * (std + dst)
  let inForce :=
    if start = 0 ∧ stop = 0 then false
    else if a < b then decide (a ≤ utc) && decide (utc < b)
    else decide (a ≤ utc) || decide (utc < b)
  60 * std + (if inForce then 60 * dst else 0)

/-- Moves a date by months; a day beyond the month's end becomes its last day (R253). -/
def addMonths (x : Date) (k : Int) : Date :=
  let n := x.y * 12 + (x.m - 1 : Int) + k
  let y := n / 12
  let m := (n % 12).toNat + 1
  { y := y, m := m, d := min x.d (monthDays y m) }

/-- What R253 needs: the steps of a DATE field. -/
structure DateRule where
  /-- offset_months -/
  months : Int
  /-- offset_days -/
  days : Int
  /-- rounding -/
  rounding : Nat
  /-- day_start_hour -/
  dayStart : Nat
  /-- offset_seconds -/
  seconds : Int
  deriving DecidableEq, Repr

/-- The computed day number and second of the day (R253). -/
def DateRule.apply (r : DateRule) (localSec : Int) : Int × Nat :=
  let t := localSec + r.seconds
  let sod := (t % 86400).toNat
  let d := t / 86400 - (if sod / 3600 < r.dayStart then 1 else 0)
  let d := (addMonths (dateOf d) r.months).days + r.days
  let x := dateOf d
  let d := if r.rounding = 1 then daysOf x.y x.m (monthDays x.y x.m)
    else if r.rounding = 2 then daysOf x.y x.m 1 else d
  (d, sod)

/-- One picture token; none for an unknown one (R254). `months` holds the month table. -/
def dateToken (months : List Byte) (days : Int) (sod : Nat) (c : Nat) : Option (List Byte) :=
  let x := dateOf days
  if c = 0x59 then some (padNum 4 (x.y % 10000).toNat)
  else if c = 0x79 then some (padNum 2 (x.y % 100).toNat)
  else if c = 0x6D then some (padNum 2 x.m)
  else if c = 0x64 then some (padNum 2 x.d)
  else if c = 0x6A then some (padNum 3 (days - daysOf x.y 1 1 + 1).toNat)
  else if c = 0x48 then some (padNum 2 (sod / 3600))
  else if c = 0x4D then some (padNum 2 (sod / 60 % 60))
  else if c = 0x53 then some (padNum 2 (sod % 60))
  else if c = 0x47 then some (padNum 4 ((isoWeek days).1 % 10000).toNat)
  else if c = 0x56 then some (padNum 2 (isoWeek days).2)
  else if c = 0x75 then some (padNum 1 (isoWeekday days))
  else if c = 0x62 then
    if months.isEmpty then none else some ((slice (8 * (x.m - 1)) 8 months).filter (fun b => b ≠ 0))
  else if c = 0x25 then some [0x25]
  else none

/-- The picture with its tokens replaced; none when a token is unknown (R254). -/
def datePicture (months : List Byte) (days : Int) (sod : Nat) : List Byte → Option (List Byte)
  | [] => some []
  | [b] => if b = 0x25 then none else some [b]
  | b :: c :: rest =>
    if b = 0x25 then
      match dateToken months days sod c.toNat, datePicture months days sod rest with
      | some x, some y => some (x ++ y)
      | _, _ => none
    else (datePicture months days sod (c :: rest)).map (b :: ·)

end Sys2Proof.Machine
end

