-- ==== Sys2Proof/Machine/Krf.lean ====
section
/-! DEFINITION. The Kevoud Run Format (R299 to R303): the decoder as a machine that takes one whole token
at a time and gives out whole lines, and the encoder, whose choice of tokens is the device's. A line is a
list of drop levels, one per pixel. -/

namespace Sys2Proof.Machine

/-- The four pixels of a byte in R240 packing, first pixel in bits [1:0]. -/
def bytePixels (b : Byte) : List Nat :=
  let n := b.toNat
  [n % 4, n / 4 % 4, n / 16 % 4, n / 64 % 4]

/-- Pixels packed four to a byte; missing pixels of the last byte are level 0 (R302). -/
def packPixels : List Nat → List Byte
  | [] => []
  | [a] => [byteOf a]
  | [a, b] => [byteOf (a + 4 * b)]
  | [a, b, c] => [byteOf (a + 4 * b + 16 * c)]
  | a :: b :: c :: d :: r => byteOf (a + 4 * b + 16 * c + 64 * d) :: packPixels r

/-- The first `w` pixels of packed bytes. -/
def unpackPixels (w : Nat) (bs : List Byte) : List Nat := (bs.flatMap bytePixels).take w

/-- The decoder at the start of a stream of width `w`: the line above is all level 0 (R300). -/
def KrfSt.start (w : Nat) : KrfSt :=
  { line := [], atStart := true, above := List.replicate w 0, lines := 0, mustEnd := false,
    ended := false }

/-- What one token does: the bytes it takes, the decoder after it, and the line it completes. -/
inductive KrfStep where
  /-- the token is not whole in the input -/
  | more
  /-- an error of R298 -/
  | bad (status : Nat)
  /-- a token read in full -/
  | took (n : Nat) (st : KrfSt) (out : Option (List Nat))
  deriving DecidableEq, Repr

/-- Writes pixels on the current line; beyond its end is KRF_OVERRUN (R301). -/
def KrfSt.write (st : KrfSt) (w n : Nat) (px : List Nat) : KrfStep :=
  if st.mustEnd then .bad 0x06
  else if w < st.line.length + px.length then .bad 0x06
  else .took n { st with line := st.line ++ px, atStart := false } none

/-- Ends the line with the given rest. -/
def KrfSt.endLine (st : KrfSt) (n : Nat) (l : List Nat) : KrfStep :=
  .took n { st with line := [], atStart := true, above := l, lines := st.lines + 1,
                    mustEnd := false } (some l)

/-- One token at the front of the input (R299 to R301), for a stream of width `w` and `h` lines. -/
def krfStep (w h : Nat) (st : KrfSt) (inp : List Byte) : KrfStep :=
  match inp with
  | [] => .more
  | b0 :: rest =>
    let b := b0.toNat
    if b = 0xFF then
      if st.lines = h ∧ st.atStart then .took 1 { st with ended := true } none
      else if st.atStart then .bad 0x07 else .bad 0x05
    else if st.lines = h then .bad 0x07
    else if b < 0x40 then st.write w 1 (List.replicate (b % 16 + 1) (b / 16 % 4))
    else if b < 0x80 then
      match rest with
      | [] => .more
      | b1 :: _ => st.write w 2 (List.replicate (b % 16 * 256 + b1.toNat + 1) (b / 16 % 4))
    else if b < 0xC0 then
      let n := b % 64 + 1
      if rest.length < n then .more
      else
        let px := (rest.take n).flatMap bytePixels
        let room := w - st.line.length
        if px.length ≤ room ∨ st.mustEnd then st.write w (1 + n) px
        else if (px.drop room).all (fun p => p = 0) then
          match rest.drop n with
          | [] => .took (1 + n) { st with line := st.line ++ px.take room, atStart := false,
                                          mustEnd := true } none
          | e :: _ =>
            if e.toNat = 0xE0 ∨ e.toNat = 0xE1 then
              .took (1 + n) { st with line := st.line ++ px.take room, atStart := false,
                                      mustEnd := true } none
            else .bad 0x06
        else .bad 0x06
    else if b < 0xD0 then
      match rest with
      | [] => .more
      | b1 :: _ =>
        let n := b % 16 * 256 + b1.toNat + 1
        if w < st.line.length + n then .bad 0x06
        else st.write w 2 ((st.above.drop st.line.length).take n)
    else if b = 0xD0 then
      if st.atStart then st.endLine 1 st.above else .bad 0x05
    else if b = 0xE0 then
      st.endLine 1 (st.line ++ List.replicate (w - st.line.length) 0)
    else if b = 0xE1 then st.endLine 1 (st.line ++ st.above.drop st.line.length)
    else .bad 0x05

/-- Decodes a whole stream into its lines; none on any error (R299 to R302). `fuel` bounds the tokens. -/
def krfDecodeGo (w h : Nat) : Nat → KrfSt → List Byte → List (List Nat) → Option (List (List Nat))
  | 0, _, _, _ => none
  | fuel + 1, st, inp, acc =>
    if st.ended then (if inp.isEmpty then some acc.reverse else none)
    else match krfStep w h st inp with
      | .more => none
      | .bad _ => none
      | .took n st' out =>
        krfDecodeGo w h fuel st' (inp.drop n)
          (match out with | some l => l :: acc | none => acc)

/-- The lines of a whole KRF stream of width `w` and `h` lines. -/
def krfDecode (w h : Nat) (bs : List Byte) : Option (List (List Nat)) :=
  krfDecodeGo w h (bs.length + 2) (KrfSt.start w) bs []

/-- One line as literals (R299): a valid encoding of the longest allowed length (R303). -/
def krfLiteral : Nat → List Byte → List Byte
  | 0, _ => [0xE0]
  | fuel + 1, bs =>
    if bs.isEmpty then [0xE0]
    else
      let c := bs.take 64
      byteOf (0x80 + c.length - 1) :: c ++ krfLiteral fuel (bs.drop 64)

/-- Whether bytes are one KRF line that decodes to `l` below `above`, within the bound of R303. -/
def krfLineOk (above l : List Nat) (enc : List Byte) : Bool :=
  let w := l.length
  decide (enc.length ≤ ceilDiv w 4 + ceilDiv w 256 + 1) &&
  decide (krfDecodeGo w 1 (enc.length + 3) { KrfSt.start w with above := above } (enc ++ [0xFF]) []
    = some [l])

/-- The tokens the device chooses for a line (R303): its choice where that is a valid encoding, which
the spec promises, and literals otherwise. -/
def krfEncodeLine (above l : List Nat) : List Byte :=
  let c := Config.krfLine above l
  if krfLineOk above l c then c else krfLiteral (l.length + 1) (packPixels l)

end Sys2Proof.Machine
end

