-- ==== Sys2Proof/Machine/Mould.lean ====
section
/-! DEFINITION. Moulds and glyph sets (spec/07): where their fields stand (R239 to R245, R258), the checks a
commit makes (R235), and the versions of the resource store (R236 to R238). -/

namespace Sys2Proof.Machine

/-! ### Mould header and descriptors -/

/-- Along-web lines per inch of a code (R85). -/
def lpiOfCode (c : Nat) : Nat := if c = 0 then 300 else if c = 1 then 600 else if c = 2 then 1200 else 2400

/-- plane_mask (R239). -/
def moPlanes (m : List Byte) : Nat := leAt m 6 1
/-- field_count (R239). -/
def moFields (m : List Byte) : Nat := leAt m 7 1
/-- mould_revision (R239). -/
def moRevision (m : List Byte) : Nat := leAt m 8 4
/-- width_px (R239). -/
def moWidth (m : List Byte) : Nat := leAt m 12 4
/-- height_lines (R239). -/
def moHeight (m : List Byte) : Nat := leAt m 16 4
/-- origin_x_px (R239). -/
def moOrigin (m : List Byte) : Int := signedOf 32 (leAt m 20 4)
/-- total_length (R239). -/
def moTotal (m : List Byte) : Nat := leAt m 36 4

/-- `n` bytes at offset `o` of descriptor `j` (R242). -/
def fld (m : List Byte) (j o n : Nat) : Nat := leAt m (leAt m 24 4 + 64 * j + o) n

/-- Bytes of the data area (R239). -/
def moData (m : List Byte) (off len : Nat) : List Byte := slice (leAt m 28 4 + off) len m

/-- Kind of field j (R243). -/
def fKind (m : List Byte) (j : Nat) : Nat := fld m j 1 1
/-- Drop level of field j on plane p (R242). -/
def fLevel (m : List Byte) (j p : Nat) : Nat := fld m j 2 1 / 4 ^ p % 4
/-- draw byte (R242). -/
def fDraw (m : List Byte) (j : Nat) : Nat := fld m j 3 1
/-- box origin, columns -/
def fX (m : List Byte) (j : Nat) : Nat := fld m j 4 4
/-- box origin, lines -/
def fY (m : List Byte) (j : Nat) : Nat := fld m j 8 4
/-- box width -/
def fW (m : List Byte) (j : Nat) : Nat := fld m j 12 2
/-- box height -/
def fH (m : List Byte) (j : Nat) : Nat := fld m j 14 2
/-- Rotation 0 to 3 in quarter turns (R242). -/
def fRot (m : List Byte) (j : Nat) : Nat := field (fDraw m j) 4 3
/-- Default value (R242). -/
def fDefault (m : List Byte) (j : Nat) : List Byte := moData m (fld m j 18 2) (fld m j 20 2)
/-- overflow is ERROR (R242). -/
def fErr (m : List Byte) (j : Nat) : Bool := fld m j 17 1 = 1

/-- The static layer of a plane, decoded; lines of level 0 where the plane has none (R240). -/
def moLayer (m : List Byte) (p : Nat) : Option (List (List Nat)) :=
  let off := leAt m (64 + 16 * p) 4
  if off = 0 then some []
  else krfDecode (moWidth m) (moHeight m) (slice off (leAt m (68 + 16 * p) 4) m)

/-- The decoded layer in the packing of R240. -/
def packLayer (ls : List (List Nat)) : List Byte := ls.flatMap packPixels

/-- Fields whose kind draws in a glyph set. -/
def usesSet (k : Nat) : Bool := k = 1 || k = 2 || k = 3 || k = 4 || k = 7

/-- The references of a value: the bytes that follow 16#1B, but for 16#FF (R247). -/
def refsOf : List Byte → List Nat
  | [] => []
  | [_] => []
  | b :: c :: rest =>
    if b = 0x1B then (if c = 0xFF then refsOf rest else c.toNat :: refsOf rest)
    else refsOf (c :: rest)

/-- A kind whose value holds references (R246). -/
def hasRefs (m : List Byte) (j : Nat) : Bool :=
  let k := fKind m j
  k = 1 || k = 5 || (k = 6 && !bitAt (fld m j 41 1) 2)

/-! ### Commit checks of a mould (R235) -/

/-- The limit of height_lines (R241). -/
def heightLimit (lpi : Nat) : Nat := (roundDiv (2048 * lpi * 10) 254).toNat

/-- HEADER of R235 holds good. -/
def moHeaderOk (m : List Byte) : Bool :=
  let ft := leAt m 24 4
  let da := leAt m 28 4
  let dl := leAt m 32 4
  decide (128 ≤ m.length) && decide (leAt m 0 2 = 0x4D4B) && decide (leAt m 2 1 = 1) &&
  decide (leAt m 3 1 ≤ 3) && decide (moPlanes m < 16) && decide (moFields m ≤ 64) &&
  decide (moTotal m = m.length) && decide (ft % 4 = 0) && decide (da % 4 = 0) &&
  decide (dl ≤ 65536) && decide (ft + 64 * moFields m ≤ m.length) && decide (da + dl ≤ m.length) &&
  (List.range 4).all (fun p =>
    decide (leAt m (64 + 16 * p) 4 + leAt m (68 + 16 * p) 4 ≤ m.length))

/-- GEOMETRY of a mould: its size, and for field j its box and its data offsets. -/
def moSizeOk (m : List Byte) : Bool :=
  decide (1 ≤ moWidth m) && decide (moWidth m ≤ 49152) && decide (1 ≤ moHeight m) &&
  decide (moHeight m ≤ heightLimit (lpiOfCode (leAt m 3 1)))

/-- GEOMETRY of field j. -/
def fBoxOk (m : List Byte) (j : Nat) : Bool :=
  decide (1 ≤ fW m j) && decide (1 ≤ fH m j) && decide (fX m j + fW m j ≤ moWidth m) &&
  decide (fY m j + fH m j ≤ moHeight m) && decide (fld m j 18 2 + fld m j 20 2 ≤ leAt m 32 4) &&
  (fKind m j ≠ 3 || decide (fld m j 56 2 + fld m j 58 2 ≤ leAt m 32 4) &&
    (fld m j 60 2 = 0xFFFF || decide (fld m j 60 2 + 96 ≤ leAt m 32 4)))

/-- LAYER of plane p: it decodes, its CRC-32C agrees, and it lies on a plane of plane_mask. -/
def layerOk (m : List Byte) (p : Nat) : Bool :=
  leAt m (64 + 16 * p) 4 = 0 ||
  bitAt (moPlanes m) p && (match moLayer m p with
    | some ls => decide (ls.length = moHeight m) &&
        decide (crc32c (packLayer ls) = leAt m (72 + 16 * p) 4)
    | none => false)

/-- The text render block (R244). -/
def textBlockOk (m : List Byte) (j : Nat) : Bool :=
  decide (fld m j 32 1 ≤ 31) && decide (1 ≤ fld m j 36 2) && decide (fld m j 36 2 ≤ 1024) &&
  decide (1 ≤ fld m j 40 2) && decide (fld m j 40 2 ≤ 1024)

/-- The month table of a DATE field; empty for none. -/
def monthTable (m : List Byte) (j : Nat) : List Byte :=
  if fld m j 60 2 = 0xFFFF then [] else moData m (fld m j 60 2) 96

/-- The picture of a DATE field. -/
def picture (m : List Byte) (j : Nat) : List Byte := moData m (fld m j 56 2) (fld m j 58 2)

/-- The kind-specific bytes lie inside their encoding (R244, R245, R262). -/
def kindOk (m : List Byte) (j : Nat) : Bool :=
  let k := fKind m j
  if k = 1 then textBlockOk m j
  else if k = 2 then
    textBlockOk m j && decide (fld m j 44 1 ≤ 63) && decide (1 ≤ fld m j 46 1) &&
    decide (fld m j 46 1 ≤ 20)
  else if k = 3 then
    textBlockOk m j && decide (fld m j 44 1 ≤ 2) &&
    decide (fld m j 45 1 ≤ 7 ∨ fld m j 45 1 = 255) && decide (fld m j 50 1 ≤ 2) &&
    decide (fld m j 51 1 ≤ 23) && decide (1 ≤ fld m j 58 2) && decide (fld m j 58 2 ≤ 64) &&
    (datePicture (monthTable m j) 0 0 (picture m j)).isSome
  else if k = 4 then textBlockOk m j && decide (fld m j 44 1 ≤ 3)
  else if k = 5 then
    let sy := fld m j 32 1
    decide (1 ≤ sy) && decide (sy ≤ 5) && decide (1 ≤ fld m j 33 1) && decide (fld m j 33 1 ≤ 32) &&
    decide (if sy = 5 then 20 ≤ fld m j 34 1 ∧ fld m j 34 1 ≤ 30 else fld m j 34 1 = 0) &&
    decide (fld m j 36 1 < fld m j 33 1)
  else if k = 6 then
    decide (0x10 ≤ fld m j 32 1) && decide (fld m j 32 1 ≤ 0x12) &&
    decide (fld m j 32 1 ≠ 0x12 ∨ (fld m j 33 1 ≤ 40 ∧ fld m j 34 1 = 0 ∧ fld m j 35 1 ≤ 3)) &&
    decide (fld m j 32 1 = 0x12 ∨ fld m j 35 1 = 0) &&
    decide (1 ≤ fld m j 36 1) && decide (fld m j 36 1 ≤ 64) && decide (1 ≤ fld m j 37 1) &&
    decide (fld m j 37 1 ≤ 64) && decide (fld m j 38 1 < fld m j 36 1) &&
    decide (fld m j 39 1 < fld m j 37 1) && decide (fld m j 40 1 ≤ 8) &&
    decide (fld m j 42 1 ≤ 7)
  else if k = 7 then
    decide (fld m j 32 1 ≤ 31) && decide (1 ≤ fld m j 33 1) && decide (fld m j 33 1 ≤ 16) &&
    decide (1 ≤ fld m j 34 1) && decide (fld m j 34 1 ≤ 16)
  else false

/-- FIELD of R235 for field j. -/
def fFieldOk (m : List Byte) (j : Nat) : Bool :=
  let an := fld m j 16 1
  decide (fld m j 0 1 = j) && decide (fDraw m j % 4 ≠ 3) && decide (an % 4 ≠ 3) &&
  decide (an / 4 % 4 ≠ 3) && decide (fld m j 17 1 ≤ 1) && decide (1 ≤ fld m j 22 2) &&
  decide (fld m j 22 2 ≤ 4096) && kindOk m j &&
  (List.range 4).all (fun p => fLevel m j p = 0 || bitAt (moPlanes m) p)

/-- REFERENCE of R235 for field j. -/
def fRefOk (m : List Byte) (j : Nat) : Bool :=
  !hasRefs m j || (refsOf (fDefault m j)).all (fun n => decide (n < j))

/-- ROTATION of R235 for field j. -/
def fRotOk (m : List Byte) (j : Nat) : Bool :=
  leAt m 3 1 = 2 || decide (fRot m j % 2 = 0)

/-- The first field that fails a check. -/
def firstBad (n : Nat) (f : Nat → Bool) : Option Nat := (List.range n).find? (fun j => !f j)

/-- The first failing check of a mould: code and field, 255 for none; none when all pass (R235). -/
def mouldCheck (m : List Byte) (target : Nat) (island : Bool) : Option (Nat × Nat) :=
  let n := moFields m
  if !moHeaderOk m then some (1, 255)
  else if leAt m 4 2 ≠ target ∨ 1023 < target then some (2, 255)
  else if !moSizeOk m then some (3, 255)
  else match firstBad n (fBoxOk m) with
    | some j => some (3, j)
    | none =>
      if !(List.range 4).all (layerOk m) then some (4, 255)
      else match firstBad n (fFieldOk m) with
        | some j => some (5, j)
        | none =>
          match firstBad n (fRefOk m) with
          | some j => some (6, j)
          | none =>
            match firstBad n (fRotOk m) with
            | some j => some (7, j)
            | none =>
              match firstBad n (fun j => fKind m j ≠ 4 || island) with
              | some j => some (8, j)
              | none => none

/-! ### Glyph sets (R258) -/

/-- glyph_count -/
def gsCount (g : List Byte) : Nat := leAt g 8 4
/-- map_count -/
def gsMapCount (g : List Byte) : Nat := leAt g 12 4
/-- bits per pixel -/
def gsBpp (g : List Byte) : Nat := leAt g 4 1
/-- Code point of map entry i. -/
def gsCode (g : List Byte) (i : Nat) : Nat := leAt g (leAt g 16 4 + 8 * i) 4
/-- Glyph of map entry i. -/
def gsGlyph (g : List Byte) (i : Nat) : Nat := leAt g (leAt g 16 4 + 8 * i + 4) 2
/-- Metrics of a glyph: `n` bytes at offset `o`. -/
def gsMet (g : List Byte) (i o n : Nat) : Nat := leAt g (leAt g 20 4 + 16 * i + o) n
/-- width_px of a glyph -/
def gsW (g : List Byte) (i : Nat) : Nat := gsMet g i 4 2
/-- height_lines of a glyph -/
def gsH (g : List Byte) (i : Nat) : Nat := gsMet g i 6 2
/-- Bytes of a bitmap row. -/
def gsRow (g : List Byte) (i : Nat) : Nat := ceilDiv (gsW g i * gsBpp g) 8

/-- Pixel (x, y) of a glyph as an ink level: 1-bit ink counts as 3, so that the lesser of it and the
field's level is the field's level (R258, R260). -/
def gsPixel (g : List Byte) (i x y : Nat) : Nat :=
  if x < gsW g i ∧ y < gsH g i then
    let row := leAt g 24 4 + gsMet g i 0 4 + y * gsRow g i
    if gsBpp g = 2 then leAt g (row + x / 4) 1 / 4 ^ (x % 4) % 4
    else if bitAt (leAt g (row + x / 8) 1) (x % 8) then 3 else 0
  else 0

/-- The glyph a code point draws: its map entry, else default_glyph; none for GLYPH_MISSING (R259). -/
def gsLookup (g : List Byte) (c : Nat) : Option Nat :=
  match (List.range (gsMapCount g)).find? (fun i => gsCode g i = c) with
  | some i => some (gsGlyph g i)
  | none => if leAt g 6 2 = 0xFFFF then none else some (leAt g 6 2)

/-- The first failing check of a glyph set (R235). -/
def glyphCheck (g : List Byte) (target : Nat) : Option (Nat × Nat) :=
  let n := gsCount g
  let mc := gsMapCount g
  if g.length < 64 ∨ leAt g 0 2 ≠ 0x474B ∨ leAt g 2 1 ≠ 1 ∨ gsBpp g = 0 ∨ 2 < gsBpp g ∨
      3 < leAt g 5 1 ∨ n = 0 ∨ 65536 < n ∨
      g.length < leAt g 16 4 + 8 * mc ∨ g.length < leAt g 20 4 + 16 * n ∨ g.length < leAt g 24 4 then
    some (1, 255)
  else if leAt g 3 1 ≠ target ∨ 31 < target then some (2, 255)
  else if (List.range n).any (fun i => decide (256 < gsW g i) || decide (256 < gsH g i)) then
    some (3, 255)
  else if (List.range mc).any (fun i => decide (0x10FFFF < gsCode g i) || decide (n ≤ gsGlyph g i) ||
        (i + 1 < mc && decide (gsCode g (i + 1) ≤ gsCode g i))) ||
      (leAt g 6 2 ≠ 0xFFFF && decide (n ≤ leAt g 6 2)) ||
      (List.range n).any (fun i =>
        decide (g.length < leAt g 24 4 + gsMet g i 0 4 + gsRow g i * gsH g i)) then
    some (9, 255)
  else none

/-! ### Versions (R236 to R238) -/

/-- A version is in force for a trigger stamped in a tracker cycle (R238). -/
def ResVer.visible (v : ResVer) (cyc : Nat) : Bool :=
  decide (v.fromCyc < cyc) && (match v.untilCyc with | some u => decide (cyc ≤ u) | none => true)

/-- The version of a number that a binding stamped in a cycle takes. -/
def verAt (l : List ResVer) (num cyc : Nat) : Option ResVer :=
  l.find? (fun v => v.num = num && v.visible cyc)

/-- The current version of a number. -/
def verNow (l : List ResVer) (num : Nat) : Option ResVer :=
  l.find? (fun v => v.num = num && v.untilCyc.isNone)

/-- The version of the model's own number. -/
def verId (l : List ResVer) (id : Nat) : Option ResVer := l.find? (fun v => v.id = id)

/-- Ends the current version of a number. -/
def verEnd (l : List ResVer) (num cyc : Nat) : List ResVer :=
  l.map (fun v => if v.num = num && v.untilCyc.isNone then { v with untilCyc := some cyc } else v)

/-- Items that hold a mould version: those without a verdict (R236). -/
def State.mouldHeld (s : State) (id : Nat) : Nat :=
  (s.lane.items.filter (fun it => it.verdict = 0 && it.mouldId = some id)).length

/-- Items that hold a glyph set version. -/
def State.glyphHeld (s : State) (id : Nat) : Nat :=
  (s.lane.items.filter (fun it => it.verdict = 0 && it.glyphIds.any (fun p => p.2 = id))).length

/-- Frees the superseded versions that no item holds (R236). A version ended in this cycle may still be
taken by a binding stamped in it (R238). -/
def State.freeVersions (s : State) : State :=
  let cyc := s.now / 4
  let keep := fun (h : Nat → Nat) (v : ResVer) =>
    match v.untilCyc with
    | none => true
    | some u => decide (cyc ≤ u) || decide (h v.id ≠ 0)
  { s with comp := { s.comp with
      moulds := s.comp.moulds.filter (keep s.mouldHeld),
      glyphs := s.comp.glyphs.filter (keep s.glyphHeld) } }

/-- Bytes of the resource store in use, all versions (R285). -/
def State.storeUsed (s : State) : Nat :=
  let c := s.freeVersions.comp
  ((c.moulds ++ c.glyphs).map (fun v => v.bytes.length)).foldl (· + ·) 0

/-- Commits content as the current version of a mould or glyph set (R235, R238), or reports the first
failing check. True where the commit passed. -/
def State.commitRes (s : State) (glyph : Bool) (target : Nat) (bytes : List Byte) (island : Bool) :
    State × Bool :=
  match (if glyph then glyphCheck bytes target else mouldCheck bytes target island) with
  | some (code, f) =>
    ((s.setn Od.mould_control.last_commit_error code).setn Od.mould_control.last_commit_field f, false)
  | none =>
    let cyc := s.now / 4
    let v : ResVer := { id := s.comp.nextId, num := target, bytes := bytes, fromCyc := cyc,
                        untilCyc := none, time := s.time }
    let c := s.comp
    let c := if glyph then { c with glyphs := verEnd c.glyphs target cyc ++ [v] }
      else { c with moulds := verEnd c.moulds target cyc ++ [v] }
    let s : State := { s with comp := { c with nextId := c.nextId + 1 } }
    (((s.setn Od.mould_control.last_commit_error 0).setn Od.mould_control.last_commit_field 255
      ).freeVersions, true)

/-- Deletes the current version of a mould or glyph set (R237, R238). -/
def State.deleteRes (s : State) (glyph : Bool) (num : Nat) : State :=
  let cyc := s.now / 4
  let c := s.comp
  let c := if glyph then { c with glyphs := verEnd c.glyphs num cyc }
    else { c with moulds := verEnd c.moulds num cyc }
  ({ s with comp := c }).freeVersions

end Sys2Proof.Machine
end

