-- ==== Sys2Proof/Machine/Track.lean ====
section
/-! DEFINITION. The arithmetic of the Encoder Tracker (spec/02): distances in phase steps (R41),
positions of counts (R39), velocity and interpolation (R42, R43, R50), throw advance (R63), tick
positions (R62), SPEED_ADV (R66, R67), and the actions on a loss of position or a reversal. -/

namespace Sys2Proof.Machine

/-! ### Distances -/

/-- Lines per inch in force (R85). -/
def State.lpi (s : State) : Nat :=
  match s.on Od.web_geometry.lines_per_inch with
  | 0 => 300
  | 1 => 600
  | 2 => 1200
  | _ => 2400

/-- A distance in µm in phase steps (R41). -/
def umToPs (lpi : Nat) (d : Int) : Int := roundDiv (d * lpi * 64) 25400

/-- A distance in phase steps in µm. -/
def psToUm (lpi : Nat) (p : Int) : Int := roundDiv (p * 25400) (lpi * 64)

/-- The distance an object holds, in phase steps. -/
def State.psOf (s : State) (k : Nat) : Int := umToPs s.lpi (s.oi k)

/-- Phase steps per count (R39). -/
def State.stepsPerCount (s : State) : Frac :=
  fracNorm (s.lpi * 320000 * s.on Od.web_geometry.counts_per_m_den)
    (127 * s.on Od.web_geometry.counts_per_m_num)

/-- Position of a count. -/
def State.posOf (s : State) (c : Int) : Frac :=
  fracAdd s.web.refPos (fracMul s.stepsPerCount (c - s.web.refCount) 1)

/-- Rounded to a whole number of phase steps, halves away from zero (R68). -/
def fracRound (f : Frac) : Int := roundDiv f.num f.den

/-- Difference. -/
def fracSub (a b : Frac) : Frac := fracAdd a ⟨-b.num, b.den⟩

/-- The greater. -/
def fracMax (a b : Frac) : Frac := if fracLt a b then b else a

/-- The lesser. -/
def fracMin (a b : Frac) : Frac := if fracLt a b then a else b

/-- Changes the tracker. -/
def State.setWeb (s : State) (w : WebSt) : State := { s with web := w }

/-- tracker_state (R81). -/
def State.trk (s : State) : Nat := s.on Od.tracker_status.tracker_state

/-- The web encoder's number, 255 for none (R85). -/
def State.webEnc (s : State) : Nat := s.on Od.web_geometry.web_encoder

/-- The state of an encoder. -/
def State.enc (s : State) (e : Nat) : EncSt := s.web.enc.toList.getD e EncSt.reset

/-- The true count C of the web encoder. -/
def State.webCount (s : State) : Int := (s.enc s.webEnc).count

/-- Changes an encoder. -/
def State.setEnc (s : State) (e : Nat) (x : EncSt) : State :=
  s.setWeb { s.web with enc := s.web.enc.setIfInBounds e x }

/-- X in whole phase steps reached. -/
def State.xInt (s : State) : Int := fracFloor s.web.x

/-! ### Velocity -/

/-- v in counts per ns at this instant, as numerator and denominator (R42, R45, R50, R60): v_edge until
the time since the last edge exceeds the last edge interval, then at most 1 count in that time. Below the
high-water mark within the hysteresis v is unchanged (R44). -/
def State.vel (s : State) : Nat × Nat :=
  let w := s.web
  if s.trk = 5 then (w.veNum, w.veDen)
  else if s.trk = 2 then
    match w.vBand with
    | some v => v
    | none =>
    let dt := s.now - w.tEdge
    if dt ≤ w.lastInterval ∨ w.veNum * dt ≤ w.veDen then (w.veNum, w.veDen) else (1, dt)
  else (0, 1)

/-- v in phase steps per ns. -/
def State.velPs (s : State) : Frac :=
  fracMul s.stepsPerCount (s.vel.1 : Nat) s.vel.2

/-- Travel at v in a time in ns, rounded to the nearest phase step (R21, R80). -/
def State.travel (s : State) (ns : Nat) : Int := fracRound (fracMul s.velPs ns 1)

/-- A position less the travel at v in a latency in ns, not rounded (R78, R226, R458). -/
def State.leadPos (s : State) (p : Int) (ns : Nat) : Frac := fracSub ⟨p, 1⟩ (fracMul s.velPs ns 1)

/-- X has not reached a position. -/
def State.ahead (s : State) (p : Frac) : Bool := fracLt s.web.x p

/-- The line rate in Hz as a fraction (f_line = v × lpi / 0.0254). -/
def State.lineRate (s : State) : Frac := fracMul s.velPs 1000000000 64

/-- v_edge in µm/s, rounded down. -/
def State.vEdgeUm (s : State) : Nat :=
  s.web.veNum * 1000000000000000 * s.on Od.web_geometry.counts_per_m_den /
    max 1 (s.web.veDen * s.on Od.web_geometry.counts_per_m_num)

/-- t_throw of a plane in ns: 1.600 µs + t_cable + t_head + t_flight (R21). -/
def State.throwNs (s : State) (p : Nat) : Nat :=
  1600 + s.on (Od.plane_tick.cable_delay_ns p) + s.on (Od.plane_tick.head_latency_ns p) +
  s.on (Od.plane_tick.flight_time_ns p)

/-- Advance of a ring: A_p of a plane (R21, R63), or the advance of a Beam Engine unit (R80). -/
def State.advance (s : State) (ring : Nat) : Int :=
  if ring < 4 then s.travel (s.throwNs ring)
  else s.travel (s.on (Od.beam_tick.beam_latency_ns (ring - 4)))

/-- Distance of a ring downstream of P0 in phase steps (R61, R80). -/
def State.ringDist (s : State) (ring : Nat) : Int :=
  if ring = 0 then 0
  else if ring < 4 then s.psOf (Od.plane_tick.plane_distance_um ring)
  else s.psOf (Od.beam_tick.beam_distance_um (ring - 4))

/-- The grid of a ring. -/
def State.grid (s : State) (ring : Nat) : Grid :=
  if ring < 4 then s.web.planes.toList.getD ring Grid.reset
  else s.web.beams.toList.getD (ring - 4) Grid.reset

/-- Replaces the grid of a ring. -/
def State.setGrid (s : State) (ring : Nat) (g : Grid) : State :=
  if ring < 4 then s.setWeb { s.web with planes := s.web.planes.setIfInBounds ring g }
  else s.setWeb { s.web with beams := s.web.beams.setIfInBounds (ring - 4) g }

/-- Tick position of line m of a ring: 64 m + φ − A (R62). -/
def State.tickPos (s : State) (ring : Nat) (m : Int) : Int :=
  64 * m + (s.grid ring).phi - s.advance ring

/-! ### Position -/

/-- The distance by which X is held below the position of the next count (R43), in phase steps. -/
def holdGap : Frac := ⟨-1, 65536⟩

/-- The position X follows at this instant. -/
def State.target (s : State) : Frac :=
  let w := s.web
  let dt := s.now - w.tEdge
  if s.trk = 5 then
    fracAdd (s.posOf w.chwm) (fracMul s.stepsPerCount (w.veNum * dt : Nat) w.veDen)
  else if s.trk = 2 ∧ w.measure = none ∧ s.webCount = w.chwm then
    let run := fracMul s.stepsPerCount (w.veNum * min dt w.lastInterval : Nat) w.veDen
    fracMin (fracAdd (s.posOf w.chwm) run) (fracAdd (s.posOf (w.chwm + 1)) holdGap)
  else w.tgt

/-- The slew left after travel `d`: it shrinks by 1/16 of the travel (R50, R55). -/
def slewLeft (sl d : Frac) : Frac :=
  let q := fracMul d 1 16
  if sl.num < 0 then fracMin ⟨0, 1⟩ (fracAdd sl q) else fracMax ⟨0, 1⟩ (fracSub sl q)

/-- Brings X to this instant (R43, R50, R55). X never decreases (R40). -/
def State.moveX (s : State) : State :=
  let w := s.web
  let t := s.target
  let d := fracMax ⟨0, 1⟩ (fracSub t w.tgt)
  let sl := slewLeft w.slew d
  s.setWeb { w with tgt := fracMax w.tgt t, slew := sl, x := fracMax w.x (fracSub t sl) }

/-- Sets the position X follows, the whole difference slewed out. -/
def State.follow (s : State) (t : Frac) : State :=
  s.setWeb { s.web with tgt := t, slew := fracSub t s.web.x }

/-- Moves X at once (R56), never back. -/
def State.jumpX (s : State) (t : Frac) : State :=
  let x := fracMax s.web.x t
  s.setWeb { s.web with x := x, tgt := x, slew := ⟨0, 1⟩ }

/-- The highest count whose position does not exceed X (R56). -/
def State.countBelow (s : State) : Int :=
  let d := fracSub s.web.x s.web.refPos
  let k := s.stepsPerCount
  if k.num ≤ 0 then s.web.refCount
  else s.web.refCount + (d.num * k.den) / (d.den * k.num)

/-! ### Line rate, SPEED_ADV (R66, R67) -/

/-- Some plane with firing enabled, or some Beam Engine unit in EMITTING with the facet rate as its limit, has
f_line at `pct` percent of its fire limit or above (R66, R535). -/
def State.rateAt (s : State) (pct : Nat) : Bool :=
  let f := s.lineRate
  (List.range 4).any (fun p =>
    s.ob (Od.plane_firing.firing_enable p) &&
    decide ((pct * s.on (Od.plane_tick.fire_limit_hz p) : Nat) * (f.den : Int) ≤ f.num * 100)) ||
  (List.range 2).any (fun b =>
    s.on (Od.beam_unit_status.unit_state b) = 2 &&
    decide ((pct * 1000000000 : Nat) * (f.den : Int) ≤
      f.num * 100 * (s.on (Od.beam_unit_status.facet_period_ns b) : Nat)))

/-- The reasons of SPEED_ADV at this instant (R67): those the tracker decides, with the look-ahead and
data-late reasons as they stand. -/
def State.reasonsNow (s : State) : Nat :=
  let r := s.on Od.speed_advice.speed_adv_reasons
  let w := s.on Od.speed_advice.overspeed_warn_percent
  let above := s.rateAt w || (bitAt r 0 && s.rateAt (w - 2))
  withBit (withBit (withBit r 0 above) 2 (s.trk = 5)) 3 (s.trk = 6 || s.trk = 7)

/-- Data of an event of R83: X, the PTP time, and what applies. -/
def State.webEvent (s : State) (code : Nat) (more : List Byte) : State :=
  s.event code (leBytes 8 (patternOf 64 s.xInt) ++ leBytes 8 s.time ++ more)

/-- Renews the reasons; SPEED_ADV asserts with an enabled reason, with its event (R67). -/
def State.advise (s : State) : State :=
  let r := s.reasonsNow
  let s := s.setn Od.speed_advice.speed_adv_reasons r
  if (r &&& s.on Od.speed_advice.speed_adv_reason_enable) ≠ 0 ∧ s.web.speedAdv = false then
    ((s.setWeb { s.web with speedAdv := true }).inc32 Od.speed_advice.speed_adv_count).webEvent 0x0308
      (leBytes 4 r)
  else s

/-- A reason of SPEED_ADV that another block decides becomes active or clears (R67). -/
def State.setReason (s : State) (b : Nat) (v : Bool) : State :=
  (s.setn Od.speed_advice.speed_adv_reasons
    (withBit (s.on Od.speed_advice.speed_adv_reasons) b v)).advise

/-! ### State changes (R82) -/

/-- The tracker enters a state: time kept, the state before this tracker cycle kept (R72), SPEED_ADV
renewed. -/
def State.enter (s : State) (st : Nat) : State :=
  let cyc := s.now / 4
  let s := if s.web.stCycle = cyc then s
    else s.setWeb { s.web with stCycle := cyc, stBefore := s.trk }
  ((s.setn Od.tracker_status.tracker_state st).setn Od.tracker_status.state_entry_time s.time).advise

/-- The tracker enters LOST (R51): items in flight close with reason encoder lost, DRAINING items close,
X is frozen. -/
def State.loseTrack (s : State) : State :=
  let s := s.setWeb { s.web with reacq := [], ret := [], measure := none }
  ((s.enter 6).webEvent 0x0305 []).disposeAll (fun _ => true) 6 2 |>.drainAll

/-- The tracker enters REVERSED (R46). -/
def State.reverse (s : State) : State :=
  (((s.enter 4).inc32 Od.tracker_status.reversal_count).webEvent 0x0300 []).disposeAll
    (fun it => it.state = 2) 2 0

/-- The tracker enters DEAD_RECKONING (R49, R50). -/
def State.coast (s : State) : State :=
  let s := (s.enter 5).inc32 Od.tracker_status.coast_count
  let s := s.setWeb { s.web with coastFrom := s.now, ret := [], measure := none }
  let s := s.setItems (s.lane.items.map (fun it => { it with coastFired := false, coastStamp := false }))
  (s.follow s.target).webEvent 0x0302 []

/-- The tracker comes to STANDSTILL: v and the advances are 0 (R49, R82). -/
def State.standstill (s : State) : State :=
  (s.setWeb { s.web with tgt := s.web.x, slew := ⟨0, 1⟩ }).enter 1

/-- A line fault or an illegal transition on the web encoder (R49, R82). With a coast limit of 0 the
tracker enters LOST where dead reckoning would begin (R51). -/
def State.trackFault (s : State) : State :=
  let st := s.trk
  let fast := decide (s.on Od.tracker_config.coast_min_speed_um_s ≤ s.vEdgeUm)
  if st = 1 ∨ st = 3 ∨ st = 4 ∨ (st = 2 ∧ fast = false) then s.loseTrack
  else if st = 2 then
    if s.on Od.tracker_config.coast_limit_um = 0 then s.loseTrack else s.coast
  else if st = 7 then s.setWeb { s.web with reacq := [] }
  else if st = 5 then s.setWeb { s.web with ret := [] }
  else s

end Sys2Proof.Machine
end

