-- ==== Sys2Proof/Machine/Compose.lean ====
section
/-! DEFINITION. Resolving field values (R246 to R257), laying content out (R259, R264, R265), and drawing the
lines of an item (R260, R267 to R271). -/

namespace Sys2Proof.Machine

/-! ### Error codes of R278 -/

/-- What a field's resolution or layout gives: a value or the code of R278. -/
abbrev Comp (α : Type) : Type := Except Nat α

/-! ### References and text -/

/-- A value with its references expanded; none for the errors of R247. -/
def expandRefs (look : Nat → Option (List Byte)) : List Byte → Option (List Byte)
  | [] => some []
  | [b] => if b = 0x1B then none else some [b]
  | b :: c :: rest =>
    if b = 0x1B then
      match (if c = 0xFF then some [0x1B] else look c.toNat), expandRefs look rest with
      | some x, some y => some (x ++ y)
      | _, _ => none
    else (expandRefs look (c :: rest)).map (b :: ·)

/-- Code points of well-formed UTF-8. -/
def codePoints : List Byte → List Nat
  | [] => []
  | a :: r1 =>
    let x := a.toNat
    if x < 0x80 then x :: codePoints r1
    else
      match r1 with
      | [] => []
      | b :: r2 =>
        if x < 0xE0 then ((x % 32) * 64 + b.toNat % 64) :: codePoints r2
        else
          match r2 with
          | [] => []
          | c :: r3 =>
            if x < 0xF0 then ((x % 16) * 4096 + b.toNat % 64 * 64 + c.toNat % 64) :: codePoints r3
            else
              match r3 with
              | [] => []
              | d :: r4 =>
                ((x % 8) * 262144 + b.toNat % 64 * 4096 + c.toNat % 64 * 64 + d.toNat % 64) ::
                codePoints r4

/-! ### Check digits (R262) -/

/-- Every byte is an ASCII digit. -/
def allDigits (b : List Byte) : Bool := b.all (fun x => decide (0x30 ≤ x.toNat) && decide (x.toNat ≤ 0x39))

/-- The modulo-10 check digit of a digit string, weights 3 and 1 from its end. -/
def checkDigit (b : List Byte) : Nat :=
  let t := (b.reverse.zipIdx.map (fun p =>
    (p.1.toNat - 0x30) * (if p.2 % 2 = 0 then 3 else 1))).foldl (· + ·) 0
  (10 - t % 10) % 10

/-- Data of a fixed-length digit symbology of `n` digits: the check digit is computed or verified. -/
def digitData (n : Nat) (b : List Byte) : Comp (List Byte) :=
  if allDigits b = false then .error 4
  else if b.length = n - 1 then .ok (b ++ [byteOf (0x30 + checkDigit b)])
  else if b.length = n then
    if checkDigit (b.take (n - 1)) = (b.getLastD 0).toNat - 0x30 then .ok b else .error 4
  else .error 4

/-- The data a symbol encodes, checked as R262 and R263 state. -/
def symbolData (sy : Nat) (params : List Nat) (b : List Byte) : Comp (List Byte) :=
  if Config.symbolUnsupported sy params b then .error 4
  else if sy = 1 then (if b.all (fun x => decide (x.toNat < 128)) then .ok b else .error 4)
  else if sy = 2 ∨ sy = 0x11 then (if Config.gs1Valid b then .ok b else .error 8)
  else if sy = 3 then digitData 13 b
  else if sy = 4 then digitData 12 b
  else if sy = 5 then digitData 14 b
  else .ok b

/-! ### Resolution -/

/-- What resolution takes beside the mould and the record: the counter values taken at binding, the
trigger's TIME64, and the sealed texts of weighing results. -/
structure Binding where
  /-- counter values taken, by counter -/
  counters : List (Nat × Nat)
  /-- TIME64 of the stamp -/
  trig : Nat
  /-- the record's field entries -/
  entries : List (Nat × List Byte)
  /-- sealed texts by weighing sequence number and quantity -/
  weights : List (Nat × List (List Byte))
  deriving DecidableEq, Repr

/-- UTC seconds of a TIME64 (R252). -/
def State.utcOf (s : State) (t : Nat) : Int :=
  (t / 1000000000 : Nat) - s.oi Od.ptp_status.utc_offset_s

/-- Offset of a zone at a UTC instant; 255 is UTC (R252). -/
def State.zoneAt (s : State) (z : Nat) (utc : Int) : Int :=
  if z = 255 then 0
  else zoneOffset (s.oi (Od.time_zone.tz_std_offset_min z)) (s.oi (Od.time_zone.tz_dst_offset_min z))
    (s.on (Od.time_zone.tz_dst_start z)) (s.on (Od.time_zone.tz_dst_end z)) utc

/-- A DATE field's text (R252 to R255). -/
def State.dateText (s : State) (m : List Byte) (j : Nat) (b : Binding) (v : List Byte) :
    Comp (List Byte) :=
  let src := fld m j 44 1
  let pol := s.on Od.compositor_config.date_time_policy
  let pt := s.on Od.ptp_status.ptp_state
  if src = 0 && ((pol = 1 && !(pt = 2 || pt = 3)) || (pol = 2 && pt ≠ 2)) then .error 0x0B
  else
    let t := if src = 0 then b.trig else if src = 1 then leNat v
      else s.on Od.compositor_config.fixed_production_date
    let utc := s.utcOf t
    let r : DateRule :=
      { months := signedOf 16 (fld m j 46 2), days := signedOf 16 (fld m j 48 2),
        rounding := fld m j 50 1, dayStart := fld m j 51 1, seconds := signedOf 32 (fld m j 52 4) }
    let d := r.apply (utc + s.zoneAt (fld m j 45 1) utc)
    match datePicture (monthTable m j) d.1 d.2 (picture m j) with
    | some x => .ok x
    | none => .error 4

/-- Digits of a counter field (R245, R250). -/
def counterText (m : List Byte) (j v : Nat) : Comp (List Byte) :=
  let fl := fld m j 45 1
  let w := fld m j 46 1
  let t := numText (if bitAt fl 1 then 16 else 10) v
  if w < t.length then .error 6
  else .ok (if bitAt fl 0 then List.replicate (w - t.length) 0x30 ++ t else t)

/-- The value of field j: its record entry, else its default (R246). -/
def fieldValue (m : List Byte) (b : Binding) (j : Nat) : List Byte :=
  match kvGet b.entries j with
  | some v => v
  | none => fDefault m j

/-- The resolved text of field j, given those of the lower fields (R246, R247). Of an IMAGE_PATCH the two
bytes of the glyph index are kept; a reference to it inserts nothing. -/
def State.resolveField (s : State) (m : List Byte) (b : Binding) (done : List (Nat × List Byte))
    (j : Nat) : Comp (List Byte) :=
  let k := fKind m j
  let v := fieldValue m b j
  let look := fun n => if n < j then
      (if fKind m n = 7 then some [] else kvGet done n) else none
  let text : Comp (List Byte) :=
    if k = 1 then
      match expandRefs look v with
      | some x => if utf8Ok x then .ok x else .error 4
      | none => .error 4
    else if k = 2 then
      if v.isEmpty then counterText m j ((kvGet b.counters (fld m j 44 1)).getD 0) else .error 4
    else if k = 3 then
      if v.length = (if fld m j 44 1 = 1 then 8 else 0) then s.dateText m j b v else .error 4
    else if k = 4 then
      if v.length = 4 then
        match kvGet b.weights (leNat v) with
        | some ts => .ok (ts.getD (fld m j 44 1) [])
        | none => .error 0x0E
      else .error 4
    else if k = 5 ∨ k = 6 then
      match (if hasRefs m j then expandRefs look v else some v) with
      | some x => .ok x
      | none => .error 4
    else if v.length = 2 then .ok v else .error 4
  match text with
  | .error e => .error e
  | .ok x => if fld m j 22 2 < x.length then .error 4 else .ok x

/-! ### Content of a field -/

/-- Content laid out in a content frame (R259, R265): glyphs with the column and line of their top left
pixel and their scales; a matrix symbol with the place of its quiet zone; a linear symbol. -/
inductive Content where
  | glyphs (set : List Byte) (gs : List (Nat × Int × Int)) (sx sy : Nat)
  | matrix (rows : List (List Nat)) (u v : Int) (mpx mln rpx rln quiet : Nat)
  | bars (els : List (Nat × Nat)) (u : Int) (height bearer width : Nat)
  deriving DecidableEq, Repr

/-- Width and height of a content frame (R267). -/
def frameOf (m : List Byte) (j : Nat) : Nat × Nat :=
  if fRot m j % 2 = 0 then (fW m j, fH m j) else (fH m j, fW m j)

/-- Places an extent in a frame by the anchor: start, the floor of half the space, or end (R259). -/
def anchorAt (a frame ext : Nat) : Int :=
  let sp : Int := (frame : Int) - ext
  if a = 0 then 0 else if a = 1 then sp / 2 else sp

/-- Text lines: split at 16#0A (R259). -/
def splitLines : List Nat → List (List Nat)
  | [] => [[]]
  | c :: cs =>
    if c = 0x0A then [] :: splitLines cs
    else match splitLines cs with
      | l :: ls => (c :: l) :: ls
      | [] => [[c]]

/-- Glyphs of one text line from pen position `u`, and the end of the last glyph. -/
def layLine (g : List Byte) (fixed : Option Nat) (track : Int) (base : Int) :
    Int → Int → List Nat → List (Nat × Int × Int) × Int
  | _, w, [] => ([], w)
  | u, w, i :: is =>
    let left := u + signedOf 16 (gsMet g i 8 2)
    let adv := match fixed with
      | some f => (f : Int)
      | none => signedOf 16 (gsMet g i 12 2) + track
    let r := layLine g fixed track base (u + adv) (max w (left + gsW g i)) is
    ((i, left, base - signedOf 16 (gsMet g i 10 2)) :: r.1, r.2)

/-- Looks every code point up; none for GLYPH_MISSING. -/
def glyphsOf (g : List Byte) : List Nat → Option (List Nat)
  | [] => some []
  | c :: cs =>
    match gsLookup g c, glyphsOf g cs with
    | some i, some r => some (i :: r)
    | _, _ => none

/-- Text lines laid out from text line k on: glyphs and the widest line. -/
def layLines (g : List Byte) (fixed : Option Nat) (track : Int) (pitch : Nat) :
    Nat → List (List Nat) → List (Nat × Int × Int) × Int
  | _, [] => ([], 0)
  | k, l :: ls =>
    let a := layLine g fixed track ((leAt g 28 2 + k * pitch : Nat) : Int) 0 0 l
    let r := layLines g fixed track pitch (k + 1) ls
    (a.1 ++ r.1, max a.2 r.2)

/-- Lays the text of field j out in a glyph set (R259). -/
def layText (m : List Byte) (j : Nat) (g text : List Byte) : Comp Content :=
  let cps := codePoints text
  let ls := splitLines cps
  if fld m j 40 2 < (cps.filter (fun c => c ≠ 0x0A)).length then .error 6
  else
    match glyphsOf g (cps.filter (fun c => c ≠ 0x0A)) with
    | none => .error 5
    | some _ =>
      let pitch := if fld m j 38 2 = 0 then leAt g 28 2 + leAt g 30 2 else fld m j 38 2
      let fixed := if bitAt (fld m j 33 1) 0 then some (fld m j 36 2) else none
      let lay := layLines g fixed (signedOf 16 (fld m j 34 2)) pitch 0
        (ls.map (fun l => (glyphsOf g l).getD []))
      let fr := frameOf m j
      let du := anchorAt (fld m j 16 1 % 4) fr.1 lay.2.toNat
      let dv := anchorAt (fld m j 16 1 / 4 % 4) fr.2 (ls.length * pitch)
      .ok (.glyphs g (lay.1.map (fun p => (p.1, p.2.1 + du, p.2.2 + dv))) 1 1)

/-- Bars with their left edges in pixels, from narrow elements (R265). -/
def layBars (module wide red : Nat) (itf : Bool) : Nat → Bool → List Nat → List (Nat × Nat)
  | _, _, [] => []
  | x, bar, e :: es =>
    let w := if itf && e = 2 then wide else e * module
    let r := layBars module wide red itf (x + w) (!bar) es
    if bar then (x, w - red) :: r else r

/-- Width of a linear symbol's elements in pixels. -/
def barsWidth (module wide : Nat) (itf : Bool) (es : List Nat) : Nat :=
  (es.map (fun e => if itf && e = 2 then wide else e * module)).foldl (· + ·) 0

/-- The parameters of a matrix symbol that its size follows (R264). -/
def symParams (m : List Byte) (j : Nat) : List Nat :=
  [fld m j 33 1, fld m j 34 1, fld m j 35 1, fld m j 41 1 % 4, fld m j 42 1, fld m j 43 1]

/-- Content of a linear symbol (R265). -/
def layCode1 (m : List Byte) (j : Nat) (data : List Byte) : Comp Content :=
  let sy := fld m j 32 1
  match symbolData sy [] data with
  | .error e => .error e
  | .ok d =>
    let es := Config.symbolBars sy d
    if es.isEmpty then .error 7
    else
      let md := fld m j 33 1
      let wide := (roundDiv (md * fld m j 34 1) 10).toNat
      let itf := decide (sy = 5)
      let q := Config.symbolQuiet sy
      let w := barsWidth md wide itf es
      let fr := frameOf m j
      let u := anchorAt (fld m j 16 1 % 4) fr.1 (w + (q.1 + q.2) * md) + (q.1 * md : Nat)
      let bearer := if itf && bitAt (fld m j 35 1) 0 then fld m j 37 1 else 0
      .ok (.bars (layBars md wide (fld m j 36 1) itf 0 true es) u fr.2 bearer w)

/-- Content of a matrix symbol (R265). -/
def layCode2 (m : List Byte) (j : Nat) (data : List Byte) : Comp Content :=
  let sy := fld m j 32 1
  match symbolData sy (symParams m j) data with
  | .error e => .error e
  | .ok d =>
    let rows := Config.symbol sy (symParams m j) d
    if rows.isEmpty then .error 7
    else
      let q := fld m j 40 1
      let fr := frameOf m j
      let w := (Config.symbolWidth sy (symParams m j) d + 2 * q) * fld m j 36 1
      let h := (rows.length + 2 * q) * fld m j 37 1
      .ok (.matrix rows (anchorAt (fld m j 16 1 % 4) fr.1 w) (anchorAt (fld m j 16 1 / 4 % 4) fr.2 h)
        (fld m j 36 1) (fld m j 37 1) (fld m j 38 1) (fld m j 39 1) q)

/-- Content of field j under a glyph set, if resident, and its resolved text (R246, R259, R265). -/
def layField (m : List Byte) (j : Nat) (set : Option (List Byte)) (text : List Byte) : Comp Content :=
  let k := fKind m j
  if k = 5 then layCode1 m j text
  else if k = 6 then layCode2 m j text
  else
    match set with
    | none => .error 5
    | some g =>
      if k = 7 then
        let i := leNat text
        if gsCount g ≤ i then .error 4
        else
          let fr := frameOf m j
          let sx := fld m j 33 1
          let sy := fld m j 34 1
          .ok (.glyphs g [(i, anchorAt (fld m j 16 1 % 4) fr.1 (gsW g i * sx),
            anchorAt (fld m j 16 1 / 4 % 4) fr.2 (gsH g i * sy))] sx sy)
      else layText m j g text

/-- Ink of one scaled glyph at a pixel of the frame. -/
def glyphInk (g : List Byte) (sx sy : Nat) (u v : Int) (p : Nat × Int × Int) : Nat :=
  let du := u - p.2.1
  let dv := v - p.2.2
  if du < 0 ∨ dv < 0 then 0 else gsPixel g p.1 (du.toNat / sx) (dv.toNat / sy)

/-- A module's coordinate lies on ink: the reduction is taken off its edges (R265). -/
def inModule (size red off : Nat) : Bool :=
  decide (red / 2 ≤ off) && decide (off < size - (red - red / 2))

/-- Ink level of a pixel of the content frame, 0 for light (R260). -/
def Content.ink (c : Content) (u v : Int) : Nat :=
  match c with
  | .glyphs g ps sx sy => (ps.map (glyphInk g sx sy u v)).foldl max 0
  | .matrix rows u0 v0 mpx mln rpx rln q =>
    let du := u - u0 - (q * mpx : Nat)
    let dv := v - v0 - (q * mln : Nat)
    if du < 0 ∨ dv < 0 then 0
    else
      let row := rows.getD (dv.toNat / mln) []
      if row.contains (du.toNat / mpx) && inModule mpx rpx (du.toNat % mpx) &&
          inModule mln rln (dv.toNat % mln) then 3 else 0
  | .bars els u0 h b w =>
    let du := u - u0
    if du < 0 ∨ v < 0 ∨ (h : Int) ≤ v then 0
    else if b ≠ 0 ∧ (v < b ∨ (h : Int) - b ≤ v) then (if du.toNat < w then 3 else 0)
    else if els.any (fun e => decide (e.1 ≤ du.toNat) && decide (du.toNat < e.1 + e.2)) then 3 else 0

/-- Ranges of pixels that may hold ink: for each glyph or symbol its corner and size. -/
def Content.extents (c : Content) (height : Nat) : List (Int × Int × Nat × Nat) :=
  match c with
  | .glyphs g ps sx sy => ps.map (fun p => (p.2.1, p.2.2, gsW g p.1 * sx, gsH g p.1 * sy))
  | .matrix rows u0 v0 mpx mln _ _ q =>
    [(u0 + (q * mpx : Nat), v0 + (q * mln : Nat), (rows.map (fun r => r.foldl max 0)).foldl max 0 * mpx + mpx,
      rows.length * mln)]
  | .bars _ u0 _ _ w => [(u0, 0, w, height)]

/-- Some ink pixel falls outside the frame (R259). -/
def Content.leaves (c : Content) (w h : Nat) : Bool :=
  (c.extents h).any (fun e =>
    (List.range e.2.2.2).any (fun y => (List.range e.2.2.1).any (fun x =>
      let u := e.1 + x
      let v := e.2.1 + y
      (decide (u < 0) || decide ((w : Int) ≤ u) || decide (v < 0) || decide ((h : Int) ≤ v)) &&
      decide (c.ink u v ≠ 0))))

/-- The field's content with the checks of layout made (R259, R265). -/
def checkedField (m : List Byte) (j : Nat) (set : Option (List Byte)) (text : List Byte) :
    Comp Content :=
  match layField m j set text with
  | .error e => .error e
  | .ok c => if fErr m j && c.leaves (frameOf m j).1 (frameOf m j).2 then .error 6 else .ok c

/-! ### Drawing -/

/-- The frame pixel under mould pixel (x, y) of the box, before mirroring (R267). -/
def framePixel (rot bw bh x y : Nat) : Int × Int :=
  if rot = 0 then (x, y)
  else if rot = 1 then (y, (bw : Int) - 1 - x)
  else if rot = 2 then ((bw : Int) - 1 - x, (bh : Int) - 1 - y)
  else ((bh : Int) - 1 - y, x)

/-- The ink a field lays on a pixel of its box at plane level `l`; none where it is light (R260, R267,
R268). -/
def fieldInk (m : List Byte) (j : Nat) (c : Content) (l x y : Nat) : Option Nat :=
  let fr := frameOf m j
  let p := framePixel (fRot m j) (fW m j) (fH m j) x y
  let u := if bitAt (fDraw m j) 5 then (fr.1 : Int) - 1 - p.1 else p.1
  let g := c.ink u p.2
  if bitAt (fDraw m j) 2 then (if g = 0 then some l else none)
  else if g = 0 then none else some (min g l)

/-- One field drawn on a mould line of a plane (R268). -/
def drawField (m : List Byte) (plane y : Nat) (row : List Nat) (jc : Nat × Content) : List Nat :=
  let j := jc.1
  let l := fLevel m j plane
  if l = 0 ∨ y < fY m j ∨ fY m j + fH m j ≤ y then row
  else
    let op := fDraw m j % 4
    row.zipIdx.map (fun p =>
      if p.2 < fX m j ∨ fX m j + fW m j ≤ p.2 then p.1
      else
        match fieldInk m j jc.2 l (p.2 - fX m j) (y - fY m j) with
        | some a => if op = 2 then max p.1 a else a
        | none => if op = 1 then 0 else p.1)

/-- A mould line on a plane: the static layer, then the fields in order (R268). -/
def mouldRow (m : List Byte) (layer : List (List Nat)) (cs : List (Nat × Content)) (plane y : Nat) :
    List Nat :=
  let base := layer.getD y []
  let base := (base ++ List.replicate (moWidth m - base.length) 0).take (moWidth m)
  cs.foldl (drawField m plane y) base

/-- A row laid on the columns of a plane line inside a deckle: the line with the higher of the levels
(R269, R271), and the pixels dropped. -/
def layRow (origin left width : Int) (line row : List Nat) : List Nat × Nat :=
  let out := line.zipIdx.map (fun p =>
    let x := (p.2 : Int) - origin
    if left ≤ p.2 ∧ (p.2 : Int) < left + width ∧ 0 ≤ x then max p.1 (row.getD x.toNat 0) else p.1)
  let clip := (row.zipIdx.filter (fun p =>
    let c := origin + p.2
    p.1 ≠ 0 && (decide (c < left) || decide (left + width ≤ c) || decide (c < 0) ||
      decide (49152 ≤ c)))).length
  (out, clip)

/-- The mould layer and levels a ring takes: plane rings their own, beam rings those of P0 (R269). -/
def layerOf (ring : Nat) : Nat := if ring < 4 then ring else 0

/-- The glyph set bytes an item pinned for field j. -/
def State.itemSet (s : State) (it : Item) (m : List Byte) (j : Nat) : Option (List Byte) :=
  match kvGet it.glyphIds (fld m j 32 1) with
  | some id => (verId s.comp.glyphs id).map (fun v => v.bytes)
  | none => none

/-- The drawn contents of an item on a plane, in field order (R268). -/
def State.itemContents (s : State) (it : Item) (m : List Byte) (plane : Nat) : List (Nat × Content) :=
  (List.range (moFields m)).filterMap (fun j =>
    if fLevel m j plane = 0 then none
    else
      match layField m j (s.itemSet it m j) ((kvGet it.resolved j).getD []) with
      | .ok c => some (j, c)
      | .error _ => none)

/-- Line k of an item on a ring, as mould pixels; none where its mould or layer cannot be read. -/
def State.itemRow (s : State) (it : Item) (ring k : Nat) : Option (List Byte × List Nat) :=
  match it.mouldId with
  | none => none
  | some id =>
    match verId s.comp.moulds id with
    | none => none
    | some v =>
      let p := layerOf ring
      match moLayer v.bytes p with
      | none => none
      | some ly => some (v.bytes, mouldRow v.bytes ly (s.itemContents it v.bytes p) p k)

/-- The items that own line n of a ring (R274). -/
def State.owners (s : State) (ring : Nat) (n : Int) : List Item :=
  s.lane.items.filter (fun it => it.slot.isSome &&
    (match it.spans.toList.getD ring none with
      | some r => decide (r.first ≤ n) && decide (n < r.first + r.count)
      | none => false))

/-- The deckle of an item on a ring: left edge and width (R269, R378). -/
def Item.deckle (it : Item) (ring : Nat) : Nat × Nat :=
  let k := 4 * it.lane + layerOf ring
  (it.ivn (Od.deckle.deckle_left k), it.ivn (Od.deckle.deckle_width k))

/-- One item's share of a composed line: it draws while it is BOUND or PRINTING (R216, R279). -/
def State.drawItem (s : State) (ring : Nat) (n : Int) (acc : List Nat × Nat) (it : Item) :
    List Nat × Nat :=
  match it.spans.toList.getD ring none with
  | none => acc
  | some r =>
    if it.inFlight = false then acc
    else
      match s.itemRow it ring (n - r.first).toNat with
      | none => acc
      | some (m, row) =>
        let d := it.deckle ring
        let o := layRow ((d.1 : Int) + moOrigin m) d.1 d.2 acc.1 row
        (o.1, acc.2 + o.2)

/-- A composed line of a ring and the pixels clipped from it (R268 to R271). -/
def State.composeLine (s : State) (ring : Nat) (n : Int) : List Nat × Nat :=
  (s.owners ring n).foldl (s.drawItem ring n) (List.replicate 49152 0, 0)

/-- The tag of a line (R274). -/
def State.tagOf (s : State) (ring : Nat) (n : Int) (blank : Bool) : List Byte :=
  let own := s.owners ring n
  let slot := fun lane => match own.find? (fun it => it.lane = lane) with
    | some it => byteOf (it.slot.getD 255)
    | none => 0xFF
  (List.range 8).map slot ++ leBytes 1 (b2n blank) ++ List.replicate 7 0

end Sys2Proof.Machine
end

