-- ==== Sys2Proof/Machine/Held.lean ====
section
/-! DEFINITION. Accepted writes whose response is held until they are durable and in effect (R11, R14, R148,
R179, R180): releasing them, and putting into effect the values of Applies line at a ring's tick. -/

namespace Sys2Proof.Machine

/-- The body of a WRITE_RESP (R147). -/
def writeResp (req idx sub status change : Nat) : List Byte :=
  leBytes 4 req ++ leBytes 2 idx ++ leBytes 1 sub ++ leBytes 1 status ++ leBytes 8 change

/-- The body of a BATCH_RESP (R177). -/
def batchResp (req count status failed change : Nat) : List Byte :=
  leBytes 4 req ++ leBytes 1 count ++ leBytes 1 status ++ leBytes 2 failed ++ leBytes 8 change

/-- The body of a BULK_RESP (R147, R149, R151): request_id, window, status, 2 reserved bytes, total length and
CRC-32C. The fields after request_id have no stated layout (assumption log entry 30). -/
def bulkResp (req window status length crc : Nat) : List Byte :=
  leBytes 4 req ++ leBytes 1 window ++ leBytes 1 status ++ leBytes 2 0 ++ leBytes 8 length ++ leBytes 4 crc

/-- Places a response in SC_RESP (R729). -/
def State.integAnswer (s : State) (status : Nat) (body : List Byte) : State :=
  let req := leAt s.mgmt.scReq 4 4
  { s with mgmt := { s.mgmt with
    scResp := padTo 256 (leBytes 4 req ++ leBytes 1 status ++ [0, 0, 0] ++ body), scBusy := false,
    scReady := true } }

/-- The body of SC_RESP for OD_WRITE: WRITE_RESP from its request_id on (R147, R730). -/
def integWrite (idx sub status change : Nat) : List Byte :=
  leBytes 2 idx ++ leBytes 1 sub ++ leBytes 1 status ++ leBytes 8 change

/-- The object lies in the mirrored data set's configuration part: 16#3000 to 16#5BFF (R694). -/
def mirroredIdx (idx : Nat) : Bool := decide (0x3000 ≤ idx) && decide (idx < 0x5C00)

/-- Sends the answer of a completed write. -/
def State.reply (s : State) (r : Reply) (change : Nat) : State :=
  match r with
  | .silent => s
  | .partner q => { s with fault := { s.fault with applying := s.fault.applying.erase q } }
  | .write se e req idx sub =>
    if (s.sess se).epoch = e then
      if mirroredIdx idx then s.answer se 0 0x13 (writeResp req idx sub 0 change)
      else s.send se 0 0x13 (writeResp req idx sub 0 change)
    else s
  | .batch se e req n m =>
    if (s.sess se).epoch = e then
      let b := batchResp req n 0 0xFFFF change
      if m then s.answer se 0 0x15 b else s.send se 0 0x15 b
    else s
  | .integ idx sub => s.integAnswer 0 (integWrite idx sub 0 change)

/-- Nothing holds the response back. -/
def Held.ready (h : Held) : Bool := !h.needFlash && h.rings = 0 && h.cams = 0 && h.plls = 0

/-- Answers every held write that is durable and in effect, in change-number order. -/
def State.release (s : State) : State :=
  let go := s.log.held.filter Held.ready
  let s : State := { s with log := { s.log with held := s.log.held.filter (fun h => !h.ready) } }
  go.foldl (fun a h =>
    let a := a.reply h.reply h.change
    if h.reset then { a with power := { a.power with resetDue := true } } else a) s

/-- Changes the held write of a number. -/
def State.modHeld (s : State) (i : Nat) (f : Held → Held) : State :=
  { s with log := { s.log with held := s.log.held.map (fun h => if h.id = i then f h else h) } }

/-- Clears a bit of a mask. -/
def clearBit (n i : Nat) : Nat := withBit n i false

/-- The values of Applies line that wait for a ring take effect, in the order of their writes; held writes
that were waiting for it go on (R11, R179). The object itself takes the value with the last ring. -/
def State.applyLine (s : State) (ring : Nat) : State :=
  let mine := s.od.line.filter (fun p => p.ring = ring)
  if mine.isEmpty then s
  else
    let rest := s.od.line.filter (fun p => p.ring ≠ ring)
    let s : State := { s with od := { s.od with line := rest } }
    let s := mine.foldl (fun a p =>
      if rest.any (fun q => q.key = p.key) then a else a.setv p.key p.val) s
    let s : State := { s with log := { s.log with held := s.log.held.map (fun h =>
      { h with rings := clearBit h.rings ring }) } }
    s.release

end Sys2Proof.Machine
end

