-- ==== Sys2Proof/Machine/Channels.lean ====
section
/-! DEFINITION. Firing channels, head links and the compensation map, the shared part (spec/11, spec/12):
drop counts, channel and link states, what the identity blocks give, conflicts and gates, switch groups of
the map, and the fetch of a line (R376, R377). -/

namespace Sys2Proof.Machine

/-! ### Nozzles and counts -/

/-- Key of the nozzle at a column of a plane. -/
def nozKey (p c : Nat) : Nat := p * 65536 + c

/-- Changes the firing part. -/
def State.setFire (s : State) (f : FireSt) : State := { s with fire := f }

/-- Changes the inspection part. -/
def State.setInsp (s : State) (i : InspSt) : State := { s with insp := i }

/-- A nozzle. -/
def State.nozzle (s : State) (k : Nat) : Nozzle := (kvGet s.fire.nozzles k).getD Nozzle.fresh

/-- Changes a nozzle. -/
def State.modNozzle (s : State) (k : Nat) (f : Nozzle → Nozzle) : State :=
  s.setFire { s.fire with nozzles := kvSet s.fire.nozzles k (f (s.nozzle k)) }

/-- The firing channel of a column (R375). -/
def chanOf (p c : Nat) : Nat := 48 * p + c / 1024

/-- The head link of a segment (R375). -/
def linkOf (p seg : Nat) : Nat := 12 * p + seg / 4

/-- Changes the counts of a channel that wait to be accumulated. -/
def State.modAcc (s : State) (ch : Nat) (f : ChanAcc → ChanAcc) : State :=
  s.setFire { s.fire with acc := kvSet s.fire.acc ch (f ((kvGet s.fire.acc ch).getD ChanAcc.zero)) }

/-- Adds at a place of a vector. -/
def bumpVec {n : Nat} (v : Vector Nat n) (i k : Nat) : Vector Nat n :=
  v.setIfInBounds i (v.toList.getD i 0 + k)

/-- One demanded drop at a column that is suppressed with a reason of R426 (1 to 6). -/
def State.suppressDrop (s : State) (p c reason : Nat) : State :=
  (s.modNozzle (nozKey p c) (fun z => { z with newSupp := z.newSupp + 1 })).modAcc (chanOf p c)
    (fun a => { a with demanded := a.demanded + 1, supp := bumpVec a.supp (reason - 1) 1 })

/-- One demanded drop at a column that is fired at level `l`. -/
def State.fireDrop (s : State) (p c l count : Nat) : State :=
  (s.modNozzle (nozKey p c) (fun z => { z with
    newFired := z.newFired + 1, lastAt := some s.now, lastLevel := l, lastCount := count })).modAcc
    (chanOf p c) (fun a => { a with demanded := a.demanded + 1, fired := a.fired + 1 })

/-- One spit drop (R413). -/
def State.spitDrop (s : State) (p c l count : Nat) : State :=
  (s.modNozzle (nozKey p c) (fun z => { z with lastAt := some s.now, lastLevel := l, lastCount := count })).modAcc
    (chanOf p c) (fun a => { a with spit := a.spit + 1 })

/-- A column of a ring lies inside an item's deckle (R378). -/
def Item.covers (it : Item) (ring c : Nat) : Bool :=
  decide ((it.deckle ring).1 ≤ c) && decide (c < (it.deckle ring).1 + (it.deckle ring).2)

/-- Items that own line n of a plane and whose deckle contains column c (R380). -/
def State.charged (s : State) (p c : Nat) (owners : List Nat) : List Nat :=
  owners.filter (fun q => match s.item q with
    | some it => it.covers p c
    | none => false)

/-- Charges suppressed drops to items that are still open: their count, and towards the limit of R425 where
the reason counts, with the degrading cause beyond it. -/
def State.chargeItem (s : State) (q n : Nat) (limited : Bool) : State :=
  match s.item q with
  | none => s
  | some it =>
    if n = 0 ∨ it.disp.isSome then s
    else
      let lim := it.ivn (Od.suppression_policy.item_suppress_limit_0 + it.lane)
      let dl := it.dropsLimit + (if limited then n else 0)
      s.modItem q (fun x => { x with
        dropsSupp := min (x.dropsSupp + n) 0xFFFFFFFF, dropsLimit := dl,
        degSupp := x.degSupp || (limited && decide (lim < dl)) })

/-- Suppresses the demanded drops at columns of a line for one reason, charged to its owners (R380,
R425). -/
def State.suppressAll (s : State) (p : Nat) (cols : List Nat) (reason : Nat) (owners : List Nat) : State :=
  let s := cols.foldl (fun a c => a.suppressDrop p c reason) s
  owners.foldl (fun a q =>
    a.chargeItem q ((cols.filter (fun c => (a.charged p c [q]).isEmpty = false)).length)
      (decide (reason ≠ 1))) s

/-! ### Links and channels -/

/-- A head link. -/
def State.link (s : State) (k : Nat) : LinkSt := s.fire.links.toList.getD k LinkSt.reset

/-- Replaces a head link. -/
def State.setLink (s : State) (k : Nat) (x : LinkSt) : State :=
  s.setFire { s.fire with links := s.fire.links.setIfInBounds k x }

/-- channel_state (R414). -/
def State.chan (s : State) (ch : Nat) : Nat := s.on (Od.firing_channel.channel_state ch)

/-- link_state. -/
def State.linkState (s : State) (k : Nat) : Nat := s.on (Od.head_link.link_state k)

/-- Segment of a plane is in channel_mask. -/
def State.inMask (s : State) (p seg : Nat) : Bool := bitAt (s.on (Od.plane_firing.channel_mask p)) seg

/-- Segments of a plane in channel_mask. -/
def State.maskSegs (s : State) (p : Nat) : List Nat := (List.range 48).filter (s.inMask p)

/-- A link serves a channel in the mask of its plane. -/
def State.linkUsed (s : State) (k : Nat) : Bool :=
  (List.range 4).any (fun j => s.inMask (k / 12) (4 * (k % 12) + j))

/-- The accepted identity block of a link holds the block of a channel (R403). -/
def State.blockFitted (s : State) (k j : Nat) : Bool := bitAt (leAt (s.link k).block 24 1) j

/-- Little-endian field of a link's accepted identity header (R401). -/
def State.idf (s : State) (k off len : Nat) : Nat := leAt (s.link k).block off len

/-- The links of a plane with a channel in its mask that are READY or FIRING (R404). -/
def State.readyLinks (s : State) (p : Nat) : List Nat :=
  ((List.range 12).map (fun i => 12 * p + i)).filter (fun k =>
    s.linkUsed k && (s.linkState k = 5 || s.linkState k = 6))

/-- Recomputes the fire limit and t_head of a plane from its identity blocks (R404). -/
def State.refreshLimits (s : State) (p : Nat) : State :=
  let ks := s.readyLinks p
  let lim := (ks.map (fun k => s.idf k 28 4)).foldl min 160000
  let th := (ks.map (fun k => s.idf k 32 4)).foldl max 0
  ((s.setn (Od.plane_tick.fire_limit_hz p) lim).setn (Od.plane_tick.head_latency_ns p) th)

/-- Equalisation delay e_k of a link in ns (R408). -/
def State.equalisation (s : State) (k : Nat) : Int :=
  let p := k / 12
  (s.oi (Od.plane_tick.cable_delay_ns p) - s.oi (Od.head_link.hl_cable_ns k)) +
  (s.oi (Od.plane_tick.head_latency_ns p) - s.oi (Od.head_link.head_latency_ns k))

/-- Waveform slot data. -/
def State.wave (s : State) (p slot : Nat) : List Byte := s.obytes (Od.waveform_slot.wave_data (16 * p + slot))

/-- wave_kind of a slot. -/
def State.waveKind (s : State) (p slot : Nat) : Nat := leAt (s.wave p slot) 0 1

/-- Slot of a band of a plane (R410). -/
def State.bandSlot (s : State) (p band : Nat) : Nat :=
  (s.on (Od.plane_firing.wave_slots p) / 2 ^ (8 * band)) % 16

/-- The four slots a plane's bands name. -/
def State.bandSlots (s : State) (p : Nat) : List Nat := (List.range 4).map (s.bandSlot p)

/-- A lane's deckle on a plane covers a column of a segment outside the mask (R379). -/
def State.deckleConflict (s : State) (p : Nat) : Bool :=
  (List.range 8).any (fun l =>
    let k := 4 * l + p
    let a := s.on (Od.deckle.deckle_left k)
    let w := s.on (Od.deckle.deckle_width k)
    s.ob (Od.lane_config.lane_enable l) && s.on (Od.lane_config.lane_target l) = 0 &&
    bitAt (s.on (Od.lane_config.lane_planes l)) p && w ≠ 0 &&
    (List.range 48).any (fun g => decide (1024 * g < a + w) && decide (a < 1024 * (g + 1)) &&
      !s.inMask p g))

/-- The configuration conflict of a plane: 0 none, 1 DECKLE, 2 EQUALISATION, 3 WAVEFORM (R379, R408,
R410). -/
def State.conflictOf (s : State) (p : Nat) : Nat :=
  if s.deckleConflict p then 1
  else if (s.readyLinks p).any (fun k => decide (10000 < s.equalisation k)) then 2
  else if (s.bandSlots p).any (fun x => s.waveKind p x = 0) then 3
  else 0

/-- The plane fires: it has started and not stopped (R416). -/
def State.fires (s : State) (p : Nat) : Bool :=
  let st := s.on (Od.plane_fire_status.plane_state p)
  st = 1 || st = 2

/-- Gates closed that cover a ring, as a mask (R418, R432). -/
def State.gateMask (s : State) (ring : Nat) : Nat :=
  (List.range 10).foldl (fun a g =>
    if s.ob (Od.gate_input.gate_closed g) && bitAt (s.on (Od.gate_input.gate_target g)) ring then
      a + 2 ^ g else a) 0

/-- The validity of a channel's counts (R28): UNKNOWN as long as a configuration conflict of its plane stands
and the channel is in the plane's mask (R33), and otherwise as recorded. -/
def State.chanValidity (s : State) (ch : Nat) : Nat :=
  if s.on (Od.plane_fire_status.conflict_reason (ch / 48)) ≠ 0 ∧ s.inMask (ch / 48) (ch % 48) = true then 2
  else s.on (Od.firing_channel.count_validity ch)

/-- Updates what a plane reports of conflicts, gates and state while it is not being fetched (R432). -/
def State.refreshPlane (s : State) (p : Nat) : State :=
  let c := s.conflictOf p
  let g := s.gateMask p
  let s := (s.setn (Od.plane_fire_status.conflict_reason p) c).setn (Od.plane_fire_status.gate_reasons p) g
  let st :=
    if s.safe then 3
    else if s.fires p then (if g = 0 then 1 else 2)
    else if c ≠ 0 then 4 else 0
  s.setn (Od.plane_fire_status.plane_state p) st

/-- A channel enters a state with a reason. -/
def State.setChan (s : State) (ch st reason : Nat) : State :=
  (s.setn (Od.firing_channel.channel_state ch) st).setn (Od.firing_channel.state_reason ch) reason

/-- CHANNEL_STATE for one channel (R430). -/
def State.chanEvent (s : State) (ch : Nat) : State :=
  s.event 0x4001 (leBytes 1 ch ++ leBytes 1 (s.chan ch) ++ leBytes 1 (s.on (Od.firing_channel.state_reason ch)))

/-- The channels of a link. -/
def chansOf (k : Nat) : List Nat := (List.range 4).map (fun j => 4 * k + j)

/-- The link and its channels enter a state; a channel whose block is absent goes to INCOMPATIBLE with reason
SEGMENT_ABSENT in LOADING and after (R403). The plane's limits follow (R404). -/
def State.setLinkState (s : State) (k st reason : Nat) : State :=
  let s := (List.range 4).foldl (fun a j =>
    if (st = 4 ∨ st = 5) ∧ a.blockFitted k j = false then a.setChan (4 * k + j) 3 5
    else a.setChan (4 * k + j) st reason) s
  let s := s.setn (Od.head_link.link_state k) st
  let s := if st = 1 then s.inc32 (Od.head_link.link_losses k) else s
  (s.refreshLimits (k / 12)).refreshPlane (k / 12)

/-- CHANNEL_STATE for the four channels of a link. -/
def State.linkEvent (s : State) (k : Nat) : State := (chansOf k).foldl (fun a ch => a.chanEvent ch) s

/-! ### The compensation map (R462 to R473) -/

/-- The identity entry. -/
abbrev mapIdentity : Nat := 0xE4

/-- The entry in force of a nozzle. -/
def State.mapEntry (s : State) (p c : Nat) : Nat := (kvGet s.insp.force (nozKey p c)).getD mapIdentity

/-- The entry staged for a nozzle, if any. -/
def State.stagedEntry (s : State) (p c : Nat) : Option Nat :=
  s.insp.groups.foldl (fun a g => if g.plane = p then
    (match kvGet g.entries c with | some e => some e | none => a) else a) none

/-- delay_trim of an entry, in 0.1 ns. -/
def entryTrim (e : Nat) : Int := signedOf 16 (e / 65536)

/-- A trim of 0.1 ns in steps of a head (R406). -/
def trimSteps (step : Nat) (tr : Int) : Int :=
  if step = 0 then 0 else clampInt (-127) 127 (roundDiv tr (10 * step))

/-- Sets an entry in force. -/
def State.setEntry (s : State) (p c e : Nat) : State :=
  let f := if e = mapIdentity then kvDel s.insp.force (nozKey p c) else kvSet s.insp.force (nozKey p c) e
  s.setInsp { s.insp with force := f }

/-- Entries in force of a plane that differ from the identity: column and entry. -/
def State.planeMap (s : State) (p : Nat) : List (Nat × Nat) :=
  (s.insp.force.filter (fun q => q.1 / 65536 = p)).map (fun q => (q.1 % 65536, q.2))

/-- Renews nozzles_disabled, nozzles_remapped and uncovered_nozzles of a plane (R465, R481). -/
def State.countMap (s : State) (p : Nat) : State :=
  let m := s.planeMap p
  let dis := fun c => match kvGet m c with | some e => bitAt e 8 | none => false
  let s := s.setn (Od.nozzle_health.nozzles_disabled p) (m.filter (fun q => bitAt q.2 8)).length
  let s := s.setn (Od.nozzle_health.nozzles_remapped p) (m.filter (fun q => q.2 % 256 ≠ 0xE4)).length
  s.setn (Od.nozzle_health.uncovered_nozzles p)
    (m.filter (fun q => bitAt q.2 8 && (q.1 ≠ 0 && dis (q.1 - 1)) && dis (q.1 + 1))).length

/-- Staged nozzles of a plane. -/
def State.stagedCount (s : State) (p : Nat) : Nat :=
  ((s.insp.groups.filter (fun g => g.plane = p)).map (fun g => g.entries.length)).foldl (· + ·) 0

/-- No item of a lane owns both lines n − 1 and n of a plane (R468). -/
def State.boundary (s : State) (p : Nat) (n : Int) (lane : Nat) : Bool :=
  !s.lane.items.any (fun it => decide (it.lane = lane) && (match it.spans.toList.getD p none with
    | some r => decide (r.first ≤ n - 1) && decide (n < r.first + r.count)
    | none => false))

/-- The bound of R471 has passed for a group at line n. -/
def State.overBound (s : State) (g : MapGroup) (n : Int) : Bool :=
  match g.det, g.lanes with
  | some td, [l] =>
    let after := s.lane.items.filterMap (fun it => match it.spans.toList.getD g.plane none with
      | some r => if it.lane = l ∧ g.detLine < r.first + r.count - 1 then some r.first else none
      | none => none)
    decide (td + 50000000 < s.now) && (match after.drop 2 with
      | f :: _ => decide (f < n)
      | [] => false)
  | some td, [] => decide (td + 50000000 < s.now)
  | _, _ => false

/-- A group is counted in groups_waiting: it waits for a second lane, or beyond its bound (R469). -/
def State.countWaiting (s : State) (p : Nat) (n : Int) : State :=
  let hit := fun (g : MapGroup) => decide (g.plane = p) && g.complete && !g.counted &&
    (decide (2 ≤ g.lanes.length) || s.overBound g n)
  let k := (s.insp.groups.filter hit).length
  let s := s.setInsp { s.insp with groups := s.insp.groups.map (fun g =>
    if hit g then { g with counted := true } else g) }
  if k = 0 then s else s.bump (Od.map_status.groups_waiting p) 16 k

/-- A group switches at line n: its entries come into force, its banks flip, and it is counted (R469, R470,
R482). -/
def State.switchGroup (s : State) (g : MapGroup) (n : Int) : State :=
  let p := g.plane
  let late := g.counted || s.overBound g n
  let lat := match g.det with
    | some td => (s.now - td) / 1000
    | none => 0
  let s := s.setInsp { s.insp with groups := s.insp.groups.filter (fun x => x.id ≠ g.id) }
  let s := g.entries.foldl (fun a e => a.setEntry p e.1 e.2) s
  let s := (g.flips ++ g.trimOut ++ g.trimDue).eraseDups.foldl (fun a k =>
    a.setLink k { a.link k with bank := 1 - (a.link k).bank }) s
  let s := if g.counted then s.setn (Od.map_status.groups_waiting p)
    (s.on (Od.map_status.groups_waiting p) - 1) else s
  let s := (s.inc64 (Od.map_status.map_switches p)).seti (Od.map_status.last_switch_line p) n
  let s := s.setn (Od.map_status.last_switch_time p) s.time
  let s := match g.det with
    | some _ =>
      let s := s.setn (Od.map_status.last_latency_us p) lat
      if g.lanes.length ≤ 1 then s.setn (Od.map_status.max_latency_us p)
        (max (s.on (Od.map_status.max_latency_us p)) lat) else s
    | none => s
  let s := (s.setn (Od.map_status.staged_nozzles p) (s.stagedCount p)).countMap p
  if late then s.event 0x4801 (leBytes 1 p ++ leBytes 4 g.entries.length ++
    leBytes 8 (patternOf 64 n) ++ leBytes 4 lat)
  else s

/-- Writes the trims of all nozzle positions of a link into its unused bank: the TRIM_WRITEs that then wait
for their ACK (R383, R470). -/
def State.writeTrims (s : State) (k : Nat) : State :=
  let x := s.link k
  if leAt x.block 38 2 = 0 then s
  else
    let frames := (List.range 16).filter (fun i => bitAt (leAt x.block 24 1) (i / 4))
    let outs := frames.zipIdx.map (fun q => (⟨x.ctlSeq + q.2, none, q.1 / 4, 256 * (q.1 % 4), 1 - x.bank⟩ : CtlOut))
    s.setLink k { x with waiting := x.waiting ++ outs, ctlSeq := (x.ctlSeq + outs.length) % 2 ^ 32 }

/-- Sends the TRIM_WRITEs of groups whose links are free of an earlier group's (R470). -/
def State.sendTrims (s : State) : State :=
  s.insp.groups.foldl (fun a g0 =>
    match a.insp.groups.find? (fun x => x.id = g0.id) with
    | none => a
    | some g =>
      if g.complete = false then a
      else
        let free := g.trimDue.filter (fun k => !a.insp.groups.any (fun x => decide (x.id < g.id) &&
          (x.trimDue.contains k || x.trimOut.contains k || x.flips.contains k)))
        let a := free.foldl (fun b k => b.writeTrims k) a
        let out := free.filter (fun k => (a.link k).waiting.any (fun w => w.slot.isNone))
        let now := free.filter (fun k => !out.contains k)
        a.setInsp { a.insp with groups := a.insp.groups.map (fun x => if x.id = g.id then
          { x with trimDue := x.trimDue.filter (fun k => !free.contains k), trimOut := x.trimOut ++ out,
                   flips := x.flips ++ now } else x) }) s

/-- Switches every complete group of a plane that does not fire (R472). -/
def State.switchNow (s : State) (p : Nat) : State :=
  let n := s.oi (Od.plane_tick.line_index p)
  (s.insp.groups.filter (fun g => g.plane = p && g.complete)).foldl (fun a g => a.switchGroup g n) s

/-- Switches at the fetch of line n of a firing plane the groups that qualify (R469). -/
def State.switchAt (s : State) (p : Nat) (n : Int) : State :=
  let s := s.countWaiting p n
  let s := (s.insp.groups.filter (fun g => g.plane = p && g.complete && g.trimDue.isEmpty &&
    g.trimOut.isEmpty && g.lanes.all (s.boundary p n))).foldl (fun a g => a.switchGroup g n) s
  s.sendTrims

/-! ### The fetch (R376, R377) -/

/-- The nonzero pixels of a listed byte of a line: column and level (R375). -/
def cellPixels (base : Nat) (c : Host.Cell) : List (Nat × Nat) :=
  (List.range 4).filterMap (fun i =>
    let l := field c.2.toNat (2 * i + 1) (2 * i)
    if l = 0 then none else some (4 * (c.1 - base) + i, l))

/-- The nonzero pixels of a couched line, by rising column; none of a blank line (R274, R331). -/
def State.linePixels (s : State) (ring : Nat) (n : Int) : List (Nat × Nat) :=
  if (s.byteAt (tagAddr ring n + 8)).toNat % 2 = 1 then []
  else
    let a := lineAddr ring n
    (s.mem.cells.filter (fun c => decide (a ≤ c.1) && decide (c.1 < a + lineBytes))).flatMap (cellPixels a)

/-- The pixels of a couched line that print: the remaining lines of a DRAINING item are blank (R46, R214, R216), so
what it drew is left out, and where another item's deckle overlaps its own that item's ink stands (R271). -/
def State.livePixels (s : State) (ring : Nat) (n : Int) : List (Nat × Nat) :=
  let gone := (s.owners ring n).filter (fun it => !it.inFlight)
  if gone.isEmpty then s.linePixels ring n
  else
    let row := (s.composeLine ring n).1.toArray
    (s.linePixels ring n).filterMap (fun q =>
      if gone.any (fun it => it.covers ring q.1) then
        (if row[q.1]?.getD 0 = 0 then none else some (q.1, row[q.1]?.getD 0))
      else some q)

/-- The lanes own no part of a line: every byte of lane_slots is 255 (R413). -/
def State.unowned (s : State) (ring : Nat) (n : Int) : Bool :=
  (s.load (tagAddr ring n) 8).all (fun b => b = 0xFF)

/-- Level of a nozzle after step 1 of R377 (R463). -/
def mapLevel (entry : Nat) (odd : Bool) (own left right : Nat) : Nat :=
  let src := field entry 10 9
  let par := field entry 12 11
  let on := par = 0 || (par = 1 && !odd) || (par = 2 && odd)
  let g := if on && src % 2 = 1 then max own left else own
  let g := if on && 2 ≤ src then max g right else g
  if bitAt entry 8 then 0 else field entry (2 * g + 1) (2 * g)

/-- A column put into a rising list. -/
def insCol (c : Nat) : List Nat → List Nat
  | [] => [c]
  | x :: xs => if c < x then c :: x :: xs else if c = x then x :: xs else x :: insCol c xs

/-- Columns that can hold ink after the map: the inked ones and their neighbours, by rising column. -/
def inkColumns : List (Nat × Nat) → List Nat
  | [] => []
  | q :: qs =>
    let r := insCol q.1 (insCol (q.1 + 1) (inkColumns qs))
    if q.1 = 0 then r else insCol (q.1 - 1) r

/-- Levels of a line after step 1 of R377 in the segments that hold it. -/
def State.mapped (s : State) (p : Nat) (n : Int) (segs : List Nat) (px : List (Nat × Nat)) :
    List (Nat × Nat) :=
  let odd := decide (n % 2 = 1)
  (inkColumns px).filterMap (fun c =>
    if c < 49152 ∧ segs.contains (c / 1024) then
      let lv := fun k => (kvGet px k).getD 0
      let l := mapLevel (s.mapEntry p c) odd (lv c) (if c = 0 then 0 else lv (c - 1)) (lv (c + 1))
      if l = 0 then none else some (c, l)
    else none)

/-- Thermal maximum level of a plane (R412, R431). -/
def State.thermalLevel (s : State) (p : Nat) : Nat :=
  (s.on Od.thermal_status.plane_level_limits / 2 ^ (8 * p)) % 256

/-- Thermal pre-heat limit of a plane. -/
def State.thermalPreheat (s : State) (p : Nat) : Nat :=
  (s.on Od.thermal_status.plane_preheat_limits / 2 ^ (8 * p)) % 256

/-- The clamp of a segment: the lowest of the head's, the plane's and the thermal maximum level (R377). -/
def State.clampOf (s : State) (p seg : Nat) : Nat :=
  let k := linkOf p seg
  let head := if (s.link k).block.isEmpty then 3 else s.idf k 25 1
  min head (min (s.on (Od.plane_firing.max_drop_level p)) (s.thermalLevel p))

/-- The least recharge interval of a level among a plane's links (R424). -/
def State.recharge (s : State) (p level : Nat) : Nat :=
  match (s.readyLinks p).map (fun k => s.idf k (36 + 4 * level) 4) with
  | [] => 0
  | x :: xs => xs.foldl min x

/-- The recharge check suppresses a nozzle at the fetch (R424). -/
def State.recharging (s : State) (p c : Nat) : Bool :=
  let z := s.nozzle (nozKey p c)
  match z.lastAt with
  | none => false
  | some tf =>
    let f := s.lineRate
    decide (((s.now - tf : Nat) : Int) * f.num + 980000000 * f.den <
      (s.recharge p z.lastLevel : Int) * f.num)

/-- The band in effect (R410). -/
def State.bandNow (s : State) (p : Nat) : Nat :=
  let f := s.lineRate
  let under := fun (k : Nat) => decide (f.num < (s.on k : Int) * f.den)
  if under (Od.plane_firing.wave_band_1_hz p) then 0
  else if under (Od.plane_firing.wave_band_2_hz p) then 1
  else if under (Od.plane_firing.wave_band_3_hz p) then 2 else 3

/-- Heads of a plane are of the thermal kind. -/
def State.thermalHeads (s : State) (p : Nat) : Bool :=
  (s.readyLinks p).any (fun k => s.on (Od.head_link.head_kind k) = 2)

/-- Columns that are due a spit drop in a blank, unowned line (R413). -/
def State.spitColumns (s : State) (p : Nat) (n : Int) (segs : List Nat) : List Nat :=
  let blank := (s.byteAt (tagAddr p n + 8)).toNat % 2 = 1
  if s.ob (Od.plane_firing.spit_enable p) && blank && s.unowned p n && s.gateMask p = 0 then
    let count := s.fire.ticked.toList.getD p 0
    (segs.flatMap (fun g => (List.range 1024).map (fun i => 1024 * g + i))).filter (fun c =>
      decide (s.on (Od.plane_firing.spit_interval_lines p) ≤ count + 1 - (s.nozzle (nozKey p c)).lastCount) &&
      !bitAt (s.mapEntry p c) 8 && !s.recharging p c)
  else []

/-- A plane fires from this fetch on (R416). -/
def State.mayFire (s : State) (p : Nat) : Bool :=
  s.ob (Od.plane_firing.firing_enable p) && s.conflictOf p = 0 && !s.safe && !s.stopped &&
  (s.pairActive || s.pairState = 4 || s.pairState = 6) &&
  (s.fires p || (s.ob Od.couch_store_status.couch_init_done && s.trk ≠ 0 && s.trk ≠ 6 &&
    (s.maskSegs p).all (fun g => s.chan (48 * p + g) = 5 || s.chan (48 * p + g) = 6)))

/-- The channels of a plane follow its firing: READY to FIRING in the mask, FIRING to READY (R415). -/
def State.followPlane (s : State) (p : Nat) (on : Bool) : State :=
  let s := (List.range 48).foldl (fun a g =>
    let ch := 48 * p + g
    if on && a.chan ch = 5 && a.inMask p g then a.setChan ch 6 0
    else if !on && a.chan ch = 6 then a.setChan ch 5 0 else a) s
  (List.range 12).foldl (fun a i =>
    let k := 12 * p + i
    if a.linkState k = 5 ∨ a.linkState k = 6 then
      a.setn (Od.head_link.link_state k)
        (if (chansOf k).any (fun ch => a.chan ch = 6) then 6 else 5)
    else a) s

/-- The line of a plane that is fetched as it stands in the framer (R377, R386). -/
def State.heldLine (s : State) (p : Nat) (n : Int) (on struck : Bool) : HeldLine :=
  let segs := if on then s.maskSegs p else (s.maskSegs p).filter (fun g => s.chan (48 * p + g) = 5)
  let late := struck || decide (s.oi (Od.compose_ring.couch_frontier p) < n)
  let lv := if late then [] else s.mapped p n segs (s.livePixels p n)
  let drops := lv.map (fun q => (q.1, min q.2 (s.clampOf p (q.1 / 1024))))
  let cut := lv.filter (fun q => s.clampOf p (q.1 / 1024) < q.2)
  let up := if on then segs.filter (fun g => s.chan (48 * p + g) = 6) else segs
  let pre := min (s.on (Od.plane_firing.preheat_percent p)) (s.thermalPreheat p)
  { n := n, firing := on, late := late, drops := drops,
    recharge := (drops.filter (fun q => s.recharging p q.1)).map (fun q => q.1),
    spit := if on && !late then s.spitColumns p n up else [],
    spitLevel := s.on (Od.plane_firing.spit_level p), slot := s.bandSlot p (s.bandNow p), preheat := pre,
    idleWave := if s.thermalHeads p then decide (0 < pre)
      else s.ob (Od.plane_firing.tickle_enable p) && decide (s.thermalPreheat p ≠ 0),
    links := (List.range 12).foldl (fun a i => if up.any (fun g => g / 4 = i) then a + 2 ^ i else a) 0,
    up := up, gap := false,
    clamped := segs.filterMap (fun g =>
      let k := (cut.filter (fun q => q.1 / 1024 = g)).length
      if k = 0 then none else some (g, k)) }

/-- The fetch of line n of a plane (R376, R377, R386): line values take effect, the plane starts or stops
firing (R416), the map switches (R469), and the line is framed. `struck`: an uncorrectable error struck it
(R328). -/
def State.fetch (s : State) (p : Nat) (n : Int) (struck : Bool) : State :=
  let s := s.applyLine p
  let on := s.mayFire p
  let s := s.setn (Od.plane_fire_status.plane_state p) (if on then 1 else 0)
  let s := (s.followPlane p on).refreshPlane p
  let s := if on && s.gateMask p = 0 then s.switchAt p n else s.switchNow p
  let own := (s.owners p n).isEmpty = false
  if !on && !own then s.setFire { s.fire with line := s.fire.line.setIfInBounds p none }
  else
    let s := if struck then s.couchBad (lineAddr p n) 0 else s
    let h := s.heldLine p n on struck
    let s := h.clamped.foldl (fun a q =>
      a.modAcc (48 * p + q.1) (fun c => { c with clamped := c.clamped + q.2 })) s
    let s := (s.setn (Od.plane_fire_status.clamp_in_effect p)
      (((s.maskSegs p).map (s.clampOf p)).foldl min (min (s.on (Od.plane_firing.max_drop_level p)) (s.thermalLevel p)))).setn
      (Od.plane_fire_status.preheat_in_effect p) h.preheat
    let s := s.setn (Od.plane_fire_status.band_in_effect p) (s.bandNow p)
    let s := if on then (List.range 12).foldl (fun a i =>
        if bitAt h.links i then a.inc64 (Od.head_link.line_frames_sent (12 * p + i)) else a) s
      else s
    s.setFire { s.fire with line := s.fire.line.setIfInBounds p (some h) }

end Sys2Proof.Machine
end

