-- ==== Sys2Proof/Machine/Island.lean ====
section
/-! DEFINITION. The metrology island (spec/17): weighing, zero, seal, the sealed channel, and the meanings of
its commands. -/

namespace Sys2Proof.Machine

/-- island_state (R628). -/
def State.islandState (s : State) : Nat := s.on Od.island_identity.island_state

/-- Changes the island. -/
def State.setMet (s : State) (m : MetSt) : State := { s with met := m }

/-- A load cell. -/
def State.cell (s : State) (c : Nat) : LoadCell := s.met.cells.toList.getD c ⟨none, none, 0⟩

/-- Replaces a load cell. -/
def State.setCell (s : State) (c : Nat) (x : LoadCell) : State :=
  s.setMet { s.met with cells := s.met.cells.setIfInBounds c x }

/-- The value of an F32 pattern as a fraction; infinities and NaN read as zero (assumption log entry 20). -/
def f32Frac (p : Nat) : Frac :=
  let e := field p 30 23
  let f := field p 22 0
  let sg : Int := if bitAt p 31 then -1 else 1
  if e = 255 then ⟨0, 1⟩
  else
    let m : Nat := if e = 0 then f else f + 2 ^ 23
    let e := max e 1
    if 150 ≤ e then ⟨sg * (m * 2 ^ (e - 150) : Nat), 1⟩ else fracNorm (sg * m) (2 ^ (150 - e))

/-- cal_span of a cell in mg per count. -/
def State.calSpan (s : State) (c : Nat) : Frac := f32Frac (s.on (Od.load_cell.cal_span c))

/-- One event of event_counter, with its audit record; the flash keeps the last 1 024 (R625). -/
def State.islandEvent (s : State) (node : Nat) (objs : List (Nat × OVal × OVal)) : State :=
  let n : Nat := s.on Od.island_identity.event_counter + 1
  let s := s.setDurable Od.island_identity.event_counter (.int n)
  let l := s.met.audit ++ [⟨n, s.time, node, objs⟩]
  s.setMet { s.met with audit := l.drop (l.length - 1024) }

/-- Takes a zero on one cell: the cell is stable and unloaded, and the offset lies within
zero_range_percent of max_capacity_mg of the calibrated zero (R621). -/
def State.takeZero (s : State) (c : Nat) : State :=
  let r := Config.cellReading c s.freeCtr
  let s := s.freeNext
  match r with
  | none => s
  | some z =>
    let d := fracMul (s.calSpan c) (z - s.oi (Od.load_cell.cal_zero c)) 1
    let lim : Int := s.on Od.weighing_config.zero_range_percent * s.on Od.weighing_config.max_capacity_mg
    if d.num.natAbs * 100 ≤ lim * d.den then s.setCell c { s.cell c with zero := some z, offset := z }
    else s

/-- zero_request (R621): both cells. -/
def State.zeroRequest (s : State) : State :=
  if s.islandState = 2 ∨ s.islandState = 3 then (s.takeZero 0).takeZero 1 else s

/-- The island enters SEALED: a new epoch, and the zeros are set anew (R621, R626). -/
def State.enterSealed (s : State) : State :=
  let e : Nat := (s.on Od.island_identity.seal_epoch + 1) % 2 ^ 16
  let s := (s.setn Od.island_identity.island_state 2).setDurable Od.island_identity.seal_epoch (.int e)
  let s := (s.setCell 0 { s.cell 0 with zero := none }).setCell 1 { s.cell 1 with zero := none }
  (s.takeZero 0).takeZero 1

/-- The island enters FAULTED with a reason (R628). No weighing goes on. -/
def State.islandFault (s : State) (reason : Nat) : State :=
  let s := (s.setn Od.island_identity.island_state 4).setn Od.island_identity.fault_reason reason
  (s.setCell 0 { s.cell 0 with started := none }).setCell 1 { s.cell 1 with started := none }

/-- The island runs: SEALED or UNSEALED (R628). -/
def State.islandRuns (s : State) : Bool := s.islandState = 2 || s.islandState = 3

/-- A number of minor units with decimals, the point as separator (R622). -/
def decText (dec : Nat) (v : Int) : List Byte :=
  let n := v.natAbs
  let b := numText 10 (n / 10 ^ dec)
  let f := if dec = 0 then [] else
    [0x2E] ++ (let t := numText 10 (n % 10 ^ dec); List.replicate (dec - t.length) 0x30 ++ t)
  (if v < 0 then [0x2D] else []) ++ b ++ f

/-- A weight in unit_text, with the unit (R622). -/
def State.weightText (s : State) (mg : Int) : List Byte :=
  let d := s.on Od.weighing_config.weight_decimals
  decText d (roundDiv (mg * 10 ^ d) (s.on Od.weighing_config.unit_mg)) ++ [0x20] ++
  s.obytes Od.weighing_config.unit_text

/-- The four texts of a result (R622). -/
def State.weighTexts (s : State) (net tare : Int) (lane : Nat) : List (List Byte) :=
  let up := s.oi (Od.unit_price.unit_price lane)
  let pd := s.on Od.weighing_config.price_decimals
  let cur := s.obytes Od.weighing_config.currency_text
  let price := roundDiv (net * up) (s.on Od.weighing_config.unit_mg)
  [s.weightText net, s.weightText tare,
   decText pd up ++ [0x20] ++ cur ++ [0x2F] ++ s.obytes Od.weighing_config.unit_text,
   decText pd price ++ [0x20] ++ cur]

/-- A sealed record (R629). -/
def sealRecord (seq lane status epoch time : Nat) (net tare price : Int) (ts : List (List Byte)) :
    List Byte :=
  let b := leBytes 4 seq ++ leBytes 1 lane ++ leBytes 1 status ++ leBytes 2 epoch ++ leBytes 8 time ++
    leBytes 4 (patternOf 32 net) ++ leBytes 4 (patternOf 32 tare) ++ leBytes 4 (patternOf 32 price) ++
    leBytes 4 0 ++ padTo 16 (ts.getD 0 []) ++ padTo 16 (ts.getD 1 []) ++ padTo 16 (ts.getD 2 []) ++
    padTo 16 (ts.getD 3 [])
  b ++ (hmacSha256 Config.channelKey b).take 16

/-- The status of a result (R620): the first of the table that applies. -/
def State.weighStatus (s : State) (c : Nat) (stable : Bool) (gross : Frac) (net : Int) : Nat :=
  let e : Int := s.on Od.weighing_config.scale_interval_mg
  if (s.cell c).zero = none then 1
  else if stable = false then 2
  else if net < s.oi Od.weighing_config.min_intervals * e then 3
  else if (s.oi Od.weighing_config.max_capacity_mg + 9 * e) * gross.den < gross.num then 4
  else 0

/-- A qualified rising edge on MET_PDi starts a weighing; one during a weighing of the same cell is
counted and ignored (R620). -/
def execMetPdEdge (t : Nat) (cell : Fin 2) (s : State) : Host.Outcome State Fault Refusal :=
  let s := s.atTime t
  if s.islandRuns = false then ok s
  else if (s.cell cell).started.isSome then ok (s.inc32 Od.weighing_status.edges_ignored)
  else ok (s.setCell cell { s.cell cell with started := some s.now })

/-- The weighing window ends over `n` samples of the given sum, least and greatest value: the result is
formed, numbered and sent (R620, R622, R627, R629). -/
def execWeighingWindowEnd (t : Nat) (cell : Fin 2) (n : Nat) (sum least greatest : Int) (s : State) :
    Host.Outcome State Fault Refusal :=
  let s := s.atTime t
  let x := s.cell cell
  if s.islandRuns = false ∨ x.started = none ∨ n = 0 then ok s
  else
    let span := s.calSpan cell
    let gross := fracMul (fracAdd (fracNorm sum n) ⟨-x.offset, 1⟩) span.num span.den
    let tare := Config.tareMg cell
    let e := s.on Od.weighing_config.scale_interval_mg
    let raw := fracAdd gross ⟨-tare, 1⟩
    let net := roundDiv raw.num (raw.den * e) * e
    let spread := fracMul span (greatest - least) 1
    let stable := decide (spread.num.natAbs * 10 ≤
      s.on Od.weighing_config.stability_band_tenths * e * spread.den)
    let lane := s.on (Od.load_cell.wp_lane cell)
    let st := s.weighStatus cell stable gross net
    let seq := s.met.nextSeq
    let price := roundDiv (net * s.oi (Od.unit_price.unit_price lane)) (s.on Od.weighing_config.unit_mg)
    let r := sealRecord seq lane st (s.on Od.island_identity.seal_epoch) s.time net tare price
      (s.weighTexts net tare lane)
    let s := (s.setn Od.weighing_status.last_sequence seq).inc64 Od.weighing_status.results_issued
    let s := s.setCell cell { x with started := none }
    ok (s.setMet { s.met with
      channel := s.met.channel ++ [r], nextSeq := if (seq + 1) % 2 ^ 32 = 0 then 1 else seq + 1,
      reserved := if s.met.reserved < seq then (s.met.reserved + 1024) % 2 ^ 32 else s.met.reserved })

/-- Text of a record up to its first zero byte (R631). -/
def textAt (b : List Byte) (off : Nat) : List Byte := (slice off 16 b).takeWhile (fun x => x ≠ 0)

/-- A full result buffer displaces its oldest unbound entry; with all bound, its oldest (R630). -/
def displace (l : List Weighed) : List Weighed :=
  if l.length < 256 then l
  else if l.any (fun w => w.bound.isNone) then l.eraseP (fun w => w.bound.isNone) else l.drop 1

/-- A sealed result arrives at the channel verifier (R630, R632). -/
def execSealedRecord (t : Nat) (data : List Byte) (s : State) : Host.Outcome State Fault Refusal :=
  let s := s.atTime t
  let s := s.setMet { s.met with channel := s.met.channel.drop 1 }
  if data.length ≠ 112 ∨ data.drop 96 ≠ (hmacSha256 Config.channelKey (data.take 96)).take 16 then
    ok (s.inc32 Od.weighing_status.results_rejected_tag)
  else
    let w : Weighed := { seq := leAt data 0 4, lane := leAt data 4 1, status := leAt data 5 1,
                         epoch := leAt data 6 2, time := leAt data 8 8,
                         texts := [textAt data 32, textAt data 48, textAt data 64, textAt data 80],
                         bound := none }
    let l := displace s.met.buffer
    let s := if l.length < s.met.buffer.length then s.inc32 Od.weighing_status.results_expired else s
    let s := s.setMet { s.met with buffer := l ++ [w] }
    ok (s.event 0x7000 (slice 0 6 data ++ slice 16 4 data))

/-- The seal has been open for 10 ms (R623, R625, R628). -/
def execSealOpened (t : Nat) (s : State) : Host.Outcome State Fault Refusal :=
  let s := s.atTime t
  let s := s.setMet { s.met with
    sealShut := false
    openLatched := s.met.openLatched || (s.islandState != 2 && s.islandState != 3) }
  let s := s.setDurable Od.island_identity.seal_openings
    (.int ((s.on Od.island_identity.seal_openings + 1) % 2 ^ 32 : Nat))
  let s := s.islandEvent 0 []
  ok (if s.islandState = 2 then s.setn Od.island_identity.island_state 3 else s)

/-- The seal has been closed for 10 ms: SEALED, with a new epoch and zero (R621, R623, R626). -/
def execSealClosed (t : Nat) (s : State) : Host.Outcome State Fault Refusal :=
  let s := s.atTime t
  let s := s.setMet { s.met with sealShut := true }
  ok (if s.islandState = 3 then s.enterSealed else s)

/-- Zero tracking: the gross weight has stayed within half an interval of zero for 1 s at `mean` counts,
and is moved to exactly zero, by at most half an interval (R621). -/
def execZeroTracking (t : Nat) (cell : Fin 2) (mean : Int) (s : State) :
    Host.Outcome State Fault Refusal :=
  let s := s.atTime t
  let x := s.cell cell
  let d := fracMul (s.calSpan cell) (mean - x.offset) 1
  if s.islandRuns && s.ob Od.weighing_config.zero_tracking && x.zero.isSome &&
      decide (2 * d.num.natAbs ≤ s.on Od.weighing_config.scale_interval_mg * d.den) then
    ok (s.setCell cell { x with offset := mean, zero := some mean })
  else ok s

/-- The island's image check and self-test end (R618, R628). -/
def execIslandBootComplete (t : Nat) (imageOk selfTestOk : Bool) (s : State) :
    Host.Outcome State Fault Refusal :=
  let s := s.atTime t
  if s.islandState ≠ 1 then ok s
  else if imageOk = false then ok (s.islandFault 1)
  else if selfTestOk = false then ok (s.islandFault 2)
  else
    let s := s.setMet { s.met with
      nextSeq := if (s.met.reserved + 1) % 2 ^ 32 = 0 then 1 else (s.met.reserved + 1) % 2 ^ 32 }
    if s.met.sealShut && !s.met.openLatched then ok s.enterSealed
    else ok ((s.setn Od.island_identity.island_state 3).setMet { s.met with openLatched := false })

/-- The modulator has been silent for 1 ms (R628). -/
def execModulatorSilent (t : Nat) (_cell : Fin 2) (s : State) : Host.Outcome State Fault Refusal :=
  let s := s.atTime t
  ok (if s.islandRuns then s.islandFault 3 else s)

/-- The island watchdog expires (R628). -/
def execIslandWatchdog (t : Nat) (s : State) : Host.Outcome State Fault Refusal :=
  let s := s.atTime t
  ok (if s.islandRuns then s.islandFault 4 else s)

/-- PD_METRO loses its supply (R628). -/
def execPdMetroSupplyFault (t : Nat) (s : State) : Host.Outcome State Fault Refusal :=
  let s := s.atTime t
  ok (if s.islandRuns then s.islandFault 5 else s)

/-- The result a WEIGHT field of an item on `lane` may bind (R631). -/
def State.weighedFor (s : State) (lane seq : Nat) : Option Weighed :=
  s.met.buffer.find? (fun w => w.seq = seq && w.status = 0 && w.lane = lane && w.bound.isNone &&
    s.islandState = 2 && w.epoch = s.on Od.island_identity.seal_epoch &&
    decide (s.time ≤ w.time + 1000000 * s.on Od.weighing_config.result_max_age_ms))

/-- Binds results to an item (R257). -/
def State.bindWeighed (s : State) (item : Nat) (seqs : List Nat) : State :=
  let n := (s.met.buffer.filter (fun w => seqs.contains w.seq && w.bound.isNone)).length
  let s := s.setMet { s.met with buffer := s.met.buffer.map (fun w =>
    if seqs.contains w.seq && w.bound.isNone then { w with bound := some item } else w) }
  s.bump Od.weighing_status.results_bound 64 n

end Sys2Proof.Machine
end

