-- ==== Sys2Proof/Machine/Net.lean ====
section
/-! DEFINITION. Network ports, time service, KLP packets and sessions (spec/04): the meanings of the
port, PTP, packet, session and event commands. -/

namespace Sys2Proof.Machine

/-! ### Ports (R119, R120, R158) -/

/-- A port loses link: counted, pushed as an event; sessions stay as they are (R120, R158). -/
def execNetLinkDown (t : Nat) (port : Fin 3) (_los : Bool) (s : State) :
    Host.Outcome State Fault Refusal :=
  let s := s.atTime t
  let s := (s.setb (Od.net_port.link_up port) false).inc32 (Od.net_port.link_losses port)
  let s := if port.val < 2 then
      s.setn Od.redundancy.pair_status (withBit (s.on Od.redundancy.pair_status) port false) else s
  ok (s.event Config.netLinkEvent (leBytes 1 port))

/-- A port's link comes up (R120). -/
def execNetLinkUp (t : Nat) (port : Fin 3) (s : State) : Host.Outcome State Fault Refusal :=
  let s := (s.atTime t).setb (Od.net_port.link_up port) true
  ok (if port.val < 2 then
      s.setn Od.redundancy.pair_status (withBit (s.on Od.redundancy.pair_status) port true) else s)

/-- Changes the SFP+ state of NETA or NETB. -/
def State.setSfp (s : State) (port : Fin 2) (inMod : Bool) (ident : List Byte) : State :=
  let s := { s with net := { s.net with sfp := s.net.sfp.set port inMod,
                                        txDisable := s.net.txDisable.set port !inMod } }
  s.setv (Od.net_port.module_identity port) (.bytes ident)

/-- An SFP+ module is inserted: identity read and reported, transmitter enabled (R120). -/
def execSfpModuleInserted (t : Nat) (port : Fin 2) (ident : List Byte) (s : State) :
    Host.Outcome State Fault Refusal :=
  ok ((s.atTime t).setSfp port true (ident.take 32))

/-- An SFP+ module is removed: transmitter disabled on NETx_TX_DISABLE (R120). -/
def execSfpModuleRemoved (t : Nat) (port : Fin 2) (s : State) : Host.Outcome State Fault Refusal :=
  ok ((s.atTime t).setSfp port false [])

/-- A received PAUSE frame is counted and discarded (R119). -/
def execPauseFrame (t : Nat) (port : Fin 3) (s : State) : Host.Outcome State Fault Refusal :=
  ok (((s.atTime t).inc64 (Od.net_port.rx_frames port)).inc32 (Od.net_port.pause_frames port))

/-! ### PTP (R122 to R126) -/

/-- The port PTP takes its time from, 255 for none. -/
def State.ptpPort (s : State) : Nat := s.on Od.ptp_status.ptp_active_port

/-- PTP listens on a port to a domain (R122, OD 16#2400). -/
def State.ptpListens (s : State) (port domain : Nat) : Bool :=
  s.ob Od.ptp_config.ptp_enable && bitAt (s.on Od.ptp_config.ptp_port_enable) port &&
  decide (s.on Od.ptp_config.ptp_domain = domain)

/-- The clock is steered by a measured offset in ns (R124 to R126): the state follows the offset, the
addend is the servo's, and outside LOCKED the clock may step by no more than the offset. -/
def State.ptpSteer (s : State) (offset : Int) : State :=
  let near := decide (offset.natAbs ≤ 1000)
  let was := s.on Od.ptp_status.ptp_state
  let lockNow := near && decide (was ≠ 2)
  let m : Int := offset.natAbs
  let step := if was = 2 then 0 else clampInt (-m) m (Config.ptpStep offset)
  let p := s.net.ptp
  let p := { p with base := ((s.time : Int) - step).toNat, at_ := s.now,
                    ratePpb := Config.ptpServo p.ratePpb offset,
                    lockedAt := if lockNow then s.now else p.lockedAt }
  let s := { s with net := { s.net with ptp := p } }
  (s.seti Od.ptp_status.ptp_offset_ns offset).setn Od.ptp_status.ptp_state (if near then 2 else 1)

/-- A sync with its exact origin on the chosen port gives the offset (R123). -/
def State.ptpOffset (s : State) (port : Nat) (origin corr rx : Int) : State :=
  if s.ptpPort = port then
    s.ptpSteer (rx - origin - corr - s.net.ptp.delay.toList.getD port 0 -
      s.oi Od.ptp_config.ptp_asymmetry_ns)
  else s

/-- A PTP event message is timestamped (R123); a one-step Sync steers the clock at once, a two-step
Sync waits for its Follow_Up, and a completed delay measurement renews the path delay. -/
def execPtpEventMessage (t : Nat) (port : Fin 3) (kind : PtpKind) (domain seqId : Nat)
    (origin corr rx : Int) (s : State) : Host.Outcome State Fault Refusal :=
  let s := (s.atTime t).inc64 (Od.net_port.rx_frames port)
  if s.ptpListens port domain then
    match kind with
    | .syncOneStep => ok (s.ptpOffset port origin corr rx)
    | .syncTwoStep =>
      ok { s with net := { s.net with ptp := { s.net.ptp with
        pending := s.net.ptp.pending.set port (some ⟨seqId, rx, corr⟩) } } }
    | .delayMeasured =>
      let s := { s with net := { s.net with ptp := { s.net.ptp with
        delay := s.net.ptp.delay.set port rx } } }
      ok (if s.ptpPort = port.val then s.seti Od.ptp_status.ptp_path_delay_ns rx else s)
  else ok s

/-- The order of the best master clock algorithm on two announced data sets, lowest first (R126, IEEE
1588-2019 9.3.4). -/
def announceRank (a : PtpAnnounce) (port : Nat) : List Nat :=
  [a.prio1, a.clockClass, a.accuracy, a.variance, a.prio2, a.identity, a.steps, port]

/-- Lexicographic comparison. -/
def listLt : List Nat → List Nat → Bool
  | [], [] => false
  | [], _ :: _ => true
  | _ :: _, [] => false
  | a :: as, b :: bs => if a < b then true else if b < a then false else listLt as bs

/-- The port whose announce ranks best, 255 when none is held. -/
def bestPort (ms : List (Option PtpAnnounce)) : Nat :=
  let c := (ms.zipIdx).filterMap (fun p => p.1.map (fun a => (announceRank a p.2, p.2)))
  match c.foldl (fun b x => match b with
      | none => some x
      | some y => if listLt x.1 y.1 then some x else some y) (none : Option (List Nat × Nat)) with
  | some x => x.2
  | none => 255

/-- Takes the best port into use (R126). A newly chosen port acquires. -/
def State.ptpSelect (s : State) : State :=
  let b := bestPort s.net.ptp.masters.toList
  let s1 := if b = s.ptpPort then s
    else
      let s := s.setn Od.ptp_status.ptp_active_port b
      if b < 3 ∧ s.on Od.ptp_status.ptp_state = 0 then s.setn Od.ptp_status.ptp_state 1 else s
  match s1.net.ptp.masters.toList.getD b none with
  | some a => (s1.setn Od.ptp_status.ptp_master_identity a.identity).seti
      Od.ptp_status.utc_offset_s a.utcOffset
  | none => s1

/-- An Announce drives master selection; a Follow_Up completes a two-step Sync (R122, R125, R126). -/
def execPtpGeneralMessage (t : Nat) (port : Fin 3) (msg : PtpGeneral) (s : State) :
    Host.Outcome State Fault Refusal :=
  let s := (s.atTime t).inc64 (Od.net_port.rx_frames port)
  match msg with
  | .announce a =>
    if s.ptpListens port a.domain then
      ok ({ s with net := { s.net with ptp := { s.net.ptp with
        masters := s.net.ptp.masters.set port (some a) } } }.ptpSelect)
    else ok s
  | .followUp domain seqId origin corr =>
    if s.ptpListens port domain then
      match s.net.ptp.pending.get port with
      | some p =>
        if p.seqId = seqId then
          ok ({ s with net := { s.net with ptp := { s.net.ptp with
            pending := s.net.ptp.pending.set port none } } }.ptpOffset port origin (corr + p.corr) p.rx)
        else ok s
      | none => ok s
    else ok s

/-- 3 sync intervals pass without valid sync on a port: its master is dropped, the clock goes to
HOLDOVER if it took its time there, and another port with a master is chosen (R125, R126). -/
def execPtpSyncTimeout (t : Nat) (port : Fin 3) (s : State) : Host.Outcome State Fault Refusal :=
  let s := s.atTime t
  let was := s.ptpPort
  let s : State := { s with net := { s.net with ptp := { s.net.ptp with
    masters := s.net.ptp.masters.set port none, pending := s.net.ptp.pending.set port none } } }
  if was = port.val then
    let s : State := if s.on Od.ptp_status.ptp_state = 0 then s
      else s.setn Od.ptp_status.ptp_state 3
    ok s.ptpSelect
  else ok s

/-! ### Packets (R127 to R139) -/

/-- Sends a NOSEQ packet on a slot: acknowledgement, credit update and keepalive (R129). -/
def State.sendNoSeq (s : State) (i : Nat) : State :=
  let x := s.sess i
  let s := { s with net := { s.net with lastNoSeq := some (i, klpHeader i x 0x10 0 0 x.txNext) } }
  s.setSess i (x.noteSent s.now)

/-- Ends a session with a code (R145, R146): logged as SESSION_END; role, subscriptions and windows
released; messages already delivered stay in the receive buffer (R189). -/
def State.endSession (s : State) (i code : Nat) : State :=
  let x := s.sess i
  if x.isOpen then
    let s := s.logKind 4 (s.writerOf i ((x.addrs.headD (4, 0)).1)) (leBytes 1 code)
    s.setSess i { Sess.free with node := x.node, epoch := x.epoch, used := x.used, inbox := x.inbox }
  else s

/-- Resends one packet, RETX set, with the current ack, sack and credit fields (R135). -/
def TxPkt.again (p : TxPkt) (t rtoUs : Nat) (fast : Bool) : TxPkt :=
  { p with sentAt := t, retx := p.retx + 1, rtoUs := rtoUs, fast := fast || p.fast }

/-- A packet qualifies for fast retransmission: not received, not yet resent for this, and at least 3
higher sequences shown received (R135). -/
def TxPkt.isFast (p : TxPkt) (l : List TxPkt) : Bool :=
  !p.sacked && !p.fast &&
  decide (3 ≤ (l.filter (fun q => q.sacked && serialGt 32 q.seq p.seq)).length)

/-- Takes the ack, sack and credit fields of a packet of the peer (R132, R135, R138). -/
def State.takeFields (s : State) (i ack sack limit cls : Nat) : State :=
  let x := s.sess i
  let okAck := decide (serialDist 32 ack x.peerAck ≤ serialDist 32 x.txNext x.peerAck)
  let a := if okAck then ack else x.peerAck
  let un := x.unacked.filter (fun p => !serialGt 32 a p.seq)
  let un := un.map (fun p =>
    let d := serialDist 32 p.seq a
    if decide (1 ≤ d) && decide (d ≤ 64) && bitAt sack (d - 1) then { p with sacked := true } else p)
  let lim := x.txLimit.toList.getD cls 0
  let newLim := if serialGt 32 limit (lim % 2 ^ 32) then lim + serialDist 32 limit (lim % 2 ^ 32)
    else lim
  let fast := un.filter (fun p => p.isFast un)
  let x := { x with peerAck := a, txLimit := x.txLimit.setIfInBounds cls newLim, lastRx := s.now }
  let lim16 := s.on Od.klp_config.klp_retx_limit
  if fast.any (fun p => decide (lim16 ≤ p.retx)) then
    (s.setSess i { x with unacked := un }).endSession i errTimeout
  else
    let un2 := un.map (fun p => if p.isFast un then p.again s.now p.rtoUs true else p)
    let x := { x with unacked := un2,
                      retransmissions := (x.retransmissions + fast.length) % 2 ^ 32 }
    let x := fast.foldl (fun y _ => y.noteSent s.now) x
    (s.setSess i x).pump i

/-- A retransmission timeout: the packet is resent with a doubled timeout of at most 8 ms, or the
session ends at the limit (R135). -/
def execRetransmitTimeout (t : Nat) (se : Fin 8) (seq : Nat) (s : State) :
    Host.Outcome State Fault Refusal :=
  let s := s.atTime t
  let x := s.sess se
  match x.unacked.find? (fun p => decide (p.seq = seq) && !p.sacked) with
  | none => ok s
  | some p =>
    if s.on Od.klp_config.klp_retx_limit ≤ p.retx then ok (s.endSession se errTimeout)
    else
      let x := { x with
        unacked := x.unacked.map (fun (q : TxPkt) =>
          if q.seq = seq then q.again s.now (min 8000 (2 * q.rtoUs)) false else q),
        retransmissions := (x.retransmissions + 1) % 2 ^ 32 }
      ok (s.setSess se (x.noteSent s.now))

/-- The 20 µs acknowledgement delay expires and an ack is sent if one is still due (R134). -/
def execAckDue (t : Nat) (se : Fin 8) (s : State) : Host.Outcome State Fault Refusal :=
  let s := s.atTime t
  ok (if (s.sess se).isOpen && (s.sess se).ackDue then s.sendNoSeq se else s)

/-- Sends NOSEQ updates until every raised limit has been reported (R138). -/
def State.reportLimits : Nat → State → Nat → State
  | 0, s, _ => s
  | n + 1, s, i =>
    let x := s.sess i
    if x.isOpen && decide (x.granted ≠ x.reported) then State.reportLimits n (s.sendNoSeq i) i else s

/-- A rise in a credit limit not yet reported reaches 100 µs (R138). -/
def execCreditUpdateDue (t : Nat) (se : Fin 8) (s : State) : Host.Outcome State Fault Refusal :=
  ok ((s.atTime t).reportLimits 4 se)

/-- Nothing has been sent for a quarter of the session timeout: a NOSEQ packet is sent (R145). -/
def execKeepaliveDue (t : Nat) (se : Fin 8) (s : State) : Host.Outcome State Fault Refusal :=
  let s := s.atTime t
  ok (if (s.sess se).isOpen then s.sendNoSeq se else s)

/-- Nothing valid has been received for klp_session_timeout_ms: the session ends (R145, R146). -/
def execSessionTimeout (t : Nat) (se : Fin 8) (s : State) : Host.Outcome State Fault Refusal :=
  ok ((s.atTime t).endSession se errTimeout)

/-- A packet of a session is taken from a port: the client's address is known there, or is learned as
the first valid packet of a session of a redundant pair (R156). -/
def State.knownPort (s : State) (x : Sess) (port addr : Nat) : Bool :=
  match kvGet x.addrs port with
  | some a => decide (a = addr)
  | none => s.on Od.redundancy.redundancy_mode = 1 && decide (port < 2) &&
      (bitAt x.portMask 0 || bitAt x.portMask 1)

/-- Learns the client's address on a port (R156). -/
def Sess.learn (x : Sess) (port addr : Nat) : Sess :=
  match kvGet x.addrs port with
  | some _ => x
  | none => { x with addrs := kvSet x.addrs port addr, portMask := withBit x.portMask port true }

/-- Delivers the packets at the front of sequence (R131, R132, R136): credits are consumed, fragments
gathered, and a complete message of at most 16 384 bytes enters the receive buffer. -/
def Sess.deliver : Nat → Sess → Sess
  | 0, x => x
  | n + 1, x =>
    match x.rxHeld with
    | [] => x
    | p :: ps =>
      if p.seq = x.rxNext then
        let fr := x.frags ++ [p]
        let x := { x with rxHeld := ps, rxNext := (x.rxNext + 1) % 2 ^ 32,
                          consumed := addAt x.consumed p.cls (creditsOf p.payload.length) }
        let x := if p.more then { x with frags := fr }
          else
            let body := fr.flatMap (fun q => q.payload)
            let m : RxMsg := {
              cls := p.cls, mtype := p.mtype, seq := p.seq,
              credits := (fr.map (fun q => creditsOf q.payload.length)).sum, port := p.port,
              role := x.role, node := x.node, epoch := x.epoch, body := body }
            if body.length ≤ 16384 then { x with frags := [], inbox := x.inbox ++ [m] }
            else { x with frags := [] }
        Sess.deliver n x
      else x

/-- Inserts an accepted packet by its distance from ack. -/
def insertRx (base : Nat) (p : RxPkt) : List RxPkt → List RxPkt
  | [] => [p]
  | q :: qs => if serialDist 32 p.seq base < serialDist 32 q.seq base then p :: q :: qs
    else q :: insertRx base p qs

/-- A KLP packet arrives (R130 to R138, R157): its ack, sack and credit fields are taken; a sequenced
packet in the window is accepted and delivered in order, a duplicate is counted and acknowledged at
once, and a packet of a wrong class or beyond its credit is discarded and answered with ERROR. -/
def execKlpPacket (t : Nat) (port : Fin 3) (addr : Nat) (data : List Byte) (s : State) :
    Host.Outcome State Fault Refusal :=
  let s := (s.atTime t).inc64 (Od.net_port.rx_frames port)
  let h := parseKlp data
  let x := s.sess h.sess
  if data.length < 32 ∨ h.magic ≠ 0x4C4B ∨ h.version ≠ 1 ∨ 8 ≤ h.sess ∨ x.isOpen = false ∨
      h.epoch ≠ x.epoch ∨ h.len ≠ data.length - 32 ∨ s.knownPort x port addr = false then ok s
  else
    let i := h.sess
    let s := s.setSess i (x.learn port addr)
    let s := s.takeFields i h.ack h.sack h.limit h.limitCls
    let x := s.sess i
    if h.noseq ∨ x.isOpen = false then ok s
    else if clsToDevice h.mtype ≠ some h.cls then ok (s.sendError i errClass h.mtype h.seq)
    else if 64 < serialDist 32 h.seq x.rxNext ∨ x.rxHeld.any (fun p => p.seq = h.seq) then
      ok ((s.inc32 (Od.net_port.duplicates_discarded port)).sendNoSeq i)
    else
      let c := creditsOf h.len
      let heldC := ((x.rxHeld.filter (fun p => p.cls = h.cls)).map
        (fun p => creditsOf p.payload.length)).sum
      if x.granted.toList.getD h.cls 0 < x.consumed.toList.getD h.cls 0 + heldC + c then
        let s := s.setSess i { x with creditBreaks := x.creditBreaks + 1 }
        let s := s.sendError i errCredit h.mtype h.seq
        ok (if 16 ≤ x.creditBreaks + 1 then s.endSession i errCredit else s)
      else
        let p : RxPkt := { seq := h.seq, cls := h.cls, more := h.more, mtype := h.mtype,
                           port := port, payload := data.drop 32 }
        let atOnce := decide (h.seq ≠ x.rxNext) || !x.rxHeld.isEmpty
        let y := { x with rxHeld := insertRx x.rxNext p x.rxHeld }
        let y := { (y.deliver (y.rxHeld.length)) with ackDue := true }
        let s := s.setSess i y
        ok (if atOnce then s.sendNoSeq i else s)

/-- A NOSEQ NOP serves as acknowledgement, credit update and keepalive (R129). -/
def execNop (t : Nat) (se : Fin 8) (port : Fin 3) (addr epoch ack sack limit cls : Nat) (s : State) :
    Host.Outcome State Fault Refusal :=
  let s := (s.atTime t).inc64 (Od.net_port.rx_frames port)
  let x := s.sess se
  if x.isOpen = true ∧ x.epoch = epoch ∧ s.knownPort x port addr = true then
    ok ((s.setSess se (x.learn port addr)).takeFields se ack sack limit cls)
  else ok s

/-! ### Delivered messages -/

/-- Takes the first message of a type from a receive buffer. -/
def takeType : Nat → List RxMsg → Option (RxMsg × List RxMsg)
  | _, [] => none
  | m, x :: xs =>
    if x.mtype = m then some (x, xs)
    else match takeType m xs with
      | some (y, r) => some (y, x :: r)
      | none => none

/-- What a delivered request is taken with. -/
structure Taken where
  /-- the session held the request, or is open -/
  live : Bool
  /-- who sent it, as of its delivery (R172, R183, R189) -/
  who : Writer
  /-- sequence -/
  seq : Nat
  deriving DecidableEq, Repr

/-- A message leaves the receive buffer: its credits are granted again (R139) unless its epoch is over. With no
such message in the buffer, an open session's request is taken as delivered now. -/
def State.take (s : State) (i mtype : Nat) : State × Taken :=
  let x := s.sess i
  match takeType mtype x.inbox with
  | some (m, r) =>
    let g := if x.isOpen && decide (x.epoch = m.epoch) then addAt x.granted m.cls m.credits else x.granted
    (s.setSess i { x with inbox := r, granted := g },
      ⟨true, ⟨m.port, i, m.role, m.node, m.epoch⟩, m.seq⟩)
  | none => (s, ⟨x.isOpen, ⟨(x.addrs.headD (2, 0)).1, i, x.role, x.node, x.epoch⟩, x.rxNext⟩)

/-- A CTRL response that begins with the request_id it echoes (R147). -/
def State.respond (s : State) (i mtype req : Nat) (body : List Byte) : State :=
  s.send i 0 mtype (leBytes 4 req ++ body)

/-- ERROR to the sender of a taken request, while its epoch stands. -/
def State.errorTo (s : State) (k : Taken) (code mtype : Nat) : State :=
  if (s.sess k.who.sess).epoch = k.who.epoch then s.sendError k.who.sess code mtype k.seq else s

/-! ### OPEN (R140 to R144, R169 to R171) -/

/-- The key of a role (R169, R197). -/
def State.roleKey (s : State) (role : Nat) : List Byte :=
  if role = 1 then s.obytes Od.role_keys.key_opr
  else if role = 2 then s.obytes Od.role_keys.key_eng
  else if role = 3 then
    (if (s.obytes Od.role_keys.key_svc).isEmpty then Config.svcKey else s.obytes Od.role_keys.key_svc)
  else if role = 4 then Config.vndKey
  else Config.metKey

/-- A request for the role is granted whatever credential it carries (R171). -/
def State.roleFree (s : State) (role : Nat) : Bool :=
  decide (role = 0) || (decide (role = 1 ∨ role = 2) && (s.roleKey role).isEmpty)

/-- The credential of an OPEN passes R170: 40 bytes, tag verified, stamp above the last one accepted. -/
def State.credOk (s : State) (o : OpenReq) : Bool :=
  let stamp := leAt o.credential 0 8
  let msg := leBytes 4 o.nonce ++ leBytes 2 o.node ++ leBytes 1 o.role ++ leBytes 8 stamp ++
    padTo 16 (s.obytes Od.device_identity.serial_number)
  decide (o.credential.length = 40) &&
  decide (o.credential.drop 8 = hmacSha256 (s.roleKey o.role) msg) &&
  decide (leAt (s.obytes Od.role_keys.last_stamps) (8 * (o.role - 1)) 8 < stamp)

/-- The island is present (R17, R617). -/
def State.islandPresent (s : State) : Bool := bitAt (s.on Od.device_identity.features) 0

/-- Keeps the accepted stamp of a role (R170). -/
def State.keepStamp (s : State) (o : OpenReq) : State :=
  let b := padTo 40 (s.obytes Od.role_keys.last_stamps)
  let n := 8 * (o.role - 1)
  s.setDurable Od.role_keys.last_stamps
    (.bytes (b.take n ++ slice 0 8 o.credential ++ b.drop (n + 8)))

/-- The slot an OPEN is for: the slot it names, or the lowest free one; none when it is full. Recovery has one session (R726). -/
def State.openSlot (s : State) (o : OpenReq) : Option Nat :=
  if s.mgmt.recovery then
    let x := s.sess 0
    if x.isOpen = false ∨ x.node = o.node then some 0 else none
  else if o.reqSession < 8 then
    let x := s.sess o.reqSession
    if x.isOpen = false ∨ x.node = o.node then some o.reqSession else none
  else (List.range 8).find? (fun i => !(s.sess i).isOpen)

/-- last_record of OPEN_ACK: next_record − 1 of each lane (R142). -/
def State.lastRecords (s : State) : List Byte :=
  (List.range 8).flatMap (fun l => leBytes 4 (s.on (Od.lane_status.next_record l) - 1))

/-- Payload of OPEN_ACK (R142). -/
def State.openAckBody (s : State) (nonce result slot epoch role maxp oldAck : Nat)
    (oldCons : List Nat) : List Byte :=
  leBytes 4 nonce ++ leBytes 1 result ++ leBytes 1 slot ++ leBytes 1 epoch ++ leBytes 1 role ++
  leBytes 4 (s.on Od.device_identity.boot_id) ++ leBytes 2 maxp ++ leBytes 2 0 ++ leBytes 4 oldAck ++
  oldCons.flatMap (leBytes 4) ++ s.lastRecords

/-- A rejected OPEN is answered with session 16#FF (R127, R142). -/
def State.openReject (s : State) (addr : Nat) (o : OpenReq) (code : Nat) : State :=
  { s with net := { s.net with
      lastReject := some (addr, s.openAckBody o.nonce code 255 0 255 0 0 [0, 0, 0]) } }

/-- The entry of an address in the lockout list. -/
def findLock (addr : Nat) : List Lockout → Lockout
  | [] => ⟨addr, [], none⟩
  | l :: ls => if l.addr = addr then l else findLock addr ls

/-- Replaces the entry of an address. -/
def putLock (x : Lockout) : List Lockout → List Lockout
  | [] => [x]
  | l :: ls => if l.addr = x.addr then x :: ls else l :: putLock x ls

/-- Every OPEN of this address is answered with AUTH now (R171). -/
def State.locked (s : State) (addr : Nat) : Bool :=
  match (findLock addr s.net.lockouts).lockedUntil with
  | some u => decide (s.now < u)
  | none => false

/-- Counts a refusal; the eighth within 60 s locks the address for 60 s (R171). -/
def State.refuse (s : State) (addr : Nat) : State :=
  let l := findLock addr s.net.lockouts
  let rs := (l.refusals.filter (fun r => s.now < r + 60000000000)) ++ [s.now]
  let x : Lockout := if 8 ≤ rs.length then ⟨addr, [], some (s.now + 60000000000)⟩ else ⟨addr, rs, none⟩
  { s with net := { s.net with lockouts := putLock x s.net.lockouts } }

/-- Opens or restarts the slot (R139, R143, R144): a new epoch with both sequence spaces at 0 and fresh
credit accounts; a restart keeps its subscriptions and sends its unacknowledged EVENT messages again. -/
def State.openOn (s : State) (port addr : Nat) (o : OpenReq) (i : Nat) : State :=
  let x := s.sess i
  let epoch := if x.used then (x.epoch + 1) % 256 else 0
  let again := x.isOpen
  let maxp := min o.maxPayload (s.on Od.klp_config.klp_max_payload)
  let ack := s.openAckBody o.nonce errOk i epoch o.role maxp (if again then x.rxNext else 0)
    (if again then [x.consumed.toList.getD 0 0 % 2 ^ 32, x.consumed.toList.getD 1 0 % 2 ^ 32,
      x.consumed.toList.getD 2 0 % 2 ^ 32] else [0, 0, 0])
  let resend := if again && o.restart then
      (x.unacked.filter (fun p => decide (p.cls = 3) && !serialGt 32 o.oldAck p.seq)).map
        (fun p => (⟨3, p.mtype, p.payload⟩ : TxMsg))
    else []
  let grants : Vector Nat 4 := Vector.mk #[256, 4096, 16384, 0] rfl
  let y : Sess := { Sess.free with
    isOpen := true, node := o.node, role := o.role, epoch := epoch, used := true,
    portMask := withBit 0 port true, addrs := [(port, addr)], openFrom := addr, nonce := o.nonce,
    openAck := ack, maxPayload := maxp, openTime := s.time, granted := grants, reported := grants,
    lastRx := s.now, lastTx := s.now, inbox := x.inbox,
    txLimit := Vector.mk #[o.grantCtrl, o.grantItem, o.grantBulk, o.grantEvent] rfl,
    waiting := resend }
  let y := if again then { y with
      evMask := x.evMask, evQueue := x.evQueue,
      evDropped := x.evDropped, evDroppedTotal := x.evDroppedTotal, cyclics := x.cyclics } else y
  let s := s.setSess i y
  let s := s.logKind 3 (s.writerOf i port) []
  s.pump i

/-- An OPEN opens or restarts a session after its credential is checked, and is answered with OPEN_ACK
(R140 to R144, R159, R169 to R171). -/
def execOpen (t : Nat) (port : Fin 3) (addr : Nat) (o : OpenReq) (s : State) :
    Host.Outcome State Fault Refusal :=
  let s := (s.atTime t).inc64 (Od.net_port.rx_frames port)
  if s.mgmt.recovery ∧ port.val ≠ 2 then ok s
  else if s.locked addr then
    ok ((s.inc32 Od.role_keys.auth_failures).openReject addr o errAuth)
  else if (List.range 8).any (fun i => (s.sess i).isOpen && decide ((s.sess i).openFrom = addr) &&
      decide ((s.sess i).nonce = o.nonce)) then ok s
  else if o.credential.length ≠ 0 ∧ o.credential.length ≠ 40 then ok (s.openReject addr o errMalformed)
  else if 5 < o.role ∨ (8 ≤ o.reqSession ∧ o.reqSession ≠ 255) then ok (s.openReject addr o errRange)
  else if s.mgmt.recovery ∧ o.role ≠ 3 ∧ o.role ≠ 4 then ok (s.openReject addr o errAuth)
  else
    match s.openSlot o with
    | none => ok (s.openReject addr o errSessionsFull)
    | some i =>
      if s.roleFree o.role then ok (s.openOn port addr o i)
      else if s.credOk o && (decide (o.role ≠ 5) || s.islandPresent) then
        ok ((s.keepStamp o).openOn port addr o i)
      else ok (((s.refuse addr).inc32 Od.role_keys.auth_failures).openReject addr o errAuth)

/-- A delivered CLOSE ends the session (R145, R146). -/
def execClose (t : Nat) (se : Fin 8) (_req : Nat) (s : State) : Host.Outcome State Fault Refusal :=
  let s := s.atTime t
  let r := s.take se 0x03
  if r.2.who.epoch = (s.sess se).epoch then ok (r.1.endSession se errOk) else ok r.1

/-- The 60 s lockout of an address ends (R171). -/
def execAuthLockoutExpiry (t : Nat) (addr : Nat) (s : State) : Host.Outcome State Fault Refusal :=
  let s := s.atTime t
  ok { s with net := { s.net with lockouts := s.net.lockouts.filter (fun l => l.addr ≠ addr) } }

/-! ### Events (R153, R154) -/

/-- SUBSCRIBE of kind 16#00 sets the session's event mask (R154). -/
def execSubscribeEvents (t : Nat) (se : Fin 8) (req mask : Nat) (s : State) :
    Host.Outcome State Fault Refusal :=
  let s := s.atTime t
  let r := s.take se 0x40
  if r.2.live && r.2.who.epoch = (s.sess se).epoch then
    let s := r.1.modSess se (fun x => if x.isOpen then { x with evMask := mask % 2 ^ 256 } else x)
    ok (s.respond se 0x41 req (leBytes 1 errOk))
  else ok r.1

/-- The bytes of an event entry (R153). -/
def Ev.encode (e : Ev) (dropped : Nat) : List Byte :=
  leBytes 8 e.num ++ leBytes 8 e.time ++ leBytes 2 e.code ++ leBytes 2 e.data.length ++
  leBytes 4 dropped ++ padMul 8 e.data

/-- The entries that fit one payload of `room` bytes, with the rest of the queue. -/
def packEvents (room : Nat) (dropped : Nat) : List Ev → List Byte × List Ev
  | [] => ([], [])
  | e :: es =>
    let b := e.encode dropped
    if b.length ≤ room then
      let r := packEvents (room - b.length) 0 es
      (b ++ r.1, r.2)
    else ([], e :: es)

/-- Queued events are sent in an EVENT message once EVENT credit is available (R154). -/
def execEventSend (t : Nat) (se : Fin 8) (s : State) : Host.Outcome State Fault Refusal :=
  let s := s.atTime t
  let x := s.sess se
  let r := packEvents x.maxPayload x.evDropped x.evQueue
  if x.isOpen && !r.1.isEmpty && x.maySend 3 (creditsOf r.1.length) 1 then
    let s := s.setSess se { x with evQueue := r.2, evDropped := 0 }
    ok (s.send se 3 0x42 r.1)
  else ok s

end Sys2Proof.Machine
end

