-- ==== Sys2Proof/Machine/Lanes.lean ====
section
/-! DEFINITION. Lanes (spec/06): acceptance of item records, binding of triggers with what the Compositor
does at a binding (R246 to R257, R279), and the meanings of the lane commands that no object write
shares. -/

namespace Sys2Proof.Machine

/-! ### Queues -/

/-- The queue of a lane, head first. -/
def State.queue (s : State) (l : Nat) : List ItemRec := s.lane.queues.toList.getD l []

/-- Replaces the queue of a lane. -/
def State.setQueue (s : State) (l : Nat) (q : List ItemRec) : State :=
  { s with lane := { s.lane with queues := s.lane.queues.setIfInBounds l q } }

/-- Notes whether the depth of a lane's queue is below its mark. -/
def State.noteLow (s : State) (l : Nat) (b : Bool) : State :=
  { s with lane := { s.lane with lowSent := s.lane.lowSent.setIfInBounds l b } }

/-- The depth of a lane's queue is below its mark (R210). -/
def State.queueLow (s : State) (l : Nat) : Bool :=
  decide ((s.queue l).length < s.on (Od.lane_config.queue_low_mark l))

/-- After a change of depth: QUEUE_LOW is pushed when the depth falls below the mark with the lane enabled, and again
only after it has risen to the mark (R210, R224). -/
def State.queueCheck (s : State) (l : Nat) : State :=
  let before := s.lane.lowSent.toList.getD l false
  let s2 := s.noteLow l (s.queueLow l)
  if s.queueLow l && !before && s.ob (Od.lane_config.lane_enable l) then
    s2.event 0x0402 (leBytes 1 l ++ leBytes 2 (s.queue l).length)
  else s2

/-! ### Symbols (R248, R266) -/

/-- Which fields are binding-dependent: COUNTER, DATE, WEIGHT, and those that refer to one (R248). -/
def boundFields (m : List Byte) (entries : List (Nat × List Byte)) : List Nat :=
  (List.range (moFields m)).foldl (fun acc j =>
    let k := fKind m j
    let v := match kvGet entries j with
      | some v => v
      | none => fDefault m j
    if k = 2 ∨ k = 3 ∨ k = 4 ∨ (hasRefs m j ∧ (refsOf v).any (fun n => acc.contains n)) then acc ++ [j]
    else acc) []

/-- Fields that need a symbol. -/
def symbolFields (m : List Byte) : List Nat :=
  (List.range (moFields m)).filter (fun j => fKind m j = 5 || fKind m j = 6)

/-- The first waiting symbol that a test selects, with the rest. -/
def takeJob (p : SymJob → Bool) : List SymJob → Option (SymJob × List SymJob)
  | [] => none
  | j :: js => if p j then some (j, js) else (takeJob p js).map (fun r => (r.1, j :: r.2))

/-- The job an engine takes next: engine 0 binding-dependent symbols; engine 1 pre-resolution, lane by lane
in turn, else the next of engine 0 (R266). -/
def State.nextJob (s : State) (e : Nat) : Option (SymJob × List SymJob) :=
  let q := s.comp.symQueue
  let bound := takeJob (fun j => j.bound) q
  if e = 0 then bound
  else
    let lanes := (List.range 8).map (fun i => (s.comp.preLane + 1 + i) % 8)
    match lanes.findSome? (fun l => takeJob (fun j => !j.bound && decide (j.lane = l)) q) with
    | some r => some r
    | none => bound

/-- An idle engine starts the next symbol. -/
def State.startEngine (s : State) (e : Nat) : State :=
  match s.comp.engines.toList.getD e none with
  | some _ => s
  | none =>
    match s.nextJob e with
    | none => s
    | some (j, rest) =>
      { s with comp := { s.comp with
          symQueue := rest, preLane := if j.bound then s.comp.preLane else j.lane,
          engines := s.comp.engines.setIfInBounds e (some { j with started := s.now }) } }

/-- Queues symbols and starts idle engines. -/
def State.queueSymbols (s : State) (js : List SymJob) : State :=
  (({ s with comp := { s.comp with symQueue := s.comp.symQueue ++ js } }).startEngine 0).startEngine 1

/-- Pre-resolution: each of the first pre_resolve_depth records of a lane's queue starts once (R248). -/
def State.preResolve (s : State) (l : Nat) : State :=
  let depth := s.on Od.compositor_config.pre_resolve_depth
  let q := s.queue l
  let fresh := (q.take depth).filter (fun r => !r.pre)
  if fresh.isEmpty then s
  else
    let jobs := fresh.flatMap (fun r =>
      match verNow s.comp.moulds r.mould with
      | none => []
      | some v =>
        let dep := boundFields v.bytes r.fields
        ((symbolFields v.bytes).filter (fun j => !dep.contains j)).map
          (fun j => (⟨false, r.num, l, j, 0⟩ : SymJob)))
    let q := q.zipIdx.map (fun p => if p.2 < depth then { p.1 with pre := true } else p.1)
    (s.setQueue l q).queueSymbols jobs

/-- A symbol engine finishes (R266, R281). -/
def execSymbolEncoded (t : Nat) (engine : Fin 2) (s : State) : Host.Outcome State Fault Refusal :=
  let s := s.atTime t
  match s.comp.engines.get engine with
  | none => ok s
  | some j =>
    let us := ceilDiv (s.now - j.started) 1000
    let s : State := { s with comp := { s.comp with engines := s.comp.engines.set engine none } }
    let s := (s.inc64 Od.compositor_status.symbols_encoded).setn Od.compositor_status.symbol_time_max_us
      (max (s.on Od.compositor_status.symbol_time_max_us) us)
    ok (s.startEngine engine)

/-! ### ITEM_PUT (R205 to R209) -/

/-- The field entries of a record from an offset; none for a broken layout (R206). -/
def parseEntries (b : List Byte) : Nat → Nat → Nat → Option (List (Nat × List Byte))
  | 0, off, _ => if off = b.length then some [] else none
  | n + 1, off, lo =>
    let f := leAt b off 1
    let len := leAt b (off + 2) 2
    let pad := (4 - len % 4) % 4
    if off + 4 + len + pad ≤ b.length ∧ lo ≤ f ∧ f ≤ 63 ∧ leAt b (off + 1) 1 = 0 ∧ len ≤ 2024 ∧
        leNat (slice (off + 4 + len) pad b) = 0 then
      (parseEntries b n (off + 4 + len + pad) (f + 1)).map ((f, slice (off + 4) len b) :: ·)
    else none

/-- The record of a payload; none for MALFORMED (R205, R206, R209). -/
def parseRecord (b : List Byte) : Option ItemRec :=
  if 24 ≤ b.length ∧ b.length ≤ 2048 ∧ b.length % 4 = 0 ∧ leAt b 8 2 = b.length ∧ leAt b 4 1 ≤ 7 ∧
      leAt b 5 1 < 2 ∧ leAt b 6 2 ≤ 1023 ∧ leAt b 0 4 ≠ 0 ∧ leAt b 10 1 ≤ 64 ∧ leAt b 11 1 = 0 ∧
      leAt b 20 4 = 0 then
    (parseEntries b (leAt b 10 1) 24 0).map (fun fs =>
      { num := leAt b 0 4, inspect := bitAt (leAt b 5 1) 0, mould := leAt b 6 2, tag := leAt b 12 4,
        fields := fs, pre := false })
  else none

/-- The acceptance status of a payload by the checks of R209 in order, before the situations in which a
passing record is answered QUEUE_FULL. -/
def State.itemStatus (s : State) (b : List Byte) : Nat :=
  match parseRecord b with
  | none => 1
  | some r =>
    let l := leAt b 4 1
    let next := s.on (Od.lane_status.next_record l)
    if leAt b 16 4 ≠ crc32c (b.take 16 ++ [0, 0, 0, 0] ++ b.drop 20) then 2
    else if s.ob (Od.lane_config.lane_enable l) = false then 3
    else if r.num ≠ next then (if serialDist 32 next r.num ≤ 2 ^ 31 then 4 else 5)
    else if (verNow s.comp.moulds r.mould).isNone then 6
    else if 4096 ≤ (s.queue l).length then 7
    else 0

/-- A situation of R209 in which no record is accepted: a supply warning, a DRAM freeze, or a device of a
pair that is not active. -/
def State.noRecords (s : State) : Bool := s.warned || s.frozen || !s.pairActive

/-- Appends an accepted record (R208, R209). -/
def State.acceptRecord (s : State) (l : Nat) (r : ItemRec) : State :=
  let s := s.setQueue l (s.queue l ++ [r])
  let s := (s.setn (Od.lane_status.next_record l) (nextRecord r.num)).inc64
    (Od.lane_status.records_accepted l)
  (s.queueCheck l).preResolve l

/-- The payload of ITEM_STATUS (R207). -/
def State.itemStatusBody (s : State) (b : List Byte) (st : Nat) : List Byte :=
  let short := decide (b.length < 24)
  let l := leAt b 4 1
  let known := !short && decide (l ≤ 7)
  leBytes 4 (if short then 0 else leAt b 0 4) ++ leBytes 1 (if short then 255 else l) ++ leBytes 1 st ++
  leBytes 2 (if known then (s.queue l).length else 0) ++
  leBytes 4 (if known then s.on (Od.lane_status.next_record l) else 0) ++ leBytes 4 0

/-- A status other than ACCEPTED and DUPLICATE is counted (R229). -/
def State.countRefusal (s : State) (b : List Byte) (st : Nat) : State :=
  let l := leAt b 4 1
  if st = 0 ∨ st = 4 ∨ b.length < 24 ∨ 7 < l then s
  else (s.inc32 (Od.lane_status.records_refused l)).setn (Od.lane_status.last_refusal l) st

/-- An ITEM_PUT is checked, and its record appended or refused; one ITEM_STATUS answers it (R207 to R209,
R344, R655, R694). -/
def execItemPut (t : Nat) (se : Fin 8) (data : List Byte) (s : State) :
    Host.Outcome State Fault Refusal :=
  let s := s.atTime t
  let r := s.take se 0x20
  if r.2.live = false then ok r.1
  else
    let s := r.1
    let mine := decide ((s.sess se).epoch = r.2.who.epoch)
    let st := s.itemStatus data
    let st := if st = 0 ∧ s.noRecords = true then 7 else st
    match st, parseRecord data with
    | 0, some rec =>
      let s := s.acceptRecord (leAt data 4 1) rec
      ok (if mine then s.answer se 1 0x21 (s.itemStatusBody data 0) else s.mirror)
    | _, _ =>
      let s := s.countRefusal data st
      ok (if mine then s.send se 1 0x21 (s.itemStatusBody data st) else s)

/-! ### Binding (R211 to R213, R249 to R257, R270, R279) -/

/-- What a trigger is stamped with (R68, R71). -/
structure Stamp where
  /-- stamp in phase steps -/
  x : Int
  /-- TIME64 of the stamp -/
  time : Nat
  /-- stamped in DEAD_RECKONING -/
  dr : Bool
  deriving DecidableEq, Repr

/-- The rings a lane prints on (R202, R269). -/
def State.laneRings (s : State) (l : Nat) : List Nat :=
  let tg := s.on (Od.lane_config.lane_target l)
  if tg = 1 then [4] else if tg = 2 then [5]
  else (List.range 4).filter (fun p => bitAt (s.on (Od.lane_config.lane_planes l)) p)

/-- The lane a ring's grid phase follows, 255 for none (R65, R80). -/
def State.phaseSource (s : State) (ring : Nat) : Nat :=
  if ring < 4 then s.on (Od.plane_tick.grid_phase_source ring)
  else ((List.range 8).find? (fun l => s.ob (Od.lane_config.lane_enable l) &&
    decide (s.on (Od.lane_config.lane_target l) = ring - 3))).getD 255

/-- The grid phase that snaps an item: the target of R65 where the ring follows the lane, else the phase in
force. -/
def State.snapPhase (s : State) (ring lane : Nat) (x : Int) : Int :=
  let phi := (s.grid ring).phi
  if s.phaseSource ring = lane then
    let d := (x + s.ringDist ring - phi) % 64
    if d ≤ 32 then phi + d else phi + d - 64
  else phi

/-- The lines of an item on a ring: first grid line and snap error (R64). -/
def State.spanOn (s : State) (ring lane : Nat) (x : Int) (count : Nat) : RingSpan :=
  let e := x + s.ringDist ring - s.snapPhase ring lane x
  let m := roundDiv e 64
  { first := m, count := count, snap := e - 64 * m }

/-- Tick position of an item's first line on a ring, with the phase that snaps it (R62, R211). -/
def State.firstTick (s : State) (ring lane : Nat) (x : Int) : Int :=
  64 * (s.spanOn ring lane x 1).first + s.snapPhase ring lane x - s.advance ring

/-- The ring that fires first, by tick position. -/
def State.firstRing (s : State) (lane : Nat) (x : Int) : Option Nat :=
  (s.laneRings lane).foldl (fun b r => match b with
    | none => some r
    | some q => if s.firstTick r lane x < s.firstTick q lane x then some r else b) none

/-- The binding lead is at least what R211 asks: the look-ahead, and the lines of 200 µs. -/
def State.leadOk (s : State) (lane : Nat) (x : Int) : Bool :=
  match s.firstRing lane x with
  | none => true
  | some r =>
    let f := fracMul s.lineRate 1 5000
    let need : Int := s.on (Od.compose_ring.look_ahead_lines r) +
      (if f.den = 0 then 0 else (f.num + f.den - 1) / f.den)
    fracLe (fracAdd s.web.x (Frac.ofInt (64 * need))) (Frac.ofInt (s.firstTick r lane x))

/-- The cameras that serve a lane's items now (R452). -/
def State.camsFor (s : State) (lane : Nat) : List Nat :=
  (List.range 4).filter (fun c => s.ob (Od.camera_trigger.cam_trig_enable c) &&
    s.ob (Od.camera_inspection.cam_inspect_enable c) &&
    bitAt (s.on (Od.camera_trigger.cam_lane_mask c)) lane)

/-- The counters a mould uses, by rising counter_id (R249). -/
def mouldCounters (m : List Byte) : List Nat :=
  (List.range 64).filter (fun c =>
    (List.range (moFields m)).any (fun j => fKind m j = 2 && fld m j 44 1 = c))

/-- The lowest field that refers to a counter (R249). -/
def counterField (m : List Byte) (c : Nat) : Nat :=
  ((List.range (moFields m)).find? (fun j => fKind m j = 2 && fld m j 44 1 = c)).getD 255

/-- The error of a counter, if any (R249 to R251). -/
def State.counterError (s : State) (c : Nat) : Option Nat :=
  let v := s.on (Od.counter.counter_value c)
  if s.on (Od.counter.counter_validity c) = 2 then some 0x0A
  else if s.ob (Od.counter.counter_exhausted c) ∨ v < s.on (Od.counter.counter_min c) ∨
      s.on (Od.counter.counter_max c) < v then some 9
  else none

/-- Advances one counter (R250, steps 3 to 5). -/
def State.advanceCounter (s : State) (c : Nat) : State :=
  let step := s.oi (Od.counter.counter_step c)
  let sum := s.oi (Od.counter.counter_value c) + step
  let lo := s.oi (Od.counter.counter_min c)
  let hi := s.oi (Od.counter.counter_max c)
  let s := s.inc64 (Od.counter.counter_advances c)
  if lo ≤ sum ∧ sum ≤ hi then s.seti (Od.counter.counter_value c) sum
  else if s.on (Od.counter.counter_limit_action c) = 0 then
    s.seti (Od.counter.counter_value c) (if 0 < step then lo else hi)
  else (s.setb (Od.counter.counter_exhausted c) true).seti (Od.counter.counter_value c)
    (clampInt 0 (2 ^ 64 - 1) sum)

/-- A composition error takes effect (R278, R279): counted, pushed, and the item closes. -/
def State.composeError (s : State) (it : Item) (code f : Nat) : State :=
  let s := s.inc32 (Od.composition_errors.err_mould_absent + (code - 1))
  let s := (s.inc32 Od.compositor_status.error_count).setn Od.compositor_status.last_error_code code
  let s := (s.setn Od.compositor_status.last_error_item it.seq).setn
    Od.compositor_status.last_error_field f
  let s := s.modItem it.seq (fun x => { x with compErr := true })
  let s := s.event 0x0500 (leBytes 4 it.seq ++ leBytes 1 it.lane ++ leBytes 1 f ++ leBytes 1 code)
  s.dispose it.seq 6 (if code = 0x0E then 10 else 5)

/-- The planes whose levels of a mould the item draws (R269). -/
def drawnPlanes (rings : List Nat) : List Nat := rings.map layerOf

/-- Field j is drawn on a plane composed for the item (R242). -/
def drawnField (m : List Byte) (rings : List Nat) (j : Nat) : Bool :=
  (drawnPlanes rings).any (fun p => fLevel m j p ≠ 0)

/-- LPI_MISMATCH: of the mould, or of a set a drawn field uses; with its field (R261). -/
def State.lpiError (s : State) (m : List Byte) (rings : List Nat) (sets : List (Nat × Nat)) :
    Option Nat :=
  let code := s.on Od.web_geometry.lines_per_inch
  if leAt m 3 1 ≠ code then some 255
  else (List.range (moFields m)).find? (fun j => usesSet (fKind m j) && drawnField m rings j &&
    (match kvGet sets (fld m j 32 1) with
      | some id => (match verId s.comp.glyphs id with
          | some v => leAt v.bytes 5 1 ≠ code
          | none => false)
      | none => false))

/-- Resolves fields in order until one fails: the texts, and the field and code of the failure. -/
def State.resolveAll (s : State) (m : List Byte) (b : Binding) :
    List Nat → List (Nat × List Byte) → List (Nat × List Byte) × Option (Nat × Nat)
  | [], done => (done, none)
  | j :: js, done =>
    match s.resolveField m b done j with
    | .ok x => s.resolveAll m b js (kvSet done j x)
    | .error e => (done, some (j, e))

/-- The first drawn field whose layout fails, with its code (R259, R264). -/
def State.layoutError (s : State) (m : List Byte) (rings : List Nat) (it : Item) : Option (Nat × Nat) :=
  (List.range (moFields m)).findSome? (fun j =>
    if drawnField m rings j then
      match checkedField m j (s.itemSet it m j) ((kvGet it.resolved j).getD []) with
      | .ok _ => none
      | .error e => some (j, e)
    else none)

/-- The item overlaps the previous item bound on its lane (R270). -/
def State.overlaps (s : State) (it : Item) : Bool :=
  match (s.lane.items.filter (fun x => x.lane = it.lane && x.seq ≠ it.seq &&
      x.spans.toList.any Option.isSome)).getLast? with
  | none => false
  | some p => (it.spans.toList.zip p.spans.toList).any (fun q => match q.1, q.2 with
      | some a, some b => decide (a.first ≤ b.first + b.count - 1)
      | _, _ => false)

/-- Sets the targets of the grid phases that follow the lane of a bound item (R65). -/
def State.setTargets (s : State) (it : Item) (rings : List Nat) : State :=
  rings.foldl (fun a r =>
    if a.phaseSource r = it.lane then
      a.setGrid r { a.grid r with target := some (a.snapPhase r it.lane it.xItem) }
    else a) s

/-- The sealed texts the item's weighing sequence numbers find (R257, R631). -/
def State.weighTextsFor (s : State) (m : List Byte) (lane : Nat) (entries : List (Nat × List Byte)) :
    List (Nat × List (List Byte)) :=
  (List.range (moFields m)).filterMap (fun j =>
    if fKind m j = 4 then
      let q := leNat (match kvGet entries j with
        | some v => v
        | none => fDefault m j)
      (s.weighedFor lane q).map (fun w => (q, w.texts))
    else none)

/-- Composition work at a binding with a mould present (R249 to R270): versions, counters, resolution,
layout, symbols and overlap; the first error closes the item. -/
def State.composeBinding (s : State) (q : Nat) (v : ResVer) (rings : List Nat) : State :=
  match s.item q with
  | none => s
  | some it =>
    let m := v.bytes
    match s.lpiError m rings it.glyphIds with
    | some f => s.composeError it 2 f
    | none =>
      let cs := mouldCounters m
      match cs.findSome? (fun c => (s.counterError c).map (fun e => (c, e))) with
      | some (c, e) => s.composeError it e (counterField m c)
      | none =>
        let taken := cs.map (fun c => (c, s.on (Od.counter.counter_value c)))
        let s := cs.foldl State.advanceCounter s
        let s := s.journal (cs.flatMap (fun c =>
          [Od.counter.counter_value c, Od.counter.counter_exhausted c])) q
        match it.fields.find? (fun p => moFields m ≤ p.1) with
        | some p => s.composeError it 3 p.1
        | none =>
          let ws := s.weighTextsFor m it.lane it.fields
          let b : Binding := { counters := taken, trig := it.trigTime, entries := it.fields,
                               weights := ws }
          let r := s.resolveAll m b (List.range (moFields m)) []
          let s := s.bindWeighed q ((ws.map (fun w => w.1)))
          let it := { it with resolved := r.1 }
          let s := s.modItem q (fun x => { x with resolved := r.1 })
          match r.2 with
          | some (j, e) => s.composeError it e j
          | none =>
            match s.layoutError m rings it with
            | some (j, e) => s.composeError it e j
            | none =>
              if s.overlaps it then s.composeError it 0x0C 255
              else
                let dep := boundFields m it.fields
                s.queueSymbols (((symbolFields m).filter (fun j => dep.contains j)).map
                  (fun j => ⟨true, q, it.lane, j, 0⟩))

/-- Takes the head record of a lane: it leaves the queue, and the consumed mark follows it (R208). -/
def State.takeHead (s : State) (l : Nat) (r : ItemRec) (rest : List ItemRec) : State :=
  (((s.setQueue l rest).setn (Od.lane_status.consumed_mark l) r.num).queueCheck l).preResolve l

/-- The versions a binding pins: the mould and the current glyph sets (R236, R238). -/
def State.pinSets (s : State) (cyc : Nat) : List (Nat × Nat) :=
  (List.range 32).filterMap (fun n => (verAt s.comp.glyphs n cyc).map (fun v => (n, v.id)))

/-- A fresh item of an accepted trigger (R212, R213). -/
def State.newItem (s : State) (l q : Nat) (st : Stamp) : Item :=
  { seq := q, recNum := 0, tag := 0, lane := l, mould := 0xFFFF, slot := none, state := 0, disp := none,
    reason := 0, verdict := 0, fDr := st.dr, fPartial := false, degSupp := false, degBreak := false,
    fHoldup := false, fReject := false, inspect := false, dropsSupp := 0, dropsLimit := 0,
    xItem := st.x + s.psOf (Od.lane_trigger.trigger_distance_um l) +
      s.oi (Od.lane_trigger.lane_correction_ps l),
    trigTime := st.time, closeTime := 0, verdictTime := 0, closeCycle := 0, snap := s.itemValues,
    spans := Vector.replicate 6 none, fired := Vector.replicate 6 0, passed := Vector.replicate 6 0,
    coastFired := false, coastStamp := s.trk = 5, mouldId := none, glyphIds := [], compErr := false, resolved := [],
    fields := [], servCams := s.camsFor l, camDone := [], camMissed := [], gateDone := [], layerRun := [],
    markDone := [] }

/-- Adds an item; the oldest closed one beyond 65 536 leaves the history (R224). -/
def State.addItem (s : State) (it : Item) : State := s.setItems (trimItems (s.lane.items ++ [it]))

/-- The item of a consumed record. -/
def Item.ofRecord (it : Item) (r : ItemRec) : Item :=
  { it with recNum := r.num, tag := r.tag, mould := r.mould, inspect := r.inspect, fields := r.fields }

/-- Binds the head record (outcome 4 of R212). -/
def State.bindHead (s : State) (it : Item) (slot : Nat) : State :=
  let rings := s.laneRings it.lane
  let cyc := s.now / 4
  match verAt s.comp.moulds it.mould cyc with
  | none =>
    let it := { it with state := 1, slot := some slot }
    (s.addItem it).composeError it 1 255
  | some v =>
    let h := moHeight v.bytes
    let spans := rings.foldl (fun (a : Vector (Option RingSpan) 6) r =>
      a.setIfInBounds r (some (s.spanOn r it.lane it.xItem h))) (Vector.replicate 6 none)
    let it := { it with state := 1, slot := some slot, spans := spans, mouldId := some v.id,
                        glyphIds := s.pinSets cyc }
    ((s.addItem it).setTargets it rings).composeBinding it.seq v rings

/-- An accepted trigger takes the next item_sequence and the first outcome of R212 that applies, or those of
R343 and R686. -/
def State.acceptTrigger (s : State) (l : Nat) (st : Stamp) : State :=
  let q := s.on Od.item_window.next_item_sequence
  let s := (s.setn Od.item_window.next_item_sequence (nextSeq q)).inc64
    (Od.ledger.triggers_accepted l)
  let it := s.newItem l q st
  let s := match s.queue l with
    | [] => (s.addItem it).dispose q 3 0
    | r :: rest =>
      let x := it.ofRecord r
      let lead := s.leadOk l it.xItem
      let slot := s.freeSlot
      let froze := s.frozen
      let s := s.takeHead l r rest
      if s.safe then (s.addItem x).dispose q 6 7
      else if froze then (s.addItem { x with tag := 0, mould := 0xFFFF }).dispose q 6 6
      else
        match slot with
        | none => (s.addItem x).dispose q 4 0
        | some n => if lead = false then (s.addItem x).dispose q 6 4 else s.bindHead x n
  (s.journal [Od.ledger.triggers_accepted l, Od.item_window.next_item_sequence,
    Od.lane_status.consumed_mark l] q).mirror

/-! ### What a write to a lane object does -/

/-- lane_flush (R210): queued records are discarded and counted; the consumed mark follows the last. -/
def State.laneFlush (s : State) (l : Nat) : State :=
  let q := s.queue l
  let s := match q.getLast? with
    | some r => s.setn (Od.lane_status.consumed_mark l) r.num
    | none => s
  ((((s.setQueue l []).bump (Od.lane_status.records_flushed l) 32 q.length).queueCheck l).journal
    [Od.lane_status.consumed_mark l] 0)

/-- next_record_set (R208): the lane expects the written number, and the consumed mark is the one
before. -/
def State.nextRecordSet (s : State) (l v : Nat) : State :=
  ((s.setn (Od.lane_status.next_record l) v).setn (Od.lane_status.consumed_mark l) (v - 1)).journal
    [Od.lane_status.consumed_mark l] 0

/-- ledger_reset (R225). -/
def State.ledgerReset (s : State) (l : Nat) : State :=
  let ks := (List.range 10).map (fun d => dispKey l d) ++ [verdictKey l 1, verdictKey l 2,
    verdictKey l 3, Od.ledger.rejects_issued l, Od.ledger.ledger_validity l]
  let s := ks.foldl (fun a k => a.setn k 0) s
  let s := (s.setn (Od.ledger.triggers_accepted l) (s.inFlightOf l)).setn
    (Od.ledger.last_reset_time l) s.time
  s.journal (Od.ledger.triggers_accepted l :: Od.ledger.last_reset_time l :: ks) 0

/-- counter_value written: EXACT, and no longer exhausted (R250, R251). -/
def State.counterWritten (s : State) (c : Nat) : State :=
  ((s.setn (Od.counter.counter_validity c) 0).setb (Od.counter.counter_exhausted c) false).journal
    [Od.counter.counter_value c, Od.counter.counter_validity c, Od.counter.counter_exhausted c] 0

/-- An item's verdict is still pending verdict_timeout_ms after its close (R222). -/
def execVerdictTimeout (t : Nat) (q : Nat) (s : State) : Host.Outcome State Fault Refusal :=
  let s := s.atTime t
  match s.item q with
  | some it => ok (if it.disp.isSome then s.recordVerdict q 3 else s)
  | none => ok s

end Sys2Proof.Machine
end

