-- ==== Sys2Proof/Machine/Web.lean ====
section
/-! DEFINITION. The commands of the Encoder Tracker and of what it places (spec/02): encoder edges, the
index check, line faults, coasts, triggers, lubber marks, camera triggers and reject gates. The line tick
stands in Firing.lean. -/

namespace Sys2Proof.Machine

/-! ### Quadrature and counts -/

/-- Position of a level pair in the forward order 00, 10, 11, 01. -/
def quad (a b : Bool) : Int :=
  match a, b with
  | false, false => 0
  | true, false => 1
  | true, true => 2
  | false, true => 3

/-- Delay of a qualified encoder edge in ns: (N + 2) cycles of 4 ns (R36). -/
def State.encDelay (s : State) (e : Nat) : Nat := (s.on (Od.encoder.enc_filter_samples e) + 2) * 4

/-- A line fault of any pair stands on an encoder (R751). -/
def State.encFaulty (s : State) (e : Nat) : Bool :=
  s.on (Od.encoder.enc_status e) % 8 ≠ 0

/-- Edges kept for the velocity: those inside the window, and always the last two (R42). -/
def trimEdges (now window : Nat) (l : List (Nat × Int)) : List (Nat × Int) :=
  l.take 2 ++ (l.drop 2).takeWhile (fun e => decide (now ≤ e.1 + window))

/-- Edges kept for trigger stamps: those of the last 300 µs and one older, which reach back over any filter
and latency of a trigger (R68). -/
def trimHist (now : Nat) (l : List (Nat × Int)) : List (Nat × Int) :=
  let young := l.takeWhile (fun e => decide (now ≤ e.1 + 300000))
  young ++ (l.drop young.length).take 1

/-- v_edge from the kept edges, newest first (R42). -/
def State.withVelocity (s : State) : State :=
  let w := s.web
  match w.edges, w.edges.getLast? with
  | n :: _, some o =>
    if n.1 ≤ o.1 then s
    else s.setWeb { w with veNum := (n.2 - o.2).toNat, veDen := n.1 - o.1 }
  | _, _ => s

/-- X follows a new target at once, less what is being slewed out (R43, R55). -/
def State.advanceTo (s : State) (t : Frac) : State :=
  let w := s.web
  let d := fracMax ⟨0, 1⟩ (fracSub t w.tgt)
  let sl := slewLeft w.slew d
  s.setWeb { w with tgt := t, slew := sl, x := fracMax w.x (fracSub t sl) }

/-- A forward edge to new ground at count `c`: the high-water mark, the velocity and X (R42, R43). -/
def State.newGround (s : State) (c : Int) : State :=
  let w := s.web
  let last := match w.edges with
    | e :: _ => s.now - e.1
    | [] => w.lastInterval
  let es := trimEdges s.now (1000 * s.on Od.tracker_config.velocity_window_us) ((s.now, c) :: w.edges)
  let s := s.setWeb { w with chwm := c, measure := none, vBand := none, edges := es,
                             lastInterval := last, tEdge := s.now }
  s.withVelocity.advanceTo (s.posOf c)

/-- Sets the web encoder's count to the true one (R55, R56, R59). -/
def State.setTrueCount (s : State) (c : Int) : State :=
  let e := s.webEnc
  let s := s.setEnc e { s.enc e with count := c }
  s.setWeb { s.web with hist := [(s.now - s.encDelay e, c)] }

/-! ### Lines passed without a tick (R56) -/

/-- An item has had the lines of a ring up to line `n` passed. -/
def Item.passTo (it : Item) (ring : Nat) (n : Int) : Item :=
  match it.spans.toList.getD ring none with
  | none => it
  | some r =>
    let k := (clampInt 0 r.count (n - r.first + 1)).toNat
    let old := it.passed.toList.getD ring 0
    let st := if it.state = 1 ∧ 0 < k then 2 else it.state
    { it with passed := it.passed.setIfInBounds ring (max old k), state := st }

/-- After lines have been passed: print windows that have ended close their items, and draining items
leave (R216, R217). -/
def State.closePassed (s : State) : State :=
  let s := (s.lane.items.filter (fun it => it.state = 2 && it.allPassed)).foldl
    (fun a it => a.endWindow it) s
  (s.lane.items.filter (fun it => it.state = 3 && it.allPassed)).foldl (fun a it => a.drain it.seq) s

/-- unit_state (R542). -/
def State.unitState (s : State) (b : Nat) : Nat := s.on (Od.beam_unit_status.unit_state b)

/-- The highest line of a unit whose tick position lies at or before a position. -/
def State.lineAt (s : State) (b : Nat) (x : Frac) : Int := (fracFloor x - s.tickPos (4 + b) 0) / 64

/-- The unit's lines up to `n` are over: items step and close (R216). -/
def State.passBeam (s : State) (b : Nat) (n : Int) : State :=
  (s.setItems (s.lane.items.map (fun it => it.passTo (4 + b) n))).closePassed

/-- A unit that is not in EMITTING lets lines pass: an item whose first line passes closes, as gated while the
unit is OFF or waits for lock, and otherwise with reason BEAM (R544). -/
def State.beamIdle (s : State) (b : Nat) (x : Frac) : State :=
  let r := 4 + b
  let g := s.grid r
  let m := s.lineAt b x
  if s.unitState b = 2 ∨ s.trk = 0 ∨ m < g.nextLine then s
  else
    let st := s.unitState b
    let hit := s.lane.items.filter (fun it => it.inFlight && (match it.spans.toList.getD r none with
      | some sp => decide (sp.first ≤ m)
      | none => false))
    let s := s.setGrid r { g with nextLine := m + 1 }
    let s := if s.pairActive then
        hit.foldl (fun a it => if st ≤ 1 then a.dispose it.seq 5 0 else a.dispose it.seq 6 8) s
      else s
    s.passBeam b m

/-- Lines of both units pass as the web moves, while they do not emit (R544). -/
def State.idleUnits (s : State) : State := (s.beamIdle 0 s.web.x).beamIdle 1 s.web.x

/-- The lines of a ring whose tick position X has passed by a jump are neither fetched nor issued; the line
after them is fetched (R56, R88). -/
def State.skipLines (s : State) (ring : Nat) : State :=
  let g := s.grid ring
  let m := (s.xInt - g.phi + s.advance ring) / 64
  if m < g.nextLine then s
  else
    let s := s.setGrid ring { g with nextLine := m + 1, lastTick := some s.now }
    let s := s.setItems (s.lane.items.map (fun it => it.passTo ring m))
    if ring < 4 then
      let s := (s.seti (Od.plane_tick.line_index ring) m).bump (Od.plane_tick.lines_not_issued ring) 64
        (m + 1 - g.nextLine).toNat
      s.fetch ring (m + 1) false
    else s

/-! ### Registration breaks and returns (R52 to R58) -/

/-- The printed share of an item reaches break_degrade_percent (R57). -/
def State.shareReached (s : State) (it : Item) : Bool :=
  decide (s.on Od.tracker_config.break_degrade_percent * it.linesAll ≤ 100 * it.firedAll)

/-- Dispositions of a registration break (R57, R58). -/
def State.breakItems (s : State) : State :=
  let s := s.setItems (s.lane.items.map (fun it =>
    if it.inFlight && it.coastFired && s.shareReached it then { it with degBreak := true } else it))
  let s := s.disposeAll (fun it => (it.coastFired && !s.shareReached it) ||
    (it.coastStamp && it.firedAll = 0)) 6 3
  s.setItems (s.lane.items.map (fun it => { it with coastFired := false, coastStamp := false }))

/-- A registration break with true count `c` and jump `j` (R56). -/
def State.regBreak (s : State) (c : Int) (j : Frac) : State :=
  let s := s.setTrueCount c
  let s := if 0 ≤ j.num then
      let s := s.jumpX (s.posOf c)
      let s := s.setWeb { s.web with chwm := c, measure := none, vBand := none }
      (List.range 6).foldl (fun a r => a.skipLines r) s
    else
      let s := s.setWeb { s.web with tgt := s.web.x, slew := ⟨0, 1⟩ }
      s.setWeb { s.web with chwm := s.countBelow, measure := some c, vBand := none, edges := [] }
  (s.inc32 Od.tracker_status.break_count).breakItems.closePassed

/-- The edges of a qualified return or reacquisition, newest first, as edges ending at count `c`. -/
def edgesOf (ts : List Nat) (c : Int) : List (Nat × Int) :=
  ts.zipIdx.map (fun p => (p.1, c - p.2))

/-- The greatest count not above `n` that is `r` modulo 4. -/
def congruentBelow (n r : Int) : Int := n - (n - r) % 4

/-- The count nearest X_dr whose low bits match the quadrature state (R53). -/
def State.trueCount (s : State) : Int :=
  let w := s.web
  let e := s.enc s.webEnc
  let num : Int := w.veNum * (s.now - w.tEdge)
  let den : Int := max 1 w.veDen
  let c := congruentBelow (w.chwm + num / den) ((quad e.a e.b + e.phase) % 4)
  if 2 * ((w.chwm - c) * den + num) ≤ 4 * den then c else c + 4

/-- R54: ½ × coast_accel_limit × t_coast² exceeds 2 counts. -/
def State.coastTooLong (s : State) : Bool :=
  let t := s.now - s.web.tEdge
  decide (4 * s.on Od.web_geometry.counts_per_m_den * 10 ^ 21 <
    s.on Od.tracker_config.coast_accel_limit_mm_s2 * t * t * s.on Od.web_geometry.counts_per_m_num)

/-- Dead-reckoned travel since the last accepted edge, in µm (R51, OD 16#3030.06). -/
def State.coastUm (s : State) : Nat :=
  s.web.veNum * (s.now - s.web.tEdge) * 1000000 * s.on Od.web_geometry.counts_per_m_den /
    max 1 (s.web.veDen * s.on Od.web_geometry.counts_per_m_num)

/-- The jump lies within the capture window (R55). -/
def State.captures (s : State) (j : Frac) : Bool :=
  decide (j.num.natAbs ≤ s.on Od.tracker_config.capture_window_ps * j.den)

/-- An event of R83 that carries J. -/
def State.jumpEvent (s : State) (code : Nat) (j : Frac) : State :=
  s.webEvent code (leBytes 4 (patternOf 32 (fracRound j)))

/-- The return has qualified (R53 to R58). -/
def State.returned (s : State) : State :=
  let c := s.trueCount
  let j := fracSub (s.posOf c) s.target
  let um := s.coastUm
  let broke := s.coastTooLong || !s.captures j
  let ts := s.web.ret
  let s := (s.seti Od.tracker_status.last_phase_jump_ps (fracRound j)).setn
    Od.tracker_status.coast_distance_um um
  let last := match ts with
    | a :: b :: _ => a - b
    | _ => s.web.lastInterval
  let s := s.setWeb { s.web with ret := [], tEdge := s.now, lastInterval := last }
  if broke then
    let s := s.regBreak c j
    let s := if 0 ≤ j.num then (s.setWeb { s.web with edges := edgesOf ts c }).withVelocity else s
    (s.enter 2).jumpEvent 0x0304 j
  else
    let s := s.setTrueCount c
    let s := s.setWeb { s.web with chwm := c, edges := edgesOf ts c }
    let s := (s.follow (s.posOf c)).withVelocity
    let s := s.setItems (s.lane.items.map (fun it => { it with coastFired := false, coastStamp := false }))
    (s.enter 2).jumpEvent 0x0303 j

/-- An interval lies within ±25 % of the predicted one at v_edge (R52). -/
def State.returnInterval (s : State) (i : Nat) : Bool :=
  let d : Int := (i * s.web.veNum : Nat) - (s.web.veDen : Int)
  decide (4 * d.natAbs ≤ s.web.veDen)

/-- A forward edge of the web encoder in DEAD_RECKONING (R52). -/
def State.returnEdge (s : State) : State :=
  let ts := match s.web.ret with
    | [] => [s.now]
    | t :: r => if s.returnInterval (s.now - t) then s.now :: t :: r else [s.now]
  let s := s.setWeb { s.web with ret := ts }
  if s.on Od.tracker_config.return_edges ≤ ts.length then s.returned else s

/-! ### Reacquisition (R60) -/

/-- A forward edge in LOST or REACQUIRE qualifies after those kept, newest first. -/
def reacqNext (now : Nat) (l : List Nat) : List Nat :=
  match l with
  | a :: b :: r =>
    let i := now - a
    let p := a - b
    if 4 * ((i : Int) - p).natAbs ≤ p then now :: a :: b :: r else [now]
  | _ => now :: l

/-- The tracker rebases (R60). -/
def State.rebase (s : State) : State :=
  let w := s.web
  let c := s.webCount
  let p := fracMax w.x (s.posOf w.chwm)
  let last := match w.reacq with
    | a :: b :: _ => a - b
    | _ => 0
  let s := s.setWeb { w with
    refPos := p, refCount := c, chwm := c, measure := none, vBand := none, x := p, tgt := p,
    slew := ⟨0, 1⟩, zRef := none, edges := edgesOf w.reacq c, reacq := [], tEdge := s.now,
    lastInterval := last }
  (s.withVelocity.enter 2).webEvent 0x0306 []

/-- A forward edge of the web encoder in LOST or REACQUIRE. -/
def State.reacqEdge (s : State) : State :=
  let l := reacqNext s.now s.web.reacq
  let s := s.setWeb { s.web with reacq := l }
  let s := if s.trk = 6 then s.enter 7 else s
  if s.on Od.tracker_config.reacquire_edges ≤ l.length then s.rebase else s

/-! ### Edges while the position is known (R44 to R48) -/

/-- The tracker enters BACKSTEP (R45). -/
def State.backstep (s : State) : State := (s.enter 3).inc32 Od.tracker_status.backstep_count

/-- An accepted edge takes the count to `c` in STANDSTILL, TRACKING, BACKSTEP or REVERSED (R82). -/
def State.countEdge (s : State) (c : Int) : State :=
  let w := s.web
  if w.chwm < c then
    let st := s.trk
    let s := s.newGround c
    if st = 4 then (s.enter 2).webEvent 0x0301 []
    else if st = 2 then s.advise
    else s.enter 2
  else
    let m := w.measure.getD w.chwm
    if c < m - s.on Od.tracker_config.reversal_counts then if s.trk = 4 then s else s.reverse
    else if c < m - s.on Od.tracker_config.hysteresis_counts then
      if s.trk = 1 ∨ s.trk = 2 then s.backstep else s
    else s

/-- An edge of the web encoder in the direction `d`, the count already moved. -/
def State.webEdge (s : State) (d : Int) : State :=
  let st := s.trk
  if st = 0 then s
  else if st = 5 then
    if d = 1 then s.returnEdge else s.setWeb { s.web with ret := [] }
  else if st = 6 ∨ st = 7 then
    if d = 1 then s.reacqEdge else s.setWeb { s.web with reacq := [] }
  else s.countEdge s.webCount

/-- In TRACKING the first edge below the high-water mark keeps v as it stands (R44). -/
def State.keepBand (s : State) (d : Int) : State :=
  if s.trk = 2 ∧ d = -1 ∧ s.web.vBand = none ∧ s.web.measure = none then
    s.setWeb { s.web with vBand := some s.vel }
  else s

/-- A qualified A/B edge of an encoder, with the levels it leads to (R36 to R60). -/
def runEncoderEdge (t : Nat) (enc : Fin 4) (a b : Bool) (s : State) :
    Host.Outcome State Fault Refusal :=
  let s := s.atTime t
  let x := s.enc enc
  let sw := s.ob (Od.encoder.enc_swap_ab enc)
  let a' := if sw then b else a
  let b' := if sw then a else b
  let d := (quad a' b' - quad x.a x.b) % 4
  let web := decide (s.webEnc = enc)
  if s.ob (Od.encoder.enc_enable enc) = false ∨ d = 0 then ok (s.setEnc enc { x with a := a', b := b' })
  else if d = 2 then
    let s := (s.setEnc enc { x with a := a', b := b' }).inc32 (Od.encoder.enc_error_count enc)
    let s := s.setn (Od.encoder.enc_status enc) (withBit (s.on (Od.encoder.enc_status enc)) 3 true)
    ok (if web && s.encFaulty enc = false then s.moveX.trackFault else s)
  else
    let dir : Int := if d = 1 then 1 else -1
    let c := x.count + dir
    let ph := if s.trk = 5 ∧ web then x.phase else (c - quad a' b') % 4
    let s := if web then s.moveX else s
    let faulty := s.encFaulty enc
    let s := if web && !faulty then s.keepBand dir else s
    let s := s.setEnc enc { x with a := a', b := b', count := c, phase := ph,
                                   recent := ((s.now, dir) :: x.recent).take 2 }
    if web && !faulty then
      let s := s.setWeb { s.web with hist := trimHist s.now ((s.now - s.encDelay enc, c) :: s.web.hist) }
      ok (s.webEdge dir).idleUnits
    else ok s

/-! ### Index check (R59) -/

/-- A Z mismatch with expected count `c` (R55, R56, R59): event Z_MISMATCH, and REGISTRATION_BREAK where
R56 applies. -/
def State.zMismatch (s : State) (c : Int) : State :=
  let j := fracMul s.stepsPerCount (c - s.webCount) 1
  let s := s.seti Od.tracker_status.last_phase_jump_ps (fracRound j)
  if s.captures j then
    let d := c - s.webCount
    let tg := fracAdd s.web.tgt j
    let s := s.setTrueCount c
    let s := s.setWeb { s.web with chwm := s.web.chwm + d, edges := s.web.edges.map (fun e => (e.1, e.2 + d)) }
    (s.follow tg).jumpEvent 0x0307 j
  else (((s.regBreak c j).enter 2).jumpEvent 0x0307 j).jumpEvent 0x0304 j

/-- A qualified Z edge of an encoder (R59). -/
def runZEdge (t : Nat) (enc : Fin 4) (level : Bool) (s : State) : Host.Outcome State Fault Refusal :=
  let s := s.atTime t
  let s := s.setEnc enc { s.enc enc with z := level }
  let rev := s.on (Od.encoder.enc_counts_per_rev enc)
  if level = false ∨ s.webEnc ≠ enc ∨ s.ob (Od.encoder.enc_enable enc) = false ∨
      s.ob (Od.encoder.enc_z_enable enc) = false ∨ rev = 0 ∨ s.trk = 0 ∨ s.trk = 6 ∨ s.trk = 7 ∨
      s.encFaulty enc = true then ok s
  else
    let s := s.moveX
    let c := s.webCount
    match s.web.zRef with
    | none => ok (s.setWeb { s.web with zRef := some c })
    | some r =>
      let expd := r + rev * roundDiv (c - r) rev
      if (c - expd).natAbs ≤ s.on Od.tracker_config.z_tolerance_counts ∨ s.trk ≠ 2 then ok s
      else ok (s.zMismatch expd)

/-! ### Line faults, overdue edges, coast limit -/

/-- The line-fault detector of a pair reports a fault: 0 A, 1 B, 2 Z (R751, R49). -/
def execEncoderLineFault (t : Nat) (enc : Fin 4) (pair : Fin 3) (s : State) :
    Host.Outcome State Fault Refusal :=
  let s := s.atTime t
  let was := s.encFaulty enc
  let s := s.setn (Od.encoder.enc_status enc) (withBit (s.on (Od.encoder.enc_status enc)) pair true)
  if s.webEnc = enc ∧ was = false then ok s.moveX.trackFault else ok s

/-- The fault clears (R52, R60, R751). -/
def execEncoderLineFaultClear (t : Nat) (enc : Fin 4) (pair : Fin 3) (s : State) :
    Host.Outcome State Fault Refusal :=
  let s := s.atTime t
  ok (s.setn (Od.encoder.enc_status enc) (withBit (s.on (Od.encoder.enc_status enc)) pair false))

/-- No edge has arrived for 4 predicted edge intervals in TRACKING (R49). -/
def execEdgeOverdue (t : Nat) (s : State) : Host.Outcome State Fault Refusal :=
  let s := (s.atTime t).moveX
  if s.trk ≠ 2 then ok s
  else if s.on Od.tracker_config.coast_min_speed_um_s ≤ s.vEdgeUm then
    ok (if s.on Od.tracker_config.coast_limit_um = 0 then s.loseTrack else s.coast)
  else ok s.standstill

/-- The dead-reckoned travel exceeds coast_limit_um (R51). -/
def execCoastLimitExceeded (t : Nat) (s : State) : Host.Outcome State Fault Refusal :=
  let s := (s.atTime t).moveX
  if s.trk = 5 then ok ((s.setn Od.tracker_status.coast_distance_um s.coastUm).loseTrack) else ok s

/-! ### Stamps and triggers (R68 to R74) -/

/-- The true count at an instant, as a fraction, from the edge times (R68, R69). -/
def countAt (ve : Nat × Nat) (te : Int) : List (Nat × Int) → Option (Nat × Int) → Frac
  | [], _ => ⟨0, 1⟩
  | e :: es, newer =>
    if (e.1 : Int) ≤ te ∨ es.isEmpty then
      let dt := (te - e.1).toNat
      match newer with
      | some n => fracAdd ⟨e.2, 1⟩ (fracMul ⟨n.2 - e.2, 1⟩ dt (n.1 - e.1))
      | none => fracAdd ⟨e.2, 1⟩ (fracMin ⟨1, 1⟩ (fracNorm (ve.1 * dt : Nat) ve.2))
    else countAt ve te es (some e)

/-- The position the web had at an instant, to the nearest phase step (R68). -/
def State.stampAt (s : State) (te : Int) : Int :=
  let w := s.web
  if s.trk = 5 then
    let dt := te - ((w.tEdge : Int) - s.encDelay s.webEnc)
    fracRound (fracAdd (s.posOf w.chwm) (fracMul s.stepsPerCount (w.veNum * dt) w.veDen))
  else
    let c := match w.hist with
      | [] => ⟨s.webCount, 1⟩
      | h => countAt s.vel te h none
    fracRound (fracAdd w.refPos (fracMul (fracSub c ⟨w.refCount, 1⟩) s.stepsPerCount.num
      s.stepsPerCount.den))

/-- The stamp of an edge that arrives now through a filter, with a latency (R68). -/
def State.stamp (s : State) (filterNs latency : Nat) : Stamp :=
  let back := (ceilDiv filterNs 4 + 2) * 4 + latency
  let te : Int := (s.now : Int) - back
  { x := s.stampAt te, time := ptpAt s.net.ptp te.toNat, dr := decide (s.trk = 5) }

/-- The tracker state that judges a trigger (R72). -/
def State.judgeState (s : State) : Nat :=
  if s.web.stCycle = s.now / 4 then s.web.stBefore else s.trk

/-- The pitch guard rejects a stamp (R70). -/
def State.tooClose (s : State) (l : Nat) (x : Int) : Bool :=
  let g := s.on (Od.lane_trigger.pitch_guard_um l)
  match s.web.lastStamp.toList.getD l none with
  | none => false
  | some p => g ≠ 0 && decide (x - p < umToPs s.lpi g)

/-- Lines of a test bar without its guards (R455). -/
def BarJob.lines (b : BarJob) : Nat := b.rows * (b.dash + b.gap) - b.gap

/-- Last line of the trailing guard. -/
def BarJob.last (b : BarJob) : Int := b.first + 2 * b.guard + b.lines - 1

/-- An item owns a line of a bar of a plane, or of its trailing guard (R457). -/
def Item.meetsBar (it : Item) (p : Nat) (b : BarJob) : Bool :=
  match it.spans.toList.getD p none with
  | none => false
  | some r => decide (r.first ≤ b.last) && decide (b.first + b.guard < r.first + r.count)

/-- Bars that a newly bound item abandons (R457). -/
def State.abandonBars (s : State) (it : Item) : State :=
  let hit := s.insp.bars.filter (fun q => it.meetsBar q.1 q.2)
  let s : State := { s with insp := { s.insp with
    bars := s.insp.bars.filter (fun q => !it.meetsBar q.1 q.2) } }
  hit.foldl (fun a q => (a.inc32 (Od.test_bar.bars_abandoned q.1)).event 0x4803
    (leBytes 1 q.1 ++ leBytes 4 q.2.number)) s

/-- A ring's unit has a polygon axis that is in COASTING, SENSING or BRAKING (R570). -/
def State.polygonDown (s : State) (r : Nat) : Bool :=
  let a := s.on (Od.beam_unit_config.polygon_axis (r - 4))
  let st := s.on (Od.axis_status.axis_state a)
  decide (s.on (Od.axis_config.axis_role a) = 4) && (st = 5 || st = 1 || st = 2)

/-- An item bound on the lanes of a unit whose polygon axis is down closes at its binding (R570). -/
def State.polygonItem (s : State) (it : Item) : State :=
  if it.inFlight && [4, 5].any (fun r => (it.spans.toList.getD r none).isSome && s.polygonDown r) then
    s.dispose it.seq 6 9
  else s

/-- An accepted trigger is bound, and bars it meets are abandoned (R212, R457). -/
def State.bindTrigger (s : State) (l : Nat) (st : Stamp) : State :=
  let q := s.on Od.item_window.next_item_sequence
  let s := s.acceptTrigger l st
  match s.item q with
  | some it => (s.abandonBars it).polygonItem it
  | none => s

/-- What the standby does with its own stamp: it waits for the binding mirrored by the active, and stays
unbound until one comes (R698, R703). -/
def State.shadowStamp (s : State) (l : Nat) (st : Stamp) : State :=
  let x : ShadowTrig := ⟨l, st.x, st.time, st.dr, false⟩
  match s.fault.shadow.find? (fun y => y.mirrored && y.lane = l) with
  | some y =>
    let s : State := { s with fault := { s.fault with shadow := s.fault.shadow.erase y } }
    if (y.x - st.x).natAbs ≤ 2 then s.testBit 3 true
    else (s.inc32 Od.pair_health.trigger_mismatches).failBit 3
  | none => { s with fault := { s.fault with shadow := s.fault.shadow ++ [x],
                                             unbound := s.fault.unbound ++ [x] } }

/-- A stamped trigger of a lane: rejected by R70, R71, R203 or R656, or accepted. -/
def State.laneTrigger (s : State) (l : Nat) (st : Stamp) : State :=
  let s := s.inc64 (Od.lane_trigger.triggers_seen l)
  let j := s.judgeState
  if j = 0 ∨ j = 4 ∨ j = 6 ∨ j = 7 ∨ s.ob (Od.lane_config.lane_enable l) = false ∨ s.stopped = true then
    s.inc32 (Od.lane_trigger.triggers_rejected_state l)
  else if s.tooClose l st.x then s.inc32 (Od.lane_trigger.triggers_rejected_pitch l)
  else
    let s := s.setWeb { s.web with lastStamp := s.web.lastStamp.setIfInBounds l (some st.x) }
    let s := (s.seti (Od.lane_trigger.last_stamp_ps l) st.x).setn (Od.lane_trigger.last_stamp_time l)
      st.time
    if s.pairActive then s.bindTrigger l st
    else if s.pairState = 4 ∨ s.pairState = 6 then s.shadowStamp l st
    else s

/-- A qualified product-detect edge on TRIG0 to TRIG7 (R68, R90). -/
def execTriggerEdge (t : Nat) (n : Fin 8) (rising : Bool) (s : State) :
    Host.Outcome State Fault Refusal :=
  let s := (s.atTime t).moveX
  let l := n.val
  if s.ob (Od.lane_trigger.trig_enable l) = false ∨ s.on (Od.lane_trigger.trig_source l) ≠ 0 ∨
      decide (s.on (Od.lane_trigger.trig_edge l) = 0) ≠ rising then ok s
  else
    ok (s.laneTrigger l (s.stamp (s.on (Od.lane_trigger.trig_filter_ns l))
      (s.on (Od.lane_trigger.trig_latency_ns l))))

/-! ### Lubber marks (R74 to R77) -/

/-- Where an item expects its mark (R75). -/
def State.markPos (s : State) (m : Nat) (it : Item) : Int :=
  it.xItem + umToPs s.lpi (it.iv (Od.lubber_mark.mark_expect_um m))

/-- An item of the mark's lane that has not yet paired. -/
def State.awaitsMark (s : State) (m : Nat) (it : Item) : Bool :=
  it.inFlight && decide (it.lane = s.on (Od.lubber_mark.mark_lane m)) && !it.markDone.contains m

/-- A mark pairs with an item: the lane's correction moves (R76). -/
def State.pairMark (s : State) (m : Nat) (x : Int) (it : Item) : State :=
  let e := x - s.markPos m it
  let lim := s.psOf (Od.lubber_mark.mark_step_limit_um m)
  let d := clampInt (-lim) lim (roundDiv (e * s.on (Od.lubber_mark.mark_gain_percent m)) 100)
  let l := s.on (Od.lubber_mark.mark_lane m)
  let s := s.modItem it.seq (fun y => { y with markDone := y.markDone ++ [m] })
  let s := s.setWeb { s.web with missRun := s.web.missRun.setIfInBounds m 0 }
  (s.seti (Od.lane_trigger.lane_correction_ps l)
    (signedOf 32 (patternOf 32 (s.oi (Od.lane_trigger.lane_correction_ps l) + d)))).seti
    (Od.lubber_mark.mark_error_um m) (psToUm s.lpi e)

/-- A mark in CORRECT mode: the earliest unpaired item within the window, else unpaired (R75, R77). -/
def State.correctMark (s : State) (m : Nat) (x : Int) : State :=
  let win := s.psOf (Od.lubber_mark.mark_window_um m)
  match s.lane.items.find? (fun it => s.awaitsMark m it &&
      decide (((x - s.markPos m it).natAbs : Int) ≤ win)) with
  | some it => s.pairMark m x it
  | none => s.inc32 (Od.lubber_mark.marks_unpaired m)

/-- A qualified edge on MARK0 to MARK3 (R74 to R77). -/
def execLubberMark (t : Nat) (m : Fin 4) (rising : Bool) (s : State) :
    Host.Outcome State Fault Refusal :=
  let s := (s.atTime t).moveX
  if s.ob (Od.lubber_mark.mark_enable m) = false ∨
      decide (s.on (Od.lubber_mark.mark_edge m) = 0) ≠ rising then ok s
  else
    let st := s.stamp (s.on (Od.lubber_mark.mark_filter_ns m)) (s.on (Od.lubber_mark.mark_latency_ns m))
    if s.on (Od.lubber_mark.mark_mode m) = 0 then
      ok ((List.range 8).foldl (fun a l =>
        if a.ob (Od.lane_trigger.trig_enable l) && a.on (Od.lane_trigger.trig_source l) = 16 + m.val then
          a.laneTrigger l st else a) s)
    else ok (s.correctMark m st.x)

/-- An item passes X_e + mark_window_um without a mark (R77). -/
def execMarkMissing (t : Nat) (m : Fin 4) (q : Nat) (s : State) : Host.Outcome State Fault Refusal :=
  let s := (s.atTime t).moveX
  match s.item q with
  | none => ok s
  | some it =>
    if s.ob (Od.lubber_mark.mark_enable m) = false ∨ s.on (Od.lubber_mark.mark_mode m) ≠ 1 ∨
        s.awaitsMark m it = false ∨
        s.xInt < s.markPos m it + s.psOf (Od.lubber_mark.mark_window_um m) then ok s
    else
      let run := s.web.missRun.toList.getD m 0 + 1
      let s := s.modItem q (fun y => { y with markDone := y.markDone ++ [m.val] })
      let s := (s.setWeb { s.web with missRun := s.web.missRun.setIfInBounds m run }).inc32
        (Od.lubber_mark.marks_missing m)
      ok (if run = 3 then s.webEvent 0x0309 (leBytes 1 m) else s)

/-! ### Camera triggers (R78, R79, R458, R493) -/

/-- The state of a CAM_TRIG output. -/
def State.trigOut (s : State) (c : Nat) : CamTrig := s.web.cams.toList.getD c ⟨false, none⟩

/-- A trigger of a camera is due: a pulse, or a skip within the minimum interval (R78, R79); true for a
pulse. -/
def State.pulseCam (s : State) (c : Nat) : State × Bool :=
  let near := match (s.trigOut c).lastPulse with
    | some p => decide (s.now < p + 1000 * s.on (Od.camera_trigger.cam_min_interval_us c))
    | none => false
  if near then (s.inc32 (Od.camera_trigger.cam_trig_skipped c), false)
  else
    ((s.setWeb { s.web with cams := s.web.cams.setIfInBounds c ⟨true, some s.now⟩ }).inc64
      (Od.camera_trigger.cam_trig_issued c), true)

/-- Where a camera is triggered for an item (R78). -/
def State.camPos (s : State) (c : Nat) (it : Item) : Frac :=
  s.leadPos (it.xItem + umToPs s.lpi (it.iv (Od.camera_trigger.cam_distance_um c)) +
    umToPs s.lpi (it.iv (Od.camera_trigger.cam_offset_um c))) (it.ivn (Od.camera_trigger.cam_latency_ns c))

/-- X reaches the capture point of an item (R78, R79). -/
def execCameraTrigger (t : Nat) (c : Fin 4) (q : Nat) (s : State) : Host.Outcome State Fault Refusal :=
  let s := (s.atTime t).moveX
  match s.item q with
  | none => ok s
  | some it =>
    if s.pairActive = false ∨ s.ob (Od.camera_trigger.cam_trig_enable c) = false ∨
        bitAt (it.ivn (Od.camera_trigger.cam_lane_mask c)) it.lane = false ∨
        it.camDone.contains c.val = true ∨ s.ahead (s.camPos c it) = true then ok s
    else
      let s := s.modItem q (fun y => { y with camDone := y.camDone ++ [c.val] })
      let r := s.pulseCam c
      if r.2 then
        ok (r.1.queueFrame c { kind := 1, ident := q, pulse := s.now,
                               expose := s.now + it.ivn (Od.camera_trigger.cam_latency_ns c) })
      else
        let s := r.1.modItem q (fun y => { y with camMissed := y.camMissed ++ [c.val] })
        ok ((s.camResult q c (Finding.bare 3 1)).archLost c q s.now s.now)

/-- Where a camera is triggered for a bar (R458). -/
def State.barPos (s : State) (p c : Nat) (b : BarJob) : Frac :=
  s.leadPos (64 * (b.first + b.guard) + (s.grid p).phi - s.ringDist p +
    s.psOf (Od.camera_trigger.cam_distance_um c) + b.offset) (s.on (Od.camera_trigger.cam_latency_ns c))

/-- X reaches the capture point of a test bar of a plane (R458). -/
def execBarCameraTrigger (t : Nat) (c plane : Fin 4) (s : State) : Host.Outcome State Fault Refusal :=
  let s := (s.atTime t).moveX
  match s.insp.bars.find? (fun q => q.1 = plane.val && bitAt q.2.cams c && !q.2.camDone.contains c.val) with
  | none => ok s
  | some (p, b) =>
    if s.pairActive = false ∨ s.ob (Od.camera_trigger.cam_trig_enable c) = false ∨
        s.ahead (s.barPos p c b) = true then ok s
    else
      let s : State := { s with insp := { s.insp with bars := s.insp.bars.map (fun y =>
        if y.2.number = b.number then (y.1, { y.2 with camDone := y.2.camDone ++ [c.val] }) else y) } }
      let r := s.pulseCam c
      if r.2 then
        ok (r.1.queueFrame c { kind := 2, ident := b.number, pulse := s.now,
                               expose := s.now + s.on (Od.camera_trigger.cam_latency_ns c) })
      else ok (r.1.barUnseen b.number c)

/-- The pulse on a CAM_TRIG output ends (R78). -/
def execCamPulseEnd (t : Nat) (c : Fin 4) (s : State) : Host.Outcome State Fault Refusal :=
  let s := s.atTime t
  let o := s.web.cams.get c
  ok (s.setWeb { s.web with cams := s.web.cams.set c { o with level := false } })

/-! ### Reject gates (R226, R227) -/

/-- A gate rejects an item as it stands (R226). -/
def Item.rejectedBy (it : Item) (g : Nat) : Bool :=
  (match it.disp with
    | none => true
    | some d => bitAt (it.ivn (Od.reject_gate.rej_disposition_mask g)) d) ||
  bitAt (it.ivn (Od.reject_gate.rej_verdict_mask g)) it.verdict ||
  (it.inspect && (it.verdict = 0 || it.verdict = 3))

/-- Where a gate decides on an item (R226). -/
def State.rejectPos (s : State) (g : Nat) (it : Item) : Frac :=
  s.leadPos (it.xItem + umToPs s.lpi (it.iv (Od.reject_gate.rej_distance_um g)))
    (it.ivn (Od.reject_gate.rej_latency_ns g))

/-- A gate pulses for an item: a pulse, or an extended one (R227). rejects_issued counts the item once,
at its first gate (R230). -/
def State.rejectPulse (s : State) (g q lane : Nat) (first : Bool) : State :=
  let o := s.lane.gates.toList.getD g ⟨false, 0⟩
  let stop := s.now + 1000000 * s.on (Od.reject_gate.rej_pulse_ms g)
  let s := s.inc64 (Od.reject_gate.rej_issued g)
  let s := if o.level then s.inc32 (Od.reject_gate.rej_pulse_merged g) else s
  let s := s.modItem q (fun y => { y with fReject := true })
  let gates := s.lane.gates.setIfInBounds g ⟨true, max stop o.pulseEnd⟩
  let s : State := { s with lane := { s.lane with gates := gates } }
  if first then s.inc64 (Od.ledger.rejects_issued lane) else s

/-- X reaches the decision point of a reject gate for an item (R226). -/
def execRejectDecision (t : Nat) (g : Fin 4) (q : Nat) (s : State) : Host.Outcome State Fault Refusal :=
  let s := (s.atTime t).moveX
  match s.item q with
  | none => ok s
  | some it =>
    if s.pairActive = false ∨ s.ob (Od.reject_gate.rej_enable g) = false ∨
        bitAt (it.ivn (Od.reject_gate.rej_lane_mask g)) it.lane = false ∨
        it.gateDone.contains g.val = true ∨ s.ahead (s.rejectPos g it) = true then ok s
    else
      let s := s.modItem q (fun y => { y with gateDone := y.gateDone ++ [g.val] })
      ok (if it.rejectedBy g then s.rejectPulse g q it.lane (!it.fReject) else s)

/-- The pulse on a REJ_GATE output ends, unless it has been extended (R227). -/
def execRejPulseEnd (t : Nat) (g : Fin 4) (s : State) : Host.Outcome State Fault Refusal :=
  let s := s.atTime t
  let o := s.lane.gates.get g
  if s.now < o.pulseEnd then ok s
  else ok { s with lane := { s.lane with gates := s.lane.gates.set g { o with level := false } } }

/-! ### SPEED_ADV (R67) -/

/-- Every enabled reason has been clear for speed_adv_hold_ms: SPEED_ADV negates. -/
def execSpeedAdvHoldExpiry (t : Nat) (s : State) : Host.Outcome State Fault Refusal :=
  let s := (s.atTime t).moveX.advise
  if (s.on Od.speed_advice.speed_adv_reasons &&& s.on Od.speed_advice.speed_adv_reason_enable) = 0 then
    ok (s.setWeb { s.web with speedAdv := false })
  else ok s

/-- 1 ms has passed since the last data-late line: the reason clears. -/
def execDataLateReasonExpiry (t : Nat) (s : State) : Host.Outcome State Fault Refusal :=
  ok (((s.atTime t).moveX).setReason 4 false)

end Sys2Proof.Machine
end

