-- ==== Sys2Proof/Machine/Firing.lean ====
section
/-! DEFINITION. Firing channels and head links (spec/11): the line tick, gates, the back channel, and the
drop counters. -/

namespace Sys2Proof.Machine

/-! ### Look-ahead (R421) -/

/-- The last line of a ring whose tick position X has reached (R88); of a Beam Engine ring, the line before
the next one not emitted or skipped. -/
def State.lineIndex (s : State) (ring : Nat) : Int :=
  if ring < 4 then s.oi (Od.plane_tick.line_index ring) else (s.grid ring).nextLine - 1

/-- The look-ahead L of a ring (R272). -/
def State.lookAhead (s : State) (ring : Nat) : Int :=
  s.oi (Od.compose_ring.couch_frontier ring) - s.lineIndex ring

/-- A ring that counts for LOOKAHEAD_LOW: of a firing plane, or of a unit in EMITTING (R421, R537). -/
def State.ringRuns (s : State) (ring : Nat) : Bool :=
  if ring < 4 then s.fires ring else s.on (Od.beam_unit_status.unit_state (ring - 4)) = 2

/-- lookahead_low_mark of a ring. -/
def State.lowMark (s : State) (ring : Nat) : Nat :=
  if ring < 4 then s.on (Od.plane_firing.lookahead_low_mark ring)
  else s.on (Od.beam_unit_config.lookahead_low_mark (ring - 4))

/-- A ring's look-ahead is low, with the 16 lines of hysteresis (R421). -/
def State.ringLow (s : State) (ring : Nat) : Bool :=
  let l := s.lookAhead ring
  let m : Int := s.lowMark ring
  s.ringRuns ring && (decide (l < m) || (s.fire.low.toList.getD ring false && decide (l < m + 16)))

/-- The transport ramp follows the reasons LOOKAHEAD_LOW and DATA_LATE (R572). -/
def State.rampCheck (s : State) : State :=
  let r := s.on Od.speed_advice.speed_adv_reasons
  s.setb Od.transport_ramp.la_ramp_active (bitAt r 1 || bitAt r 4)

/-- look_ahead_min keeps the least L of the rings that run (R283). -/
def State.lookMin (s : State) : State :=
  (List.range 6).foldl (fun a r =>
    if a.ringRuns r ∧ a.lookAhead r < a.oi (Od.compose_ring.look_ahead_min r) then
      a.seti (Od.compose_ring.look_ahead_min r) (max 0 (a.lookAhead r)) else a) s

/-- Renews LOOKAHEAD_LOW; its activation is pushed with the ring and L (R421, R430). -/
def State.lookCheck (s : State) : State :=
  let low := Vector.ofFn (fun (r : Fin 6) => s.ringLow r)
  let s := s.lookMin
  let s := s.setFire { s.fire with low := low }
  let s := (List.range 4).foldl (fun a p =>
    a.setb (Od.plane_fire_status.lookahead_low_active p) (low.toList.getD p false)) s
  let was := bitAt (s.on Od.speed_advice.speed_adv_reasons) 1
  match low.toList.findIdx? id with
  | none => if was then (s.setReason 1 false).rampCheck else s
  | some r =>
    if was then s
    else ((s.setReason 1 true).event 0x4002 (leBytes 1 r ++ leBytes 2 (patternOf 16 (s.lookAhead r)))).rampCheck

/-! ### Resolution of a line at its tick (R25) -/

/-- The items that own a line and are in flight. -/
def openOwners (own : List Item) : List Item := own.filter (fun it => it.inFlight)

/-- A line is held as by a closed gate: its drops are suppressed with reason GATED and its items close
(R417, R419). -/
def State.holdLine (s : State) (p : Nat) (h : HeldLine) (own : List Item) : State :=
  let qs := own.map (fun it => it.seq)
  let s := s.inc64 (Od.plane_fire_status.lines_gated p)
  let s := s.suppressAll p (h.drops.map (fun q => q.1)) 1 qs
  let s := (List.range 10).foldl (fun a g =>
    if bitAt (a.gateMask p) g then
      a.setFire { a.fire with gateHeld := bumpVec a.fire.gateHeld g 1 } else a) s
  (openOwners own).foldl (fun a it => a.dispose it.seq 5 0) s

/-- The FIRE of a line goes out on the links that hold it (R407, R398). -/
def State.sendFire (s : State) (p : Nat) (links : Nat) : State :=
  (List.range 12).foldl (fun a i =>
    let k := 12 * p + i
    if bitAt links i then
      let a := a.inc64 (Od.head_link.fires_sent k)
      a.setLink k { a.link k with fires := (a.link k).fires + 1 }
    else a) (s.inc64 (Od.plane_fire_status.lines_issued p))

/-- A data-late line fires blank, and the items whose print window it lies in close (R20, R422). -/
def State.lateLine (s : State) (p : Nat) (h : HeldLine) (own : List Item) : State :=
  let s := (s.inc64 (Od.plane_fire_status.lines_data_late p)).sendFire p h.links
  let fl := (⟨h.n, [], []⟩ :: s.fire.flown.toList.getD p []).take 64
  let s := s.setFire { s.fire with flown := s.fire.flown.setIfInBounds p fl }
  let hit := openOwners own
  let s := hit.foldl (fun a it => a.dispose it.seq 6 1) s
  if hit.isEmpty then s else (s.setReason 4 true).rampCheck

/-- Marks an item as having had a line fired on a ring (R57, R221). -/
def Item.lineFired (it : Item) (ring : Nat) (coast : Bool) : Item :=
  { it with fired := bumpVec it.fired ring 1, fPartial := true, fDr := it.fDr || coast,
            coastFired := it.coastFired || coast }

/-- The drops of a fetched line by what becomes of them when its FIRE is sent: fired, suppressed by
recharge, and lost to a link that is down (R416, R424). -/
def State.splitDrops (s : State) (p : Nat) (h : HeldLine) :
    List (Nat × Nat) × List Nat × List Nat :=
  let up := fun (c : Nat) => h.up.contains (c / 1024) && s.chan (48 * p + c / 1024) = 6
  let rec_ := fun (c : Nat) => h.recharge.contains c
  (h.drops.filter (fun q => up q.1 && !rec_ q.1),
   (h.drops.filter (fun q => rec_ q.1 && up q.1)).map (fun q => q.1),
   (h.drops.filter (fun q => !up q.1)).map (fun q => q.1))

/-- The counts of a fired line: drops fired, suppressed and spat, and what a REJECT can still name (R377,
R398, R413). -/
def State.countFired (s : State) (p : Nat) (h : HeldLine) (qs : List Nat) : State :=
  let count := s.fire.ticked.toList.getD p 0
  let d := s.splitDrops p h
  let s := d.1.foldl (fun a q => a.fireDrop p q.1 q.2 count) s
  let s := (s.suppressAll p d.2.1 3 qs).suppressAll p d.2.2 6 qs
  let s := h.spit.foldl (fun a c => a.spitDrop p c h.spitLevel count) s
  let fl := (⟨h.n, d.1, qs⟩ :: s.fire.flown.toList.getD p []).take 64
  s.setFire { s.fire with flown := s.fire.flown.setIfInBounds p fl }

/-- A line fires under order 7 of R25, with the suppressions of order 6. -/
def State.fireLine (s : State) (p : Nat) (h : HeldLine) (own : List Item) : State :=
  let coast := decide (s.trk = 5)
  let s := (s.sendFire p h.links).countFired p h (own.map (fun it => it.seq))
  s.setItems (s.lane.items.map (fun it =>
    if own.any (fun o => o.seq = it.seq) && it.inFlight then it.lineFired p coast else it))

/-- The part of a fetched line that its owners still print: an item closed since the fetch fires blank (R214). -/
def HeldLine.live (h : HeldLine) (p : Nat) (own : List Item) : HeldLine :=
  let gone := own.filter (fun it => !it.inFlight)
  if gone.isEmpty then h
  else
    let keep := fun (c : Nat) => !gone.any (fun it => it.covers p c) || (openOwners own).any (fun it => it.covers p c)
    { h with drops := h.drops.filter (fun q => keep q.1), recharge := h.recharge.filter keep }

/-- What becomes of line n of a plane at its tick: the causes of R25 in order. `close`: less than 5 µs after
the tick of the line before (R23, R423). -/
def State.resolveLine (s : State) (p : Nat) (n : Int) (close : Bool) : State :=
  let own := s.owners p n
  match (s.fire.line.toList.getD p none).map (fun h => h.live p own) with
  | none => s
  | some h =>
    if s.safe ∨ s.fault.fenceIn = true ∨ h.gap = true ∨ h.n ≠ n then s
    else if s.pairActive = false then
      if s.pairState = 4 ∧ h.firing = true ∧ h.late = false then
        s.setFire { s.fire with shadow := s.fire.shadow ++ [(p, h)] } else s
    else if h.firing = false ∨ s.gateMask p ≠ 0 then s.holdLine p h own
    else if h.late then s.lateLine p h own
    else if close then
      (s.inc64 (Od.plane_tick.lines_not_issued p)).suppressAll p (h.drops.map (fun q => q.1)) 2
        (own.map (fun it => it.seq))
    else s.fireLine p h own

/-- φ moves towards its target by at most 4 phase steps per line (R65). -/
def Grid.slide (g : Grid) : Grid :=
  match g.target with
  | none => g
  | some t =>
    let d := clampInt (-4) 4 (t - g.phi)
    { g with phi := g.phi + d, target := if g.phi + d = t then none else some t }

/-- Keeps the web speed at the first line of a bar (R464). -/
def State.noteBarSpeed (s : State) (p : Nat) (n : Int) : State :=
  s.setInsp { s.insp with bars := s.insp.bars.map (fun q =>
    if q.1 = p ∧ q.2.first + q.2.guard = n then (q.1, { q.2 with speed := s.vEdgeUm }) else q) }

/-- The tick of line n of a plane: the line is resolved, items step, and the next line is fetched (R62,
R376, R407). -/
def State.tick (s : State) (p : Nat) (n : Int) (struck : Bool) : State :=
  let g := s.grid p
  let close := match g.lastTick with
    | some l => decide (s.now < l + 5000)
    | none => false
  let s := s.setGrid p { g.slide with nextLine := n + 1, lastTick := some s.now }
  let s := s.seti (Od.plane_tick.line_index p) n
  let s := s.setFire { s.fire with ticked := bumpVec s.fire.ticked p 1 }
  let s := s.setItems (s.lane.items.map (fun it => it.passTo p n))
  let s := s.noteBarSpeed p n
  let s := (s.resolveLine p n close).closePassed
  ((s.fetch p (n + 1) struck).lookCheck).advise

/-- X reaches the tick position of the next line of a plane. `struck`: an uncorrectable error strikes the line
fetched (R328). No tick is issued while the position is not defined, nor before its position (R51, R62). -/
def runLineTick (t : Nat) (plane : Fin 4) (struck : Bool) (s : State) :
    Host.Outcome State Fault Refusal :=
  let s := (s.atTime t).moveX
  let n := (s.grid plane).nextLine
  if s.trk = 0 ∨ s.trk = 6 ∨ s.trk = 7 ∨ fracLt s.web.x (Frac.ofInt (s.tickPos plane n)) = true then ok s
  else ok (s.tick plane n struck)

/-! ### Gates (R418 to R420) -/

/-- A unit. -/
def State.unit (s : State) (b : Nat) : BeamUnit := s.beam.units.toList.getD b BeamUnit.reset

/-- Replaces a unit. -/
def State.setUnit (s : State) (b : Nat) (x : BeamUnit) : State :=
  { s with beam := { s.beam with units := s.beam.units.setIfInBounds b x } }

/-- LASER_ILK_N is high again: the unit's LASER_EN follows its state (R528, R546). Gates 8 and 9 are those of
the two laser interlocks. -/
def State.ilkHigh (s : State) (g : Nat) : State :=
  if g < 8 then s
  else
    let b := g - 8
    s.setUnit b { s.unit b with ilkLow := false, laserEn := decide (s.unitState b = 2) }

/-- Rings a gate acts on. -/
def State.gateRings (s : State) (g : Nat) : List Nat :=
  (List.range 6).filter (fun r => bitAt (s.on (Od.gate_input.gate_target g)) r)

/-- A gate input is qualified closed. A gate that is not enabled never closes (R434). -/
def execGateClosed (t : Nat) (g : Fin 10) (s : State) : Host.Outcome State Fault Refusal :=
  let s := (s.atTime t).moveX
  if s.ob (Od.gate_input.gate_enable g) = false ∨ s.ob (Od.gate_input.gate_closed g) = true then ok s
  else
    let s := (s.setb (Od.gate_input.gate_closed g) true).inc32 (Od.gate_input.gate_closures g)
    let s := s.setn (Od.gate_input.gate_change_time g) s.time
    let s := s.setFire { s.fire with gateHeld := s.fire.gateHeld.set g 0 }
    let ps := (s.gateRings g).filter (fun r => decide (r < 4))
    let s := ps.foldl (fun a p => (a.refreshPlane p).switchNow p) s
    ok (s.event 0x4003 (leBytes 1 g ++ ps.flatMap (fun _ => leBytes 4 0)))

/-- A gate input is qualified open again (R420). -/
def execGateOpened (t : Nat) (g : Fin 10) (s : State) : Host.Outcome State Fault Refusal :=
  let s := (s.atTime t).moveX.ilkHigh g
  if s.ob (Od.gate_input.gate_closed g) = false then ok s
  else
    let s := (s.setb (Od.gate_input.gate_closed g) false).setn (Od.gate_input.gate_change_time g) s.time
    let s := (s.gateRings g).foldl (fun a r => if r < 4 then a.refreshPlane r else a) s
    ok (s.event 0x4004 (leBytes 1 g ++ leBytes 8 (s.fire.gateHeld.get g)))

/-! ### The back channel (R387 to R400) -/

/-- A STATUS frame (R388). -/
def State.statusCounts (s : State) (k : Nat) (st : HeadStatus) : State :=
  let s := (s.setn (Od.head_link.fwd_errors_reported k) st.codeErrors).setn (Od.head_link.head_input k) st.input
  s.seti (Od.head_link.head_temperature k) st.temperature

/-- The counts of a link's four channels become UNKNOWN (R399, R430). -/
def State.linkUnknown (s : State) (k : Nat) : State :=
  ((chansOf k).foldl (fun a ch => a.setn (Od.firing_channel.count_validity ch) 2) s).event 0x4005
    (leBytes 1 k)

/-- The head has been powered on again: its head_boot differs from that of the last STATUS (R429). -/
def State.rebooted (s : State) (k : Nat) (st : HeadStatus) : Bool :=
  match (s.link k).headBoot with
  | some b => b ≠ st.headBoot
  | none => false

/-- R399: the reports received are compared with those sent; a change of head_boot after an unconfirmed FIRE
loses counts too. The first STATUS of a link sets where its counts begin, and a difference that has made the
counts UNKNOWN is not found again at each later STATUS (assumption log). -/
def State.checkReports (s : State) (k : Nat) (st : HeadStatus) : State :=
  let x := s.link k
  let again := s.rebooted k st
  let lost := again && decide (x.done + x.rejects < x.fires)
  let rej := if x.headBoot = none then st.rejectsSent % 2 ^ 32 else if again then 0 else x.rejects
  let fires := if x.headBoot = none then st.firesDone + st.rejectsSent else if again then 0 else x.fires
  let differ := rej ≠ st.rejectsSent % 2 ^ 32
  let s := s.setLink k { x with
    headBoot := some st.headBoot, rejects := st.rejectsSent % 2 ^ 32, fires := fires, done := st.firesDone }
  if lost || differ then s.linkUnknown k else s

/-- CONTROL IDENTIFY is sent: the block is read anew (R415). -/
def State.identify (s : State) (k : Nat) : State :=
  (s.setLink k { s.link k with asm := [], waiting := [], slots := [] }).setLinkState k 2 0

/-- A link falls to LINK_DOWN with its reason and event (R400, R415). -/
def State.linkDown (s : State) (k : Nat) : State :=
  let s := s.setLink k { s.link k with waiting := [], asm := [] }
  let s := s.setInsp { s.insp with groups := s.insp.groups.map (fun g =>
    if g.trimOut.contains k then { g with trimOut := g.trimOut.erase k, trimDue := g.trimDue ++ [k] } else g) }
  (s.setLinkState k 1 1).linkEvent k

/-- What a valid STATUS does on a link that is enabled (R394, R399, R415, R429). A device of a pair that is not active compares
the reports of the active's inputs instead (R693, R699). -/
def State.backStatus (s : State) (k : Nat) (st : HeadStatus) : State :=
  let ls := s.linkState k
  if ls = 0 then s
  else
    let again := s.pairActive && s.rebooted k st
    let s := s.statusCounts k st
    let s := if s.pairActive then s.checkReports k st else s
    let locked := bitAt st.flags 0
    let live : Bool := 2 ≤ ls && ls ≤ 6 && ls ≠ 3
    let s := if live && (again || !locked) then s.linkDown k else s
    if s.linkState k = 1 ∧ locked = true then s.identify k else s

/-- The fired drops of a line on the named blocks of a link. -/
def dropsOn (k blocks : Nat) (l : FlownLine) : List (Nat × Nat) :=
  l.drops.filter (fun q => linkOf (k / 12) (q.1 / 1024) = k && bitAt blocks (q.1 / 1024 % 4))

/-- A drop moves from fired to suppressed with a reason (R398). -/
def State.unfire (s : State) (p c reason : Nat) : State :=
  (s.modNozzle (nozKey p c) (fun z => { z with newFired := z.newFired - 1, newSupp := z.newSupp + 1 })).modAcc
    (chanOf p c) (fun a => { a with fired := a.fired - 1, supp := bumpVec a.supp (reason - 1) 1 })

/-- The drops of a rejected line move, and are charged to its items that are still open; with every owner
closed the report is late (R398). -/
def State.rejectLine (s : State) (k cause blocks line : Nat) (l : FlownLine) : State :=
  let p := k / 12
  let reason := if cause = 2 then 5 else 4
  let ds := dropsOn k blocks l
  let s := ds.foldl (fun a q => a.unfire p q.1 reason) s
  let rest := (s.fire.flown.toList.getD p []).map (fun x =>
    if x.n = l.n then { x with drops := x.drops.filter (fun q => !ds.contains q) } else x)
  let s := s.setFire { s.fire with flown := s.fire.flown.setIfInBounds p rest }
  let isOpen := fun q => match s.item q with
    | some it => it.disp.isNone
    | none => false
  let s := l.owners.foldl (fun a q =>
    a.chargeItem q ((ds.filter (fun d => (a.charged p d.1 [q]).isEmpty = false)).length) true) s
  let shut := l.owners.filter (fun q => !isOpen q)
  if shut.isEmpty then s
  else
    let chs := (ds.map (fun q => chanOf p q.1)).eraseDups
    (chs.foldl (fun a ch => a.inc32 (Od.firing_channel.late_reports ch)) s).event 0x4000
      (leBytes 1 k ++ leBytes 1 cause ++ leBytes 2 0 ++ leBytes 4 line ++ shut.flatMap (fun q => leBytes 4 q))

/-- A REJECT arrives: cause 1 CRC, 2 MISSED, 3 CODE_ERROR, with the blocks not fired (R388, R398). -/
def execBackReject (t : Nat) (link : Fin 48) (line : Nat) (cause : Nat) (blocks : Nat) (s : State) :
    Host.Outcome State Fault Refusal :=
  let s := s.atTime t
  let k := link.val
  if s.linkState k = 0 then ok s
  else if cause = 0 ∨ 3 < cause then ok (s.inc32 (Od.head_link.back_frames_bad k))
  else
    let s := s.setLink k { s.link k with rejects := ((s.link k).rejects + 1) % 2 ^ 32 }
    let s := s.inc32 (if cause = 2 then Od.head_link.rejects_missed k else Od.head_link.rejects_crc k)
    match (s.fire.flown.toList.getD (k / 12) []).find? (fun l => patternOf 32 l.n = line) with
    | some l => ok (s.rejectLine k cause blocks line l).mirror
    | none => ok s.mirror

/-- A field of the header lies outside its range, or a rank entry holds class 3 (R401 to R403). -/
def identityBad (b : List Byte) : Bool :=
  let f := fun o n => leAt b o n
  let out := fun v lo hi => decide (v < lo) || decide (hi < v)
  out (f 3 1) 1 2 || out (f 25 1) 1 3 || out (f 26 1) 1 16 || out (f 28 4) 1000 160000 || decide (10000 < f 32 4) || decide (20 < f 36 2) ||
  decide (100 < f 38 2) ||
  (List.range 4096).any (fun i => decide (field (f (256 + 2 * i) 1) 2 1 = 3))

/-- Total duration in ns of the active segments of a level of a slot (R403, R409). -/
def waveTime (w : List Byte) (level : Nat) : Nat :=
  let segs := (List.range 8).map (fun i => leAt w (16 + 32 * (level - 1) + 4 * i) 2)
  (segs.takeWhile (fun d => d ≠ 0)).foldl (· + ·) 0

/-- The first check of an identity block that fails, as state_reason; none when it is accepted (R403,
R409). -/
def State.identityReason (s : State) (k : Nat) (b : List Byte) : Option Nat :=
  let p := k / 12
  let crc := crc32c (b.take 252 ++ [0, 0, 0, 0] ++ b.drop 256)
  let kind := leAt b 3 1
  let rc := fun l => leAt b (36 + 4 * l) 4
  let slots := (s.bandSlots p).eraseDups
  if leAt b 0 2 ≠ 0x484B ∨ leAt b 2 1 ≠ 1 then some 4
  else if leAt b 252 4 ≠ crc then some 3
  else if identityBad b then some 4
  else if [1, 2, 3].any (fun l => decide (970000000 < rc l * leAt b 28 4)) then some 6
  else if (List.range 4).any (fun j => s.inMask p (4 * (k % 12) + j) && !bitAt (leAt b 24 1) j) then some 5
  else if slots.any (fun x => [1, 2, 3].any (fun l => decide (rc l < waveTime (s.wave p x) l))) then some 6
  else if (List.range 16).any (fun x => s.waveKind p x ≠ 0 && s.waveKind p x ≠ kind) then some 6
  else none

/-- The entry that the preload gives for a rank entry (R405). -/
def rankEntry (low high step : Nat) (r : Nat) : Nat :=
  let cls := field r 2 1
  let rm := if cls = 1 then low else if cls = 2 then high else mapIdentity
  let trim := signedOf 8 (r / 256) * step * 10
  rm + 256 * (r % 2) + 8192 + 65536 * patternOf 16 (clampInt (-32768) 32767 trim)

/-- The entry that the preload of R405 gives for a column, from the link's accepted block. -/
def State.preloadEntry (s : State) (p c : Nat) : Nat :=
  let k := linkOf p (c / 1024)
  rankEntry (s.on (Od.plane_firing.volume_remap_low p)) (s.on (Od.plane_firing.volume_remap_high p))
    (s.idf k 38 2) (leAt (s.link k).block (256 + 2048 * (c / 1024 % 4) + 2 * (c % 1024)) 2)

/-- A head with another serial: both halves of its four segments are preloaded, what was staged there is
discarded (R405, R475). -/
def State.preload (s : State) (k : Nat) : State :=
  let p := k / 12
  let c0 := 4096 * (k % 12)
  let mine := fun (c : Nat) => decide (c0 ≤ c) && decide (c < c0 + 4096)
  let keep := s.insp.force.filter (fun q => !(q.1 / 65536 = p && mine (q.1 % 65536)))
  let s := s.setInsp { s.insp with
    force := keep,
    groups := (s.insp.groups.map (fun g => if g.plane = p then
      { g with entries := g.entries.filter (fun e => !mine e.1), trimDue := g.trimDue.erase k,
               trimOut := g.trimOut.erase k, flips := g.flips.erase k } else g)).filter
      (fun g => !g.entries.isEmpty),
    runs := s.insp.runs.filter (fun q => !(q.1 / 65536 = p && mine (q.1 % 65536))) }
  let s := (List.range 4096).foldl (fun a i =>
    if a.blockFitted k (i / 1024) then a.setEntry p (c0 + i) (a.preloadEntry p (c0 + i)) else a) s
  ((s.setn (Od.map_status.staged_nozzles p) (s.stagedCount p)).countMap p)

/-- The map saved in flash comes back for a head that proves to carry the same serial (R473). -/
def State.restoreMap (s : State) (k : Nat) : State :=
  let p := k / 12
  let c0 := 4096 * (k % 12)
  let m := (s.insp.saved.toList.getD p []).filter (fun q => decide (c0 ≤ q.1) && decide (q.1 < c0 + 4096))
  (m.foldl (fun a q => a.setEntry p q.1 q.2) s).countMap p

/-- The slots and trims of a link are written (R403, R406): every waveform slot the head holds, and the trims
of the bank in use. -/
def State.loadLink (s : State) (k : Nat) : State :=
  let x := s.link k
  let n := leAt x.block 26 1
  let outs := (List.range n).map (fun i => (⟨x.ctlSeq + i, some i, 0, 0, 0⟩ : CtlOut))
  let s := s.setLink k { x with waiting := outs, ctlSeq := (x.ctlSeq + n) % 2 ^ 32, bank := 1 - x.bank }
  let s := s.writeTrims k
  s.setLink k { s.link k with bank := x.bank }

/-- An identity block is accepted (R403 to R405, R415). -/
def State.acceptIdentity (s : State) (k : Nat) (b : List Byte) : State :=
  let x := s.link k
  let serial := slice 8 16 b
  let saved := s.insp.savedSerial.toList.getD k []
  let s := s.setLink k { x with block := b, serial := serial, asm := [] }
  let s := s.setv (Od.head_link.head_serial k) (.bytes (serial.takeWhile (fun c => c ≠ 0)))
  let s := s.setn (Od.head_link.head_vendor_model k) (leAt b 4 2 + 65536 * leAt b 6 2)
  let s := (s.setn (Od.head_link.head_kind k) (leAt b 3 1)).setn (Od.head_link.head_latency_ns k) (leAt b 32 4)
  let s := (s.setn (Od.head_link.head_fire_limit_hz k) (leAt b 28 4)).setLinkState k 4 0
  let s := ((List.range 4).filter (fun j => !s.blockFitted k j)).foldl (fun a j => a.chanEvent (4 * k + j)) s
  let s := if x.serial = serial then s
    else if x.serial.isEmpty && saved = serial then s.restoreMap k
    else s.preload k
  let s := s.loadLink k
  if (s.link k).waiting.isEmpty then s.setLinkState k 5 0 else s

/-- A list with a part replaced from an offset. -/
def overlay {α : Type} (base : List α) (off : Nat) (part : List α) : List α :=
  base.take off ++ part ++ base.drop (off + part.length)

/-- The identity block assembled from its frames, when every byte has come (R388). -/
def assembled (parts : List (Nat × List Byte)) : Option (List Byte) :=
  if (parts.map (fun q => q.2.length)).foldl (· + ·) 0 < 8448 then none
  else
    let got := parts.foldl (fun b q => overlay b q.1 (q.2.map (fun _ => true))) (List.replicate 8448 false)
    if got.all id then some (parts.foldl (fun b q => overlay b q.1 q.2) (List.replicate 8448 0)) else none

/-- An IDENTITY frame arrives (R388, R401 to R403). -/
def execBackIdentity (t : Nat) (link : Fin 48) (offset : Nat) (data : List Byte) (s : State) :
    Host.Outcome State Fault Refusal :=
  let s := s.atTime t
  let k := link.val
  if s.linkState k ≠ 2 then ok s
  else if data.isEmpty ∨ 256 < data.length ∨ 8448 < offset + data.length then
    ok (s.inc32 (Od.head_link.back_frames_bad k))
  else
    let parts := (s.link k).asm ++ [(offset, data)]
    let s := s.setLink k { s.link k with asm := parts }
    match assembled parts with
    | none => ok s
    | some b =>
      match s.identityReason k b with
      | some r => ok (((s.setLink k { s.link k with asm := [] }).setLinkState k 3 r).linkEvent k)
      | none => ok (s.acceptIdentity k b)

/-- A group loses the trim changes it wanted on a link (R475). -/
def State.dropTrims (s : State) (k : Nat) : State :=
  let p := k / 12
  s.setInsp { s.insp with groups := s.insp.groups.map (fun g =>
    if g.plane = p ∧ (g.trimOut.contains k ∨ g.trimDue.contains k) then
      { g with
        trimOut := g.trimOut.erase k, trimDue := g.trimDue.erase k,
        entries := g.entries.map (fun e => if linkOf p (e.1 / 1024) = k then
          (e.1, e.2 % 65536 + 65536 * (s.mapEntry p e.1 / 65536)) else e) }
    else g) }

/-- The last TRIM_WRITE of a link is acknowledged: its group may switch (R469). -/
def State.trimsDone (s : State) (k : Nat) : State :=
  if (s.link k).waiting.any (fun w => w.slot.isNone) then s
  else s.setInsp { s.insp with groups := s.insp.groups.map (fun g =>
    if g.trimOut.contains k then { g with trimOut := g.trimOut.erase k, flips := g.flips ++ [k] } else g) }

/-- wave_loaded of a slot shows a link as acknowledged. -/
def State.slotLoaded (s : State) (k slot : Nat) : State :=
  let key := Od.waveform_slot.wave_loaded (16 * (k / 12) + slot)
  s.setn key (withBit (s.on key) (k % 12) true)

/-- A write is acknowledged as applied or refused (R396, R411, R415, R475). -/
def execBackAck (t : Nat) (link : Fin 48) (seq : Nat) (applied : Bool) (s : State) :
    Host.Outcome State Fault Refusal :=
  let s := s.atTime t
  let k := link.val
  let x := s.link k
  match x.waiting.find? (fun w => w.seq = seq) with
  | none => ok s
  | some w =>
    let s := s.setLink k { x with waiting := x.waiting.erase w,
                                  slots := match w.slot with
                                    | some i => if applied then x.slots ++ [i] else x.slots
                                    | none => x.slots }
    let s := match w.slot with
      | some i => if applied then s.slotLoaded k i else s
      | none => if applied then s.trimsDone k else s.dropTrims k
    if applied then
      if s.linkState k = 4 ∧ (s.link k).waiting.isEmpty then ok (s.setLinkState k 5 0) else ok s
    else if s.linkState k = 4 ∨ w.slot.isNone then
      ok ((s.setLink k { s.link k with waiting := [] }).setLinkState k 3 6)
    else ok s

/-- A back frame is bad: CRC, code or type error (R388, R439). -/
def execBackFrameBad (t : Nat) (link : Fin 48) (s : State) : Host.Outcome State Fault Refusal :=
  ok ((s.atTime t).inc32 (Od.head_link.back_frames_bad link))

/-- A back channel has delivered no valid STATUS for 500 µs (R400, R415). -/
def execBackChannelSilent (t : Nat) (link : Fin 48) (s : State) : Host.Outcome State Fault Refusal :=
  let s := s.atTime t
  let ls := s.linkState link
  if ls = 2 ∨ ls = 4 ∨ ls = 5 ∨ ls = 6 then ok (s.linkDown link) else ok s

/-- The identity block is incomplete 10 ms after IDENTIFY (R415). -/
def execIdentifyTimeout (t : Nat) (link : Fin 48) (s : State) : Host.Outcome State Fault Refusal :=
  let s := s.atTime t
  if s.linkState link = 2 then ok ((s.setLinkState link 3 2).linkEvent link) else ok s

/-- A write of LOADING is unacknowledged 10 ms after its EOF (R415). -/
def execLoadWriteTimeout (t : Nat) (link : Fin 48) (s : State) : Host.Outcome State Fault Refusal :=
  let s := s.atTime t
  if s.linkState link = 4 then
    ok ((s.setLink link { s.link link with waiting := [] }).setLinkState link 3 6)
  else ok s

/-! ### Drop counters (R427, R428) -/

/-- Objects of a channel that the drop checkpoint keeps. -/
def chanKeys (ch : Nat) : List Nat :=
  (List.range 12).map (fun i => Od.firing_channel.drops_demanded ch + i)

/-- A 64-bit count raised by an integer. -/
def State.addCount (s : State) (k : Nat) (i : Int) : State :=
  s.setn k (patternOf 64 (s.oi k + i))

/-- A channel adds what it has accumulated into the counter table (R427). -/
def State.accumulate (s : State) (ch : Nat) : State :=
  match kvGet s.fire.acc ch with
  | none => s
  | some a =>
    let p := ch / 48
    let mine := fun (k : Nat) => k / 65536 = p && chanOf p (k % 65536) = ch
    let f := { s.fire with
      acc := kvDel s.fire.acc ch,
      nozzles := s.fire.nozzles.map (fun q => if mine q.1 then
        (q.1, { q.2 with fired := patternOf 64 (q.2.fired + q.2.newFired),
                         supp := patternOf 64 (q.2.supp + q.2.newSupp), newFired := 0, newSupp := 0 })
        else q) }
    let s := s.setFire f
    let sup := a.supp.toList
    let s := s.addCount (Od.firing_channel.drops_demanded ch) a.demanded
    let s := s.addCount (Od.firing_channel.drops_fired ch) a.fired
    let s := s.addCount (Od.firing_channel.drops_suppressed ch) (sup.foldl (· + ·) 0 : Nat)
    let s := (List.range 6).foldl (fun b i =>
      b.addCount (Od.firing_channel.supp_gated ch + i) (sup.getD i 0 : Nat)) s
    (s.addCount (Od.firing_channel.drops_spit ch) a.spit).addCount
      (Od.firing_channel.drops_level_clamped ch) a.clamped

/-- A firing channel accumulates (R427). -/
def execDropCountAccumulate (t : Nat) (ch : Fin 192) (s : State) : Host.Outcome State Fault Refusal :=
  ok ((s.atTime t).accumulate ch)

/-- Objects of both Beam Engine units that the drop checkpoint keeps (R539). -/
def beamCountKeys : List Nat :=
  [0, 1].flatMap (fun b => (List.range 5).map (fun i => Od.beam_unit_status.pixels_demanded b + i))

/-- The whole counter table is in flash (R428). -/
def State.dropCheckpoint (s : State) : State :=
  let ks := (List.range 192).flatMap chanKeys ++ beamCountKeys
  let s := s.setFire { s.fire with
    ckptVals := (s.od.vals.filter (fun q => ks.contains q.1)),
    ckptNozzles := s.fire.nozzles.map (fun q => (q.1, q.2.fired, q.2.supp)) }
  let s : State := { s with power := { s.power with dropTime := s.time } }
  (s.setn Od.drop_checkpoint.checkpoint_time s.time).inc64 Od.drop_checkpoint.checkpoints_written

/-- The counter table is to be written to flash (R428); `complete` is false when it was not complete within 1 s. -/
def execDropCheckpoint (t : Nat) (complete : Bool) (s : State) : Host.Outcome State Fault Refusal :=
  let s := s.atTime t
  if complete = false ∨ s.warned = true then ok (s.inc32 Od.drop_checkpoint.checkpoint_failures)
  else ok s.dropCheckpoint

/-- counts_reset of a firing channel: its totals and its nozzles' counters are 0 at one instant, and its
validity EXACT (R428). -/
def State.resetChannel (s : State) (ch : Nat) : State :=
  let p := ch / 48
  let mine := fun (k : Nat) => k / 65536 = p && chanOf p (k % 65536) = ch
  let s := s.setFire { s.fire with
    acc := kvDel s.fire.acc ch,
    nozzles := s.fire.nozzles.map (fun q => if mine q.1 then
      (q.1, { q.2 with fired := 0, supp := 0, newFired := 0, newSupp := 0 }) else q) }
  (chanKeys ch).foldl (fun a k => a.setn k 0) s

end Sys2Proof.Machine
end

