-- ==== Sys2Proof/Machine/Beam.lean ====
section
/-! DEFINITION. The Beam Engine (spec/14): polygon lock, the line each facet carries, scans and their counts, and
the unit states. -/

namespace Sys2Proof.Machine

/-- A unit enters a state with a reason: its outputs and BEAM_STATE (R543, R546). -/
def State.unitEnter (s : State) (b st reason : Nat) : State :=
  let x := s.unit b
  let s := s.setUnit b { x with laserEn := decide (st = 2) && !x.ilkLow }
  let s := (s.setn (Od.beam_unit_status.unit_state b) st).setn (Od.beam_unit_status.state_reason b) reason
  s.event 0x5000 (leBytes 1 b ++ leBytes 1 st ++ leBytes 1 reason)

/-! ### The pixel clock -/

/-- f_VCO of a synthesizer in units of 2^-24 Hz. -/
def State.vco24 (s : State) (p : Nat) : Nat :=
  s.on (Od.pll.pll_pfd_hz p) * (s.on (Od.pll.pll_n_int p) * 2 ^ 24 + s.on (Od.pll.pll_fraction p))

/-- Frequency of an output in Hz as a fraction, 0 while it gives no clock (R101, R118). -/
def State.outFreq (s : State) (k : Nat) : Frac :=
  let p := k / 8
  let st := s.on (Od.pll.pll_state p)
  if s.ob (Od.clock_out.out_enable k) = false ∨ st = 0 ∨ (s.clk.plls.toList.getD p ⟨0, 1, none, true, 0⟩).gated then
    ⟨0, 1⟩
  else ⟨(s.vco24 p : Int), 2 ^ 24 * max 1 (s.on (Od.clock_out.out_divider k))⟩

/-- The pixel clock of a unit: PIX0 or PIX1 (R531). -/
def State.pixClock (s : State) (b : Nat) : Frac := s.outFreq (24 + b)

/-- PLL_PIX is locked, also through a glide, and not gated (R107, R112, R532). -/
def State.pixLocked (s : State) : Bool :=
  let st := s.on (Od.pll.pll_state 3)
  (st = 2 || st = 3) && !(s.clk.plls.toList.getD 3 ⟨0, 1, none, true, 0⟩).gated

/-- A number of pixel periods in half nanoseconds, rounded down; without a clock, 0. -/
def State.pixels2 (s : State) (b n : Nat) : Nat :=
  let f := s.pixClock b
  if f.num ≤ 0 then 0 else n * 2000000000 * f.den / f.num.toNat

/-! ### Facets -/

/-- Facets of a unit's polygon. -/
def State.facets (s : State) (b : Nat) : Nat := max 1 (s.on (Od.beam_unit_config.polygon_facets b))

/-- The last F intervals of beam detect, as a sum in half nanoseconds; none before as many have come. -/
def State.facetSum (s : State) (b : Nat) : Option Nat :=
  let l := (s.unit b).bd
  match l[0]?, l[s.facets b]? with
  | some x, some y => some (x - y)
  | _, _ => none

/-- The mean facet period in half nanoseconds as a fraction (R532). -/
def State.facetMean (s : State) (b : Nat) : Frac :=
  match s.facetSum b with
  | some d => ⟨(d : Int), s.facets b⟩
  | none => ⟨0, 1⟩

/-- Offset of the reference instant of a facet after its beam detect, in half nanoseconds (R533). -/
def State.refOffset (s : State) (b : Nat) : Nat :=
  s.pixels2 b (s.on (Od.beam_unit_config.scan_start_px b) + s.on (Od.beam_unit_config.scan_pixels b) / 2)

/-- X̂, the predicted position of the next facet (R533). -/
def State.facetPos (s : State) (b : Nat) : Frac :=
  fracAdd s.web.x (fracMul (fracMul s.velPs 1 2) ((s.facetMean b).num + (s.refOffset b) * (s.facetMean b).den)
    (s.facetMean b).den)

/-- h, half the travel of a facet (R534). -/
def State.halfTravel (s : State) (b : Nat) : Frac :=
  fracMul (fracMul s.velPs 1 4) (s.facetMean b).num (s.facetMean b).den

/-- The configuration conflict GEOMETRY (R530). -/
def State.geometryBad (s : State) (b : Nat) : Bool :=
  let n := s.on (Od.beam_unit_config.scan_pixels b)
  decide (49152 < s.on (Od.beam_unit_config.scan_first_column b) + n) ||
  (match s.facetSum b with
   | none => false
   | some d => decide (d < s.facets b * (s.pixels2 b (s.on (Od.beam_unit_config.scan_start_px b) + n) + 2000)))

/-! ### Scans -/

/-- Scan pixels of line n with a nonzero level, by scan position (R529). -/
def State.scanPixels (s : State) (b : Nat) (n : Int) : List (Nat × Nat) :=
  let w := s.on (Od.beam_unit_config.scan_pixels b)
  let a := s.on (Od.beam_unit_config.scan_first_column b)
  let px := (s.livePixels (4 + b) n).filter (fun q => decide (a ≤ q.1) && decide (q.1 < a + w))
  if s.ob (Od.beam_unit_config.scan_reverse b) then
    (px.map (fun q => (w - 1 - (q.1 - a), q.2))).reverse
  else px.map (fun q => (q.1 - a, q.2))

/-- Power values of the three levels (R538). -/
def State.scanPower (s : State) (b : Nat) : Nat × Nat × Nat :=
  if s.on (Od.beam_unit_config.power_mode b) = 1 then
    let p := s.on (Od.beam_unit_config.power_fixed b)
    (p, p, p)
  else
    let w := s.on (Od.beam_unit_config.power_table b)
    (field w 11 0, field w 27 16, field w 43 32)

/-- Columns of scan positions, for the charge to items (R535, R539). -/
def State.scanColumn (s : State) (b k : Nat) : Nat :=
  let a := s.on (Od.beam_unit_config.scan_first_column b)
  if s.ob (Od.beam_unit_config.scan_reverse b) then a + (s.on (Od.beam_unit_config.scan_pixels b) - 1 - k)
  else a + k

/-- Pixels of a line charged to its open items (R380, R535). -/
def State.chargeScan (s : State) (b : Nat) (l : ScanLine) (limited : Bool) : State :=
  l.owners.foldl (fun a q =>
    a.chargeItem q ((l.pixels.filter (fun x =>
      (a.charged (4 + b) (a.scanColumn b x.1) [q]).isEmpty = false)).length) limited) s

/-- `n` demanded pixels, emitted or suppressed as gated (R539). A standby keeps them until the active's
last_fired covers the line (R695); a device in no such state counts none. -/
def State.countPixels (s : State) (b : Nat) (line : Int) (n : Nat) (emitted : Bool) : State :=
  if s.pairActive then
    let s := s.bump (Od.beam_unit_status.pixels_demanded b) 64 n
    if emitted then s.bump (Od.beam_unit_status.pixels_emitted b) 64 n
    else s.bump (Od.beam_unit_status.supp_gated b) 64 n
  else if s.pairState = 4 then
    { s with beam := { s.beam with shadow := s.beam.shadow ++ [(b, line, n, emitted)] } }
  else s

/-- Counts the pixels of the scan in progress whose period has begun by an instant in half nanoseconds, or all
of them (R539). -/
def State.settleScan (s : State) (b : Nat) (upTo : Option Nat) : State :=
  let x := s.unit b
  match x.scan with
  | none => s
  | some l =>
    let begun := fun (k : Nat) => match upTo with
      | none => true
      | some t2 => decide (l.at2 + s.pixels2 b (s.on (Od.beam_unit_config.scan_start_px b) + k) ≤ t2)
    let px := l.pixels.filter (fun q => begun q.1)
    let s := s.setUnit b { x with scan := none }
    if l.late then s
    else
      let s := s.countPixels b l.n px.length (!(l.held || l.dark))
      if l.held || l.dark then s.chargeScan b { l with pixels := px } false else s

/-- Lock is lost: the scan is cut, LASER_EN and LASER_GATE go low, and the items that print close (R544). -/
def State.unlock (s : State) (b reason : Nat) : State :=
  let x := s.unit b
  let s := s.setUnit b { x with good := 0, bad := 0 }
  if s.unitState b ≠ 2 then s
  else
    let s := s.settleScan b (some (2 * s.now))
    let s := s.setUnit b { s.unit b with next := none }
    let s := (s.unitEnter b 3 reason).inc32 (Od.beam_unit_status.lock_losses b)
    if s.pairActive then
      s.disposeAll (fun it => it.state = 2 && (it.spans.toList.getD (4 + b) none).isSome) 6 8
    else s

/-- PIX0 and PIX1 are gated low: the units lose lock (R110, R532). -/
def State.pixelClockLost (s : State) : State := (s.unlock 0 3).unlock 1 3

/-- The unit is enabled: WAIT_LOCK, or CONFLICT at once where its columns leave the ring (R530, R543). -/
def State.unitWait (s : State) (b : Nat) : State :=
  let s := s.unitEnter b 1 0
  if s.geometryBad b then s.unitEnter b 4 4 else s

/-- beam_enable or the configuration of a unit has been taken (R543). -/
def State.unitConfigured (s : State) (b : Nat) (enableWritten : Bool) : State :=
  let st := s.unitState b
  if s.ob (Od.beam_unit_config.beam_enable b) = false then
    if st = 0 ∨ st = 5 then s
    else
      let s := s.settleScan b none
      (s.setUnit b { s.unit b with next := none, good := 0 }).unitEnter b 0 0
  else if st = 0 ∧ enableWritten then s.unitWait b
  else if st = 4 then s.unitWait b
  else s

/-- The safe state stands: outputs low, the unit in SAFE (R541). -/
def State.unitSafe (s : State) (b : Nat) : State :=
  if s.unitState b = 5 then s
  else
    let s := s.settleScan b (some (2 * s.now))
    (s.setUnit b { s.unit b with next := none, good := 0, bad := 0 }).unitEnter b 5 0

/-! ### Selection -/

/-- A skipped line: its pixels are demanded and suppressed, and count towards the limit (R535). -/
def State.skipScan (s : State) (b : Nat) (n : Int) : State :=
  let own := (s.owners (4 + b) n).map (fun it => it.seq)
  let px := if s.oi (Od.compose_ring.couch_frontier (4 + b)) < n then [] else s.scanPixels b n
  let l : ScanLine :=
    { n := n, pixels := px, held := false, late := false, owners := own, power := (0, 0, 0), dark := false,
      at2 := 0 }
  let s := if s.pairActive then
      (s.bump (Od.beam_unit_status.pixels_demanded b) 64 px.length).bump
        (Od.beam_unit_status.supp_tick_ceiling b) 64 px.length
    else s
  (s.inc64 (Od.beam_unit_status.lines_skipped b)).chargeScan b l true

/-- Selects and fetches the line for the next facet (R534, R536, R540). -/
def State.selectLine (s : State) (b : Nat) : State :=
  let r := 4 + b
  let xh := s.facetPos b
  let m := s.lineAt b (fracAdd xh (s.halfTravel b))
  let g := s.grid r
  if m < g.nextLine then
    (s.setUnit b { s.unit b with next := none }).inc64 (Od.beam_unit_status.scans_blank b)
  else
    let k := (m - g.nextLine).toNat
    let s := (List.range k).foldl (fun a i => a.skipScan b (g.nextLine + i)) s
    let s := if k = 0 then s else s.event 0x5001 (leBytes 1 b ++ leBytes 4 k)
    let late := decide (s.oi (Od.compose_ring.couch_frontier r) < m)
    let held := decide (s.gateMask r ≠ 0)
    let own := s.owners r m
    let l : ScanLine :=
      { n := m, pixels := if late then [] else s.scanPixels b m, held := held, late := late && !held,
        owners := own.map (fun it => it.seq), power := s.scanPower b, dark := false, at2 := 0 }
    let err := (fracRound (fracSub xh (Frac.ofInt (s.tickPos r m)))).natAbs
    let s := s.setGrid r { g.slide with nextLine := m + 1 }
    let s := s.setUnit b { s.unit b with next := some l }
    let s := s.setn (Od.beam_unit_status.placement_error_max_ps b)
      (min 65535 (max (s.on (Od.beam_unit_status.placement_error_max_ps b)) err))
    let s := s.setItems (s.lane.items.map (fun it =>
      if own.any (fun o => o.seq = it.seq) && it.state = 1 then { it with state := 2 } else it))
    let s := if held && s.pairActive then
        let s := (List.range 10).foldl (fun a gt =>
          if bitAt (a.gateMask r) gt then
            a.setFire { a.fire with gateHeld := bumpVec a.fire.gateHeld gt 1 } else a) s
        (openOwners own).foldl (fun a it => a.dispose it.seq 5 0) s
      else s
    if late && !held && s.pairActive then
      let hit := openOwners own
      let s := hit.foldl (fun a it => a.dispose it.seq 6 1) s
      if hit.isEmpty then s else (s.setReason 4 true).rampCheck
    else s

/-- The scan of the selected line begins with its facet (R529, R539). -/
def State.beginScan (s : State) (b t2 : Nat) : State :=
  let x := s.unit b
  match x.next with
  | none => s
  | some l =>
    let l := { l with at2 := t2, dark := x.ilkLow }
    let s := s.setUnit b { x with next := none, scan := some l }
    let s := s.inc64 (Od.beam_unit_status.scans_emitted b)
    if l.held ∨ l.late ∨ l.dark ∨ s.pairActive = false then s
    else
      let coast := decide (s.trk = 5)
      s.setItems (s.lane.items.map (fun it =>
        if l.owners.contains it.seq && it.inFlight then it.lineFired (4 + b) coast else it))

/-- The interval of a beam detect lies within the tolerance of the mean of the F intervals before it; none
before as many have come (R532). -/
def State.intervalOk (s : State) (b : Nat) (t2 : Nat) : Option Bool :=
  match s.facetSum b with
  | none => none
  | some d =>
    let l := (s.unit b).bd.headD 0
    let iv := (t2 - l) * s.facets b
    let off := if d ≤ iv then iv - d else d - iv
    some (decide (off * 1000000 ≤ s.on (Od.beam_unit_config.bd_tolerance_ppm b) * d))

/-- Records a beam detect and the run of intervals inside and outside the tolerance (R531, R532). -/
def State.noteBd (s : State) (b t2 : Nat) : State :=
  let x := s.unit b
  let y := match s.intervalOk b t2 with
    | none => { x with good := 0, bad := 0 }
    | some true => { x with good := x.good + 1, bad := 0 }
    | some false => { x with good := 0, bad := x.bad + 1 }
  let s := s.setUnit b { y with bd := (t2 :: x.bd).take 34 }
  s.setn (Od.beam_unit_status.facet_period_ns b)
    (match s.facetSum b with
     | some d => d / (2 * s.facets b)
     | none => 0)

/-- A beam detect of a unit in EMITTING: lock is lost after two intervals outside the tolerance, and otherwise
the facet's scan begins and the next line is selected (R532, R534). -/
def State.bdEmitting (s : State) (b t2 : Nat) : State :=
  if 2 ≤ (s.unit b).bad then s.unlock b 2
  else (((s.beginScan b t2).selectLine b).lookCheck).advise

/-- A beam detect of a unit in another state: lines pass, and the unit begins to emit when it has locked (R532,
R543, R544). -/
def State.bdWaiting (s : State) (b : Nat) : State :=
  let s := s.beamIdle b (fracAdd (s.facetPos b) (s.halfTravel b))
  let s := if s.unitState b = 1 ∧ s.geometryBad b = true then s.unitEnter b 4 4 else s
  if (s.unitState b = 1 ∨ s.unitState b = 3) ∧ 2 * s.facets b ≤ (s.unit b).good ∧ s.pixLocked = true then
    (s.unitEnter b 2 0).advise
  else s

/-- The scan in progress ends with its facet: the line passes. -/
def State.endScan (s : State) (b : Nat) : State :=
  match (s.unit b).scan with
  | some l => (s.settleScan b none).passBeam b l.n
  | none => s

/-- A qualified beam-detect edge (R531 to R536, R543). `half`: the half nanosecond of its stamp. -/
def runBdEdge (t : Nat) (unit : Fin 2) (rising half : Bool) (s : State) : Host.Outcome State Fault Refusal :=
  let s := (s.atTime t).moveX
  let b := unit.val
  if decide (s.on (Od.beam_unit_config.bd_edge b) = 0) ≠ rising then ok s
  else
    let delay := ceilDiv (s.on (Od.beam_unit_config.bd_filter_ns b)) 4 * 4
    let t2 := 2 * s.now + b2n half - 2 * delay
    let s := (s.endScan b).noteBd b t2
    let s := (s.applyLine (4 + b)).unitConfigured b false
    ok (if s.unitState b = 2 then s.bdEmitting b t2 else s.bdWaiting b)

/-- No beam detect arrives within 1.5 mean intervals (R532). -/
def execBdTimeout (t : Nat) (unit : Fin 2) (s : State) : Host.Outcome State Fault Refusal :=
  let s := (s.atTime t).moveX
  let b := unit.val
  match s.facetSum b with
  | some d =>
    let l := (s.unit b).bd.headD 0
    if 2 * s.facets b * (2 * s.now - l) ≤ 3 * d then ok s
    else
      let s := s.unlock b 1
      ok ((s.setUnit b { s.unit b with bd := [] }).beamIdle b s.web.x)
  | none => ok (s.beamIdle b s.web.x)

/-- LASER_ILK_N goes low: LASER_EN and LASER_GATE are held low, and a scan in progress is cut (R528, R539). -/
def execLaserIlkLow (t : Nat) (unit : Fin 2) (s : State) : Host.Outcome State Fault Refusal :=
  let s := s.atTime t
  let b := unit.val
  let s := s.settleScan b (some (2 * s.now))
  ok (s.setUnit b { s.unit b with ilkLow := true, laserEn := false })

/-- counts_reset of a unit (R428, R548). -/
def State.beamReset (s : State) (b : Nat) : State :=
  [Od.beam_unit_status.scans_emitted b, Od.beam_unit_status.scans_blank b, Od.beam_unit_status.lines_skipped b,
    Od.beam_unit_status.pixels_demanded b, Od.beam_unit_status.pixels_emitted b,
    Od.beam_unit_status.supp_gated b, Od.beam_unit_status.supp_tick_ceiling b,
    Od.beam_unit_status.count_validity b].foldl (fun a k => a.setn k 0) s

end Sys2Proof.Machine
end

