-- ==== Sys2Proof/Machine/Pixels.lean ====
section
/-! DEFINITION. Pixel arithmetic of the image pipeline on plain lists of lines: raw samples, corrections,
crops, binning and statistics (R490, R504 to R509, R515). -/

namespace Sys2Proof.Machine

/-- RAW10 bytes to samples, four to five bytes, before scaling (R487). -/
def raw10 : List Byte → List Nat
  | a :: b :: c :: d :: e :: r =>
    let l := e.toNat
    (a.toNat * 4 + l % 4) :: (b.toNat * 4 + l / 4 % 4) :: (c.toNat * 4 + l / 16 % 4) ::
      (d.toNat * 4 + l / 64) :: raw10 r
  | _ => []

/-- RAW12 bytes to samples, two to three bytes. -/
def raw12 : List Byte → List Nat
  | a :: b :: c :: r =>
    (a.toNat * 16 + c.toNat % 16) :: (b.toNat * 16 + c.toNat / 16) :: raw12 r
  | _ => []

/-- The 12-bit samples of a long packet of a data type (R490). -/
def rawSamples (dt : Nat) (bs : List Byte) : List Nat :=
  if dt = 0x2A then bs.map (fun b => b.toNat * 16)
  else if dt = 0x2B then (raw10 bs).map (fun v => v * 4)
  else raw12 bs

/-- Bits of a pixel of a data type. -/
def rawBits (dt : Nat) : Nat := if dt = 0x2A then 8 else if dt = 0x2B then 10 else 12

/-- A sample of a frame. -/
def px (g : List (List Nat)) (x y : Nat) : Nat := (g.getD y []).getD x 0

/-- Every sample of a frame replaced by a function of column, line and sample. -/
def mapGrid (f : Nat → Nat → Nat → Nat) (g : List (List Nat)) : List (List Nat) :=
  g.zipIdx.map (fun r => r.1.zipIdx.map (fun p => f p.2 r.2 p.1))

/-- The pixels of a defect table (R505). -/
def defectPixels : List Byte → List (Nat × Nat)
  | a :: b :: c :: d :: r => (leNat [a, b], leNat [c, d]) :: defectPixels r
  | _ => []

/-- A listed pixel takes the mean of its horizontal neighbours that are not themselves listed (R505);
where neither can serve it stays. -/
def fixListed (tab : List (Nat × Nat)) (w : Nat) (g : List (List Nat)) : List (List Nat) :=
  if tab.isEmpty then g
  else mapGrid (fun x y v =>
    if tab.contains (x, y) then
      let l := if x = 0 ∨ tab.contains (x - 1, y) then [] else [px g (x - 1) y]
      let r := if w ≤ x + 1 ∨ tab.contains (x + 1, y) then [] else [px g (x + 1) y]
      let n := l ++ r
      if n.isEmpty then v else (roundDiv (n.sum : Nat) n.length).toNat
    else v) g

/-- Inserts into a rising list. -/
def insertNat (v : Nat) : List Nat → List Nat
  | [] => [v]
  | x :: xs => if v ≤ x then v :: x :: xs else x :: insertNat v xs

/-- The median of four, as the mean of the middle two. -/
def medianOf4 (l : List Nat) : Nat :=
  let s := l.foldl (fun a v => insertNat v a) []
  (roundDiv (s.getD 1 0 + s.getD 2 0 : Nat) 2).toNat

/-- A pixel that stands out from its four neighbours by more than the threshold in one direction takes
their median (R505). Pixels of the frame's edge have no four neighbours and stay. -/
def fixDynamic (th w h : Nat) (g : List (List Nat)) : List (List Nat) :=
  if th = 0 then g
  else mapGrid (fun x y v =>
    if x = 0 ∨ y = 0 ∨ w ≤ x + 1 ∨ h ≤ y + 1 then v
    else
      let n := [px g (x - 1) y, px g (x + 1) y, px g x (y - 1), px g x (y + 1)]
      if n.all (fun q => decide (q + th < v)) || n.all (fun q => decide (v + th < q)) then medianOf4 n
      else v) g

/-- The gain map on a frame: 33 by 33 gains at equal spacing, interpolated bilinearly (R506). -/
def shade (tab : List Byte) (w h : Nat) (g : List (List Nat)) : List (List Nat) :=
  if tab.isEmpty then g
  else
    let gain := fun (i j : Nat) => leAt tab (2 * (33 * j + i)) 2
    let dx := w - 1
    let dy := h - 1
    mapGrid (fun x y v =>
      let i := if dx = 0 then 0 else x * 32 / dx
      let j := if dy = 0 then 0 else y * 32 / dy
      let fx := if dx = 0 then 0 else x * 32 % dx
      let fy := if dy = 0 then 0 else y * 32 % dy
      let ex := max 1 dx
      let ey := max 1 dy
      let a := gain i j * (ex - fx) + gain (min 32 (i + 1)) j * fx
      let b := gain i (min 32 (j + 1)) * (ex - fx) + gain (min 32 (i + 1)) (min 32 (j + 1)) * fx
      min 4095 (roundDiv (v * (a * (ey - fy) + b * fy) : Nat) (16384 * ex * ey)).toNat) g

/-- Temporal noise reduction: a blend with the previous frame (R507); an empty previous frame restarts it. -/
def blend (wt : Nat) (prev g : List (List Nat)) : List (List Nat) :=
  if prev.isEmpty then g
  else mapGrid (fun x y v => (roundDiv (v * (16 - wt) + px prev x y * wt : Nat) 16).toNat) g

/-- The tone curve: linear between 65 points (R508). -/
def tone (tab : List Byte) (g : List (List Nat)) : List (List Nat) :=
  if tab.isEmpty then g
  else
    let pt := fun (i : Nat) => leAt tab (2 * i) 2
    mapGrid (fun _ _ v =>
      let i := min 63 (v / 64)
      let d := if i = 63 then 63 else 64
      (roundDiv (pt i * (d - (v - 64 * i)) + pt (i + 1) * (v - 64 * i) : Nat) d).toNat) g

/-- A crop object on a frame of w by h: x, y, width, height (R509). -/
def cropOf (c w h : Nat) : Nat × Nat × Nat × Nat :=
  let x := c % 65536
  let y := c / 2 ^ 16 % 65536
  let cw := c / 2 ^ 32 % 65536
  let ch := c / 2 ^ 48 % 65536
  (x, y, if cw = 0 then w - x else cw, if ch = 0 then h - y else ch)

/-- The crop leaves the frame (R509). -/
def cropBad (c w h : Nat) : Bool :=
  decide (w < c % 65536 + c / 2 ^ 32 % 65536) || decide (h < c / 2 ^ 16 % 65536 + c / 2 ^ 48 % 65536) ||
  decide (w ≤ c % 65536) || decide (h ≤ c / 2 ^ 16 % 65536)

/-- The crop of any list of lines. -/
def cropGrid (c w h : Nat) (g : List (List Nat)) : List (List Nat) :=
  let q := cropOf c w h
  ((g.drop q.2.1).take q.2.2.2).map (fun l => (l.drop q.1).take q.2.2.1)

/-- Factor of a binning code. -/
def binFactor (code : Nat) : Nat := if code % 4 = 0 then 1 else if code % 4 = 1 then 2 else 4

/-- Binning: the mean of each block, halves up; an incomplete last block is dropped (R509). -/
def binGrid (code : Nat) (g : List (List Nat)) : List (List Nat) :=
  let bx := binFactor code
  let bz := binFactor (code / 4)
  let w := (g.headD []).length / bx
  (List.range (g.length / bz)).map (fun j => (List.range w).map (fun i =>
    let s := ((List.range bz).map (fun v => ((List.range bx).map (fun u =>
      px g (bx * i + u) (bz * j + v))).sum)).sum
    (roundDiv (s : Nat) (bx * bz)).toNat))

/-- A 12-bit value at a lower precision: rounded, held at the greatest (R511). -/
def toBits (bits v : Nat) : Nat := min (2 ^ bits - 1) (roundDiv (v : Nat) (2 ^ (12 - bits))).toNat

/-- Sample bytes of lines (R306). -/
def sampleBytes (bits : Nat) (g : List (List Nat)) : List Byte :=
  g.flatMap (fun l => l.flatMap (fun v => leBytes (if bits = 8 then 1 else 2) v))

/-- The statistics of samples with their place in the crop: histogram, zone means, pixel count, saturated,
minimum, maximum (R515). `cells`: column, line, sample at tap T1, sample as received. -/
def statBlock (w h : Nat) (cells : List (Nat × Nat × Nat × Nat)) : List Byte :=
  let bins := (List.range 64).map (fun b => (cells.filter (fun c => c.2.2.1 / 64 = b)).length)
  let zone := fun (k n : Nat) => if n / 4 = 0 then 3 else min 3 (k / (n / 4))
  let means := (List.range 16).map (fun z =>
    let m := cells.filter (fun c => 4 * zone c.2.1 h + zone c.1 w = z)
    if m.isEmpty then 0 else (roundDiv ((m.map (fun c => c.2.2.1)).sum : Nat) m.length).toNat)
  let vs := cells.map (fun c => c.2.2.1)
  bins.flatMap (fun n => leBytes 4 n) ++ means.flatMap (fun n => leBytes 2 n) ++ leBytes 4 cells.length ++
  leBytes 4 (cells.filter (fun c => c.2.2.2 = 4095)).length ++ leBytes 2 ((vs.min?).getD 0) ++
  leBytes 2 ((vs.max?).getD 0) ++ leBytes 4 0

end Sys2Proof.Machine
end

