-- ==== Sys2Proof/Machine/Image.lean ====
section
/-! DEFINITION. Camera ports, settings sets and the image pipeline (spec/13): frames and their attribution,
sensor windows, corrections, streams, and the broken frames of R517. -/

namespace Sys2Proof.Machine

/-! ### Settings sets -/

/-- An object of Applies frame that a settings set of camera c holds (R11, R499). -/
def camFrameKey (c k : Nat) : Bool :=
  (match odRow k with | some r => decide (r.app = 3) | none => false) &&
  (k / 256 = 0x4C20 + c || k / 256 = 0x4C30 + c || k / 256 = 0x4C40 + c || k / 256 = 0x4810 + c ||
    k / 256 = 0x4800)

/-- The values of the frame objects of a camera in the object store. -/
def State.camVals (s : State) (c : Nat) : List (Nat × OVal) := s.od.vals.filter (fun p => camFrameKey c p.1)

/-- A number in a list of values. -/
def valI (vals : List (Nat × OVal)) (k : Nat) : Nat := ((kvGet vals k).getD (odDefault k)).toInt.toNat

/-- A byte string in a list of values. -/
def valB (vals : List (Nat × OVal)) (k : Nat) : List Byte := ((kvGet vals k).getD (odDefault k)).toBytes

/-- The set in force of a camera: the one armed last, or the values at boot under id 0. -/
def State.inForce (s : State) (c : Nat) : CamSet := (s.cam c).sets.headD ⟨0, 0, none, s.camVals c⟩

/-- The set that governs a frame whose exposure starts at e: the last armed strictly before it (R503). -/
def State.setFor (s : State) (c e : Nat) : CamSet :=
  let l := (s.cam c).sets
  match l.find? (fun x => decide (x.armed < e)) with
  | some x => x
  | none => l.getLastD ⟨0, 0, none, s.camVals c⟩

/-- The next settings_set_id: U16, skipping 0 (R499). -/
def nextSetId (n : Nat) : Nat := if (n + 1) % 65536 = 0 then 1 else (n + 1) % 65536

/-- The port runs. -/
def State.portRuns (s : State) (c : Nat) : Bool := s.on (Od.csi_port.port_state c) = 1

/-- Bus time of a sensor list in ns: one write transaction for each entry, a wait for address 16#FFFF (R497,
R498). -/
def listTime (bitNs bytes : Nat) : List Byte → Nat
  | a :: b :: c :: d :: r =>
    (if a = 0xFF ∧ b = 0xFF then leNat [c, d] * 1000 else (9 * bytes + 2) * bitNs) + listTime bitNs bytes r
  | _ => 0

/-- Transfer time of a camera's list in ns. -/
def State.transferNs (s : State) (c : Nat) (l : List Byte) : Nat :=
  let sp := s.on (Od.camera_sensor.i2c_speed c)
  listTime (if sp = 0 then 10000 else if sp = 1 then 2500 else 1000)
    (1 + s.on (Od.camera_sensor.i2c_reg_bytes c) + s.on (Od.camera_sensor.i2c_data_bytes c)) l

/-- Positions at which pulses of a camera are to come (R78, R458). -/
def State.comingPulses (s : State) (c : Nat) : List Frac :=
  ((s.lane.items.filter (fun it => it.inFlight && it.servCams.contains c && !it.camDone.contains c)).map
    (fun it => s.camPos c it)) ++
  ((s.insp.bars.filter (fun q => bitAt q.2.cams c && !q.2.camDone.contains c)).map
    (fun q => s.barPos q.1 c q.2))

/-- No issued trigger of the camera waits for its Frame End (R500). -/
def State.noFrame (s : State) (c : Nat) : Bool := (s.cam c).queue.isEmpty && (s.cam c).frame.isNone

/-- A sensor window for a transfer of that many ns (R500). -/
def State.sensorWindow (s : State) (c ns : Nat) : Bool :=
  s.noFrame c && (s.comingPulses c).all (fun x => fracLe (fracAdd s.web.x (fracMul s.velPs ((ns + 100000 : Nat) : Int) 1)) x)

/-- The waiting list begins to be sent when a sensor window stands; in the first interval without a frame
once 100 ms have passed; at once on a port that does not run (R500, R501, R518). -/
def State.trySend (s : State) (c : Nat) : State :=
  let x := s.cam c
  match x.wait with
  | none => s
  | some w =>
    if w.sendFrom.isSome then s
    else
      let go := !s.portRuns c || (w.late && s.noFrame c) ||
        s.sensorWindow c (s.transferNs c (valB w.vals (Od.camera_sensor.sensor_writes c)))
      if go then s.setCam c { x with wait := some { w with sendFrom := some s.now } } else s

/-- A trigger whose pulse falls while a list is being sent, or any after a list was cut short: the frame is
torn, and carries the new id where there is one (R501, R502). -/
def State.tornBy (s : State) (c pulse : Nat) : Option Nat :=
  let x := s.cam c
  match x.wait with
  | some w =>
    match w.sendFrom with
    | some f => if f ≤ pulse then some w.id else none
    | none => none
  | none =>
    match x.sets.find? (fun y => match y.sendFrom with
      | some f => decide (f ≤ pulse) && decide (pulse ≤ y.armed)
      | none => false) with
    | some y => some y.id
    | none => none

/-! ### Ports -/

/-- Link pixel rate of a port in Mpixel/s times 120 (R491). -/
def State.portRate (s : State) (c : Nat) : Nat :=
  s.on (Od.csi_port.data_lanes c) * s.on (Od.csi_port.lane_rate_mbps c) * 120 /
    rawBits (s.on (Od.csi_port.data_type c))

/-- Sum of the rates of the running ports of a pipe. -/
def State.pipeRate (s : State) (pipe : Nat) : Nat :=
  (((List.range 4).filter (fun c => s.portRuns c && s.on (Od.csi_port.pipe c) = pipe)).map s.portRate).sum

/-- Bytes of a slot of a VIEW ring (R511). -/
def State.viewSlot (s : State) (c : Nat) : Nat :=
  let z := s.on (Od.camera_streams.view_size c)
  ceilDiv (64 + (z % 65536) * (z / 65536)) 4096 * 4096

/-- Bytes of a VIEW ring, 0 while the stream is off. -/
def State.viewRing (s : State) (c : Nat) : Nat :=
  if s.ob (Od.camera_streams.view_enable c) then s.viewSlot c * s.on (Od.camera_streams.view_ring_frames c)
  else 0

/-- Offset of a VIEW ring in the integrator partition: the rings stand in camera order from its lowest
address (R511). -/
def State.viewOff (s : State) (c : Nat) : Nat := ((List.range c).map s.viewRing).sum

/-- A VIEW ring fits the partition. -/
def State.viewFits (s : State) (c : Nat) : Bool :=
  !s.ob (Od.camera_streams.view_enable c) ||
  decide (s.viewOff c + s.viewRing c ≤ s.on Od.dram_config.integ_dram_mib * 2 ^ 20)

/-- Device address of the integrator partition: the top of the logical space (R348). -/
def State.partitionBase (s : State) : Nat :=
  dramBase + (s.on Od.dram_status.logical_mib - s.on Od.dram_config.integ_dram_mib) * 2 ^ 20

/-- The pipe rates and ring bases that the objects show (R519, R524). -/
def State.refreshPipes (s : State) : State :=
  let s := (s.setn Od.image_pipeline.pipe0_rate_mpix (s.pipeRate 0 / 120)).setn
    Od.image_pipeline.pipe1_rate_mpix (s.pipeRate 1 / 120)
  (List.range 4).foldl (fun a c => a.setn (Od.stream_status.view_ring_base c)
    (if a.ob (Od.camera_streams.view_enable c) then dramBase + a.viewOff c else 0)) s

/-- The state of a port follows from its settings: OFF, RUNNING or CONFLICT with its reason (R491, R511). A
running port keeps running when another would overload its pipe. -/
def State.refreshPort (s : State) (c : Nat) : State :=
  let on := s.ob (Od.csi_port.port_enable c)
  let tooMuch := !s.portRuns c && decide (2000 * 120 < s.pipeRate (s.on (Od.csi_port.pipe c)) + s.portRate c)
  let r : Nat × Nat := if !on then (0, 0) else if tooMuch then (2, 1) else if !s.viewFits c then (2, 2) else (1, 0)
  let begins := r.1 = 1 && !s.portRuns c
  let s := (s.setn (Od.csi_port.port_state c) r.1).setn (Od.csi_port.conflict_reason c) r.2
  let s := if begins then
      (s.setCam c { s.cam c with lastNum := none, since := 0, prev := [] }).setn
        (Od.stream_status.view_write_index c) 0
    else s
  s.refreshPipes

/-- Every pending trigger of a port is lost (R518). -/
def State.loseAll (s : State) (c : Nat) : State :=
  let q := (s.cam c).queue
  let s := s.setCam c { s.cam c with queue := [], frame := none }
  q.foldl (fun a p => a.loseTrigger c p) s

/-- port_enable has been written: a port that is disabled loses its pending triggers and its reset output
goes low; one that is enabled starts (R490, R518). -/
def State.portWritten (s : State) (c : Nat) : State :=
  if s.ob (Od.csi_port.port_enable c) then (s.refreshPort c).trySend c
  else
    let s := s.loseAll c
    ((s.setCam c { s.cam c with rst := false }).refreshPort c).trySend c

/-- 1 ms after a port is enabled CAM_RST_N is driven high (R490). -/
def execCamResetRelease (t : Nat) (c : Fin 4) (s : State) : Host.Outcome State Fault Refusal :=
  let s := s.atTime t
  if s.ob (Od.csi_port.port_enable c) then ok (s.setCam c { s.cam c with rst := true }) else ok s

/-! ### The end of a frame -/

/-- A frame as the pipe takes it: lines padded to the configured geometry, each with the number of its
samples that are real (R517). -/
def CamFrame.grid (f : CamFrame) (w h pad : Nat) : List (List Nat × Nat) :=
  let ls := f.lines.reverse
  (List.range h).map (fun i => match ls[i]? with
    | some l => (l.px ++ List.replicate (w - l.px.length) pad, if l.valid then l.px.length else 0)
    | none => (List.replicate w pad, 0))

/-- Lines that were padded: short, not valid, or missing. -/
def CamFrame.padded (f : CamFrame) (w h : Nat) : Nat :=
  (f.lines.filter (fun l => !l.valid || decide (l.px.length < w))).length + (h - f.lines.length)

/-- What the metadata of a frame's outputs share (R516). -/
def State.frameInfo (s : State) (c : Nat) (f : CamFrame) (w h : Nat) : FrameInfo :=
  { cam := c, stream := 0, seq := f.seq, setId := f.setId, num := f.num, kind := f.trig.kind, bits := 12,
    flags := f.flags % 64 + f.flags / 128 % 4 * 128, ident := f.trig.ident, width := w, height := h,
    trigTime := ptpAt s.net.ptp f.trig.pulse, expTime := ptpAt s.net.ptp f.trig.expose, endTime := s.time,
    received := f.received, padded := f.padded w h, cut := f.long + (f.received - min f.received h),
    minPx := f.minPx, maxPx := f.maxPx, corrupt := f.corrupt }

/-- The INSP stream: a slot with its metadata, lines and validity; during a freeze the frame is lost (R510,
R518). -/
def State.streamInsp (s : State) (c : Nat) (f : CamFrame) (i : FrameInfo) (t3 : List (List Nat))
    (valid : List Bool) : State :=
  let w := s.on (Od.csi_port.width_px c)
  let h := s.on (Od.csi_port.height_lines c)
  let crop := valI f.vals (Od.camera_streams.insp_crop c)
  let bin := valI f.vals (Od.camera_streams.insp_bin c)
  if valI f.vals (Od.camera_streams.insp_enable c) = 0 then s
  else if s.frozen then
    if f.trig.kind = 1 then s.camResult f.trig.ident c (Finding.bare 3 2) else s.barUnseen f.trig.ident c
  else
    let g := binGrid bin (cropGrid crop w h t3)
    let q := cropOf crop w h
    let v := (valid.drop q.2.1).take q.2.2.2
    let bz := binFactor (bin / 4)
    let ls := g.zipIdx.map (fun r => (⟨r.1, ((v.drop (bz * r.2)).take bz).all (fun b => b)⟩ : CamLine))
    let m := { i with width := (g.headD []).length, height := g.length }.encode
    let x := s.cam c
    let fr : InspFrame :=
      { metadata := m, kind := f.trig.kind, ident := f.trig.ident, seq := f.seq, setId := f.setId,
        vals := f.vals, lines := ls }
    ((s.setCam c { x with insp := (fr :: x.insp).take 2 }).inc64 (Od.stream_status.insp_frames c)).setv
      (Od.stream_status.last_metadata c) (.bytes m)

/-- The VIEW stream: a slot of the ring in the integrator partition (R511). -/
def State.streamView (s : State) (c : Nat) (f : CamFrame) (i : FrameInfo) (t5 : List (List Nat)) : State :=
  if valI f.vals (Od.camera_streams.view_enable c) = 0 ∨ s.frozen = true then s
  else
    let w := s.on (Od.csi_port.width_px c)
    let h := s.on (Od.csi_port.height_lines c)
    let size := valI f.vals (Od.camera_streams.view_size c)
    let vw := size % 65536
    let vh := size / 65536
    let g := Config.viewScale vw vh (cropGrid (valI f.vals (Od.camera_streams.view_crop c)) w h t5)
    let px8 := (List.range vh).flatMap (fun y => (List.range vw).map (fun x => byteOf (toBits 8 (px g x y))))
    let m := { i with stream := 1, bits := 8, width := vw, height := vh, flags := f.flags }.encode
    let n := s.on (Od.stream_status.view_write_index c)
    let a := s.partitionBase + s.viewOff c + s.viewSlot c * (n % max 1 (s.on (Od.camera_streams.view_ring_frames c)))
    ((s.store a (m ++ px8)).inc32 (Od.stream_status.view_write_index c)).inc64 (Od.stream_status.view_frames c)

/-- The ARCH stream of an item frame: a raw slot, or a part that is not stored (R512, R513). -/
def State.streamArch (s : State) (c : Nat) (f : CamFrame) (i : FrameInfo) (t3 t5 : List (List Nat)) : State :=
  if f.trig.kind ≠ 1 then s
  else
    let w := s.on (Od.csi_port.width_px c)
    let h := s.on (Od.csi_port.height_lines c)
    let fmt := valI f.vals (Od.camera_streams.arch_format c)
    let bits := if fmt % 4 = 0 then 8 else if fmt % 4 = 1 then 10 else 12
    let on := decide (valI f.vals (Od.camera_streams.arch_enable c) ≠ 0)
    let g := (binGrid (valI f.vals (Od.camera_streams.arch_bin c))
      (cropGrid (valI f.vals (Od.camera_streams.arch_crop c)) w h (if bitAt fmt 2 then t5 else t3))).map
        (fun l => l.map (toBits bits))
    let i := { i with stream := 2, bits := bits, width := (g.headD []).length, height := g.length }
    if on ∧ s.frozen = false ∧ s.img.raw.length < s.on Od.archive_store.arch_raw_slots then
      { s with img := { s.img with raw := s.img.raw ++ [⟨c, f.trig.ident, i.encode, bits, g⟩] } }
    else
      let s := if on then s.inc32 (Od.stream_status.arch_not_stored c) else s
      s.archPart f.trig.ident ⟨c, { i with flags := i.flags + 128 }.encode, 0, [], on⟩

/-- The STAT block of a frame: tap T1, without padding and invalid lines (R515, R517). -/
def State.streamStat (s : State) (c : Nat) (f : CamFrame) (i : FrameInfo) (raw t1 : List (List Nat))
    (real : List Nat) : State :=
  if valI f.vals (Od.camera_streams.stat_enable c) = 0 then s
  else
    let w := s.on (Od.csi_port.width_px c)
    let h := s.on (Od.csi_port.height_lines c)
    let q := cropOf (valI f.vals (Od.camera_streams.stat_crop c)) w h
    let cells := (List.range q.2.2.2).flatMap (fun y =>
      let n := real.getD (q.2.1 + y) 0
      ((List.range q.2.2.1).filter (fun x => decide (q.1 + x < n))).map (fun x =>
        (x, y, px t1 (q.1 + x) (q.2.1 + y), px raw (q.1 + x) (q.2.1 + y))))
    let m := { i with stream := 3, width := q.2.2.1, height := q.2.2.2 }.encode
    s.setv (Od.stream_status.last_stat c) (.bytes (m ++ statBlock q.2.2.1 q.2.2.2 cells))

/-- A frame ends: its flags, the corrections in their order, and its streams (R504, R517). -/
def State.finishFrame (s : State) (c : Nat) (f : CamFrame) (forced : Bool) : State :=
  let w := s.on (Od.csi_port.width_px c)
  let h := s.on (Od.csi_port.height_lines c)
  let f := { f with
    flags := if forced ∨ f.received < h then withBit f.flags 0 true else f.flags }
  let rows := f.grid w h (valI f.vals (Od.camera_sensor.pad_value c))
  let raw := rows.map (fun r => r.1)
  let real := rows.map (fun r => r.2)
  let t1 := fixDynamic (valI f.vals (Od.isp.dynamic_defect_threshold c)) w h
    (fixListed (defectPixels (valB f.vals (Od.isp.defect_table c))) w
      (mapGrid (fun _ _ v => v - valI f.vals (Od.isp.black_level c)) raw))
  let sh := shade (valB f.vals (Od.isp.shading_map c)) w h t1
  let nr := valI f.vals (Od.isp.spatial_nr c)
  let t3 := if nr = 0 then sh else Config.spatialNr nr sh
  let x := s.cam c
  let old := if x.prevSet = f.setId then x.prev else []
  let cutView := t3.zipIdx.map (fun r => match f.viewCut with
    | some n => if n ≤ r.2 then List.replicate w (valI f.vals (Od.camera_sensor.pad_value c)) else r.1
    | none => r.1)
  let t4 := blend (valI f.vals (Od.isp.temporal_nr c)) old cutView
  let tn := tone (valB f.vals (Od.isp.tone_curve c))
  let restart := bitAt f.flags 0 || bitAt f.flags 8
  let s := s.setCam c { x with frame := none, prev := if restart then [] else t4, prevSet := f.setId }
  let i := s.frameInfo c f w h
  let valid := (List.range h).map (fun k => match f.lines.reverse[k]? with
    | some l => l.valid
    | none => false)
  let s := s.streamInsp c f i t3 valid
  let s := s.streamView c f i (tn t4)
  let s := s.streamArch c f i t3 (tn t4)
  let s := s.streamStat c f i raw t1 real
  if f.flags &&& 0x15F ≠ 0 then s.inc32 (Od.stream_status.frames_flagged c) else s

/-! ### Packets -/

/-- A packet header as the receiver found it (R488): none when the port takes nothing from it. `ecc`: 0 good,
1 a corrected single-bit error, 2 uncorrectable. -/
def State.csiHeader (s : State) (c vc : Nat) (ecc : Nat) (listed : Bool) : State × Bool :=
  if !s.portRuns c then (s, false)
  else if ecc = 2 then (s.inc32 (Od.csi_port.csi_errors c), false)
  else
    let s := if ecc = 1 then s.inc32 (Od.csi_port.csi_ecc_corrected c) else s
    if !listed ∨ vc ≠ s.on (Od.csi_port.virtual_channel c) then (s.inc32 (Od.csi_port.packets_ignored c), false)
    else (s, true)

/-- The CSI-2 number a Frame Start must carry: that of the last paired frame advanced by 1 for each trigger
issued since, from 1 to the wrap (R494). -/
def expectedNum (wrap last since : Nat) : Nat := (last + since - 1) % max 1 wrap + 1

/-- A Frame Start packet: it pairs with the oldest pending trigger whose window holds it, or begins an
unsolicited frame (R493, R494, R496). A frame still open ends by force. -/
def execCsiFrameStart (t : Nat) (c : Fin 4) (vc num : Nat) (ecc : Fin 3) (s : State) :
    Host.Outcome State Fault Refusal :=
  let s := (s.atTime t).moveX
  let r := s.csiHeader c vc ecc true
  if r.2 = false then ok r.1
  else
    let s := match (r.1.cam c).frame with
      | some f => r.1.finishFrame c f true
      | none => r.1
    let x := s.cam c
    let wrap := s.on (Od.csi_port.csi_frame_wrap c)
    let numOk := wrap = 0 || (match x.lastNum with
      | some n => decide (num = expectedNum wrap n x.since)
      | none => true)
    let hit := x.queue.find? (fun p => decide (p.pulse ≤ s.now) &&
      decide (s.now ≤ p.pulse + 1000 * s.on (Od.csi_port.frame_timeout_us c)))
    match hit with
    | none =>
      ok ((s.setCam c { x with frame := none, prev := [] }).inc32 (Od.csi_port.frames_unsolicited c))
    | some p =>
      if numOk = false then
        ok ((s.setCam c { x with frame := none, prev := [] }).inc32 (Od.csi_port.frames_unsolicited c))
      else
        let seq := nextSeq (s.on (Od.stream_status.frame_sequence c))
        let set := s.setFor c p.expose
        let torn := s.tornBy c p.pulse
        let isTorn := torn.isSome || s.on (Od.camera_sensor.sensor_state c) = 1
        let rest := x.queue.filter (fun q => q ≠ p)
        let f : CamFrame :=
          { trig := p, seq := seq, num := num, start := s.now, setId := torn.getD set.id, vals := set.vals,
            torn := isTorn, lines := [], received := 0, minPx := 0, maxPx := 0, corrupt := 0,
            flags := if isTorn then 32 else 0, viewCut := none, long := 0 }
        let s := s.setCam c { x with queue := rest, frame := some f, lastNum := some num, since := rest.length }
        let s := (s.setn (Od.stream_status.frame_sequence c) seq).inc64 (Od.csi_port.frames_received c)
        ok (if isTorn then s.inc32 (Od.camera_sensor.torn_frames c) else s)

/-- A line arrives for a frame: cut, kept, or marked not valid, with the flags of R517. `lost`: it found the
line memory full (R492). -/
def CamFrame.takeLine (f : CamFrame) (w h : Nat) (pxs : List Nat) (corrupt lost : Bool) : CamFrame :=
  let n := pxs.length
  let f := { f with received := f.received + 1, corrupt := f.corrupt + b2n corrupt }
  let k := f.received - 1
  let cutAt := fun (g : CamFrame) (j : Nat) =>
    { g with viewCut := some (g.viewCut.getD j), flags := withBit g.flags 6 true }
  if h ≤ k then cutAt { f with flags := withBit f.flags 1 true } h
  else if lost then
    cutAt { f with lines := ⟨[], false⟩ :: f.lines, flags := withBit f.flags 8 true } k
  else
    let f := { f with minPx := if k = 0 then n else min f.minPx n, maxPx := max f.maxPx n }
    if corrupt then { f with lines := ⟨[], false⟩ :: f.lines, flags := withBit f.flags 4 true }
    else
      let f := { f with lines := ⟨pxs.take w, true⟩ :: f.lines }
      if w < n then cutAt { f with flags := withBit f.flags 3 true, long := f.long + 1 } (k + 1)
      else if n < w then { f with flags := withBit f.flags 2 true }
      else f

/-- A long packet: a line of pixel data (R487, R488, R517). `crcOk`: its CRC; `full`: it found the line memory
of its port full (R492). -/
def execCsiLongPacket (t : Nat) (c : Fin 4) (vc dt : Nat) (data : List Byte) (ecc : Fin 3)
    (crcOk full : Bool) (s : State) : Host.Outcome State Fault Refusal :=
  let s := s.atTime t
  let r := s.csiHeader c vc ecc (dt = s.on (Od.csi_port.data_type c))
  if r.2 = false then ok r.1
  else
    let s := if crcOk then r.1 else r.1.inc32 (Od.csi_port.csi_errors c)
    match (s.cam c).frame with
    | none => ok s
    | some f =>
      let g := f.takeLine (s.on (Od.csi_port.width_px c)) (s.on (Od.csi_port.height_lines c))
        (rawSamples dt data) (!crcOk) full
      ok (s.setCam c { s.cam c with frame := some g })

/-- A Frame End packet completes the frame's streams and may open a sensor window (R500, R517). -/
def execCsiFrameEnd (t : Nat) (c : Fin 4) (vc : Nat) (ecc : Fin 3) (s : State) :
    Host.Outcome State Fault Refusal :=
  let s := (s.atTime t).moveX
  let r := s.csiHeader c vc ecc true
  if r.2 = false then ok r.1
  else
    match (r.1.cam c).frame with
    | none => ok r.1
    | some f => ok ((r.1.finishFrame c f false).trySend c)

/-- frame_max_us passes after a Frame Start without a Frame End: the frame ends by force (R517). -/
def execFrameForcedEnd (t : Nat) (c : Fin 4) (s : State) : Host.Outcome State Fault Refusal :=
  let s := (s.atTime t).moveX
  match (s.cam c).frame with
  | none => ok s
  | some f =>
    if s.now < f.start + 1000 * s.on (Od.csi_port.frame_max_us c) then ok s
    else ok ((s.finishFrame c f true).trySend c)

/-- The window of the oldest pending trigger closes without a Frame Start (R493). -/
def execCamTriggerLost (t : Nat) (c : Fin 4) (s : State) : Host.Outcome State Fault Refusal :=
  let s := (s.atTime t).moveX
  match (s.cam c).queue with
  | [] => ok s
  | p :: rest =>
    if s.now < p.pulse + 1000 * s.on (Od.csi_port.frame_timeout_us c) then ok s
    else ok (((s.setCam c { s.cam c with queue := rest }).loseTrigger c p).trySend c)

/-- 100 ms pass without a sensor window: the list goes in the first interval with no frame pending (R501). -/
def execSensorWindowTimeout (t : Nat) (c : Fin 4) (s : State) : Host.Outcome State Fault Refusal :=
  let s := (s.atTime t).moveX
  match (s.cam c).wait with
  | none => ok s
  | some w =>
    if s.now < w.since + 100000000 then ok s
    else ok ((s.setCam c { s.cam c with wait := some { w with late := true } }).trySend c)

end Sys2Proof.Machine
end

