-- ==== Sys2Proof/Machine/Insp.lean ====
section
/-! DEFINITION. Couching a line with its test bars (R271 to R275, R455, R456), the Inspection Unit's results,
the evaluation of bars, and what it stages in the compensation map (spec/12). -/

namespace Sys2Proof.Machine

/-! ### Couching (R272 to R275) -/

/-- Bytes of a line from its levels, four columns a byte (R375). -/
def packLevels : List Nat → List Byte
  | a :: b :: c :: d :: r => byteOf (a + 4 * b + 16 * c + 64 * d) :: packLevels r
  | _ => []

/-- Level a bar puts on a column of bar line `o` (R455). -/
def BarJob.levelAt (b : BarJob) (o c : Nat) : Nat :=
  let r := o / (b.dash + b.gap)
  if o % (b.dash + b.gap) < b.dash ∧ b.left ≤ c ∧ c < b.left + b.width ∧ (c - b.left) % b.rows = r then b.level
  else 0

/-- The bar of a plane whose lines take in line n, with the line's place in the bar (R455). -/
def State.barAt (s : State) (ring : Nat) (n : Int) : Option (BarJob × Nat) :=
  (s.insp.bars.find? (fun q => decide (q.1 = ring) && decide (q.2.first + q.2.guard ≤ n) &&
    decide (n < q.2.first + q.2.guard + q.2.lines))).map (fun q => (q.2, (n - q.2.first - q.2.guard).toNat))

/-- Length in lines of a bar with its guards, as configured now. -/
def State.barSpan (s : State) (p : Nat) : Nat :=
  2 * s.on (Od.test_bar.bar_guard_lines p) +
  (s.on (Od.test_bar.bar_stagger p) * (s.on (Od.test_bar.bar_dash_lines p) + s.on (Od.test_bar.bar_gap_lines p)) -
    s.on (Od.test_bar.bar_gap_lines p))

/-- A plane wants a bar: enabled, firing, and its interval has passed or a streak request is pending
(R456). -/
def State.wantsBar (s : State) (p : Nat) : Bool :=
  s.ob (Od.test_bar.bar_enable p) && s.fires p &&
  ((match s.insp.lastBar.toList.getD p none with
    | some x => decide (x + 1000000 * s.on (Od.test_bar.bar_interval_ms p) ≤ s.now)
    | none => true) || s.insp.streak.toList.getD p false) &&
  (List.range 4).any (fun c => bitAt (s.on (Od.test_bar.bar_camera_mask p)) c &&
    s.ob (Od.camera_trigger.cam_trig_enable c))

/-- The plane whose turn it is among those that want a bar (R456). -/
def State.barTurn (s : State) : Option Nat :=
  ((List.range 4).map (fun i => (s.insp.turn + 1 + i) % 4)).find? s.wantsBar

/-- A bar starts with line n of a plane when every condition of R456 holds. -/
def State.startBar (s : State) (p : Nat) (n : Int) : State :=
  let stop := n + s.barSpan p
  let busy := s.lane.items.any (fun it => it.slot.isSome && (match it.spans.toList.getD p none with
    | some r => decide (r.first < stop) && decide (n < r.first + r.count)
    | none => false)) || s.insp.bars.any (fun q => q.1 = p && decide (n ≤ q.2.last))
  if s.barTurn ≠ some p ∨ busy = true then s
  else
    let b : BarJob :=
      { number := s.insp.barCount + 1, row := 0, first := n, guard := s.on (Od.test_bar.bar_guard_lines p),
        dash := s.on (Od.test_bar.bar_dash_lines p), gap := s.on (Od.test_bar.bar_gap_lines p),
        rows := s.on (Od.test_bar.bar_stagger p), level := s.on (Od.test_bar.bar_level p),
        left := s.on (Od.test_bar.bar_left p), width := s.on (Od.test_bar.bar_width p),
        cams := s.on (Od.test_bar.bar_camera_mask p), offset := s.psOf (Od.test_bar.bar_cam_offset_um p),
        speed := 0, camDone := [], evaluated := [] }
    s.setInsp { s.insp with
      bars := s.insp.bars ++ [(p, b)], barCount := s.insp.barCount + 1, turn := p,
      lastBar := s.insp.lastBar.setIfInBounds p (some s.now), streak := s.insp.streak.setIfInBounds p false }

/-- Errors a line's composition meets: the item of the lane whose staging read or static layer fails
(R278, R328). -/
def State.lineErrors (s : State) (ring : Nat) (n : Int) (bad : Option (Fin 8)) : State :=
  (s.owners ring n).foldl (fun a it =>
    if it.inFlight && (bad.map Fin.val = some it.lane || (match it.spans.toList.getD ring none with
        | some r => (a.itemRow it ring (n - r.first).toNat).isNone
        | none => false)) then a.composeError it 0x0D 255 else a) s

/-- The levels of a line and the pixels clipped: items, then the bar; none for a blank line (R271, R455). -/
def State.lineLevels (s : State) (ring : Nat) (n : Int) : Option (List Nat) × Nat :=
  let own := s.owners ring n
  let bar := s.barAt ring n
  if own.isEmpty && bar.isNone then (none, 0)
  else
    let r := if own.isEmpty then (List.replicate 49152 0, 0) else s.composeLine ring n
    let px := match bar with
      | some (b, o) => r.1.zipIdx.map (fun q => max q.1 (b.levelAt o q.2))
      | none => r.1
    (if px.all (fun l => l = 0) then none else some px, r.2)

/-- A line is couched: pixel words, tag, frontier (R274). -/
def State.couch (s : State) (ring : Nat) (n : Int) (bad : Option (Fin 8)) : State :=
  let s := if ring < 4 then s.startBar ring n else s
  let s := s.lineErrors ring n bad
  let r := s.lineLevels ring n
  let s := match r.1 with
    | some px => s.store (lineAddr ring n) (packLevels px)
    | none => s.inc64 (Od.compose_ring.lines_blank ring)
  let s := s.store (tagAddr ring n) (s.tagOf ring n r.1.isNone)
  let s := (s.seti (Od.compose_ring.couch_frontier ring) n).inc64 (Od.compose_ring.lines_couched ring)
  let s := s.bump Od.compositor_status.clipped_pixels 64 r.2
  if s.insp.bars.any (fun q => q.1 = ring && decide (q.2.last = n)) then
    s.inc64 (Od.test_bar.bars_printed ring) else s

/-- The Compositor couches the next line of a ring, if the look-ahead allows (R272). `bad`: the lane whose
staging read met an uncorrectable error (R328). -/
def execLineCouched (t : Nat) (ring : Fin 6) (bad : Option (Fin 8)) (s : State) :
    Host.Outcome State Fault Refusal :=
  let s := (s.atTime t).moveX
  let r := ring.val
  let n := s.oi (Od.compose_ring.couch_frontier r) + 1
  let la : Int := s.on (Od.compose_ring.look_ahead_lines r)
  let full := s.comp.full.get ring && decide (la - s.on (Od.compose_ring.resume_gap_lines r) < s.lookAhead r)
  if la < n - s.lineIndex r ∨ full = true then ok s
  else
    let s := s.couch r n bad
    let s : State := { s with comp := { s.comp with full := s.comp.full.set ring (decide (la ≤ s.lookAhead r)) } }
    ok s.lookCheck

/-! ### Item images (R446 to R454, R461) -/

/-- The INSP frame of a camera by frame_sequence. -/
def State.inspFrame (s : State) (c frame : Nat) : Option InspFrame :=
  (s.cam c).insp.find? (fun f => f.seq = frame)

/-- First field that a test fails, by field number. -/
def firstField (fs : List FieldFinding) (p : FieldFinding → Bool) : Option Nat :=
  ((fs.filter p).map (fun f => f.field)).min?

/-- A number in the settings that govern an INSP frame (R11, R503). -/
def InspFrame.oi (fr : InspFrame) (k : Nat) : Int := ((kvGet fr.vals k).getD (odDefault k)).toInt

/-- The same as a natural number. -/
def InspFrame.on (fr : InspFrame) (k : Nat) : Nat := (fr.oi k).toNat

/-- The same as a truth value. -/
def InspFrame.ob (fr : InspFrame) (k : Nat) : Bool := decide (fr.oi k ≠ 0)

/-- The first failing check of an item image after registration, with its field (R448 to R450). -/
def failCheck (fr : InspFrame) (it : Item) (m : List Byte) (f : ItemFinding) : Option (Nat × Nat) :=
  let kind := fun (x : FieldFinding) => fKind m x.field
  let code := fun x => x.inView && (kind x = 5 || kind x = 6)
  let text := fun x => kind x = 1 || kind x = 2 || kind x = 3 || kind x = 4
  let floor := fun x => if kind x = 6 then fr.on Od.inspection_config.min_grade_2d
    else fr.on Od.inspection_config.min_grade_1d
  match firstField f.fields (fun x => code x && x.decoded.isNone) with
  | some j => some (6, j)
  | none =>
    match firstField f.fields (fun x => code x && x.decoded ≠ some ((kvGet it.resolved x.field).getD [])) with
    | some j => some (7, j)
    | none =>
      match firstField f.fields (fun x => code x && fr.ob Od.inspection_config.grade_check_enable &&
          decide (x.grade < floor x)) with
      | some j => some (8, j)
      | none =>
        match firstField f.fields (fun x => text x &&
            decide (fr.on Od.inspection_config.text_mismatch_permille < x.mismatch)) with
        | some j => some (9, j)
        | none => if fr.on Od.inspection_config.area_mismatch_permille < f.area then some (10, 255) else none

/-- The result of a camera for an item from what was measured (R447 to R451). -/
def State.judge (s : State) (it : Item) (fr : InspFrame) (f : ItemFinding) : Finding :=
  let base : Finding :=
    { outcome := 1, check := 0, field := 255, frameSeq := fr.seq, setId := fr.setId, dx := 0, dy := 0, rot := 0,
      score := 0, grade := 255, mismatch := 0, streaks := 0 }
  if f.inTime = false ∨ s.ob Od.inspection_config.inspect_enable = false then { base with outcome := 3, check := 2 }
  else if it.recNum = 0 then { base with outcome := 2, check := 3 }
  else
    let m := match it.mouldId with
      | some id => (verId s.comp.moulds id).map (fun (v : ResVer) => v.bytes)
      | none => none
    if it.compErr then { base with outcome := 2, check := 4 }
    else
      let posed := { base with dx := f.dx, dy := f.dy, rot := f.rot, score := f.score,
                               streaks := f.streaks.length }
      if f.score < fr.on Od.inspection_config.reg_min_score then { posed with outcome := 2, check := 5 }
      else
        let full := { posed with
          grade := (f.fields.map (fun x => x.grade)).foldl min 255,
          mismatch := (f.fields.map (fun x => x.mismatch)).foldl max f.area }
        match failCheck fr it (m.getD []) f with
        | some (c, j) => { full with outcome := 2, check := c, field := j }
        | none => full

/-- Plane columns under an image column (R445). -/
def columnsUnder (fr : InspFrame) (c x : Nat) : List Nat :=
  let at_ := fun (x : Nat) =>
    let sg : Int := if fr.ob (Od.camera_inspection.cam_mirror c) then -1 else 1
    (fr.oi (Od.camera_inspection.cam_col_origin_mcol c) * 25400000 +
      sg * x * fr.oi (Od.camera_inspection.cam_px_pitch_nm c) * 1200 * 1000) / (25400000 * 1000)
  let a := min (at_ x) (at_ (x + 1))
  let b := max (at_ x) (at_ (x + 1))
  (List.range (b - a + 1).toNat).filterMap (fun (i : Nat) =>
    let k : Int := a + (i : Int)
    if 0 ≤ k ∧ k < 49152 then some k.toNat else none)

/-- The intent of an item has ink on a plane in some of the columns (R443, R461). -/
def State.intentInk (s : State) (it : Item) (p : Nat) (cols : List Nat) : Bool :=
  match it.spans.toList.getD p none with
  | none => false
  | some r => (List.range r.count).any (fun k => match s.itemRow it p k with
    | some (m, row) =>
      let o := ((it.deckle p).1 : Int) + moOrigin m
      cols.any (fun c => decide (o ≤ (c : Int)) && row.getD ((c : Int) - o).toNat 0 ≠ 0)
    | none => false)

/-- Streaks ask for bars on the planes whose intent has ink there (R461). -/
def State.noteStreaks (s : State) (c : Nat) (fr : InspFrame) (it : Item) (xs : List Nat) : State :=
  let s := s.bump Od.inspection_status.streaks_found 64 xs.length
  let cols := xs.flatMap (fun x => columnsUnder fr c x)
  if cols.isEmpty then s
  else (List.range 4).foldl (fun a p =>
    if a.intentInk it p cols then
      a.setInsp { a.insp with streak := a.insp.streak.setIfInBounds p true } else a) s

/-- The inspection of an item frame completes (R446 to R454). -/
def execInspectionComplete (t : Nat) (c : Fin 4) (frame : Nat) (f : ItemFinding) (s : State) :
    Host.Outcome State Fault Refusal :=
  let s := s.atTime t
  match s.inspFrame c frame with
  | none => ok s
  | some fr =>
    if fr.kind ≠ 1 then ok s
    else
      match s.item fr.ident with
      | none => ok (s.inc32 Od.inspection_status.late_results)
      | some it =>
        if it.verdict ≠ 0 then ok (s.inc32 Od.inspection_status.late_results)
        else
          let r := s.judge it fr f
          let s := if r.check = 2 then s.inc32 Od.inspection_status.frames_not_inspected
            else (s.inc64 (Od.camera_inspection.cam_frames_inspected c)).noteStreaks c fr it f.streaks
          ok (s.camResult it.seq c r)

/-! ### Staging (R464 to R467) -/

/-- Enabled inkjet lanes that print on a plane. -/
def State.planeLanes (s : State) (p : Nat) : List Nat :=
  (List.range 8).filter (fun l => s.ob (Od.lane_config.lane_enable l) &&
    s.on (Od.lane_config.lane_target l) = 0 && bitAt (s.on (Od.lane_config.lane_planes l)) p)

/-- Column c lies in a lane's deckle on a plane (R378). -/
def State.inDeckle (s : State) (l p c : Nat) : Bool :=
  let a := s.on (Od.deckle.deckle_left (4 * l + p))
  decide (a ≤ c) && decide (c < a + s.on (Od.deckle.deckle_width (4 * l + p)))

/-- The set S of a staged nozzle (R467). -/
def State.lanesNear (s : State) (p c : Nat) : List Nat :=
  (s.planeLanes p).filter (fun l => s.inDeckle l p c || s.inDeckle l p (c + 1) ||
    (c ≠ 0 && s.inDeckle l p (c - 1)))

/-- The entry a nozzle will have once everything staged has switched. -/
def State.laterEntry (s : State) (p c : Nat) : Nat := (s.stagedEntry p c).getD (s.mapEntry p c)

/-- The links on which entries change a trim as the head takes it (R406). -/
def State.trimLinks (s : State) (p : Nat) (es : List (Nat × Nat)) : List Nat :=
  ((es.filter (fun e =>
    let step := s.idf (linkOf p (e.1 / 1024)) 38 2
    decide (trimSteps step (entryTrim e.2) ≠ trimSteps step (entryTrim (s.mapEntry p e.1))))).map
      (fun e => linkOf p (e.1 / 1024))).eraseDups

/-- Splits staged entries into switch groups by their sets S (R467). -/
def groupBy (S : Nat → List Nat) : Nat → List (Nat × Nat) → List (List Nat × List (Nat × Nat))
  | 0, _ => []
  | _, [] => []
  | fuel + 1, e :: es =>
    let k := S e.1
    (k, e :: es.filter (fun x => S x.1 = k)) :: groupBy S fuel (es.filter (fun x => S x.1 ≠ k))

/-- A staging: the entries written together, later values replacing earlier ones that have not switched
(R466, R467). -/
def State.stage (s : State) (p : Nat) (es : List (Nat × Nat)) (complete : Bool) (det : Option Nat) : State :=
  let gs := groupBy (s.lanesNear p) es.length es
  let old := (s.insp.groups.map (fun g => if g.plane = p then
    { g with entries := g.entries.filter (fun e => !es.any (fun x => x.1 = e.1)) } else g)).filter
      (fun g => !g.entries.isEmpty)
  let line := s.oi (Od.plane_tick.line_index p)
  let new := gs.zipIdx.map (fun q => ({
    id := s.insp.nextGroup + q.2, plane := p, entries := q.1.2, lanes := q.1.1, complete := complete,
    det := det, detLine := line, trimDue := s.trimLinks p q.1.2, trimOut := [], flips := [],
    counted := false } : MapGroup))
  let s := s.setInsp { s.insp with groups := old ++ new, nextGroup := s.insp.nextGroup + gs.length }
  s.setn (Od.map_status.staged_nozzles p) (s.stagedCount p)

/-- What follows a completed staging: a plane that does not fire switches at once, else the trims go out
(R469, R470, R472). -/
def State.staged (s : State) (p : Nat) : State :=
  if s.on (Od.plane_fire_status.plane_state p) = 1 then s.sendTrims else s.switchNow p

/-- An entry with from_inspection set. -/
def learned (e : Nat) : Nat := withBit e 14 true

/-- The entry of a disabled nozzle. -/
def disabledEntry (e : Nat) : Nat := learned (withBit e 8 true)

/-- The entry of a neighbour that takes from the side `src` (1 left, 2 right) (R464). -/
def substEntry (e src : Nat) : Nat :=
  let old := field e 10 9
  let f := if old = 0 ∨ old = src then src * 512 + src' src * 2048 else 3 * 512
  learned (e - field e 12 9 * 512 + f)
where
  /-- parity: even for the left neighbour of the nozzle, odd for its right one -/
  src' (src : Nat) : Nat := if src = 2 then 1 else 2

/-- An entry is locked. -/
def State.lockedAt (s : State) (p c : Nat) : Bool := bitAt (s.laterEntry p c) 15

/-- A substitution from c to its neighbour d would cross the edge of a deckle of an enabled lane (R465). -/
def State.crossesDeckle (s : State) (p c d : Nat) : Bool :=
  (s.planeLanes p).any (fun l => s.inDeckle l p c != s.inDeckle l p d)

/-- Disabled nozzles of a segment once everything staged has switched. -/
def State.disabledIn (s : State) (p seg : Nat) : Nat :=
  ((List.range 1024).filter (fun i => bitAt (s.laterEntry p (1024 * seg + i)) 8)).length

/-- The neighbour's staged entry, where the Inspection Unit may change it. -/
def State.neighbour (s : State) (p c d src : Nat) : List (Nat × Nat) :=
  if 49152 ≤ d ∨ s.lockedAt p d = true ∨ s.inMask p (d / 1024) = false ∨ s.crossesDeckle p c d = true then []
  else [(d, substEntry (s.laterEntry p d) src)]

/-- What a detection does: the staged entries, empty when refused (R464, R465). -/
inductive Correction where
  /-- nothing to stage -/
  | none_
  /-- these entries are staged -/
  | stage (es : List (Nat × Nat))
  /-- refused (R465); true when disable_limit refused it -/
  | refused (limit : Bool)
  deriving DecidableEq, Repr

/-- Disabling a nozzle with substitution by its neighbours (R464, R465). -/
def State.disableNozzle (s : State) (p c : Nat) : Correction :=
  let e := s.laterEntry p c
  if bitAt e 8 = false ∧ s.on (Od.nozzle_health.disable_limit p) < s.disabledIn p (c / 1024) + 1 then
    .refused true
  else
    .stage ((if c = 0 then [] else s.neighbour p c (c - 1) 2) ++ [(c, disabledEntry e)] ++
      s.neighbour p c (c + 1) 1)

/-- The correction of a detection (R464, R465). -/
def State.correct (s : State) (p c cls : Nat) (dy : Int) (speed : Nat) : Correction :=
  let e := s.laterEntry p c
  let rm := e % 256
  let remap := fun r => Correction.stage [(c, learned (e - rm + r))]
  if s.lockedAt p c = true ∨ s.inMask p (c / 1024) = false then .refused false
  else if cls = 1 ∨ cls = 2 then s.disableNozzle p c
  else if cls = 3 then
    if rm = 0xE4 then remap 0xF8 else if rm = 0xF8 then remap 0xFC
    else if rm = 0xFC then s.disableNozzle p c else .none_
  else if cls = 4 then
    if rm = 0xE4 then remap 0x94 else if rm = 0x94 then remap 0x54
    else if rm = 0x54 then s.disableNozzle p c else .none_
  else
    let d := roundDiv (dy * 10000000000) speed
    .stage [(c, learned (e % 65536) + 65536 * patternOf 16 (clampInt (-32767) 32767 (entryTrim e - d)))]

/-- A staged change is logged as a write of map_entry_write by the device (R466). -/
def State.logEntry (s : State) (p c e : Nat) : State :=
  s.logRecord Writer.device Od.map_write.map_entry_write (.int 0)
    (.int (c + 65536 * p + 2 ^ 32 * e : Nat))

/-- A nozzle has been detected in a class (R460, R464, R465, R476). -/
def State.detect (s : State) (p c cls : Nat) (dy : Int) (speed : Nat) : State :=
  let s := s.inc64 (Od.nozzle_health.detections p)
  let push := fun (s : State) a =>
    s.event 0x4800 (leBytes 1 p ++ leBytes 2 c ++ leBytes 1 cls ++ leBytes 1 a)
  if s.ob (Od.nozzle_health.auto_compensate p) = false then push s 0
  else
    match s.correct p c cls dy speed with
    | .none_ => push s 0
    | .stage es =>
      let s := es.foldl (fun a e => a.logEntry p e.1 e.2) s
      push (s.stage p es false (some s.now)) 1
    | .refused limit =>
      let seg := 64 * p + c / 1024
      let s := push s 2
      if limit && !s.insp.limited.contains seg then
        (s.setInsp { s.insp with limited := seg :: s.insp.limited }).event 0x4802
          (leBytes 1 p ++ leBytes 1 (c / 1024) ++ leBytes 2 c)
      else s

/-! ### Bars (R459, R460) -/

/-- A number put into a rising list. -/
def insInt (x : Int) : List Int → List Int
  | [] => [x]
  | y :: ys => if x ≤ y then x :: y :: ys else y :: insInt x ys

/-- The median of a list: its middle element, the lower of two. -/
def median (l : List Int) : Int :=
  let r := l.foldl (fun a x => insInt x a) []
  r.getD ((r.length - 1) / 2) 0

/-- The class of a dash (R459): darkness in percent of the segment's median, offsets in µm. -/
def State.dashClass (s : State) (p : Nat) (dark : Nat) (dx dy : Int) : Nat :=
  if dark < s.on (Od.nozzle_health.missing_percent p) then 1
  else if s.on (Od.nozzle_health.deviation_limit_um p) < dx.natAbs then 2
  else if dark < s.on (Od.nozzle_health.weak_percent p) then 3
  else if s.on (Od.nozzle_health.strong_percent p) < dark then 4
  else if s.on (Od.nozzle_health.trim_deadband_um p) < dy.natAbs then 5
  else 0

/-- One evaluated nozzle: its class, and the run of R460. -/
def State.noteClass (s : State) (p c cls : Nat) (dy : Int) (speed : Nat) : State :=
  let k := nozKey p c
  if cls = 0 then s.setInsp { s.insp with runs := kvDel s.insp.runs k }
  else
    let n := match kvGet s.insp.runs k with
      | some (x, n) => if x = cls then n + 1 else 1
      | none => 1
    if s.on (Od.nozzle_health.confirm_count p) ≤ n then
      (s.setInsp { s.insp with runs := kvSet s.insp.runs k (cls, 0) }).detect p c cls dy speed
    else s.setInsp { s.insp with runs := kvSet s.insp.runs k (cls, n) }

/-- The dashes of one segment are evaluated (R459). -/
def State.evalSegment (s : State) (p : Nat) (b : BarJob) (all seg : List DashFinding) : State :=
  if seg.length < 64 then s
  else
    let live := seg.filter (fun d => !bitAt (s.mapEntry p d.col) 8)
    let mid := (median (live.map (fun d => (d.dark : Int)))).toNat
    let classed := live.map (fun d =>
      let row := all.filter (fun x => (x.col - b.left) % b.rows = (d.col - b.left) % b.rows)
      let dy := d.y - median (row.map (fun x => x.y))
      (d.col, s.dashClass p (if mid = 0 then 0 else 100 * d.dark / mid) d.dx dy, dy))
    classed.foldl (fun a q => a.noteClass p q.1 q.2.1 q.2.2 b.speed) s

/-- A camera has evaluated a bar; the bar is done when every camera has (R458). -/
def State.barSeen (s : State) (number cam : Nat) : State :=
  s.setInsp { s.insp with bars := s.insp.bars.filterMap (fun q =>
    if q.2.number = number then
      let b := { q.2 with evaluated := q.2.evaluated ++ [cam] }
      if (List.range 4).all (fun c => !bitAt b.cams c || b.evaluated.contains c) then none else some (q.1, b)
    else some q) }

/-- The evaluation of a bar frame ends (R459, R460). -/
def execBarEvaluated (t : Nat) (c : Fin 4) (frame : Nat) (ds : List DashFinding) (s : State) :
    Host.Outcome State Fault Refusal :=
  let s := s.atTime t
  match s.inspFrame c frame with
  | none => ok s
  | some fr =>
    match s.insp.bars.find? (fun q => q.2.number = fr.ident) with
    | none => ok s
    | some (p, b) =>
      if fr.kind ≠ 2 ∨ b.evaluated.contains c.val = true then ok s
      else
        let mine := ds.filter (fun d => decide (b.left ≤ d.col) && decide (d.col < b.left + b.width))
        let s := (List.range 48).foldl (fun a g =>
          a.evalSegment p b mine (mine.filter (fun d => d.col / 1024 = g))) s
        let s := (s.inc64 (Od.test_bar.bars_evaluated p)).inc64 (Od.camera_inspection.cam_frames_inspected c)
        ok (s.barSeen b.number c)

/-! ### Stagings and the map in flash -/

/-- The stagings of a plane are complete (R469, R471). -/
def execStagingComplete (t : Nat) (plane : Fin 4) (s : State) : Host.Outcome State Fault Refusal :=
  let s := s.atTime t
  let s := s.setInsp { s.insp with groups := s.insp.groups.map (fun g =>
    if g.plane = plane.val then { g with complete := true } else g) }
  ok (s.staged plane)

/-- The halves in force of a plane are in flash with the serials of its heads (R473). -/
def execMapSaved (t : Nat) (plane : Fin 4) (s : State) : Host.Outcome State Fault Refusal :=
  let s := s.atTime t
  let p := plane.val
  let s := s.setInsp { s.insp with
    saved := s.insp.saved.set plane (s.planeMap p),
    savedSerial := (List.range 12).foldl (fun v i => v.setIfInBounds (12 * p + i) (s.link (12 * p + i)).serial)
      s.insp.savedSerial }
  ok (s.setn (Od.map_status.map_saved_time p) s.time)

/-- A write of map_entry_write stages one entry (R474). -/
def State.mapEntryWrite (s : State) (v : Nat) : State :=
  let p := field v 17 16
  (s.stage p [(v % 65536, v / 2 ^ 32)] true none).staged p

/-- A write of a plane to map_reset_learned stages the preload entry of every unlocked learned entry
(R474). -/
def State.mapReset (s : State) (p : Nat) : State :=
  let es := (s.planeMap p).filterMap (fun q =>
    if bitAt q.2 14 && !bitAt q.2 15 then
      some (q.1, if (s.link (linkOf p (q.1 / 1024))).block.isEmpty then mapIdentity else s.preloadEntry p q.1)
    else none)
  if es.isEmpty then s else (s.stage p es true none).staged p

end Sys2Proof.Machine
end

