-- ==== Sys2Proof/Machine/Clocks.lean ====
section
/-! DEFINITION. Clock generation (spec/03): the choice of the reference mode, N and F, glides, relocks, lock
loss and holdover. -/

namespace Sys2Proof.Machine

/-- A synthesizer. -/
def State.pll (s : State) (p : Nat) : PllSt := s.clk.plls.toList.getD p ⟨0, 1, none, true, 0⟩

/-- Replaces a synthesizer. -/
def State.setPll (s : State) (p : Nat) (x : PllSt) : State :=
  { s with clk := { s.clk with plls := s.clk.plls.setIfInBounds p x } }

/-- pll_state: 0 OFF, 1 ACQUIRING, 2 LOCKED, 3 GLIDING, 4 HOLDOVER. -/
def State.pllState (s : State) (p : Nat) : Nat := s.on (Od.pll.pll_state p)

/-- f_PFD of a source and a mode in Hz; 0 where R96 puts it out of range. -/
def pfdOf (source mode : Nat) : Nat :=
  if source = 0 then if mode = 0 then 25000000 else if mode = 1 then 50000000 else 12500000
  else if mode = 2 then 78125000 else 0

/-- Modes AUTO evaluates for a source, by falling f_PFD (R99). -/
def modesOf (source : Nat) : List Nat := if source = 0 then [1, 0, 2] else [2]

/-- Δ of a target at a phase-detector frequency (R99). -/
def spurOffset (target pfd : Nat) : Nat :=
  if pfd = 0 then 0 else min (target % pfd) (pfd - target % pfd)

/-- The mode with the largest Δ; a tie goes to the one named first, which has the higher f_PFD (R99). -/
def widestMode (source target : Nat) : List Nat → Nat → Nat
  | [], best => best
  | m :: ms, best =>
    widestMode source target ms
      (if spurOffset target (pfdOf source best) < spurOffset target (pfdOf source m) then m else best)

/-- The mode of a relock (R99). -/
def State.relockMode (s : State) (p source target : Nat) : Nat :=
  let w := s.on (Od.pll.pll_ref_mode p)
  if w ≠ 3 then w
  else
    let ms := modesOf source
    let least := 1000 * s.on (Od.pll.pll_spur_min_offset_khz p)
    match ms.find? (fun m => decide (least ≤ spurOffset target (pfdOf source m))) with
    | some m => m
    | none => widestMode source target ms (ms.headD 0)

/-- N and F of a target (R98): a remainder that rounds up to a whole step of N is carried. -/
def nAndF (target pfd : Nat) : Nat × Nat :=
  if pfd = 0 then (0, 0)
  else
    let f := (2 * (target % pfd) * 2 ^ 24 + pfd) / (2 * pfd)
    (target / pfd + f / 2 ^ 24, f % 2 ^ 24)

/-- Tunes a synthesizer to a target at its source and mode, and reports the result (R98, R100). -/
def State.tune (s : State) (p target : Nat) : State :=
  let x := s.pll p
  let pfd := pfdOf x.source x.mode
  let nf := nAndF target pfd
  let s := (s.setn (Od.pll.pll_pfd_hz p) pfd).setn (Od.pll.pll_n_int p) nf.1
  let s := s.setn (Od.pll.pll_fraction p) nf.2
  let got : Int := pfd * (nf.1 * 2 ^ 24 + nf.2)
  let s := s.seti (Od.pll.pll_vco_error_ppb p)
    (roundDiv ((got - (target * 2 ^ 24 : Nat)) * 1000000000) (target * 2 ^ 24))
  let s := s.seti (Od.pll.pll_spur_offset_khz p) (roundDiv (spurOffset target pfd : Nat) 1000)
  s.setPll p { s.pll p with target := target }

/-- f_VCO in Hz, to the nearest (R98). -/
def State.vcoHz (s : State) (p : Nat) : Nat := (roundDiv (s.vco24 p : Nat) (2 ^ 24)).toNat

/-- A relock begins: source and mode are chosen, the outputs are gated low and the loop is retuned (R100,
R114). -/
def State.relock (s : State) (p : Nat) : State :=
  let source := s.on (Od.pll.pll_ref_source p)
  let target := s.on (Od.pll.pll_vco_target_hz p)
  let x := s.pll p
  let s := s.setPll p { x with source := source, mode := s.relockMode p source target, lockedAt := none,
                               gated := true }
  let s := (s.tune p target).setn (Od.pll.pll_state p) 1
  if p = 3 then s.pixelClockLost else s

/-- Writes that wait for a synthesizer are in effect (R112, R114). -/
def State.pllDone (s : State) (p : Nat) : State :=
  let s : State := { s with log := { s.log with held := s.log.held.map (fun h =>
    { h with plls := clearBit h.plls p }) } }
  s.release

/-- Lock has held for 50 µs: the outputs are enabled again, and the anchor is the new f_VCO (R107, R111,
R114). -/
def State.relocked (s : State) (p : Nat) : State :=
  let x := s.pll p
  let s := s.setPll p { x with lockedAt := some (s.now - 50000), gated := false }
  let s := (s.setn (Od.pll.pll_state p) 2).setn (Od.pll.pll_anchor_hz p) (s.vcoHz p)
  s.pllDone p

/-- The target lies within 8 % of the anchor (R111). -/
def State.mayGlide (s : State) (p target : Nat) : Bool :=
  let a := s.on (Od.pll.pll_anchor_hz p)
  decide (100 * (if a ≤ target then target - a else a - target) ≤ 8 * a)

/-- A glide begins, or turns towards a new target: an earlier write is acknowledged as superseded (R112,
R115). -/
def State.glide (s : State) (p target : Nat) : State :=
  let s := if s.pllState p = 3 then s.pllDone p else s
  (s.setPll p { s.pll p with target := target }).setn (Od.pll.pll_state p) 3

/-- A glide reaches its target (R112). -/
def runPllGlideDone (t : Nat) (p : Fin 4) (s : State) : Host.Outcome State Fault Refusal :=
  let s := s.atTime t
  if s.pllState p = 3 then
    ok (((s.tune p (s.pll p).target).setn (Od.pll.pll_state p) 2).pllDone p)
  else ok s

/-- N and F stand where a walk was stopped: between its two ends, and no rule says where. -/
def State.stopWalk (s : State) (p : Nat) : State :=
  if s.pllState p ≠ 3 then s
  else
    let a := s.on (Od.pll.pll_n_int p)
    let b := (nAndF (s.pll p).target (s.on (Od.pll.pll_pfd_hz p))).1
    let s := s.setn (Od.pll.pll_n_int p) (min a b + s.freeVal % (max a b - min a b + 1))
    let s := s.freeNext
    (s.setn (Od.pll.pll_fraction p) (s.freeVal % 2 ^ 24)).freeNext

/-- A synthesizer enters HOLDOVER: its tuning is frozen and its outputs keep running (R109). -/
def State.holdover (s : State) (p : Nat) : State :=
  let s := s.stopWalk p
  (s.setPll p { s.pll p with lockedAt := none }).setn (Od.pll.pll_state p) 4

/-- Loss of lock or a range fault: holdover, or on PLL_PIX gated outputs and a relock by itself (R109, R110). -/
def State.pllLost (s : State) (p : Nat) : State := if p = 3 then s.relock 3 else s.holdover p

/-- A synthesizer loses lock (R107, R109, R110). -/
def execPllLockLoss (t : Nat) (p : Fin 4) (s : State) : Host.Outcome State Fault Refusal :=
  let s := s.atTime t
  if s.pllState p = 2 ∨ s.pllState p = 3 then
    ok ((s.inc32 (Od.pll.pll_lock_loss_count p)).pllLost p)
  else ok s

/-- A monitor window finds an enabled output more than 1 % off (R108). -/
def execClockRangeFault (t : Nat) (out : Fin 32) (s : State) : Host.Outcome State Fault Refusal :=
  let s := s.atTime t
  let p := out.val / 8
  if s.ob (Od.clock_out.out_enable out) = false ∨ (s.pll p).gated = true ∨ s.pllState p = 0 then ok s
  else
    let s := s.inc32 (Od.clock_out.out_range_fault_count out)
    ok (if s.pllState p = 2 ∨ s.pllState p = 3 then s.pllLost p else s)

/-- The crystal stops, or runs out of range: the fallback oscillator takes over, and the PLLs that refer to
the crystal enter HOLDOVER (R108, R109). -/
def execCrystalFault (t : Nat) (absent : Bool) (s : State) : Host.Outcome State Fault Refusal :=
  let s := s.atTime t
  let s := (s.setn Od.clock_sources.xtal_status (if absent then 1 else 2)).setb
    Od.clock_sources.fallback_active true
  ok ((List.range 4).foldl (fun a p =>
    if (a.pll p).source = 0 ∧ a.pllState p ≠ 0 ∧ a.pllState p ≠ 4 then a.holdover p else a) s)

end Sys2Proof.Machine
end

