-- ==== Sys2Proof/Machine/Access.lean ====
section
/-! DEFINITION. The address maps of the cores, the DMA engine and the Codec, and what an access by them
meets (R321, R330, R333, R346, R347, R348, R733). -/

namespace Sys2Proof.Machine

/-- What stands at an address for a requester. -/
inductive Span where
  /-- memory at a device address, up to but not including the last address of the run, as device addresses -/
  | memory (dev stop : Nat)
  /-- device registers, for that many bytes (R733) -/
  | regs (len : Nat)
  /-- outside the map (R346, R347) -/
  | outside
  /-- refused by the protection of the Couch Store (R333) -/
  | refused
  /-- DRAM that is frozen (R344) -/
  | frozen
  deriving DecidableEq, Repr

/-- The run of memory of a device address range [a, stop) that holds `x`. -/
def Span.run (x stop : Nat) : Span := .memory x stop

/-- Bytes of the logical DRAM space. -/
def State.dramBytes (s : State) : Nat := s.on Od.dram_status.logical_mib * 2 ^ 20

/-- Bytes of the integrator partition. -/
def State.integBytes (s : State) : Nat := s.on Od.dram_config.integ_dram_mib * 2 ^ 20

/-- An address of the device map, as the DMA engine and the Codec may use it (R330, R346). -/
def State.deviceSpan (s : State) (a : Nat) : Span :=
  if a < 0x2000000 then (if a < 0x1400000 then .refused else .run a 0x2000000)
  else if 0x10000000 ≤ a ∧ a < 0x10400000 then .run a 0x10400000
  else if 0x18000000 ≤ a ∧ a < 0x18100000 then .run a 0x18100000
  else if 0x20000000 ≤ a ∧ a < 0x30000000 then .regs (0x30000000 - a)
  else if dramBase ≤ a ∧ a < dramBase + s.dramBytes then
    (if s.frozen then .frozen else .run a (dramBase + s.dramBytes))
  else .outside

/-- An address of the integrator map (R347, R348). -/
def State.integSpan (s : State) (a : Nat) : Span :=
  if a < 0x100000 then .run (0x18000000 + a) 0x18100000
  else if 0x1000000 ≤ a ∧ a < 0x1800000 then .run (0x1800000 + (a - 0x1000000)) 0x2000000
  else if 0x2000000 ≤ a ∧ a < 0x2000800 then .regs (0x2000800 - a)
  else if 0x2010000 ≤ a ∧ a < 0x2010400 then .regs (0x2010400 - a)
  else if 0x2020000 ≤ a ∧ a < 0x2030000 then .regs (0x2030000 - a)
  else if dramBase ≤ a ∧ a < dramBase + s.integBytes then
    (if s.frozen then .frozen
     else .run (dramBase + s.dramBytes - s.integBytes + (a - dramBase)) (dramBase + s.dramBytes))
  else .outside

/-- An address of the map a requester uses. -/
def State.span (s : State) (integ : Bool) (a : Nat) : Span := if integ then s.integSpan a else s.deviceSpan a

/-- How many of `n` bytes from an address are reached before the map, the protection or a freeze stops the
access. -/
def Span.reach (p : Span) (n : Nat) : Nat :=
  match p with
  | .memory dev stop => min n (stop - dev)
  | .regs len => min n len
  | .outside => 0
  | .refused => 0
  | .frozen => 0

/-- `n` bytes as a requester reads them at a span; device registers read as free values. -/
def State.fetch? (s : State) (p : Span) (n : Nat) : List Byte :=
  match p with
  | .memory dev _ => s.load dev n
  | .regs _ => (List.range n).map (fun i => byteOf (Config.free (s.freeCtr + i)))
  | .outside => []
  | .refused => []
  | .frozen => []

/-- Free values are taken when device registers are read. -/
def State.fetched (s : State) (p : Span) (n : Nat) : State :=
  match p with
  | .regs _ => { s with freeCtr := s.freeCtr + n }
  | .memory _ _ => s
  | .outside => s
  | .refused => s
  | .frozen => s

/-- Bytes written at a span; what a write into device registers does there is left out (see NOTES). -/
def State.put? (s : State) (p : Span) (bs : List Byte) : State :=
  match p with
  | .memory dev _ => s.store dev bs
  | .regs _ => s
  | .outside => s
  | .refused => s
  | .frozen => s

/-- A refused access is counted (R333). -/
def State.noteRefused (s : State) (p : Span) : State :=
  if p = .refused then s.inc32 Od.couch_store_status.protection_violations else s

end Sys2Proof.Machine
end

