-- ==== Sys2Proof/Machine/Codec.lean ====
section
/-! DEFINITION. The Codec (spec/08): queues, job descriptors, the coders as machines that stop and resume with
exact counts, completion records, and the archive and layer jobs of Q1 and Q0. -/

namespace Sys2Proof.Machine

/-! ### A job in progress -/

/-- A job with the input it can still read, the room it can still write, and what it has written. -/
structure CRun where
  /-- the job -/
  job : CodecJob
  /-- input left -/
  inp : List Byte
  /-- output room left -/
  room : Nat
  /-- output written in this run -/
  out : List Byte
  deriving DecidableEq, Repr

/-- Bytes of one line of 2-bit pixels (R302). -/
def CodecJob.lineLen (j : CodecJob) : Nat := ceilDiv j.width 4

/-- Bytes of a sample (R306). -/
def CodecJob.sampleLen (j : CodecJob) : Nat := if j.bits = 8 then 1 else 2

/-- The original is the output (R294). -/
def CodecJob.decodes (j : CodecJob) : Bool := j.op = 1 || j.op = 3

/-- Writes as much waiting output as there is room for (R309, R310). -/
def CRun.flush (c : CRun) : CRun :=
  let k := c.job.pend.take c.room
  { c with
    room := c.room - k.length, out := c.out ++ k,
    job := { c.job with
      pend := c.job.pend.drop c.room, produced := c.job.produced + k.length,
      reg := if c.job.decodes then crcRun c.job.reg k else c.job.reg } }

/-- Consumes `n` input bytes; they count into the CRC of an encode (R307, R310). -/
def CRun.eat (c : CRun) (n : Nat) : CRun :=
  let k := c.inp.take n
  { c with
    inp := c.inp.drop n,
    job := { c.job with
      consumed := c.job.consumed + k.length,
      reg := if c.job.decodes then c.job.reg else crcRun c.job.reg k } }

/-- The status of a job that reaches its end (R308). -/
def CodecJob.endStatus (j : CodecJob) : Nat :=
  if j.check && decide (j.reg ^^^ 0xFFFFFFFF ≠ j.crc) then 0x0C else 0

/-- Bytes of the whole output of a decode, 0 while the geometry is the header's (R293). -/
def CodecJob.total (j : CodecJob) : Nat :=
  if j.op = 1 then j.height * j.lineLen else j.width * j.height * j.sampleLen

/-- One token of KRF_DECODE (R299 to R302). -/
def CRun.krfDecode (c : CRun) (inEnd outEnd : Nat) : CRun × Option Nat :=
  let j := c.job
  let dry := if c.room = 0 then outEnd else inEnd
  if j.krf.ended then (c, some (if c.inp.isEmpty then j.endStatus else 7))
  else if c.room = 0 ∧ j.produced < j.total then (c, some outEnd)
  else if c.inp.isEmpty then (c, some dry)
  else
    match krfStep j.width j.height j.krf c.inp with
    | .more => (c, some dry)
    | .bad e => (c, some e)
    | .took n st out =>
      let old := j.krf.line.length / 4
      let fresh := match out with
        | some l => (packPixels l).drop old
        | none => (packPixels (st.line.take (st.line.length / 4 * 4))).drop old
      let c := c.eat n
      ({ c with job := { c.job with krf := st, pend := c.job.pend ++ fresh, lines := st.lines } }, none)

/-- One line of KRF_ENCODE (R303). -/
def CRun.krfEncode (c : CRun) (inEnd outEnd : Nat) : CRun × Option Nat :=
  let j := c.job
  if j.krf.ended then (c, some j.endStatus)
  else if c.room = 0 then (c, some outEnd)
  else if j.lines = j.height then
    ({ c with job := { j with pend := [0xFF], krf := { j.krf with ended := true } } }, none)
  else
    let k := c.inp.take (j.lineLen - j.part.length)
    let c := c.eat k.length
    let part := j.part ++ k
    if part.length < j.lineLen then ({ c with job := { c.job with part := part } }, some inEnd)
    else if ((part.flatMap bytePixels).drop j.width).any (fun p => p ≠ 0) then (c, some 0x0B)
    else
      let l := unpackPixels j.width part
      ({ c with job := { c.job with
          part := [], pend := krfEncodeLine j.krf.above l, lines := j.lines + 1,
          krf := { j.krf with above := l, lines := j.lines + 1 } } }, none)

/-- One byte of JLS_DECODE (R305). -/
def CRun.jlsDecode (c : CRun) (inEnd outEnd : Nat) : CRun × Option Nat :=
  let j := c.job
  let dry := if c.room = 0 then outEnd else inEnd
  if j.krf.ended then (c, some j.endStatus)
  else if c.room = 0 ∧ j.produced < j.total then (c, some outEnd)
  else
    match c.inp with
    | [] => ({ c with job := { j with part := j.part.take j.consumed } }, some dry)
    | b :: rest =>
      let part := j.part ++ [b]
      let r := Config.jlsDecode j.bits j.width j.height part
      let fresh := r.1.drop (j.produced + j.pend.length)
      let j1 := { j with part := part, pend := j.pend ++ fresh, consumed := r.2.1, lines := r.2.2.1 }
      let c := { c with inp := rest, job := j1 }
      let st := r.2.2.2
      if st = 8 ∨ st = 9 ∨ st = 10 then (c, some st)
      else ({ c with job := { c.job with krf := { c.job.krf with ended := decide (st = 0) } } }, none)

/-- One sample of JLS_ENCODE (R304, R306). -/
def CRun.jlsEncode (c : CRun) (inEnd outEnd : Nat) : CRun × Option Nat :=
  let j := c.job
  let n := j.sampleLen
  if j.krf.ended then (c, some j.endStatus)
  else if c.room = 0 then (c, some outEnd)
  else if c.inp.length < n then (c, some inEnd)
  else if 2 ^ j.bits ≤ leNat (c.inp.take n) then (c, some 0x0B)
  else
    let part := j.part ++ c.inp.take n
    let c := c.eat n
    let fresh := (Config.jlsEncode j.bits j.width j.height part).drop (j.produced + j.pend.length)
    ({ c with job := { c.job with
        part := part, pend := j.pend ++ fresh, lines := c.job.consumed / (max 1 (j.width * n)),
        krf := { j.krf with ended := decide (c.job.consumed = j.width * j.height * n) } } }, none)

/-- One step of a job: waiting output first, then the coder (R309). `inEnd`, `outEnd`: the statuses of an input
and of a room that end: 2 and 1, or an error where the map or the memory ends them. -/
def CRun.step (c : CRun) (inEnd outEnd : Nat) : CRun × Option Nat :=
  let c := c.flush
  if !c.job.pend.isEmpty then (c, some outEnd)
  else if c.job.op = 1 then c.krfDecode inEnd outEnd
  else if c.job.op = 2 then c.krfEncode inEnd outEnd
  else if c.job.op = 3 then c.jlsDecode inEnd outEnd
  else if c.job.op = 4 then c.jlsEncode inEnd outEnd
  else
    let d := c.eat c.inp.length
    (d, some (if inEnd = 2 then d.job.endStatus else inEnd))

/-- Runs a job until it stops, or for as many steps as `fuel` gives; no status where the steps ran out. -/
def CRun.run (inEnd outEnd : Nat) : Nat → CRun → CRun × Option Nat
  | 0, c => (c, none)
  | fuel + 1, c =>
    match c.step inEnd outEnd with
    | (d, some e) => (d, some e)
    | (d, none) => CRun.run inEnd outEnd fuel d

/-! ### Descriptors -/

/-- The coder at the start of a job. -/
def CodecJob.begin (j : CodecJob) : CodecJob :=
  { j with consumed := 0, produced := 0, lines := 0, reg := 0xFFFFFFFF, krf := KrfSt.start j.width,
           pend := [], part := [] }

/-- The fields of a descriptor (R293). -/
def parseDesc (b : List Byte) : CodecJob :=
  ({ op := leAt b 0 1, check := bitAt (leAt b 1 1) 1, bits := leAt b 2 1, width := leAt b 4 4,
     height := leAt b 8 4, tag := leAt b 12 4, crc := leAt b 56 4, ctx := leAt b 48 8, inAddr := leAt b 16 8,
     inLen := leAt b 24 8, outAddr := leAt b 32 8, outLen := leAt b 40 8, bad := none, consumed := 0,
     produced := 0, lines := 0, reg := 0, krf := KrfSt.start 0, pend := [], part := [] } : CodecJob).begin

/-- The descriptor is valid (R293 to R295). -/
def descOk (b : List Byte) : Bool :=
  let j := parseDesc b
  let flags := leAt b 1 1
  let krf := j.bits = 0 && decide (1 ≤ j.width) && decide (j.width ≤ 49152) && decide (1 ≤ j.height) &&
    decide (j.height ≤ 16777215)
  let bitsOk := j.bits = 8 || j.bits = 10 || j.bits = 12
  let dec := (j.bits = 0 || bitsOk) && decide (j.width ≤ 8192) && decide (j.height ≤ 65535)
  let enc := bitsOk && decide (1 ≤ j.width) && decide (j.width ≤ 8192) && decide (1 ≤ j.height) &&
    decide (j.height ≤ 65535)
  decide (flags < 4) && leAt b 3 1 = 0 && leAt b 60 4 = 0 && decide (j.ctx % 64 = 0) &&
  !(bitAt flags 0 && decide (j.ctx = 0)) &&
  (if j.op = 1 ∨ j.op = 2 then krf
   else if j.op = 3 then dec
   else if j.op = 4 then enc
   else if j.op = 5 then j.bits = 0 && j.width = 0 && j.height = 0 && j.outLen = 0
   else false)

/-- The coder, counts and waiting output of one job under the addresses of another (R311). -/
def CodecJob.resume (j old : CodecJob) : CodecJob :=
  { j with consumed := old.consumed, produced := old.produced, lines := old.lines, reg := old.reg,
           krf := old.krf, pend := old.pend, part := old.part }

/-- The two descriptors name the same job (R311). -/
def CodecJob.same (j old : CodecJob) : Bool :=
  j.op = old.op && j.bits = old.bits && j.width = old.width && j.height = old.height && j.tag = old.tag &&
  j.check = old.check && j.crc = old.crc

/-! ### Queues -/

/-- An instance. -/
def State.codec (s : State) (i : Nat) : CodecInst := s.mover.codec.toList.getD i CodecInst.reset

/-- Replaces an instance. -/
def State.setCodec (s : State) (i : Nat) (x : CodecInst) : State :=
  { s with mover := { s.mover with codec := s.mover.codec.setIfInBounds i x } }

/-- Q2 (0) or Q3 (1) of an instance. -/
def State.codecQ (s : State) (i q : Nat) : CodecQueue := (s.codec i).queues.toList.getD q CodecQueue.reset

/-- Replaces a queue. -/
def State.setCodecQ (s : State) (i q : Nat) (x : CodecQueue) : State :=
  let c := s.codec i
  s.setCodec i { c with queues := c.queues.setIfInBounds q x }

/-- Descriptors pending on a queue (R292). -/
def CodecQueue.waiting (x : CodecQueue) : Nat := serialDist 32 x.doorbell x.consumer

/-- A context area is in use by a job that runs on another queue (R315). -/
def State.ctxBusy (s : State) (addr : Nat) : Bool :=
  s.mover.codec.toList.any (fun c => match c.running with
    | some (q, j) => j.ctx ≠ 0 && (match s.span (q = 1) j.ctx with
        | .memory dev _ => dev = addr
        | .regs _ => false
        | .outside => false
        | .refused => false
        | .frozen => false)
    | none => false)

/-- The job of a descriptor, with the end it meets before any access (R295, R311, R314). -/
def State.jobOf (s : State) (q : Nat) (b : List Byte) : CodecJob :=
  let j := parseDesc b
  if descOk b = false then { j with bad := some 3 }
  else if bitAt (leAt b 1 1) 0 = false then j
  else
    match s.span (q = 1) j.ctx with
    | .memory dev _ =>
      match s.mover.ctxs.find? (fun c => c.addr = dev) with
      | some c =>
        if j.same c.job && !s.ctxBusy dev && s.load dev 32768 = padTo 32768 (Config.codecContext c.num) then
          j.resume c.job
        else { j with bad := some 4 }
      | none => { j with bad := some 4 }
    | .refused => { j with bad := some 0x0E }
    | .regs _ => { j with bad := some 4 }
    | .outside => { j with bad := some 0x0D }
    | .frozen => { j with bad := some 0x0D }

/-- A queue can give the instance a job. -/
def CodecQueue.ready (x : CodecQueue) : Bool := x.enable && decide (x.waiting ≠ 0)

/-- An idle instance takes the next descriptor: of Q2 or Q3, in turns weighted by q2_share (R290). Which of two
waiting queues is next is open while the share is neither 0 nor 100. -/
def State.startCodec (s : State) (i : Nat) : State :=
  let c := s.codec i
  let r2 := (s.codecQ i 0).ready
  let r3 := (s.codecQ i 1).ready
  if c.running.isSome ∨ (r2 = false ∧ r3 = false) then s
  else
    let share := s.on Od.codec_config.q2_share
    let both := r2 && r3
    let q := if !both then (if r2 then 0 else 1)
      else if 100 ≤ share then 0 else if share = 0 then 1 else s.freeVal % 2
    let s := if both then s.freeNext else s
    let x := s.codecQ i q
    let p := s.span (q = 1) (x.descBase + 64 * (x.consumer % max 1 x.descCount))
    let j := if p.reach 64 = 64 then s.jobOf q (s.fetch? p 64)
      else { parseDesc [] with bad := some (if p = .refused then 0x0E else 0x0D) }
    let s := ((s.noteRefused p).fetched p 64).setCodecQ i q { x with consumer := (x.consumer + 1) % 2 ^ 32 }
    s.setCodec i { s.codec i with running := some (q, j) }

/-- The completion record of a job (R296). -/
def CodecJob.record (j : CodecJob) (status : Nat) : List Byte :=
  leBytes 4 j.tag ++ leBytes 1 status ++ leBytes 1 j.op ++ leBytes 2 0 ++ leBytes 8 j.consumed ++
  leBytes 8 j.produced ++ leBytes 4 (j.reg ^^^ 0xFFFFFFFF) ++ leBytes 4 (if j.op = 5 then 0 else j.lines)

/-- The counts of an instance after a record (R317). -/
def State.codecCount (s : State) (i : Nat) (j : CodecJob) (status : Nat) : State :=
  let s := ((s.inc64 (Od.codec_instance.jobs_done i)).bump (Od.codec_instance.bytes_consumed i) 64 j.consumed).bump
    (Od.codec_instance.bytes_produced i) 64 j.produced
  let s := if 3 ≤ status then
      (s.inc32 (Od.codec_instance.errors i)).setn (Od.codec_instance.last_error i) status
    else s
  if status = 0x0E then s.setn (Od.codec_instance.count_validity i) 2 else s

/-- A completion record is written and DONE advances (R297). -/
def State.complete (s : State) (i q : Nat) (j : CodecJob) (status : Nat) : State :=
  let x := s.codecQ i q
  let p := s.span (q = 1) (x.cplBase + 32 * (x.done % max 1 x.descCount))
  let s := s.put? p ((j.record status).take (p.reach 32))
  let s := s.setCodecQ i q { x with done := (x.done + 1) % 2 ^ 32, irqs := x.irqs + b2n x.irqEach }
  s.codecCount i j status

/-- A stop that can be resumed saves the job in its context area (R311). -/
def State.saveCtx (s : State) (q : Nat) (j : CodecJob) : State :=
  if j.ctx = 0 then s
  else
    match s.span (q = 1) j.ctx with
    | .memory dev stop =>
      let n := s.mover.nextCtx
      let s := s.store dev ((padTo 32768 (Config.codecContext n)).take (stop - dev))
      { s with mover := { s.mover with
        ctxs := s.mover.ctxs.filter (fun c => c.addr ≠ dev) ++ [⟨dev, n, j⟩], nextCtx := n + 1 } }
    | .regs _ => s
    | .outside => s
    | .refused => s
    | .frozen => s

/-- The error of an access that stops short (R314, R328, R333). -/
def Span.codecError (p : Span) : Nat := if p = .refused then 0x0E else 0x0D

/-- The running job of an instance after at most `steps` steps: its state, its output written to memory, and
the status it stops with, if it does. -/
def State.runJob (s : State) (q : Nat) (j : CodecJob) (steps : Nat) : State × CodecJob × Option Nat :=
  match j.bad with
  | some e => (s, j.begin, some e)
  | none =>
    let pi := s.span (q = 1) j.inAddr
    let po := s.span (q = 1) j.outAddr
    let ni := pi.reach j.inLen
    let no := po.reach j.outLen
    let nextIn := s.span (q = 1) (j.inAddr + ni)
    let nextOut := s.span (q = 1) (j.outAddr + no)
    let c : CRun := { job := j, inp := s.fetch? pi ni, room := no, out := [] }
    let r := CRun.run (if ni = j.inLen then 2 else nextIn.codecError)
      (if no = j.outLen then 1 else nextOut.codecError) steps c
    let s := (s.fetched pi ni).put? po r.1.out
    let s := if r.2 = some 0x0E then s.inc32 Od.couch_store_status.protection_violations else s
    (s, r.1.job, r.2)

/-- Steps within which any job stops. -/
def CodecJob.fuel (j : CodecJob) : Nat := 2 * j.inLen + 2 * j.outLen + j.height + 16

/-- The running job of an instance ends: its record, its context, and the next job. -/
def State.endJob (s : State) (i q : Nat) (j : CodecJob) (status : Nat) : State :=
  let s := s.setCodec i { s.codec i with running := none }
  let s := if status = 1 ∨ status = 2 then s.saveCtx q j else s
  (s.complete i q j status).startCodec i

/-! ### Internal jobs -/

/-- A JLS_ENCODE job of Q1 ends: the archive part of the oldest raw slot (R512, R513). -/
def State.endArchive (s : State) (i : Nat) : State :=
  match s.img.raw with
  | [] => s
  | r :: rest =>
    let b := sampleBytes r.bits r.lines
    let st := Config.jlsEncode r.bits ((r.lines.headD []).length) r.lines.length b
    let crc := crc32c b
    let j : CodecJob := { (parseDesc []) with op := 4, consumed := b.length, produced := st.length }
    let s : State := { s with img := { s.img with raw := rest } }
    if s.frozen then
      let s := (s.codecCount i (parseDesc []) 0x0D).inc32 (Od.stream_status.arch_not_stored r.cam)
      s.archPart r.item ⟨r.cam, r.metadata, 0, [], true⟩
    else
    let s := (s.codecCount i j 0).inc64 (Od.stream_status.arch_frames r.cam)
    s.archPart r.item ⟨r.cam, r.metadata, crc, st, true⟩

/-- A KRF_DECODE job of Q0 ends: the layer of an item on a plane, with its CRC checked; any status but DONE
reaches the Compositor as DECODE (R290, R308). -/
def State.endLayer (s : State) (i q plane : Nat) : State :=
  match s.item q with
  | none => s
  | some it =>
    match it.mouldId with
    | none => s
    | some id =>
      let m := ((verId s.comp.moulds id).map (fun (v : ResVer) => v.bytes)).getD []
      let off := leAt m (64 + 16 * plane) 4
      if it.inFlight = false ∨ off = 0 ∨ 4 ≤ plane ∨ it.layerRun.contains plane = true then s
      else
        let len := leAt m (68 + 16 * plane) 4
        let j : CodecJob :=
          ({ (parseDesc []) with
              op := 1, check := true, width := moWidth m, height := moHeight m,
              crc := leAt m (72 + 16 * plane) 4, inLen := len,
              outLen := moHeight m * ceilDiv (moWidth m) 4 } : CodecJob).begin
        let r := CRun.run 2 1 j.fuel { job := j, inp := slice off len m, room := j.outLen, out := [] }
        let status := r.2.getD 2
        let s := s.modItem q (fun y => { y with layerRun := y.layerRun ++ [plane] })
        let s := s.codecCount i r.1.job status
        if status = 0 then s else s.composeError it 0x0D 255

/-! ### Commands -/

/-- A DOORBELL write to a Q2 or Q3 queue submits descriptors; one more than DESC_COUNT above CONSUMER is
ignored and counted (R292). -/
def execCodecDoorbell (t : Nat) (inst : Fin 4) (q : Fin 2) (v : Nat) (s : State) :
    Host.Outcome State Fault Refusal :=
  let s := s.atTime t
  let x := s.codecQ inst q
  if x.descCount < serialDist 32 v x.consumer then ok (s.inc32 (Od.codec_instance.doorbell_errors inst))
  else ok ((s.setCodecQ inst q { x with doorbell := v }).startCodec inst)

/-- CONTROL [0] enables or disables a queue (R292). -/
def execCodecQueueEnable (t : Nat) (inst : Fin 4) (q : Fin 2) (enable : Bool) (s : State) :
    Host.Outcome State Fault Refusal :=
  let s := s.atTime t
  ok ((s.setCodecQ inst q { s.codecQ inst q with enable := enable }).startCodec inst)

/-- A write of a queue register that has no command of its own: the ring registers while disabled, and CONTROL
[2] (R292). -/
def State.codecReg (s : State) (i q off v : Nat) : State :=
  let x := s.codecQ i q
  let put := fun (y : CodecQueue) => s.setCodecQ i q y
  if off = 0x20 then put { x with irqEach := bitAt v 2 }
  else if x.enable then s
  else if off = 0 then put { x with descBase := v }
  else if off = 8 then put { x with descCount := v }
  else if off = 0x18 then put { x with cplBase := v }
  else s

/-- Every pending descriptor of a queue completes as ABORTED with zero counts. -/
def State.abortRest (s : State) (i q : Nat) : Nat → State
  | 0 => s
  | n + 1 =>
    let x := s.codecQ i q
    let p := s.span (q = 1) (x.descBase + 64 * (x.consumer % max 1 x.descCount))
    let b := s.fetch? p (p.reach 64)
    let j := { parseDesc b with consumed := 0, produced := 0 }
    let s := s.setCodecQ i q { x with consumer := (x.consumer + 1) % 2 ^ 32 }
    (s.complete i q j 0x0F).abortRest i q n

/-- Abort of a queue (R313): its running job ends after `steps` more tokens or samples with exact counts. -/
def State.abortQueue (s : State) (i q steps : Nat) : State :=
  let s := match (s.codec i).running with
    | some (p, j) =>
      if p = q then
        let r := s.runJob q j steps
        (r.1.setCodec i { r.1.codec i with running := none }).complete i q r.2.1 (r.2.2.getD 0x0F)
      else s
    | none => s
  let s := s.abortRest i q (s.codecQ i q).waiting
  (s.setCodecQ i q { s.codecQ i q with enable := false }).startCodec i

/-- CONTROL [1] aborts a queue (R313). -/
def execCodecAbort (t : Nat) (inst : Fin 4) (q : Fin 2) (steps : Nat) (s : State) :
    Host.Outcome State Fault Refusal :=
  ok ((s.atTime t).abortQueue inst q steps)

/-- A job of an instance stops (R309). `q`: its queue; of Q0 `item` and `plane` name the layer; `susp`: how
often it was suspended (R312); `ecc`: the step at which its data met an uncorrectable error (R314). -/
def execCodecJobEnd (t : Nat) (inst q : Fin 4) (item : Nat) (plane : Fin 4) (susp : Nat) (ecc : Option Nat)
    (s : State) : Host.Outcome State Fault Refusal :=
  let s := s.atTime t
  let count := fun (a : State) => a.bump (Od.codec_instance.suspensions inst) 32 (if q.val = 0 then 0 else susp)
  if q.val = 0 then
    if bitAt (s.on Od.codec_config.compositor_instances) inst then ok (s.endLayer inst item plane) else ok s
  else if q.val = 1 then
    if bitAt (s.on Od.codec_config.archive_instances) inst then ok ((count s).endArchive inst) else ok s
  else
    match (s.codec inst).running with
    | none => ok s
    | some (p, j) =>
      if p + 2 ≠ q.val then ok s
      else
        let r := s.runJob p j (ecc.getD j.fuel)
        let status := r.2.2.getD (if ecc.isSome then 0x0E else 2)
        ok ((count r.1).endJob inst p r.2.1 status)

/-- An access of a job has no response within 16 384 cycles: it ends with BUS_ERROR and exact counts (R314). -/
def execCodecBusTimeout (t : Nat) (inst : Fin 4) (steps : Nat) (s : State) :
    Host.Outcome State Fault Refusal :=
  let s := s.atTime t
  match (s.codec inst).running with
  | none => ok s
  | some (p, j) =>
    let r := s.runJob p j steps
    ok (r.1.endJob inst p r.2.1 (r.2.2.getD 0x0D))

/-- counts_reset of an instance (R317). -/
def State.codecReset (s : State) (i : Nat) : State :=
  [Od.codec_instance.jobs_done i, Od.codec_instance.bytes_consumed i, Od.codec_instance.bytes_produced i,
    Od.codec_instance.errors i, Od.codec_instance.suspensions i, Od.codec_instance.count_validity i].foldl
    (fun a k => a.setn k 0) s

end Sys2Proof.Machine
end

