-- ==== Sys2Proof/Machine/Dma.lean ====
section
/-! DEFINITION. The DMA engine (spec/10): chains of descriptors, their ends, the engine-wide bus timeout, and
the registers of R359. A chain's effect on memory is placed at its end. -/

namespace Sys2Proof.Machine

/-- A channel. -/
def State.dma (s : State) (c : Nat) : DmaChan := s.mover.dma.toList.getD c DmaChan.reset

/-- Replaces a channel; its state is also shown by an object (R374). -/
def State.setDma (s : State) (c : Nat) (x : DmaChan) : State :=
  ({ s with mover := { s.mover with dma := s.mover.dma.setIfInBounds c x } } : State).setn
    (Od.dma_channel.channel_state c) x.state

/-- A channel of the integrator core uses the integrator map (R353). -/
def dmaInteg (c : Nat) : Bool := decide (8 ≤ c)

/-- An ignored register write (R359, R360). -/
def State.dmaIgnore (s : State) (c n : Nat) : State :=
  let x := s.dma c
  (s.setDma c { x with errors := (x.errors + n) % 2 ^ 32 }).bump (Od.dma_channel.doorbell_errors c) 32 n

/-- A descriptor that ends its chain with DESC_INVALID (R356). -/
def dmaInvalid (b : List Byte) : Bool :=
  let op := leAt b 0 1
  let flags := leAt b 1 1
  let len := leAt b 4 4
  let src := leAt b 8 8
  let dst := leAt b 16 8
  !(op = 1 || op = 2 || op = 3) || decide (8 ≤ flags) || len = 0 ||
  (bitAt flags 0 && decide (leAt b 24 8 % 32 ≠ 0)) ||
  (op = 1 && decide (src < dst + len) && decide (dst < src + len))

/-- The end state of an access that cannot be made: BUS_ERROR outside the map, else DATA_ERROR (R365). -/
def Span.dmaError (p : Span) : Nat := if p = .outside then 7 else 8

/-- How far a descriptor gets from byte `off` on, at most `lim` bytes: the memory after it, bytes completed,
and the end state when it does not complete (R355, R362, R365). -/
def State.runDesc (s : State) (integ : Bool) (b : List Byte) (off lim : Nat) : State × Nat × Option Nat :=
  let op := leAt b 0 1
  let len := leAt b 4 4 - off
  let dst := leAt b 16 8 + off
  let src := leAt b 8 8 + off
  let want := min len lim
  let pd := s.span integ dst
  let nd := pd.reach want
  if op = 2 then
    let pat := slice 8 8 b
    let bs := (List.range nd).map (fun i => pat.getD ((off + i) % 8) 0)
    let s := s.put? pd bs
    if nd < want then
      let p := s.span integ (dst + nd)
      (s.noteRefused p, nd, some p.dmaError)
    else (s, nd, if want < len then some 3 else none)
  else
    let ps := s.span integ src
    let n := min (ps.reach want) nd
    let short := if n < want then
        (let q := s.span integ (src + n)
         some (if ps.reach want ≤ nd then q else s.span integ (dst + n)))
      else none
    let a := s.fetch? ps n
    let s := s.fetched ps n
    if op = 1 then
      let s := s.put? pd a
      match short with
      | some p => (s.noteRefused p, n, some p.dmaError)
      | none => (s, n, if want < len then some 3 else none)
    else
      let c := s.fetch? pd n
      let s := s.fetched pd n
      let k := ((a.zip c).takeWhile (fun q => q.1 = q.2)).length
      if k < n then (s, k, some 9)
      else match short with
        | some p => (s.noteRefused p, n, some p.dmaError)
        | none => (s, n, if want < len then some 3 else none)

/-- Runs a chain from CUR_DESC and BYTES_DONE until it ends, or until `lim` bytes have completed; the end
state is 2 DONE, 3 cut by the limit, or as R361 lists them. `fuel` bounds the descriptors. -/
def State.runChain (c : Nat) : Nat → State → Nat → State × Nat
  | 0, s, _ => (s, 4)
  | fuel + 1, s, lim =>
    let x := s.dma c
    let integ := dmaInteg c
    if !x.begun ∧ x.budget ≤ x.started then (s, 4)
    else
      let p := s.span integ x.cur
      if p.reach 32 < 32 then (s.noteRefused p, p.dmaError)
      else
        let b := s.fetch? p 32
        let s := s.fetched p 32
        if dmaInvalid b then (s, 6)
        else
          let x := if x.begun then x else { x with begun := true, started := x.started + 1 }
          let x := { x with tag := leAt b 2 2 }
          let r := (s.setDma c x).runDesc integ b x.bytes lim
          let y := { x with bytes := x.bytes + r.2.1, total := (x.total + r.2.1) % 2 ^ 64 }
          match r.2.2 with
          | some e => (r.1.setDma c y, e)
          | none =>
            let flags := leAt b 1 1
            let y := { y with descs := (y.descs + 1) % 2 ^ 32, irqs := y.irqs + b2n (bitAt flags 1) }
            if bitAt flags 0 then
              let y := { y with cur := leAt b 24 8, bytes := 0, begun := false }
              State.runChain c fuel (r.1.setDma c y) (lim - r.2.1)
            else (r.1.setDma c y, 2)

/-- A chain has ended in a state: registers and counts (R358, R361, R374). `d0`, `b0`: DESC_DONE and
TOTAL_BYTES before this run of it. -/
def State.endChain (s : State) (c st d0 b0 : Nat) (ecc : Bool) : State :=
  let x := s.dma c
  let s := s.setDma c { x with state := st, ecc := ecc, stopReq := false, irqs := x.irqs + b2n x.irqEnd }
  let s := ((s.inc64 (Od.dma_channel.chains_ended c)).bump (Od.dma_channel.descriptors_done c) 64
    (x.descs - d0)).bump (Od.dma_channel.bytes_moved c) 64 (x.total - b0)
  let s := if st = 4 then s.inc32 (Od.dma_channel.budget_stops c) else s
  let s := if 4 ≤ st then s.setn (Od.dma_channel.last_error c) st else s
  if st = 8 && ecc then s.setn (Od.dma_channel.count_validity c) 2 else s

/-- Runs a busy channel to its end, or for `lim` bytes, and ends it; `cut` is the end state of a chain that the
limit cuts, with its data error flag. -/
def State.finishChain (s : State) (c : Nat) (lim : Option Nat) (cut : Nat) (ecc : Bool) : State :=
  let x := s.dma c
  let r := s.runChain c (x.budget + 1) (lim.getD (2 ^ 64))
  let st := if r.2 = 3 then cut else r.2
  r.1.endChain c st x.descs x.total (ecc && decide (r.2 = 3))

/-- DOORBELL 16#1 starts a chain at HEAD (R360). -/
def execDmaStart (t : Nat) (ch : Fin 16) (s : State) : Host.Outcome State Fault Refusal :=
  let s := s.atTime t
  let x := s.dma ch
  if x.state = 1 ∨ s.ob Od.dma_engine.bus_error_active = true ∨ s.mover.drain.isSome = true then
    ok (s.dmaIgnore ch 1)
  else
    ok (s.setDma ch { x with
      state := 1, ecc := false, cur := x.head, bytes := 0, total := 0, descs := 0, started := 0,
      begun := false, stopReq := false })

/-- A write of a channel register that has no command of its own: HEAD and BUDGET while not busy, else ignored
and counted, and CONTROL [1] (R359). -/
def State.dmaReg (s : State) (c off v : Nat) : State :=
  let x := s.dma c
  if off = 0x10 then s.setDma c { x with irqEnd := bitAt v 1 }
  else if off = 0 ∨ off = 8 then
    if x.state = 1 then s.dmaIgnore c 1
    else s.setDma c (if off = 0 then { x with head := v } else { x with budget := v })
  else if off = 0x0C then s.dmaIgnore c 1
  else s

/-- DOORBELL 16#2 continues a chain at CUR_DESC from BYTES_DONE (R360). -/
def execDmaResume (t : Nat) (ch : Fin 16) (s : State) : Host.Outcome State Fault Refusal :=
  let s := s.atTime t
  let x := s.dma ch
  if s.ob Od.dma_engine.bus_error_active ∨ s.mover.drain.isSome ∨ ¬ (x.state = 3 ∨ x.state = 4 ∨ x.state = 5) then
    ok (s.dmaIgnore ch 1)
  else ok (s.setDma ch { x with state := 1, started := 0, ecc := false, stopReq := false })

/-- CONTROL [0]: a stop request (R363). -/
def execDmaStopRequest (t : Nat) (ch : Fin 16) (s : State) : Host.Outcome State Fault Refusal :=
  let s := s.atTime t
  let x := s.dma ch
  if x.state = 1 then ok (s.setDma ch { x with stopReq := true }) else ok s

/-- A read of STATUS latches the counts for the core that reads (R359). Of a busy channel the counts are those
given: where the chain then stands. -/
def execDmaStatusRead (t : Nat) (ch : Fin 16) (core : Fin 2) (cur bytes total descs : Nat) (s : State) :
    Host.Outcome State Fault Refusal :=
  let s := s.atTime t
  let x := s.dma ch
  let v := if x.state = 1 then (cur, bytes, total, descs) else (x.cur, x.bytes, x.total, x.descs)
  ok (s.setDma ch { x with latched := x.latched.set core v })

/-- A chain ends once its outstanding accesses are answered (R358). `cut`: the bytes that complete from here,
when a stop request or an uncorrectable read error (`ecc`) ends it short of its own end. -/
def execDmaChainEnd (t : Nat) (ch : Fin 16) (cut : Option Nat) (ecc : Bool) (s : State) :
    Host.Outcome State Fault Refusal :=
  let s := s.atTime t
  let x := s.dma ch
  if x.state ≠ 1 ∨ s.mover.drain.isSome then ok s
  else if ecc then ok (s.finishChain ch (some (cut.getD 0)) 8 true)
  else ok (s.finishChain ch (if x.stopReq then some (cut.getD 0) else none) 3 false)

/-- An access has no response within 16 384 cycles: no new access on any channel, and the drain begins
(R366). -/
def execDmaBusTimeout (t : Nat) (ch : Fin 16) (addr : Nat) (s : State) : Host.Outcome State Fault Refusal :=
  let s := s.atTime t
  if (s.dma ch).state ≠ 1 ∨ s.mover.drain.isSome then ok s
  else ok { s with mover := { s.mover with drain := some (addr, b2n (dmaInteg ch), s.time) } }

/-- The drain completes or times out: every chain still running ends BUS_STOPPED with exact counts, the engine
error stands, both owners are interrupted and the event is pushed (R366). `done`: bytes each channel completed
in this run of its chain. -/
def execDmaDrainEnd (t : Nat) (done : List Nat) (s : State) : Host.Outcome State Fault Refusal :=
  let s := s.atTime t
  match s.mover.drain with
  | none => ok s
  | some d =>
    let busy := (List.range 16).filter (fun c => (s.dma c).state = 1)
    let s := busy.foldl (fun a c => a.finishChain c (some (done.getD c 0)) 5 false) s
    let s : State := { s with mover := { s.mover with drain := none } }
    let s := ((s.setb Od.dma_engine.bus_error_active true).setn Od.dma_engine.bus_error_address d.1).setn
      Od.dma_engine.bus_error_map d.2.1
    let s := (s.setn Od.dma_engine.bus_error_time d.2.2).inc32 Od.dma_engine.bus_error_count
    ok (s.event 0x6500 [])

/-- counts_reset of a channel (R374). -/
def State.dmaReset (s : State) (c : Nat) : State :=
  [Od.dma_channel.chains_ended c, Od.dma_channel.descriptors_done c, Od.dma_channel.bytes_moved c,
    Od.dma_channel.budget_stops c, Od.dma_channel.doorbell_errors c, Od.dma_channel.count_validity c].foldl
    (fun a k => a.setn k 0) s

end Sys2Proof.Machine
end

