-- ==== Sys2Proof/Machine/MemCmds.lean ====
section
/-! DEFINITION. The commands of the memories (spec/09): initialisation and scrubbing of the Couch Store, the
upkeep of DRAM, and its freeze; and writes of registers that have no command of their own. -/

namespace Sys2Proof.Machine

/-- SCRUB has written every word of the Couch Store with zero (R329). -/
def execCouchInitDone (t : Nat) (s : State) : Host.Outcome State Fault Refusal :=
  let s := s.atTime t
  let s : State := { s with mem := { s.mem with
    cells := s.mem.cells.filter (fun c => decide (0x2000000 ≤ c.1)) } }
  ok (s.setb Od.couch_store_status.couch_init_done true)

/-- SCRUB writes back a word corrected for a single-bit error (R327, R349). -/
def execCouchScrubWriteback (t : Nat) (offset requester : Nat) (s : State) :
    Host.Outcome State Fault Refusal :=
  let s := s.atTime t
  ok (((s.inc64 Od.couch_store_status.couch_ecc_corrected).setn Od.couch_store_status.last_ecc_offset
    (offset % 2 ^ 25)).setn Od.couch_store_status.last_ecc_requester requester)

/-- The 100 ms oscillator read retrains write timing without blocking traffic (R337). -/
def execDramRetrain (t : Nat) (s : State) : Host.Outcome State Fault Refusal := ok (s.atTime t)

/-- A per-bank refresh falls due, with `postponed` of that bank's outstanding (R338, R351). -/
def execDramRefresh (t : Nat) (postponed : Nat) (s : State) : Host.Outcome State Fault Refusal :=
  let s := s.atTime t
  if s.on Od.dram_status.dram_state = 2 ∨ s.on Od.dram_status.dram_state = 3 then
    ok (s.setn Od.dram_status.refresh_postponed_max
      (max (s.on Od.dram_status.refresh_postponed_max) (min postponed 8)))
  else ok s

/-- MR4 of every device is read and the fastest rate reported is used (R338). -/
def execMr4Poll (t : Nat) (codes : List Nat) (s : State) : Host.Outcome State Fault Refusal :=
  let s := s.atTime t
  if s.on Od.dram_status.dram_state = 2 then
    ok (s.setn Od.dram_status.refresh_rate_code (codes.foldl max 0))
  else ok s

/-- The patrol scrubber reads the next code word; it rewrites one it corrects, and counts a whole pass
(R341, R351). -/
def execPatrolScrub (t : Nat) (corrected last : Bool) (s : State) : Host.Outcome State Fault Refusal :=
  let s := s.atTime t
  if s.on Od.dram_status.dram_state ≠ 2 ∨ s.on Od.dram_config.patrol_scrub_hours = 0 then ok s
  else
    let s := if corrected && s.ob Od.dram_config.dram_ecc_enable then
        s.inc64 Od.dram_status.dram_ecc_corrected
      else s
    ok (if last then s.inc32 Od.dram_status.scrub_passes else s)

/-- Every line of an item is couched on every ring it uses (R343). -/
def State.couchedWhole (s : State) (it : Item) : Bool :=
  it.spans.toList.zipIdx.all (fun q => match q.1 with
    | none => true
    | some r => decide (r.first + r.count ≤ s.oi (Od.compose_ring.couch_frontier q.2) + 1))

/-- Puts the freeze snapshot into its objects and into flash (R342, R345, R352). -/
def State.snapshot (s : State) (f : FreezeInfo) (closed : Nat) : State :=
  let b := Od.dram_freeze_snapshot.freeze_valid
  [(b, 1), (Od.dram_freeze_snapshot.freeze_time, s.time),
    (Od.dram_freeze_snapshot.freeze_boot_id, s.on Od.device_identity.boot_id),
    (Od.dram_freeze_snapshot.freeze_address, f.address), (Od.dram_freeze_snapshot.freeze_channel, f.channel),
    (Od.dram_freeze_snapshot.freeze_bank, f.bank), (Od.dram_freeze_snapshot.freeze_row, f.row),
    (Od.dram_freeze_snapshot.freeze_column, f.column), (Od.dram_freeze_snapshot.freeze_syndrome, f.syndrome),
    (Od.dram_freeze_snapshot.freeze_requester, f.requester),
    (Od.dram_freeze_snapshot.freeze_queue_depth, f.depth),
    (Od.dram_freeze_snapshot.freeze_items_closed, closed)].foldl
    (fun a q => a.setDurable q.1 (.int (q.2 : Nat))) s

/-- A firmware image being written fails with FLASH at a supply warning or a DRAM freeze; its
window stays open, and the slot in WRITING (R727). -/
def State.updateCut (s : State) : State :=
  match s.mgmt.update with
  | none => s
  | some j =>
    let s : State := { s with mgmt := { s.mgmt with update := none } }
    let s := (s.setn Od.firmware_update.update_state 4).setn Od.firmware_update.update_error 6
    s.sendIn j.sess j.epoch 0 0x35 (bulkResp j.req j.window errRange 0 0)

/-- An uncorrectable DRAM error freezes the controller (R342, R343): the snapshot, the items that are not fully
couched, and the event. With inline ECC disabled it is not detected. -/
def execDramFrozen (t : Nat) (f : FreezeInfo) (s : State) : Host.Outcome State Fault Refusal :=
  let s := (s.atTime t).moveX
  if s.on Od.dram_status.dram_state ≠ 2 ∨ s.ob Od.dram_config.dram_ecc_enable = false then ok s
  else
    let hit := fun (it : Item) => !s.couchedWhole it
    let n := (s.lane.items.filter (fun it => it.inFlight && hit it)).length
    let s := (s.setn Od.dram_status.dram_state 3).inc32 Od.dram_status.dram_ecc_uncorrectable
    let s := (s.disposeAll hit 6 6).updateCut
    ok ((s.snapshot f n).event 0x6400 [])

/-- freeze_clear written true clears the snapshot (R352). -/
def State.freezeClear (s : State) : State :=
  let zero := fun (a : State) (k : Nat) => a.setDurable k (.int 0)
  let s := [Od.dram_freeze_snapshot.freeze_valid, Od.dram_freeze_snapshot.freeze_time,
    Od.dram_freeze_snapshot.freeze_boot_id, Od.dram_freeze_snapshot.freeze_address,
    Od.dram_freeze_snapshot.freeze_channel, Od.dram_freeze_snapshot.freeze_bank,
    Od.dram_freeze_snapshot.freeze_row, Od.dram_freeze_snapshot.freeze_column,
    Od.dram_freeze_snapshot.freeze_syndrome, Od.dram_freeze_snapshot.freeze_queue_depth,
    Od.dram_freeze_snapshot.freeze_items_closed].foldl zero s
  s.setDurable Od.dram_freeze_snapshot.freeze_requester (.int 0xFF)

/-- A write of a register without a command of its own (R292, R359, R729). -/
def execRegisterWrite (t : Nat) (r : RegWrite) (s : State) : Host.Outcome State Fault Refusal :=
  let s := s.atTime t
  match r with
  | .dma ch off v => ok (s.dmaReg ch off v)
  | .codec inst q off v => ok (s.codecReg inst q off v)
  | .timerCmp v => ok { s with mgmt := { s.mgmt with timerCmp := v, timerIrq := decide (v ≤ s.time) } }

end Sys2Proof.Machine
end

