-- ==== Sys2Proof/Machine/Motor.lean ====
section
/-! DEFINITION. Motor axes (spec/15): the states of an axis, its reference, PWM periods, FOC steps, sensing,
braking and starting. -/

namespace Sys2Proof.Machine

/-- An axis. -/
def State.axis (s : State) (a : Nat) : Axis := s.ctl.axes.toList.getD a Axis.reset

/-- Replaces an axis. -/
def State.setAxis (s : State) (a : Nat) (x : Axis) : State :=
  { s with ctl := { s.ctl with axes := s.ctl.axes.setIfInBounds a x } }

/-- axis_state (R575): 0 DISABLED, 1 SENSING, 2 BRAKING, 3 STARTING, 4 RUNNING, 5 COASTING, 6 STOPPING, 7 FAULT,
8 SAFE. -/
def State.axisState (s : State) (a : Nat) : Nat := s.on (Od.axis_status.axis_state a)

/-- A number of the motor's data. -/
def State.rated (s : State) (a : Nat) : Nat := s.on (Od.axis_motor.rated_speed_rpm a)

/-- |n| in percent of rated speed is at least a percentage. -/
def State.speedAtLeast (s : State) (a : Nat) (n : Int) (percent : Nat) : Bool :=
  decide (percent * s.rated a ≤ 100 * n.natAbs)

/-- pwm_period in ns (R551). -/
def State.pwmPeriod (s : State) (a : Nat) : Nat :=
  8 * (roundDiv 125000000 (max 1 (s.on (Od.axis_config.pwm_freq_hz a)))).toNat

/-- t_w in ns (R554). -/
def State.windowNs (s : State) (a : Nat) : Nat := 150 * s.on (Od.axis_config.sinc_osr a)

/-! ### Changes of state (R576) -/

/-- Rings of the units whose polygon the axis turns (R550, R570). -/
def State.polygonRings (s : State) (a : Nat) : List Nat :=
  if s.on (Od.axis_config.axis_role a) ≠ 4 then []
  else ([0, 1].filter (fun b => s.on (Od.beam_unit_config.polygon_axis b) = a)).map (fun b => 4 + b)

/-- The items in flight on the lanes of a polygon axis close with reason AXIS (R570). -/
def State.axisItems (s : State) (a : Nat) : State :=
  if s.pairActive = false then s
  else
    let rs := s.polygonRings a
    s.disposeAll (fun it => rs.any (fun r => (it.spans.toList.getD r none).isSome)) 6 9

/-- What the power stage does in a state. -/
def stageOf (st : Nat) : Nat :=
  if st = 1 then 3 else if st = 2 ∨ st = 8 then 1 else if st = 3 ∨ st = 4 ∨ st = 6 then 2 else 0

/-- An axis changes state, with AXIS_STATE (R576, R578). A polygon axis that leaves RUNNING for COASTING,
BRAKING or FAULT closes its items (R570). -/
def State.axisEnter (s : State) (a st reason : Nat) : State :=
  let was := s.axisState a
  let x := s.axis a
  let s := s.setAxis a { x with power := stageOf st, cut := false, next := none, due := false, missRun := 0,
                                residRun := 0, predRun := 0, keFrom := none, since := s.now, refAt := s.now }
  let s := (s.setn (Od.axis_status.axis_state a) st).setn (Od.axis_status.state_reason a) reason
  let s := s.event 0x5400 (leBytes 1 a ++ leBytes 1 st ++ leBytes 1 reason)
  if was = 4 ∧ (st = 5 ∨ st = 2 ∨ st = 7) then s.axisItems a else s

/-- The axis begins its probes (R562). -/
def State.axisSense (s : State) (a : Nat) : State :=
  (s.axisEnter a 1 0).setn (Od.axis_status.pwm_freq_actual_hz a)
    (roundDiv 1000000000 (max 1 (s.pwmPeriod a))).toNat

/-- Braking begins, with the fault it ends in, 0 for none (R565). -/
def State.axisBrake (s : State) (a pend : Nat) : State :=
  let s := s.axisEnter a 2 pend
  s.setAxis a { s.axis a with pend := pend }

/-- The start of an axis at rest (R566, R567): the reference ramps from 0. -/
def State.axisStart (s : State) (a : Nat) : State :=
  let s := s.axisEnter a 3 0
  s.setAxis a { s.axis a with ref := 0, iqRef := 0, pend := 0 }

/-- The axis comes to rest disabled; with axis_enable true it is sensed again (R576). -/
def State.axisOff (s : State) (a : Nat) : State :=
  let s := s.axisEnter a 0 0
  let s := s.setAxis a { s.axis a with pend := 0 }
  if s.ob (Od.axis_config.axis_enable a) then s.axisSense a else s

/-- What a write of axis_enable does (R576). -/
def State.axisEnabled (s : State) (a : Nat) : State :=
  let st := s.axisState a
  if s.ob (Od.axis_config.axis_enable a) then
    if st = 0 then
      (s.setAxis a { s.axis a with encOff := none }).axisSense a
    else s
  else if st = 4 then s.axisEnter a 6 0
  else if st = 0 ∨ st = 6 ∨ st = 8 then s
  else s.axisOff a

/-- The axis enters SAFE (R574). -/
def State.axisSafe (s : State) (a : Nat) : State :=
  if s.axisState a = 8 then s else s.axisEnter a 8 0

/-- The constant is abnormal (R560). -/
def State.keBad (s : State) (a : Nat) : Bool :=
  let n := s.on (Od.axis_motor.ke_nominal_uvs a)
  let k := s.on (Od.axis_status.ke_estimate_uvs a)
  let d := if n ≤ k then k - n else n - k
  decide (n * s.on (Od.axis_motor.ke_band_percent a) < 100 * d)

/-- Braking with KE_ABNORMAL, and its event (R560). -/
def State.keBrake (s : State) (a : Nat) : State :=
  (s.axisBrake a 2).event 0x5402 (leBytes 1 a ++ leBytes 4 (s.on (Od.axis_status.ke_estimate_uvs a)))

/-- Observer loss (R559, R569): the axis coasts within recatch_limit, and beyond it brakes. -/
def State.observerLoss (s : State) (a : Nat) : State :=
  let s := s.inc32 (Od.axis_status.observer_losses a)
  let n := s.on (Od.axis_status.recatch_attempts a) + 1
  if s.on (Od.axis_motor.recatch_limit a) < n then s.axisBrake a 1
  else
    ((s.setn (Od.axis_status.recatch_attempts a) n).axisEnter a 5 1).event 0x5401
      (leBytes 1 a ++ leBytes 1 n ++ leBytes 4 (patternOf 32 (s.oi (Od.axis_status.speed_rpm a))))

/-! ### The PWM period (R551 to R555, R571) -/

/-- Phases whose low-side on-interval contains the whole window around the boundary between two periods
(R555); every phase with sense_topology INLINE. -/
def State.validPhases (s : State) (a : Nat) (old new : Nat × Nat × Nat) : Nat :=
  if s.on (Od.axis_config.sense_topology a) = 0 then 7
  else
    let p := s.pwmPeriod a
    let dead := s.on (Od.axis_config.dead_time_ns a)
    let good := fun (x y : Nat) => decide (max x y + 2 * dead + s.windowNs a ≤ p)
    b2n (good old.1 new.1) + 2 * b2n (good old.2.1 new.2.1) + 4 * b2n (good old.2.2 new.2.2)

/-- Some phase carries more than a current. -/
def overCurrent (i : Int × Int × Int) (lim : Nat) : Bool :=
  decide (lim < i.1.natAbs) || decide (lim < i.2.1.natAbs) || decide (lim < i.2.2.natAbs)

/-- The AIN input that measures the bus is converted (R558, R593, R609). -/
def State.ainSample (s : State) (n code : Nat) : State :=
  ((s.setn (Od.ain.ain_code n) code).setn (Od.ain.ain_mv n)
    (code * s.on (Od.ain.ain_full_scale_mv n) / 4096)).setn (Od.ain.ain_time n) s.time

/-- The boundary of an axis under field-oriented control: duties load, or the step has missed its deadline
(R551, R571). -/
def State.focBoundary (s : State) (a : Nat) (i : Int × Int × Int) : State :=
  let x := s.axis a
  let miss := x.due && x.next.isNone
  let duty := x.next.getD x.duty
  let s := s.setAxis a { x with duty := duty, next := none, due := true, amps := i,
                                valid := s.validPhases a x.duty duty,
                                missRun := if miss then x.missRun + 1 else 0 }
  if miss then
    let s := s.inc32 (Od.axis_status.deadline_misses a)
    if 3 ≤ (s.axis a).missRun then s.axisEnter a 7 4 else s
  else s

/-- A PWM period begins. `iu`, `iv`, `iw`: the samples of the window at this boundary in mA; `bus`: the
conversion it triggers (R551, R554, R558, R565). In the gap of a pair switchover the duties hold (R574). -/
def execPwmPeriodBoundary (t : Nat) (a : Fin 6) (iu iv iw : Int) (bus : Nat) (s : State) :
    Host.Outcome State Fault Refusal :=
  let s := s.atTime t
  let st := s.axisState a
  let k := s.on (Od.axis_config.dc_bus_ain a)
  let s := s.ainSample k bus
  let s := s.seti (Od.axis_status.dc_bus_mv a) (s.oi (Od.ain.ain_mv k))
  if st = 2 ∨ st = 8 then
    ok (s.setAxis a { s.axis a with
      cut := overCurrent (iu, iv, iw) (s.on (Od.axis_motor.brake_current_ma a)) })
  else if (st = 3 ∨ st = 4 ∨ st = 6) ∧ s.pairState ≠ 6 then ok (s.focBoundary a (iu, iv, iw))
  else ok s

/-! ### The reference (R557, R572, R573) -/

/-- A value moved towards a target by at most a step. -/
def moveTo (v target step : Int) : Int :=
  if v < target then min target (v + step) else max target (v - step)

/-- The speed reference after a time in ns, in 10^-11 rpm: it ramps at accel_rpm_s; on a TRANSPORT axis in
RUNNING it goes down to the floor at la_decel_percent_s while the ramp is active (R557, R572). -/
def State.nextRef (s : State) (a : Nat) (dt : Nat) : Int :=
  let r := (s.axis a).ref
  let set : Int := 100000000000 * s.oi (Od.axis_config.speed_set_rpm a)
  let acc : Int := 100 * (s.on (Od.axis_config.accel_rpm_s a) * dt : Nat)
  if s.axisState a = 6 then moveTo r 0 acc
  else if s.axisState a = 4 ∧ s.on (Od.axis_config.axis_role a) = 1 ∧
      s.ob Od.transport_ramp.la_ramp_active = true then
    let floor := set * s.on Od.transport_ramp.la_floor_percent / 100
    if floor.natAbs < r.natAbs then
      moveTo r floor ((s.on Od.transport_ramp.la_decel_percent_s *
        (s.oi (Od.axis_config.speed_set_rpm a)).natAbs * dt : Nat) : Int)
    else moveTo r floor acc
  else moveTo r set acc

/-- T of R573 in mN: tension_set_mn, or the output of a loop. -/
def State.tension (s : State) (a : Nat) : Int :=
  let l := s.on (Od.axis_config.tension_loop a)
  if l = 255 then s.oi (Od.axis_config.tension_set_mn a)
  else (s.ctl.loops.toList.getD l LoopSt.reset).out * s.on (Od.loop_config.out_full_scale l) / 2 ^ 28

/-- The velocity of the web in µm/s (R42). -/
def State.webSpeedUm (s : State) : Int := psToUm s.lpi (fracRound (fracMul s.velPs 1000000000 1))

/-- The q-current reference of a tension axis in mA (R573): torque over 1.5 × Ke_nominal, forward on REWIND and
against the rotation on UNWIND; 0 beyond the speed limit of 1.1 × v / r_min, with 355/113
for π. -/
def State.tensionRef (s : State) (a : Nat) (speed : Int) : Int :=
  let r := s.on (Od.axis_status.roll_radius_um a)
  let ke := s.on (Od.axis_motor.ke_nominal_uvs a)
  let i := roundDiv (2 * s.tension a * r) (3 * ke)
  let fwd : Int := if s.oi (Od.axis_config.speed_set_rpm a) < 0 then -1 else 1
  let fast := decide (33 * 113 * s.webSpeedUm.natAbs < speed.natAbs * 355 * s.on (Od.axis_config.roll_radius_min_um a))
  if s.on (Od.axis_config.axis_role a) = 3 then if fast then 0 else fwd * i
  else if speed < 0 then i else if speed = 0 then 0 else -i

/-- The limits of R557: the current limit, and no energy back into a bus above dc_bus_max_mv. -/
def State.limitIq (s : State) (a : Nat) (speed i : Int) : Int :=
  let lim : Int := s.on (Od.axis_motor.current_limit_ma a)
  let i := clampInt (-lim) lim i
  if (s.on (Od.axis_config.dc_bus_max_mv a) : Int) < s.oi (Od.axis_status.dc_bus_mv a) ∧ i * speed < 0 then 0
  else i

/-! ### The FOC step (R556) -/

/-- Electrical angle of the encoder named in feedback, in 1/65 536 turn, without its offset (R561). -/
def State.encAngle (s : State) (a : Nat) : Nat :=
  let e := s.on (Od.axis_config.feedback a)
  let rev := max 1 (s.on (Od.encoder.enc_counts_per_rev e))
  ((s.enc e).count * 65536 * s.on (Od.axis_motor.pole_pairs a) / rev % 65536).toNat

/-- The axis has encoder feedback. -/
def State.hasEncoder (s : State) (a : Nat) : Bool := decide (s.on (Od.axis_config.feedback a) < 4)

/-- A line fault or an illegal transition of the feedback encoder stands (R559, R38). -/
def State.feedbackFault (s : State) (a : Nat) : Bool :=
  s.hasEncoder a && decide (s.on (Od.encoder.enc_status (s.on (Od.axis_config.feedback a))) % 16 ≠ 0)

/-- The rotor angle of a step: the encoder's, or the observer's estimate (R556). -/
def State.rotorAngle (s : State) (a est : Nat) : Nat :=
  match (s.axis a).encOff with
  | some o => if s.hasEncoder a then (s.encAngle a + o) % 65536 else est
  | none => est

/-- The phase currents of a step by the number of valid phases (R555): as measured; the third as minus the sum
of the other two; or predicted, where the spec gives no value. -/
def State.phaseAmps (s : State) (a : Nat) : State × (Int × Int × Int) :=
  let x := s.axis a
  let (u, v, w) := x.amps
  let n := x.valid
  if n = 7 then (s.setAxis a { x with predRun := 0 }, (u, v, w))
  else if n = 3 then (s.setAxis a { x with predRun := 0 }, (u, v, -(u + v)))
  else if n = 5 then (s.setAxis a { x with predRun := 0 }, (u, -(u + w), w))
  else if n = 6 then (s.setAxis a { x with predRun := 0 }, (-(v + w), v, w))
  else
    let f := s.freeCtr
    let s : State := { s with freeCtr := f + 2 }
    let s := (s.inc64 (Od.axis_status.predicted_periods a)).setAxis a { x with predRun := x.predRun + 1 }
    let pu := signedOf 32 (Config.free f)
    let pv := signedOf 32 (Config.free (f + 1))
    (s, (pu, pv, -(pu + pv)))

/-- The region of an index of modulation in 0.0001 (R558). -/
def modRegion (m : Nat) : Nat :=
  if m ≤ 9069 then 0 else if m ≤ 9514 then 1 else if m < 10000 then 2 else 3

/-- An on-interval as emitted: a multiple of 8 ns, not shorter than min_pulse_ns on either side (R551, R552). -/
def emitted (period least w : Nat) : Nat :=
  let w := min period (w / 8 * 8)
  if w < least ∨ period - w < least then if 2 * w < period then 0 else period else w

/-- Duties shifted down together until two phases are valid; where the shift cannot do it, the voltage is scaled
down until it does (R555). `lim`: the longest on-interval that leaves a phase valid. -/
def shiftDuties (lim : Nat) (d : Nat × Nat × Nat) : Nat × Nat × Nat :=
  let (u, v, w) := d
  let lo := min u (min v w)
  let hi := max u (max v w)
  let mid := u + v + w - lo - hi
  if mid ≤ lim then d
  else if mid - lim ≤ lo then (u - (mid - lim), v - (mid - lim), w - (mid - lim))
  else
    let k := fun (x : Nat) => (x - lo) * lim / (mid - lo)
    (k u, k v, k w)

/-- The duties of the next period from the commanded voltage (R556 steps 5 and 6, R558). -/
def State.modulate (s : State) (a mv angle : Nat) : State :=
  let vdc := s.on (Od.axis_status.dc_bus_mv a)
  let cap := s.on (Od.axis_config.max_modulation a)
  let m := if vdc = 0 then cap else min cap (roundDiv (31415926536 * mv : Nat) (2000000 * vdc * 1)).toNat
  let period := s.pwmPeriod a
  let x := s.axis a
  let d := Config.modulate m angle period
  let lim := period - 2 * s.on (Od.axis_config.dead_time_ns a) - s.windowNs a
  let d := if 4 ≤ x.predRun ∧ modRegion m < 3 then shiftDuties lim d else d
  let e := emitted period (s.on (Od.axis_config.min_pulse_ns a))
  let s := (s.setn (Od.axis_status.modulation a) m).setn (Od.axis_status.mod_region a) (modRegion m)
  s.setAxis a { x with next := some (e d.1, e d.2.1, e d.2.2), due := true }

/-- The speed or tension controller: reference and q current (R556 step 3). -/
def State.controlStep (s : State) (a : Nat) (speed : Int) : State :=
  let x := s.axis a
  let dt := s.now - x.refAt
  let ref := s.nextRef a dt
  let role := s.on (Od.axis_config.axis_role a)
  let s := if (role = 2 ∨ role = 3) ∧ s.speedAtLeast a speed 10 = true then
      let r := Config.rollRadius (s.on (Od.axis_status.roll_radius_um a)) s.webSpeedUm speed dt
      s.setn (Od.axis_status.roll_radius_um a)
        (max (s.on (Od.axis_config.roll_radius_min_um a)) (min (s.on (Od.axis_config.roll_radius_max_um a)) r))
    else s
  let start := decide (s.axisState a = 3)
  let iq := if start then (s.on (Od.axis_motor.start_current_ma a) : Int)
    else if role = 2 ∨ role = 3 then s.limitIq a speed (s.tensionRef a speed)
    else s.limitIq a speed (Config.speedPi (s.oi (Od.axis_config.speed_kp a)) (s.oi (Od.axis_config.speed_ki a))
      (ref - 100000000000 * speed) s.freeCtr)
  s.freeNext.setAxis a { x with ref := ref, refAt := s.now, iqRef := iq }

/-- The current controllers, the voltage limit and the modulation (R556 steps 4 to 6). -/
def State.currentStep (s : State) (a angle : Nat) (id iq : Int) : State :=
  let x := s.axis a
  let v := Config.currentPi [s.on (Od.axis_config.current_bw_hz a), s.on (Od.axis_motor.rs_mohm a),
    s.on (Od.axis_motor.ld_uh a), s.on (Od.axis_motor.lq_uh a), x.iqRef, id, iq, angle] s.freeCtr
  s.freeNext.modulate a v.1 v.2

/-- The observer's verdict on a step in RUNNING above handover speed (R559). -/
def State.observe (s : State) (a : Nat) (e : FocEstimate) : State :=
  let x := s.axis a
  let above := decide (s.on (Od.axis_motor.residual_limit_percent a) < e.residual) &&
    s.speedAtLeast a e.speed (s.on (Od.axis_motor.handover_speed_percent a))
  s.setAxis a { x with residRun := if above then x.residRun + 1 else 0 }

/-- The constant is evaluated in RUNNING at or above 20 % of rated speed (R560). -/
def State.evalKe (s : State) (a : Nat) (e : FocEstimate) : State :=
  if s.speedAtLeast a e.speed 20 then
    let s := s.setn (Od.axis_status.ke_estimate_uvs a) e.ke
    let x := s.axis a
    s.setAxis a { x with keFrom := if s.keBad a then some (x.keFrom.getD s.now) else none }
  else s.setAxis a { s.axis a with keFrom := none }

/-- The axis enters RUNNING. -/
def State.axisRun (s : State) (a : Nat) : State :=
  let x := s.axis a
  let s := s.axisEnter a 4 0
  s.setAxis a { s.axis a with next := x.next, due := x.due, ref := x.ref, refAt := x.refAt }

/-- A start hands over (R566, R567): with sensorless feedback at handover_speed_percent once the residual is
within its limit; with encoder feedback and a native start at once, fixing the offset at the first start after
an enable. -/
def State.handover (s : State) (a : Nat) (e : FocEstimate) : State :=
  let x := s.axis a
  let native := decide (s.on (Od.axis_config.start_method a) = 0)
  let ready := decide (s.on (Od.axis_motor.handover_speed_percent a) * s.rated a * 1000000000 ≤ x.ref.natAbs) &&
    decide (e.residual ≤ s.on (Od.axis_motor.residual_limit_percent a))
  if s.hasEncoder a then
    if s.feedbackFault a ∨ (native = false ∧ ready = false) then s
    else
      let off := x.encOff.getD ((e.angle + 65536 - s.encAngle a) % 65536)
      (s.setAxis a { x with encOff := some off }).axisRun a
  else if ready then s.axisRun a else s

/-- What a step decides at its end: handover, observer loss, the end of STOPPING, and the 10 s of R569. -/
def State.focDecide (s : State) (a : Nat) (e : FocEstimate) : State :=
  let st := s.axisState a
  if st = 3 then s.handover a e
  else if st = 6 then
    if s.speedAtLeast a e.speed (s.on (Od.axis_motor.stop_speed_percent a)) then s else s.axisOff a
  else
    let s := (s.observe a e).evalKe a e
    let s := if (s.axis a).since + 10000000000 ≤ s.now then s.setn (Od.axis_status.recatch_attempts a) 0 else s
    if s.on (Od.axis_motor.residual_periods a) ≤ (s.axis a).residRun ∨ s.feedbackFault a = true then
      s.observerLoss a
    else s

/-- The FOC engine has run a step of an axis (R555 to R560). -/
def execFocStep (t : Nat) (a : Fin 6) (e : FocEstimate) (s : State) : Host.Outcome State Fault Refusal :=
  let s := s.atTime t
  let st := s.axisState a
  if st = 2 then
    ok ((s.seti (Od.axis_status.speed_rpm a) e.speed).setn (Od.axis_status.electrical_angle a) e.angle)
  else if ¬(st = 3 ∨ st = 4 ∨ st = 6) ∨ s.pairState = 6 then ok s
  else
    let p := s.phaseAmps a
    let s := p.1
    let angle := s.rotorAngle a e.angle
    let dq := Config.park p.2.1 p.2.2.1 p.2.2.2 angle
    let s := ((s.seti (Od.axis_status.id_ma a) dq.1).seti (Od.axis_status.iq_ma a) dq.2).setn
      (Od.axis_status.electrical_angle a) angle
    let s := (s.seti (Od.axis_status.speed_rpm a) e.speed).setn (Od.axis_status.residual_percent a) e.residual
    ok (((s.controlStep a e.speed).currentStep a angle dq.1 dq.2).focDecide a e)

/-! ### The other events of an axis -/

/-- AXn_DRV_FLT_N is low for two cycles: all gate commands go low, and the axis faults (R553, R576). -/
def execDriverFault (t : Nat) (a : Fin 6) (s : State) : Host.Outcome State Fault Refusal :=
  let s := s.atTime t
  let st := s.axisState a
  if st = 0 ∨ st = 7 ∨ st = 8 then ok (s.setAxis a { s.axis a with cut := true })
  else ok (s.axisEnter a 7 3)

/-- The 16 probes have ended. `still`: the back-EMF stayed below the threshold of R562 in every probe; `e`: the
speed and angle they gave (R563). -/
def execSensingComplete (t : Nat) (a : Fin 6) (still : Bool) (e : FocEstimate) (s : State) :
    Host.Outcome State Fault Refusal :=
  let s := s.atTime t
  if s.axisState a ≠ 1 then ok s
  else
    let s := s.seti (Od.axis_status.speed_rpm a) (if still then 0 else e.speed)
    let fwd := if s.oi (Od.axis_config.speed_set_rpm a) < 0 then decide (e.speed < 0) else decide (0 < e.speed)
    if still ∨ s.speedAtLeast a e.speed (s.on (Od.axis_motor.stop_speed_percent a)) = false then
      ok (s.axisStart a)
    else if fwd ∧ s.speedAtLeast a e.speed (s.on (Od.axis_motor.catch_speed_percent a)) = true then
      let s := s.setn (Od.axis_status.ke_estimate_uvs a) e.ke
      if s.keBad a then ok (s.keBrake a)
      else
        let s := (s.axisEnter a 4 0).setn (Od.axis_status.electrical_angle a) e.angle
        ok (s.setAxis a { s.axis a with ref := 100000000000 * e.speed, refAt := s.now })
    else ok (s.axisBrake a 0)

/-- An abnormal constant has been held for 100 ms in RUNNING (R560). -/
def execKeAbnormal (t : Nat) (a : Fin 6) (s : State) : Host.Outcome State Fault Refusal :=
  let s := s.atTime t
  match (s.axis a).keFrom with
  | some k => if s.axisState a = 4 ∧ k + 100000000 ≤ s.now then ok (s.keBrake a) else ok s
  | none => ok s

/-- The speed has stayed below stop_speed_percent for brake_hold_ms (R565). -/
def execBrakeHoldDone (t : Nat) (a : Fin 6) (s : State) : Host.Outcome State Fault Refusal :=
  let s := s.atTime t
  if s.axisState a ≠ 2 then ok s
  else
    let p := (s.axis a).pend
    ok (if p = 0 then s.axisStart a else s.axisEnter a 7 p)

/-- Braking has not ended after brake_timeout_ms (R565). -/
def execBrakeTimeout (t : Nat) (a : Fin 6) (s : State) : Host.Outcome State Fault Refusal :=
  let s := s.atTime t
  if s.axisState a = 2 ∧ (s.axis a).since + 1000000 * s.on (Od.axis_motor.brake_timeout_ms a) ≤ s.now then
    ok (s.axisEnter a 7 5)
  else ok s

/-- A start has not handed over within start_timeout_ms (R568). -/
def execStartTimeout (t : Nat) (a : Fin 6) (s : State) : Host.Outcome State Fault Refusal :=
  let s := s.atTime t
  if s.axisState a = 3 ∧ (s.axis a).since + 1000000 * s.on (Od.axis_motor.start_timeout_ms a) ≤ s.now then
    ok (s.axisEnter a 7 6)
  else ok s

/-- recatch_delay_ms after an observer loss (R569). -/
def execRecatchDelayExpiry (t : Nat) (a : Fin 6) (s : State) : Host.Outcome State Fault Refusal :=
  let s := s.atTime t
  if s.axisState a = 5 ∧ (s.axis a).since + 1000000 * s.on (Od.axis_motor.recatch_delay_ms a) ≤ s.now then
    ok (s.axisSense a)
  else ok s

end Sys2Proof.Machine
end

