-- ==== Sys2Proof/Machine/Loops.lean ====
section
/-! DEFINITION. Control loops, their outputs and the pulse inputs (spec/16). -/

namespace Sys2Proof.Machine

/-- What no object holds of a loop. -/
def State.loop (s : State) (l : Nat) : LoopSt := s.ctl.loops.toList.getD l LoopSt.reset

/-- Replaces a loop. -/
def State.setLoop (s : State) (l : Nat) (x : LoopSt) : State :=
  { s with ctl := { s.ctl with loops := s.ctl.loops.setIfInBounds l x } }

/-- loop_state: 0 OFF, 1 RUNNING, 2 FAULT, 3 SAFE, 4 HELD (R608). -/
def State.loopState (s : State) (l : Nat) : Nat := s.on (Od.loop_status.loop_state l)

/-- 1 in Q3.28. -/
def one28 : Int := 268435456

/-- A sum in Q3.28; outside the format the spec states no value, and the result is a free one. -/
def State.fit28 (s : State) (v : Int) : State × Int :=
  if -2147483648 ≤ v ∧ v ≤ 2147483647 then (s, v) else (s.freeNext, signedOf 32 s.freeVal)

/-- A product sum with 56 fraction bits, rounded once to Q3.28 (R585). -/
def State.round28 (s : State) (v : Int) : State × Int := s.fit28 (roundDiv v 268435456)

/-- The loop's output object: y, or y × out_full_scale for the target OBJECT (R587, R608). -/
def State.putOutput (s : State) (l : Nat) (y : Int) : State :=
  let s := s.setLoop l { s.loop l with out := y }
  if s.on (Od.loop_config.out_target l) = 255 then
    let p := s.fit28 (y * s.on (Od.loop_config.out_full_scale l))
    p.1.seti (Od.loop_status.loop_output l) p.2
  else s.seti (Od.loop_status.loop_output l) y

/-- The output that a loop drives names it, or 16#FF (R611). -/
def State.setOwner (s : State) (l owner : Nat) : State :=
  let k := s.on (Od.loop_config.out_target l)
  if k < 16 then s.setn (Od.output.out_owner k) owner else s

/-- What an output carries: a DAC code of AOUT0 to AOUT7, a duty in Q3.28 of HPWM0 to HPWM7 (R587, R588, R591,
R611). -/
def State.outputNow (s : State) (k : Nat) : Int :=
  let l := s.on (Od.output.out_owner k)
  let y := if l < 32 then (s.loop l).out else if s.safe then 0 else s.oi (Od.output.out_value k)
  if s.ob (Od.output.out_enable k) = false then 0
  else if k < 8 then clampInt 0 4095 (roundDiv (y * 4095) 268435456)
  else clampInt 0 one28 y

/-- A loop enters FAULT with a reason, and its output takes safe_output (R589, R590). -/
def State.loopFault (s : State) (l reason : Nat) : State :=
  let s := (s.setn (Od.loop_status.loop_state l) 2).setn (Od.loop_status.loop_reason l) reason
  (s.putOutput l (s.oi (Od.loop_config.safe_output l))).event 0x5803 (leBytes 1 l ++ leBytes 1 reason)

/-- Another enabled loop drives the target (R587). -/
def State.targetBusy (s : State) (l : Nat) : Bool :=
  let k := s.on (Od.loop_config.out_target l)
  decide (k < 16) && (List.range 32).any (fun m => m ≠ l && s.loopState m ≠ 0 &&
    s.on (Od.loop_config.out_target m) = k)

/-- A loop starts: its histories are set so that the output starts at manual_output (R588). -/
def State.loopStart (s : State) (l : Nat) : State :=
  let m := s.oi (Od.loop_config.manual_output l)
  let s := s.setLoop l { e := [0, 0, 0], y := [m, m, m], out := m, missRun := 0 }
  let s := (s.setn (Od.loop_status.loop_state l) 1).setn (Od.loop_status.loop_reason l) 0
  (s.putOutput l m).setOwner l l

/-- A loop stops: its target carries out_value again (R588). -/
def State.loopStop (s : State) (l : Nat) : State :=
  ((s.setn (Od.loop_status.loop_state l) 0).setn (Od.loop_status.loop_reason l) 0).setOwner l 255

/-- What a write of loop_enable does (R587, R588, R590). -/
def State.loopEnabled (s : State) (l : Nat) : State :=
  let st := s.loopState l
  if s.ob (Od.loop_config.loop_enable l) then
    if st ≠ 0 then s
    else if s.targetBusy l then s.setn (Od.loop_status.loop_reason l) 3
    else s.loopStart l
  else if st = 0 ∨ st = 1 ∨ st = 2 ∨ st = 4 then s.loopStop l
  else s

/-- The safe state stands: a loop that is not OFF enters SAFE, and its output takes safe_output (R591). -/
def State.loopSafe (s : State) (l : Nat) : State :=
  if s.loopState l = 3 then s
  else (s.setn (Od.loop_status.loop_state l) 3).putOutput l (s.oi (Od.loop_config.safe_output l))

/-! ### The sample tick (R585) -/

/-- Temperature of a sensor in 0.1 °C, TS0 to TS15 and then TD0 to TD7. -/
def State.sensorTemp (s : State) (n : Nat) : Int :=
  if n < 16 then s.oi (Od.remote_temp.temperature n) else s.oi (Od.die_temp.td_temperature (n - 16))

/-- A sensor is in sensor fault (R597). -/
def State.sensorFault (s : State) (n : Nat) : Bool :=
  if n < 16 then decide (s.on (Od.remote_temp.ts_status n) ≠ 0) else decide (s.on (Od.die_temp.td_status (n - 16)) ≠ 0)

/-- The process value in Q3.28: of an AIN source the conversion the tick triggers, otherwise the latest sample
(R583, R585). -/
def State.takePv (s : State) (l code : Nat) : State × Int :=
  let src := s.on (Od.loop_config.pv_source l)
  if src < 32 then (s.ainSample src code, (code : Int) * 65536)
  else (s, roundDiv (s.sensorTemp (src - 32) * 268435456) 2000)

/-- The set-point input (R585 step 2). -/
def State.takeSp (s : State) (l code : Nat) : State × Int :=
  let src := s.on (Od.loop_config.sp_source l)
  let g := s.oi (Od.loop_config.sp_gain l)
  let o := s.oi (Od.loop_config.sp_offset l) * 268435456
  if src < 32 then (s.ainSample src code).round28 (g * ((code : Int) * 65536) + o)
  else if src < 255 then s.round28 (g * s.oi (Od.pulse_in.pulse_value (src - 64)) + o)
  else (s, s.oi (Od.loop_config.setpoint l))

/-- The set point in force moves towards the input (R585 step 3). -/
def State.slewSp (s : State) (l : Nat) (target : Int) : Int :=
  let r := s.on (Od.loop_config.sp_slew_per_s l)
  if r = 0 then target
  else moveTo (s.oi (Od.loop_status.sp_in_force l)) target
    ((r * s.on (Od.loop_config.sample_period_ns l) / 1000000000 : Nat) : Int)

/-- The product sum of R585 step 5. -/
def State.filterSum (s : State) (l : Nat) (e : Int) : Int :=
  let x := s.loop l
  let c := fun (k : Nat → Nat) => s.oi (k l)
  let v := c Od.loop_config.coeff_b0 * e + c Od.loop_config.coeff_b1 * x.e.getD 0 0 +
    c Od.loop_config.coeff_b2 * x.e.getD 1 0 + c Od.loop_config.coeff_a1 * x.y.getD 0 0 +
    c Od.loop_config.coeff_a2 * x.y.getD 1 0
  if s.on (Od.loop_config.loop_form l) = 1 then
    v + c Od.loop_config.coeff_b3 * x.e.getD 2 0 + c Od.loop_config.coeff_a3 * x.y.getD 2 0
  else v

/-- One completed step of a loop (R585). -/
def State.loopStep (s : State) (l pvCode spCode : Nat) : State :=
  let p := s.takePv l pvCode
  let q := p.1.takeSp l spCode
  let s := q.1
  let sp := s.slewSp l q.2
  let er := s.fit28 (sp - p.2)
  let s := er.1
  let y := s.round28 (s.filterSum l er.2)
  let s := y.1
  let out := clampInt (s.oi (Od.loop_config.out_min l)) (s.oi (Od.loop_config.out_max l)) y.2
  let x := s.loop l
  let s := s.setLoop l { x with e := (er.2 :: x.e).take 3, y := (out :: x.y).take 3, missRun := 0 }
  let s := (s.seti (Od.loop_status.pv l) p.2).seti (Od.loop_status.sp_in_force l) sp
  (s.putOutput l out).inc64 (Od.loop_status.samples l)

/-- A miss holds the previous output, and loop_miss_limit of them in a row fault the loop (R589). -/
def State.loopMiss (s : State) (l : Nat) : State :=
  let x := s.loop l
  let s := (s.setLoop l { x with missRun := x.missRun + 1 }).inc32 (Od.loop_status.misses l)
  let lim := s.on (Od.loop_config.loop_miss_limit l)
  if lim ≠ 0 ∧ lim ≤ x.missRun + 1 then s.loopFault l 1 else s

/-- A loop's sample tick. `pvCode`, `spCode`: the conversions it triggers; `missed`: the step is not complete by
the next tick; `latency`: ns from the tick to the output; `wait`: ns a triggered conversion waited (R585, R589,
R590, R593). -/
def execLoopSampleTick (t : Nat) (l : Fin 32) (pvCode spCode : Nat) (missed : Bool) (latency wait : Nat)
    (s : State) : Host.Outcome State Fault Refusal :=
  let s := s.atTime t
  let src := s.on (Od.loop_config.pv_source l)
  if s.loopState l ≠ 1 then ok s
  else if 32 ≤ src ∧ s.sensorFault (src - 32) = true then ok (s.loopFault l 2)
  else
    let s := s.setn Od.adc_status.trigger_wait_max_ns (max (s.on Od.adc_status.trigger_wait_max_ns) wait)
    if missed then ok (s.loopMiss l)
    else
      ok ((s.loopStep l pvCode spCode).setn (Od.loop_status.latency_max_ns l)
        (max (s.on (Od.loop_status.latency_max_ns l)) latency))

/-! ### Pulse inputs (R584) -/

/-- The value of an input from its last interval and high time, both in 10 ns (R583, R584). -/
def State.pulseValue (s : State) (n interval high : Nat) : State :=
  if interval = 0 then s
  else
    let s := s.setn (Od.pulse_in.pulse_freq_mhz n) ((roundDiv 100000000000 interval).toNat % 2 ^ 32)
    let v := if s.on (Od.pulse_in.pulse_mode n) = 1 then roundDiv ((high : Int) * 268435456) interval
      else roundDiv (100000000 * 268435456) (interval * s.on (Od.pulse_in.pulse_full_scale_hz n))
    let p := s.fit28 v
    p.1.seti (Od.pulse_in.pulse_value n) p.2

/-- A qualified rising edge on PULSE_IN; `high`: the high time since the last one, in 10 ns (R584). -/
def execPulseInEdge (t : Nat) (n : Fin 4) (high : Nat) (s : State) : Host.Outcome State Fault Refusal :=
  let s := s.atTime t
  let now := s.now / 10
  let s1 : State := { s with ctl := { s.ctl with pulses := s.ctl.pulses.set n ⟨some now⟩ } }
  match (s.ctl.pulses.get n).last with
  | none => ok s1
  | some b => ok ((s1.pulseValue n (now - b) (min high (now - b))).setn (Od.pulse_in.pulse_status n) 0)

/-- No edge for pulse_timeout_ms: the value is 0 and the timeout bit is set (R584). -/
def execPulseTimeout (t : Nat) (n : Fin 4) (s : State) : Host.Outcome State Fault Refusal :=
  let s := s.atTime t
  let lim := 100000 * s.on (Od.pulse_in.pulse_timeout_ms n)
  let due := match (s.ctl.pulses.get n).last with
    | some b => decide (b + lim ≤ s.now / 10)
    | none => true
  if due then
    let s : State := { s with ctl := { s.ctl with pulses := s.ctl.pulses.set n ⟨none⟩ } }
    ok (((s.setn (Od.pulse_in.pulse_value n) 0).setn (Od.pulse_in.pulse_freq_mhz n) 0).setn
      (Od.pulse_in.pulse_status n) 1)
  else ok s

end Sys2Proof.Machine
end

