-- ==== Sys2Proof/Machine/Rails.lean ====
section
/-! DEFINITION. Power states, the rail sequencer, margins and domains (spec/18): the operations the commands of
the power chapter and the safe state share. -/

namespace Sys2Proof.Machine

/-- power_state (R645): 0 STANDBY, 1 POWERING_UP, 2 ON, 3 POWERING_DOWN, 4 OFF_WAIT, 5 SERVICE, 6 LATCHED. -/
def State.powerState (s : State) : Nat := s.on Od.power_control.power_state

/-- Changes the power part. -/
def State.setPower (s : State) (p : PowerSt) : State := { s with power := p }

/-- The device changes power state with a cause (R646, R668). -/
def State.powerEnter (s : State) (st cause : Nat) : State :=
  ((s.setn Od.power_control.power_state st).setn Od.power_control.power_cause cause).event 0x5C00
    (leBytes 1 st ++ leBytes 1 cause)

/-- A sequencer channel. -/
def State.seqCh (s : State) (c : Nat) : SeqCh := s.power.seq.toList.getD c ⟨false, false⟩

/-- Replaces a sequencer channel. -/
def State.setSeq (s : State) (c : Nat) (x : SeqCh) : State :=
  s.setPower { s.power with seq := s.power.seq.setIfInBounds c x }

/-- seq_channel_state: 0 OFF, 1 RISING, 2 SETTLING, 3 IN_WINDOW, 4 FALLING, 5 FAULT (R672). -/
def State.setSeqState (s : State) (c st : Nat) : State := s.setn (Od.seq_channel.seq_channel_state c) st

/-- Channels of a step (R647). -/
def State.stepChans (s : State) (k : Nat) : List Nat :=
  (List.range 16).filter (fun c => s.on (Od.seq_channel.seq_step c) = k)

/-- A step begins or its turn comes, for these channels (R647, R648). -/
def State.beginStep (s : State) (k : Nat) (cs : List Nat) : State :=
  (s.setn Od.power_control.seq_step_now k).setPower { s.power with stepWait := cs }

/-- No step is in progress. -/
def State.endSteps (s : State) : State := s.beginStep 255 []

/-! ### Domains (R639, R640) -/

/-- Domains in the order they are switched on (R640). -/
def domainOrder : List Nat := [0, 1, 2, 3, 4, 6, 7, 8, 9, 5, 10, 11, 12, 13]

/-- The domain is on while the device is in ON: a switchable one only with domain_enable true, PD_METRO only on a
part that has the island (R639, R674). -/
def State.domainWanted (s : State) (d : Nat) : Bool :=
  if d = 1 then bitAt (s.on Od.device_identity.features) 0
  else if d = 8 ∨ d = 10 ∨ d = 11 ∨ d = 13 then s.ob (Od.power_domain.domain_enable d)
  else true

/-- Switches one domain on. -/
def State.domainOn (s : State) (d : Nat) : State :=
  if s.on (Od.power_domain.domain_state d) = 1 then s
  else (s.setn (Od.power_domain.domain_state d) 1).inc32 (Od.power_domain.domain_on_count d)

/-- Switches on, in order, the wanted domains of a list (R640). -/
def State.domainsOn (s : State) (ds : List Nat) : State :=
  (domainOrder.filter (fun d => ds.contains d)).foldl (fun a d =>
    if a.domainWanted d then a.domainOn d else a) s

/-- The content a switchable domain loses when it is switched off (R640). -/
def State.domainReset (s : State) (d : Nat) : State :=
  if d = 8 then
    s.setFire { s.fire with links := Vector.replicate 48 LinkSt.reset }
  else if d = 10 then
    { s with img := ImgSt.reset }
  else if d = 11 then { s with ctl := { s.ctl with axes := Vector.replicate 6 Axis.reset } }
  else if d = 13 then
    { s with mem := { s.mem with cells := s.mem.cells.filter (fun c =>
      decide (c.1 < 0x18000000) || decide (0x18100000 ≤ c.1)) } }
  else s

/-- Switches a domain off. -/
def State.domainOff (s : State) (d : Nat) : State :=
  (s.domainReset d).setn (Od.power_domain.domain_state d) 0

/-- Switches every domain but PD_AON and PD_MGMT off, in reverse order (R640); PD_MGMT goes with the last rail,
for it writes the hold-up record (R641, R661). -/
def State.domainsOff (s : State) : State :=
  (domainOrder.reverse.filter (fun d => d ≠ 0 && d ≠ 2)).foldl (fun a d =>
    a.setn (Od.power_domain.domain_state d) 0) s

/-! ### Margins (R652, R653) -/

/-- The value a margin moves towards: 0 outside ON and in the safe state (R653). -/
def State.marginTarget (s : State) (m : Nat) : Int :=
  if s.powerState = 2 ∧ s.safe = false then s.oi (Od.margin.margin_tenths m) else 0

/-- Every margin stands at 0. -/
def State.marginsZero (s : State) : Bool :=
  (List.range 8).all (fun m => s.oi (Od.margin.margin_in_effect m) = 0)

/-- Every 100 µs a margin moves 0.1 % towards its target (R653). -/
def execMarginRampStep (t : Nat) (m : Fin 8) (s : State) : Host.Outcome State Fault Refusal :=
  let s := s.atTime t
  ok (s.seti (Od.margin.margin_in_effect m)
    (moveTo (s.oi (Od.margin.margin_in_effect m)) (s.marginTarget m) 1))

/-! ### What a device reset leaves (R175, R604, R643, R658) -/

/-- Objects PD_AON holds through a device reset: the power state and its cause, the latches, the copies of what
is persistent, and what counts since the main-supply power-on; with them boot_id, which must outlast a reset to
differ from the one before (R142, R664). -/
def aonObjects : List Nat :=
  [Od.power_control.power_state, Od.power_control.power_cause, Od.power_control.seq_fault_latched,
    Od.power_control.seq_fault_channel, Od.power_control.seq_fault_kind, Od.power_control.aon_state_lost,
    Od.supply_supervisor.sup_main_mv, Od.thermal_status.thermal_shutdown_latched,
    Od.thermal_status.shutdown_sensor, Od.thermal_status.shutdown_temperature, Od.boot_status.boot_fail_code,
    Od.device_identity.boot_id, Od.clock_sources.xtal_status, Od.clock_sources.netref_status, Od.clock_sources.rtc_status] ++
  (List.range 14).map Od.power_domain.domain_state ++ (List.range 14).map Od.power_domain.domain_on_count ++
  (List.range 16).map Od.seq_channel.seq_channel_state ++ (List.range 16).map Od.seq_channel.seq_monitor_mv

/-- Values in force right after a device reset: what is durable, and what PD_AON holds (R175). -/
def State.keptVals (s : State) : List (Nat × OVal) :=
  let per := s.od.flash.filter (fun p => match odRow p.1 with
    | some r => decide (r.per ≠ 0)
    | none => false)
  aonObjects.foldl (fun a k => match kvGet s.od.vals k with
    | some v => kvSet a k v
    | none => kvDel a k) per

/-- A device reset with a cause (R198): volatile state returns to its reset value; flash, fuses, PD_AON, the
metrology island and what lies outside the device stay. Commands that wait are not the device's. -/
def State.restart (s : State) (cause : Nat) : State :=
  let r := State.reset
  let s1 : State := { r with
    pending := s.pending
    now := s.now
    freeCtr := s.freeCtr
    od := { vals := s.keptVals, pend := s.od.kept, line := [], flash := s.od.flash, kept := s.od.kept }
    log := { r.log with flash := s.log.flash, nextNum := s.log.nextNum, nextHeld := s.log.nextHeld }
    net := { r.net with sfp := s.net.sfp, ptp := { s.net.ptp with masters := Vector.replicate 3 none } }
    jrn := { s.jrn with pending := [] }
    fire := { r.fire with ckptNozzles := s.fire.ckptNozzles, ckptVals := s.fire.ckptVals }
    insp := { r.insp with saved := s.insp.saved, savedSerial := s.insp.savedSerial }
    met := s.met
    power := { s.power with stepWait := [], warnAt := none, stopAt := none, record := none, safeUp := false,
                            resetAt := s.now, onAt := s.now, resetDue := false }
    fault := { r.fault with actions := s.fault.kept, kept := s.fault.kept, fenceIn := s.fault.fenceIn,
                            laneUp := s.fault.laneUp }
    mgmt := { r.mgmt with dirs := s.mgmt.dirs, slots := s.mgmt.slots, fuses := s.mgmt.fuses,
                          integImage := s.mgmt.integImage } }
  s1.setn Od.management.reset_cause cause

/-- reset_cause of a power-down with a cause of R668 (R658): a supply reset after a power loss, a fault after a
rail fault, requested otherwise. -/
def resetCause (cause : Nat) : Nat := if cause = 4 then 3 else if cause = 5 ∨ cause = 6 then 4 else 1

/-! ### Rails coming down (R648) -/

/-- The last channel of a power-down is down: OFF_WAIT, or LATCHED after a failed service power-up (R646). -/
def State.allDown (s : State) : State :=
  let s := s.endSteps
  if s.powerState ≠ 3 then s
  else
    let s := s.setn (Od.power_domain.domain_state 2) 0
    let c := s.on Od.power_control.power_cause
    let s := s.restart (resetCause c)
    if s.ob Od.power_control.seq_fault_latched = true ∧ s.power.svcFailed = true then s.powerEnter 6 c
    else s.powerEnter 4 c

/-- Channels that are to come down: every one that is up, or in ON those whose seq_safe_action is OFF (R650). -/
def State.fallers (s : State) : List Nat :=
  (List.range 16).filter (fun c => (s.seqCh c).en &&
    (s.powerState ≠ 2 || s.on (Od.seq_channel.seq_safe_action c) = 1))

/-- The turn of the highest step with channels to bring down, or the end (R648). -/
def State.nextDown (s : State) : State :=
  let f := s.fallers
  match f.map (fun c => s.on (Od.seq_channel.seq_step c)) with
  | [] => s.allDown
  | k :: ks =>
    let m := ks.foldl max k
    s.beginStep m (f.filter (fun c => s.on (Od.seq_channel.seq_step c) = m))

/-- Rails come down for a power-down with a cause (R646, R648). -/
def State.powerDown (s : State) (cause : Nat) : State := (s.powerEnter 3 cause).domainsOff.nextDown

/-- seq_off_delay_us after the turn of its step, a channel's SEQ_EN goes low, once every margin is back at 0
(R648). -/
def execSeqDisableDelayExpiry (t : Nat) (c : Fin 16) (s : State) : Host.Outcome State Fault Refusal :=
  let s := s.atTime t
  if (s.power.stepWait.contains c.val && s.fallers.contains c.val && s.marginsZero) = false then ok s
  else
    let s := s.setSeq c { s.seqCh c with en := false, safeOff := decide (s.powerState = 2) }
    ok (s.setSeqState c 4)

/-- One channel of the step is done with coming down. -/
def State.channelDone (s : State) (c : Nat) : State :=
  let w := s.power.stepWait.filter (fun x => x ≠ c)
  let s := s.setPower { s.power with stepWait := w }
  if w.isEmpty then s.nextDown else s

/-- A channel's monitor falls below seq_off_level_mv; with the last one of the step the next step comes down
(R648). -/
def execSeqChannelDown (t : Nat) (c : Fin 16) (mv : Nat) (s : State) : Host.Outcome State Fault Refusal :=
  let s := s.atTime t
  if s.power.stepWait.contains c.val = false ∨ s.on (Od.seq_channel.seq_channel_state c) ≠ 4 ∨
      s.on (Od.seq_channel.seq_off_level_mv c) ≤ mv then ok s
  else ok (((s.setSeqState c 0).setn (Od.seq_channel.seq_monitor_mv c) mv).channelDone c)

/-- Counts and pushes a rail fault (R648, R668). -/
def State.railFault (s : State) (c kind : Nat) : State :=
  let s := (s.setSeqState c 5).inc32 (Od.seq_channel.seq_faults c)
  s.event 0x5C03 (leBytes 1 c ++ leBytes 1 kind ++ leBytes 2 (s.on (Od.seq_channel.seq_monitor_mv c)))

/-- A step is not down after seq_down_timeout_ms: its channels are counted, and the sequence goes on (R648). -/
def execSeqDownTimeout (t : Nat) (s : State) : Host.Outcome State Fault Refusal :=
  let s := s.atTime t
  let late := s.power.stepWait.filter (fun c => s.on (Od.seq_channel.seq_channel_state c) = 4)
  ok (late.foldl (fun a c => (a.railFault c 3).channelDone c) s)

/-! ### The sequencer latch (R646, R649) -/

/-- Sets the latch with its channel and kind. -/
def State.seqLatch (s : State) (c kind : Nat) : State :=
  ((s.setb Od.power_control.seq_fault_latched true).setn Od.power_control.seq_fault_channel c).setn
    Od.power_control.seq_fault_kind kind

/-- Clears the latch. -/
def State.seqUnlatch (s : State) : State :=
  let s := ((s.setb Od.power_control.seq_fault_latched false).setn Od.power_control.seq_fault_channel 255).setn
    Od.power_control.seq_fault_kind 0
  s.setPower { s.power with svcFailed := false }

end Sys2Proof.Machine
end

