-- ==== Sys2Proof/Machine/SafeState.lean ====
section
/-! DEFINITION. Fault sources and their actions, FAULT_N, changes of pair state, and entering and leaving the
safe state (spec/19): the operations every cause shares. -/

namespace Sys2Proof.Machine

/-- Changes the fault part. -/
def State.setFault (s : State) (f : FaultSt) : State := { s with fault := f }

/-! ### Sources (R676 to R680) -/

/-- A fault source; one that is not listed is at rest. -/
def State.source (s : State) (n : Nat) : Source := (kvGet s.fault.sources n).getD ⟨0, 0, false, 0⟩

/-- Replaces a source. -/
def State.setSource (s : State) (n : Nat) (x : Source) : State :=
  s.setFault { s.fault with sources := kvSet s.fault.sources n x }

/-- Numbers the table of R676 lists. -/
def sourceListed (n : Nat) : Bool :=
  decide (n ≤ 7) || (decide (0x20 ≤ n) && decide (n ≤ 0x26)) || (decide (0x40 ≤ n) && decide (n ≤ 0x79)) ||
  (decide (0x80 ≤ n) && decide (n ≤ 0x91)) || (decide (0xA0 ≤ n) && decide (n ≤ 0xB8)) ||
  (decide (0xC0 ≤ n) && decide (n ≤ 0xD2)) || (decide (0xE0 ≤ n) && decide (n ≤ 0xE3)) ||
  (decide (0xF0 ≤ n) && decide (n ≤ 0xF4))

/-- First numbers of the groups (R708). -/
def groupBases : List Nat := [0x00, 0x20, 0x40, 0x80, 0xA0, 0xC0, 0xE0, 0xF0]

/-- Group of a source (R676). -/
def groupOf (n : Nat) : Nat := (groupBases.filter (fun b => decide (b ≤ n))).length - 1

/-- Listed sources of a group. -/
def groupSources (g : Nat) : List Nat :=
  (List.range 64).filterMap (fun i =>
    let n := groupBases.getD g 0 + i
    if n < 256 ∧ sourceListed n = true ∧ groupOf n = g then some n else none)

/-- Actions that cannot be removed (R676, R678). -/
def fixedActions (n : Nat) : Nat :=
  if n ≤ 2 ∨ n = 4 ∨ n = 0xB8 ∨ (0xC0 ≤ n ∧ n ≤ 0xCF) then 4 else 0

/-- The action set of a source by default (R676). -/
def defaultActions (n : Nat) : Nat :=
  if sourceListed n then
    let fo := decide (n ≤ 7) || (decide (0x20 ≤ n) && decide (n ≤ 0x23)) || n = 0x25 || n = 0x26 ||
      (decide (0xB0 ≤ n) && decide (n ≤ 0xB7)) || n = 0xE0
    3 + fixedActions n + 8 * b2n fo
  else 0

/-- The action set of a source (R677). -/
def State.actions (s : State) (n : Nat) : Nat := (kvGet s.fault.actions n).getD (defaultActions n)

/-- A source stands as ACTIVE: PAIR_ERROR and TEST_FAILED are handled as ACTIVE (R675, R681). -/
def Source.active (x : Source) : Bool := decide (x.state ≠ 0)

/-- The SAFE action of a source that is active applies: on a sequencer channel for WINDOW_LOST (R676). -/
def State.safeSource (s : State) (n : Nat) : Bool :=
  bitAt (s.actions n) 2 && (!(decide (0xC0 ≤ n) && decide (n ≤ 0xCF)) ||
    (s.on Od.power_control.seq_fault_channel = n - 0xC0 && s.on Od.power_control.seq_fault_kind = 2))

/-- A source with the SAFE action is active (R687, R703). -/
def State.safeHeld (s : State) : Bool := s.fault.sources.any (fun p => p.2.active && s.safeSource p.1)

/-- FAULT_N is low (R680, R717): through its pulse, in the safe state and after a self-fault, after a boot
failure, and as fault_n_mode says. -/
def State.faultN (s : State) : Bool :=
  s.safe || decide (s.now < s.fault.pulseEnd) || decide (s.on Od.boot_status.boot_fail_code ≠ 0) ||
  (if s.on Od.fault_collector.fault_n_mode = 0 then
    s.fault.sources.any (fun p => p.2.sticky && bitAt (s.actions p.1) 1)
  else s.ob Od.fault_collector.fault_n_drive)

/-- Renews fault_n_asserted. -/
def State.renewFaultN (s : State) : State := s.setb Od.fault_collector.fault_n_asserted s.faultN

/-! ### Pair state (R689, R691) -/

/-- Answers that waited for the standby are sent: the device is the only one (R694). -/
def State.releaseMirror (s : State) : State :=
  let l := s.fault.held
  let s := s.setFault { s.fault with held := [] }
  l.foldl (fun a h => a.sendIn h.slot h.epoch h.cls h.mtype h.body) s

/-- PAIR_ACT_OUT and the drivers of the shared outputs follow the pair state and PAIR_FENCE_IN_N (R689). -/
def State.pairOutputs (s : State) : State :=
  let st := s.pairState
  let act := (st = 0 || st = 2 || st = 5 || st = 6) && !s.fault.fenceIn
  s.setFault { s.fault with actOut := act, hiZ := !act }

/-- The device changes pair state with a reason (R691). -/
def State.pairEnter (s : State) (st reason : Nat) : State :=
  let s := ((s.setn Od.pair_status.pair_state st).setn Od.pair_status.pair_reason reason).pairOutputs
  let s := s.event 0x6100 (leBytes 1 st ++ leBytes 1 reason)
  if st = 2 then s.releaseMirror else s

/-- Line of the last FIRE of a plane, or of the last scan of a Beam Engine unit (R692). -/
def State.lastFired (s : State) (r : Nat) : Int :=
  if r < 4 then
    match s.fire.flown.toList.getD r [] with
    | l :: _ => l.n
    | [] => 0
  else (s.grid r).nextLine - 1

/-- Bits of the groups with an active source, and of the safe state (R692). -/
def State.faultSummary (s : State) : Nat :=
  (List.range 8).foldl (fun a g =>
    if s.fault.sources.any (fun p => p.2.active && groupOf p.1 = g) then a + 2 ^ g else a) (256 * b2n s.safe)

/-- mirror_seq_received of the heartbeats sent: the last frame received in order before any whose write is not yet
durable, so that the active acknowledges none of those (R692, R694). -/
def State.mirrorAck (s : State) : Nat :=
  match s.fault.applying with
  | q :: _ => (q + 2 ^ 32 - 1) % 2 ^ 32
  | [] => s.fault.mirrorRx

/-- A heartbeat, kind 16#01, or a RELINQUISH, kind 16#03 (R692). -/
def State.heartbeat (s : State) (kind : Nat) : List Byte :=
  let b := leBytes 2 0x4D4C ++ leBytes 1 kind ++ leBytes 1 s.pairState ++
    leBytes 2 (s.on Od.pair_status.pair_epoch) ++ leBytes 2 (s.on Od.device_identity.firmware_version / 2 ^ 24) ++
    leBytes 4 s.fault.mirrorSent ++ leBytes 4 s.mirrorAck ++ leBytes 8 s.time ++
    leBytes 8 (patternOf 64 s.xInt) ++ leBytes 8 (patternOf 64 s.web.chwm) ++
    (List.range 6).flatMap (fun r => leBytes 4 (patternOf 32 (s.lastFired r))) ++
    leBytes 4 s.faultSummary ++ leBytes 4 (s.on Od.pair_health.health) ++ List.replicate 20 0
  b ++ leBytes 4 (crc32c b)

/-- Sends a heartbeat or a RELINQUISH on both lanes. -/
def State.beat (s : State) (kind : Nat) : State := s.setFault { s.fault with sent := s.heartbeat kind }

/-- An active device with a ready standby hands the line over: RELINQUISH is sent, and it is FENCED (R691,
R702). -/
def State.relinquish (s : State) : State := if s.pairState = 5 then (s.beat 3).pairEnter 7 4 else s

/-! ### Entering the safe state (R685) -/

/-- A head link in the safe state: IDLE only, a frame in progress ended by ABORT (R415). -/
def State.linkSafe (s : State) (k : Nat) : State :=
  let s := s.setLink k { s.link k with waiting := [], asm := [] }
  ((chansOf k).foldl (fun a ch => a.setChan ch 7 0) s).setn (Od.head_link.link_state k) 7

/-- The parts take their safe effects (R685). -/
def State.safeParts (s : State) : State :=
  let s := (List.range 48).foldl (fun a k => a.linkSafe k) s
  let s := (List.range 4).foldl (fun a p => a.refreshPlane p) s
  let s := (s.unitSafe 0).unitSafe 1
  let s := (List.range 6).foldl (fun a x => a.axisSafe x) s
  let s := (List.range 32).foldl (fun a l => a.loopSafe l) s
  if s.powerState = 2 ∧ s.fallers.isEmpty = false then s.nextDown else s

/-- Enters the safe state with a cause. `close`: items in BOUND or PRINTING close with reason SAFE_STATE; at T_S
they take the power cause instead (R656, R685). A device that relinquishes closes none (R702). -/
def State.safeEnter (s : State) (cause : Nat) (close : Bool) : State :=
  if s.safe then s
  else
    let s := s.relinquish
    let s := s.setn Od.fault_collector.collector_state 1
    let s := (s.setn Od.fault_collector.safe_cause cause).setn Od.fault_collector.safe_entry_time s.time
    let s := (s.inc32 Od.fault_collector.safe_entries).event 0x6002 (leBytes 2 cause)
    let s := if close && s.pairActive then s.disposeAll (fun _ => true) 6 7 else s
    s.safeParts.renewFaultN

/-! ### Leaving it (R687) -/

/-- A write by the device itself, with its Change Log record (R183, R687). -/
def State.deviceWrite (s : State) (k : Nat) (v : OVal) : State :=
  match odRow k with
  | none => s
  | some r => (s.logObj 1 Writer.device k (s.ov k) v (decide (r.per ≠ 0))).setv k v

/-- A link leaves the safe state: LINK_DOWN, or DISABLED where it is not enabled (R415). -/
def State.linkUnsafe (s : State) (k : Nat) : State :=
  let st := if s.ob (Od.head_link.link_enable k) then 1 else 0
  ((chansOf k).foldl (fun a ch => a.setChan ch st 0) s).setn (Od.head_link.link_state k) st

/-- Objects written false on leaving the safe state (R687). -/
def exitObjects : List Nat :=
  (List.range 4).map Od.plane_firing.firing_enable ++ (List.range 2).map Od.beam_unit_config.beam_enable ++
  (List.range 6).map Od.axis_config.axis_enable ++ (List.range 32).map Od.loop_config.loop_enable

/-- The safe state is left: every part goes to its start state (R687). -/
def State.safeDone (s : State) : State :=
  let cause := s.on Od.fault_collector.safe_cause
  let s := (s.setn Od.fault_collector.collector_state 0).setn Od.fault_collector.safe_cause 0xFFFF
  let s := s.setPower { s.power with safeUp := false }
  let s := exitObjects.foldl (fun a k => a.deviceWrite k (.int 0)) s
  let s := (List.range 48).foldl (fun a k => a.linkUnsafe k) s
  let s := (List.range 4).foldl (fun a p => (a.setn (Od.plane_fire_status.plane_state p) 0).refreshPlane p) s
  let s := (s.unitEnter 0 0 0).unitEnter 1 0 0
  let s := (List.range 6).foldl (fun a x => a.axisOff x) s
  let s := (List.range 32).foldl (fun a l => a.loopStop l) s
  (s.event 0x6003 (leBytes 2 cause)).renewFaultN

/-- The lowest step, not below `k`, with a channel that the safe state has taken down. -/
def State.nextSafeUp (s : State) (k : Nat) : Option Nat :=
  (List.range 16).find? (fun j => decide (k ≤ j) && (s.stepChans j).any (fun c => (s.seqCh c).safeOff))

/-- Brings up the next step of rails the safe state took down, or ends leaving it (R687). -/
def State.safeUpFrom (s : State) (k : Nat) : State :=
  match s.nextSafeUp k with
  | some j => s.beginStep j ((s.stepChans j).filter (fun c => (s.seqCh c).safeOff))
  | none => s.endSteps.safeDone

/-- Every condition of R687 but the request itself holds. -/
def State.mayLeave (s : State) : Bool :=
  s.on Od.fault_collector.collector_state = 1 && !s.safeHeld &&
  !s.ob Od.thermal_status.thermal_shutdown_latched && !s.ob Od.power_control.seq_fault_latched &&
  s.powerState = 2

/-- Leaves the safe state, rails first (R687). -/
def State.safeLeave (s : State) : State :=
  if s.mayLeave && !s.power.safeUp then (s.setPower { s.power with safeUp := true }).safeUpFrom 0 else s

end Sys2Proof.Machine
end

