-- ==== Sys2Proof/Machine/Thermal.lean ====
section
/-! DEFINITION. ADC rounds, temperature measurement, throttling and thermal shutdown (spec/16). -/

namespace Sys2Proof.Machine

/-! ### Sensors: TS0 to TS15, then TD0 to TD7 -/

/-- A sensor's state. -/
def State.sensor (s : State) (n : Nat) : Sensor := s.ctl.sensors.toList.getD n ⟨0, 0, 0, 0⟩

/-- Replaces a sensor's state. -/
def State.setSensor (s : State) (n : Nat) (x : Sensor) : State :=
  { s with ctl := { s.ctl with sensors := s.ctl.sensors.setIfInBounds n x } }

/-- Class: 0 NONE, 1 HEAD, 2 BOARD, 3 DIE (R599, R612). -/
def State.sensorClass (s : State) (n : Nat) : Nat :=
  if n < 16 then s.on (Od.remote_temp.ts_class n) else 3

/-- throttle_limit of a sensor. -/
def State.throttleLimit (s : State) (n : Nat) : Int :=
  if n < 16 then s.oi (Od.remote_temp.throttle_limit n) else s.oi (Od.die_temp.td_throttle_limit (n - 16))

/-- shutdown_limit of a sensor. -/
def State.shutdownLimit (s : State) (n : Nat) : Int :=
  if n < 16 then s.oi (Od.remote_temp.shutdown_limit n) else s.oi (Od.die_temp.td_shutdown_limit (n - 16))

/-- A sensor takes part in throttling: a TS channel only while it is enabled. -/
def State.sensorOn (s : State) (n : Nat) : Bool :=
  decide (16 ≤ n) || s.ob (Od.remote_temp.ts_enable n)

/-- Sets the status of a sensor. -/
def State.setStatus (s : State) (n st : Nat) : State :=
  if n < 16 then s.setn (Od.remote_temp.ts_status n) st else s.setn (Od.die_temp.td_status (n - 16)) st

/-- The excess fraction of a temperature in 10^-11 (R599). -/
def State.excess (s : State) (n : Nat) (temp : Int) : Nat :=
  let a := s.throttleLimit n
  let b := s.shutdownLimit n
  if temp ≤ a then 0
  else if b ≤ temp then 100000000000
  else ((temp - a) * 100000000000 / (b - a)).toNat

/-- A faulty measurement; the third in a row is a sensor fault (R597). -/
def State.badSample (s : State) (n code : Nat) : State :=
  let x := s.sensor n
  let was := s.sensorFault n
  let s := s.setSensor n { x with bad := x.bad + 1, good := 0, hot := 0 }
  if was ∨ x.bad < 2 then s
  else (s.setStatus n code).event 0x5802 (leBytes 1 n ++ leBytes 1 code)

/-- A good measurement; the third in a row ends a sensor fault (R597). -/
def State.goodSample (s : State) (n : Nat) (temp : Int) : State :=
  let x := s.sensor n
  let was := s.sensorFault n
  let s := if n < 16 then s.seti (Od.remote_temp.temperature n) temp
    else s.seti (Od.die_temp.td_temperature (n - 16)) temp
  let good := if was then x.good + 1 else 0
  let hot := if was = false ∧ s.shutdownLimit n ≤ temp then x.hot + 1 else 0
  let s := s.setSensor n { x with bad := 0, good := good, hot := hot }
  if was ∧ 3 ≤ good then s.setStatus n 0 else s

/-- r of a sensor after a sample (R599, R601). -/
def State.renewR (s : State) (n : Nat) : State :=
  let r := if s.sensorOn n = false ∨ s.sensorClass n = 0 then 0
    else if s.sensorFault n then
      if s.on Od.thermal_status.sensor_fault_action = 0 then 100000000000 else 0
    else s.excess n (s.sensorTemp n)
  let s := s.setSensor n { s.sensor n with r := r }
  if n < 16 then s.setn (Od.remote_temp.ts_r_permille n) (r / 100000000)
  else s.setn (Od.die_temp.td_r_permille (n - 16)) (r / 100000000)

/-- Promotion to the fast round and back (R598). -/
def State.promote (s : State) (n : Nat) : State :=
  if 16 ≤ n then s
  else
    let near := s.throttleLimit n - s.on (Od.remote_temp.near_band n)
    let temp := s.sensorTemp n
    if s.sensorFault n ∨ s.sensorClass n = 0 ∨ temp < near - 10 then
      s.setb (Od.remote_temp.ts_promoted n) false
    else if near ≤ temp then s.setb (Od.remote_temp.ts_promoted n) true
    else s

/-! ### Throttling (R600 to R602) -/

/-- Sensors of a target: 0 to 3 a plane, 4 the die. -/
def State.targetSensors (s : State) (k : Nat) : List Nat :=
  (List.range 24).filter (fun n =>
    if k < 4 then s.sensorClass n = 1 && bitAt (s.on (Od.remote_temp.ts_planes n)) k
    else s.sensorClass n = 2 || s.sensorClass n = 3)

/-- Pre-heat limit in percent from r in 10^-11 (R600). -/
def preheatLimit (r : Nat) : Nat := 100 * (100000000000 - 2 * r) / 100000000000

/-- Thermal maximum level from r (R600). -/
def levelLimit (r : Nat) : Nat := if r < 50000000000 then 3 else if r < 75000000000 then 2 else 1

/-- Camera pipe rate in percent (R600). -/
def cameraRate (r : Nat) : Nat := (10000000000000 - 150 * min r 50000000000) / 100000000000

/-- Compositor rate in percent (R600). -/
def composeRate (r : Nat) : Nat := (10000000000000 - 150 * (r - 50000000000)) / 100000000000

/-- A byte of a word replaced. -/
def setByte (w i v : Nat) : Nat := w - (w / 2 ^ (8 * i)) % 256 * 2 ^ (8 * i) + v * 2 ^ (8 * i)

/-- The limits a target takes from its r (R600, R602). -/
def State.setLimits (s : State) (k r : Nat) : State :=
  if k < 4 then
    (s.setn Od.thermal_status.plane_preheat_limits
      (setByte (s.on Od.thermal_status.plane_preheat_limits) k (preheatLimit r))).setn
      Od.thermal_status.plane_level_limits (setByte (s.on Od.thermal_status.plane_level_limits) k (levelLimit r))
  else
    let s := s.setn Od.thermal_status.die_r_permille (r / 100000000)
    (s.setn Od.image_pipeline.pipe_rate_limit_percent (cameraRate r)).setn
      Od.compositor_status.compose_rate_percent (composeRate r)

/-- Renews a target after a sample of sensor `n`: r rises at once and falls at the release rate (R601, R602). -/
def State.renewTarget (s : State) (n k : Nat) : State :=
  let o := s.ctl.throttle.toList.getD k ⟨0, 0⟩
  let raw := ((s.targetSensors k).map (fun i => (s.sensor i).r)).foldl max 0
  let r := max raw (o.r - s.on Od.thermal_status.throttle_release_percent_s * (s.now - o.at_))
  let s : State := { s with ctl := { s.ctl with throttle := s.ctl.throttle.setIfInBounds k ⟨r, s.now⟩ } }
  let s := s.setLimits k r
  if decide (o.r = 0) = decide (r = 0) then s
  else s.event 0x5800 (leBytes 1 (if k < 4 then k else 16) ++ leBytes 1 n ++ leBytes 2 (r / 100000000))

/-- Thermal shutdown: the latch, its sensor and reading, the event, and the safe state, which source 16#B8 enters
(R603, R604, R676). -/
def State.shutdownCheck (s : State) (n : Nat) : State :=
  if s.sensorClass n = 0 ∨ (s.sensor n).hot < max 1 (s.on Od.thermal_status.shutdown_samples) ∨
      s.ob Od.thermal_status.thermal_shutdown_latched = true then s
  else
    let s := (s.setb Od.thermal_status.thermal_shutdown_latched true).setn Od.thermal_status.shutdown_sensor n
    let s := s.seti Od.thermal_status.shutdown_temperature (s.sensorTemp n)
    (s.safeEnter 0xB8 true).event 0x5801 (leBytes 1 n ++ leBytes 2 (patternOf 16 (s.sensorTemp n)))

/-- A measurement of a sensor: a temperature, or the code of a faulty one. -/
def State.measured (s : State) (n : Nat) (temp : Option Int) (code : Nat) : State :=
  let s := match temp with
    | some v => s.goodSample n v
    | none => s.badSample n code
  let s := (s.renewR n).promote n
  let s := (List.range 5).foldl (fun a k => a.renewTarget n k) s
  s.shutdownCheck n

/-- The temperature of a reading, or the code of its fault: 1 OPEN, 2 SHORT, 3 RANGE (R595 to R597). -/
def State.tsTemp (s : State) (n : Nat) (r : TsReading) : Option Int × Nat :=
  let thermistor := decide (s.on (Od.remote_temp.ts_kind n) = 1)
  let hi := if thermistor then 1600000 else 1200000
  let lo := if thermistor then 100000 else 200000
  if hi < r.uv then (none, 1)
  else if r.uv < lo then (none, 2)
  else
    let v := if thermistor then
        Config.thermistor r.uv (if s.on (Od.remote_temp.ts_current n) = 1 then 100 else 10)
          (s.on (Od.remote_temp.th_r0_ohm n)) (s.on (Od.remote_temp.th_beta n))
      else Config.diode r.dv (s.on (Od.remote_temp.ts_series_mohm n)) (s.on (Od.remote_temp.ts_ideality n))
    if v < -550 ∨ 1500 < v then (none, 3) else (some v, 0)

/-- Samples the TS channels of a round that are enabled and stand on its side of the promotion (R593, R598). -/
def State.tsRound (s : State) (ts : List (Nat × TsReading)) (fast : Bool) : State :=
  (ts.filter (fun q => s.ob (Od.remote_temp.ts_enable q.1) &&
    s.ob (Od.remote_temp.ts_promoted q.1) == fast)).foldl (fun a q =>
      let r := a.tsTemp q.1 q.2
      a.measured q.1 r.1 r.2) s

/-- The slow round: each enabled AIN input and each enabled TS channel not promoted (R593). -/
def execSlowAdcRound (t : Nat) (ain : List (Nat × Nat)) (ts : List (Nat × TsReading)) (late : Bool)
    (s : State) : Host.Outcome State Fault Refusal :=
  let s := s.atTime t
  let s := (ain.filter (fun q => s.ob (Od.ain.ain_enable q.1))).foldl (fun a q => a.ainSample q.1 q.2) s
  let s := s.tsRound ts false
  ok (if late then s.inc32 Od.adc_status.slow_rounds_late else s)

/-- The fast round: each promoted TS channel (R593). -/
def execFastAdcRound (t : Nat) (ts : List (Nat × TsReading)) (late : Bool) (s : State) :
    Host.Outcome State Fault Refusal :=
  let s := (s.atTime t).tsRound ts true
  ok (if late then s.inc32 Od.adc_status.fast_rounds_late else s)

/-- A die sensor is sampled; `err`: its converter reports an error (R594, R597). -/
def execTdSample (t : Nat) (n : Fin 8) (temp : Int) (err : Bool) (s : State) :
    Host.Outcome State Fault Refusal :=
  let s := s.atTime t
  let bad := err || decide (temp < -550) || decide (1500 < temp)
  ok (s.measured (16 + n.val) (if bad then none else some temp) 3)

end Sys2Proof.Machine
end

