-- ==== Sys2Proof/Machine/Power.lean ====
section
/-! DEFINITION. Power-up and power-down, supervision of the main input, the state journal and the hold-up sequence
(spec/18), and the reset sequence (R665). -/

namespace Sys2Proof.Machine

/-! ### Pending values at a reset (R175, R189, R198) -/

/-- A pending value takes effect, logged as APPLIED (R183); a persistent one is durable from then on. -/
def State.applyPend (s : State) (p : Pend) : State :=
  let s : State := { s with od := { s.od with pend := s.od.pend.filter (fun q => q.key ≠ p.key) } }
  let per := match odRow p.key with
    | some r => decide (r.per ≠ 0)
    | none => false
  (s.logObj 2 Writer.device p.key (s.ov p.key) p.val per).setv p.key p.val

/-- restore_defaults is pending (R198). -/
def State.restoring (s : State) : Bool :=
  s.od.pend.any (fun p => p.key = Od.management.restore_defaults && p.val.toInt ≠ 0)

/-- An object takes its default, logged as DEFAULTS (R183, R198). -/
def State.toDefault (s : State) (k : Nat) : State :=
  let s := s.logObj 7 Writer.device k (s.ov k) (odDefault k) true
  { s with od := { s.od with vals := kvDel s.od.vals k } }

/-- The sequencer configuration is loaded: pending values of the sequencer channels take effect at a power-up
(R646, R672). -/
def State.loadSeq (s : State) : State :=
  let seqKey := fun (k : Nat) => decide (0x5C1000 ≤ k) && decide (k < 0x5C2000)
  if s.restoring then
    ((s.od.flash.map (fun p => p.1)).filter seqKey).foldl (fun a k => a.toDefault k)
      { s with od := { s.od with pend := s.od.pend.filter (fun p => !seqKey p.key),
                                 kept := s.od.kept.filter (fun p => !seqKey p.key) } }
  else (s.od.pend.filter (fun p => seqKey p.key)).foldl (fun a p => a.applyPend p) s

/-! ### Boot ROM and power-up (R640, R646, R647, R651, R717) -/

/-- restore_defaults spares the role keys and last_stamps (R198), and what is sealed, which only R9 lets be
written. -/
def restorable (k : Nat) : Bool :=
  decide (k / 256 ≠ 0x1300) && (match odRow k with | some r => decide (r.per = 1) | none => false)

/-- The values a boot runs with: a persistent pending value is in force from the reset on, or the defaults are
(R189, R198). Their records are made by the firmware. -/
def State.bootValues (s : State) : State :=
  if s.restoring then { s with od := { s.od with vals := s.od.vals.filter (fun p => !restorable p.1) } }
  else s.od.pend.foldl (fun a p => a.setv p.key p.val) s

/-- The boot ROM begins stage 3: PLL_SYS is started (R95, R717). -/
def State.bootStart (s : State) : State :=
  let s := (s.bootValues.setn Od.boot_status.boot_fail_code 0).setn Od.boot_status.boot_stage_reached 3
  s.renewFaultN.relock 0

/-- The lowest step, not below `k`, with a channel that this power-up brings up (R647, R651). -/
def State.nextUp (s : State) (k : Nat) : Option Nat :=
  (List.range 16).find? (fun j => decide (k ≤ j) && (s.stepChans j).any (fun c =>
    !s.power.service || s.ob (Od.seq_channel.seq_service c)))

/-- Every step is up: ON with its domains and the boot ROM, or PD_NET after a service power-up (R640, R646,
R651). -/
def State.upDone (s : State) : State :=
  let s := s.endSteps
  if s.powerState = 1 then ((s.powerEnter 2 0).domainsOn (List.range 14)).bootStart
  else if s.powerState = 5 then s.domainOn 3
  else s

/-- The next step from `k` begins, or the power-up is over. -/
def State.upFrom (s : State) (k : Nat) : State :=
  match s.nextUp k with
  | some j => s.beginStep j ((s.stepChans j).filter (fun c =>
      !s.power.service || s.ob (Od.seq_channel.seq_service c)))
  | none => s.upDone

/-- A power-up begins with a cause (R646): PD_MGMT on, configuration loaded, step 0. -/
def State.powerUp (s : State) (cause : Nat) : State :=
  let s := s.setPower { s.power with
    service := false, offWanted := false, onWanted := false, onAt := if s.power.onWanted then s.power.onAt else s.now }
  let s := (((s.powerEnter 1 cause).domainOn 0).domainOn 2).loadSeq
  (s.setn Od.boot_status.boot_stage_reached 2).upFrom 0

/-- A service power-up begins (R651). -/
def State.serviceUp (s : State) : State :=
  let s := s.setPower { s.power with service := true }
  (((s.powerEnter 5 0).domainOn 0).domainOn 2).loadSeq.upFrom 0

/-- Rails are coming up: in POWERING_UP, in SERVICE, or in ON after the safe state (R647, R651, R687). -/
def State.goingUp (s : State) : Bool :=
  s.powerState = 1 || s.powerState = 5 || (s.powerState = 2 && s.power.safeUp)

/-- The input lies high enough for a power-up (R644). -/
def State.inputOk (s : State) (mv : Nat) : Bool :=
  decide (s.on Od.supply_supervisor.sup_warn_mv + s.on Od.supply_supervisor.sup_hysteresis_mv ≤ mv)

/-- What the supervisor measures. -/
def State.mainAt (s : State) (mv : Nat) : State := s.setn Od.supply_supervisor.sup_main_mv mv

/-! ### The state journal (R660) -/

/-- Every pending journal entry is programmed. Sizes of entries are not stated: journal_pending_max takes a
free value of at most 4 KiB. -/
def State.journalProgram (s : State) : State :=
  if s.jrn.pending.isEmpty then s
  else
    let s : State := { s with jrn := { s.jrn with flash := s.jrn.flash ++ s.jrn.pending, pending := [] } }
    (s.setn Od.holdup_status.journal_pending_max
      (max (s.on Od.holdup_status.journal_pending_max) (s.freeVal % 4097))).freeNext

/-- Pending journal entries are programmed, at least every 250 µs (R660). -/
def execJournalProgram (t : Nat) (s : State) : Host.Outcome State Fault Refusal :=
  ok (s.atTime t).journalProgram

/-- Values a state checkpoint holds: ledger counts, counter values and validities, consumed marks and
next_item_sequence (R660). -/
def checkpointKey (k : Nat) : Bool :=
  (decide (Od.ledger.count_marked 0 / 256 ≤ k / 256) && decide (k / 256 < Od.ledger.count_marked 0 / 256 + 8)) ||
  (List.range 64).any (fun c => k = Od.counter.counter_value c || k = Od.counter.counter_validity c) ||
  (List.range 8).any (fun l => k = Od.lane_status.consumed_mark l) || k = Od.item_window.next_item_sequence

/-- Every 1 s a state checkpoint is written; the journal goes on from it (R660). -/
def execStateCheckpoint (t : Nat) (s : State) : Host.Outcome State Fault Refusal :=
  let s := s.atTime t
  if s.warned ∨ s.stopped then ok s
  else ok { s with jrn := { s.jrn with
    flash := [], pending := [], ckpt := s.od.vals.filter (fun p => checkpointKey p.1),
    ckptItems := s.lane.items.filter (fun it => it.inFlight || (it.disp.isSome && it.verdict = 0)) } }

/-! ### The hold-up sequence (R655 to R663) -/

/-- Unflushed records of the RAM ring (R185, R186). -/
def State.ringTail (s : State) : List LogRec := s.log.ring.drop (s.log.ring.length - s.log.unflushed)

/-- Number of the last journal entry programmed. -/
def State.journalLast (s : State) : Nat := ((s.jrn.flash.getLast?.map (fun e => e.num)).getD 0)

/-- The record of a warning, its stop section open (R662). -/
def State.newRecord (s : State) : HoldRec :=
  { bootId := s.on Od.device_identity.boot_id, writeNum := s.power.writeNum, body := false, stopKind := 255,
    stopTime := 0, busy := [], journalLast := 0, warnTime := s.time, dropTime := s.power.dropTime,
    nextRecord := (List.range 8).map (fun l => s.on (Od.lane_status.next_record l)),
    lastBound := (List.range 8).map (fun l => s.on (Od.lane_status.consumed_mark l)), tail := s.ringTail }

/-- Starts the hold-up sequence: a record is made if a slot stands erased, and a second warning starts none
(R655, R659, R663). -/
def State.holdupStart (s : State) : State :=
  match s.power.warnAt with
  | some _ => s
  | none =>
    let s := s.setn Od.holdup_status.last_warning_time s.time
    if 16 ≤ s.power.area.length then s.setPower { s.power with warnAt := some s.now, record := none }
    else s.setPower { s.power with warnAt := some s.now, record := some s.newRecord,
                                   writeNum := s.power.writeNum + 1 }

/-- Renews record_slots_erased (R663). -/
def State.renewSlots (s : State) : State :=
  s.setn Od.holdup_status.record_slots_erased (16 - s.power.area.length)

/-- The warning instant T_W (R655, R668). -/
def State.supplyWarning (s : State) : State :=
  let s := s.holdupStart
  let s := (s.setb Od.supply_supervisor.holdup_active true).inc32 Od.supply_supervisor.sup_warnings
  (s.event 0x5C01 (leBytes 4 (s.on Od.supply_supervisor.sup_main_mv))).updateCut

/-- PD_MGMT is on: the hold-up sequence can run. -/
def State.mgmtUp (s : State) : Bool := s.powerState = 1 || s.powerState = 2 || s.powerState = 5

/-- The main input has stayed below sup_warn_mv for the filter time (R655). -/
def execSupplyWarning (t : Nat) (mv : Nat) (s : State) : Host.Outcome State Fault Refusal :=
  let s := (s.atTime t).mainAt mv
  if s.mgmtUp = false ∨ s.stopped ∨ s.on Od.supply_supervisor.sup_warn_mv ≤ mv then ok s
  else ok s.supplyWarning

/-- A dip shorter than the filter (R654). -/
def execSupplyGlitch (t : Nat) (s : State) : Host.Outcome State Fault Refusal :=
  ok ((s.atTime t).inc32 Od.supply_supervisor.sup_glitches)

/-- The stop section of the running record is decided: kind, time and the items in flight. -/
def State.decideStop (s : State) (kind : Nat) (busy : List (Nat × Bool)) : State :=
  match s.power.record with
  | none => s
  | some r => s.setPower { s.power with record := some { r with stopKind := kind, stopTime := s.time,
                                                                busy := busy } }

/-- Items in BOUND or PRINTING, each with whether a line of it fired (R656, R662). -/
def State.busyItems (s : State) : List (Nat × Bool) :=
  (s.lane.items.filter Item.inFlight).map (fun it => (it.seq, decide (it.firedAll ≠ 0)))

/-- Items whose disposition was recorded in this tracker cycle take the power cause, which outranks theirs
(R220, R656). -/
def State.outrankNow (s : State) : State :=
  (s.lane.items.filter (fun it => it.disp.isSome && it.closeCycle = s.now / 4 && it.state ≠ 4)).foldl
    (fun a it => a.dispose it.seq (if it.firedAll = 0 then 7 else 8) 0) s

/-- The stop instant T_S (R646, R656): items in flight take the power cause, the safe state is entered, and the
domains go off; the rails follow with the stop section. -/
def State.powerStop (s : State) : State :=
  let s := if s.power.warnAt.isNone then s.supplyWarning else s
  let mine := s.pairActive && s.pairState ≠ 5
  let busy := if mine then s.busyItems else []
  let s := s.decideStop 1 busy
  let s := s.setPower { s.power with stopAt := some (s.now, 1) }
  let s := s.setb Od.supply_supervisor.holdup_active false
  let s := s.safeEnter 0x102 false
  let s := if mine then s.outrankNow else s
  (s.powerEnter 3 4).domainsOff.endSteps

/-- The main input has stayed below sup_reset_mv for the filter time (R656). -/
def execPowerStop (t : Nat) (mv : Nat) (s : State) : Host.Outcome State Fault Refusal :=
  let s := (s.atTime t).mainAt mv
  if s.mgmtUp = false ∨ s.powerCut ∨ s.on Od.supply_supervisor.sup_reset_mv ≤ mv then ok s
  else ok s.powerStop

/-- The warning clears before T_S: the limits are lifted, the dip is counted, and the stop section RECOVERED is
to be programmed (R657). -/
def execSupplyWarningCleared (t : Nat) (mv : Nat) (s : State) : Host.Outcome State Fault Refusal :=
  let s := (s.atTime t).mainAt mv
  if s.warned = false ∨ s.stopped ∨ s.inputOk mv = false then ok s
  else
    let s := (s.setb Od.supply_supervisor.holdup_active false).decideStop 2 []
    let s := s.setDurable Od.supply_supervisor.brownouts_recovered
      (.int ((s.on Od.supply_supervisor.brownouts_recovered + 1) % 2 ^ 32 : Nat))
    ok (s.event 0x5C02 (leBytes 4 ((s.now - s.power.warnAt.getD s.now) / 1000)))

/-- Journal entries pending at T_W are programmed (R661). -/
def execHoldupJournalProgrammed (t : Nat) (s : State) : Host.Outcome State Fault Refusal :=
  let s := s.atTime t
  ok (if s.power.warnAt.isSome then s.journalProgram else s)

/-- Writes the body of the running record into its slot, the stop section erased (R661, R662). -/
def State.writeBody (s : State) : State :=
  match s.power.record with
  | some r =>
    if r.body then s
    else
      (s.setPower { s.power with record := some { r with body := true },
                                 area := s.power.area ++ [{ r with body := true, stopKind := 255 }] }).renewSlots
  | none => s

/-- The record body is programmed (R661). -/
def execHoldupBodyProgrammed (t : Nat) (s : State) : Host.Outcome State Fault Refusal :=
  ok (s.atTime t).writeBody

/-- Writes the stop section of the running record. -/
def State.writeStop (s : State) : State :=
  match s.power.record with
  | some r =>
    let r := { r with body := true, journalLast := s.journalLast }
    (s.setPower { s.power with record := none, area := s.power.area.dropLast ++ [r] }).setn
      Od.holdup_status.last_stop_kind r.stopKind
  | none => s

/-- The reset a sequence leads to takes effect (R665, R717). -/
def State.resetNow (s : State) : State := (s.restart s.power.resetWhy).bootStart

/-- The stop section is programmed, with the entries made up to then; the rails are released, or the reset takes
effect (R661, R665). -/
def execHoldupStopProgrammed (t : Nat) (s : State) : Host.Outcome State Fault Refusal :=
  let s := s.atTime t
  match s.power.warnAt with
  | none => ok s
  | some w =>
    let open_ := match s.power.record with
      | some r => decide (r.stopKind = 255)
      | none => s.power.stopAt.isNone && s.warned
    if open_ then ok s
    else
      let s := s.journalProgram.writeBody.writeStop
      let s := s.setn Od.holdup_status.last_sequence_us ((s.now - w) / 1000)
      let s := s.setPower { s.power with warnAt := none }
      match s.power.stopAt with
      | none => ok s
      | some p => ok (if p.2 = 1 then s.nextDown else s.resetNow)

/-- A sector all of whose records are older than the newest is erased: the eight oldest (R663). -/
def execHoldupSectorErased (t : Nat) (s : State) : Host.Outcome State Fault Refusal :=
  let s := s.atTime t
  if s.power.area.length ≤ 8 then ok s
  else ok (s.setPower { s.power with area := s.power.area.drop 8 }).renewSlots

/-- The rails of a channel set are gone at once. -/
def State.railsDrop (s : State) : State :=
  (List.range 16).foldl (fun a c => (a.setSeq c ⟨false, false⟩).setSeqState c 0) s

/-- V_HU falls below 9.0 V: PD_MGMT stops, and a record whose stop section is erased stays incomplete (R642,
R661). -/
def execHoldUpExhausted (t : Nat) (s : State) : Host.Outcome State Fault Refusal :=
  let s := s.atTime t
  if s.mgmtUp then ok ((s.powerEnter 3 4).domainsOff.railsDrop.nextDown)
  else if s.powerState = 3 then ok s.railsDrop.nextDown
  else ok s

/-! ### The reset sequence (R665) -/

/-- The reset sequence begins with the reset_cause it ends in: T_R is both T_W and T_S. A running shutdown or
sequence goes on. -/
def State.resetSequence (s : State) (why : Nat) : State :=
  if s.stopped then s
  else
    let mine := s.pairActive && s.pairState ≠ 5
    let s := s.safeEnter 0x104 true
    let s := if mine then s.disposeAll (fun _ => true) 6 7 else s
    let s := s.holdupStart.decideStop 3 []
    let s := s.setb Od.supply_supervisor.holdup_active false
    s.setPower { s.power with stopAt := some (s.now, 3), resetWhy := why }

/-- 2 ms after T_R the reset takes effect (R665). -/
def execResetDeadline (t : Nat) (s : State) : Host.Outcome State Fault Refusal :=
  let s := s.atTime t
  match s.power.stopAt with
  | some p => ok (if p.2 = 3 then s.resetNow else s)
  | none => ok s

/-! ### Requests and their rows (R644, R646) -/

/-- Before rails come down for another cause than a power loss, pending journal entries, the RAM ring and the drop
counters reach flash. -/
def State.settleFlash (s : State) : State :=
  let s := (s.journalProgram).logFlash s.ringTail
  let s : State := { s with log := { s.log with unflushed := 0, flushing := none } }
  ((List.range 192).foldl (fun a ch => a.accumulate ch) s).dropCheckpoint

/-- Rails come down after what is pending has reached flash. -/
def State.orderlyDown (s : State) (cause : Nat) : State := s.settleFlash.powerDown cause

/-- An off request (R644, R646, R667). -/
def State.offRequest (s : State) : State :=
  if s.powerState = 1 then s.setPower { s.power with offWanted := true }
  else if s.powerState = 2 ∧ s.stopped = false then (s.safeEnter 0x101 true).orderlyDown 3
  else s

/-- WAKE_N has been low for 10 ms (R644, R646). -/
def execWakeOnRequest (t : Nat) (mv : Nat) (s : State) : Host.Outcome State Fault Refusal :=
  let s := (s.atTime t).mainAt mv
  let st := s.powerState
  let want := s.setPower { s.power with onWanted := true, onCause := 1, onAt := s.now }
  if st = 0 then ok (if s.inputOk mv then s.powerUp 1 else want)
  else if st = 3 ∨ st = 4 then ok want
  else ok s

/-- WAKE_N has been low for wake_off_hold_ms in ON (R644). -/
def execWakeOffRequest (t : Nat) (s : State) : Host.Outcome State Fault Refusal :=
  let s := s.atTime t
  if s.powerState ≠ 2 ∨ s.on Od.power_control.wake_off_hold_ms = 0 then ok s else ok s.offRequest

/-- The input has stayed above the level for power_min_off_ms: a waiting on request begins its power-up
(R644). -/
def execMainInputQualified (t : Nat) (mv : Nat) (s : State) : Host.Outcome State Fault Refusal :=
  let s := (s.atTime t).mainAt mv
  if s.powerState = 0 ∧ s.power.onWanted ∧ s.inputOk mv then ok (s.powerUp s.power.onCause) else ok s

/-- The minimum off time is over (R646, R651, R657). -/
def execMinOffTimeExpiry (t : Nat) (mv : Nat) (s : State) : Host.Outcome State Fault Refusal :=
  let s := (s.atTime t).mainAt mv
  if s.powerState ≠ 4 then ok s
  else if s.ob Od.power_control.seq_fault_latched then ok s.serviceUp
  else
    let loss := s.on Od.power_control.power_cause = 4 && s.ob Od.power_control.power_auto_restart
    let cause := if s.power.onWanted then s.power.onCause else 2
    if s.power.onWanted = false ∧ loss = false then ok (s.powerEnter 0 0)
    else if s.inputOk mv then ok (s.powerUp cause)
    else ok ((s.setPower { s.power with onWanted := true, onCause := cause }).powerEnter 0 0)

/-- A main-supply power-on (R643, R644, R646, R658): latches cleared, STANDBY, then the power-up the device makes
itself. -/
def execMainSupplyPowerOn (t : Nat) (mv : Nat) (aonLost : Bool) (s : State) :
    Host.Outcome State Fault Refusal :=
  let s := s.atTime t
  let s := s.railsDrop.restart 0
  let s := s.setPower { PowerSt.reset with area := s.power.area, dropTime := s.power.dropTime, aonLost := aonLost,
                                             resetAt := s.now, onAt := s.now }
  let s := ((s.seqUnlatch.setb Od.thermal_status.thermal_shutdown_latched false).setn
    Od.boot_status.boot_fail_code 0).mainAt mv
  let s := (List.range 14).foldl (fun a d => (a.setn (Od.power_domain.domain_state d) 0).setn
    (Od.power_domain.domain_on_count d) 0) s
  let s := s.setb Od.power_control.aon_state_lost aonLost
  let s : State := if aonLost then
      { s with
        met := { s.met with openLatched := true }
        net := { s.net with ptp := { s.net.ptp with base := s.freeVal % 2 ^ 64, at_ := s.now, ratePpb := 0 } }
        freeCtr := s.freeCtr + 1 }
    else s
  let s := (s.powerEnter 0 0).domainOn 0
  let wants := aonLost || s.ob Od.power_control.power_auto_restart
  if wants = false then ok s
  else if s.inputOk mv then ok (s.powerUp 2)
  else ok (s.setPower { s.power with onWanted := true, onCause := 2 })

/-! ### Channels coming up (R647, R649, R651) -/

/-- The step in progress is complete. -/
def State.stepDone (s : State) : State :=
  let k := s.on Od.power_control.seq_step_now + 1
  if s.powerState = 1 ∧ s.power.offWanted then
    (s.setPower { s.power with offWanted := false }).orderlyDown 3
  else if s.powerState = 2 then s.safeUpFrom k
  else s.upFrom k

/-- seq_on_delay_us after its step begins, a channel's SEQ_EN goes high (R647). -/
def execSeqEnableDelayExpiry (t : Nat) (c : Fin 16) (s : State) : Host.Outcome State Fault Refusal :=
  let s := s.atTime t
  if (s.goingUp && s.power.stepWait.contains c.val && !(s.seqCh c).en) = false then ok s
  else ok ((s.setSeq c { s.seqCh c with en := true }).setSeqState c 1)

/-- A channel has stayed in its window for seq_settle_us (R647). -/
def execSeqChannelSettled (t : Nat) (c : Fin 16) (mv : Nat) (s : State) : Host.Outcome State Fault Refusal :=
  let s := s.atTime t
  if (s.goingUp && s.power.stepWait.contains c.val && (s.seqCh c).en &&
      decide (s.on (Od.seq_channel.seq_win_min_mv c) ≤ mv) &&
      decide (mv ≤ s.on (Od.seq_channel.seq_win_max_mv c))) = false then ok s
  else
    let s := (s.setSeq c ⟨true, false⟩).setSeqState c 3
    let s := s.setn (Od.seq_channel.seq_monitor_mv c) mv
    let w := s.power.stepWait.filter (fun x => x ≠ c.val)
    let s := s.setPower { s.power with stepWait := w }
    ok (if w.isEmpty then s.stepDone else s)

/-- A rail fault in ON: safe state, latch, rails down (R646, R649). -/
def State.railLost (s : State) (c kind : Nat) : State :=
  ((((s.safeEnter 0x103 true).seqLatch c kind).railFault c kind).setPower
    { s.power with offWanted := false, safeUp := false }).orderlyDown 5

/-- A service channel misses or leaves its window (R646, R651). -/
def State.serviceLost (s : State) (c : Nat) : State :=
  let s := (s.seqLatch c 4).railFault c 4
  (s.setPower { s.power with svcFailed := true }).orderlyDown 5

/-- A channel has not settled within seq_up_timeout_ms of its enable (R646, R647). -/
def execSeqUpTimeout (t : Nat) (c : Fin 16) (s : State) : Host.Outcome State Fault Refusal :=
  let s := s.atTime t
  if (s.goingUp && s.power.stepWait.contains c.val && (s.seqCh c).en) = false then ok s
  else if s.powerState = 5 then ok (s.serviceLost c)
  else if s.powerState = 2 then ok (s.railLost c 1)
  else
    let s := ((s.seqLatch c 1).railFault c 1).setPower { s.power with offWanted := false }
    ok (s.orderlyDown 5)

/-- A channel leaves its window for longer than seq_glitch_us, at a monitor voltage and a main input (R646, R649,
R656). -/
def execSeqWindowLost (t : Nat) (c : Fin 16) (mv main : Nat) (s : State) : Host.Outcome State Fault Refusal :=
  let s := ((s.atTime t).mainAt main).setn (Od.seq_channel.seq_monitor_mv c) mv
  if s.on (Od.seq_channel.seq_channel_state c) ≠ 3 ∨ s.mgmtUp = false ∨ s.powerCut then ok s
  else if main < s.on Od.supply_supervisor.sup_warn_mv then ok s.powerStop
  else if s.powerState = 2 then ok (s.railLost c 2)
  else if s.powerState = 5 then ok (s.serviceLost c)
  else ok s

/-- seq_fault_clear in SERVICE: the latch is cleared and the service rails come down (R646). -/
def State.faultClear (s : State) : State :=
  if s.powerState ≠ 5 then s
  else
    let s := s.seqUnlatch
    (s.setPower { s.power with onWanted := true, onCause := 1 }).orderlyDown 6

end Sys2Proof.Machine
end

