-- ==== Sys2Proof/Machine/Faults.lean ====
section
/-! DEFINITION. The Fault Collector (spec/19): sources becoming active and inactive, their actions, tests, group
recovery, and the loss of the network reference. -/

namespace Sys2Proof.Machine

/-! ### What the sources say (R676) -/

/-- A firing plane's link in LINK_DOWN or INCOMPATIBLE. -/
def State.linkBad (s : State) (k : Nat) : Bool :=
  let st := s.on (Od.head_link.link_state k)
  s.fires (k / 12) && (st = 1 || st = 3)

/-- The partner's health says takeover-ready, by the bits of R703. -/
def readyHealth (h : Nat) : Bool :=
  !(bitAt h 2 || bitAt h 3 || bitAt h 6 || bitAt h 7 || bitAt h 8) && !(bitAt h 0 && bitAt h 1)

/-- The condition of sources 16#00 to 16#26, where the state tells it: a PLL that acquires lock may have lost
it or not. -/
def State.holdsLow (s : State) (n : Nat) : Option Bool :=
  if n ≤ 3 then (if s.pllState n = 1 then none else some (s.pllState n = 4))
  else if n = 4 then some (s.on Od.clock_sources.xtal_status ≠ 0)
  else if n = 5 then some (s.on Od.clock_sources.netref_status ≠ 0)
  else if n = 0x20 then some s.frozen
  else if n = 0x24 then some (s.ob Od.dma_engine.bus_error_active)
  else none

/-- The condition of sources 16#40 to 16#91. -/
def State.holdsMid (s : State) (n : Nat) : Option Bool :=
  if n < 0x70 then some (s.linkBad (n - 0x40))
  else if n < 0x74 then some (s.conflictOf (n - 0x70) ≠ 0)
  else if n < 0x76 then some (s.unitState (n - 0x74) = 3 || s.unitState (n - 0x74) = 4)
  else if n < 0x80 then none
  else if n < 0x86 then none
  else if n < 0x8C then some (s.on (Od.axis_status.axis_state (n - 0x86)) = 7)
  else if n = 0x8C then some ((List.range 32).any (fun l => s.on (Od.loop_status.loop_state l) = 2))
  else if n < 0x91 then some (s.on (Od.encoder.enc_status (n - 0x8D)) % 8 ≠ 0)
  else some (s.trk = 6)

/-- The condition of sources 16#A0 to 16#F4. -/
def State.holdsHigh (s : State) (n : Nat) : Option Bool :=
  if n < 0xB0 then some (s.on (Od.remote_temp.ts_status (n - 0xA0)) ≠ 0)
  else if n < 0xB8 then some (s.on (Od.die_temp.td_status (n - 0xB0)) ≠ 0)
  else if n = 0xB8 then some (s.ob Od.thermal_status.thermal_shutdown_latched)
  else if n < 0xD0 then some (s.on (Od.seq_channel.seq_channel_state (n - 0xC0)) = 5)
  else if n = 0xD0 then some s.warned
  else if n = 0xD2 then some (s.on Od.holdup_status.boot_record = 2)
  else if n = 0xE1 then some (s.on Od.integrator_core.integ_fault = 2)
  else if n = 0xE2 then some (s.islandState = 4)
  else if n = 0xE3 then some (!(List.range 3).any (fun p => s.ob (Od.net_port.link_up p)))
  else if n = 0xF0 then some (!s.fault.laneUp.toList.getD 0 false)
  else if n = 0xF1 then some (!s.fault.laneUp.toList.getD 1 false)
  else if n = 0xF3 then some (s.pairState = 7)
  else if n = 0xF4 then some (s.pairState = 5 && !readyHealth s.fault.partnerHealth)
  else none

/-- Whether the condition of a source holds, where the state tells it (R676). -/
def State.sourceHolds (s : State) (n : Nat) : Option Bool :=
  if n < 0x40 then s.holdsLow n else if n < 0xA0 then s.holdsMid n else s.holdsHigh n

/-! ### Activation (R677 to R680) -/

/-- A mask of a group's sources that a test selects. -/
def State.groupMask (s : State) (g : Nat) (f : Source → Bool) : Nat :=
  (groupSources g).foldl (fun a n => if f (s.source n) then a + 2 ^ (n - groupBases.getD g 0) else a) 0

/-- Renews what a group reports (R708), and sources_active. -/
def State.renewGroup (s : State) (g : Nat) : State :=
  let s := s.setn (Od.fault_group.active_mask g) (s.groupMask g Source.active)
  let s := s.setn (Od.fault_group.sticky_mask g) (s.groupMask g (fun x => x.sticky))
  s.setn Od.fault_control.sources_active ((s.fault.sources.filter (fun p => p.2.active)).length)

/-- No source of a group is active. -/
def State.groupQuiet (s : State) (g : Nat) : Bool := (groupSources g).all (fun n => !(s.source n).active)

/-- The actions a source takes when it becomes active (R677): EVENT and FAULT_N as set, SAFE where it applies,
FAILOVER where the partner is ready. -/
def State.actionsTaken (s : State) (n : Nat) : Nat :=
  s.actions n % 4 + 4 * b2n (s.safeSource n) + 8 * b2n (bitAt (s.actions n) 3 && s.pairState = 5)

/-- A source becomes active with a state (R677, R679, R680, R702): the safe state first. -/
def State.raiseSource (s : State) (n st : Nat) : State :=
  let x := s.source n
  let g := groupOf n
  let s := s.setSource n { x with state := st, sticky := true, count := (x.count + 1) % 2 ^ 32 }
  let s := s.setFault { s.fault with quiet := kvDel s.fault.quiet g }
  let s := (s.setn (Od.fault_group.last_activation_time g) s.time).renewGroup g
  let acts := s.actionsTaken n
  let s := if bitAt acts 2 then s.safeEnter n true else s
  let s := if bitAt acts 3 then s.relinquish else s
  let s := if bitAt acts 0 then s.event 0x6000 (leBytes 1 n ++ leBytes 1 st ++ leBytes 2 acts) else s
  let s := if bitAt acts 1 then s.setFault { s.fault with pulseEnd := s.now + 10000 } else s
  s.renewFaultN

/-- A pattern of a listed source counts: ACTIVE, or PAIR_ERROR (R675). -/
def State.sourceOn (s : State) (n : Nat) (pair : Bool) : State :=
  let x := s.source n
  let p := if pair then 2 else 1
  if sourceListed n = false ∨ x.lines = p then s
  else
    let s := if pair then s.inc32 Od.fault_control.pair_errors else s
    let s := s.setSource n { x with lines := p }
    if x.state = 0 then s.raiseSource n p
    else if x.state = 3 then s
    else s.setSource n { x with lines := p, state := p }

/-- A source's pattern holds ACTIVE or PAIR_ERROR for 2 samples (R677). A pattern ACTIVE counts only while the
source's condition holds. -/
def execFaultSourceActive (t : Nat) (n : Fin 256) (pair : Bool) (s : State) :
    Host.Outcome State Fault Refusal :=
  let s := s.atTime t
  if pair = false ∧ s.sourceHolds n = some false then ok s else ok (s.sourceOn n pair)

/-- The group of a source may now be quiet: its quiet period starts (R684). -/
def State.startQuiet (s : State) (g : Nat) : State :=
  let s := s.renewGroup g
  if s.groupQuiet g then s.setFault { s.fault with quiet := kvSet s.fault.quiet g s.now } else s

/-- A source's pattern is INACTIVE again (R675, R679): its sticky bit stays. -/
def execFaultSourceInactive (t : Nat) (n : Fin 256) (s : State) : Host.Outcome State Fault Refusal :=
  let s := s.atTime t
  let x := s.source n
  if x.lines = 0 ∨ s.sourceHolds n = some true then ok s
  else
    let s := s.setSource n { x with lines := 0, state := if x.state = 3 then 3 else 0 }
    ok ((s.startQuiet (groupOf n)).renewFaultN)

/-- The 10 µs pulse is over: FAULT_N follows its mode (R680). -/
def execFaultNPulseEnd (t : Nat) (s : State) : Host.Outcome State Fault Refusal :=
  ok (s.atTime t).renewFaultN

/-! ### Clearing, injection and action sets (R678, R679, R681, R682) -/

/-- Clears the sticky bit of an inactive source. -/
def State.clearSticky (s : State) (n : Nat) : State :=
  let x := s.source n
  if x.state = 0 ∧ x.sticky then (s.setSource n { x with sticky := false }).renewGroup (groupOf n) else s

/-- fault_clear: one source, or all (R679, R707). -/
def State.clearFault (s : State) (v : Nat) : State :=
  if v < 256 then (s.clearSticky v).renewFaultN
  else if v = 256 then (((s.fault.sources.map (fun p => p.1)).foldl (fun a n => a.clearSticky n) s)).renewFaultN
  else s

/-- F̄ of a source is inverted for 200 ns; `seen` says that PAIR_ERROR was seen within 100 ns. A source that is
active, or whose path is broken, is skipped (R681, R682, R704). -/
def State.inject (s : State) (n : Nat) (seen : Bool) : State :=
  let x := s.source n
  if sourceListed n = false ∨ x.lines ≠ 0 then s
  else if seen then
    let s := s.setn Od.fault_control.inject_result 1
    if x.state = 3 then ((s.setSource n { x with state := 0 }).startQuiet (groupOf n)).renewFaultN else s
  else
    let s := (s.setn Od.fault_control.inject_result 2).event 0x6004 (leBytes 1 n)
    if x.state = 3 then s else s.raiseSource n 3

/-- The numbers of R676 in order. -/
def listedSources : List Nat := (List.range 256).filter sourceListed

/-- The collector injects the next source of its cycle (R682). -/
def execFaultSelfTestTurn (t : Nat) (seen : Bool) (s : State) : Host.Outcome State Fault Refusal :=
  let s := s.atTime t
  let n := (listedSources.find? (fun i => decide (s.fault.testNext ≤ i))).getD 0
  let next := (listedSources.find? (fun i => decide (n < i))).getD 0
  ok ((s.setFault { s.fault with testNext := next }).inject n seen)

/-- A value of action_write that R678 or its fields refuse. -/
def badActions (v : Nat) : Bool :=
  let n := v % 256
  let a := v / 256
  decide (32 ≤ a) || !sourceListed n || decide (a &&& fixedActions n ≠ fixedActions n) ||
  (n = 0x20 && bitAt a 2)

/-- action_write: the action set of a source (R677, R678). -/
def State.writeActions (s : State) (v : Nat) : State :=
  (s.setFault { s.fault with actions := kvSet s.fault.actions (v % 256) (v / 256 % 32) }).renewFaultN

/-! ### Self-fault and recovery (R683, R684) -/

/-- A register differs from its inverted copy: the safe state at once; only a device reset clears it (R683). -/
def execCollectorSelfFault (t : Nat) (s : State) : Host.Outcome State Fault Refusal :=
  let s := (s.atTime t).safeEnter 0x100 true
  ok (s.setn Od.fault_collector.collector_state 2).renewFaultN

/-- The sticky bits of a group's sources with RECOVER clear (R684). -/
def State.recoverSticky (s : State) (g : Nat) : State :=
  (groupSources g).foldl (fun a n => if bitAt (a.actions n) 4 then a.clearSticky n else a) s

/-- Every source of a group has been INACTIVE for its quiet period (R684). -/
def execGroupRecovered (t : Nat) (g : Fin 8) (s : State) : Host.Outcome State Fault Refusal :=
  let s := s.atTime t
  if (kvGet s.fault.quiet g).isNone ∨ s.groupQuiet g = false then ok s
  else
    let s := (s.setFault { s.fault with quiet := kvDel s.fault.quiet g }).recoverSticky g
    let c := min 65535 (s.on (Od.fault_group.recovery_count g) + 1)
    let s := (s.setn (Od.fault_group.recovery_count g) c).event 0x6001 (leBytes 1 g ++ leBytes 2 c)
    let s := s.renewFaultN
    if s.safe ∧ s.on (Od.fault_group.safe_exit_mode g) = 1 ∧ c ≤ s.on (Od.fault_group.recovery_limit g) then
      ok s.safeLeave
    else ok s

/-! ### The network reference (R116) -/

/-- The network reference becomes absent or runs out of range: source 16#05 becomes active. -/
def execNetrefFault (t : Nat) (absent : Bool) (s : State) : Host.Outcome State Fault Refusal :=
  let s := (s.atTime t).setn Od.clock_sources.netref_status (if absent then 1 else 2)
  ok (s.sourceOn 5 false)

end Sys2Proof.Machine
end

