-- ==== Sys2Proof/Machine/Pair.lean ====
section
/-! DEFINITION. Active and standby pairs (spec/19): health, heartbeats, loss of the partner, takeover, fencing and
supersession. -/

namespace Sys2Proof.Machine

/-! ### Health (R703) -/

/-- takeover_ready. -/
def State.ready (s : State) : Bool := s.ob Od.pair_health.takeover_ready

/-- Own firmware major version. -/
def State.major (s : State) : Nat := s.on Od.device_identity.firmware_version / 2 ^ 24

/-- The encoder test of a heartbeat in STANDBY: three mismatches in a row set the bit. -/
def State.testEncoder (s : State) (hwm : Int) : State :=
  let d := (s.web.chwm - hwm).natAbs
  let s := s.seti Od.pair_health.encoder_mismatch_max
    (max (s.oi Od.pair_health.encoder_mismatch_max) (min d (2 ^ 31 - 1) : Nat))
  if s.on Od.pair_config.pair_enc_tolerance_counts < d then
    let n := s.fault.encMiss + 1
    let s := s.setFault { s.fault with encMiss := min n 3 }
    if 3 ≤ n then s.failBit 2 else s
  else (s.setFault { s.fault with encMiss := 0 }).testBit 2 true

/-- The tests a heartbeat makes. -/
def State.beatTests (s : State) (h : Heartbeat) : State :=
  let s := ((s.testBit 0 (s.fault.laneUp.toList.getD 0 false)).testBit 1 (s.fault.laneUp.toList.getD 1 false))
  let s := if s.pairState = 4 then s.testEncoder h.hwm else s
  (s.testBit 7 (h.major = s.major)).testBit 8 (!s.safeHeld)

/-! ### Shadow lines (R695) -/

/-- A line number whose low 32 bits a heartbeat gives, nearest to a known one. -/
def nearLine (known : Int) (low : Nat) : Int := known + signedOf 32 (patternOf 32 ((low : Int) - known))

/-- Shadow lines and scans that the active's last_fired covers are counted as the active counted them. -/
def State.coverShadow (s : State) (fired : List Nat) : State :=
  let covers := fun (r : Nat) (n : Int) => decide (n ≤ nearLine n (fired.getD r 0))
  let ls := s.fire.shadow.filter (fun q => covers q.1 q.2.n)
  let bs := s.beam.shadow.filter (fun q => covers (4 + q.1) q.2.1)
  let s := s.setFire { s.fire with shadow := s.fire.shadow.filter (fun q => !covers q.1 q.2.n) }
  let s : State := { s with beam := { s.beam with shadow := s.beam.shadow.filter (fun q =>
    !covers (4 + q.1) q.2.1) } }
  let s := ls.foldl (fun a q => a.countFired q.1 q.2 ((a.owners q.1 q.2.n).map (fun it => it.seq))) s
  bs.foldl (fun a q =>
    let a := a.bump (Od.beam_unit_status.pixels_demanded q.1) 64 q.2.2.1
    if q.2.2.2 then a.bump (Od.beam_unit_status.pixels_emitted q.1) 64 q.2.2.1
    else a.bump (Od.beam_unit_status.supp_gated q.1) 64 q.2.2.1) s

/-! ### Heartbeats (R691, R692, R694) -/

/-- pair_epoch after another, modulo 2^16 and skipping 0 (R701). -/
def nextEpoch (e : Nat) : Nat := if (e + 1) % 2 ^ 16 = 0 then 1 else (e + 1) % 2 ^ 16

/-- The higher of two epochs in serial arithmetic. -/
def maxEpoch (a b : Nat) : Nat := if serialDist 16 b a - 1 < 2 ^ 15 - 1 ∧ a ≠ b then b else a

/-- The epoch a device takes on becoming active from SEEKING (R701). -/
def State.seekEpoch (s : State) : Nat :=
  match s.fire.links.toList.filterMap (fun x => x.epochSel) with
  | [] => 1
  | e :: es => nextEpoch (es.foldl maxEpoch e)

/-- The device becomes active alone from SEEKING. -/
def State.takeRole (s : State) : State :=
  (s.setn Od.pair_status.pair_epoch s.seekEpoch).pairEnter 2 0

/-- At SYNCING the ledger and the queues give way to those of the active (R693, R702). -/
def State.forget (s : State) : State :=
  (List.range 8).foldl (fun a l => a.setQueue l []) (s.setItems [])

/-- What a heartbeat of a partner does to a device in SEEKING (R691). -/
def State.seekBeat (s : State) (h : Heartbeat) : State :=
  if h.major ≠ s.major then s.setn Od.pair_status.pair_reason 1
  else if h.state = 5 ∨ h.state = 2 then
    ((s.setn Od.pair_status.sync_progress_percent 0).failBit 6).forget.pairEnter 3 0
  else
    let p := s.on Od.pair_config.pair_priority
    if h.state = 1 ∧ (p < h.priority ∨ (p = h.priority ∧ s.on (Od.net_port.mac_address 0) < h.mac)) then s.takeRole
    else s

/-- Answers that waited until the standby has applied their mirror frames are sent (R694). -/
def State.ackMirror (s : State) (received : Nat) : State :=
  let got := fun (x : MirrorHeld) => decide (serialDist 32 received x.seq < 2 ^ 31)
  let l := s.fault.held.filter got
  let s := s.setFault { s.fault with held := s.fault.held.filter (fun x => !got x), partnerRx := received }
  l.foldl (fun a x => a.sendIn x.slot x.epoch x.cls x.mtype x.body) s

/-- Changes of pair state that a heartbeat makes (R691). -/
def State.beatState (s : State) (h : Heartbeat) : State :=
  let st := s.pairState
  if st = 1 then s.seekBeat h
  else if st = 2 ∧ h.state = 4 ∧ readyHealth h.health = true then s.pairEnter 5 0
  else if st = 5 ∧ h.state ≠ 4 then s.pairEnter 2 0
  else s

/-- A valid heartbeat of the partner (R691, R692, R697). A device in SOLO takes none. -/
def execHeartbeatReceived (t : Nat) (h : Heartbeat) (s : State) : Host.Outcome State Fault Refusal :=
  let s := s.atTime t
  if s.pairState = 0 then ok s
  else
    let s := s.setFault { s.fault with
      lastHeart := some h.time, partner := h.state, partnerHealth := h.health, partnerFired := h.fired
      partnerPos := (h.webPos, h.hwm)
      fenceOut := s.fault.fenceOut && h.state ≠ 7 && h.state ≠ 1 }
    let s := s.setv Od.pair_status.partner_serial (.bytes h.serial)
    let s := (s.ackMirror h.received).beatTests h
    let s := if s.pairState = 4 then s.coverShadow h.fired else s
    ok (s.beatState h)

/-- Every 10 µs a heartbeat goes out (R692). A fenced device whose PAIR_FENCE_IN_N is high goes back to SEEKING
once a heartbeat has shown FENCED (R691). -/
def execHeartbeatSend (t : Nat) (s : State) : Host.Outcome State Fault Refusal :=
  let s := s.atTime t
  if s.pairState = 0 then ok s
  else
    let s := s.beat 1
    if s.pairState = 7 ∧ s.fault.fenceIn = false ∧ s.ob Od.pair_config.pair_auto_resync then ok (s.pairEnter 1 0)
    else ok s

/-! ### Takeover (R696 to R701) -/

/-- The first line of each ring whose tick lies after T_H. -/
def State.gapStart (s : State) : List Int :=
  (List.range 6).map (fun r =>
    nearLine (s.grid r).nextLine (s.fault.partnerFired.getD r 0) + 1)

/-- Loops go to HELD for the gap, or back (R591). -/
def State.loopsHeld (s : State) (old new : Nat) : State :=
  (List.range 32).foldl (fun a l =>
    if a.on (Od.loop_status.loop_state l) = old then a.setn (Od.loop_status.loop_state l) new else a) s

/-- T_D: fence driven, PARTNER_LOST pushed, TAKING_OVER, shared outputs driven (R697, R705). -/
def State.takeover (s : State) (cause : Nat) : State :=
  let s := s.setFault { s.fault with fenceOut := true, takeAt := some s.now, gapFrom := s.gapStart }
  let s := s.event 0x6101 (leBytes 8 (s.fault.lastHeart.getD 0) ++ leBytes 1 cause)
  (s.pairEnter 6 0).loopsHeld 1 4

/-- The partner is lost to a device that follows it (R691). -/
def State.partnerLost (s : State) (cause : Nat) : State :=
  if s.pairState = 4 ∧ s.ready = true then s.takeover cause
  else if s.pairState = 4 ∨ s.pairState = 3 then s.pairEnter 1 0
  else if s.pairState = 5 then s.pairEnter 2 0
  else s

/-- No valid heartbeat for pair_loss_us (R696). -/
def execPartnerLossTimeout (t : Nat) (s : State) : Host.Outcome State Fault Refusal :=
  ok ((s.atTime t).partnerLost 0)

/-- A RELINQUISH of the partner (R696): T_H is its send_time. -/
def execRelinquishReceived (t : Nat) (h : Heartbeat) (s : State) : Host.Outcome State Fault Refusal :=
  let s := s.atTime t
  if s.pairState = 0 then ok s
  else
    let s := s.setFault { s.fault with
      lastHeart := some h.time, partner := h.state, partnerHealth := h.health, partnerFired := h.fired
      partnerPos := (h.webPos, h.hwm) }
    let s := s.ackMirror h.received
    let s := if s.pairState = 4 then s.coverShadow h.fired else s
    ok (s.partnerLost 1)

/-- Last line of a ring that was fetched before T_A. -/
def State.gapEnd (s : State) (r : Nat) : Int :=
  let n := (s.grid r).nextLine
  if r < 4 ∧ (s.fire.line.toList.getD r none).isSome then n else n - 1

/-- Gap lines of a ring: of a plane that fires, or of a unit that emits (R698). -/
def State.gapCount (s : State) (r : Nat) : Nat :=
  if s.ringRuns r then (s.gapEnd r - s.fault.gapFrom.getD r 0 + 1).toNat else 0

/-- An item owns a gap line. -/
def State.inGap (s : State) (it : Item) : Bool :=
  (List.range 6).any (fun r => match it.spans.toList.getD r none with
    | none => false
    | some sp => s.gapCount r != 0 && decide (sp.first ≤ s.gapEnd r) &&
        decide (s.fault.gapFrom.getD r 0 < sp.first + sp.count))

/-- Lines that are held for their tick are gap lines, and shadow counts not covered are discarded (R698,
R699). -/
def State.gapLines (s : State) : State :=
  let s := s.setFire { s.fire with
    line := s.fire.line.map (fun o => o.map (fun h => { h with gap := true }))
    shadow := [] }
  { s with beam := { s.beam with shadow := [] } }

/-- Frames whose trigger fell before T_A are not inspected (R698). -/
def State.gapFrames (s : State) : State :=
  (s.lane.items.filter (fun it => it.verdict = 0)).foldl (fun a it =>
    (it.servCams.filter (fun c => !it.camDone.contains c && !a.ahead (a.camPos c it))).foldl (fun a c =>
      (a.modItem it.seq (fun y => { y with camDone := y.camDone ++ [c], camMissed := y.camMissed ++ [c] })).camResult
        it.seq c (Finding.bare 3 2)) a) s

/-- T_A: the new active advances the epoch, closes the items of the gap, binds the triggers that were not
mirrored, and fires (R697, R698, R701, R705). -/
def State.takeoverDone (s : State) : State :=
  let td := s.fault.takeAt.getD s.now
  let gap := (List.range 6).foldl (fun a r => a + s.gapCount r) 0
  let hit := s.lane.items.filter (fun it => it.inFlight && s.inGap it)
  let trigs := s.fault.unbound
  let s := s.setn Od.pair_status.pair_epoch (nextEpoch (s.on Od.pair_status.pair_epoch))
  let s := (s.pairEnter 2 0).loopsHeld 4 1
  let s := s.gapLines
  let s := hit.foldl (fun a it => a.dispose it.seq 9 0) s
  let s := s.setFault { s.fault with shadow := [], unbound := [], takeAt := none, gapFrom := [] }
  let s := trigs.foldl (fun a x => a.bindTrigger x.lane ⟨x.x, x.time, x.dr⟩) s
  let s := s.gapFrames
  let s := (s.inc32 Od.pair_status.switchovers).setn Od.pair_status.last_switchover_time s.time
  let s := (s.setn Od.pair_status.last_takeover_us ((s.now - td) / 1000)).setn Od.pair_status.last_gap_lines gap
  s.event 0x6102 (leBytes 2 (s.on Od.pair_status.pair_epoch) ++ leBytes 4 (s.now - td) ++ leBytes 4 gap ++
    leBytes 2 hit.length)

/-- T_A is reached (R697). -/
def execTakeoverComplete (t : Nat) (s : State) : Host.Outcome State Fault Refusal :=
  let s := (s.atTime t).moveX
  if s.pairState = 6 then ok s.takeoverDone else ok s

/-! ### Fencing, seeking, synchronising (R689, R691) -/

/-- PAIR_FENCE_IN_N is low: the shared outputs are high-impedance (R689), and a device of a pair is FENCED. -/
def execPairFenceInLow (t : Nat) (s : State) : Host.Outcome State Fault Refusal :=
  let s := s.atTime t
  let s := s.setFault { s.fault with fenceIn := true }
  if s.pairState = 0 ∨ s.pairState = 7 then ok s.pairOutputs else ok (s.pairEnter 7 2)

/-- PAIR_FENCE_IN_N is high again (R691). -/
def execPairFenceInHigh (t : Nat) (s : State) : Host.Outcome State Fault Refusal :=
  let s := s.atTime t
  let s := (s.setFault { s.fault with fenceIn := false }).pairOutputs
  if s.pairState = 7 ∧ s.ob Od.pair_config.pair_auto_resync then ok (s.pairEnter 1 0) else ok s

/-- pair_seek_ms without a heartbeat and with PAIR_PEER_ACT low (R691, R701). -/
def execPairSeekTimeout (t : Nat) (s : State) : Host.Outcome State Fault Refusal :=
  let s := s.atTime t
  if s.pairState = 1 then ok s.takeRole else ok s

/-- The tracker takes the active's X and count at the entry to STANDBY (R695). -/
def State.rebaseTo (s : State) (x hwm : Int) : State :=
  let s := s.setEnc s.webEnc { s.enc s.webEnc with count := hwm }
  s.setWeb { s.web with
    refPos := Frac.ofInt x, refCount := hwm, chwm := hwm, x := Frac.ofInt x, tgt := Frac.ofInt x, slew := ⟨0, 1⟩
    hist := [] }

/-- The mirrored data set is complete; with health takeover-ready the device follows the active (R691, R703). -/
def execSyncComplete (t : Nat) (s : State) : Host.Outcome State Fault Refusal :=
  let s := s.atTime t
  if s.pairState ≠ 3 then ok s
  else
    let s := s.setn Od.pair_status.sync_progress_percent 100
    let s := (s.setn Od.pair_health.health (withBit (s.on Od.pair_health.health) 6 false)).renewReady
    if s.ready = false then ok s
    else
      let s := s.rebaseTo s.fault.partnerPos.1 s.fault.partnerPos.2
      let s := (s.setn Od.pair_health.encoder_mismatch_max 0).setFault { s.fault with
        encMiss := 0, shadow := [], unbound := [] }
      ok (s.pairEnter 4 0)

/-! ### Mirror Link lanes and the trigger test (R703) -/

/-- A lane loses block lock: its health bit is set, and its source becomes active. -/
def execMirrorLaneLockLost (t : Nat) (lane : Fin 2) (s : State) : Host.Outcome State Fault Refusal :=
  let s := s.atTime t
  let s := s.setFault { s.fault with laneUp := s.fault.laneUp.set lane false }
  ok ((s.failBit lane).sourceOn (0xF0 + lane) false)

/-- A lane regains block lock: it is up again for takeover readiness. -/
def execMirrorLaneLockRegained (t : Nat) (lane : Fin 2) (s : State) : Host.Outcome State Fault Refusal :=
  let s := s.atTime t
  ok (s.setFault { s.fault with laneUp := s.fault.laneUp.set lane true }).renewReady

/-- A mirrored binding or an own stamp has had no counterpart within 100 µs: the oldest that waits. -/
def execTriggerCounterpartTimeout (t : Nat) (s : State) : Host.Outcome State Fault Refusal :=
  let s := s.atTime t
  match s.fault.shadow with
  | [] => ok s
  | _ :: rest =>
    let s := (s.setFault { s.fault with shadow := rest }).inc32 Od.pair_health.trigger_mismatches
    ok (s.failBit 3)

/-! ### STATUS frames (R399, R702, R703) -/

/-- An active device is superseded when two STATUS frames in a row of a head report another epoch (R702). -/
def State.superseded (s : State) (k epoch : Nat) : State :=
  let x := s.link k
  let own := s.on Od.pair_status.pair_epoch
  let mis := if epoch = own then 0 else x.misEpoch + 1
  let s := s.setLink k { x with epochSel := some epoch, misEpoch := min mis 2 }
  if (s.pairState = 2 ∨ s.pairState = 5) ∧ 2 ≤ mis then s.pairEnter 7 3 else s

/-- The head-link test of a standby: the forward lane is locked and its code errors do not rise (R703). -/
def State.testLink (s : State) (k : Nat) (st : HeadStatus) (before : Nat) : State :=
  if s.pairState ≠ 4 ∨ s.fires (k / 12) = false then s
  else
    let pass := bitAt st.flags 0 && decide (st.codeErrors ≤ before)
    let m := withBit (s.on Od.pair_health.health_links) k (!pass || st.input = 255)
    let s := (s.setn Od.pair_health.health_links m).testBit 4 pass
    s.testBit 5 (st.input ≠ 255)

/-- A STATUS frame (R388, R399, R415, R702, R703). -/
def execBackStatus (t : Nat) (link : Fin 48) (st : HeadStatus) (s : State) : Host.Outcome State Fault Refusal :=
  let s := s.atTime t
  let k := link.val
  if s.linkState k = 0 then ok s
  else
    let before := s.on (Od.head_link.fwd_errors_reported k)
    let s := (s.backStatus k st).testLink k st before
    ok (if s.pairState = 0 then s.setLink k { s.link k with epochSel := some st.epoch }
        else s.superseded k st.epoch).mirror

end Sys2Proof.Machine
end

