-- ==== Sys2Proof/Machine/Mgmt.lean ====
section
/-! DEFINITION. The management subsystem (spec/20): watchdogs, images and their checks, the boot directory, updates,
and the integrator core outside its service calls. -/

namespace Sys2Proof.Machine

/-- Changes the management part. -/
def State.setMgmt (s : State) (m : MgmtSt) : State := { s with mgmt := m }

/-- A management core's watchdog expires: source 16#E0, and the reset sequence (R713). -/
def execWatchdogExpiry (t : Nat) (_core : Fin 2) (s : State) : Host.Outcome State Fault Refusal :=
  let s := s.atTime t
  if s.mgmtUp then ok ((s.sourceOn 0xE0 false).resetSequence 2) else ok s

/-! ### Images (R718 to R720) -/

/-- image_length of a header. -/
def imgLength (b : List Byte) : Nat := leAt b 16 8

/-- The part that follows the header. -/
def imgPayload (b : List Byte) : List Byte := (b.drop 256).take (imgLength b)

/-- header_crc, magic, format_version and image_kind are correct (R719); the whole image is there, and a firmware
image's security_version is legal (R718). -/
def imgHeaderOk (kind : Nat) (b : List Byte) : Bool :=
  decide (b.length = 256 + imgLength b) && decide (leAt b 252 4 = crc32c (b.take 252)) &&
  decide (leAt b 0 2 = 0x4946) && decide (leAt b 2 1 = 1) && decide (leAt b 3 1 = kind) &&
  decide (leAt b 8 2 ≤ (if kind = 1 then 63 else 0))

/-- The first check an image fails, as update_error has it: 0 for none (R719, R720, R734). An empty key hash checks
no key. -/
def imgCheck (kind : Nat) (hash : List Byte) (fuses : Nat) (b : List Byte) : Nat :=
  if imgHeaderOk kind b = false then 1
  else if leAt b 12 4 ≠ 0x4192 then 2
  else if (hash ≠ [] ∧ sha256 (slice 72 64 b) ≠ hash) ∨
      Config.ecdsaVerify (slice 72 64 b) (slice 136 64 b) (b.take 136) = false then 3
  else if sha256 (imgPayload b) ≠ slice 40 32 b then 5
  else if kind = 1 ∧ leAt b 8 2 < fuses then 4
  else 0

/-! ### The boot directory (R721 to R723) -/

/-- A directory with both slots EMPTY: what stands while neither copy is valid (R717). -/
def Directory.empty : Directory :=
  { seq := 0, states := (0, 0), trial := 255, tries := 0, versions := (0, 0), security := (0, 0),
    preferred := 0 }

/-- The copy in force: 0 or 1, and its contents (R721). With no valid copy the next write goes to copy 0. -/
def State.dirInForce (s : State) : Nat × Directory :=
  match s.mgmt.dirs.toList.getD 0 none, s.mgmt.dirs.toList.getD 1 none with
  | some a, some b => if serialGt 32 b.seq a.seq then (1, b) else (0, a)
  | some a, none => (0, a)
  | none, some b => (1, b)
  | none, none => (1, Directory.empty)

/-- The directory in force. -/
def State.dir (s : State) : Directory := s.dirInForce.2

/-- State of a slot. -/
def Directory.slot (d : Directory) (i : Nat) : Nat := if i = 0 then d.states.1 else d.states.2

/-- A pair with one side changed. -/
def pairSet (p : Nat × Nat) (i v : Nat) : Nat × Nat := if i = 0 then (v, p.2) else (p.1, v)

/-- The slot at a state. -/
def Directory.setSlot (d : Directory) (i v : Nat) : Directory := { d with states := pairSet d.states i v }

/-- The update objects follow the directory and the fuses (R734). -/
def State.renewUpdate (s : State) : State :=
  let d := s.dir
  [(Od.firmware_update.slot_a_state, d.states.1), (Od.firmware_update.slot_b_state, d.states.2),
    (Od.firmware_update.slot_a_version, d.versions.1), (Od.firmware_update.slot_b_version, d.versions.2),
    (Od.firmware_update.tries_left, d.tries), (Od.firmware_update.rollback_counter, s.mgmt.fuses)].foldl
    (fun a p => a.setn p.1 p.2) s

/-- A directory write: dir_sequence rises by 1, into the copy that is not in force (R721). -/
def State.writeDir (s : State) (d : Directory) : State :=
  let f := s.dirInForce
  let e : Directory := { d with seq := (f.2.seq + 1) % 2 ^ 32 }
  (s.setMgmt { s.mgmt with dirs := s.mgmt.dirs.setIfInBounds (1 - f.1) (some e) }).renewUpdate

/-- running_slot. -/
def State.runningSlot (s : State) : Nat := s.on Od.firmware_update.running_slot

/-- The running PENDING slot is confirmed in one directory write, and the anti-rollback counter is raised (R720,
R723). Any other slot stays as it is (R727). -/
def State.confirm (s : State) : State :=
  let d := s.dir
  let r := s.runningSlot
  if d.slot r ≠ 1 then s
  else
    let sec := if r = 0 then d.security.1 else d.security.2
    let s := s.writeDir { d.setSlot r 2 with preferred := r, trial := 255 }
    (s.setMgmt { s.mgmt with fuses := max s.mgmt.fuses sec }).renewUpdate

/-- update_auto_confirm_s of uninterrupted running in ON (R723). -/
def execAutoConfirmExpiry (t : Nat) (s : State) : Host.Outcome State Fault Refusal :=
  let s := s.atTime t
  if s.powerState = 2 ∧ s.on Od.firmware_update.update_auto_confirm_s ≠ 0 then ok s.confirm else ok s

/-! ### Updating (R724, R725) -/

/-- A firmware commit fails: update_error and update_state report it, and BULK_RESP carries RANGE (R724). -/
def State.updateFail (s : State) (j : UpdateJob) (e : Nat) : State :=
  let s := s.setMgmt { s.mgmt with update := none }
  let s := (s.setn Od.firmware_update.update_state 4).setn Od.firmware_update.update_error e
  s.sendIn j.sess j.epoch 0 0x35 (bulkResp j.req j.window errRange 0 0)

/-- The slot a firmware commit writes: the one not running, or A in recovery (R724, R726). -/
def State.updateTarget (s : State) : Nat := if s.mgmt.recovery then 0 else 1 - s.runningSlot

/-- Steps 1 to 3 of a firmware commit: the image is checked, the target is the slot not running, and it is marked
WRITING (R724). -/
def State.updateStart (s : State) (j : UpdateJob) : State :=
  let e := imgCheck 1 Config.rootKeyHash s.mgmt.fuses j.image
  if e ≠ 0 then s.updateFail j e
  else if s.mgmt.recovery = false ∧ s.dir.slot s.runningSlot ≠ 2 then s.updateFail j 7
  else
    let s := s.setMgmt { s.mgmt with update := some j }
    let s := (s.setn Od.firmware_update.update_state 2).setn Od.firmware_update.update_error 0
    let s := s.setn Od.firmware_update.update_progress_percent 0
    s.writeDir (s.dir.setSlot s.updateTarget 4)

/-- Erasing, programming and reading back the target slot ends (R724): the slot becomes PENDING and the trial slot
and BULK_RESP OK is sent; or it failed with FLASH. In recovery the ROM then resets (R726). -/
def execFirmwareImageWritten (t : Nat) (good : Bool) (s : State) : Host.Outcome State Fault Refusal :=
  let s := s.atTime t
  match s.mgmt.update with
  | none => ok s
  | some j =>
    if good = false then ok (s.updateFail j 6)
    else
      let g := s.updateTarget
      let s := s.setMgmt { s.mgmt with update := none, slots := s.mgmt.slots.setIfInBounds g j.image }
      let d := s.dir
      let s := s.writeDir { d.setSlot g 1 with
        trial := g
        tries := s.on Od.firmware_update.update_trial_tries
        versions := pairSet d.versions g (leAt j.image 4 4)
        security := pairSet d.security g (leAt j.image 8 2) }
      let s := (s.setn Od.firmware_update.update_state 3).setn Od.firmware_update.update_progress_percent 100
      let s := if (s.sess j.sess).epoch = j.epoch then
          s.modSess j.sess (fun x => { x with windows := x.windows.setIfInBounds j.window none })
        else s
      let s := s.sendIn j.sess j.epoch 0 0x35 (bulkResp j.req j.window errOk j.image.length (crc32c j.image))
      ok (if s.mgmt.recovery then (s.restart 1).bootStart else s)

/-- A trial slot is named and PENDING (R722, R725). -/
def State.hasTrial (s : State) : Bool := decide (s.dir.trial ≤ 1)

/-! ### The integrator core (R728, R732) -/

/-- integ_state: 0 STOPPED, 1 LOADING, 2 RUNNING, 3 FAULTED (R736). -/
def State.integState (s : State) : Nat := s.on Od.integrator_core.integ_state

/-- integ_state with integ_fault. -/
def State.integEnter (s : State) (st fault : Nat) : State :=
  (s.setn Od.integrator_core.integ_state st).setn Od.integrator_core.integ_fault fault

/-- A start of the core: LOADING (R732). -/
def State.integStart (s : State) : State :=
  if s.integState = 1 ∨ s.integState = 2 then s else s.integEnter 1 0

/-- A core reset: DMA channels 8 to 15 are to stop (R363, R372), every Codec Q3 queue is aborted (R313), after a
number of steps of its running job that nothing states, and the declared objects are withdrawn (R732). -/
def State.coreReset (s : State) : State :=
  let s := (List.range 8).foldl (fun a c =>
    let x := a.dma (c + 8)
    if x.state = 1 then a.setDma (c + 8) { x with stopReq := true } else a) s
  let s := (List.range 4).foldl (fun a i => (a.abortQueue i 1 a.freeVal).freeNext) s
  let s := s.setMgmt { s.mgmt with declared := [], scBusy := false, scReady := false, timerIrq := false,
                                   timerCmp := 0, locals := [] }
  s.setn Od.integrator_core.objects_served 0

/-- integ_run written false: core reset, STOPPED (R732). -/
def State.integStop (s : State) : State := s.coreReset.integEnter 0 0

/-- A write of integ_run takes effect (R732). -/
def State.integRun (s : State) (v : Bool) : State := if v then s.integStart else s.integStop

/-- The bytes at a run of integrator addresses all lie in the integrator SRAM or the integrator DRAM partition
(R728). -/
def State.integFits (s : State) (a n : Nat) : Bool :=
  decide (a + n ≤ 0x100000) ||
  (decide (dramBase ≤ a) && decide (a + n ≤ dramBase + s.integBytes) && !s.frozen)

/-- What a load attempt ends in, as integ_fault has it (R728, R732, R736). -/
def State.integCheck (s : State) : Nat :=
  let b := s.mgmt.integImage
  if b = [] then 3
  else if imgCheck 2 (s.obytes Od.integrator_core.integ_key_hash) 0 b ≠ 0 then 1
  else if s.integFits (leAt b 24 8) (imgLength b) = false then 1
  else 0

/-- Loading and checking of the image ends: RUNNING at entry_address, or FAULTED (R728, R732). -/
def execIntegImageLoaded (t : Nat) (s : State) : Host.Outcome State Fault Refusal :=
  let s := s.atTime t
  if s.integState ≠ 1 then ok s
  else
    let e := s.integCheck
    if e ≠ 0 then ok (s.integEnter 3 e)
    else
      let b := s.mgmt.integImage
      let s := s.put? (s.integSpan (leAt b 24 8)) (imgPayload b)
      let s := s.setn Od.device_identity.integrator_version (leAt b 4 4)
      ok ((s.setMgmt { s.mgmt with kicked := s.now }).integEnter 2 0)

/-- WDT_KICK written: 16#5A5A restarts the watchdog (R729, R732). -/
def execWdtKick (t v : Nat) (s : State) : Host.Outcome State Fault Refusal :=
  let s := s.atTime t
  if v = 0x5A5A then ok (s.setMgmt { s.mgmt with kicked := s.now }) else ok s

/-- No kick for integ_watchdog_ms: source 16#E1, core reset, FAULTED with WATCHDOG (R732). -/
def execIntegWatchdogExpiry (t : Nat) (s : State) : Host.Outcome State Fault Refusal :=
  let s := s.atTime t
  let ms := s.on Od.integrator_core.integ_watchdog_ms
  if s.integState ≠ 2 ∨ ms = 0 ∨ s.now < s.mgmt.kicked + 1000000 * ms then ok s
  else ok ((s.sourceOn 0xE1 false).coreReset.integEnter 3 2)

/-- integ_restart_delay_ms after a watchdog fault the core starts again while integ_auto_restart is set (R732). -/
def execIntegRestartDelayExpiry (t : Nat) (s : State) : Host.Outcome State Fault Refusal :=
  let s := s.atTime t
  if s.integState = 3 ∧ s.on Od.integrator_core.integ_fault = 2 ∧
      s.ob Od.integrator_core.integ_auto_restart ∧ s.ob Od.integrator_core.integ_run then
    ok ((s.inc32 Od.integrator_core.integ_restarts).integStart)
  else ok s

/-- TIME_NOW reaches TIMER_CMP: the timer interrupt is raised (R729). -/
def execIntegTimerInterrupt (t : Nat) (s : State) : Host.Outcome State Fault Refusal :=
  let s := s.atTime t
  if s.mgmt.timerCmp ≤ s.time then ok (s.setMgmt { s.mgmt with timerIrq := true }) else ok s

/-- A read of SC_RESP clears the response-ready bit (R729). -/
def execScRespRead (t : Nat) (s : State) : Host.Outcome State Fault Refusal :=
  let s := s.atTime t
  ok (s.setMgmt { s.mgmt with scReady := false })

end Sys2Proof.Machine
end

