-- ==== Sys2Proof/Machine/OdRead.lean ====
section
/-! DEFINITION. What a READ finds: the object of a key with its row, the value it returns, and the objects that
report a structure of the state or a selected thing as it stands at the read (R13, R160, R161, R764). -/

namespace Sys2Proof.Machine

/-! ### Which objects exist, and their descriptions -/

/-- The row of a declared object (R731): volatile, Applies now. -/
def Declared.row (d : Declared) : OdRow :=
  ⟨d.sub, "", d.ty, d.rd, d.wr, 0, if d.wr = 255 then 255 else 0, d.lo, d.hi, [], 0, [],
    some (decodeVal d.ty d.dflt), "", false⟩

/-- The declared object of a key. -/
def State.declaredAt (s : State) (k : Nat) : Option Declared :=
  s.mgmt.declared.find? (fun d => odKey d.idx d.sub = k)

/-- The object of a key is served by the integrator core (R731). Subindex 16#00 is not (R160). -/
def State.isServed (s : State) (k : Nat) : Bool := (s.declaredAt k).isSome

/-- The row of an object that exists (R17, R160, R167, R731). In recovery three indexes can be read (R726). -/
def State.rowOf (s : State) (k : Nat) : Option OdRow :=
  let i := k / 256
  if s.mgmt.recovery then
    if i = 0x1000 ∨ i = 0x2200 ∨ i = 0x2201 then (odRow k).map (fun r => { r with wr := 255 }) else none
  else if i < 0x8000 then
    if decide (0x7000 ≤ i) && decide (i ≤ 0x70FF) && !s.islandPresent then none else odRow k
  else if k % 256 = 0 then
    let subs := (s.mgmt.declared.filter (fun d => d.idx = i)).map (fun d => d.sub)
    if subs.isEmpty then none else some (highestRow (subs.foldl max 0))
  else (s.declaredAt k).map Declared.row

/-- Objects without a stated default although a value stands in the model's dictionary. -/
def noDefault (k : Nat) : Bool :=
  (identityDefault k).isSome || (decide (0x6510 ≤ k / 256) && decide (k / 256 ≤ 0x651F) && k % 256 = 1)

/-- describe_default and describe_default_length: the encoded default, empty for a write-only object and for
one without a default (R191). -/
def describeDefault (k : Nat) (r : OdRow) : List Byte :=
  if r.rd = 255 ∨ noDefault k then []
  else
    match odMemberDefault k, r.dflt with
    | some v, _ => encodeVal r.ty v
    | none, some v => encodeVal r.ty v
    | none, none => []

/-- A bound in the object's own type, empty where there is none. -/
def describeBound (r : OdRow) (b : Option Int) : List Byte :=
  match b with
  | some i => encodeVal r.ty (.int i)
  | none => []

/-- The name of an object. -/
def State.nameOf (s : State) (k : Nat) (r : OdRow) : List Byte :=
  match s.declaredAt k with
  | some d => d.name
  | none => strBytes r.name

/-- The unit of an object (R761). -/
def State.unitOf (s : State) (k : Nat) (r : OdRow) : List Byte :=
  match s.declaredAt k with
  | some d => d.unit
  | none => strBytes r.unit

/-! ### Session-local values -/

/-- The value a session holds of a session-local object (R163); 255 is the integrator core, which has a value of
its own. -/
def State.localVal (s : State) (se k : Nat) : OVal :=
  let l := if se < 8 then (s.sess se).locals else s.mgmt.locals
  (kvGet l k).getD (odDefault k)

/-- Its number. -/
def State.localNat (s : State) (se k : Nat) : Nat := (s.localVal se k).toInt.toNat

/-- Sets it. -/
def State.setLocal (s : State) (se k : Nat) (v : OVal) : State :=
  if se < 8 then s.modSess se (fun x => { x with locals := kvSet x.locals k v })
  else s.setMgmt { s.mgmt with locals := kvSet s.mgmt.locals k v }

/-! ### Values of single chapters -/

/-- A number. -/
def num (n : Nat) : Option OVal := some (.int n)

/-- A truth value. -/
def tru (b : Bool) : Option OVal := some (.int (b2i b))

/-- Bytes. -/
def raw (b : List Byte) : Option OVal := some (.bytes b)

/-- od_describe (R191). -/
def State.describeVal (s : State) (se k : Nat) : Option OVal :=
  let d := odKey (s.localNat se Od.od_describe.describe_index) (s.localNat se Od.od_describe.describe_subindex)
  match s.rowOf d with
  | none =>
    if k = Od.od_describe.describe_present then tru false
    else if k = Od.od_describe.describe_read_role ∨ k = Od.od_describe.describe_write_role ∨
        k = Od.od_describe.describe_applies then num 255
    else none
  | some r =>
    if k = Od.od_describe.describe_present then tru true
    else if k = Od.od_describe.describe_name then raw (s.nameOf d r)
    else if k = Od.od_describe.describe_type then num r.ty.code
    else if k = Od.od_describe.describe_length then num r.ty.size
    else if k = Od.od_describe.describe_read_role then num r.rd
    else if k = Od.od_describe.describe_write_role then num r.wr
    else if k = Od.od_describe.describe_persistence then num r.per
    else if k = Od.od_describe.describe_applies then num r.app
    else if k = Od.od_describe.describe_minimum then raw (describeBound r r.lo)
    else if k = Od.od_describe.describe_maximum then raw (describeBound r r.hi)
    else if k = Od.od_describe.describe_default then raw ((describeDefault d r).take 64)
    else if k = Od.od_describe.describe_unit then raw (s.unitOf d r)
    else if k = Od.od_describe.describe_frac_bits then num r.ty.frac
    else if k = Od.od_describe.describe_default_length then num (describeDefault d r).length
    else none

/-- session_status (R196). -/
def State.sessionVal (s : State) (i k : Nat) : Option OVal :=
  let x := s.sess i
  let v := fun (f : Vector Nat 4) (c : Nat) => num (f.toList.getD c 0 % 2 ^ 32)
  if x.isOpen = false then none
  else if k = Od.session_status.session_open i then tru true
  else if k = Od.session_status.node_id i then num x.node
  else if k = Od.session_status.role i then num x.role
  else if k = Od.session_status.epoch i then num x.epoch
  else if k = Od.session_status.port_mask i then num x.portMask
  else if k = Od.session_status.open_time i then num x.openTime
  else if k = Od.session_status.retransmissions i then num x.retransmissions
  else if k = Od.session_status.granted_ctrl i then v x.granted 0
  else if k = Od.session_status.granted_item i then v x.granted 1
  else if k = Od.session_status.granted_bulk i then v x.granted 2
  else if k = Od.session_status.consumed_ctrl i then v x.consumed 0
  else if k = Od.session_status.consumed_item i then v x.consumed 1
  else if k = Od.session_status.consumed_bulk i then v x.consumed 2
  else if k = Od.session_status.events_dropped i then num x.evDroppedTotal
  else none

/-- key_set: which role keys hold a value (R197). -/
def State.keySet (s : State) : Nat :=
  b2n (!(s.obytes Od.role_keys.key_opr).isEmpty) + 2 * b2n (!(s.obytes Od.role_keys.key_eng).isEmpty) + 12 +
    16 * b2n s.islandPresent

/-- Identity, sessions, management, the Change Log and PTP (R190 to R201). -/
def State.commonVal (s : State) (se k : Nat) : Option OVal :=
  if k = Od.device_identity.uptime_s then num ((s.now - s.power.resetAt) / 1000000000)
  else if k = Od.session_self.self_session then num se
  else if k = Od.session_self.self_role then
    num (if se < 8 then (s.sess se).role else s.on Od.integrator_core.integ_role)
  else if k = Od.role_keys.key_set then num s.keySet
  else if k = Od.management.restart_pending then tru (s.od.pend.any (fun p => p.app = 5))
  else if k = Od.change_log.change_log_first then
    num ((s.log.flash.head?.map (fun r => r.num)).getD ((s.log.ring.head?.map (fun r => r.num)).getD 0))
  else if k = Od.change_log.change_log_last then num (s.log.nextNum - 1)
  else if k = Od.change_log.change_log_durable then num ((s.log.flash.getLast?.map (fun r => r.num)).getD 0)
  else if k = Od.change_log.ring_unflushed then num s.log.unflushed
  else if k = Od.ptp_status.ptp_locked_s then
    num (if s.on Od.ptp_status.ptp_state = 2 then (s.now - s.net.ptp.lockedAt) / 1000000000 else 0)
  else if k = Od.ptp_status.ptp_time then num s.time
  else none

/-- A count in the format of enc_count: 48 bits with sign extension (R84). -/
def count48 (c : Int) : OVal := .int (patternOf 64 (signedOf 48 (patternOf 48 c)))

/-- Edges per second of an encoder from its last two edges, or from the time since the last one where that is
longer, with the direction (OD 16#300n.09 gives no measuring interval; assumption log). -/
def State.countRate (s : State) (e : Nat) : Nat × Bool :=
  match (s.enc e).recent with
  | x :: y :: _ => (min 0x7FFFFFFF (1000000000 / max 1 (max (x.1 - y.1) (s.now - x.1))), decide (x.2 < 0))
  | [_] => (0, false)
  | [] => (0, false)

/-- velocity_um_s: v, and while the web runs backward the negated rate of the last edges (R42, R45, R87). -/
def State.velocityUm (s : State) : Int :=
  let r := s.countRate s.webEnc
  if s.trk = 3 ∨ s.trk = 4 then
    if r.2 then -(psToUm s.lpi (fracRound (fracMul s.stepsPerCount (r.1 : Nat) 1))) else 0
  else s.webSpeedUm

/-- Position, ticks and encoders (R84, R87, R88, R93). -/
def State.webVal (s : State) (k : Nat) : Option OVal :=
  let i := k / 256
  if 0x3000 ≤ i ∧ i ≤ 0x3003 then
    let e := i - 0x3000
    if k = Od.encoder.enc_count e then some (count48 (s.enc e).count)
    else if k = Od.encoder.enc_count_rate e then
      let r := s.countRate e
      num (r.1 + (if r.2 then 2 ^ 31 else 0))
    else none
  else if k = Od.tracker_status.web_position_ps then num (patternOf 64 s.xInt)
  else if k = Od.tracker_status.high_water_count then some (count48 s.web.chwm)
  else if k = Od.tracker_status.velocity_um_s then some (.int s.velocityUm)
  else if k = Od.tracker_status.line_rate_hz then num (fracRound s.lineRate).toNat
  else if 0x3040 ≤ i ∧ i ≤ 0x3043 then
    let p := i - 0x3040
    if k = Od.plane_tick.throw_advance_ps p then num (s.advance p).toNat
    else if k = Od.plane_tick.grid_phase_ps p then some (.int (s.grid p).phi)
    else none
  else if 0x3280 ≤ i ∧ i ≤ 0x3281 then
    let b := i - 0x3280
    if k = Od.beam_tick.beam_advance_ps b then num (s.advance (4 + b)).toNat
    else if k = Od.beam_tick.beam_grid_phase_ps b then some (.int (s.grid (4 + b)).phi)
    else none
  else none

/-- Lanes, the ledger and its query (R229 to R232). -/
def State.laneVal (s : State) (se k : Nat) : Option OVal :=
  let i := k / 256
  if 0x3410 ≤ i ∧ i ≤ 0x3417 then
    let q := s.queue (i - 0x3410)
    if k = Od.lane_status.queue_depth (i - 0x3410) then num q.length
    else if k = Od.lane_status.head_record (i - 0x3410) then num ((q.head?.map (fun r => r.num)).getD 0)
    else none
  else if 0x3420 ≤ i ∧ i ≤ 0x3427 then
    let l := i - 0x3420
    if k = Od.ledger.in_flight l then num (s.inFlightOf l)
    else if k = Od.ledger.verdict_pending l then
      num (s.pendingVerdicts.filter (fun it => it.lane = l)).length
    else none
  else if k = Od.item_window.slots_used then num s.slotsUsed
  else if k = Od.item_window.in_flight_total then num (s.lane.items.filter Item.inFlight).length
  else if k = Od.item_window.verdict_store_used then num s.pendingVerdicts.length
  else
    let it := s.item (s.localNat se Od.ledger_query.query_sequence)
    let found := match it with
      | some x => x.disp.isSome
      | none => false
    if k = Od.ledger_query.query_found then tru found
    else if k = Od.ledger_query.query_entry then
      raw (match it with | some x => if found then x.entry else [] | none => [])
    else none

/-- Items with lines still to couch (R281). -/
def State.composing (s : State) : Nat :=
  (s.lane.items.filter (fun it => it.inFlight && (List.range 6).any (fun r =>
    match it.spans.toList.getD r none with
    | some sp => decide (s.oi (Od.compose_ring.couch_frontier r) < sp.first + sp.count - 1)
    | none => false))).length

/-- mould_query (R284). -/
def State.mouldVal (s : State) (se k : Nat) : Option OVal :=
  let n := s.localNat se Od.mould_query.query_mould
  let c := s.freeVersions.comp.moulds
  if k = Od.mould_query.mould_pinned then
    num ((c.filter (fun v => v.num = n)).map (fun v => s.mouldHeld v.id)).sum
  else
    match verNow c n with
    | none => none
    | some v =>
      if k = Od.mould_query.mould_resident then tru true
      else if k = Od.mould_query.mould_revision then num (moRevision v.bytes)
      else if k = Od.mould_query.mould_bytes then num (moTotal v.bytes)
      else if k = Od.mould_query.mould_planes then num (moPlanes v.bytes % 16)
      else if k = Od.mould_query.mould_width_px then num (moWidth v.bytes)
      else if k = Od.mould_query.mould_height_lines then num (moHeight v.bytes)
      else if k = Od.mould_query.mould_field_count then num (moFields v.bytes)
      else if k = Od.mould_query.mould_commit_time then num v.time
      else none

/-- glyph_query (R286). -/
def State.glyphVal (s : State) (se k : Nat) : Option OVal :=
  let n := s.localNat se Od.glyph_query.query_set
  let c := s.freeVersions.comp.glyphs
  if k = Od.glyph_query.set_pinned then
    num ((c.filter (fun v => v.num = n)).map (fun v => s.glyphHeld v.id)).sum
  else
    match verNow c n with
    | none => none
    | some v =>
      if k = Od.glyph_query.set_resident then tru true
      else if k = Od.glyph_query.set_revision then num (leAt v.bytes 32 4)
      else if k = Od.glyph_query.set_glyphs then num (gsCount v.bytes)
      else if k = Od.glyph_query.set_bpp then num (gsBpp v.bytes)
      else if k = Od.glyph_query.set_lpi then num (leAt v.bytes 5 1)
      else if k = Od.glyph_query.set_bytes then num v.bytes.length
      else none

/-- The Compositor (R281 to R287). -/
def State.compVal (s : State) (se k : Nat) : Option OVal :=
  let i := k / 256
  if k = Od.compositor_status.items_composing then num s.composing
  else if k = Od.compositor_status.symbol_queue then num s.comp.symQueue.length
  else if k = Od.mould_control.resource_store_used_kib then num (ceilDiv s.storeUsed 1024)
  else if k = Od.mould_control.moulds_resident then
    num (s.comp.moulds.filter (fun v => v.untilCyc.isNone)).length
  else if k = Od.glyph_control.sets_resident then num (s.comp.glyphs.filter (fun v => v.untilCyc.isNone)).length
  else if i = Od.mould_query.query_mould / 256 then s.mouldVal se k
  else if i = Od.glyph_query.query_set / 256 then s.glyphVal se k
  else if Od.compose_ring.look_ahead_now 0 / 256 ≤ i ∧ i ≤ Od.compose_ring.look_ahead_now 5 / 256 then
    let r := i - Od.compose_ring.look_ahead_now 0 / 256
    if k = Od.compose_ring.look_ahead_now r then num (s.lookAhead r).toNat else none
  else none

/-- nozzle_query (R436). -/
def State.nozzleVal (s : State) (se k : Nat) : Option OVal :=
  let p := s.localNat se Od.nozzle_query.query_plane
  let c := s.localNat se Od.nozzle_query.query_column
  let x := s.nozzle (nozKey p c)
  if k = Od.nozzle_query.nozzle_channel then num (chanOf p c)
  else if k = Od.nozzle_query.nozzle_fired then num x.fired
  else if k = Od.nozzle_query.nozzle_suppressed then num x.supp
  else if k = Od.nozzle_query.nozzle_validity then num (s.chanValidity (chanOf p c))
  else if k = Od.nozzle_query.nozzle_idle_lines then
    num (min 0xFFFFFFFF (s.fire.ticked.toList.getD p 0 - x.lastCount))
  else none

/-- identity_query (R440). -/
def State.identityVal (s : State) (se k : Nat) : Option OVal :=
  let n := s.localNat se Od.identity_query.query_link
  let b := (s.link n).block
  let j := s.localNat se Od.identity_query.query_block
  if k = Od.identity_query.identity_present then tru (!b.isEmpty)
  else if k = Od.identity_query.identity_header then raw (b.take 256)
  else if k = Od.identity_query.rank_block then
    raw (if s.blockFitted n j then slice (256 + 2048 * j) 2048 b else [])
  else none

/-- Firing channels and head links (R436, R439, R440). -/
def State.fireVal (s : State) (se k : Nat) : Option OVal :=
  let i := k / 256
  if i = Od.nozzle_query.query_plane / 256 then s.nozzleVal se k
  else if i = Od.identity_query.query_link / 256 then s.identityVal se k
  else if 0x4040 ≤ i ∧ i ≤ 0x40FF then
    let c := i - 0x4040
    if k = Od.firing_channel.count_validity c then num (s.chanValidity c) else none
  else if 0x4400 ≤ i ∧ i ≤ 0x442F then
    let n := i - 0x4400
    if k = Od.head_link.equalisation_ns n then num (s.equalisation n).toNat
    else if k = Od.head_link.pair_epoch_sent n then num (s.on Od.pair_status.pair_epoch)
    else none
  else none

/-- map_query and inspection_query (R483, R486). -/
def State.inspVal (s : State) (se k : Nat) : Option OVal :=
  let p := s.localNat se Od.map_query.query_plane
  let c := s.localNat se Od.map_query.query_column
  let r := s.lane.results.find? (fun x => x.item = s.localNat se Od.inspection_query.query_item &&
    x.cam = s.localNat se Od.inspection_query.query_camera)
  if k = Od.map_query.entry_in_force then num (s.mapEntry p c)
  else if k = Od.map_query.entry_staged then num (s.laterEntry p c)
  else if k = Od.map_query.last_class then
    num (((kvGet s.insp.runs (nozKey p c)).map (fun x => x.1)).getD 0)
  else if k = Od.inspection_query.result_found then tru r.isSome
  else if k = Od.inspection_query.result then raw (match r with | some x => x.bytes | none => [])
  else none

/-- fault_source_query (R709). The spec names no source: source_name is a factory text. -/
def State.sourceVal (s : State) (se k : Nat) : Option OVal :=
  let n := s.localNat se Od.fault_source_query.query_source
  let x := s.source n
  if k = Od.fault_source_query.source_state then num (if sourceListed n then x.state else 255)
  else if k = Od.fault_source_query.source_sticky then tru x.sticky
  else if k = Od.fault_source_query.source_actions then num (s.actions n)
  else if k = Od.fault_source_query.source_fixed then num (fixedActions n)
  else if k = Od.fault_source_query.source_activations then num x.count
  else if k = Od.fault_source_query.source_name then
    raw (if sourceListed n then (Config.factoryText (odKey 0x6020 0 + n)).take 24 else [])
  else none

/-- Clocks (R117, R118). -/
def State.clockVal (s : State) (k : Nat) : Option OVal :=
  let i := k / 256
  if 0x6810 ≤ i ∧ i ≤ 0x6813 then
    let p := i - 0x6810
    if k = Od.pll.pll_lock_held_us p then
      num (match (s.pll p).lockedAt with
        | some t => min 0xFFFFFFFF ((s.now - t) / 1000)
        | none => 0)
    else none
  else if 0x6820 ≤ i ∧ i ≤ 0x683F then
    let o := i - 0x6820
    if k = Od.clock_out.out_freq_hz o then num (fracRound (s.outFreq o)).toNat else none
  else none

/-- The reported values that are computed at the read; none for a stored object. -/
def State.liveVal (s : State) (se k : Nat) : Option OVal :=
  let i := k / 256
  if i < 0x3000 then
    if i = 0x1010 then s.describeVal se k
    else if 0x1210 ≤ i ∧ i ≤ 0x1217 then s.sessionVal (i - 0x1210) k
    else s.commonVal se k
  else if i < 0x3400 then s.webVal k
  else if i < 0x3800 then s.laneVal se k
  else if i < 0x4000 then s.compVal se k
  else if i < 0x4800 then s.fireVal se k
  else if i < 0x4C00 then s.inspVal se k
  else if 0x5000 ≤ i ∧ i < 0x5400 then
    if k = Od.beam_unit_status.pixel_clock_hz 0 then num (fracRound (s.pixClock 0)).toNat
    else if k = Od.beam_unit_status.pixel_clock_hz 1 then num (fracRound (s.pixClock 1)).toNat
    else if k = Od.beam_unit_status.count_validity 0 ∧ s.unitState 0 = 4 then num 2
    else if k = Od.beam_unit_status.count_validity 1 ∧ s.unitState 1 = 4 then num 2
    else none
  else if 0x6000 ≤ i ∧ i < 0x6400 then
    if k = Od.pair_status.mirror_lag_us then
      num ((s.fault.lags.filter (fun p => decide (s.now ≤ p.1 + 1000000000))).foldl (fun a p => max a p.2) 0)
    else s.sourceVal se k
  else if 0x6800 ≤ i ∧ i < 0x6C00 then s.clockVal k
  else if k = Od.weighing_status.buffer_used then num s.met.buffer.length
  else none

/-! ### Values that depend on timing the model leaves out -/

/-- One more than the greatest value of an object that reports a load, a latency or a count of memory traffic,
which a model without cycle timing cannot give: it reads as a free value (assumption log). The synthesizer words
of a gliding PLL and the offset of the crystal against PTP time move likewise. -/
def State.freeBound (s : State) (k : Nat) : Option Nat :=
  let i := k / 256
  if k = Od.compositor_status.compose_load_percent ∨ k = Od.inspection_status.inspect_load_percent ∨
      k = Od.image_pipeline.pipe0_load_percent ∨ k = Od.image_pipeline.pipe1_load_percent ∨
      k = Od.adc_status.adc0_load_percent ∨ k = Od.adc_status.adc1_load_percent ∨
      k = Od.couch_store_status.bank_busy_percent ∨ k = Od.dram_status.bandwidth_percent ∨
      k = Od.dma_engine.engine_busy_percent ∨
      (List.range 4).any (fun c => k = Od.codec_instance.busy_percent c) then some 101
  else if k = Od.couch_store_status.fetch_latency_max then some (2 ^ 16)
  else if k = Od.couch_store_status.starvation_promotions ∨ k = Od.dram_status.panic_entries then some (2 ^ 32)
  else if k = Od.dram_status.raw_forwards then some (2 ^ 64)
  else if k = Od.clock_sources.xtal_offset_ppb ∧ s.on Od.ptp_status.ptp_state = 2 then some (2 ^ 32)
  else if 0x6810 ≤ i ∧ i ≤ 0x6813 ∧ s.pllState (i - 0x6810) = 3 then
    if k = Od.pll.pll_n_int (i - 0x6810) then some (2 ^ 16)
    else if k = Od.pll.pll_fraction (i - 0x6810) then some (2 ^ 24) else none
  else none

/-! ### Reading -/

/-- The value that is pending for an object of Applies standby or restart (R13). -/
def State.pendVal (s : State) (k : Nat) : Option OVal :=
  (s.od.pend.find? (fun p => p.key = k)).map (fun p => p.val)

/-- The value of an object as a write would leave it: the pending one, or the one in force (R13). -/
def State.shown (s : State) (k : Nat) : OVal := (s.pendVal k).getD (s.ov k)

/-- Its number. -/
def State.shownI (s : State) (k : Nat) : Int := (s.shown k).toInt

/-- Its number as a natural number. -/
def State.shownN (s : State) (k : Nat) : Nat := (s.shown k).toInt.toNat

/-- The value a session reads from an object of a row: a write-only object has zero length (R173). -/
def State.readVal (s : State) (se k : Nat) (r : OdRow) : OVal :=
  if r.rd = 255 then .bytes []
  else
    match s.freeBound k with
    | some n => .int (if r.ty.isSigned then signedOf (8 * r.ty.size) (s.freeVal % n) else ((s.freeVal % n : Nat) : Int))
    | none =>
      match s.liveVal se k with
      | some v => v
      | none => if r.per = 3 then s.localVal se k else s.shown k

/-- A session may read an object: its role holds the read role; a write-only object is answered with zero length
to whoever may write it or read anything (R10, R173). -/
def mayRead (role : Nat) (r : OdRow) : Bool := r.rd = 255 || roleHolds role r.rd

/-- One READ_RESP entry (R147). -/
def readEntry (idx sub status : Nat) (val : List Byte) : List Byte :=
  leBytes 2 idx ++ leBytes 1 sub ++ leBytes 1 status ++ leBytes 2 val.length ++ leBytes 2 0 ++ padMul 4 val

/-- Reads one object of the device's own dictionary for a role: its READ_RESP entry (R10, R160, R173). -/
def State.readOne (s : State) (se role idx sub : Nat) : State × List Byte :=
  let k := odKey idx sub
  match s.rowOf k with
  | none => (s, readEntry idx sub errNoObject [])
  | some r =>
    if mayRead role r = false then (s, readEntry idx sub errRole [])
    else
      let e := readEntry idx sub errOk (if r.rd = 255 then [] else encodeVal r.ty (s.readVal se k r))
      (if (s.freeBound k).isSome then s.freeNext else s, e)

end Sys2Proof.Machine
end

