-- ==== Sys2Proof/Machine/WriteChecks.lean ====
section
/-! DEFINITION. The checks of a write (R165): existence, role, length, the legality of the value by itself and
beside other objects (RANGE), and what the owning block cannot take now (BUSY). -/

namespace Sys2Proof.Machine

/-! ### The value by itself (R5, R6, R165, R166) -/

/-- Check 3: the length matches the type. -/
def lengthOk (r : OdRow) (n : Nat) : Bool :=
  if r.ty.isBytes then decide (n ≤ r.ty.size) else decide (n = r.ty.size)

/-- The value a write carries: reserved bits are ignored (R5). -/
def writtenVal (r : OdRow) (b : List Byte) : OVal :=
  match decodeVal r.ty b with
  | .int i => if r.mask = 0 then .int i else .int ((i.toNat &&& r.mask : Nat) : Int)
  | .bytes x => .bytes x

/-- The order of values: of an F32 that of the numbers its patterns spell. -/
def orderKey (ty : OTy) (i : Int) : Int :=
  match ty with
  | .f32 => if i < 2147483648 then i else 2147483648 - i
  | _ => i

/-- A number is legal for its type and its row. -/
def numberOk (r : OdRow) (i : Int) : Bool :=
  (match r.ty with
    | .bool => decide (i ≤ 1)
    | .f32 => decide (field i.toNat 30 23 ≠ 255)
    | _ => true) &&
  (match r.lo with | some m => decide (orderKey r.ty m ≤ orderKey r.ty i) | none => true) &&
  (match r.hi with | some m => decide (orderKey r.ty i ≤ orderKey r.ty m) | none => true) &&
  (r.legal.isEmpty || r.legal.any (fun p => decide ((p.1 : Int) ≤ i) && decide (i ≤ p.2)))

/-- A byte string is legal: a STR is UTF-8, and an object with fixed lengths has one of them. -/
def bytesOk (r : OdRow) (b : List Byte) : Bool :=
  (match r.ty with | .str _ => utf8Ok b | _ => true) && (r.lens.isEmpty || r.lens.contains b.length)

/-- Check 4 for the value by itself. -/
def valueOk (r : OdRow) : OVal → Bool
  | .int i => numberOk r i
  | .bytes b => bytesOk r b

/-! ### Contents of structured values -/

/-- Segments of a waveform list: amplitudes in range, and nothing after the end (R409). -/
def segmentsOk (low : Int) : Nat → List Byte → Bool
  | 0, _ => true
  | n + 1, b =>
    let d := leAt b 0 2
    let a := signedOf 16 (leAt b 2 2)
    if d = 0 then b.all (fun x => x = 0)
    else decide (low ≤ a) && decide (a ≤ 1000) && segmentsOk low n (b.drop 4)

/-- wave_data is laid out as R409 gives it; an EMPTY slot is not looked into. -/
def waveOk (b : List Byte) : Bool :=
  let kind := leAt b 0 1
  let unit := leAt b 4 2
  let low : Int := if kind = 1 then -1000 else 0
  kind = 0 || (decide (kind ≤ 2) && decide (leAt b 1 1 ≤ 15) &&
    (if kind = 1 then decide (1 ≤ unit) && decide (unit ≤ 1000) else unit = 0) &&
    segmentsOk low 8 (slice 16 32 b) && segmentsOk low 8 (slice 48 32 b) && segmentsOk low 8 (slice 80 32 b) &&
    segmentsOk low 4 (slice 112 16 b))

/-- A rule of R256: month, week, weekday and minute in range; 0 for none. -/
def zoneRuleOk (v : Nat) : Bool :=
  v = 0 || (decide (1 ≤ field v 3 0) && decide (field v 3 0 ≤ 12) && decide (1 ≤ field v 6 4) &&
    decide (field v 6 4 ≤ 5) && decide (field v 9 7 ≤ 6) && decide (field v 20 10 ≤ 1439))

/-- map_entry_write names a nozzle and an entry without reserved values (R462, R484). -/
def mapWriteOk (v : Nat) : Bool :=
  let e := v / 2 ^ 32
  decide (v % 65536 < 49152) && e % 4 = 0 && field e 12 11 ≠ 3

/-- No two of the first `n` logical lanes share a physical lane, and none lies beyond them (R489). -/
def laneMapOk (n m : Nat) : Bool :=
  let l := (List.range n).map (fun i => m / 4 ^ i % 4)
  l.all (fun x => decide (x < n)) && (List.range n).all (fun x => l.contains x)

/-- A binning code names no reserved ratio (R509). -/
def binOk (v : Nat) : Bool := v % 4 ≠ 3 && v / 4 % 4 ≠ 3 && decide (v < 16)

/-! ### The value beside other objects (RANGE)

`g` gives the number of every object as the write would leave it: the written value, a pending one, or the one in
force. The values of the other entries of a batch are not yet in effect (R178). -/

/-- Lookup with one object replaced. -/
def State.withWrite (s : State) (k : Nat) (v : OVal) (j : Nat) : Int := if j = k then v.toInt else s.shownI j

/-- A feedback encoder has counts and is not the web encoder (R561). -/
def feedbackOk (g : Nat → Int) (a : Nat) : Bool :=
  let f := (g (Od.axis_config.feedback a)).toNat
  f = 255 || (decide (0 < g (Od.encoder.enc_counts_per_rev f)) && decide (g Od.web_geometry.web_encoder ≠ f))

/-- The look-ahead marks of a ring (R272, R283, R421, R537): the resume gap and the low mark lie below
look_ahead_lines. -/
def ringMarksOk (g : Nat → Int) (r : Nat) : Bool :=
  let l := g (Od.compose_ring.look_ahead_lines r)
  decide (g (Od.compose_ring.resume_gap_lines r) < l) &&
  decide (g (if r < 4 then Od.plane_firing.lookahead_low_mark r else Od.beam_unit_config.lookahead_low_mark (r - 4)) < l)

/-- Cable delays of a plane's links stay within the plane's (R408). -/
def cablesOk (g : Nat → Int) (p : Nat) : Bool :=
  (List.range 12).all (fun i => decide (g (Od.head_link.hl_cable_ns (12 * p + i)) ≤ g (Od.plane_tick.cable_delay_ns p)))

/-- A margin keeps the nominal voltage 1 % inside the window of its channel (R653). -/
def marginOk (g : Nat → Int) (m : Nat) : Bool :=
  let c := (g (Od.margin.margin_channel m)).toNat
  let n := g (Od.seq_channel.seq_nominal_mv c)
  let v := n * (1000 + g (Od.margin.margin_tenths m))
  16 ≤ c || (decide (1000 * g (Od.seq_channel.seq_win_min_mv c) + 10 * n ≤ v) &&
    decide (v ≤ 1000 * g (Od.seq_channel.seq_win_max_mv c) - 10 * n))

/-- PWM period, decimation window and electrical frequency of an axis (R554, R564). -/
def pwmOk (g : Nat → Int) (a : Nat) : Bool :=
  let f := g (Od.axis_config.pwm_freq_hz a)
  decide ((75 * g (Od.axis_config.sinc_osr a) + 1600) * f ≤ 1000000000) &&
  decide (3 * g (Od.axis_motor.rated_speed_rpm a) * g (Od.axis_motor.pole_pairs a) ≤ 50 * f)

/-- An enabled inkjet lane names a plane (R202). -/
def State.lanePlanesOk (s : State) (l k : Nat) (v : OVal) : Bool :=
  let g := s.withWrite k v
  let none_ := g (Od.lane_config.lane_planes l) % 16 = 0 ||
    (k = Od.lane_config.lane_enable l && s.oi (Od.lane_config.lane_planes l) % 16 = 0)
  !(decide (g (Od.lane_config.lane_enable l) ≠ 0) && decide (g (Od.lane_config.lane_target l) = 0) && none_)

/-- Position, lanes, Compositor and firing (spec/02, spec/06, spec/07, spec/11). -/
def State.printRange (s : State) (k : Nat) (v : OVal) : Bool :=
  let i := k / 256
  let g := s.withWrite k v
  let n := v.toInt
  if 0x3000 ≤ i ∧ i ≤ 0x3010 then (List.range 6).all (feedbackOk g)
  else if i = 0x3020 then
    decide (g Od.tracker_config.hysteresis_counts < g Od.tracker_config.reversal_counts)
  else if 0x3040 ≤ i ∧ i ≤ 0x3043 then
    (k ≠ Od.plane_tick.plane_distance_um 0 || n = 0) && cablesOk g (i - 0x3040)
  else if 0x3200 ≤ i ∧ i ≤ 0x3203 then
    let c := i - 0x3200
    decide (g (Od.csi_port.frame_timeout_us c) < g (Od.camera_trigger.cam_min_interval_us c))
  else if 0x3400 ≤ i ∧ i ≤ 0x3407 then
    (k % 256 = Od.lane_config.lane_flush 0 % 256 || k % 256 = Od.lane_config.next_record_set 0 % 256 ||
      s.lanePlanesOk (i - 0x3400) k v)
  else if 0x3810 ≤ i ∧ i ≤ 0x3815 then ringMarksOk g (i - 0x3810)
  else if 0x3840 ≤ i ∧ i ≤ 0x387F then
    let c := i - 0x3840
    (k ≠ Od.counter.counter_step c || n ≠ 0) &&
    decide (g (Od.counter.counter_min c) ≤ g (Od.counter.counter_max c))
  else if 0x3880 ≤ i ∧ i ≤ 0x3887 then
    let z := i - 0x3880
    if k = Od.time_zone.tz_dst_start z ∨ k = Od.time_zone.tz_dst_end z then zoneRuleOk n.toNat else true
  else if 0x4000 ≤ i ∧ i ≤ 0x4003 then
    let p := i - 0x4000
    ringMarksOk g p && decide (g (Od.plane_firing.wave_band_1_hz p) ≤ g (Od.plane_firing.wave_band_2_hz p)) &&
    decide (g (Od.plane_firing.wave_band_2_hz p) ≤ g (Od.plane_firing.wave_band_3_hz p))
  else if i = 0x4018 ∨ i = 0x4019 then
    let b := i - 0x4018
    (k ≠ Od.gate_input.gate_enable (8 + b) || n = 1) &&
    (k ≠ Od.gate_input.gate_target (8 + b) || bitAt n.toNat (4 + b))
  else if 0x4100 ≤ i ∧ i ≤ 0x411F then
    decide (g (Od.deckle.deckle_left (i - 0x4100)) + g (Od.deckle.deckle_width (i - 0x4100)) ≤ 49152)
  else if 0x4400 ≤ i ∧ i ≤ 0x442F then cablesOk g ((i - 0x4400) / 12)
  else if 0x4500 ≤ i ∧ i ≤ 0x453F then waveOk v.toBytes
  else true

/-- Inspection and cameras (spec/12, spec/13). -/
def State.cameraRange (s : State) (k : Nat) (v : OVal) : Bool :=
  let i := k / 256
  let g := s.withWrite k v
  let n := v.toInt.toNat
  if 0x4820 ≤ i ∧ i ≤ 0x4823 then
    let p := i - 0x4820
    decide (g (Od.test_bar.bar_left p) + g (Od.test_bar.bar_width p) ≤ 49152)
  else if 0x4830 ≤ i ∧ i ≤ 0x4833 then
    let p := i - 0x4830
    decide (g (Od.nozzle_health.missing_percent p) ≤ g (Od.nozzle_health.weak_percent p))
  else if i = 0x4851 then mapWriteOk n
  else if 0x4C10 ≤ i ∧ i ≤ 0x4C13 then
    let c := i - 0x4C10
    laneMapOk (g (Od.csi_port.data_lanes c)).toNat (g (Od.csi_port.lane_map c)).toNat &&
    decide (g (Od.csi_port.frame_timeout_us c) < g (Od.camera_trigger.cam_min_interval_us c)) &&
    (k ≠ Od.csi_port.width_px c || (decide (16 ≤ n) && decide (n ≤ 8192) && n % 4 = 0)) &&
    (k ≠ Od.csi_port.height_lines c || decide (1 ≤ n))
  else if 0x4C20 ≤ i ∧ i ≤ 0x4C23 then
    k ≠ Od.camera_sensor.sensor_writes (i - 0x4C20) || v.toBytes.length % 4 = 0
  else if 0x4C30 ≤ i ∧ i ≤ 0x4C33 then
    k ≠ Od.isp.defect_table (i - 0x4C30) || v.toBytes.length % 4 = 0
  else if 0x4C40 ≤ i ∧ i ≤ 0x4C43 then
    let c := i - 0x4C40
    let w := (g (Od.csi_port.width_px c)).toNat
    let h := (g (Od.csi_port.height_lines c)).toNat
    if k = Od.camera_streams.insp_crop c ∨ k = Od.camera_streams.view_crop c ∨ k = Od.camera_streams.arch_crop c ∨
        k = Od.camera_streams.stat_crop c then !cropBad n w h
    else if k = Od.camera_streams.insp_bin c ∨ k = Od.camera_streams.arch_bin c then binOk n
    else if k = Od.camera_streams.view_size c then
      decide (16 ≤ n % 65536) && decide (n % 65536 ≤ 1920) && decide (16 ≤ n / 65536) && decide (n / 65536 ≤ 1200)
    else true
  else true

/-- Beam Engine, axes, loops and thermal management (spec/14 to spec/16). -/
def State.driveRange (s : State) (k : Nat) (v : OVal) : Bool :=
  let i := k / 256
  let g := s.withWrite k v
  let n := v.toInt
  if 0x5000 ≤ i ∧ i ≤ 0x5001 then
    let b := i - 0x5000
    (k ≠ Od.beam_unit_config.polygon_axis b || n = 4 + b) && ringMarksOk g (4 + b)
  else if 0x5400 ≤ i ∧ i ≤ 0x5405 then
    let a := i - 0x5400
    (k ≠ Od.axis_config.axis_role a || n ≠ 4 || decide (4 ≤ a)) && pwmOk g a &&
    (k ≠ Od.axis_config.feedback a || feedbackOk g a) &&
    decide (g (Od.axis_config.roll_radius_min_um a) ≤ g (Od.axis_config.roll_radius_max_um a))
  else if 0x5410 ≤ i ∧ i ≤ 0x5415 then
    let a := i - 0x5410
    pwmOk g a && decide (g (Od.axis_motor.stop_speed_percent a) < g (Od.axis_motor.catch_speed_percent a))
  else if 0x5800 ≤ i ∧ i ≤ 0x581F then
    let l := i - 0x5800
    let y := k = Od.loop_config.out_min l || k = Od.loop_config.out_max l
    decide (g (Od.loop_config.out_min l) < g (Od.loop_config.out_max l)) &&
    (!(y && decide (g (Od.loop_config.out_target l) ≠ 255)) || (decide (0 ≤ n) && decide (n ≤ 2 ^ 28))) &&
    (k ≠ Od.loop_config.sample_period_ns l || n % 10 = 0)
  else if 0x5A00 ≤ i ∧ i ≤ 0x5A0F then
    let t := i - 0x5A00
    decide (g (Od.remote_temp.throttle_limit t) + 10 ≤ g (Od.remote_temp.shutdown_limit t))
  else if 0x5A10 ≤ i ∧ i ≤ 0x5A17 then
    let t := i - 0x5A10
    decide (g (Od.die_temp.td_throttle_limit t) + 10 ≤ g (Od.die_temp.td_shutdown_limit t))
  else true

/-! ### Synthesizers (R96, R98, R104, R106) -/

/-- CAM_MCLK0 to CAM_MCLK3: outputs 2 to 5 of PLL_AUX (R105). -/
def camClock (o : Nat) : Bool := decide (18 ≤ o) && decide (o ≤ 21)

/-- Ceiling of a clock output in Hz: its nominal frequency, 125 MHz for the pixel clocks and 50 MHz for the camera
clocks; none for an unassigned output (R105, R106). -/
def State.outCeiling (o : Nat) : Option Nat :=
  let p := o / 8
  match (clockPlan.getD p [])[o % 8]? with
  | none => none
  | some c =>
    if p = 3 then some 125000000
    else if camClock o then some 50000000
    else some ((odDefault (Od.pll.pll_vco_target_hz p)).toInt.toNat / c.2)

/-- Every enabled output of a synthesizer stays at or below its ceiling (R106). -/
def State.ceilingsOk (g : Nat → Int) (p : Nat) : Bool :=
  (List.range 8).all (fun j =>
    let o := 8 * p + j
    g (Od.clock_out.out_enable o) = 0 || (match State.outCeiling o with
      | some f => decide (g (Od.pll.pll_vco_target_hz p) ≤ f * g (Od.clock_out.out_divider o))
      | none => true))

/-- N stays between 20 and 1 000 at every phase-detector frequency a relock could choose (R96, R99). -/
def pllModesOk (g : Nat → Int) (p : Nat) : Bool :=
  let src := (g (Od.pll.pll_ref_source p)).toNat
  let mode := (g (Od.pll.pll_ref_mode p)).toNat
  let target := (g (Od.pll.pll_vco_target_hz p)).toNat
  let ms := if mode = 3 then modesOf src else [mode]
  ms.all (fun m =>
    let f := pfdOf src m
    let nf := nAndF target f
    f ≠ 0 && decide (20 ≤ nf.1) && decide (nf.1 ≤ 1000))

/-- Clock objects (spec/03). -/
def State.clockRange (s : State) (k : Nat) (v : OVal) : Bool :=
  let i := k / 256
  let g := s.withWrite k v
  if 0x6810 ≤ i ∧ i ≤ 0x6813 then pllModesOk g (i - 0x6810) && State.ceilingsOk g (i - 0x6810)
  else
    let o := i - 0x6820
    State.ceilingsOk g (o / 8) &&
    decide (g (Od.clock_out.out_delay_steps o) ≤ 8 * g (Od.clock_out.out_divider o) - 1)

/-- Communication, management, memory, power, faults and the island. -/
def State.systemRange (s : State) (k : Nat) (v : OVal) : Bool :=
  let i := k / 256
  let g := s.withWrite k v
  let n := v.toInt
  if k = Od.klp_config.klp_max_payload ∨ (0x1100 ≤ i ∧ i ≤ 0x1102) then
    decide (g Od.klp_config.klp_max_payload ≤ 1408) ||
    (List.range 3).all (fun p => g (Od.net_port.port_enable p) = 0 || g (Od.net_port.jumbo_enable p) ≠ 0)
  else if k = Od.change_log.change_log_release then
    decide (n ≤ (s.log.flash.getLast?.map (fun r => (r.num : Int))).getD 0)
  else if k = Od.dram_config.integ_dram_mib then decide (n + 1024 ≤ s.on Od.dram_status.logical_mib)
  else if k = Od.codec_config.compositor_instances then n ≠ 0
  else if i = 0x5C01 then
    decide (g Od.supply_supervisor.sup_reset_mv + 1000 ≤ g Od.supply_supervisor.sup_warn_mv)
  else if 0x5C10 ≤ i ∧ i ≤ 0x5C1F then
    let c := i - 0x5C10
    decide (g (Od.seq_channel.seq_win_min_mv c) < g (Od.seq_channel.seq_win_max_mv c)) &&
    (List.range 8).all (fun m => g (Od.margin.margin_channel m) ≠ c || marginOk g m)
  else if 0x5C30 ≤ i ∧ i ≤ 0x5C37 then marginOk g (i - 0x5C30)
  else if k = Od.fault_control.action_write then !badActions n.toNat
  else true

/-- The value is legal beside the other objects (check 4 of R165 and the RANGE rules of the chapters). -/
def State.rangeOk (s : State) (k : Nat) (v : OVal) : Bool :=
  let i := k / 256
  if i < 0x3000 then s.systemRange k v
  else if i < 0x4800 then s.printRange k v
  else if i < 0x5000 then s.cameraRange k v
  else if i < 0x5C00 then s.driveRange k v
  else if 0x6800 ≤ i ∧ i < 0x6C00 then s.clockRange k v
  else s.systemRange k v

/-! ### BUSY -/

/-- A clock output that drives a powered domain (R103, R105): every named output of PLL_SYS, PLL_DDR and PLL_AUX
but the camera clocks. -/
def drivesDomain (o : Nat) : Bool :=
  decide (o / 8 ≠ 3) && ((clockPlan.getD (o / 8) [])[o % 8]?).isSome && !camClock o

/-- A wave_slots value names a slot that is EMPTY, or not acknowledged by every link of the plane in READY or
FIRING (R411). -/
def State.slotsUnloaded (s : State) (p v : Nat) : Bool :=
  (List.range 4).any (fun b =>
    let t := v / 2 ^ (8 * b) % 16
    s.waveKind p t = 0 || (s.readyLinks p).any (fun l => !(s.link l).slots.contains t))

/-- The block that owns the object cannot take this value now. -/
def State.blockBusy (s : State) (k : Nat) (v : OVal) : Bool :=
  let i := k / 256
  let n := v.toInt.toNat
  if 0x3400 ≤ i ∧ i ≤ 0x3407 then
    k = Od.lane_config.next_record_set (i - 0x3400) && !(s.queue (i - 0x3400)).isEmpty
  else if 0x4000 ≤ i ∧ i ≤ 0x4003 then
    k = Od.plane_firing.wave_slots (i - 0x4000) && s.slotsUnloaded (i - 0x4000) n
  else if 0x4500 ≤ i ∧ i ≤ 0x453F then
    let p := (i - 0x4500) / 16
    s.fires p && (s.bandSlots p).contains ((i - 0x4500) % 16)
  else if 0x6810 ≤ i ∧ i ≤ 0x6813 then
    let p := i - 0x6810
    if k = Od.pll.pll_vco_target_hz p ∨ k = Od.pll.pll_ref_source p ∨ k = Od.pll.pll_ref_mode p then
      s.pllState p = 1 || (k = Od.pll.pll_vco_target_hz p && p = 3 && s.pllState 3 ≠ 0 && !s.mayGlide 3 n &&
        (decide (1 ≤ s.unitState 0 ∧ s.unitState 0 ≠ 5) || decide (1 ≤ s.unitState 1 ∧ s.unitState 1 ≠ 5)))
    else false
  else if 0x6820 ≤ i ∧ i ≤ 0x683F then
    k = Od.clock_out.out_enable (i - 0x6820) && n = 0 && s.ob k && drivesDomain (i - 0x6820)
  else if 0x7010 ≤ i ∧ i ≤ 0x7012 then s.islandState ≠ 3
  else if k = Od.power_control.seq_fault_clear then s.powerState ≠ 5
  else if k = Od.pair_config.pair_switchover_request then s.pairState ≠ 5
  else if k = Od.firmware_update.update_activate then n = 1 && !s.hasTrial
  else false

/-- Check 5 of R165: a supply warning holds back every write that needs a record (R655), a full log under REFUSE
refuses (R188), a device that does not fire as the active one refuses the mirrored configuration (R694), or the
block is busy. -/
def State.writeBusy (s : State) (k : Nat) (v : OVal) (n : Nat) : Bool :=
  s.warned ||
  (!s.logRoom n && k ≠ Od.change_log.change_log_full_action && k ≠ Od.change_log.change_log_release) ||
  (mirroredIdx (k / 256) && !s.pairActive && s.pairState ≠ 6) || s.blockBusy k v

/-! ### One entry -/

/-- An entry that passed its checks. -/
structure Checked where
  /-- object -/
  key : Nat
  /-- its row -/
  row : OdRow
  /-- value -/
  val : OVal
  /-- bytes as written -/
  raw : List Byte
  deriving DecidableEq, Repr

/-- self_role: a higher role is RANGE (R172, R192). -/
def lowers (role : Nat) (v : OVal) : Bool := roleHolds role v.toInt.toNat

/-- The checks of R165, in order; `n` records are to be made with this write. -/
def State.checkEntry (s : State) (role n : Nat) (e : WEntry) : Except Nat Checked :=
  let k := odKey e.idx e.sub
  match s.rowOf k with
  | none => .error errNoObject
  | some r =>
    let v := writtenVal r e.val
    if r.wr = 255 ∨ roleHolds role r.wr = false then .error errRole
    else if lengthOk r e.val.length = false then .error errMalformed
    else if valueOk r v = false ∨ s.rangeOk k v = false ∨ (k = Od.session_self.self_role ∧ lowers role v = false) then
      .error errRange
    else if r.per ≠ 3 ∧ s.writeBusy k v n = true then .error errBusy
    else .ok ⟨k, r, v, e.val⟩

end Sys2Proof.Machine
end

