-- ==== Sys2Proof/Machine/Stops.lean ====
section
/-! DEFINITION. When the block that owns an object of Applies standby counts as stopped (R11, and the texts beside
the object tables). -/

namespace Sys2Proof.Machine

/-- An item in flight has a line on a ring. -/
def State.ringItems (s : State) (r : Nat) : Bool :=
  s.lane.items.any (fun it => it.inFlight && (it.spans.toList.getD r none).isSome)

/-- An encoder has no enabled user: it is not the web encoder or the tracker is DISABLED, and no axis whose
feedback names it is outside DISABLED and FAULT (R84). -/
def State.encStopped (s : State) (e : Nat) : Bool :=
  (s.webEnc ≠ e || s.trk = 0) &&
  (List.range 6).all (fun a => s.on (Od.axis_config.feedback a) ≠ e || s.axisState a = 0 || s.axisState a = 7)

/-- No trigger position of a camera lies ahead of X (R92). -/
def State.camTrigStopped (s : State) (c : Nat) : Bool :=
  !s.lane.items.any (fun it => bitAt (it.ivn (Od.camera_trigger.cam_lane_mask c)) it.lane &&
    !it.camDone.contains c && s.ahead (s.camPos c it)) &&
  !s.insp.bars.any (fun q => bitAt q.2.cams c && !q.2.camDone.contains c && s.ahead (s.barPos q.1 c q.2))

/-- No item awaits a reject gate and no pulse of it is high (R233). -/
def State.rejStopped (s : State) (g : Nat) : Bool :=
  !(s.lane.gates.toList.getD g ⟨false, 0⟩).level &&
  !s.lane.items.any (fun it => bitAt (s.on (Od.reject_gate.rej_lane_mask g)) it.lane && !it.gateDone.contains g &&
    s.ahead (s.rejectPos g it))

/-- A unit counts as stopped in OFF, CONFLICT or SAFE (R93, R547). -/
def State.unitStopped (s : State) (b : Nat) : Bool := s.unitState b = 0 || s.unitState b = 4 || s.unitState b = 5

/-- The block a switchable domain holds is stopped (R639). -/
def State.domainStopped (s : State) (d : Nat) : Bool :=
  if d = 8 then (List.range 48).all (fun k => s.linkState k = 0)
  else if d = 10 then (List.range 4).all (fun c => s.on (Od.csi_port.port_state c) = 0)
  else if d = 11 then (List.range 6).all (fun a => s.axisState a = 0)
  else if d = 13 then s.integState = 0
  else true

/-- Print side: position, lanes, Compositor, firing. -/
def State.printStopped (s : State) (k : Nat) : Bool :=
  let i := k / 256
  if i ≤ 0x3003 then s.encStopped (i - 0x3000)
  else if i = 0x3010 then s.trk = 0
  else if i = 0x3020 then !s.lane.items.any Item.inFlight
  else if i ≤ 0x3043 then !s.fires (i - 0x3040) && !s.ringItems (i - 0x3040)
  else if i ≤ 0x3107 then s.inFlightOf (i - 0x3100) = 0
  else if i ≤ 0x3183 then s.inFlightOf (s.on (Od.lubber_mark.mark_lane (i - 0x3180))) = 0
  else if i ≤ 0x3203 then s.camTrigStopped (i - 0x3200)
  else if i ≤ 0x3281 then s.unitStopped (i - 0x3280)
  else if i ≤ 0x3407 then s.inFlightOf (i - 0x3400) = 0
  else if i ≤ 0x3503 then s.rejStopped (i - 0x3500)
  else if i ≤ 0x3815 then !s.ringItems (i - 0x3810)
  else if i ≤ 0x4003 then !s.fires (i - 0x4000)
  else if i ≤ 0x4019 then
    (List.range 6).all (fun r => !bitAt (s.on (Od.gate_input.gate_target (i - 0x4010))) r || !s.ringRuns r)
  else if i ≤ 0x442F then !s.fires ((i - 0x4400) / 12)
  else true

/-- The owner of an object of Applies standby counts as stopped. An owner for which the spec names no condition
counts as stopped (assumption log). -/
def State.ownerStopped (s : State) (k : Nat) : Bool :=
  let i := k / 256
  if i < 0x4800 then s.printStopped k
  else if 0x4C10 ≤ i ∧ i ≤ 0x4C13 then s.on (Od.csi_port.port_state (i - 0x4C10)) = 0
  else if 0x4C20 ≤ i ∧ i ≤ 0x4C23 then s.on (Od.csi_port.port_state (i - 0x4C20)) = 0
  else if 0x4C40 ≤ i ∧ i ≤ 0x4C43 then s.on (Od.csi_port.port_state (i - 0x4C40)) = 0
  else if 0x5000 ≤ i ∧ i ≤ 0x5001 then s.unitStopped (i - 0x5000)
  else if 0x5400 ≤ i ∧ i ≤ 0x5405 then s.axisState (i - 0x5400) = 0 || s.axisState (i - 0x5400) = 7
  else if 0x5410 ≤ i ∧ i ≤ 0x5415 then s.axisState (i - 0x5410) = 0 || s.axisState (i - 0x5410) = 7
  else if 0x5800 ≤ i ∧ i ≤ 0x581F then s.loopState (i - 0x5800) = 0
  else if 0x5C30 ≤ i ∧ i ≤ 0x5C37 then s.oi (Od.margin.margin_in_effect (i - 0x5C30)) = 0
  else if 0x5C40 ≤ i ∧ i ≤ 0x5C4D then s.domainStopped (i - 0x5C40)
  else if 0x6510 ≤ i ∧ i ≤ 0x651F then (s.dma (i - 0x6510)).state ≠ 1
  else if k = Od.codec_config.compositor_instances then (List.range 6).all (fun r => !s.ringRuns r)
  else if k = Od.codec_config.archive_instances then
    (List.range 4).all (fun c => !s.ob (Od.camera_streams.arch_enable c))
  else if 0x6810 ≤ i ∧ i ≤ 0x6813 then s.pllState (i - 0x6810) = 0
  else if 0x6820 ≤ i ∧ i ≤ 0x683F then
    s.pllState ((i - 0x6820) / 8) ≠ 1 &&
    (k = Od.clock_out.out_enable (i - 0x6820) || !s.ob (Od.clock_out.out_enable (i - 0x6820)))
  else true

/-- A value that applies at once although the object is of Applies standby: true of lane_enable, tracker_enable and
port_enable (R86, R228, R520), and true of domain_enable, whose condition concerns false alone (R640). -/
def atOnce (k : Nat) (v : OVal) : Bool :=
  let i := k / 256
  v = .int 1 && (k = Od.tracker_config.tracker_enable ||
    (decide (0x3400 ≤ i) && decide (i ≤ 0x3407) && k = Od.lane_config.lane_enable (i - 0x3400)) ||
    (decide (0x4C10 ≤ i) && decide (i ≤ 0x4C13) && k = Od.csi_port.port_enable (i - 0x4C10)) ||
    (decide (0x5C40 ≤ i) && decide (i ≤ 0x5C4D)))

end Sys2Proof.Machine
end

