-- ==== Sys2Proof/Machine/Effects.lean ====
section
/-! DEFINITION. What a block does when a value of one of its objects takes effect: the start of the tracker, the
renewal of planes, ports and units, and the commands that a write performs. -/

namespace Sys2Proof.Machine

/-- What comes with a write from outside the device: the answer of a sensor register that is read, and whether the
collector sees the PAIR_ERROR of an injection. Without it both are free values. -/
structure Aux where
  /-- value a sensor register answers with -/
  answer : Option Nat
  /-- the collector sees PAIR_ERROR -/
  seen : Option Bool
  deriving DecidableEq, Repr

/-- Nothing comes with the write. -/
def Aux.none : Aux := ⟨Option.none, Option.none⟩

/-! ### Tracker and encoders (R37, R53, R82, R84) -/

/-- The web encoder exists and is enabled. -/
def State.webEncOn (s : State) : Bool := decide (s.webEnc < 4) && s.ob (Od.encoder.enc_enable s.webEnc)

/-- The tracker starts: X := 0, C_hwm := C, Z reference cleared (R82); the grids begin at the first line beyond
X, and nothing is left of earlier lines. -/
def State.trackerStart (s : State) : State :=
  let c := s.webCount
  let w := s.web
  let s := s.setWeb { w with
    refCount := c, refPos := ⟨0, 1⟩, chwm := c, measure := none, edges := [], hist := [(s.now - s.encDelay s.webEnc, c)],
    veNum := 0, veDen := 1, vBand := none, lastInterval := 0, tEdge := s.now, x := ⟨0, 1⟩, tgt := ⟨0, 1⟩,
    slew := ⟨0, 1⟩, zRef := none, ret := [], reacq := [], lastStamp := Vector.replicate 8 none }
  let s := (List.range 6).foldl (fun a r =>
    let g := a.grid r
    let n : Int := -g.phi / 64
    let a := a.setGrid r { g with target := none, nextLine := n + 1, lastTick := none }
    let a := a.seti (Od.compose_ring.couch_frontier r) (max 0 n)
    if r < 4 then a.seti (Od.plane_tick.line_index r) (max 0 n) else a) s
  let s := s.setFire { s.fire with line := Vector.replicate 4 none, flown := Vector.replicate 4 [] }
  let s := (List.range 2).foldl (fun a b => a.setUnit b { a.unit b with next := none, scan := none }) s
  s.enter 1

/-- tracker_enable and the web encoder decide whether the tracker runs (R82). -/
def State.trackerCheck (s : State) : State :=
  if s.ob Od.tracker_config.tracker_enable then
    if s.trk = 0 ∧ s.webEncOn then s.trackerStart else s
  else if s.trk ≠ 0 then s.enter 0
  else s

/-- An encoder object takes effect: exchanged inputs, and the error count since enable (R84). -/
def State.encoderSet (s : State) (e k : Nat) (old new : OVal) : State :=
  let x := s.enc e
  let s := if k = Od.encoder.enc_swap_ab e ∧ old ≠ new then s.setEnc e { x with a := x.b, b := x.a } else s
  let s := if k = Od.encoder.enc_enable e ∧ new = .int 1 ∧ old ≠ new then
      (s.setn (Od.encoder.enc_error_count e) 0).setn (Od.encoder.enc_status e)
        (withBit (s.on (Od.encoder.enc_status e)) 3 false)
    else s
  let y := s.enc e
  let s := s.setEnc e { y with phase := (y.count - quad y.a y.b) % 4 }
  s.trackerCheck

/-! ### Planes, gates and links (R411, R415, R416, R418) -/

/-- Planes follow their configuration; look-ahead and SPEED_ADV with them. -/
def State.planesSet (s : State) (ps : List Nat) : State :=
  ((ps.foldl (fun a p => a.refreshPlane p) s).lookCheck).advise

/-- The configuration of a plane is written: its INCOMPATIBLE links are identified again (R415). -/
def State.planeSet (s : State) (p : Nat) : State :=
  let s := s.planesSet [p]
  ((List.range 12).map (fun i => 12 * p + i)).foldl (fun a k => if a.linkState k = 3 then a.identify k else a) s

/-- gate_enable false opens a closed gate (R434). -/
def State.gateSet (s : State) (g : Nat) : State :=
  let s := if s.ob (Od.gate_input.gate_enable g) = false ∧ s.ob (Od.gate_input.gate_closed g) = true then
      (s.setb (Od.gate_input.gate_closed g) false).setn (Od.gate_input.gate_change_time g) s.time
    else s
  s.planesSet (List.range 4)

/-- link_enable takes effect (R415): LINK_DOWN, or DISABLED. -/
def State.linkSet (s : State) (k : Nat) : State :=
  if s.ob (Od.head_link.link_enable k) then
    if s.linkState k = 0 then (s.setLinkState k 1 0).setn (Od.head_link.link_losses k) (s.on (Od.head_link.link_losses k))
    else s
  else (s.setLink k { s.link k with asm := [], waiting := [], slots := [] }).setLinkState k 0 0

/-- A waveform slot is written: WAVE_WRITE to every link of the plane that loads or is loaded (R411). -/
def State.waveSet (s : State) (j : Nat) : State :=
  let p := j / 16
  let slot := j % 16
  let s := s.setn (Od.waveform_slot.wave_loaded j) 0
  let s := ((List.range 12).map (fun i => 12 * p + i)).foldl (fun a k =>
    let x := a.link k
    let x := { x with slots := x.slots.filter (fun i => i ≠ slot) }
    if 4 ≤ a.linkState k ∧ a.linkState k ≤ 6 then
      a.setLink k { x with waiting := x.waiting ++ [⟨x.ctlSeq, some slot, 0, 0, 0⟩], ctlSeq := (x.ctlSeq + 1) % 2 ^ 32 }
    else a.setLink k x) s
  s.planeSet p

/-! ### Print side -/

/-- Lane objects (R208, R210, R225). -/
def State.laneSet (s : State) (l k : Nat) (v : OVal) : State :=
  if k = Od.lane_config.lane_flush l then (if v = .int 1 then s.laneFlush l else s)
  else if k = Od.lane_config.next_record_set l then s.nextRecordSet l v.toInt.toNat
  else (s.noteLow l (s.queueLow l)).planesSet (List.range 4)

/-- Objects of 16#3000 to 16#3FFF. -/
def State.printSet (s : State) (k : Nat) (old v : OVal) : State :=
  let i := k / 256
  let n := v.toInt.toNat
  if i ≤ 0x3003 then s.encoderSet (i - 0x3000) k old v
  else if i ≤ 0x3020 then s.trackerCheck
  else if 0x3040 ≤ i ∧ i ≤ 0x3043 then s.planeSet (i - 0x3040)
  else if i = 0x3050 then s.advise
  else if 0x3400 ≤ i ∧ i ≤ 0x3407 then s.laneSet (i - 0x3400) k v
  else if 0x3420 ≤ i ∧ i ≤ 0x3427 then (if n = 1 then s.ledgerReset (i - 0x3420) else s)
  else if k = Od.compositor_config.pre_resolve_depth then (List.range 8).foldl (fun a l => a.preResolve l) s
  else if 0x3810 ≤ i ∧ i ≤ 0x3815 then
    let r := i - 0x3810
    let s := if k = Od.compose_ring.look_ahead_min_clear r ∧ n = 1 then
        s.setn (Od.compose_ring.look_ahead_min r) (s.lookAhead r).toNat else s
    s.lookCheck
  else if k = Od.mould_control.mould_delete then s.deleteRes false n
  else if k = Od.glyph_control.glyph_set_delete then (if n = 255 then s else s.deleteRes true n)
  else if 0x3840 ≤ i ∧ i ≤ 0x387F then
    (if k = Od.counter.counter_value (i - 0x3840) then s.counterWritten (i - 0x3840) else s)
  else s

/-- Objects of 16#4000 to 16#47FF. -/
def State.fireSet (s : State) (k : Nat) (v : OVal) : State :=
  let i := k / 256
  if i ≤ 0x4003 then s.planeSet (i - 0x4000)
  else if 0x4010 ≤ i ∧ i ≤ 0x4019 then s.gateSet (i - 0x4010)
  else if 0x4040 ≤ i ∧ i ≤ 0x40FF then (if v = .int 1 then s.resetChannel (i - 0x4040) else s)
  else if 0x4100 ≤ i ∧ i ≤ 0x411F then s.planesSet [(i - 0x4100) % 4]
  else if 0x4400 ≤ i ∧ i ≤ 0x442F then
    (if k = Od.head_link.link_enable (i - 0x4400) then s.linkSet (i - 0x4400) else s.planesSet [(i - 0x4400) / 12])
  else if 0x4500 ≤ i ∧ i ≤ 0x453F then s.waveSet (i - 0x4500)
  else s

/-! ### Cameras and drives -/

/-- A sensor register is read (R521): the device notes what the bus carried. -/
def State.sensorRead (s : State) (c reg : Nat) (aux : Aux) : State :=
  let v := (aux.answer.getD s.freeVal) % 65536
  let v := if s.on (Od.camera_sensor.i2c_data_bytes c) = 1 then v % 256 else v
  let s := if aux.answer.isNone then s.freeNext else s
  let x := s.cam c
  (s.setCam c { x with bus := kvSet x.bus reg v }).setn (Od.camera_sensor.i2c_read_value c) v

/-- Objects of 16#4800 to 16#5BFF outside the settings sets. -/
def State.driveSet (s : State) (k : Nat) (v : OVal) (aux : Aux) : State :=
  let i := k / 256
  let n := v.toInt.toNat
  if k = Od.map_write.map_entry_write then s.mapEntryWrite n
  else if k = Od.map_reset.map_reset_learned then (if n < 4 then s.mapReset n else s)
  else if 0x4C10 ≤ i ∧ i ≤ 0x4C13 then
    (if k = Od.csi_port.port_enable (i - 0x4C10) then s.portWritten (i - 0x4C10) else s.refreshPort (i - 0x4C10))
  else if 0x4C20 ≤ i ∧ i ≤ 0x4C23 then
    (if k = Od.camera_sensor.i2c_read_reg (i - 0x4C20) then s.sensorRead (i - 0x4C20) n aux else s)
  else if 0x4C40 ≤ i ∧ i ≤ 0x4C43 then s.refreshPort (i - 0x4C40)
  else if i = 0x4C60 then s
  else if 0x5000 ≤ i ∧ i ≤ 0x5001 then
    ((s.unitConfigured (i - 0x5000) (k = Od.beam_unit_config.beam_enable (i - 0x5000))).lookCheck).advise
  else if 0x5010 ≤ i ∧ i ≤ 0x5011 then (if n = 1 then s.beamReset (i - 0x5010) else s)
  else if 0x5400 ≤ i ∧ i ≤ 0x5405 then
    (if k = Od.axis_config.axis_enable (i - 0x5400) then s.axisEnabled (i - 0x5400) else s)
  else if 0x5800 ≤ i ∧ i ≤ 0x581F then
    (if k = Od.loop_config.loop_enable (i - 0x5800) then s.loopEnabled (i - 0x5800) else s)
  else s

/-! ### System side -/

/-- pll_enable of PLL_PIX (R95): the synthesizer starts, or is switched off with the pixel clock. -/
def State.pixSet (s : State) : State :=
  if s.ob (Od.pll.pll_enable 3) then (if s.pllState 3 = 0 then s.relock 3 else s)
  else
    let s := (s.setPll 3 { s.pll 3 with lockedAt := none, gated := true }).setn (Od.pll.pll_state 3) 0
    s.pixelClockLost.pllDone 3

/-- Power, clocks, memory movers (spec/03, spec/08 to spec/10, spec/18). -/
def State.powerSet (s : State) (k : Nat) (v : OVal) : State :=
  let i := k / 256
  let one := decide (v = .int 1)
  if k = Od.power_control.power_off_request then (if one then s.offRequest else s)
  else if k = Od.power_control.seq_fault_clear then (if one then s.faultClear else s)
  else if 0x5C40 ≤ i ∧ i ≤ 0x5C4D then
    if s.powerState ≠ 2 then s
    else if one then s.domainOn (i - 0x5C40) else s.domainOff (i - 0x5C40)
  else if k = Od.pll.pll_enable 3 then s.pixSet
  else if k = Od.dram_freeze_snapshot.freeze_clear then (if one then s.freezeClear else s)
  else if k = Od.dma_engine.bus_error_clear then (if one then s.setb Od.dma_engine.bus_error_active false else s)
  else if 0x6510 ≤ i ∧ i ≤ 0x651F then
    let c := i - 0x6510
    if k = Od.dma_channel.counts_reset c then (if one then s.dmaReset c else s)
    else s.setDma c { s.dma c with budget := v.toInt.toNat }
  else if 0x6600 ≤ i ∧ i ≤ 0x6603 then (if one then s.codecReset (i - 0x6600) else s)
  else s

/-- Faults and pairs (spec/19). -/
def State.faultSet (s : State) (k : Nat) (v : OVal) (aux : Aux) : State :=
  let i := k / 256
  let n := v.toInt.toNat
  if k = Od.fault_collector.safe_state_exit then (if n = 1 then s.safeLeave else s)
  else if k = Od.fault_collector.fault_n_mode ∨ k = Od.fault_collector.fault_n_drive then s.renewFaultN
  else if k = Od.fault_control.fault_clear then s.clearFault n
  else if k = Od.fault_control.fault_inject then
    match aux.seen with
    | some b => s.inject n b
    | none => (s.inject n (s.freeVal % 2 = 1)).freeNext
  else if k = Od.fault_control.action_write then s.writeActions n
  else if 0x6010 ≤ i ∧ i ≤ 0x6017 then
    (if k = Od.fault_group.recovery_count_reset (i - 0x6010) ∧ n = 1 then
      s.setn (Od.fault_group.recovery_count (i - 0x6010)) 0 else s)
  else if k = Od.pair_config.pair_switchover_request then (if n = 1 then s.relinquish else s)
  else s

/-- Records up to a change number are freed, and a RELEASE record is made (R188). -/
def State.logRelease (s : State) (w : Writer) (n : Nat) : State :=
  let s : State := { s with log := { s.log with flash := s.log.flash.filter (fun r => n < r.num) } }
  s.logKind 8 w (leBytes 8 n)

/-- A value of an object has taken effect (`old` is what it replaced). -/
def State.writeEffect (s : State) (w : Writer) (k : Nat) (old v : OVal) (aux : Aux) : State :=
  let i := k / 256
  if i < 0x3000 then
    if k = Od.change_log.change_log_release then s.logRelease w v.toInt.toNat
    else if k = Od.firmware_update.update_confirm then (if v = .int 1 then s.confirm else s)
    else if k = Od.integrator_core.integ_run then s.integRun (v = .int 1)
    else s
  else if i < 0x4000 then s.printSet k old v
  else if i < 0x4800 then s.fireSet k v
  else if i < 0x5C00 then s.driveSet k v aux
  else if 0x6000 ≤ i ∧ i < 0x6400 then s.faultSet k v aux
  else if i < 0x7000 then s.powerSet k v
  else if k = Od.weighing_status.zero_request then (if v = .int 1 then s.zeroRequest else s)
  else s

end Sys2Proof.Machine
end

