-- ==== Sys2Proof/Machine/Accept.lean ====
section
/-! DEFINITION. Accepting checked writes (R11 to R15, R148, R175 to R185): change numbers and records, what takes
effect when, the settings sets of cameras, and what the response waits for. -/

namespace Sys2Proof.Machine

/-! ### Records (R182 to R185) -/

/-- The record of an accepted write needs durability (R185): a persistent or sealed object, a value of more than 4
bytes, a STR or BLOB, and action_write, whose result is persistent (R707). -/
def Checked.durable (c : Checked) : Bool :=
  c.row.per = 1 || c.row.per = 2 || decide (4 < c.raw.length) || c.row.ty.isBytes ||
  c.key = Od.fault_control.action_write

/-- The old value a record carries: the pending one, or the one in force; of a declared object nothing is known. -/
def State.oldVal (s : State) (c : Checked) : OVal :=
  if 0x8000 ≤ c.key / 256 then c.row.dflt.getD (zeroVal c.row.ty) else s.shown c.key

/-- The record of one accepted write (R182, R184): `flags` are those of a batch. -/
def State.writeRec (s : State) (w : Writer) (num flags : Nat) (c : Checked) : LogRec :=
  let old := encodeVal c.row.ty (s.oldVal c)
  let new := encodeVal c.row.ty c.val
  let hide := decide (c.row.rd = 255)
  { num := num, time := s.time, kind := 1, origin := w.origin, sess := w.sess, role := w.role, node := w.node,
    idx := c.key / 256, sub := c.key % 256, type := c.row.ty.code,
    flags := flags + (if hide then 32 else b2n (decide (16 < old.length)) + 2 * b2n (decide (16 < new.length))),
    epoch := w.epoch, oldLen := old.length, newLen := new.length,
    old := if hide then padTo 16 [] else logValue old, new := if hide then padTo 16 [] else logValue new }

/-- The records of a write or a batch, in entry order from the next change number (R177). -/
def State.writeRecs (s : State) (w : Writer) (isBatch : Bool) (cs : List Checked) : List LogRec :=
  cs.zipIdx.map (fun p =>
    s.writeRec w (s.log.nextNum + p.2)
      (if isBatch then 4 + (if p.2 + 1 = cs.length then 8 else 0) else 0) p.1)

/-- The record of a lowered role (R172, R183). -/
def State.roleRec (s : State) (w : Writer) (num new : Nat) : LogRec :=
  { num := num, time := s.time, kind := 5, origin := w.origin, sess := w.sess, role := w.role, node := w.node,
    idx := 0x1020, sub := 2, type := OTy.enum8.code, flags := 0, epoch := w.epoch, oldLen := 1, newLen := 1,
    old := padTo 16 (leBytes 1 w.role), new := padTo 16 (leBytes 1 new) }

/-- Records enter the RAM ring of 256 (R185). -/
def State.toRing (s : State) (rs : List LogRec) : State :=
  let l := s.log.ring ++ rs
  let s : State := { s with log := { s.log with ring := l.drop (l.length - 256),
                                                unflushed := s.log.unflushed + rs.length } }
  if 32 ≤ s.log.unflushed ∧ s.log.flushing = none then
    { s with log := { s.log with flushing := some s.log.unflushed } }
  else s

/-! ### When a value takes effect (R11 to R13) -/

/-- What becomes of an accepted value. -/
inductive When where
  /-- in effect before the response -/
  | now
  /-- at the next tick of a ring -/
  | line (ring : Nat)
  /-- from a settings set -/
  | frame
  /-- pending, as Applies standby (4) or restart (5) -/
  | pend (app : Nat)
  /-- a glide of a synthesizer (R112) -/
  | glide (p : Nat)
  /-- a relock of PLL_PIX (R114) -/
  | relock
  deriving DecidableEq, Repr

/-- The ring a value of Applies line reaches: planes P0 to P3, units 4 and 5. -/
def ringOf (k : Nat) : Nat :=
  let i := k / 256
  if i < 0x3200 then i - 0x3040
  else if i < 0x4000 then 4 + (i - 0x3280)
  else if i < 0x4400 then i - 0x4000
  else if i < 0x5000 then (i - 0x4400) / 12
  else 4 + (i - 0x5000)

/-- What becomes of a target write (R111 to R115): PLL_PIX while off takes it as it is; a glide; a relock, which is
pending on PLL_SYS. In HOLDOVER the tuning is frozen until the next reset (R109). -/
def State.targetWhen (s : State) (p target : Nat) : When :=
  let st := s.pllState p
  if p = 3 ∧ st = 0 then .now
  else if (st = 2 ∨ st = 3) ∧ s.mayGlide p target = true then .glide p
  else if p = 3 then .relock
  else .pend 5

/-- When the value of a checked write takes effect. -/
def State.whenOf (s : State) (c : Checked) : When :=
  let k := c.key
  if k = Od.pll.pll_vco_target_hz 0 then s.targetWhen 0 c.val.toInt.toNat
  else if k = Od.pll.pll_vco_target_hz 3 then s.targetWhen 3 c.val.toInt.toNat
  else if 0x6820 ≤ k / 256 ∧ k / 256 ≤ 0x683F ∧ k = Od.clock_out.out_enable (k / 256 - 0x6820) then
    (if s.ownerStopped k then .now else .pend 4)
  else if c.row.app = 1 then (if s.ringRuns (ringOf k) then .line (ringOf k) else .now)
  else if c.row.app = 3 then .frame
  else if c.row.app = 4 then (if atOnce k c.val || s.ownerStopped k then .now else .pend 4)
  else if c.row.app = 5 then .pend 5
  else .now

/-! ### Settings sets (R499 to R503) -/

/-- Armed sets that a frame can still be made with: down to the newest one older than every exposure that waits. -/
def keepSets (e : Nat) : List CamSet → List CamSet
  | [] => []
  | x :: xs => if x.armed < e then [x] else x :: keepSets e xs

/-- The earliest exposure that waits on a port. -/
def State.firstExposure (s : State) (c : Nat) : Nat :=
  let x := s.cam c
  let e := (x.queue.map (fun p => p.expose)).foldl min s.now
  match x.frame with
  | some f => min e f.trig.expose
  | none => e

/-- A settings set is armed on a camera; the one that governed so far stands below it (R499, R503). -/
def State.armSet (s : State) (c id : Nat) (sendFrom : Option Nat) (vals : List (Nat × OVal)) : State :=
  let x := s.cam c
  let old := if x.sets.isEmpty then [⟨0, 0, none, s.camVals c⟩] else x.sets
  let s := s.setCam c { x with sets := keepSets (s.firstExposure c) (⟨id, s.now, sendFrom, vals⟩ :: old) }
  s.setn (Od.camera_sensor.settings_set_id c) id

/-- The entries of a write that belong to the settings sets of a camera. -/
def camEntries (c : Nat) (cs : List Checked) : List Checked := cs.filter (fun e => camFrameKey c e.key)

/-- A set of values with the entries of a camera in it. -/
def withEntries (vals : List (Nat × OVal)) (es : List Checked) : List (Nat × OVal) :=
  es.foldl (fun a e => kvSet a e.key e.val) vals

/-- The list a camera will have been sent: the waiting set's, or the one in force. -/
def State.sentList (s : State) (c : Nat) : List Byte :=
  let k := Od.camera_sensor.sensor_writes c
  match (s.cam c).wait with
  | some w => valB w.vals k
  | none => valB (s.inForce c).vals k

/-- The write changes the sensor list of a running port: it waits for the list to be sent (R500). -/
def State.needsList (s : State) (c : Nat) (cs : List Checked) : Bool :=
  s.portRuns c && cs.any (fun e => e.key = Od.camera_sensor.sensor_writes c && e.val ≠ .bytes (s.sentList c))

/-- New settings sets armed at acceptance, for every camera the entries reach and that is not in `done`, where a set
was armed already (R499, R500). The values of a set that waits follow. -/
def State.armNow (s : State) (cs : List Checked) (done : List Nat) : State :=
  (List.range 4).foldl (fun a c =>
    let es := camEntries c cs
    if es.isEmpty ∨ done.contains c then a
    else
      let id := nextSetId (a.cam c).lastSet
      let vals := withEntries (a.inForce c).vals es
      let a := a.setCam c { a.cam c with lastSet := id }
      let x := a.cam c
      let a := match x.wait with
        | some w => a.setCam c { x with wait := some { w with vals := withEntries w.vals es } }
        | none => a
      a.armSet c id none vals) s

/-! ### Acceptance -/

/-- The value of one entry goes where it belongs. All-at-once values replace a pending one. -/
def State.place (s : State) (w : Writer) (held : Nat) (c : Checked) (t : When) : State :=
  let noPend := s.od.pend.filter (fun p => p.key ≠ c.key)
  match t with
  | .line r => { s with od := { s.od with line := s.od.line ++ [⟨r, c.key, c.val, held⟩] } }
  | .pend a => { s with od := { s.od with pend := noPend ++ [⟨c.key, c.val, a, w⟩] } }
  | _ =>
    let s : State := { s with od := { s.od with pend := noPend } }
    if c.row.cmd ∨ 0x8000 ≤ c.key / 256 then s else s.setv c.key c.val

/-- The effect of one entry that takes effect with its acceptance. -/
def State.entryEffect (s : State) (w : Writer) (aux : Aux) (c : Checked) (old : OVal) (t : When) : State :=
  match t with
  | .now => s.writeEffect w c.key old c.val aux
  | .frame => if 0x4C40 ≤ c.key / 256 ∧ c.key / 256 ≤ 0x4C43 then s.refreshPort (c.key / 256 - 0x4C40) else s
  | .glide p => s.glide p c.val.toInt.toNat
  | .relock => s.relock 3
  | .line _ => s
  | .pend _ => s

/-- Bits of the rings, and of the synthesizers, that entries wait for. -/
def ringBits (ts : List When) : Nat :=
  ts.foldl (fun a t => match t with | .line r => withBit a r true | _ => a) 0

/-- Bits of the synthesizers. -/
def pllBits (ts : List When) : Nat :=
  ts.foldl (fun a t => match t with | .glide p => withBit a p true | .relock => withBit a 3 true | _ => a) 0

/-- A reset sequence follows the response: reset_request or update_activate written true (R198, R725). -/
def asksReset (cs : List Checked) : Bool :=
  cs.any (fun c => (c.key = Od.management.reset_request || c.key = Od.firmware_update.update_activate) &&
    c.val = .int 1)

/-- Session-local entries take effect for the session, in order (R163); self_role lowers the role of what is
delivered later (R172). -/
def State.placeLocal (s : State) (w : Writer) (c : Checked) : State :=
  if c.key = Od.session_self.self_role then
    s.modSess w.sess (fun x => if x.isOpen then { x with role := c.val.toInt.toNat } else x)
  else s.setLocal w.sess c.key c.val

/-- What a flash program stores of the accepted entries: values in effect, and pending ones (R176). -/
def flashVals (cs : List (Checked × When)) : List (Nat × OVal) :=
  (cs.filter (fun p => (p.1.row.per = 1 || p.1.row.per = 2 || p.1.key = Od.fault_control.action_write) &&
    (match p.2 with | .pend _ => false | _ => true))).map (fun p => (p.1.key, p.1.val))

/-- The pending values among them. -/
def flashPends (w : Writer) (cs : List (Checked × When)) : List Pend :=
  cs.filterMap (fun p => match p.2 with
    | .pend a => if p.1.row.per = 1 ∨ p.1.row.per = 2 then some ⟨p.1.key, p.1.val, a, w⟩ else none
    | _ => none)

/-- Accepts checked entries as one write or batch: they are recorded, take effect by their Applies values, and are
answered when durable and in effect. `done`: cameras whose settings set has been armed with the sending of a list. -/
def State.accept (s : State) (w : Writer) (isBatch : Bool) (reply : Reply) (cs : List Checked) (aux : Aux)
    (done : List Nat) : State :=
  let logged := cs.filter (fun c => c.row.per ≠ 3)
  let local_ := cs.filter (fun c => c.row.per = 3)
  let lowered := (local_.find? (fun c => c.key = Od.session_self.self_role && c.val ≠ .int (w.role : Nat))).map
    (fun c => c.val.toInt.toNat)
  let change := if logged.isEmpty then 0 else s.log.nextNum
  let recs := s.writeRecs w isBatch logged ++ (match lowered with
    | some r => [s.roleRec w (s.log.nextNum + logged.length) r]
    | none => [])
  let durable := logged.any Checked.durable || lowered.isSome
  let plan := logged.map (fun c => (c, s.whenOf c))
  let olds := logged.map (fun c => s.ov c.key)
  let ts := plan.map (fun p => p.2)
  let held := s.log.nextHeld
  let h : Held := { id := held, reply := reply, change := change, needFlash := durable, rings := ringBits ts,
                    cams := 0, plls := pllBits ts, reset := asksReset cs }
  let s : State := { s with log := { s.log with
    nextNum := s.log.nextNum + recs.length, nextHeld := held + 1, held := s.log.held ++ [h] } }
  let s := if durable then s.program ⟨some held, flashVals plan, flashPends w plan, recs⟩
    else if recs.isEmpty then s else s.toRing recs
  let sealed := (logged.zip olds).filter (fun p => p.1.row.per = 2)
  let s := if sealed.isEmpty then s
    else s.islandEvent w.node (sealed.map (fun p => (p.1.key, p.2, p.1.val)))
  let s := local_.foldl (fun a c => a.placeLocal w c) s
  let s := s.armNow logged done
  let s := plan.foldl (fun a p => a.place w held p.1 p.2) s
  let s := (plan.zip olds).foldl (fun a p => a.entryEffect w aux p.1.1 p.2 p.1.2) s
  s.release

end Sys2Proof.Machine
end

