-- ==== Sys2Proof/Machine/Requests.lean ====
section
/-! DEFINITION. Requests on the object dictionary on their way through the device (spec/05): the checks of a WRITE or
BATCH (R165, R178), what it may have to wait for (an integrator core that serves objects, R731; a sensor list, R500; a
flush of the RAM ring, R185), its acceptance, and a READ (R164). -/

namespace Sys2Proof.Machine

/-- A reset sequence that waited for its response to be sent begins (R198, R725). -/
def State.runReset (s : State) : State :=
  if s.power.resetDue then ({ s with power := { s.power with resetDue := false } } : State).resetSequence 1 else s

/-! ### Answers -/

/-- A rejected write: its status, and for a batch the failing entry; no change number (R148, R177). -/
def State.rejectWrite (s : State) (r : Reply) (status failed : Nat) : State :=
  match r with
  | .silent => s
  | .partner q => { s with fault := { s.fault with applying := s.fault.applying.erase q } }
  | .write se e req idx sub => s.sendIn se e 0 0x13 (writeResp req idx sub status 0)
  | .batch se e req n _ => s.sendIn se e 0 0x15 (batchResp req n status failed 0)
  | .integ idx sub => s.integAnswer status (integWrite idx sub status 0)

/-! ### Checks -/

/-- Position of the second mention of the first object named twice (R178). -/
def doubled : List WEntry → Nat → Option Nat
  | [], _ => none
  | e :: es, i =>
    match es.findIdx? (fun x => decide (x.idx = e.idx) && decide (x.sub = e.sub)) with
    | some j => some (i + 1 + j)
    | none => doubled es (i + 1)

/-- An index of the sealed range 16#7000 to 16#70FF. -/
def sealedIdx (i : Nat) : Bool := decide (0x7000 ≤ i) && decide (i ≤ 0x70FF)

/-- Position of the first entry whose range differs from that of entry 0 (R178). -/
def mixed : List WEntry → Option Nat
  | [] => none
  | e :: es => (e :: es).findIdx? (fun x => sealedIdx x.idx != sealedIdx e.idx)

/-- What makes a batch MALFORMED as a whole: its failed_entry (R177, R178). -/
def batchFlaw (es : List WEntry) : Option Nat :=
  if es.length = 0 ∨ 64 < es.length then some 0xFFFF
  else
    match doubled es 0 with
    | some j => some j
    | none => mixed es

/-- Objects the integrator core may not write (R730). -/
def integBarred (i : Nat) : Bool := (decide (0x1000 ≤ i) && decide (i < 0x3000)) || sealedIdx i

/-- Records a write is to make: its entries that are not session-local (R163). -/
def State.recordsOf (s : State) (es : List WEntry) : Nat :=
  (es.filter (fun e => match s.rowOf (odKey e.idx e.sub) with
    | some r => decide (r.per ≠ 3)
    | none => false)).length

/-- The checks of R165 on one entry, for whoever writes it (R730). -/
def State.checkOne (s : State) (w : Writer) (n : Nat) (e : WEntry) : Except Nat Checked :=
  if w.origin = 3 ∧ integBarred e.idx = true ∧ (s.rowOf (odKey e.idx e.sub)).isSome then .error errRole
  else s.checkEntry w.role n e

/-- The checks of R165 on every entry, in entry order: the status and position of the first that fails. -/
def State.checkAll (s : State) (w : Writer) (n : Nat) : List WEntry → Nat → Except (Nat × Nat) (List Checked)
  | [], _ => .ok []
  | e :: es, i =>
    match s.checkOne w n e with
    | .error c => .error (c, i)
    | .ok x =>
      match s.checkAll w n es (i + 1) with
      | .error p => .error p
      | .ok l => .ok (x :: l)

/-- Every check on a write or batch. -/
def State.checkWrite (s : State) (d : Deferred) : Except (Nat × Nat) (List Checked) :=
  match (if d.isBatch then batchFlaw d.entries else none) with
  | some i => .error (errMalformed, i)
  | none => s.checkAll d.who (s.recordsOf d.entries) d.entries 0

/-- Entries that have passed their checks before. -/
def State.entriesOf (s : State) (d : Deferred) : List Checked :=
  d.entries.filterMap (fun e => (s.rowOf (odKey e.idx e.sub)).map (fun r =>
    ⟨odKey e.idx e.sub, r, writtenVal r e.val, e.val⟩))

/-! ### Waiting, and acceptance -/

/-- Every record of the entries passes through the RAM ring (R185). -/
def ringWrite (cs : List Checked) : Bool :=
  let l := cs.filter (fun c => c.row.per ≠ 3)
  !l.isEmpty && !l.any Checked.durable

/-- A write whose records would find 32 unflushed ones waits for the flush; any other is accepted (R185). -/
def State.letIn (s : State) (d : Deferred) (cs : List Checked) (aux : Aux) (done : List Nat) : State :=
  if ringWrite cs ∧ 32 ≤ s.log.unflushed then { s with log := { s.log with waiting := s.log.waiting ++ [d] } }
  else s.accept d.who d.isBatch d.reply cs aux done

/-- A write joins the settings set of a camera that waits for its list to be sent, under a new id; a list being sent
begins anew (R499, R500). -/
def State.awaitSet (s : State) (c id : Nat) (cs : List Checked) : State :=
  let x := s.cam c
  let n := nextSetId x.lastSet
  let es := camEntries c cs
  let w : CamSetWait := match x.wait with
    | some w => { w with id := n, vals := withEntries w.vals es, writes := w.writes ++ [id], sendFrom := none }
    | none => ⟨n, s.now, withEntries (s.inForce c).vals es, [id], false, none⟩
  (s.setCam c { x with lastSet := n, wait := some w }).trySend c

/-- Bits of a list of indexes. -/
def maskOf (l : List Nat) : Nat := l.foldl (fun a i => withBit a i true) 0

/-- A write that changes the sensor list of a running camera waits until every such list is acknowledged (R500);
any other goes on. -/
def State.sendLists (s : State) (d : Deferred) (cs : List Checked) (aux : Aux) : State :=
  let need := (List.range 4).filter (fun c => s.needsList c cs)
  if need.isEmpty then s.letIn d cs aux []
  else
    let id := s.img.nextWrite
    let s : State := { s with img := { s.img with
      nextWrite := id + 1, writes := s.img.writes ++ [⟨id, d, maskOf need, maskOf need⟩] } }
    need.foldl (fun a c => a.awaitSet c id cs) s

/-! ### Served objects (R731) -/

/-- SERVE_REQ: index, subindex, op, length, reserved, and the value (R731). -/
def serveBytes (idx sub op : Nat) (val : List Byte) : List Byte :=
  (padTo 256 (leBytes 2 idx ++ leBytes 1 sub ++ leBytes 1 op ++ leBytes 2 val.length ++ leBytes 2 0 ++ val)).take 256

/-- The access a job asks for now. -/
def ServeJob.request (j : ServeJob) : List Byte :=
  match j.what with
  | none =>
    match j.rest with
    | o :: _ => serveBytes o.1 o.2 0 []
    | [] => []
  | some d =>
    match d.entries[j.served]? with
    | some e => serveBytes e.idx e.sub 1 e.val
    | none => []

/-- SERVE_REQ shows the access of the first job. -/
def State.showServe (s : State) : State :=
  match s.mgmt.serves with
  | [] => s
  | j :: _ => s.setMgmt { s.mgmt with serveReq := j.request }

/-- A job waits for the integrator core. -/
def State.pushServe (s : State) (j : ServeJob) : State :=
  (s.setMgmt { s.mgmt with serves := s.mgmt.serves ++ [j] }).showServe

/-- Position of the first entry from `i` on that the integrator core serves. -/
def State.nextServed (s : State) (d : Deferred) (i : Nat) : Option Nat :=
  (List.range d.entries.length).find? (fun j => decide (i ≤ j) &&
    match d.entries[j]? with
    | some e => s.isServed (odKey e.idx e.sub)
    | none => false)

/-- A WRITE or BATCH is checked, and goes on to whatever it has to wait for; entries before position `i` have been
served. -/
def State.process (s : State) (d : Deferred) (aux : Aux) (i : Nat) : State :=
  match s.checkWrite d with
  | .error p => s.rejectWrite d.reply p.1 p.2
  | .ok cs =>
    match s.nextServed d i with
    | some j => s.pushServe ⟨d.who, 0, 0, [], [], some d, j⟩
    | none => (s.sendLists d cs aux).runReset

/-! ### READ (R164) -/

/-- READ_RESP, or the response to OD_READ, which has room for 248 bytes after its first 8 (R147, R729, R730). -/
def State.readDone (s : State) (w : Writer) (req count : Nat) (body : List Byte) : State :=
  let b := leBytes 1 count ++ [0, 0, 0] ++ body
  if w.sess < 8 then s.sendIn w.sess w.epoch 0 0x11 (leBytes 4 req ++ b)
  else if 248 < b.length then s.integAnswer errMalformed []
  else s.integAnswer errOk b

/-- Reads objects in message order; an object that the integrator core serves makes the READ wait for its reply
(R164, R731). -/
def State.readGo (s : State) (w : Writer) (req count : Nat) (done : List Byte) : List (Nat × Nat) → State
  | [] => s.readDone w req count done
  | o :: rest =>
    match s.declaredAt (odKey o.1 o.2) with
    | some d =>
      if d.rd = 255 ∨ mayRead w.role d.row = false then
        s.readGo w req count
          (done ++ readEntry o.1 o.2 (if mayRead w.role d.row then errOk else errRole) []) rest
      else s.pushServe ⟨w, req, count, done, o :: rest, none, 0⟩
    | none =>
      let r := s.readOne w.sess w.role o.1 o.2
      r.1.readGo w req count (done ++ r.2) rest

/-- The integrator core has answered the first access, or has not in time (R731). -/
def State.serveAnswer (s : State) (status : Nat) (val : List Byte) : State :=
  match s.mgmt.serves with
  | [] => s
  | j :: rest =>
    let s := (s.setMgmt { s.mgmt with serves := rest, serveReq := [] }).showServe
    match j.what with
    | none =>
      match j.rest with
      | [] => s
      | o :: objs =>
        s.readGo j.who j.req j.count
          (j.done ++ readEntry o.1 o.2 status (if status = 0 then val else [])) objs
    | some d => if status = 0 then s.process d Aux.none (j.served + 1) else s.rejectWrite d.reply status j.served

/-! ### Session requests -/

/-- The writer and the reply of a single write taken from a session. -/
def Taken.single (k : Taken) (req : Nat) (e : WEntry) : Deferred :=
  ⟨k.who, false, [e], .write k.who.sess k.who.epoch req e.idx e.sub⟩

/-- One object is written on a session by a taken WRITE (R147, R165). -/
def State.writeOne (s : State) (se req : Nat) (e : WEntry) (aux : Aux) : State :=
  let r := s.take se 0x12
  if r.2.live then r.1.process (r.2.single req e) aux 0 else r.1

/-- A WRITE of an object of the dictionary by its key, its value encoded as its type has it (R166). -/
def State.writeKey (s : State) (se req k : Nat) (v : OVal) (aux : Aux) : State :=
  match odRow k with
  | none => s
  | some r => s.writeOne se req ⟨k / 256, k % 256, encodeVal r.ty v⟩ aux

/-- The instant of a request, with X brought to it. -/
def State.at (s : State) (t : Nat) : State := (s.atTime t).moveX

/-- A READ of 1 to 64 objects is answered with READ_RESP (R147, R164). -/
def execRead (t : Nat) (se : Fin 8) (req : Nat) (objs : List (Nat × Nat)) (s : State) :
    Host.Outcome State Fault Refusal :=
  let r := (s.at t).take se 0x10
  if r.2.live = false then ok r.1
  else if objs.length = 0 ∨ 64 < objs.length then ok (r.1.errorTo r.2 errMalformed 0x10)
  else ok (r.1.readGo r.2.who req objs.length [] objs)

/-- A WRITE is checked, applied by its Applies value, logged and answered with WRITE_RESP (R11 to R15, R148, R165,
R176, R181 to R185). -/
def execWrite (t : Nat) (se : Fin 8) (req : Nat) (e : WEntry) (s : State) : Host.Outcome State Fault Refusal :=
  ok ((s.at t).writeOne se req e Aux.none)

/-- A BATCH is checked whole, takes effect as one, and is answered with BATCH_RESP (R177 to R180). -/
def execBatch (t : Nat) (se : Fin 8) (req : Nat) (es : List WEntry) (s : State) :
    Host.Outcome State Fault Refusal :=
  let r := (s.at t).take se 0x14
  if r.2.live then
    ok (r.1.process ⟨r.2.who, true, es, .batch se r.2.who.epoch req es.length (es.any (fun e => mirroredIdx e.idx))⟩
      Aux.none 0)
  else ok r.1

/-! ### Flash programs and the RAM ring -/

/-- The first flash program ends: its values and records are durable together (R176). A write of action_write keeps
the action sets that stand (R707). -/
def State.programDone (s : State) : State :=
  match s.log.program with
  | [] => s
  | op :: rest =>
    let s : State := { s with log := { s.log with program := rest } }
    let s := op.vals.foldl (fun a p =>
      if p.1 = Od.fault_control.action_write then
        { a with fault := { a.fault with kept := a.fault.actions } }
      else
        { a with od := { a.od with flash := kvSet a.od.flash p.1 p.2, kept := a.od.kept.filter (fun q => q.key ≠ p.1) } })
      s
    let s := op.pends.foldl (fun a p =>
      ({ a with od := { a.od with kept := a.od.kept.filter (fun q => q.key ≠ p.key) ++ [p] } } : State)) s
    let s := s.logFlash op.recs
    match op.held with
    | none => s
    | some h => (s.modHeld h (fun x => { x with needFlash := false })).release

/-- The flash program of the oldest durable write completes, and the response it holds is sent (R14, R176). -/
def execFlashProgramComplete (t : Nat) (s : State) : Host.Outcome State Fault Refusal :=
  ok (s.at t).programDone.runReset

/-- The 100 ms timer, or 32 unflushed records, starts a flush of the RAM ring (R185). -/
def execChangeLogFlush (t : Nat) (s : State) : Host.Outcome State Fault Refusal :=
  let s := s.atTime t
  if s.log.flushing.isNone ∧ 0 < s.log.unflushed then
    ok { s with log := { s.log with flushing := some s.log.unflushed } }
  else ok s

/-- A flush completes: its records are durable, and the writes that waited for it are accepted in order (R185). -/
def execChangeLogFlushDone (t : Nat) (s : State) : Host.Outcome State Fault Refusal :=
  let s := s.at t
  match s.log.flushing with
  | none => ok s
  | some n =>
    let recs := s.ringTail.take n
    let ds := s.log.waiting
    let s : State := { s with log := { s.log with flushing := none, unflushed := s.log.unflushed - n, waiting := [] } }
    let s := (s.logFlash recs).inc64 Od.change_log.flush_count
    ok (ds.foldl (fun a d => a.process d Aux.none d.entries.length) s)

/-- A pending standby value takes effect when its owner stops, and is logged as APPLIED (R13, R183). -/
def execPendingValueApplied (t idx sub : Nat) (s : State) : Host.Outcome State Fault Refusal :=
  let s := s.at t
  let k := odKey idx sub
  match s.od.pend.find? (fun p => p.key = k) with
  | none => ok s
  | some p =>
    if p.app = 4 ∧ s.ownerStopped k = true then
      let old := s.ov k
      ok ((s.applyPend p).writeEffect p.who k old p.val Aux.none).runReset
    else ok s

end Sys2Proof.Machine
end

