-- ==== Sys2Proof/Machine/Boot.lean ====
section
/-! DEFINITION. Booting from stage 3 on (spec/20 R717, R722; spec/03 R95; spec/09 R337): the synthesizers, DRAM
training, slot selection and recovery, and the firmware's first work: persistent objects, the hold-up record (R664), the
Change Log tail (R187) and the BOOT record. -/

namespace Sys2Proof.Machine

/-! ### Stage 3 (R95, R337) -/

/-- The boot ROM is in stage 3. -/
def State.inStage3 (s : State) : Bool :=
  s.on Od.boot_status.boot_stage_reached = 3 && s.on Od.boot_status.boot_fail_code = 0

/-- What the boot ROM does once a synthesizer of PLL_SYS, PLL_DDR and PLL_AUX has locked: the next one, or DRAM
training. -/
def State.bootLocked (s : State) (p : Nat) : State :=
  if s.inStage3 = false then s
  else if p < 2 then (if s.pllState (p + 1) = 0 then s.relock (p + 1) else s)
  else if p = 2 ∧ s.on Od.dram_status.dram_state = 0 then s.setn Od.dram_status.dram_state 1
  else s

/-- A synthesizer's lock has held for 50 µs: its outputs are enabled again (R107, R114). -/
def execPllLockAcquired (t : Nat) (p : Fin 4) (s : State) : Host.Outcome State Fault Refusal :=
  let s := s.atTime t
  if s.pllState p = 1 then ok ((s.relocked p).bootLocked p).runReset else ok s

/-! ### Slot selection (R722) -/

/-- A slot is booted: its image is checked, and it becomes BAD when it fails (R719, R720, R722). -/
def State.bootSlot (s : State) (g : Nat) : State × Bool :=
  let b := s.mgmt.slots.toList.getD g []
  let e := imgCheck 1 Config.rootKeyHash s.mgmt.fuses b
  if e = 0 then
    let s := (s.setn Od.firmware_update.running_slot g).setn Od.device_identity.firmware_slot g
    (s.setn Od.device_identity.firmware_version (leAt b 4 4), true)
  else
    ((s.writeDir (s.dir.setSlot g 3)).setn Od.boot_status.boot_fail_code (if e = 4 then 6 else 5), false)

/-- The slot rule 3 names: the preferred one if it is CONFIRMED, else the other. -/
def Directory.confirmed (d : Directory) : Option Nat :=
  if d.slot d.preferred = 2 then some d.preferred
  else if d.slot (1 - d.preferred) = 2 then some (1 - d.preferred)
  else none

/-- Rule 3, until a slot boots or none is left; two slots bound the tries. -/
def State.bootConfirmed : Nat → State → State × Option Nat
  | 0, s => (s, none)
  | n + 1, s =>
    match s.dir.confirmed with
    | none => (s, none)
    | some g =>
      let r := s.bootSlot g
      if r.2 then (r.1, some g) else State.bootConfirmed n r.1

/-- Rules 1 to 3 (R722): the slot that runs, if any. -/
def State.selectSlot (s : State) : State × Option Nat :=
  let d := s.dir
  if d.trial ≤ 1 ∧ d.slot d.trial = 1 then
    if 0 < d.tries then
      let s := s.writeDir { d with tries := d.tries - 1 }
      let r := s.bootSlot d.trial
      if r.2 then (r.1, some d.trial) else r.1.bootConfirmed 2
    else (s.writeDir { d.setSlot d.trial 3 with trial := 255 }).bootConfirmed 2
  else s.bootConfirmed 2

/-- The slot first chosen: a PENDING trial slot, or the preferred one (R722). -/
def Directory.firstChoice (d : Directory) : Nat :=
  if d.trial ≤ 1 ∧ d.slot d.trial = 1 then d.trial else d.preferred

/-! ### The hold-up record (R664) -/

/-- Items as the last state checkpoint and the journal have them. -/
def State.journalItems (s : State) : List Item :=
  s.jrn.flash.foldl (fun l e =>
    match e.item with
    | none => l
    | some it => if l.any (fun x => x.seq = it.seq) then l.map (fun x => if x.seq = it.seq then it else x)
                 else l ++ [it]) s.jrn.ckptItems

/-- Counts, counters, marks and the next item_sequence as the checkpoint and the journal have them (R660, R664). -/
def State.rebuildCounts (s : State) : State :=
  let s := s.jrn.ckpt.foldl (fun a p => a.setv p.1 p.2) s
  s.jrn.flash.foldl (fun a e => e.sets.foldl (fun b p => b.setv p.1 p.2) a) s

/-- The newest record of the previous boot. -/
def State.bootRecord (s : State) : Option HoldRec :=
  (s.power.area.filter (fun r => r.bootId = s.on Od.device_identity.boot_id)).getLast?

/-- The record is complete (R664). -/
def State.recordComplete (s : State) (r : HoldRec) : Bool :=
  r.body && (r.stopKind = 1 || r.stopKind = 3) && decide (r.journalLast ≤ s.journalLast)

/-- An item of slot_busy closes from the hold-up record, NOT_SEEN, with flag [4] (R664), and with the partial flag
where a line of it fired (R221). -/
def State.closeAtBoot (s : State) (stop : Nat) (p : Nat × Bool) : State :=
  match s.item p.1 with
  | none => s
  | some it =>
    let d := if p.2 then 8 else 7
    let it2 := { it with disp := some d, reason := 0, verdict := 3, fHoldup := true,
                         fPartial := it.fPartial || p.2, closeTime := stop,
                         verdictTime := s.time, state := 4, slot := none, fields := [] }
    let s := (s.modItem p.1 (fun _ => it2)).inc64 (dispKey it.lane d)
    let s := (s.inc64 (verdictKey it.lane 3)).journal [dispKey it.lane d, verdictKey it.lane 3] p.1
    (s.event 0x0400 it2.entry).event 0x0401 it2.entry

/-- No frame of the previous boot can reach an item that closed with a pending verdict (R664). -/
def State.unseenAtBoot (s : State) : State :=
  s.pendingVerdicts.foldl (fun a it => a.recordVerdict it.seq 3) s

/-- next_record of every lane follows its consumed mark (R208, R664). -/
def State.nextRecords (s : State) : State :=
  (List.range 8).foldl (fun a l =>
    a.setn (Od.lane_status.next_record l) (nextRecord (a.on (Od.lane_status.consumed_mark l)))) s

/-- The drop counters resume from their last checkpoint with a validity, unless theirs is UNKNOWN (R34, R428). -/
def State.resumeDrops (s : State) (validity : Nat) : State :=
  let s := s.fire.ckptVals.foldl (fun a p => a.setv p.1 p.2) s
  let s := s.setFire { s.fire with nozzles := s.fire.ckptNozzles.map (fun q =>
    (q.1, { Nozzle.fresh with fired := q.2.1, supp := q.2.2 })) }
  let s := s.setn Od.drop_checkpoint.checkpoint_time s.power.dropTime
  ((List.range 192).map Od.firing_channel.count_validity ++ [0, 1].map Od.beam_unit_status.count_validity).foldl
    (fun a k => if a.on k = 2 then a else a.setn k validity) s

/-- R664 with a complete record. -/
def State.fromRecord (s : State) (r : HoldRec) : State :=
  let s := (r.busy.foldl (fun a p => a.closeAtBoot r.stopTime p) s).unseenAtBoot
  let s := (s.setn Od.holdup_status.boot_record 1).setn Od.holdup_status.items_closed_at_boot r.busy.length
  let s := s.setn Od.holdup_status.last_stop_kind r.stopKind
  (s.setn Od.holdup_status.last_warning_time r.warnTime).resumeDrops 1

/-- The item_sequence 1 024 past the highest that journal and checkpoint show, skipping 0 (R224). -/
def State.leapSequence (s : State) : State :=
  let q := (s.on Od.item_window.next_item_sequence + 1023) % 2 ^ 32
  s.setn Od.item_window.next_item_sequence (if q = 0 then 1 else q)

/-- Every counter takes the validity UNKNOWN (R251). -/
def State.countersUnknown (s : State) : State :=
  (List.range 64).foldl (fun a c => a.setn (Od.counter.counter_validity c) 2) s

/-- R664 without one, when the journal shows items in flight (R33): they are not closed, the ledgers of their lanes,
every drop counter and every counter are UNKNOWN, and item_sequence leaps (R224, R251). -/
def State.withoutRecord (s : State) : State :=
  let lanes := (s.lane.items.filter Item.inFlight).map (fun it => it.lane)
  let s := s.setItems (s.lane.items.filter (fun it => !it.inFlight && (it.disp.isNone || it.verdict ≠ 0)))
  let s := lanes.foldl (fun a l => a.setn (Od.ledger.ledger_validity l) 2) s
  let s := ((s.setn Od.holdup_status.boot_record 2).resumeDrops 2).countersUnknown.leapSequence
  s.event 0x5C04 (leBytes 4 (s.on Od.device_identity.boot_id))

/-- What the hold-up record and the journal give at boot (R664). With neither a complete record nor an item in flight
nothing was lost. -/
def State.holdupBoot (s : State) : State :=
  let s := (s.setItems s.journalItems).rebuildCounts
  let s :=
    match s.bootRecord with
    | some r => if s.recordComplete r then s.fromRecord r
        else if s.lane.items.any Item.inFlight then s.withoutRecord else s.unseenAtBoot.resumeDrops 0
    | none => if s.lane.items.any Item.inFlight then s.withoutRecord else s.unseenAtBoot.resumeDrops 0
  s.nextRecords.renewSlots

/-! ### The Change Log tail (R187) -/

/-- The last record of an object below a change number. -/
def lastOf (l : List LogRec) (idx sub num : Nat) : Option LogRec :=
  (l.filter (fun r => r.idx = idx && r.sub = sub && decide (r.num < num) &&
    (r.kind = 1 || r.kind = 2 || r.kind = 7))).getLast?

/-- The role of a record without a session (R187). -/
def State.tailRole (s : State) (r : LogRec) : Nat :=
  if r.origin = 6 then 5
  else if r.origin = 3 then
    match lastOf s.log.flash (Od.integrator_core.integ_role / 256) (Od.integrator_core.integ_role % 256) r.num with
    | some x => leNat (x.new.take 1)
    | none => s.on Od.integrator_core.integ_role
  else 255

/-- A record rebuilt from a tail slot (R186, R187). `base`: the time of the first tail record. -/
def State.tailRec (s : State) (base : Nat) (r : LogRec) : LogRec :=
  let opened := (s.log.flash.filter (fun x => x.kind = 3 && x.sess = r.sess && decide (x.num < r.num))).getLast?
  let w : Writer :=
    if r.sess < 8 then
      match opened with
      | some x => ⟨r.origin, r.sess, x.role, x.node, x.epoch⟩
      | none => ⟨r.origin, r.sess, 255, 0, 0⟩
    else ⟨r.origin, 255, s.tailRole r, 0, 0⟩
  let n := match odRow (odKey r.idx r.sub) with
    | some row => row.ty.size
    | none => 0
  let ty := match odRow (odKey r.idx r.sub) with
    | some row => row.ty
    | none => .u32
  let old := match lastOf s.log.flash r.idx r.sub r.num with
    | some x => x.new
    | none => padTo 16 (encodeVal ty (odDefault (odKey r.idx r.sub)))
  { num := r.num, time := base + min ((r.time - base) / 4000) 65535 * 4000, kind := 1, origin := w.origin,
    sess := w.sess, role := w.role, node := w.node, idx := r.idx, sub := r.sub, type := ty.code, flags := 16,
    epoch := w.epoch, oldLen := n, newLen := n, old := old, new := padTo 16 (r.new.take n) }

/-- Every tail slot of a complete record becomes a full record, in order (R187). -/
def State.restoreTail (s : State) : State :=
  match s.bootRecord with
  | none => s
  | some r =>
    if s.recordComplete r then
      let base := (r.tail.head?.map (fun x => x.time)).getD 0
      let s := r.tail.foldl (fun a x => a.logFlash [a.tailRec base x]) s
      s.setn Od.change_log.tail_restored r.tail.length
    else s

/-! ### Persistent objects (R175, R189, R198) -/

/-- The durable value of an object. -/
def State.durableVal (s : State) (k : Nat) : OVal := (kvGet s.od.flash k).getD (odDefault k)

/-- The default of an object is recorded and made durable (R183, R198). -/
def State.logDefault (s : State) (k : Nat) : State :=
  s.logObj 7 Writer.device k (s.durableVal k) (odDefault k) true

/-- Objects whose durable value differs from their default. -/
def State.changedKeys (s : State) : List Nat :=
  (s.od.flash.filter (fun p => restorable p.1 && p.2 != odDefault p.1)).map (fun p => p.1)

/-- Pending values are recorded as APPLIED; or restore_defaults stands, and every default and every discarded value is
recorded as DEFAULTS (R13, R189, R198). -/
def State.recordValues (s : State) : State :=
  let ps := s.od.pend
  let back := s.restoring
  let s : State := { s with od := { s.od with pend := [], kept := if back then [] else s.od.kept } }
  if back then
    let ks := s.changedKeys
    let more := ((ps.map (fun p => p.key)).filter (fun k => k ≠ Od.management.restore_defaults && !ks.contains k))
    (ks ++ more).foldl (fun a k => a.logDefault k) s
  else
    ps.foldl (fun a p => (a.logObj 2 Writer.device p.key (a.durableVal p.key) p.val true).setv p.key p.val) s

/-! ### Stage 5 (R717) -/

/-- Blocks take the state their configuration gives them. -/
def State.startBlocks (s : State) : State :=
  let s := (List.range 48).foldl (fun a k => if a.ob (Od.head_link.link_enable k) then a.linkSet k else a) s
  let s := (List.range 4).foldl (fun a c => if a.ob (Od.csi_port.port_enable c) then a.portWritten c else a) s
  let s := ((s.unitConfigured 0 false).unitConfigured 1 false).trackerCheck
  s.planesSet (List.range 4)

/-- The BOOT record with the new boot_id (R183, R664). -/
def State.newBoot (s : State) : State :=
  let b := (s.on Od.device_identity.boot_id + 1) % 2 ^ 32
  let s := s.setn Od.device_identity.boot_id b
  (s.setPower { s.power with writeNum := 1 }).logKind 6 Writer.device (leBytes 4 b)

/-- Boot stage 5 (R717). -/
def State.firmwareInit (s : State) : State :=
  let s := s.holdupBoot.restoreTail.recordValues.newBoot.startBlocks
  let s := if s.ob Od.integrator_core.integ_run then s.integStart else s
  let s := if s.ob Od.pair_config.pair_enable then s.pairEnter 1 0 else s
  let s := s.setn Od.boot_status.boot_stage_reached 5
  s.setn Od.boot_status.boot_time_ms ((s.now - s.power.onAt) / 1000000)

/-- Stage 4: a slot is selected and booted, or the boot ROM enters recovery (R717, R722, R726). -/
def State.bootImage (s : State) : State :=
  let first := s.dir.firstChoice
  let s := (s.setn Od.boot_status.boot_stage_reached 4).renewUpdate
  let r := s.selectSlot
  match r.2 with
  | none =>
    let s := r.1.setn Od.boot_status.boot_fail_code 2
    (s.setMgmt { s.mgmt with recovery := true }).renewFaultN
  | some g =>
    let s := if g ≠ first then r.1.setDurable Od.boot_status.slot_fallbacks
        (.int ((r.1.on Od.boot_status.slot_fallbacks + 1) % 2 ^ 32 : Nat)) else r.1
    s.renewFaultN.firmwareInit

/-- Capacity in MiB of eight x16 devices of a density of 4, 8 or 16 Gbit (R334, R351). -/
def dramMib (density : Nat) : Nat := 1024 * (4 * 2 ^ density)

/-- Boot training of every DRAM channel ends. It fails: TRAIN_FAILED, and the boot halts. It succeeds: DRAM runs, and
the boot goes on (R335, R337, R717). `density`: of the devices found, 4, 8 or 16 Gbit. -/
def execDramTrainingDone (t : Nat) (good : Bool) (density : Fin 3) (s : State) :
    Host.Outcome State Fault Refusal :=
  let s := s.atTime t
  if s.inStage3 = false ∨ s.on Od.dram_status.dram_state ≠ 1 then ok s
  else if good = false then
    ok ((s.setn Od.dram_status.dram_state 4).setn Od.boot_status.boot_fail_code 4).renewFaultN
  else
    let mib := dramMib density
    let s := (s.setn Od.dram_status.dram_state 2).setn Od.dram_status.device_density_gbit (4 * 2 ^ density.val)
    let s := s.setn Od.dram_status.physical_mib mib
    let s := s.setn Od.dram_status.logical_mib (if s.ob Od.dram_config.dram_ecc_enable then mib / 16 * 15 else mib)
    ok (s.setn Od.dram_status.last_training_time s.time).bootImage

/-! ### Commands that can release a response a reset sequence waits for (R198, R725) -/

/-- An outcome with the reset sequence that its responses let go. -/
def finish (o : Host.Outcome State Fault Refusal) : Host.Outcome State Fault Refusal :=
  match o with
  | .next s => .next s.runReset
  | .fault f => .fault f
  | .refused r => .refused r

/-- A glide reaches its target (R112). -/
def execPllGlideDone (t : Nat) (p : Fin 4) (s : State) : Host.Outcome State Fault Refusal :=
  finish (runPllGlideDone t p s)

/-- X reaches the tick position of the next line of a plane (R61 to R65). -/
def execLineTick (t : Nat) (plane : Fin 4) (struck : Bool) (s : State) : Host.Outcome State Fault Refusal :=
  finish (runLineTick t plane struck s)

/-- A qualified beam-detect edge (R531 to R536, R543). -/
def execBdEdge (t : Nat) (unit : Fin 2) (rising half : Bool) (s : State) : Host.Outcome State Fault Refusal :=
  finish (runBdEdge t unit rising half s)

/-- A qualified edge on A or B of an encoder (R38, R43). -/
def execEncoderEdge (t : Nat) (enc : Fin 4) (a b : Bool) (s : State) : Host.Outcome State Fault Refusal :=
  finish (runEncoderEdge t enc a b s)

/-- A qualified edge on Z of an encoder (R59, R60). -/
def execZEdge (t : Nat) (enc : Fin 4) (level : Bool) (s : State) : Host.Outcome State Fault Refusal :=
  finish (runZEdge t enc level s)

end Sys2Proof.Machine
end

