-- ==== Sys2Proof/Machine/CamWrites.lean ====
section
/-! DEFINITION. The sensor bus (spec/13 R497 to R502): a settings set that is armed when its list has been sent, a list
that fails, and the read of a sensor register. -/

namespace Sys2Proof.Machine

/-- Registers as a list leaves them on the bus (R498): address 16#FFFF sends nothing, and one data byte is the low
one. -/
def listRegs (bytes : Nat) : List Byte → List (Nat × Nat) → List (Nat × Nat)
  | a :: b :: c :: d :: r, m =>
    listRegs bytes r (if a = 0xFF ∧ b = 0xFF then m
      else kvSet m (leNat [a, b]) (if bytes = 1 then leNat [c] else leNat [c, d]))
  | [], m => m
  | [_], m => m
  | [_, _], m => m
  | [_, _, _], m => m

/-- The cameras of a mask. -/
def camsOf (m : Nat) : List Nat := (List.range 4).filter (fun c => bitAt m c)

/-- A write whose last list has been acknowledged is accepted (R500). -/
def State.listSent (s : State) (c id : Nat) : State :=
  match s.img.writes.find? (fun x => x.id = id) with
  | none => s
  | some x =>
    let left := clearBit x.cams c
    if left = 0 then
      let s : State := { s with img := { s.img with writes := s.img.writes.filter (fun y => y.id ≠ id) } }
      s.letIn x.what (s.entriesOf x.what) Aux.none (camsOf x.need)
    else
      { s with img := { s.img with writes := s.img.writes.map (fun y =>
        if y.id = id then { y with cams := left } else y) } }

/-- The last write of a camera's list is acknowledged: the set is armed, and the writes that waited for it are answered
(R500, R502). -/
def execSettingsSetArmed (t : Nat) (c : Fin 4) (s : State) : Host.Outcome State Fault Refusal :=
  let s := s.at t
  let x := s.cam c
  match x.wait with
  | none => ok s
  | some w =>
    if w.sendFrom.isNone then ok s
    else
      let list := valB w.vals (Od.camera_sensor.sensor_writes c)
      let s := s.setCam c { x with wait := none,
                                   bus := listRegs (s.on (Od.camera_sensor.i2c_data_bytes c)) list x.bus }
      let s := (s.armSet c w.id w.sendFrom w.vals).setn (Od.camera_sensor.sensor_state c) 0
      ok (w.writes.foldl (fun a i => a.listSent c i) s).runReset

/-- A camera's sensor may hold a part of a list, or one that is not in force (R502). -/
def State.diverge (s : State) (c : Nat) : State := s.setn (Od.camera_sensor.sensor_state c) 1

/-- A failed write leaves the settings set that waits on another camera; a list being sent is cut short. -/
def State.leaveWait (s : State) (c id : Nat) : State :=
  let x := s.cam c
  match x.wait with
  | none => s
  | some w =>
    if w.writes.contains id = false then s
    else
      let rest := w.writes.filter (fun i => i ≠ id)
      let s := if w.sendFrom.isSome then s.diverge c else s
      if rest.isEmpty then s.setCam c { x with wait := none }
      else
        let vals := rest.foldl (fun a i =>
          match s.img.writes.find? (fun y => y.id = i) with
          | some y => withEntries a (camEntries c (s.entriesOf y.what))
          | none => a) (s.inForce c).vals
        (s.setCam c { x with wait := some { w with vals := vals, writes := rest, sendFrom := none } }).trySend c

/-- Nothing of a failed batch stays applied: a camera whose set was armed for it gets the values that stand armed
again under the next id, and its sensor no longer agrees with them. -/
def State.rearm (s : State) (c : Nat) : State :=
  let x := s.cam c
  let id := nextSetId x.lastSet
  ((s.setCam c { x with lastSet := id }).armSet c id none (s.camVals c)).diverge c

/-- A write fails with BUSY because a list of its was not taken (R502). -/
def State.failList (s : State) (c id : Nat) : State :=
  match s.img.writes.find? (fun x => x.id = id) with
  | none => s
  | some x =>
    let s := (camsOf x.cams).foldl (fun a o => if o = c then a else a.leaveWait o id) s
    let s := ((camsOf x.need).filter (fun o => !bitAt x.cams o)).foldl (fun a o => a.rearm o) s
    let s : State := { s with img := { s.img with writes := s.img.writes.filter (fun y => y.id ≠ id) } }
    let pos := x.what.entries.findIdx (fun e => odKey e.idx e.sub = Od.camera_sensor.sensor_writes c)
    s.rejectWrite x.what.reply errBusy pos

/-- A sensor does not take a write of its list: every write that waits for the list fails with BUSY, nothing of it is
applied or logged, and the sensor is DIVERGED (R502). -/
def State.listFailed (s : State) (c : Nat) : State :=
  let x := s.cam c
  match x.wait with
  | none => s
  | some w =>
    if w.sendFrom.isNone then s
    else
      let s := ((s.setCam c { x with wait := none }).diverge c).inc32 (Od.camera_sensor.i2c_errors c)
      w.writes.foldl (fun a i => a.failList c i) s

/-- A sensor NACKs a write of its list (R502). -/
def execI2cNack (t : Nat) (c : Fin 4) (s : State) : Host.Outcome State Fault Refusal := ok ((s.at t).listFailed c)

/-- Clock stretching exceeds 10 ms, which counts as a failed sensor write (R502). -/
def execI2cStretchTimeout (t : Nat) (c : Fin 4) (s : State) : Host.Outcome State Fault Refusal :=
  ok ((s.at t).listFailed c)

/-- A write of i2c_read_reg reads that sensor register, which answers with a value (R521). -/
def execI2cReadReg (t : Nat) (se : Fin 8) (req : Nat) (c : Fin 4) (reg answer : Nat) (s : State) :
    Host.Outcome State Fault Refusal :=
  ok ((s.at t).writeKey se req (Od.camera_sensor.i2c_read_reg c) (.int reg) ⟨some answer, none⟩)

end Sys2Proof.Machine
end

