-- ==== Sys2Proof/Machine/Bulk.lean ====
section
/-! DEFINITION. Bulk windows (spec/04 R149 to R151) with what their owners do at a commit (R235, R724, R728) and give at
a read (R188, R513), and cyclic subscriptions (R155). -/

namespace Sys2Proof.Machine

/-! ### Windows (R149) -/

/-- A window of a session. -/
def State.window (s : State) (se w : Nat) : Option BulkWin := (s.sess se).windows.toList.getD w none

/-- Replaces a window. -/
def State.setWindow (s : State) (se w : Nat) (x : Option BulkWin) : State :=
  s.modSess se (fun y => { y with windows := y.windows.setIfInBounds w x })

/-- Every open window. -/
def State.openWindows (s : State) : List BulkWin := s.net.sess.toList.flatMap (fun x => x.windows.toList.filterMap id)

/-- The lowest role that opens a window of a target kind, its direction (true: to device), the greatest target_id and
the greatest length; none for another kind (R149). -/
def bulkKind (k : Nat) : Option (Nat × Bool × Nat × Nat) :=
  if k = 1 then some (2, true, 1023, 64 * 2 ^ 20)
  else if k = 2 then some (2, true, 31, 256 * 2 ^ 20)
  else if k = 3 then some (3, true, 2 ^ 32 - 1, 64 * 2 ^ 20)
  else if k = 4 then some (2, true, 2 ^ 32 - 1, 16 * 2 ^ 20)
  else if k = 5 ∨ k = 6 then some (0, false, 2 ^ 32 - 1, 0)
  else none

/-- The content of a read window: an archive image, or the records from a first one on (R188, R513). -/
def State.bulkContent (s : State) (kind target : Nat) : Option (List Byte) :=
  if kind = 5 then (s.img.store.find? (fun p => p.1 = target)).map (fun p => p.2)
  else some ((s.log.flash.filter (fun r => decide (target ≤ r.num))).flatMap LogRec.encode)

/-- Bytes of write windows in the staging area. -/
def State.stagedBytes (s : State) : Nat := ((s.openWindows.filter (fun x => x.toDevice)).map (fun x => x.length)).sum

/-- Why a BULK_OPEN is rejected, 0 for none: fields, role, and the cases of R151 (R149, R152, R344, R726). -/
def State.bulkRefusal (s : State) (who : Writer) (window dir kind target length crc : Nat) : Nat :=
  match bulkKind kind with
  | none => errRange
  | some (role, toDev, most, size) =>
    if 4 ≤ window ∨ 2 ≤ dir ∨ decide (dir = 0) ≠ toDev ∨ most < target ∨ (toDev = true ∧ size < length) ∨
        (s.mgmt.recovery = true ∧ kind ≠ 3) then errRange
    else if toDev = false ∧ crc ≠ 0 then errMalformed
    else if roleHolds who.role role = false then errRole
    else if s.frozen = true ∨ (s.window who.sess window).isSome ∨
        s.openWindows.any (fun x => x.kind = kind && x.target = target) ∨
        (kind = 3 ∧ s.openWindows.any (fun x => x.kind = 3)) ∨
        (toDev = true ∧ Config.stagingBytes < s.stagedBytes + length) then errBusy
    else if toDev = false ∧ (s.bulkContent kind target).isNone then errNoObject
    else 0

/-- BULK_RESP to whoever sent a taken request. -/
def State.bulkAnswer (s : State) (k : Taken) (req window status length crc : Nat) : State :=
  s.sendIn k.who.sess k.who.epoch 0 0x35 (bulkResp req window status length crc)

/-- A BULK_OPEN opens a window, or is rejected; a window already open stays as it is (R149, R151). -/
def execBulkOpen (t : Nat) (se : Fin 8) (req window dir kind target length crc : Nat) (s : State) :
    Host.Outcome State Fault Refusal :=
  let r := (s.atTime t).take se 0x30
  let s := r.1
  if r.2.live = false ∨ r.2.who.epoch ≠ (s.sess se).epoch then ok s
  else
    let e := s.bulkRefusal r.2.who window dir kind target length crc
    if e ≠ 0 then ok (s.bulkAnswer r.2 req window e 0 0)
    else
      let content := if dir = 0 then [] else (s.bulkContent kind target).getD []
      let x : BulkWin :=
        { toDevice := dir = 0, kind := kind, target := target, length := if dir = 0 then length else content.length,
          crc := crc, written := [], content := content, sent := 0, req := req }
      ok ((s.setWindow se window (some x)).bulkAnswer r.2 req window 0 x.length 0)

/-- Bytes at an offset, over what stands there. -/
def putBytes (l : List Host.Cell) : Nat → List Byte → List Host.Cell
  | _, [] => l
  | a, b :: bs => putBytes (kvSet l a b) (a + 1) bs

/-- A BULK_WRITE writes its data, or is discarded whole and answered with ERROR (R150). -/
def execBulkWrite (t : Nat) (se : Fin 8) (window offset : Nat) (data : List Byte) (s : State) :
    Host.Outcome State Fault Refusal :=
  let r := (s.atTime t).take se 0x31
  let s := r.1
  if r.2.live = false ∨ r.2.who.epoch ≠ (s.sess se).epoch then ok s
  else
    match s.window se window with
    | some x =>
      if x.toDevice = false ∨ x.length < offset + data.length then ok (s.errorTo r.2 errWindow 0x31)
      else ok (s.setWindow se window (some { x with written := putBytes x.written offset data }))
    | none => ok (s.errorTo r.2 errWindow 0x31)

/-- A commit of a mould or glyph set (R235, R238); the answer of the active device of a pair waits for the standby
(R694). Queued records are resolved anew (R248). -/
def State.commitImage (s : State) (k : Taken) (req window : Nat) (x : BulkWin) (bytes : List Byte) : State :=
  let r := s.commitRes (x.kind = 2) x.target bytes s.islandPresent
  if r.2 then
    let s := (List.range 8).foldl (fun a l => a.preResolve l) (r.1.setWindow k.who.sess window none)
    if (s.sess k.who.sess).epoch = k.who.epoch then
      s.answer k.who.sess 0 0x35 (bulkResp req window errOk bytes.length (crc32c bytes))
    else s.mirror
  else r.1.bulkAnswer k req window errRange 0 0

/-- The content of a complete window with matching CRC goes to its owner (R150). -/
def State.handOver (s : State) (k : Taken) (req window : Nat) (x : BulkWin) (bytes : List Byte) : State :=
  if x.kind = 3 then
    if s.mgmt.update.isSome then s.bulkAnswer k req window errBusy 0 0
    else s.updateStart ⟨k.who.sess, k.who.epoch, req, window, bytes⟩
  else if x.kind = 4 then
    let s := (s.setMgmt { s.mgmt with integImage := bytes }).setWindow k.who.sess window none
    s.bulkAnswer k req window errOk bytes.length (crc32c bytes)
  else s.commitImage k req window x bytes

/-- A BULK_COMMIT succeeds when every byte has been written and the CRC matches; a failed one leaves the window open
(R150). -/
def execBulkCommit (t : Nat) (se : Fin 8) (req window : Nat) (s : State) : Host.Outcome State Fault Refusal :=
  let r := (s.atTime t).take se 0x33
  let s := r.1
  if r.2.live = false ∨ r.2.who.epoch ≠ (s.sess se).epoch then ok s
  else
    match s.window se window with
    | none => ok (s.bulkAnswer r.2 req window errWindow 0 0)
    | some x =>
      let bytes := x.written.map (fun c => c.2)
      if x.toDevice = false ∨ x.written.length ≠ x.length then ok (s.bulkAnswer r.2 req window errWindow 0 0)
      else if crc32c bytes ≠ x.crc then ok (s.bulkAnswer r.2 req window errCrc 0 0)
      else ok (s.handOver r.2 req window x bytes)

/-- A BULK_ABORT discards an open window (R149). -/
def execBulkAbort (t : Nat) (se : Fin 8) (req window : Nat) (s : State) : Host.Outcome State Fault Refusal :=
  let r := (s.atTime t).take se 0x34
  let s := r.1
  if r.2.live = false ∨ r.2.who.epoch ≠ (s.sess se).epoch then ok s
  else if (s.window se window).isNone then ok (s.bulkAnswer r.2 req window errWindow 0 0)
  else ok ((s.setWindow se window none).bulkAnswer r.2 req window errOk 0 0)

/-- A read window that has sent everything ends with BULK_RESP, and an archive image is freed (R151, R514). -/
def State.endRead (s : State) (se w : Nat) (x : BulkWin) : State :=
  let s := s.setWindow se w none
  let s := if x.kind = 5 then
      ({ s with img := { s.img with store := s.img.store.filter (fun p => p.1 ≠ x.target) } } : State).archCounts
    else s
  s.send se 0 0x35 (bulkResp x.req w errOk x.content.length (crc32c x.content))

/-- A read window sends its next BULK_DATA as the client's BULK credits allow (R151). -/
def execBulkDataSend (t : Nat) (se : Fin 8) (window : Fin 4) (s : State) : Host.Outcome State Fault Refusal :=
  let s := s.atTime t
  match s.window se window with
  | none => ok s
  | some x =>
    let y := s.sess se
    let data := (x.content.drop x.sent).take (max 1 (y.maxPayload - 16))
    if x.toDevice then ok s
    else if data.isEmpty then ok (s.endRead se window x)
    else
      let body := leBytes 4 x.req ++ leBytes 1 window ++ leBytes 3 0 ++ leBytes 8 x.sent ++ data
      if y.maySend 2 (y.need body) (y.frags_ body).length = false then ok s
      else
        let x2 := { x with sent := x.sent + data.length }
        let s := (s.setWindow se window (some x2)).send se 2 0x32 body
        ok (if x2.sent = x.content.length then s.endRead se window x2 else s)

/-! ### Cyclic subscriptions (R155) -/

/-- Why objects cannot be sampled for a role: NO_OBJECT or ROLE; 0 when all can. -/
def State.sampleRefusal (s : State) (role : Nat) : List (Nat × Nat) → Nat
  | [] => 0
  | o :: os =>
    match s.rowOf (odKey o.1 o.2) with
    | none => errNoObject
    | some r => if mayRead role r then s.sampleRefusal role os else errRole

/-- SUBSCRIBE of kind 16#01 sets a cyclic subscription, or deletes it with no object (R155). -/
def execSubscribeCyclic (t : Nat) (se : Fin 8) (req slot periodUs : Nat) (objs : List (Nat × Nat)) (s : State) :
    Host.Outcome State Fault Refusal :=
  let r := (s.atTime t).take se 0x40
  let s := r.1
  if r.2.live = false ∨ r.2.who.epoch ≠ (s.sess se).epoch then ok s
  else
    let bad := 8 ≤ slot ∨ 32 < objs.length ∨
      (objs ≠ [] ∧ (periodUs < 1000 ∨ 60000000 < periodUs ∨ periodUs % 1000 ≠ 0))
    let e := if bad then errRange else s.sampleRefusal r.2.who.role objs
    if e ≠ 0 then ok (s.respond se 0x41 req (leBytes 1 e))
    else
      let c : Option Cyclic := if objs = [] then none else some ⟨periodUs, objs, 0⟩
      let s := s.modSess se (fun x => if x.isOpen then { x with cyclics := x.cyclics.setIfInBounds slot c } else x)
      ok (s.respond se 0x41 req (leBytes 1 errOk))

/-- The entries of a cycle. An object the integrator core serves cannot be sampled at once: BUSY. -/
def State.sample (s : State) (se role : Nat) : List (Nat × Nat) → State × List Byte
  | [] => (s, [])
  | o :: os =>
    let r := if s.isServed (odKey o.1 o.2) then (s, readEntry o.1 o.2 errBusy []) else s.readOne se role o.1 o.2
    let q := r.1.sample se role os
    (q.1, r.2 ++ q.2)

/-- A period expires: the objects are sampled and sent, or the cycle is skipped for want of EVENT credit; its number is
used up either way (R155). -/
def execCyclicPeriod (t : Nat) (se : Fin 8) (slot : Fin 8) (s : State) : Host.Outcome State Fault Refusal :=
  let s := s.at t
  let x := s.sess se
  match x.cyclics.get slot with
  | none => ok s
  | some c =>
    let time := s.time
    let q := s.sample se x.role c.objs
    let body := leBytes 1 slot ++ leBytes 1 c.objs.length ++ leBytes 2 0 ++ leBytes 4 c.cycle ++ leBytes 8 time ++ q.2
    let c2 : Cyclic := { c with cycle := (c.cycle + 1) % 2 ^ 32 }
    let s := q.1.modSess se (fun y => { y with cyclics := y.cyclics.set slot (some c2) })
    ok (if x.isOpen ∧ x.maySend 3 (x.need body) (x.frags_ body).length = true then s.send se 3 0x43 body else s)

end Sys2Proof.Machine
end

