-- ==== Sys2Proof/Machine/Commands.lean ====
section
/-! DEFINITION. The commands that are a WRITE of one object: each is that WRITE on a session, with its checks, its record
and its response, and the effect the object's owner gives it when the value takes effect (Effects.lean). -/

namespace Sys2Proof.Machine

/-- A WRITE of a truth value. -/
def State.writeBool (s : State) (se req k : Nat) (v : Bool) : State := s.writeKey se req k (.int (b2i v)) Aux.none

/-- A WRITE of a number. -/
def State.writeNat (s : State) (se req k n : Nat) : State := s.writeKey se req k (.int n) Aux.none

/-- A write of change_log_release frees records up to a change number, and is logged as RELEASE (R188). -/
def execChangeLogRelease (t : Nat) (se : Fin 8) (req : Nat) (n : Nat) (s : State) :
    Host.Outcome State Fault Refusal :=
  ok ((s.at t).writeNat se req Od.change_log.change_log_release n)

/-- A write of self_role lowers the role of requests delivered after it (R172). -/
def execSelfRole (t : Nat) (se : Fin 8) (req : Nat) (role : Nat) (s : State) :
    Host.Outcome State Fault Refusal :=
  ok ((s.at t).writeNat se req Od.session_self.self_role role)

/-- A write of reset_request: the reset sequence starts after WRITE_RESP (R198, R665). -/
def execResetRequest (t : Nat) (se : Fin 8) (req : Nat) (v : Bool) (s : State) :
    Host.Outcome State Fault Refusal :=
  ok ((s.at t).writeBool se req Od.management.reset_request v)

/-- A write of lane_flush discards every queued record of the lane (R210). -/
def execLaneFlush (t : Nat) (se : Fin 8) (req : Nat) (lane : Fin 8) (v : Bool) (s : State) :
    Host.Outcome State Fault Refusal :=
  ok ((s.at t).writeBool se req (Od.lane_config.lane_flush lane) v)

/-- A write of next_record_set sets next_record and the consumed mark while the queue is empty (R208). -/
def execNextRecordSet (t : Nat) (se : Fin 8) (req : Nat) (lane : Fin 8) (n : Nat) (s : State) :
    Host.Outcome State Fault Refusal :=
  ok ((s.at t).writeNat se req (Od.lane_config.next_record_set lane) n)

/-- A write of ledger_reset zeroes the lane's counts in one instant (R225). -/
def execLedgerReset (t : Nat) (se : Fin 8) (req : Nat) (lane : Fin 8) (v : Bool) (s : State) :
    Host.Outcome State Fault Refusal :=
  ok ((s.at t).writeBool se req (Od.ledger.ledger_reset lane) v)

/-- A write of mould_delete removes the current version of a mould (R237). -/
def execMouldDelete (t : Nat) (se : Fin 8) (req : Nat) (n : Nat) (s : State) :
    Host.Outcome State Fault Refusal :=
  ok ((s.at t).writeNat se req Od.mould_control.mould_delete n)

/-- A write of glyph_set_delete removes the current version of a glyph set (R237). -/
def execGlyphSetDelete (t : Nat) (se : Fin 8) (req : Nat) (n : Nat) (s : State) :
    Host.Outcome State Fault Refusal :=
  ok ((s.at t).writeNat se req Od.glyph_control.glyph_set_delete n)

/-- A write of counter_value sets a counter, clears counter_exhausted and makes its validity EXACT (R250). -/
def execCounterValueWrite (t : Nat) (se : Fin 8) (req : Nat) (c : Fin 64) (n : Nat) (s : State) :
    Host.Outcome State Fault Refusal :=
  ok ((s.at t).writeNat se req (Od.counter.counter_value c) n)

/-- A write of look_ahead_min_clear sets look_ahead_min to the look-ahead now (R283). -/
def execLookAheadMinClear (t : Nat) (se : Fin 8) (req : Nat) (ring : Fin 6) (v : Bool) (s : State) :
    Host.Outcome State Fault Refusal :=
  ok ((s.at t).writeBool se req (Od.compose_ring.look_ahead_min_clear ring) v)

/-- A write of counts_reset of a Codec instance (R317). -/
def execCodecCountsReset (t : Nat) (se : Fin 8) (req : Nat) (inst : Fin 4) (v : Bool) (s : State) :
    Host.Outcome State Fault Refusal :=
  ok ((s.at t).writeBool se req (Od.codec_instance.counts_reset inst) v)

/-- A write of freeze_clear clears the DRAM freeze snapshot (R345, R352). -/
def execFreezeClear (t : Nat) (se : Fin 8) (req : Nat) (v : Bool) (s : State) :
    Host.Outcome State Fault Refusal :=
  ok ((s.at t).writeBool se req Od.dram_freeze_snapshot.freeze_clear v)

/-- A write of bus_error_clear clears the engine-wide bus error (R367). -/
def execBusErrorClear (t : Nat) (se : Fin 8) (req : Nat) (v : Bool) (s : State) :
    Host.Outcome State Fault Refusal :=
  ok ((s.at t).writeBool se req Od.dma_engine.bus_error_clear v)

/-- A write of counts_reset of a DMA channel (R374). -/
def execDmaCountsReset (t : Nat) (se : Fin 8) (req : Nat) (ch : Fin 16) (v : Bool) (s : State) :
    Host.Outcome State Fault Refusal :=
  ok ((s.at t).writeBool se req (Od.dma_channel.counts_reset ch) v)

/-- A write of counts_reset of a firing channel zeroes its totals and its nozzle counters (R428). -/
def execDropCountsReset (t : Nat) (se : Fin 8) (req : Nat) (ch : Fin 192) (v : Bool) (s : State) :
    Host.Outcome State Fault Refusal :=
  ok ((s.at t).writeBool se req (Od.firing_channel.counts_reset ch) v)

/-- A write of map_entry_write stages one compensation-map entry (R474). -/
def execMapEntryWrite (t : Nat) (se : Fin 8) (req : Nat) (n : Nat) (s : State) :
    Host.Outcome State Fault Refusal :=
  ok ((s.at t).writeNat se req Od.map_write.map_entry_write n)

/-- A write of map_reset_learned stages the preload entries of a plane (R474). -/
def execMapResetLearned (t : Nat) (se : Fin 8) (req : Nat) (n : Nat) (s : State) :
    Host.Outcome State Fault Refusal :=
  ok ((s.at t).writeNat se req Od.map_reset.map_reset_learned n)

/-- A write of counts_reset of a Beam Engine unit (R548). -/
def execBeamCountsReset (t : Nat) (se : Fin 8) (req : Nat) (unit : Fin 2) (v : Bool) (s : State) :
    Host.Outcome State Fault Refusal :=
  ok ((s.at t).writeBool se req (Od.beam_unit_status.counts_reset unit) v)

/-- A write of axis_enable starts sensing, or stops or disables the axis (R576). -/
def execAxisEnable (t : Nat) (se : Fin 8) (req : Nat) (a : Fin 6) (v : Bool) (s : State) :
    Host.Outcome State Fault Refusal :=
  ok ((s.at t).writeBool se req (Od.axis_config.axis_enable a) v)

/-- A write of loop_enable starts or stops a loop (R588). -/
def execLoopEnable (t : Nat) (se : Fin 8) (req : Nat) (l : Fin 32) (v : Bool) (s : State) :
    Host.Outcome State Fault Refusal :=
  ok ((s.at t).writeBool se req (Od.loop_config.loop_enable l) v)

/-- A write of zero_request sets the zero of every stable, unloaded cell (R621). -/
def execZeroRequest (t : Nat) (se : Fin 8) (req : Nat) (v : Bool) (s : State) :
    Host.Outcome State Fault Refusal :=
  ok ((s.at t).writeBool se req Od.weighing_status.zero_request v)

/-- A write of power_off_request makes an off request (R644). -/
def execPowerOffRequest (t : Nat) (se : Fin 8) (req : Nat) (v : Bool) (s : State) :
    Host.Outcome State Fault Refusal :=
  ok ((s.at t).writeBool se req Od.power_control.power_off_request v)

/-- A write of seq_fault_clear clears the latch in SERVICE, and the service rails come down (R646). -/
def execSeqFaultClear (t : Nat) (se : Fin 8) (req : Nat) (v : Bool) (s : State) :
    Host.Outcome State Fault Refusal :=
  ok ((s.at t).writeBool se req Od.power_control.seq_fault_clear v)

/-- A write of fault_clear clears the sticky bit of an inactive source (R679). -/
def execFaultClear (t : Nat) (se : Fin 8) (req : Nat) (n : Nat) (s : State) :
    Host.Outcome State Fault Refusal :=
  ok ((s.at t).writeNat se req Od.fault_control.fault_clear n)

/-- A write of action_write sets a source's action set, keeping fixed actions (R678, R707). -/
def execActionWrite (t : Nat) (se : Fin 8) (req : Nat) (n : Nat) (s : State) :
    Host.Outcome State Fault Refusal :=
  ok ((s.at t).writeNat se req Od.fault_control.action_write n)

/-- A write of recovery_count_reset sets a group's recovery_count to 0 (R684). -/
def execRecoveryCountReset (t : Nat) (se : Fin 8) (req : Nat) (g : Fin 8) (v : Bool) (s : State) :
    Host.Outcome State Fault Refusal :=
  ok ((s.at t).writeBool se req (Od.fault_group.recovery_count_reset g) v)

/-- A write of safe_state_exit leaves the safe state when every exit condition holds (R687). -/
def execSafeStateExit (t : Nat) (se : Fin 8) (req : Nat) (v : Bool) (s : State) :
    Host.Outcome State Fault Refusal :=
  ok ((s.at t).writeBool se req Od.fault_collector.safe_state_exit v)

/-- A write of pair_switchover_request makes the active send RELINQUISH and fence (R691). -/
def execPairSwitchoverRequest (t : Nat) (se : Fin 8) (req : Nat) (v : Bool) (s : State) :
    Host.Outcome State Fault Refusal :=
  ok ((s.at t).writeBool se req Od.pair_config.pair_switchover_request v)

/-- A write of update_confirm confirms the running PENDING slot (R723). -/
def execUpdateConfirm (t : Nat) (se : Fin 8) (req : Nat) (v : Bool) (s : State) :
    Host.Outcome State Fault Refusal :=
  ok ((s.at t).writeBool se req Od.firmware_update.update_confirm v)

/-- A write of update_activate starts the reset sequence that boots the trial slot (R725). -/
def execUpdateActivate (t : Nat) (se : Fin 8) (req : Nat) (v : Bool) (s : State) :
    Host.Outcome State Fault Refusal :=
  ok ((s.at t).writeBool se req Od.firmware_update.update_activate v)

/-- A write of integ_run starts the integrator core by loading its image, or resets it (R732). -/
def execIntegRun (t : Nat) (se : Fin 8) (req : Nat) (v : Bool) (s : State) :
    Host.Outcome State Fault Refusal :=
  ok ((s.at t).writeBool se req Od.integrator_core.integ_run v)

/-- A write of fault_inject inverts a source's check line; `seen`: the collector sees PAIR_ERROR in time (R681). -/
def execFaultInject (t : Nat) (se : Fin 8) (req : Nat) (n : Nat) (seen : Bool) (s : State) :
    Host.Outcome State Fault Refusal :=
  ok ((s.at t).writeKey se req Od.fault_control.fault_inject (.int n) ⟨none, some seen⟩)

/-- A write of a waveform slot, sent by WAVE_WRITE to every link of the plane that loads or is loaded (R411). -/
def execWaveSlotWrite (t : Nat) (se : Fin 8) (req : Nat) (slot : Fin 64) (data : List Byte) (s : State) :
    Host.Outcome State Fault Refusal :=
  ok ((s.at t).writeKey se req (Od.waveform_slot.wave_data slot) (.bytes data) Aux.none)

end Sys2Proof.Machine
end

