-- ==== Sys2Proof/Machine/Mirror.lean ====
section
/-! DEFINITION. Mirror and sync frames (spec/19 R692 to R700): what a device that follows an active applies of the
mirrored data set. -/

namespace Sys2Proof.Machine

/-- The active partner as a writer: origin Mirror Link (R183, R693). -/
def Writer.partner : Writer := { origin := 5, sess := 255, role := 255, node := 0, epoch := 0 }

/-- A mirrored write takes effect by its Applies value, under a change number of this device (R693). The active has
checked it; it is acknowledged once it is durable and in effect (R694). -/
def State.mirrorWrite (s : State) (e : WEntry) : State :=
  match s.rowOf (odKey e.idx e.sub) with
  | none => s
  | some r =>
    if mirroredIdx e.idx = false ∨ r.wr = 255 ∨ lengthOk r e.val.length = false then s
    else
      let q := s.fault.mirrorRx
      let s : State := { s with fault := { s.fault with applying := s.fault.applying ++ [q] } }
      s.sendLists ⟨Writer.partner, false, [e], .partner q⟩ [⟨odKey e.idx e.sub, r, writtenVal r e.val, e.val⟩] Aux.none

/-- A mirrored mould or glyph set becomes resident (R235, R693). -/
def State.mirrorRes (s : State) (glyphs : Bool) (num : Nat) (content : List Byte) : State :=
  let r := s.commitRes glyphs num content s.islandPresent
  if r.2 then (List.range 8).foldl (fun a l => a.preResolve l) r.1 else r.1

/-- The counterpart of a mirrored binding among the own stamps (R698, R703). Only a standby compares. -/
def State.matchBinding (s : State) (lane : Nat) (x : Int) (time : Nat) (dr : Bool) : State :=
  if s.pairState ≠ 4 then s
  else
    let s : State := { s with fault := { s.fault with unbound := s.fault.unbound.eraseP (fun y => y.lane = lane) } }
    match s.fault.shadow.find? (fun y => !y.mirrored && y.lane = lane) with
    | none => { s with fault := { s.fault with shadow := s.fault.shadow ++ [⟨lane, x, time, dr, true⟩] } }
    | some y =>
      let s : State := { s with fault := { s.fault with shadow := s.fault.shadow.erase y } }
      if (y.x - x).natAbs ≤ 2 then s.testBit 3 true
      else (s.inc32 Od.pair_health.trigger_mismatches).failBit 3

/-- A mirrored binding: the item of its item_sequence, from the head record of the lane, in the slot its outcome gives
(R212, R693, R695). -/
def State.mirrorBinding (s : State) (l : Nat) (st : Stamp) (q : Nat) (slot : Option (Fin 64)) : State :=
  let s := (s.setn Od.item_window.next_item_sequence (nextSeq q)).inc64 (Od.ledger.triggers_accepted l)
  let it := s.newItem l q st
  let s := match s.queue l with
    | [] => s.addItem it
    | r :: rest =>
      let s := s.takeHead l r rest
      match slot with
      | none => s.addItem (it.ofRecord r)
      | some n => s.bindHead (it.ofRecord r) n
  let s := s.journal [Od.ledger.triggers_accepted l, Od.item_window.next_item_sequence,
    Od.lane_status.consumed_mark l] q
  let s := match s.item q with
    | some x => (s.abandonBars x).polygonItem x
    | none => s
  s.matchBinding l st.x st.time st.dr

/-- The fields of an item that its ledger entry gives (R223). -/
def Item.withEntry (it : Item) (b : List Byte) : Item :=
  let f := leAt b 16 2
  let d := leAt b 13 1
  let st := if it.disp.isSome then it.state else it.afterDisp d
  { it with
    recNum := leAt b 4 4, tag := leAt b 8 4, lane := leAt b 12 1, disp := some d, reason := leAt b 14 1
    verdict := leAt b 15 1, fDr := bitAt f 0, fPartial := bitAt f 1, degSupp := bitAt f 2, degBreak := bitAt f 3
    fHoldup := bitAt f 4, fReject := bitAt f 5, inspect := bitAt f 6, mould := leAt b 18 2
    dropsSupp := leAt b 20 4, xItem := signedOf 64 (leAt b 24 8), trigTime := leAt b 32 8
    closeTime := leAt b 40 8, verdictTime := leAt b 48 8, state := st
    slot := if st = 4 then none else it.slot
    fields := if leAt b 15 1 = 0 then it.fields else [] }

/-- A mirrored ledger entry: of an item that is known, or of one closed before SYNCING. The counts of the ledger are
mirrored apart from it (R693). -/
def State.mirrorLedger (s : State) (b : List Byte) : State :=
  let q := leAt b 0 4
  let s := match s.item q with
    | some _ => s.modItem q (fun x => x.withEntry b)
    | none => s.addItem (((s.newItem (leAt b 12 1) q ⟨0, 0, false⟩).withEntry b))
  s.journal [] q

/-- Mirrored values of objects the device itself keeps: ledger counts, counters, queue marks, outputs (R693). Those of
the ranges local to each device are not mirrored. -/
def State.mirrorValue (s : State) (p : Nat × Int) : State :=
  match odRow p.1 with
  | none => s
  | some r =>
    if r.ty.isBytes ∨ p.1 / 256 < 0x3000 ∨ (0x6100 ≤ p.1 / 256 ∧ p.1 / 256 < 0x6200) then s
    else s.setv p.1 (decodeVal r.ty (leBytes r.ty.size (patternOf (8 * r.ty.size) p.2)))

/-- A mirrored REJECT counts as received, and moves the drops of its line (R398, R399, R693). -/
def State.mirrorReject (s : State) (k line cause blocks : Nat) : State :=
  let s := s.setLink k { s.link k with rejects := ((s.link k).rejects + 1) % 2 ^ 32 }
  match (s.fire.flown.toList.getD (k / 12) []).find? (fun l => patternOf 32 l.n = line) with
  | some l => s.rejectLine k cause blocks line l
  | none => s

/-- What one mirror or sync frame changes on the standby (R693). -/
def State.mirrorApply (s : State) (m : MirrorMsg) : State :=
  match m with
  | .write e => s.mirrorWrite e
  | .resource glyphs num content => s.mirrorRes glyphs num content
  | .record data =>
    match parseRecord data with
    | some r => s.acceptRecord (leAt data 4 1) r
    | none => s
  | .binding lane x time dr seq slot => s.mirrorBinding lane ⟨x, time, dr⟩ seq slot
  | .ledger e => s.mirrorLedger e
  | .values l => l.foldl State.mirrorValue s
  | .mapEntry p c e => (s.stage p [(c, e)] true none).staged p
  | .reject k line cause blocks => s.mirrorReject k line cause blocks
  | .status k st => s.checkReports k st
  | .loop l e y out => s.setLoop l { s.loop l with e := e, y := y, out := out }
  | .axis a u v w ref iq => s.setAxis a { s.axis a with duty := (u, v, w), ref := ref, iqRef := iq }

/-- A mirror or sync frame arrives `lag` µs after it was made: a device in SYNCING or STANDBY applies it, and its next
heartbeats acknowledge it (R692, R693, R694). -/
def execMirrorFrameReceived (t : Nat) (m : MirrorMsg) (lag : Nat) (s : State) :
    Host.Outcome State Fault Refusal :=
  let s := s.at t
  if s.pairState ≠ 3 ∧ s.pairState ≠ 4 then ok s
  else
    let old := s.fault.lags.filter (fun p => decide (s.now ≤ p.1 + 1000000000))
    let s := s.setFault { s.fault with
      mirrorRx := (s.fault.mirrorRx + 1) % 2 ^ 32
      lags := old ++ [(s.now, lag)] }
    ok (s.mirrorApply m).runReset

end Sys2Proof.Machine
end

