-- ==== Sys2Proof/Machine/Serve.lean ====
section
/-! DEFINITION. The service calls of the integrator core (R729, R730) and the objects it serves (R731). -/

namespace Sys2Proof.Machine

/-! ### Service calls -/

/-- The integrator core runs and SC_DOORBELL is heard (R729, R732). -/
def State.scOpen (s : State) : Bool := s.integState = 2 && !s.mgmt.scBusy

/-- SC_REQ holds a call, and SC_STATUS [0] is set until its response stands in SC_RESP (R729). -/
def State.scSubmit (s : State) (call req : Nat) (body : List Byte) : State :=
  s.setMgmt { s.mgmt with
    scReq := (padTo 256 (leBytes 2 call ++ leBytes 2 body.length ++ leBytes 4 req ++ body)).take 256
    scBusy := true }

/-- The integrator core as a writer: origin and session of its records, and integ_role (R183, R730). -/
def State.integWriter (s : State) : Writer := ⟨3, 255, s.on Od.integrator_core.integ_role, 0, 0⟩

/-- The service call OD_READ reads objects with integ_role (R147, R164, R730). -/
def execOdRead (t req : Nat) (objs : List (Nat × Nat)) (s : State) : Host.Outcome State Fault Refusal :=
  let s := s.at t
  if s.scOpen = false then ok s
  else
    let s := s.scSubmit 1 req (leBytes 1 objs.length ++ [0, 0, 0] ++
      objs.flatMap (fun o => leBytes 2 o.1 ++ leBytes 1 o.2 ++ [0]))
    if objs.length = 0 ∨ 64 < objs.length then ok (s.integAnswer errMalformed [])
    else ok (s.readGo s.integWriter req objs.length [] objs)

/-- The service call OD_WRITE writes an object with integ_role (R165, R730). -/
def execOdWrite (t req : Nat) (e : WEntry) (s : State) : Host.Outcome State Fault Refusal :=
  let s := s.at t
  if s.scOpen = false then ok s
  else
    let s := s.scSubmit 2 req (leBytes 2 e.idx ++ leBytes 1 e.sub ++ [0] ++ leBytes 2 e.val.length ++ [0, 0] ++
      padMul 4 e.val)
    ok (s.process ⟨s.integWriter, false, [e], .integ e.idx e.sub⟩ Aux.none 0)

/-! ### Declaring objects (R161, R166, R730) -/

/-- The type a type code spells, with a largest length or the fraction bits. -/
def typeOf (code len frac : Nat) : Option OTy :=
  if code = 0x01 then some .bool else if code = 0x02 then some .u8 else if code = 0x03 then some .u16
  else if code = 0x04 then some .u32 else if code = 0x05 then some .u64 else if code = 0x06 then some .i16
  else if code = 0x07 then some .i32 else if code = 0x08 then some .i64 else if code = 0x09 then some .f32
  else if code = 0x0A then some .enum8 else if code = 0x0B then some .bits32
  else if code = 0x0C then some .time64 else if code = 0x0D then some (.str len)
  else if code = 0x0E then some (.blob len) else if code = 0x10 then some (.q16 frac)
  else if code = 0x11 then some (.q32 frac) else none

/-- A name in lower_snake_case of 1 to 32 bytes. -/
def nameOk (b : List Byte) : Bool :=
  !b.isEmpty && decide (b.length ≤ 32) && b.all (fun c =>
    (decide (0x61 ≤ c.toNat) && decide (c.toNat ≤ 0x7A)) || (decide (0x30 ≤ c.toNat) && decide (c.toNat ≤ 0x39)) ||
    c.toNat = 0x5F)

/-- A role code of R168, or none. -/
def roleCodeOk (n : Nat) : Bool := decide (n ≤ 5) || n = 255

/-- The fraction bits go with the type. -/
def fracOk (ty : OTy) (frac : Nat) : Bool :=
  match ty with
  | .q16 _ => decide (frac ≤ 15)
  | .q32 _ => decide (frac ≤ 31)
  | .bool => frac = 0 | .u8 => frac = 0 | .u16 => frac = 0 | .u32 => frac = 0 | .u64 => frac = 0
  | .i16 => frac = 0 | .i32 => frac = 0 | .i64 => frac = 0 | .f32 => frac = 0 | .enum8 => frac = 0
  | .bits32 => frac = 0 | .time64 => frac = 0 | .str _ => frac = 0 | .blob _ => frac = 0

/-- A bound or default has the length of its type; a byte string has no bounds. -/
def boundFits (ty : OTy) (b : List Byte) : Bool :=
  b.isEmpty || (!ty.isBytes && b.length = ty.size)

/-- The attributes are consistent: 0, or the status of the call. R730 names no status of its own for a DECLARE
that breaks R161. -/
def declareFlaw (d : DeclareMsg) : Nat :=
  match typeOf d.ty d.len d.frac with
  | none => errRange
  | some ty =>
    if d.idx < 0x8000 ∨ 0xFFFF < d.idx ∨ d.sub = 0 ∨ roleCodeOk d.rd = false ∨ roleCodeOk d.wr = false ∨
        fracOk ty d.frac = false ∨ (ty.isBytes = true ∧ 8192 < d.len) ∨ nameOk d.name = false ∨
        16 < d.unit.length ∨ utf8Ok d.unit = false then errRange
    else if (ty.isBytes = false ∧ d.len ≠ ty.size) ∨ boundFits ty d.lo = false ∨ boundFits ty d.hi = false ∨
        (if ty.isBytes then decide (d.dflt.length ≤ d.len) else boundFits ty d.dflt) = false then errMalformed
    else 0

/-- A bound as a number of its type. -/
def boundOf (ty : OTy) (b : List Byte) : Option Int := if b.isEmpty then none else some (decodeVal ty b).toInt

/-- The object a DECLARE describes. -/
def declaredOf (d : DeclareMsg) (ty : OTy) : Declared :=
  ⟨d.idx, d.sub, ty, d.rd, d.wr, boundOf ty d.lo, boundOf ty d.hi, d.name, d.unit, d.dflt⟩

/-- An object joins the declared ones, in place of one of the same key. -/
def State.declare (s : State) (o : Declared) : State :=
  let l := s.mgmt.declared.filter (fun x => x.idx ≠ o.idx || x.sub ≠ o.sub) ++ [o]
  (s.setMgmt { s.mgmt with declared := l }).setn Od.integrator_core.objects_served l.length

/-- The service call DECLARE declares one object of 16#8000 to 16#FFFF; at most 4 096 stand (R730). The body's layout
is not stated: what SC_REQ holds after its first 8 bytes is a free value. -/
def execDeclare (t req : Nat) (d : DeclareMsg) (s : State) : Host.Outcome State Fault Refusal :=
  let s := s.at t
  if s.scOpen = false then ok s
  else
    let s := (s.scSubmit 0x10 req (leBytes 248 s.freeVal)).freeNext
    match typeOf d.ty d.len d.frac with
    | none => ok (s.integAnswer errRange [])
    | some ty =>
      let e := declareFlaw d
      if e ≠ 0 then ok (s.integAnswer e [])
      else if 4096 ≤ s.mgmt.declared.length ∧ s.isServed (odKey d.idx d.sub) = false then
        ok (s.integAnswer errBusy [])
      else ok ((s.declare (declaredOf d ty)).integAnswer errOk [])

/-- The service call EVENT_PUSH pushes an event with a code of 16#8000 to 16#FFFF and up to 200 bytes (R153, R730).
The body's layout is not stated: what SC_REQ holds after its first 8 bytes is a free value. -/
def execEventPush (t req code : Nat) (data : List Byte) (s : State) : Host.Outcome State Fault Refusal :=
  let s := s.at t
  if s.scOpen = false then ok s
  else
    let s := (s.scSubmit 0x11 req (leBytes 248 s.freeVal)).freeNext
    if 200 < data.length then ok (s.integAnswer errMalformed [])
    else if code < 0x8000 ∨ 0xFFFF < code then ok (s.integAnswer errRange [])
    else ok ((s.event code data).integAnswer errOk [])

/-! ### Served accesses (R731) -/

/-- SERVE_DOORBELL sends SERVE_RESP as the reply to the access that waits: the status and value stand as in an entry of
READ_RESP (R147, R729). -/
def execServeDoorbell (t : Nat) (resp : List Byte) (s : State) : Host.Outcome State Fault Refusal :=
  let s := s.at t
  let r := (padTo 256 resp).take 256
  let s := s.setMgmt { s.mgmt with serveResp := r }
  ok ((s.serveAnswer (leAt r 3 1) (slice 8 (min (leAt r 4 2) 248) r)).runReset)

/-- No reply has come within integ_serve_timeout_ms: the answer is BUSY (R731). -/
def execServeTimeout (t : Nat) (s : State) : Host.Outcome State Fault Refusal :=
  ok ((s.at t).serveAnswer errBusy []).runReset

end Sys2Proof.Machine
end

