-- ==== Sys2Proof/Machine/Dispatch.lean ====
section
/-! DEFINITION. The dispatch: one arm per command. -/

namespace Sys2Proof.Machine

/-- The meaning of a command on everything but the queue (one direct call per constructor). -/
def exec (i : Instr) (s : State) : Host.Outcome State Fault Refusal :=
  match i with
  | .encoderEdge t enc a b => Sys2Proof.Machine.execEncoderEdge t enc a b s
  | .zEdge t enc level => Sys2Proof.Machine.execZEdge t enc level s
  | .encoderLineFault t enc pair => Sys2Proof.Machine.execEncoderLineFault t enc pair s
  | .encoderLineFaultClear t enc pair => Sys2Proof.Machine.execEncoderLineFaultClear t enc pair s
  | .edgeOverdue t => Sys2Proof.Machine.execEdgeOverdue t s
  | .coastLimitExceeded t => Sys2Proof.Machine.execCoastLimitExceeded t s
  | .lineTick t plane struck => Sys2Proof.Machine.execLineTick t plane struck s
  | .triggerEdge t n rising => Sys2Proof.Machine.execTriggerEdge t n rising s
  | .lubberMark t m rising => Sys2Proof.Machine.execLubberMark t m rising s
  | .markMissing t m q => Sys2Proof.Machine.execMarkMissing t m q s
  | .cameraTrigger t c q => Sys2Proof.Machine.execCameraTrigger t c q s
  | .barCameraTrigger t c plane => Sys2Proof.Machine.execBarCameraTrigger t c plane s
  | .camPulseEnd t c => Sys2Proof.Machine.execCamPulseEnd t c s
  | .rejectDecision t g q => Sys2Proof.Machine.execRejectDecision t g q s
  | .rejPulseEnd t g => Sys2Proof.Machine.execRejPulseEnd t g s
  | .speedAdvHoldExpiry t => Sys2Proof.Machine.execSpeedAdvHoldExpiry t s
  | .dataLateReasonExpiry t => Sys2Proof.Machine.execDataLateReasonExpiry t s
  | .pllLockAcquired t p => Sys2Proof.Machine.execPllLockAcquired t p s
  | .pllGlideDone t p => Sys2Proof.Machine.execPllGlideDone t p s
  | .pllLockLoss t p => Sys2Proof.Machine.execPllLockLoss t p s
  | .clockRangeFault t out => Sys2Proof.Machine.execClockRangeFault t out s
  | .crystalFault t absent => Sys2Proof.Machine.execCrystalFault t absent s
  | .netLinkDown t port los => Sys2Proof.Machine.execNetLinkDown t port los s
  | .netLinkUp t port => Sys2Proof.Machine.execNetLinkUp t port s
  | .sfpModuleInserted t port ident => Sys2Proof.Machine.execSfpModuleInserted t port ident s
  | .sfpModuleRemoved t port => Sys2Proof.Machine.execSfpModuleRemoved t port s
  | .pauseFrame t port => Sys2Proof.Machine.execPauseFrame t port s
  | .ptpEventMessage t port kind domain seqId origin corr rx => Sys2Proof.Machine.execPtpEventMessage t port kind domain seqId origin corr rx s
  | .ptpSyncTimeout t port => Sys2Proof.Machine.execPtpSyncTimeout t port s
  | .klpPacket t port addr data => Sys2Proof.Machine.execKlpPacket t port addr data s
  | .retransmitTimeout t se seq => Sys2Proof.Machine.execRetransmitTimeout t se seq s
  | .ackDue t se => Sys2Proof.Machine.execAckDue t se s
  | .creditUpdateDue t se => Sys2Proof.Machine.execCreditUpdateDue t se s
  | .keepaliveDue t se => Sys2Proof.Machine.execKeepaliveDue t se s
  | .sessionTimeout t se => Sys2Proof.Machine.execSessionTimeout t se s
  | .nop t se port addr epoch ack sack limit cls => Sys2Proof.Machine.execNop t se port addr epoch ack sack limit cls s
  | .open t port addr o => Sys2Proof.Machine.execOpen t port addr o s
  | .close t se req => Sys2Proof.Machine.execClose t se req s
  | .read t se req objs => Sys2Proof.Machine.execRead t se req objs s
  | .write t se req e => Sys2Proof.Machine.execWrite t se req e s
  | .batch t se req es => Sys2Proof.Machine.execBatch t se req es s
  | .itemPut t se data => Sys2Proof.Machine.execItemPut t se data s
  | .bulkOpen t se req window dir kind target length crc => Sys2Proof.Machine.execBulkOpen t se req window dir kind target length crc s
  | .bulkWrite t se window offset data => Sys2Proof.Machine.execBulkWrite t se window offset data s
  | .bulkCommit t se req window => Sys2Proof.Machine.execBulkCommit t se req window s
  | .bulkAbort t se req window => Sys2Proof.Machine.execBulkAbort t se req window s
  | .bulkDataSend t se window => Sys2Proof.Machine.execBulkDataSend t se window s
  | .subscribeEvents t se req mask => Sys2Proof.Machine.execSubscribeEvents t se req mask s
  | .subscribeCyclic t se req slot periodUs objs => Sys2Proof.Machine.execSubscribeCyclic t se req slot periodUs objs s
  | .eventSend t se => Sys2Proof.Machine.execEventSend t se s
  | .cyclicPeriod t se slot => Sys2Proof.Machine.execCyclicPeriod t se slot s
  | .authLockoutExpiry t addr => Sys2Proof.Machine.execAuthLockoutExpiry t addr s
  | .pendingValueApplied t idx sub => Sys2Proof.Machine.execPendingValueApplied t idx sub s
  | .changeLogFlush t => Sys2Proof.Machine.execChangeLogFlush t s
  | .changeLogFlushDone t => Sys2Proof.Machine.execChangeLogFlushDone t s
  | .changeLogRelease t se req n => Sys2Proof.Machine.execChangeLogRelease t se req n s
  | .selfRole t se req role => Sys2Proof.Machine.execSelfRole t se req role s
  | .resetRequest t se req v => Sys2Proof.Machine.execResetRequest t se req v s
  | .resetDeadline t => Sys2Proof.Machine.execResetDeadline t s
  | .laneFlush t se req lane v => Sys2Proof.Machine.execLaneFlush t se req lane v s
  | .nextRecordSet t se req lane n => Sys2Proof.Machine.execNextRecordSet t se req lane n s
  | .ledgerReset t se req lane v => Sys2Proof.Machine.execLedgerReset t se req lane v s
  | .verdictTimeout t q => Sys2Proof.Machine.execVerdictTimeout t q s
  | .mouldDelete t se req n => Sys2Proof.Machine.execMouldDelete t se req n s
  | .glyphSetDelete t se req n => Sys2Proof.Machine.execGlyphSetDelete t se req n s
  | .counterValueWrite t se req c n => Sys2Proof.Machine.execCounterValueWrite t se req c n s
  | .symbolEncoded t engine => Sys2Proof.Machine.execSymbolEncoded t engine s
  | .lineCouched t ring bad => Sys2Proof.Machine.execLineCouched t ring bad s
  | .lookAheadMinClear t se req ring v => Sys2Proof.Machine.execLookAheadMinClear t se req ring v s
  | .codecDoorbell t inst q v => Sys2Proof.Machine.execCodecDoorbell t inst q v s
  | .codecQueueEnable t inst q enable => Sys2Proof.Machine.execCodecQueueEnable t inst q enable s
  | .codecAbort t inst q steps => Sys2Proof.Machine.execCodecAbort t inst q steps s
  | .codecJobEnd t inst q item plane susp ecc => Sys2Proof.Machine.execCodecJobEnd t inst q item plane susp ecc s
  | .codecBusTimeout t inst steps => Sys2Proof.Machine.execCodecBusTimeout t inst steps s
  | .codecCountsReset t se req inst v => Sys2Proof.Machine.execCodecCountsReset t se req inst v s
  | .couchInitDone t => Sys2Proof.Machine.execCouchInitDone t s
  | .couchScrubWriteback t offset requester => Sys2Proof.Machine.execCouchScrubWriteback t offset requester s
  | .dramTrainingDone t good density => Sys2Proof.Machine.execDramTrainingDone t good density s
  | .dramRetrain t => Sys2Proof.Machine.execDramRetrain t s
  | .dramRefresh t postponed => Sys2Proof.Machine.execDramRefresh t postponed s
  | .mr4Poll t codes => Sys2Proof.Machine.execMr4Poll t codes s
  | .patrolScrub t corrected last => Sys2Proof.Machine.execPatrolScrub t corrected last s
  | .dramFrozen t f => Sys2Proof.Machine.execDramFrozen t f s
  | .freezeClear t se req v => Sys2Proof.Machine.execFreezeClear t se req v s
  | .dmaStart t ch => Sys2Proof.Machine.execDmaStart t ch s
  | .dmaResume t ch => Sys2Proof.Machine.execDmaResume t ch s
  | .dmaStopRequest t ch => Sys2Proof.Machine.execDmaStopRequest t ch s
  | .dmaStatusRead t ch core cur bytes total descs => Sys2Proof.Machine.execDmaStatusRead t ch core cur bytes total descs s
  | .dmaChainEnd t ch cut ecc => Sys2Proof.Machine.execDmaChainEnd t ch cut ecc s
  | .dmaBusTimeout t ch addr => Sys2Proof.Machine.execDmaBusTimeout t ch addr s
  | .dmaDrainEnd t done => Sys2Proof.Machine.execDmaDrainEnd t done s
  | .busErrorClear t se req v => Sys2Proof.Machine.execBusErrorClear t se req v s
  | .dmaCountsReset t se req ch v => Sys2Proof.Machine.execDmaCountsReset t se req ch v s
  | .registerWrite t r => Sys2Proof.Machine.execRegisterWrite t r s
  | .backStatus t link st => Sys2Proof.Machine.execBackStatus t link st s
  | .backReject t link line cause blocks => Sys2Proof.Machine.execBackReject t link line cause blocks s
  | .backIdentity t link offset data => Sys2Proof.Machine.execBackIdentity t link offset data s
  | .backAck t link seq applied => Sys2Proof.Machine.execBackAck t link seq applied s
  | .backFrameBad t link => Sys2Proof.Machine.execBackFrameBad t link s
  | .backChannelSilent t link => Sys2Proof.Machine.execBackChannelSilent t link s
  | .identifyTimeout t link => Sys2Proof.Machine.execIdentifyTimeout t link s
  | .loadWriteTimeout t link => Sys2Proof.Machine.execLoadWriteTimeout t link s
  | .gateClosed t g => Sys2Proof.Machine.execGateClosed t g s
  | .gateOpened t g => Sys2Proof.Machine.execGateOpened t g s
  | .waveSlotWrite t se req slot data => Sys2Proof.Machine.execWaveSlotWrite t se req slot data s
  | .dropCountAccumulate t ch => Sys2Proof.Machine.execDropCountAccumulate t ch s
  | .dropCheckpoint t complete => Sys2Proof.Machine.execDropCheckpoint t complete s
  | .dropCountsReset t se req ch v => Sys2Proof.Machine.execDropCountsReset t se req ch v s
  | .inspectionComplete t c frame f => Sys2Proof.Machine.execInspectionComplete t c frame f s
  | .barEvaluated t c frame ds => Sys2Proof.Machine.execBarEvaluated t c frame ds s
  | .stagingComplete t plane => Sys2Proof.Machine.execStagingComplete t plane s
  | .mapSaved t plane => Sys2Proof.Machine.execMapSaved t plane s
  | .mapEntryWrite t se req n => Sys2Proof.Machine.execMapEntryWrite t se req n s
  | .mapResetLearned t se req n => Sys2Proof.Machine.execMapResetLearned t se req n s
  | .csiFrameStart t c vc num ecc => Sys2Proof.Machine.execCsiFrameStart t c vc num ecc s
  | .csiLongPacket t c vc dt data ecc crcOk full => Sys2Proof.Machine.execCsiLongPacket t c vc dt data ecc crcOk full s
  | .csiFrameEnd t c vc ecc => Sys2Proof.Machine.execCsiFrameEnd t c vc ecc s
  | .frameForcedEnd t c => Sys2Proof.Machine.execFrameForcedEnd t c s
  | .camTriggerLost t c => Sys2Proof.Machine.execCamTriggerLost t c s
  | .settingsSetArmed t c => Sys2Proof.Machine.execSettingsSetArmed t c s
  | .sensorWindowTimeout t c => Sys2Proof.Machine.execSensorWindowTimeout t c s
  | .i2cNack t c => Sys2Proof.Machine.execI2cNack t c s
  | .i2cStretchTimeout t c => Sys2Proof.Machine.execI2cStretchTimeout t c s
  | .i2cReadReg t se req c reg answer => Sys2Proof.Machine.execI2cReadReg t se req c reg answer s
  | .camResetRelease t c => Sys2Proof.Machine.execCamResetRelease t c s
  | .bdEdge t unit rising half => Sys2Proof.Machine.execBdEdge t unit rising half s
  | .bdTimeout t unit => Sys2Proof.Machine.execBdTimeout t unit s
  | .laserIlkLow t unit => Sys2Proof.Machine.execLaserIlkLow t unit s
  | .beamCountsReset t se req unit v => Sys2Proof.Machine.execBeamCountsReset t se req unit v s
  | .pwmPeriodBoundary t a iu iv iw bus => Sys2Proof.Machine.execPwmPeriodBoundary t a iu iv iw bus s
  | .focStep t a e => Sys2Proof.Machine.execFocStep t a e s
  | .driverFault t a => Sys2Proof.Machine.execDriverFault t a s
  | .sensingComplete t a still e => Sys2Proof.Machine.execSensingComplete t a still e s
  | .keAbnormal t a => Sys2Proof.Machine.execKeAbnormal t a s
  | .brakeHoldDone t a => Sys2Proof.Machine.execBrakeHoldDone t a s
  | .brakeTimeout t a => Sys2Proof.Machine.execBrakeTimeout t a s
  | .startTimeout t a => Sys2Proof.Machine.execStartTimeout t a s
  | .recatchDelayExpiry t a => Sys2Proof.Machine.execRecatchDelayExpiry t a s
  | .axisEnable t se req a v => Sys2Proof.Machine.execAxisEnable t se req a v s
  | .loopSampleTick t l pvCode spCode missed latency wait => Sys2Proof.Machine.execLoopSampleTick t l pvCode spCode missed latency wait s
  | .loopEnable t se req l v => Sys2Proof.Machine.execLoopEnable t se req l v s
  | .slowAdcRound t ain ts late => Sys2Proof.Machine.execSlowAdcRound t ain ts late s
  | .fastAdcRound t ts late => Sys2Proof.Machine.execFastAdcRound t ts late s
  | .tdSample t n temp err => Sys2Proof.Machine.execTdSample t n temp err s
  | .pulseInEdge t n high => Sys2Proof.Machine.execPulseInEdge t n high s
  | .pulseTimeout t n => Sys2Proof.Machine.execPulseTimeout t n s
  | .metPdEdge t cell => Sys2Proof.Machine.execMetPdEdge t cell s
  | .weighingWindowEnd t cell n sum least greatest => Sys2Proof.Machine.execWeighingWindowEnd t cell n sum least greatest s
  | .sealedRecord t data => Sys2Proof.Machine.execSealedRecord t data s
  | .sealOpened t => Sys2Proof.Machine.execSealOpened t s
  | .sealClosed t => Sys2Proof.Machine.execSealClosed t s
  | .zeroRequest t se req v => Sys2Proof.Machine.execZeroRequest t se req v s
  | .zeroTracking t cell mean => Sys2Proof.Machine.execZeroTracking t cell mean s
  | .islandBootComplete t imageOk selfTestOk => Sys2Proof.Machine.execIslandBootComplete t imageOk selfTestOk s
  | .modulatorSilent t cell => Sys2Proof.Machine.execModulatorSilent t cell s
  | .islandWatchdog t => Sys2Proof.Machine.execIslandWatchdog t s
  | .wakeOnRequest t mv => Sys2Proof.Machine.execWakeOnRequest t mv s
  | .wakeOffRequest t => Sys2Proof.Machine.execWakeOffRequest t s
  | .powerOffRequest t se req v => Sys2Proof.Machine.execPowerOffRequest t se req v s
  | .seqEnableDelayExpiry t c => Sys2Proof.Machine.execSeqEnableDelayExpiry t c s
  | .seqChannelSettled t c mv => Sys2Proof.Machine.execSeqChannelSettled t c mv s
  | .seqUpTimeout t c => Sys2Proof.Machine.execSeqUpTimeout t c s
  | .seqDisableDelayExpiry t c => Sys2Proof.Machine.execSeqDisableDelayExpiry t c s
  | .seqChannelDown t c mv => Sys2Proof.Machine.execSeqChannelDown t c mv s
  | .seqDownTimeout t => Sys2Proof.Machine.execSeqDownTimeout t s
  | .seqWindowLost t c mv main => Sys2Proof.Machine.execSeqWindowLost t c mv main s
  | .seqFaultClear t se req v => Sys2Proof.Machine.execSeqFaultClear t se req v s
  | .minOffTimeExpiry t mv => Sys2Proof.Machine.execMinOffTimeExpiry t mv s
  | .marginRampStep t m => Sys2Proof.Machine.execMarginRampStep t m s
  | .supplyWarning t mv => Sys2Proof.Machine.execSupplyWarning t mv s
  | .powerStop t mv => Sys2Proof.Machine.execPowerStop t mv s
  | .supplyWarningCleared t mv => Sys2Proof.Machine.execSupplyWarningCleared t mv s
  | .mainSupplyPowerOn t mv aonLost => Sys2Proof.Machine.execMainSupplyPowerOn t mv aonLost s
  | .journalProgram t => Sys2Proof.Machine.execJournalProgram t s
  | .stateCheckpoint t => Sys2Proof.Machine.execStateCheckpoint t s
  | .holdupJournalProgrammed t => Sys2Proof.Machine.execHoldupJournalProgrammed t s
  | .holdupBodyProgrammed t => Sys2Proof.Machine.execHoldupBodyProgrammed t s
  | .holdupStopProgrammed t => Sys2Proof.Machine.execHoldupStopProgrammed t s
  | .holdupSectorErased t => Sys2Proof.Machine.execHoldupSectorErased t s
  | .faultSourceActive t n pair => Sys2Proof.Machine.execFaultSourceActive t n pair s
  | .faultSourceInactive t n => Sys2Proof.Machine.execFaultSourceInactive t n s
  | .faultNPulseEnd t => Sys2Proof.Machine.execFaultNPulseEnd t s
  | .faultClear t se req n => Sys2Proof.Machine.execFaultClear t se req n s
  | .faultInject t se req n seen => Sys2Proof.Machine.execFaultInject t se req n seen s
  | .faultSelfTestTurn t seen => Sys2Proof.Machine.execFaultSelfTestTurn t seen s
  | .actionWrite t se req n => Sys2Proof.Machine.execActionWrite t se req n s
  | .collectorSelfFault t => Sys2Proof.Machine.execCollectorSelfFault t s
  | .groupRecovered t g => Sys2Proof.Machine.execGroupRecovered t g s
  | .recoveryCountReset t se req g v => Sys2Proof.Machine.execRecoveryCountReset t se req g v s
  | .safeStateExit t se req v => Sys2Proof.Machine.execSafeStateExit t se req v s
  | .heartbeatSend t => Sys2Proof.Machine.execHeartbeatSend t s
  | .heartbeatReceived t h => Sys2Proof.Machine.execHeartbeatReceived t h s
  | .mirrorFrameReceived t m lag => Sys2Proof.Machine.execMirrorFrameReceived t m lag s
  | .relinquishReceived t h => Sys2Proof.Machine.execRelinquishReceived t h s
  | .partnerLossTimeout t => Sys2Proof.Machine.execPartnerLossTimeout t s
  | .takeoverComplete t => Sys2Proof.Machine.execTakeoverComplete t s
  | .pairFenceInLow t => Sys2Proof.Machine.execPairFenceInLow t s
  | .pairFenceInHigh t => Sys2Proof.Machine.execPairFenceInHigh t s
  | .pairSeekTimeout t => Sys2Proof.Machine.execPairSeekTimeout t s
  | .syncComplete t => Sys2Proof.Machine.execSyncComplete t s
  | .pairSwitchoverRequest t se req v => Sys2Proof.Machine.execPairSwitchoverRequest t se req v s
  | .watchdogExpiry t core => Sys2Proof.Machine.execWatchdogExpiry t core s
  | .firmwareImageWritten t good => Sys2Proof.Machine.execFirmwareImageWritten t good s
  | .updateConfirm t se req v => Sys2Proof.Machine.execUpdateConfirm t se req v s
  | .autoConfirmExpiry t => Sys2Proof.Machine.execAutoConfirmExpiry t s
  | .updateActivate t se req v => Sys2Proof.Machine.execUpdateActivate t se req v s
  | .integRun t se req v => Sys2Proof.Machine.execIntegRun t se req v s
  | .odRead t req objs => Sys2Proof.Machine.execOdRead t req objs s
  | .odWrite t req e => Sys2Proof.Machine.execOdWrite t req e s
  | .declare t req d => Sys2Proof.Machine.execDeclare t req d s
  | .eventPush t req code data => Sys2Proof.Machine.execEventPush t req code data s
  | .scRespRead t => Sys2Proof.Machine.execScRespRead t s
  | .serveDoorbell t resp => Sys2Proof.Machine.execServeDoorbell t resp s
  | .serveTimeout t => Sys2Proof.Machine.execServeTimeout t s
  | .wdtKick t v => Sys2Proof.Machine.execWdtKick t v s
  | .integWatchdogExpiry t => Sys2Proof.Machine.execIntegWatchdogExpiry t s
  | .integRestartDelayExpiry t => Sys2Proof.Machine.execIntegRestartDelayExpiry t s
  | .integTimerInterrupt t => Sys2Proof.Machine.execIntegTimerInterrupt t s
  | .flashProgramComplete t => Sys2Proof.Machine.execFlashProgramComplete t s
  | .integImageLoaded t => Sys2Proof.Machine.execIntegImageLoaded t s
  | .pdMetroSupplyFault t => Sys2Proof.Machine.execPdMetroSupplyFault t s
  | .mirrorLaneLockLost t lane => Sys2Proof.Machine.execMirrorLaneLockLost t lane s
  | .mirrorLaneLockRegained t lane => Sys2Proof.Machine.execMirrorLaneLockRegained t lane s
  | .triggerCounterpartTimeout t => Sys2Proof.Machine.execTriggerCounterpartTimeout t s
  | .supplyGlitch t => Sys2Proof.Machine.execSupplyGlitch t s
  | .mainInputQualified t mv => Sys2Proof.Machine.execMainInputQualified t mv s
  | .holdUpExhausted t => Sys2Proof.Machine.execHoldUpExhausted t s
  | .netrefFault t absent => Sys2Proof.Machine.execNetrefFault t absent s
  | .ptpGeneralMessage t port msg => Sys2Proof.Machine.execPtpGeneralMessage t port msg s

end Sys2Proof.Machine
end

