-- ==== Sys2Proof/Safety.lean ====
section
/-! DEFINITION. The parts of the state, and what it means that two states agree in a part: the words in which the
statements say what a command leaves unchanged. -/

namespace Sys2Proof.Machine

/-- The part of the state that holds: values that wait for a reset or a line. -/
def State.waitingPart (s : State) :=
  (s.od.pend, s.od.line)

/-- The part of the state that holds: durable values. -/
def State.durablePart (s : State) :=
  (s.od.flash, s.od.kept)

/-- The part of the state that holds: lockouts, last answers without a session, event numbers and SFP ports. -/
def State.networkPart (s : State) :=
  (s.net.lockouts, s.net.lastReject, s.net.lastNoSeq, s.net.nextEvent, s.net.sfp, s.net.txDisable)

/-- The part of the state that holds: queued item records. -/
def State.queuesPart (s : State) :=
  (s.lane.queues, s.lane.lowSent)

/-- The part of the state that holds: drop counts, lines held and flown, and gates. -/
def State.firingPart (s : State) :=
  (s.fire.nozzles, s.fire.acc, s.fire.line, s.fire.flown, s.fire.ticked, s.fire.low, s.fire.shadow,
   s.fire.gateHeld, s.fire.ckptNozzles, s.fire.ckptVals)

/-- The part of the state that holds: Codec. -/
def State.codecPart (s : State) :=
  (s.mover.codec, s.mover.ctxs, s.mover.nextCtx)

/-- The part of the state that holds: DMA. -/
def State.dmaPart (s : State) :=
  (s.mover.dma, s.mover.drain)

/-- The part of the state that holds: fault sources and actions. -/
def State.faultsPart (s : State) :=
  (s.fault.sources, s.fault.actions, s.fault.kept, s.fault.quiet, s.fault.pulseEnd, s.fault.testNext,
   s.fault.hiZ)

/-- The part of the state that holds: the pair. -/
def State.pairPart (s : State) :=
  (s.fault.mirrorSent, s.fault.mirrorRx, s.fault.applying, s.fault.partnerRx, s.fault.held, s.fault.shadow,
   s.fault.unbound, s.fault.lastHeart, s.fault.partner, s.fault.partnerHealth, s.fault.partnerFired,
   s.fault.laneUp, s.fault.takeAt, s.fault.gapFrom, s.fault.fenceOut, s.fault.fenceIn, s.fault.actOut,
   s.fault.partnerPos, s.fault.sent, s.fault.lags, s.fault.encMiss, s.fault.passes)

/-- The part of the state that holds: boot directory, slots, fuses and updates. -/
def State.firmwarePart (s : State) :=
  (s.mgmt.dirs, s.mgmt.slots, s.mgmt.recovery, s.mgmt.fuses, s.mgmt.update, s.mgmt.integImage)

/-- The part of the state that holds: integrator core. -/
def State.integratorPart (s : State) :=
  (s.mgmt.declared, s.mgmt.scReq, s.mgmt.scResp, s.mgmt.scBusy, s.mgmt.scReady, s.mgmt.serveReq,
   s.mgmt.serveResp, s.mgmt.serves, s.mgmt.timerCmp, s.mgmt.timerIrq, s.mgmt.kicked, s.mgmt.locals)

/-- The part of the state that holds: pulse inputs, temperature sensors and throttles. -/
def State.sensorsPart (s : State) :=
  (s.ctl.pulses, s.ctl.sensors, s.ctl.throttle)

/-- The parts of the state. -/
inductive Part where
  /-- values of objects in force -/
  | objects
  /-- values that wait for a reset or a line -/
  | waiting
  /-- durable values -/
  | durable
  /-- Change Log, flash programs and held responses -/
  | changeLog
  /-- session slots -/
  | sessions
  /-- lockouts, last answers without a session, event numbers and SFP ports -/
  | network
  /-- PTP -/
  | ptp
  /-- Encoder Tracker, ticks and triggers -/
  | web
  /-- queued item records -/
  | queues
  /-- items -/
  | items
  /-- camera results -/
  | results
  /-- reject gates -/
  | gates
  /-- state journal -/
  | journal
  /-- moulds, glyph sets and symbol engines -/
  | compositor
  /-- drop counts, lines held and flown, and gates -/
  | firing
  /-- head links -/
  | links
  /-- test bars and compensation map -/
  | inspection
  /-- cameras and archive -/
  | cameras
  /-- Beam Engine -/
  | beam
  /-- Codec -/
  | codec
  /-- DMA -/
  | dma
  /-- memory -/
  | memory
  /-- metrology island -/
  | island
  /-- power supervision -/
  | power
  /-- fault sources and actions -/
  | faults
  /-- the pair -/
  | pair
  /-- boot directory, slots, fuses and updates -/
  | firmware
  /-- integrator core -/
  | integrator
  /-- PLLs -/
  | plls
  /-- motor axes -/
  | axes
  /-- control loops -/
  | loops
  /-- pulse inputs, temperature sensors and throttles -/
  | sensors
  /-- free values taken -/
  | free
  deriving DecidableEq, Repr

/-- Two states agree in a part. -/
def Part.same (a b : State) : Part → Prop
  | .objects => b.od.vals = a.od.vals
  | .waiting => b.waitingPart = a.waitingPart
  | .durable => b.durablePart = a.durablePart
  | .changeLog => b.log = a.log
  | .sessions => b.net.sess = a.net.sess
  | .network => b.networkPart = a.networkPart
  | .ptp => b.net.ptp = a.net.ptp
  | .web => b.web = a.web
  | .queues => b.queuesPart = a.queuesPart
  | .items => b.lane.items = a.lane.items
  | .results => b.lane.results = a.lane.results
  | .gates => b.lane.gates = a.lane.gates
  | .journal => b.jrn = a.jrn
  | .compositor => b.comp = a.comp
  | .firing => b.firingPart = a.firingPart
  | .links => b.fire.links = a.fire.links
  | .inspection => b.insp = a.insp
  | .cameras => b.img = a.img
  | .beam => b.beam = a.beam
  | .codec => b.codecPart = a.codecPart
  | .dma => b.dmaPart = a.dmaPart
  | .memory => b.mem = a.mem
  | .island => b.met = a.met
  | .power => b.power = a.power
  | .faults => b.faultsPart = a.faultsPart
  | .pair => b.pairPart = a.pairPart
  | .firmware => b.firmwarePart = a.firmwarePart
  | .integrator => b.integratorPart = a.integratorPart
  | .plls => b.clk = a.clk
  | .axes => b.ctl.axes = a.ctl.axes
  | .loops => b.ctl.loops = a.ctl.loops
  | .sensors => b.sensorsPart = a.sensorsPart
  | .free => b.freeCtr = a.freeCtr

/-- All parts. -/
def Part.all : List Part :=
  [.objects, .waiting, .durable, .changeLog, .sessions, .network, .ptp, .web, .queues, .items, .results, .gates,
   .journal, .compositor, .firing, .links, .inspection, .cameras, .beam, .codec, .dma, .memory, .island, .power,
   .faults, .pair, .firmware, .integrator, .plls, .axes, .loops, .sensors, .free]

/-- The parts a command may change, whatever the state: values of objects, and beside them what the rules of its
chapter let it work on. A command that can end in a device reset may change every part (R665); so may one that makes
held responses due, where they start such a reset. -/
def mayChange : Instr → List Part
  | .encoderEdge .. => [.objects, .waiting, .durable, .changeLog, .sessions, .network, .ptp, .web, .queues, .items,
      .results, .gates, .journal, .compositor, .firing, .links, .inspection, .cameras, .beam, .codec, .dma, .memory,
      .power, .faults, .pair, .firmware, .integrator, .plls, .axes, .loops, .sensors, .free]
  | .zEdge .. => [.objects, .waiting, .durable, .changeLog, .sessions, .network, .ptp, .web, .queues, .items,
      .results, .gates, .journal, .compositor, .firing, .links, .inspection, .cameras, .beam, .codec, .dma, .memory,
      .power, .faults, .pair, .firmware, .integrator, .plls, .axes, .loops, .sensors, .free]
  | .encoderLineFault .. => [.objects, .sessions, .network, .web, .items, .journal]
  | .encoderLineFaultClear .. => [.objects]
  | .edgeOverdue .. => [.objects, .sessions, .network, .web, .items, .journal]
  | .coastLimitExceeded .. => [.objects, .sessions, .network, .web, .items, .journal]
  | .lineTick .. => [.objects, .waiting, .durable, .changeLog, .sessions, .network, .ptp, .web, .queues, .items,
      .results, .gates, .journal, .compositor, .firing, .links, .inspection, .cameras, .beam, .codec, .dma, .memory,
      .power, .faults, .pair, .firmware, .integrator, .plls, .axes, .loops, .sensors, .free]
  | .triggerEdge .. => [.objects, .sessions, .network, .web, .queues, .items, .journal, .compositor, .inspection,
      .island, .pair]
  | .lubberMark .. => [.objects, .sessions, .network, .web, .queues, .items, .journal, .compositor, .inspection,
      .island, .pair]
  | .markMissing .. => [.objects, .sessions, .network, .web, .items]
  | .cameraTrigger .. => [.objects, .sessions, .network, .web, .items, .results, .journal, .inspection, .cameras]
  | .barCameraTrigger .. => [.objects, .sessions, .network, .web, .items, .results, .journal, .inspection, .cameras]
  | .camPulseEnd .. => [.web]
  | .rejectDecision .. => [.objects, .web, .items, .gates]
  | .rejPulseEnd .. => [.gates]
  | .speedAdvHoldExpiry .. => [.objects, .sessions, .network, .web]
  | .dataLateReasonExpiry .. => [.objects, .sessions, .network, .web]
  | .pllLockAcquired .. => [.objects, .waiting, .durable, .changeLog, .sessions, .network, .ptp, .web, .queues,
      .items, .results, .gates, .journal, .compositor, .firing, .links, .inspection, .cameras, .beam, .codec, .dma,
      .memory, .power, .faults, .pair, .firmware, .integrator, .plls, .axes, .loops, .sensors, .free]
  | .pllGlideDone .. => [.objects, .waiting, .durable, .changeLog, .sessions, .network, .ptp, .web, .queues, .items,
      .results, .gates, .journal, .compositor, .firing, .links, .inspection, .cameras, .beam, .codec, .dma, .memory,
      .power, .faults, .pair, .firmware, .integrator, .plls, .axes, .loops, .sensors, .free]
  | .pllLockLoss .. => [.objects, .sessions, .network, .items, .journal, .beam, .plls, .free]
  | .clockRangeFault .. => [.objects, .sessions, .network, .items, .journal, .beam, .plls, .free]
  | .crystalFault .. => [.objects, .plls, .free]
  | .netLinkDown .. => [.objects, .sessions, .network]
  | .netLinkUp .. => [.objects]
  | .sfpModuleInserted .. => [.objects, .network]
  | .sfpModuleRemoved .. => [.objects, .network]
  | .pauseFrame .. => [.objects]
  | .ptpEventMessage .. => [.objects, .ptp]
  | .ptpSyncTimeout .. => [.objects, .ptp]
  | .klpPacket .. => [.objects, .changeLog, .sessions, .network]
  | .retransmitTimeout .. => [.changeLog, .sessions]
  | .ackDue .. => [.sessions, .network]
  | .creditUpdateDue .. => [.sessions, .network]
  | .keepaliveDue .. => [.sessions, .network]
  | .sessionTimeout .. => [.changeLog, .sessions]
  | .nop .. => [.objects, .changeLog, .sessions]
  | .open .. => [.objects, .durable, .changeLog, .sessions, .network]
  | .close .. => [.changeLog, .sessions]
  | .read .. => [.sessions, .web, .integrator, .free]
  | .write .. => Part.all
  | .batch .. => Part.all
  | .itemPut .. => [.objects, .sessions, .network, .queues, .compositor, .pair]
  | .bulkOpen .. => [.sessions]
  | .bulkWrite .. => [.sessions]
  | .bulkCommit .. => [.objects, .sessions, .queues, .compositor, .pair, .firmware]
  | .bulkAbort .. => [.sessions]
  | .bulkDataSend .. => [.objects, .sessions, .cameras]
  | .subscribeEvents .. => [.sessions]
  | .subscribeCyclic .. => [.sessions]
  | .eventSend .. => [.sessions]
  | .cyclicPeriod .. => [.sessions, .web, .free]
  | .authLockoutExpiry .. => [.network]
  | .pendingValueApplied .. => Part.all
  | .changeLogFlush .. => [.changeLog]
  | .changeLogFlushDone .. => Part.all
  | .changeLogRelease .. => Part.all
  | .selfRole .. => Part.all
  | .resetRequest .. => Part.all
  | .resetDeadline .. => [.objects, .waiting, .durable, .changeLog, .sessions, .network, .ptp, .web, .queues, .items,
      .results, .gates, .journal, .compositor, .firing, .links, .inspection, .cameras, .beam, .codec, .dma, .memory,
      .power, .faults, .pair, .firmware, .integrator, .plls, .axes, .loops, .sensors]
  | .laneFlush .. => Part.all
  | .nextRecordSet .. => Part.all
  | .ledgerReset .. => Part.all
  | .verdictTimeout .. => [.objects, .sessions, .network, .items, .journal]
  | .mouldDelete .. => Part.all
  | .glyphSetDelete .. => Part.all
  | .counterValueWrite .. => Part.all
  | .symbolEncoded .. => [.objects, .compositor]
  | .lineCouched .. => [.objects, .sessions, .network, .web, .items, .journal, .compositor, .firing, .inspection,
      .memory]
  | .lookAheadMinClear .. => Part.all
  | .codecDoorbell .. => [.objects, .codec, .free]
  | .codecQueueEnable .. => [.objects, .codec, .free]
  | .codecAbort .. => [.objects, .codec, .memory, .free]
  | .codecJobEnd .. => [.objects, .sessions, .network, .items, .journal, .cameras, .codec, .memory, .free]
  | .codecBusTimeout .. => [.objects, .codec, .memory, .free]
  | .codecCountsReset .. => Part.all
  | .couchInitDone .. => [.objects, .memory]
  | .couchScrubWriteback .. => [.objects]
  | .dramTrainingDone .. => [.objects, .waiting, .durable, .changeLog, .sessions, .network, .web, .items, .results,
      .journal, .firing, .links, .inspection, .cameras, .beam, .power, .faults, .pair, .firmware]
  | .dramRetrain .. => []
  | .dramRefresh .. => [.objects]
  | .mr4Poll .. => [.objects]
  | .patrolScrub .. => [.objects]
  | .dramFrozen .. => [.objects, .durable, .sessions, .network, .web, .items, .journal, .firmware]
  | .freezeClear .. => Part.all
  | .dmaStart .. => [.objects, .dma]
  | .dmaResume .. => [.objects, .dma]
  | .dmaStopRequest .. => [.objects, .dma]
  | .dmaStatusRead .. => [.objects, .dma]
  | .dmaChainEnd .. => [.objects, .dma, .memory, .free]
  | .dmaBusTimeout .. => [.dma]
  | .dmaDrainEnd .. => [.objects, .sessions, .network, .dma, .memory, .free]
  | .busErrorClear .. => Part.all
  | .dmaCountsReset .. => Part.all
  | .registerWrite .. => [.objects, .codec, .dma, .integrator]
  | .backStatus .. => [.objects, .sessions, .network, .links, .inspection, .faults, .pair]
  | .backReject .. => [.objects, .sessions, .network, .items, .firing, .links, .pair]
  | .backIdentity .. => [.objects, .sessions, .network, .links, .inspection]
  | .backAck .. => [.objects, .links, .inspection]
  | .backFrameBad .. => [.objects]
  | .backChannelSilent .. => [.objects, .sessions, .network, .links, .inspection]
  | .identifyTimeout .. => [.objects, .sessions, .network]
  | .loadWriteTimeout .. => [.objects, .links]
  | .gateClosed .. => [.objects, .sessions, .network, .web, .firing, .links, .inspection]
  | .gateOpened .. => [.objects, .sessions, .network, .web, .beam]
  | .waveSlotWrite .. => Part.all
  | .dropCountAccumulate .. => [.objects, .firing]
  | .dropCheckpoint .. => [.objects, .firing, .power]
  | .dropCountsReset .. => Part.all
  | .inspectionComplete .. => [.objects, .sessions, .network, .items, .results, .journal, .inspection]
  | .barEvaluated .. => [.objects, .changeLog, .sessions, .network, .inspection]
  | .stagingComplete .. => [.objects, .sessions, .network, .links, .inspection]
  | .mapSaved .. => [.objects, .inspection]
  | .mapEntryWrite .. => Part.all
  | .mapResetLearned .. => Part.all
  | .csiFrameStart .. => [.objects, .sessions, .network, .web, .items, .results, .journal, .inspection, .cameras,
      .memory]
  | .csiLongPacket .. => [.objects, .cameras]
  | .csiFrameEnd .. => [.objects, .sessions, .network, .web, .items, .results, .journal, .inspection, .cameras,
      .memory]
  | .frameForcedEnd .. => [.objects, .sessions, .network, .web, .items, .results, .journal, .inspection, .cameras,
      .memory]
  | .camTriggerLost .. => [.objects, .sessions, .network, .web, .items, .results, .journal, .inspection, .cameras]
  | .settingsSetArmed .. => Part.all
  | .sensorWindowTimeout .. => [.web, .cameras]
  | .i2cNack .. => [.objects, .sessions, .web, .cameras, .pair, .integrator]
  | .i2cStretchTimeout .. => [.objects, .sessions, .web, .cameras, .pair, .integrator]
  | .i2cReadReg .. => Part.all
  | .camResetRelease .. => [.cameras]
  | .bdEdge .. => [.objects, .waiting, .durable, .changeLog, .sessions, .network, .ptp, .web, .queues, .items,
      .results, .gates, .journal, .compositor, .firing, .links, .inspection, .cameras, .beam, .codec, .dma, .memory,
      .power, .faults, .pair, .firmware, .integrator, .plls, .axes, .loops, .sensors, .free]
  | .bdTimeout .. => [.objects, .sessions, .network, .web, .items, .journal, .beam]
  | .laserIlkLow .. => [.objects, .items, .beam]
  | .beamCountsReset .. => Part.all
  | .pwmPeriodBoundary .. => [.objects, .sessions, .network, .items, .journal, .axes]
  | .focStep .. => [.objects, .sessions, .network, .items, .journal, .axes, .free]
  | .driverFault .. => [.objects, .sessions, .network, .items, .journal, .axes]
  | .sensingComplete .. => [.objects, .sessions, .network, .items, .journal, .axes]
  | .keAbnormal .. => [.objects, .sessions, .network, .items, .journal, .axes]
  | .brakeHoldDone .. => [.objects, .sessions, .network, .items, .journal, .axes]
  | .brakeTimeout .. => [.objects, .sessions, .network, .items, .journal, .axes]
  | .startTimeout .. => [.objects, .sessions, .network, .items, .journal, .axes]
  | .recatchDelayExpiry .. => [.objects, .sessions, .network, .items, .journal, .axes]
  | .axisEnable .. => Part.all
  | .loopSampleTick .. => [.objects, .sessions, .network, .loops, .free]
  | .loopEnable .. => Part.all
  | .slowAdcRound .. => [.objects, .waiting, .durable, .changeLog, .sessions, .network, .ptp, .web, .queues, .items,
      .results, .gates, .journal, .compositor, .firing, .links, .inspection, .cameras, .beam, .codec, .dma, .memory,
      .power, .faults, .pair, .firmware, .integrator, .plls, .axes, .loops, .sensors, .free]
  | .fastAdcRound .. => [.objects, .waiting, .durable, .changeLog, .sessions, .network, .ptp, .web, .queues, .items,
      .results, .gates, .journal, .compositor, .firing, .links, .inspection, .cameras, .beam, .codec, .dma, .memory,
      .power, .faults, .pair, .firmware, .integrator, .plls, .axes, .loops, .sensors, .free]
  | .tdSample .. => [.objects, .waiting, .durable, .changeLog, .sessions, .network, .ptp, .web, .queues, .items,
      .results, .gates, .journal, .compositor, .firing, .links, .inspection, .cameras, .beam, .codec, .dma, .memory,
      .power, .faults, .pair, .firmware, .integrator, .plls, .axes, .loops, .sensors, .free]
  | .pulseInEdge .. => [.objects, .sensors, .free]
  | .pulseTimeout .. => [.objects, .sensors]
  | .metPdEdge .. => [.objects, .island]
  | .weighingWindowEnd .. => [.objects, .island]
  | .sealedRecord .. => [.objects, .sessions, .network, .island]
  | .sealOpened .. => [.objects, .durable, .island]
  | .sealClosed .. => [.objects, .durable, .island, .free]
  | .zeroRequest .. => Part.all
  | .zeroTracking .. => [.island]
  | .islandBootComplete .. => [.objects, .durable, .island, .free]
  | .modulatorSilent .. => [.objects, .island]
  | .islandWatchdog .. => [.objects, .island]
  | .wakeOnRequest .. => [.objects, .waiting, .durable, .changeLog, .sessions, .network, .items, .journal, .beam,
      .power, .plls]
  | .wakeOffRequest .. => [.objects, .waiting, .durable, .changeLog, .sessions, .network, .ptp, .web, .queues, .items,
      .results, .gates, .journal, .compositor, .firing, .links, .inspection, .cameras, .beam, .codec, .dma, .memory,
      .power, .faults, .pair, .firmware, .integrator, .plls, .axes, .loops, .sensors, .free]
  | .powerOffRequest .. => Part.all
  | .seqEnableDelayExpiry .. => [.objects, .power]
  | .seqChannelSettled .. => [.objects, .waiting, .durable, .changeLog, .sessions, .network, .ptp, .web, .queues,
      .items, .results, .gates, .journal, .compositor, .firing, .links, .inspection, .cameras, .beam, .codec, .dma,
      .memory, .power, .faults, .pair, .firmware, .integrator, .plls, .axes, .loops, .sensors, .free]
  | .seqUpTimeout .. => [.objects, .waiting, .durable, .changeLog, .sessions, .network, .ptp, .web, .queues, .items,
      .results, .gates, .journal, .compositor, .firing, .links, .inspection, .cameras, .beam, .codec, .dma, .memory,
      .power, .faults, .pair, .firmware, .integrator, .plls, .axes, .loops, .sensors, .free]
  | .seqDisableDelayExpiry .. => [.objects, .power]
  | .seqChannelDown .. => [.objects, .waiting, .durable, .changeLog, .sessions, .network, .ptp, .web, .queues, .items,
      .results, .gates, .journal, .compositor, .firing, .links, .inspection, .cameras, .beam, .codec, .dma, .memory,
      .power, .faults, .pair, .firmware, .integrator, .plls, .axes, .loops, .sensors]
  | .seqDownTimeout .. => [.objects, .waiting, .durable, .changeLog, .sessions, .network, .ptp, .web, .queues, .items,
      .results, .gates, .journal, .compositor, .firing, .links, .inspection, .cameras, .beam, .codec, .dma, .memory,
      .power, .faults, .pair, .firmware, .integrator, .plls, .axes, .loops, .sensors]
  | .seqWindowLost .. => [.objects, .waiting, .durable, .changeLog, .sessions, .network, .ptp, .web, .queues, .items,
      .results, .gates, .journal, .compositor, .firing, .links, .inspection, .cameras, .beam, .codec, .dma, .memory,
      .power, .faults, .pair, .firmware, .integrator, .plls, .axes, .loops, .sensors, .free]
  | .seqFaultClear .. => Part.all
  | .minOffTimeExpiry .. => [.objects, .waiting, .durable, .changeLog, .sessions, .network, .items, .journal, .beam,
      .power, .plls]
  | .marginRampStep .. => [.objects]
  | .supplyWarning .. => [.objects, .sessions, .network, .power, .firmware]
  | .powerStop .. => [.objects, .waiting, .durable, .changeLog, .sessions, .network, .ptp, .web, .queues, .items,
      .results, .gates, .journal, .compositor, .firing, .links, .inspection, .cameras, .beam, .codec, .dma, .memory,
      .power, .faults, .pair, .firmware, .integrator, .plls, .axes, .loops, .sensors, .free]
  | .supplyWarningCleared .. => [.objects, .durable, .sessions, .network, .power]
  | .mainSupplyPowerOn .. => Part.all
  | .journalProgram .. => [.objects, .journal, .free]
  | .stateCheckpoint .. => [.journal]
  | .holdupJournalProgrammed .. => [.objects, .journal, .free]
  | .holdupBodyProgrammed .. => [.objects, .power]
  | .holdupStopProgrammed .. => [.objects, .waiting, .durable, .changeLog, .sessions, .network, .ptp, .web, .queues,
      .items, .results, .gates, .journal, .compositor, .firing, .links, .inspection, .cameras, .beam, .codec, .dma,
      .memory, .power, .faults, .pair, .firmware, .integrator, .plls, .axes, .loops, .sensors, .free]
  | .holdupSectorErased .. => [.objects, .power]
  | .faultSourceActive .. => [.objects, .waiting, .durable, .changeLog, .sessions, .network, .ptp, .web, .queues,
      .items, .results, .gates, .journal, .compositor, .firing, .links, .inspection, .cameras, .beam, .codec, .dma,
      .memory, .power, .faults, .pair, .firmware, .integrator, .plls, .axes, .loops, .sensors, .free]
  | .faultSourceInactive .. => [.objects, .faults]
  | .faultNPulseEnd .. => [.objects]
  | .faultClear .. => Part.all
  | .faultInject .. => Part.all
  | .faultSelfTestTurn .. => [.objects, .waiting, .durable, .changeLog, .sessions, .network, .ptp, .web, .queues,
      .items, .results, .gates, .journal, .compositor, .firing, .links, .inspection, .cameras, .beam, .codec, .dma,
      .memory, .power, .faults, .pair, .firmware, .integrator, .plls, .axes, .loops, .sensors, .free]
  | .actionWrite .. => Part.all
  | .collectorSelfFault .. => [.objects, .waiting, .durable, .changeLog, .sessions, .network, .ptp, .web, .queues,
      .items, .results, .gates, .journal, .compositor, .firing, .links, .inspection, .cameras, .beam, .codec, .dma,
      .memory, .power, .faults, .pair, .firmware, .integrator, .plls, .axes, .loops, .sensors, .free]
  | .groupRecovered .. => [.objects, .changeLog, .sessions, .network, .items, .journal, .beam, .power, .faults, .axes]
  | .recoveryCountReset .. => Part.all
  | .safeStateExit .. => Part.all
  | .heartbeatSend .. => [.objects, .sessions, .network, .faults, .pair]
  | .heartbeatReceived .. => [.objects, .sessions, .network, .queues, .items, .firing, .beam, .faults, .pair]
  | .mirrorFrameReceived .. => Part.all
  | .relinquishReceived .. => [.objects, .sessions, .network, .items, .firing, .beam, .faults, .pair]
  | .partnerLossTimeout .. => [.objects, .sessions, .network, .faults, .pair]
  | .takeoverComplete .. => [.objects, .sessions, .network, .web, .queues, .items, .results, .journal, .compositor,
      .firing, .inspection, .beam, .island, .faults, .pair]
  | .pairFenceInLow .. => [.objects, .sessions, .network, .faults, .pair]
  | .pairFenceInHigh .. => [.objects, .sessions, .network, .faults, .pair]
  | .pairSeekTimeout .. => [.objects, .sessions, .network, .faults, .pair]
  | .syncComplete .. => [.objects, .sessions, .network, .web, .faults, .pair]
  | .pairSwitchoverRequest .. => Part.all
  | .watchdogExpiry .. => [.objects, .waiting, .durable, .changeLog, .sessions, .network, .ptp, .web, .queues, .items,
      .results, .gates, .journal, .compositor, .firing, .links, .inspection, .cameras, .beam, .codec, .dma, .memory,
      .power, .faults, .pair, .firmware, .integrator, .plls, .axes, .loops, .sensors, .free]
  | .firmwareImageWritten .. => [.objects, .waiting, .durable, .changeLog, .sessions, .network, .ptp, .web, .queues,
      .items, .results, .gates, .journal, .compositor, .firing, .links, .inspection, .cameras, .beam, .codec, .dma,
      .memory, .power, .faults, .pair, .firmware, .integrator, .plls, .axes, .loops, .sensors]
  | .updateConfirm .. => Part.all
  | .autoConfirmExpiry .. => [.objects, .firmware]
  | .updateActivate .. => Part.all
  | .integRun .. => Part.all
  | .odRead .. => [.sessions, .web, .integrator, .free]
  | .odWrite .. => Part.all
  | .declare .. => [.objects, .web, .integrator, .free]
  | .eventPush .. => [.sessions, .network, .web, .integrator, .free]
  | .scRespRead .. => [.integrator]
  | .serveDoorbell .. => Part.all
  | .serveTimeout .. => Part.all
  | .wdtKick .. => [.integrator]
  | .integWatchdogExpiry .. => [.objects, .waiting, .durable, .changeLog, .sessions, .network, .ptp, .web, .queues,
      .items, .results, .gates, .journal, .compositor, .firing, .links, .inspection, .cameras, .beam, .codec, .dma,
      .memory, .power, .faults, .pair, .firmware, .integrator, .plls, .axes, .loops, .sensors, .free]
  | .integRestartDelayExpiry .. => [.objects]
  | .integTimerInterrupt .. => [.integrator]
  | .flashProgramComplete .. => [.objects, .waiting, .durable, .changeLog, .sessions, .network, .ptp, .web, .queues,
      .items, .results, .gates, .journal, .compositor, .firing, .links, .inspection, .cameras, .beam, .codec, .dma,
      .memory, .power, .faults, .pair, .firmware, .integrator, .plls, .axes, .loops, .sensors, .free]
  | .integImageLoaded .. => [.objects, .memory, .integrator]
  | .pdMetroSupplyFault .. => [.objects, .island]
  | .mirrorLaneLockLost .. => [.objects, .waiting, .durable, .changeLog, .sessions, .network, .ptp, .web, .queues,
      .items, .results, .gates, .journal, .compositor, .firing, .links, .inspection, .cameras, .beam, .codec, .dma,
      .memory, .power, .faults, .pair, .firmware, .integrator, .plls, .axes, .loops, .sensors, .free]
  | .mirrorLaneLockRegained .. => [.objects, .pair]
  | .triggerCounterpartTimeout .. => [.objects, .pair]
  | .supplyGlitch .. => [.objects]
  | .mainInputQualified .. => [.objects, .waiting, .durable, .changeLog, .sessions, .network, .items, .journal, .beam,
      .power, .plls]
  | .holdUpExhausted .. => [.objects, .waiting, .durable, .changeLog, .sessions, .network, .ptp, .web, .queues,
      .items, .results, .gates, .journal, .compositor, .firing, .links, .inspection, .cameras, .beam, .codec, .dma,
      .memory, .power, .faults, .pair, .firmware, .integrator, .plls, .axes, .loops, .sensors]
  | .netrefFault .. => [.objects, .waiting, .durable, .changeLog, .sessions, .network, .ptp, .web, .queues, .items,
      .results, .gates, .journal, .compositor, .firing, .links, .inspection, .cameras, .beam, .codec, .dma, .memory,
      .power, .faults, .pair, .firmware, .integrator, .plls, .axes, .loops, .sensors, .free]
  | .ptpGeneralMessage .. => [.objects, .ptp]

/-- The output of reject gate `g` (R226). -/
def State.rejOut (s : State) (g : Nat) : RejGate := s.lane.gates.toList.getD g ⟨false, 0⟩

/-- The entry of a WRITE of the object `k` with the value `v`, as the object's type encodes it (R147, R166). -/
def entryOf (row : OdRow) (k : Nat) (v : OVal) : WEntry := ⟨k / 256, k % 256, encodeVal row.ty v⟩

/-- A WRITE of the object `k` with the value `v` on slot `se` is taken up at time `t`, passes every check of R165, and
waits for nothing: the integrator core does not serve the object, and the RAM ring has room for its record. -/
def State.takesWrite (s : State) (t se req k : Nat) (v : OVal) : Bool :=
  match odRow k with
  | none => false
  | some row =>
    let r := (s.at t).take se 0x12
    r.2.live && (r.1.declaredAt k).isNone && decide (r.1.log.unflushed < 32) && decide (row.per ≠ 3) &&
    (match r.1.checkWrite (r.2.single req (entryOf row k v)) with
      | .ok cs => decide (cs = [⟨k, row, v, encodeVal row.ty v⟩])
      | .error _ => false)

/-- The keys of a list rise strictly. -/
def keysRise (l : List (Nat × OVal)) : Bool := decide ((l.map Prod.fst).Pairwise (· < ·))

/-- The object store and the memory are in their canonical forms: equal contents are equal data. -/
def State.canonical (s : State) : Prop :=
  keysRise s.od.vals = true ∧ keysRise s.od.flash = true ∧ Memory.wf s.mem = true

/-- A WRITE of `self_role` (OD 16#1020.02) with the value `role` on slot `se` is taken up at time `t` and passes every
check of R165. The object is session-local, so the write waits for nothing. -/
def State.takesRole (s : State) (t se req role : Nat) : Bool :=
  match odRow Od.session_self.self_role with
  | none => false
  | some row =>
    let k := Od.session_self.self_role
    let r := (s.at t).take se 0x12
    r.2.live && (r.1.declaredAt k).isNone &&
    (match r.1.checkWrite (r.2.single req (entryOf row k (.int role))) with
      | .ok cs => decide (cs = [⟨k, row, .int role, encodeVal row.ty (.int role)⟩])
      | .error _ => false)

end Sys2Proof.Machine
end

