-- ==== Sys2Proof/Certificates/Slice0/Obligations.lean ====
section
/-! DEFINITION. The statements for the provers, one `Obligations.<Name>` each: what each command does in the cases its rules give, what
it leaves unchanged, and what every step keeps. -/

section

open Sys2Proof Sys2Proof.Machine

/-- The command at the front of the queue is the one that runs, and it runs with the rest of the queue left waiting. -/
def Obligations.StepRunsFront : Prop :=
  ∀ (c : Instr) (rest : List Instr) (s : State), s.pending = c :: rest → step s = exec c { s with pending := rest }

/-- On an empty queue the block idles (the model's choice, assumption log entry 2). -/
def Obligations.EmptyQueueIdles : Prop :=
  ∀ s : State, s.pending = [] → step s = .next s

/-- The device right after reset: no command waits, the power state is STANDBY (R645), every synthesizer is OFF (0), no
session is open, no item is in any slot or queue, the Change Log is empty with change number 1 next (R181), the tracker
is DISABLED (0), every axis is DISABLED (0), the pair state is SOLO (0), the Fault Collector holds no active source and
memory lists nothing. -/
def Obligations.ResetState : Prop :=
  State.reset.pending = [] ∧ State.reset.powerState = 0 ∧ (∀ p : Fin 4, State.reset.pllState p = 0) ∧
  (∀ i : Fin 8, (State.reset.sess i).isOpen = false) ∧ State.reset.lane.items = [] ∧
  (∀ l : Fin 8, State.reset.queue l = []) ∧ State.reset.log.flash = [] ∧ State.reset.log.ring = [] ∧
  State.reset.log.nextNum = 1 ∧ State.reset.trk = 0 ∧ (∀ a : Fin 6, State.reset.axisState a = 0) ∧
  State.reset.pairState = 0 ∧ (∀ n : Fin 256, (State.reset.source n).active = false) ∧ State.reset.mem.cells = []

/-- After reset the object store and the memory are in their canonical forms. -/
def Obligations.CanonicalAtReset : Prop := State.reset.canonical

/-- What the inputs of an encoder do (spec 02_web_position.md, R37 to R44, R63 to R66).

* ENCODER_EDGE, one line changes: the count C moves by one in the direction of the quadrature order and the levels are
  held. For an encoder that is not the web encoder, or whose inputs are at fault, nothing else changes; for the web
  encoder the edge then works on the position and the tracker.
* ENCODER_EDGE, both lines change: no count, `enc_error_count` rises and bit 3 of `enc_status` sets.
* ENCODER_EDGE, encoder disabled or no line changes: the levels are held and no object changes.
* Z_EDGE: the level is held; at a rising edge of the web encoder the first one gives the reference, one within the
  tolerance changes nothing more, and one outside it is a mismatch.
* ENCODER_LINE_FAULT and ENCODER_LINE_FAULT_CLEAR set and clear the pair's bit of `enc_status`. -/
def Obligations.EncoderInputsAct : Prop :=
  (∀ (t : Nat) (enc : Fin 4) (a b : Bool) (dir : Int) (s : State),
    s.ob (Od.encoder.enc_enable enc) = true → s.power.resetDue = false →
    let a' := if s.ob (Od.encoder.enc_swap_ab enc) then b else a
    let b' := if s.ob (Od.encoder.enc_swap_ab enc) then a else b
    ((quad a' b' - quad (s.enc enc).a (s.enc enc).b) % 4 = 1 ∧ dir = 1 ∨
      (quad a' b' - quad (s.enc enc).a (s.enc enc).b) % 4 = 3 ∧ dir = -1) →
    ∃ (m u : State), exec (.encoderEdge t enc a b) s = .next u ∧ (m.enc enc).count = (s.enc enc).count + dir ∧
      (m.enc enc).a = a' ∧ (m.enc enc).b = b' ∧ (∀ k, m.ov k = s.ov k) ∧
      if s.webEnc = enc.val ∧ s.encFaulty enc = false then u = ((m.webEdge dir).idleUnits).runReset
      else u = m ∧ (s.webEnc ≠ enc.val → ∀ e : Fin 4, e ≠ enc → u.enc e = s.enc e)) ∧
  (∀ (t : Nat) (enc : Fin 4) (a b : Bool) (s : State),
    s.ob (Od.encoder.enc_enable enc) = true → s.webEnc ≠ enc.val → s.power.resetDue = false →
    let a' := if s.ob (Od.encoder.enc_swap_ab enc) then b else a
    let b' := if s.ob (Od.encoder.enc_swap_ab enc) then a else b
    (quad a' b' - quad (s.enc enc).a (s.enc enc).b) % 4 = 2 →
    ∃ u, exec (.encoderEdge t enc a b) s = .next u ∧ (u.enc enc).count = (s.enc enc).count ∧
      (u.enc enc).a = a' ∧ (u.enc enc).b = b' ∧
      u.on (Od.encoder.enc_error_count enc) = (s.on (Od.encoder.enc_error_count enc) + 1) % 2 ^ 32 ∧
      u.on (Od.encoder.enc_status enc) = withBit (s.on (Od.encoder.enc_status enc)) 3 true ∧
      ∀ k, k ≠ Od.encoder.enc_error_count enc → k ≠ Od.encoder.enc_status enc → u.ov k = s.ov k) ∧
  (∀ (t : Nat) (enc : Fin 4) (a b : Bool) (s : State), s.power.resetDue = false →
    let a' := if s.ob (Od.encoder.enc_swap_ab enc) then b else a
    let b' := if s.ob (Od.encoder.enc_swap_ab enc) then a else b
    (s.ob (Od.encoder.enc_enable enc) = false ∨ (quad a' b' - quad (s.enc enc).a (s.enc enc).b) % 4 = 0) →
    ∃ u, exec (.encoderEdge t enc a b) s = .next u ∧ (u.enc enc).count = (s.enc enc).count ∧
      (u.enc enc).a = a' ∧ (u.enc enc).b = b' ∧ ∀ k, u.ov k = s.ov k) ∧
  (∀ (t : Nat) (enc : Fin 4) (s : State), s.power.resetDue = false →
    ∃ u, exec (.zEdge t enc false) s = .next u ∧ (u.enc enc).z = false ∧ u.web.zRef = s.web.zRef ∧
      ∀ k, u.ov k = s.ov k) ∧
  (∀ (t : Nat) (enc : Fin 4) (s : State), s.power.resetDue = false → s.webEnc = enc.val →
    s.ob (Od.encoder.enc_enable enc) = true → s.ob (Od.encoder.enc_z_enable enc) = true →
    s.on (Od.encoder.enc_counts_per_rev enc) ≠ 0 → s.trk ≠ 0 → s.trk ≠ 6 → s.trk ≠ 7 → s.encFaulty enc = false →
    let m := ((s.atTime t).setEnc enc { s.enc enc with z := true }).moveX
    ∃ u, exec (.zEdge t enc true) s = .next u ∧
      match s.web.zRef with
      | none => u = m.setWeb { m.web with zRef := some m.webCount }
      | some r =>
        let due := r + s.on (Od.encoder.enc_counts_per_rev enc) *
          roundDiv (m.webCount - r) (s.on (Od.encoder.enc_counts_per_rev enc))
        if (m.webCount - due).natAbs ≤ s.on Od.tracker_config.z_tolerance_counts ∨ s.trk ≠ 2 then u = m
        else u = (m.zMismatch due).runReset) ∧
  (∀ (t : Nat) (enc : Fin 4) (pair : Fin 3) (s : State), ∃ m u,
    exec (.encoderLineFault t enc pair) s = .next u ∧
      m.on (Od.encoder.enc_status enc) = withBit (s.on (Od.encoder.enc_status enc)) pair true ∧
      (∀ k, k ≠ Od.encoder.enc_status enc → m.ov k = s.ov k) ∧
      if s.webEnc = enc.val ∧ s.encFaulty enc = false then u = m.moveX.trackFault else u = m) ∧
  (∀ (t : Nat) (enc : Fin 4) (pair : Fin 3) (s : State), ∃ u,
    exec (.encoderLineFaultClear t enc pair) s = .next u ∧
      u.on (Od.encoder.enc_status enc) = withBit (s.on (Od.encoder.enc_status enc)) pair false ∧
      ∀ k, k ≠ Od.encoder.enc_status enc → u.ov k = s.ov k)

/-- What the overdue edge and the end of the coast do (spec 02_web_position.md, R49 to R51, R81, R82).

* EDGE_OVERDUE changes nothing unless the tracker is in TRACKING (2). Below the coast's least speed it enters
  STANDSTILL (1); at or above it, with a coast limit, DEAD_RECKONING (5) and `coast_count` rises; with a coast limit of
  0, LOST (6) at once, and the items not yet fired on all their planes close UNMARKED_FAULT (6), encoder lost (2).
* COAST_LIMIT_EXCEEDED in DEAD_RECKONING reports the distance run and enters LOST in the same way. -/
def Obligations.TrackerStopsAct : Prop :=
  (∀ (t : Nat) (s : State), s.trk ≠ 2 → exec (.edgeOverdue t) s = .next (s.atTime t).moveX) ∧
  (∀ (t : Nat) (s : State), s.trk = 2 →
    (s.atTime t).moveX.vEdgeUm < s.on Od.tracker_config.coast_min_speed_um_s →
    ∃ u, exec (.edgeOverdue t) s = .next u ∧ u.trk = 1 ∧ u.mem = s.mem ∧ u.lane.items = s.lane.items) ∧
  (∀ (t : Nat) (s : State), s.trk = 2 →
    s.on Od.tracker_config.coast_min_speed_um_s ≤ (s.atTime t).moveX.vEdgeUm →
    s.on Od.tracker_config.coast_limit_um ≠ 0 →
    ∃ u, exec (.edgeOverdue t) s = .next u ∧ u.trk = 5 ∧
      u.on Od.tracker_status.coast_count = (s.on Od.tracker_status.coast_count + 1) % 2 ^ 32 ∧ u.mem = s.mem) ∧
  (∀ (t : Nat) (s : State), s.trk = 2 →
    s.on Od.tracker_config.coast_min_speed_um_s ≤ (s.atTime t).moveX.vEdgeUm →
    s.on Od.tracker_config.coast_limit_um = 0 →
    ∃ (a u : State), exec (.edgeOverdue t) s = .next u ∧ a.trk = 6 ∧ u = (a.disposeAll (fun _ => true) 6 2).drainAll) ∧
  (∀ (t : Nat) (s : State), s.trk = 5 →
    ∃ (a u : State), exec (.coastLimitExceeded t) s = .next u ∧ a.trk = 6 ∧
      a.on Od.tracker_status.coast_distance_um = (s.atTime t).moveX.coastUm ∧
      u = (a.disposeAll (fun _ => true) 6 2).drainAll) ∧
  (∀ (t : Nat) (s : State), s.trk ≠ 5 → exec (.coastLimitExceeded t) s = .next (s.atTime t).moveX)

/-- What product triggers and lubber marks do (spec 02_web_position.md, R68 to R77, and 06_items_and_ledger.md, R212).

* TRIGGER_EDGE of a lane that is not enabled, takes another source or awaits the other edge changes no object. An edge
  that counts is counted in `triggers_seen`; it is rejected for the state in DISABLED, REVERSED, LOST and REACQUIRE, for
  the lane not enabled and during a stop, then for the pitch; otherwise its stamp is held and it binds the lane's next
  item (or, on a device that is not the active one of a pair, is kept as its own stamp).
* LUBBER_MARK in trigger mode triggers the lanes that name the mark as their source; in correction mode it pairs with the
  item that awaits it or counts in `marks_unpaired`.
* MARK_MISSING counts a mark that did not come and marks the item; the third in a row pushes an event. -/
def Obligations.TriggersAct : Prop :=
  (∀ (t : Nat) (n : Fin 8) (rising : Bool) (s : State),
    s.ob (Od.lane_trigger.trig_enable n) = false ∨ s.on (Od.lane_trigger.trig_source n) ≠ 0 ∨
      decide (s.on (Od.lane_trigger.trig_edge n) = 0) ≠ rising →
    ∃ u, exec (.triggerEdge t n rising) s = .next u ∧ ∀ k, u.ov k = s.ov k) ∧
  (∀ (t : Nat) (n : Fin 8) (rising : Bool) (s : State),
    s.ob (Od.lane_trigger.trig_enable n) = true → s.on (Od.lane_trigger.trig_source n) = 0 →
    decide (s.on (Od.lane_trigger.trig_edge n) = 0) = rising →
    let m := (s.atTime t).moveX
    let st := m.stamp (s.on (Od.lane_trigger.trig_filter_ns n)) (s.on (Od.lane_trigger.trig_latency_ns n))
    let shut := m.judgeState = 0 ∨ m.judgeState = 4 ∨ m.judgeState = 6 ∨ m.judgeState = 7 ∨
      s.ob (Od.lane_config.lane_enable n) = false ∨ s.stopped = true
    ∃ (a u : State), exec (.triggerEdge t n rising) s = .next u ∧
      a.on (Od.lane_trigger.triggers_seen n) = (s.on (Od.lane_trigger.triggers_seen n) + 1) % 2 ^ 64 ∧
      (shut → u = a ∧
        a.on (Od.lane_trigger.triggers_rejected_state n) =
          (s.on (Od.lane_trigger.triggers_rejected_state n) + 1) % 2 ^ 32 ∧
        ∀ k, k ≠ Od.lane_trigger.triggers_seen n → k ≠ Od.lane_trigger.triggers_rejected_state n →
          a.ov k = s.ov k) ∧
      (¬ shut → m.tooClose n st.x = true → u = a ∧
        a.on (Od.lane_trigger.triggers_rejected_pitch n) =
          (s.on (Od.lane_trigger.triggers_rejected_pitch n) + 1) % 2 ^ 32 ∧
        ∀ k, k ≠ Od.lane_trigger.triggers_seen n → k ≠ Od.lane_trigger.triggers_rejected_pitch n →
          a.ov k = s.ov k) ∧
      (¬ shut → m.tooClose n st.x = false →
        a.oi (Od.lane_trigger.last_stamp_ps n) = st.x ∧ a.on (Od.lane_trigger.last_stamp_time n) = st.time ∧
        u = if s.pairActive = true then a.bindTrigger n st
          else if s.pairState = 4 ∨ s.pairState = 6 then a.shadowStamp n st else a)) ∧
  (∀ (t : Nat) (m : Fin 4) (rising : Bool) (s : State),
    s.ob (Od.lubber_mark.mark_enable m) = false ∨ decide (s.on (Od.lubber_mark.mark_edge m) = 0) ≠ rising →
    ∃ u, exec (.lubberMark t m rising) s = .next u ∧ ∀ k, u.ov k = s.ov k) ∧
  (∀ (t : Nat) (m : Fin 4) (rising : Bool) (s : State),
    s.ob (Od.lubber_mark.mark_enable m) = true → decide (s.on (Od.lubber_mark.mark_edge m) = 0) = rising →
    let a := (s.atTime t).moveX
    let st := a.stamp (s.on (Od.lubber_mark.mark_filter_ns m)) (s.on (Od.lubber_mark.mark_latency_ns m))
    ∃ u, exec (.lubberMark t m rising) s = .next u ∧
      (s.on (Od.lubber_mark.mark_mode m) = 0 →
        u = (List.range 8).foldl (fun a l =>
          if a.ob (Od.lane_trigger.trig_enable l) && a.on (Od.lane_trigger.trig_source l) = 16 + m.val then
            a.laneTrigger l st else a) a) ∧
      (s.on (Od.lubber_mark.mark_mode m) ≠ 0 →
        match a.lane.items.find? (fun it => a.awaitsMark m it &&
          decide (((st.x - a.markPos m it).natAbs : Int) ≤ a.psOf (Od.lubber_mark.mark_window_um m))) with
        | some it => u = a.pairMark m st.x it
        | none => u.on (Od.lubber_mark.marks_unpaired m) = (s.on (Od.lubber_mark.marks_unpaired m) + 1) % 2 ^ 32 ∧
            ∀ k, k ≠ Od.lubber_mark.marks_unpaired m → u.ov k = s.ov k)) ∧
  (∀ (t : Nat) (m : Fin 4) (q : Nat) (it : Item) (s : State),
    let a := (s.atTime t).moveX
    a.item q = some it → s.ob (Od.lubber_mark.mark_enable m) = true → s.on (Od.lubber_mark.mark_mode m) = 1 →
    a.awaitsMark m it = true → a.markPos m it + a.psOf (Od.lubber_mark.mark_window_um m) ≤ a.xInt →
    ∃ (b u : State), exec (.markMissing t m q) s = .next u ∧
      b.on (Od.lubber_mark.marks_missing m) = (s.on (Od.lubber_mark.marks_missing m) + 1) % 2 ^ 32 ∧
      b.web.missRun.toList.getD m 0 = s.web.missRun.toList.getD m 0 + 1 ∧
      b.lane.items = s.lane.items.map (fun y => if y.seq = q then { y with markDone := y.markDone ++ [m.val] } else y) ∧
      (∀ k, k ≠ Od.lubber_mark.marks_missing m → b.ov k = s.ov k) ∧
      u = if s.web.missRun.toList.getD m 0 = 2 then b.webEvent 0x0309 (leBytes 1 m) else b)

/-- What camera triggers and reject gates do (spec 02_web_position.md, R78, R79;
06_items_and_ledger.md, R226, R227).

* CAMERA_TRIGGER of an item that is due: the trigger is issued, counted and queued for its frame, and the item is marked
  as triggered; within the least interval of the last pulse it is skipped, counted, and the item is reported as not
  captured.
* BAR_CAMERA_TRIGGER does the same for a test bar.
* CAM_PULSE_END and REJ_PULSE_END lower the output; a reject pulse that was prolonged ends at its own end.
* REJECT_DECISION decides for an item that has reached the gate, once: an item to be rejected starts the pulse and counts
  in `rej_issued`, another only counts as decided. -/
def Obligations.TriggerOutputsAct : Prop :=
  (∀ (t : Nat) (c : Fin 4) (q : Nat) (it : Item) (s : State),
    let m := (s.atTime t).moveX
    m.item q = some it → s.pairActive = true → s.ob (Od.camera_trigger.cam_trig_enable c) = true →
    bitAt (it.ivn (Od.camera_trigger.cam_lane_mask c)) it.lane = true → it.camDone.contains c.val = false →
    m.ahead (m.camPos c it) = false →
    let near := ∃ p, (s.trigOut c).lastPulse = some p ∧
      m.now < p + 1000 * s.on (Od.camera_trigger.cam_min_interval_us c)
    ∃ (a u : State), exec (.cameraTrigger t c q) s = .next u ∧
      (¬ near →
        a.on (Od.camera_trigger.cam_trig_issued c) = (s.on (Od.camera_trigger.cam_trig_issued c) + 1) % 2 ^ 64 ∧
        a.lane.items = s.lane.items.map (fun y => if y.seq = q then { y with camDone := y.camDone ++ [c.val] } else y) ∧
        a.trigOut c = ⟨true, some m.now⟩ ∧
        (∀ k, k ≠ Od.camera_trigger.cam_trig_issued c → a.ov k = s.ov k) ∧
        u = a.queueFrame c { kind := 1, ident := q, pulse := m.now,
                             expose := m.now + it.ivn (Od.camera_trigger.cam_latency_ns c) }) ∧
      (near →
        a.on (Od.camera_trigger.cam_trig_skipped c) = (s.on (Od.camera_trigger.cam_trig_skipped c) + 1) % 2 ^ 32 ∧
        a.trigOut c = s.trigOut c ∧ (∀ k, k ≠ Od.camera_trigger.cam_trig_skipped c → a.ov k = s.ov k) ∧
        u = (a.camResult q c (Finding.bare 3 1)).archLost c q m.now m.now)) ∧
  (∀ (t : Nat) (c plane : Fin 4) (b : BarJob) (s : State),
    let m := (s.atTime t).moveX
    m.insp.bars.find? (fun q => q.1 = plane.val && bitAt q.2.cams c && !q.2.camDone.contains c.val) =
      some (plane.val, b) →
    s.pairActive = true → s.ob (Od.camera_trigger.cam_trig_enable c) = true →
    m.ahead (m.barPos plane c b) = false →
    let near := ∃ p, (s.trigOut c).lastPulse = some p ∧
      m.now < p + 1000 * s.on (Od.camera_trigger.cam_min_interval_us c)
    ∃ (a u : State), exec (.barCameraTrigger t c plane) s = .next u ∧
      (¬ near →
        a.on (Od.camera_trigger.cam_trig_issued c) = (s.on (Od.camera_trigger.cam_trig_issued c) + 1) % 2 ^ 64 ∧
        a.trigOut c = ⟨true, some m.now⟩ ∧
        u = a.queueFrame c { kind := 2, ident := b.number, pulse := m.now,
                             expose := m.now + s.on (Od.camera_trigger.cam_latency_ns c) }) ∧
      (near →
        a.on (Od.camera_trigger.cam_trig_skipped c) = (s.on (Od.camera_trigger.cam_trig_skipped c) + 1) % 2 ^ 32 ∧
        a.trigOut c = s.trigOut c ∧ u = a.barUnseen b.number c)) ∧
  (∀ (t : Nat) (c : Fin 4) (s : State), ∃ u, exec (.camPulseEnd t c) s = .next u ∧
    u.trigOut c = ⟨false, (s.trigOut c).lastPulse⟩ ∧ (∀ d : Fin 4, d ≠ c → u.trigOut d = s.trigOut d) ∧ (∀ k, u.ov k = s.ov k) ∧ u.lane = s.lane ∧ u.mem = s.mem) ∧
  (∀ (t : Nat) (g : Fin 4) (q : Nat) (it : Item) (s : State),
    let m := (s.atTime t).moveX
    m.item q = some it → s.pairActive = true → s.ob (Od.reject_gate.rej_enable g) = true →
    bitAt (it.ivn (Od.reject_gate.rej_lane_mask g)) it.lane = true → it.gateDone.contains g.val = false →
    m.ahead (m.rejectPos g it) = false →
    ∃ u, exec (.rejectDecision t g q) s = .next u ∧
      (it.rejectedBy g = false → (∀ k, u.ov k = s.ov k) ∧ u.lane.gates = s.lane.gates ∧
        u.lane.items = s.lane.items.map (fun y => if y.seq = q then { y with gateDone := y.gateDone ++ [g.val] } else y)) ∧
      (it.rejectedBy g = true →
        u.on (Od.reject_gate.rej_issued g) = (s.on (Od.reject_gate.rej_issued g) + 1) % 2 ^ 64 ∧
        (u.rejOut g).level = true ∧
        (u.rejOut g).pulseEnd =
          max (m.now + 1000000 * s.on (Od.reject_gate.rej_pulse_ms g)) (s.rejOut g).pulseEnd)) ∧
  (∀ (t : Nat) (g : Fin 4) (s : State), ∃ u, exec (.rejPulseEnd t g) s = .next u ∧
    (u.rejOut g).level =
      (if (s.atTime t).now < (s.rejOut g).pulseEnd then (s.rejOut g).level else false) ∧
    (∀ d : Fin 4, d ≠ g → u.rejOut d = s.rejOut d) ∧ (∀ k, u.ov k = s.ov k) ∧ u.mem = s.mem)

/-- What the ports do (spec 04_network_transport.md, R119 to R124, R156 to R159).

* NET_LINK_DOWN takes the port's link down and counts the loss; NET_LINK_UP brings it up; ports 0 and 1 are shown in
  `pair_status` too.
* SFP_MODULE_INSERTED reads the first 32 bytes of the module's identity and lets it transmit; SFP_MODULE_REMOVED clears
  the identity and disables the transmitter.
* PAUSE_FRAME is counted and has no other effect. -/
def Obligations.PortsAct : Prop :=
  (∀ (t : Nat) (port : Fin 3) (los : Bool) (s : State),
    ∃ u, exec (.netLinkDown t port los) s = .next u ∧ u.ob (Od.net_port.link_up port) = false ∧
      u.on (Od.net_port.link_losses port) = (s.on (Od.net_port.link_losses port) + 1) % 2 ^ 32 ∧
      (port.val < 2 →
        u.on Od.redundancy.pair_status = withBit (s.on Od.redundancy.pair_status) port false) ∧
      ∀ k, k ≠ Od.net_port.link_up port → k ≠ Od.net_port.link_losses port → k ≠ Od.redundancy.pair_status →
        u.ov k = s.ov k) ∧
  (∀ (t : Nat) (port : Fin 3) (s : State),
    ∃ u, exec (.netLinkUp t port) s = .next u ∧ u.ob (Od.net_port.link_up port) = true ∧
      (port.val < 2 →
        u.on Od.redundancy.pair_status = withBit (s.on Od.redundancy.pair_status) port true) ∧
      ∀ k, k ≠ Od.net_port.link_up port → k ≠ Od.redundancy.pair_status → u.ov k = s.ov k) ∧
  (∀ (t : Nat) (port : Fin 2) (ident : List Byte) (s : State),
    ∃ u, exec (.sfpModuleInserted t port ident) s = .next u ∧ u.net.sfp[port] = true ∧
      u.net.txDisable[port] = false ∧ u.obytes (Od.net_port.module_identity port) = ident.take 32 ∧
      ∀ k, k ≠ Od.net_port.module_identity port → u.ov k = s.ov k) ∧
  (∀ (t : Nat) (port : Fin 2) (s : State),
    ∃ u, exec (.sfpModuleRemoved t port) s = .next u ∧ u.net.sfp[port] = false ∧
      u.net.txDisable[port] = true ∧ u.obytes (Od.net_port.module_identity port) = [] ∧
      ∀ k, k ≠ Od.net_port.module_identity port → u.ov k = s.ov k) ∧
  (∀ (t : Nat) (port : Fin 3) (s : State),
    ∃ u, exec (.pauseFrame t port) s = .next u ∧
      u.on (Od.net_port.rx_frames port) = (s.on (Od.net_port.rx_frames port) + 1) % 2 ^ 64 ∧
      u.on (Od.net_port.pause_frames port) = (s.on (Od.net_port.pause_frames port) + 1) % 2 ^ 32 ∧
      u.mem = s.mem ∧ u.net = s.net ∧
      ∀ k, k ≠ Od.net_port.rx_frames port → k ≠ Od.net_port.pause_frames port → u.ov k = s.ov k)

/-- What the two time-outs of the speed advice do (spec 02_web_position.md, R67).

* SPEED_ADV_HOLD_EXPIRY lowers SPEED_ADV when, taken afresh, no enabled reason is active, and leaves it otherwise.
* DATA_LATE_REASON_EXPIRY clears reason bit 4 and takes the advice afresh. -/
def Obligations.SpeedAdviceAct : Prop :=
  (∀ (t : Nat) (s : State),
    let a := ((s.atTime t).moveX).advise
    ∃ u, exec (.speedAdvHoldExpiry t) s = .next u ∧ (∀ k, u.ov k = a.ov k) ∧
      u.web.speedAdv = (if (a.on Od.speed_advice.speed_adv_reasons &&&
        a.on Od.speed_advice.speed_adv_reason_enable) = 0 then false else a.web.speedAdv)) ∧
  (∀ (t : Nat) (s : State), ∃ (a u : State), exec (.dataLateReasonExpiry t) s = .next u ∧ u = a.advise ∧
      a.on Od.speed_advice.speed_adv_reasons = withBit (s.on Od.speed_advice.speed_adv_reasons) 4 false ∧
      ∀ k, k ≠ Od.speed_advice.speed_adv_reasons → a.ov k = s.ov k)

/-- What the clock events do (spec 03_clocks.md, R94 to R114, and 19_faults_and_pairing.md, R675, for the network
reference).

* PLL_LOCK_ACQUIRED while ACQUIRING (1): LOCKED (2), outputs ungated, the anchor is the frequency reached.
* PLL_GLIDE_DONE while gliding (3): LOCKED at the target, N and F as for a fresh setting.
* PLL_LOCK_LOSS while LOCKED or gliding is counted; a synthesizer but PLL_PIX enters HOLDOVER (4), PLL_PIX (3) relocks
  by itself with gated outputs.
* CLOCK_RANGE_FAULT of an enabled output that runs is counted.
* CRYSTAL_FAULT sets `xtal_status` and `fallback_active`, and every running synthesizer that takes the crystal enters
  HOLDOVER; NETREF_FAULT sets `netref_status` and raises fault source 5. -/
def Obligations.ClocksAct : Prop :=
  (∀ (t : Nat) (p : Fin 4) (s : State), s.pllState p = 1 →
    ∃ (a u : State), exec (.pllLockAcquired t p) s = .next u ∧ a.pllState p = 2 ∧ (a.pll p).gated = false ∧
      a.on (Od.pll.pll_anchor_hz p) = s.vcoHz p ∧
      (∀ k, k ≠ Od.pll.pll_state p → k ≠ Od.pll.pll_anchor_hz p → a.ov k = s.ov k) ∧
      u = ((a.pllDone p).bootLocked p).runReset) ∧
  (∀ (t : Nat) (p : Fin 4) (s : State), s.pllState p ≠ 1 → exec (.pllLockAcquired t p) s = .next (s.atTime t)) ∧
  (∀ (t : Nat) (p : Fin 4) (s : State), s.pllState p = 3 →
    ∃ (a u : State), exec (.pllGlideDone t p) s = .next u ∧ a.pllState p = 2 ∧
      a.on (Od.pll.pll_n_int p) = (nAndF (s.pll p).target (pfdOf (s.pll p).source (s.pll p).mode)).1 ∧
      a.on (Od.pll.pll_fraction p) = (nAndF (s.pll p).target (pfdOf (s.pll p).source (s.pll p).mode)).2 ∧
      u = (a.pllDone p).runReset) ∧
  (∀ (t : Nat) (p : Fin 4) (s : State), s.pllState p = 2 ∨ s.pllState p = 3 →
    ∃ u, exec (.pllLockLoss t p) s = .next u ∧
      (p ≠ 3 → u.pllState p = 4 ∧ (u.pll p).lockedAt = none ∧
        u.on (Od.pll.pll_lock_loss_count p) = (s.on (Od.pll.pll_lock_loss_count p) + 1) % 2 ^ 32) ∧
      (p = 3 → ∃ a : State, u = a.pixelClockLost ∧ a.pllState 3 = 1 ∧ (a.pll 3).gated = true ∧
        a.on (Od.pll.pll_lock_loss_count 3) = (s.on (Od.pll.pll_lock_loss_count 3) + 1) % 2 ^ 32)) ∧
  (∀ (t : Nat) (out : Fin 32) (s : State),
    s.ob (Od.clock_out.out_enable out) = true → (s.pll (out.val / 8)).gated = false → s.pllState (out.val / 8) ≠ 0 →
    ∃ (a u : State), exec (.clockRangeFault t out) s = .next u ∧
      a.on (Od.clock_out.out_range_fault_count out) = (s.on (Od.clock_out.out_range_fault_count out) + 1) % 2 ^ 32 ∧
      (∀ k, k ≠ Od.clock_out.out_range_fault_count out → a.ov k = s.ov k) ∧
      u = if s.pllState (out.val / 8) = 2 ∨ s.pllState (out.val / 8) = 3 then a.pllLost (out.val / 8) else a) ∧
  (∀ (t : Nat) (absent : Bool) (s : State),
    ∃ u, exec (.crystalFault t absent) s = .next u ∧
      u.on Od.clock_sources.xtal_status = (if absent then 1 else 2) ∧
      u.ob Od.clock_sources.fallback_active = true ∧
      ∀ p : Fin 4, u.pllState p = if (s.pll p).source = 0 ∧ s.pllState p ≠ 0 then 4 else s.pllState p) ∧
  (∀ (t : Nat) (absent : Bool) (s : State),
    ∃ (a u : State), exec (.netrefFault t absent) s = .next u ∧
      a.on Od.clock_sources.netref_status = (if absent then 1 else 2) ∧
      (∀ k, k ≠ Od.clock_sources.netref_status → a.ov k = s.ov k) ∧ u = a.sourceOn 5 false)

/-- What PTP messages and their time-out do (spec 04_network_transport.md, R122 to R125). Each message counts as a
received frame; one of a port or domain the device does not listen to does nothing more.

* PTP_EVENT_MESSAGE: a one-step Sync gives the offset and steers the clock when it comes over the active port; a
  two-step Sync waits for its Follow_Up; a measured delay is held, and shown when the port is the active one.
* PTP_GENERAL_MESSAGE: an Announce names the port's master and the best master is selected; a Follow_Up completes the
  waiting Sync of the same sequence.
* PTP_SYNC_TIMEOUT drops the port's master and waiting Sync; on the active port the clock goes to holdover (3) and the
  best remaining master is selected. -/
def Obligations.PtpAct : Prop :=
  (∀ (t : Nat) (port : Fin 3) (kind : PtpKind) (domain seqId : Nat) (origin corr rx : Int) (s : State),
    s.ptpListens port domain = false →
    ∃ u, exec (.ptpEventMessage t port kind domain seqId origin corr rx) s = .next u ∧
      u.on (Od.net_port.rx_frames port) = (s.on (Od.net_port.rx_frames port) + 1) % 2 ^ 64 ∧ u.net = s.net ∧
      ∀ k, k ≠ Od.net_port.rx_frames port → u.ov k = s.ov k) ∧
  (∀ (t : Nat) (port : Fin 3) (domain seqId : Nat) (origin corr rx : Int) (s : State),
    s.ptpListens port domain = true → s.ptpPort = port.val →
    let offset := rx - origin - corr - s.net.ptp.delay[port] - s.oi Od.ptp_config.ptp_asymmetry_ns
    ∃ u, exec (.ptpEventMessage t port .syncOneStep domain seqId origin corr rx) s = .next u ∧
      u.oi Od.ptp_status.ptp_offset_ns = offset ∧
      u.on Od.ptp_status.ptp_state = (if offset.natAbs ≤ 1000 then 2 else 1)) ∧
  (∀ (t : Nat) (port : Fin 3) (domain seqId : Nat) (origin corr rx : Int) (s : State),
    s.ptpListens port domain = true →
    ∃ u, exec (.ptpEventMessage t port .syncTwoStep domain seqId origin corr rx) s = .next u ∧
      u.net.ptp.pending[port] = some ⟨seqId, rx, corr⟩ ∧ u.net.ptp.masters = s.net.ptp.masters ∧
      ∀ k, k ≠ Od.net_port.rx_frames port → u.ov k = s.ov k) ∧
  (∀ (t : Nat) (port : Fin 3) (domain seqId : Nat) (origin corr rx : Int) (s : State),
    s.ptpListens port domain = true →
    ∃ u, exec (.ptpEventMessage t port .delayMeasured domain seqId origin corr rx) s = .next u ∧
      u.net.ptp.delay[port] = rx ∧
      (s.ptpPort = port.val → u.oi Od.ptp_status.ptp_path_delay_ns = rx)) ∧
  (∀ (t : Nat) (port : Fin 3) (a : PtpAnnounce) (s : State), s.ptpListens port a.domain = true →
    ∃ (m u : State), exec (.ptpGeneralMessage t port (.announce a)) s = .next u ∧
      m.net.ptp.masters[port] = some a ∧ (∀ k, k ≠ Od.net_port.rx_frames port → m.ov k = s.ov k) ∧
      u = m.ptpSelect) ∧
  (∀ (t : Nat) (port : Fin 3) (domain seqId : Nat) (origin corr : Int) (p : PtpPending) (s : State),
    s.ptpListens port domain = true → s.net.ptp.pending[port] = some p → p.seqId = seqId →
    ∃ (m u : State), exec (.ptpGeneralMessage t port (.followUp domain seqId origin corr)) s = .next u ∧
      m.net.ptp.pending[port] = none ∧ (∀ k, k ≠ Od.net_port.rx_frames port → m.ov k = s.ov k) ∧
      u = m.ptpOffset port origin (corr + p.corr) p.rx) ∧
  (∀ (t : Nat) (port : Fin 3) (s : State), ∃ (m u : State), exec (.ptpSyncTimeout t port) s = .next u ∧
      m.net.ptp.masters[port] = none ∧ m.net.ptp.pending[port] = none ∧
      (s.ptpPort ≠ port.val → u = m ∧ ∀ k, m.ov k = s.ov k) ∧
      (s.ptpPort = port.val → u = m.ptpSelect ∧
        (s.on Od.ptp_status.ptp_state ≠ 0 → m.on Od.ptp_status.ptp_state = 3) ∧
        ∀ k, k ≠ Od.ptp_status.ptp_state → m.ov k = s.ov k))

/-- What the transport does with a session's packets (spec 04_network_transport.md, R127 to R139, R145).

* KLP_PACKET: a packet that fails the checks of its header changes nothing but the count of frames received. One of an
  open session gives its ack, sack and credit fields; a NOSEQ packet does no more; one of a wrong class is answered with
  ERROR; one outside the window or received before is counted in `duplicates_discarded` and acknowledged at once; the
  packet in sequence, within its credit, is delivered: the ack and its class's credits advance and an acknowledgement
  is due. No other session changes.
* NOP gives its fields when it comes from the session's client.
* ACK_DUE and KEEPALIVE_DUE send a NOSEQ packet. -/
def Obligations.KlpPacketsAct : Prop :=
  (∀ (t : Nat) (port : Fin 3) (addr : Nat) (data : List Byte) (s : State),
    let h := parseKlp data
    data.length < 32 ∨ h.magic ≠ 0x4C4B ∨ h.version ≠ 1 ∨ 8 ≤ h.sess ∨ (s.sess h.sess).isOpen = false ∨
      h.epoch ≠ (s.sess h.sess).epoch ∨ h.len ≠ data.length - 32 ∨
      s.knownPort (s.sess h.sess) port addr = false →
    ∃ u, exec (.klpPacket t port addr data) s = .next u ∧ u.net = s.net ∧
      u.on (Od.net_port.rx_frames port) = (s.on (Od.net_port.rx_frames port) + 1) % 2 ^ 64 ∧
      ∀ k, k ≠ Od.net_port.rx_frames port → u.ov k = s.ov k) ∧
  (∀ (t : Nat) (port : Fin 3) (addr : Nat) (data : List Byte) (s : State),
    let h := parseKlp data
    let i := h.sess
    let m := (((s.atTime t).inc64 (Od.net_port.rx_frames port)).setSess i ((s.sess i).learn port addr)).takeFields
      i h.ack h.sack h.limit h.limitCls
    let x := m.sess i
    let held := ((x.rxHeld.filter (fun p => p.cls = h.cls)).map (fun p => creditsOf p.payload.length)).sum
    32 ≤ data.length → h.magic = 0x4C4B → h.version = 1 → i < 8 → (s.sess i).isOpen = true →
    h.epoch = (s.sess i).epoch → h.len = data.length - 32 → s.knownPort (s.sess i) port addr = true →
    ∃ u, exec (.klpPacket t port addr data) s = .next u ∧
      (∀ j, j ≠ i → u.sess j = s.sess j) ∧
      (h.noseq = true ∨ x.isOpen = false → u = m) ∧
      (h.noseq = false → x.isOpen = true → clsToDevice h.mtype ≠ some h.cls →
        u = m.sendError i errClass h.mtype h.seq) ∧
      (h.noseq = false → x.isOpen = true → clsToDevice h.mtype = some h.cls →
        64 < serialDist 32 h.seq x.rxNext ∨ x.rxHeld.any (fun p => p.seq = h.seq) = true →
        u.on (Od.net_port.duplicates_discarded port) =
          (s.on (Od.net_port.duplicates_discarded port) + 1) % 2 ^ 32 ∧
        (u.sess i).rxNext = x.rxNext ∧ (u.sess i).inbox = x.inbox ∧ (u.sess i).ackDue = false) ∧
      (h.noseq = false → x.isOpen = true → clsToDevice h.mtype = some h.cls → h.seq = x.rxNext → x.rxHeld = [] →
        x.consumed.toList.getD h.cls 0 + held + creditsOf h.len ≤ x.granted.toList.getD h.cls 0 →
        (u.sess i).rxNext = (x.rxNext + 1) % 2 ^ 32 ∧ (u.sess i).ackDue = true ∧
        (u.sess i).consumed = addAt x.consumed h.cls (creditsOf (data.drop 32).length) ∧
        (h.more = false → x.frags = [] → (data.drop 32).length ≤ 16384 →
          (u.sess i).inbox = x.inbox ++ [⟨h.cls, h.mtype, h.seq, creditsOf (data.drop 32).length, port, x.role,
            x.node, x.epoch, data.drop 32⟩]))) ∧
  (∀ (t : Nat) (se : Fin 8) (port : Fin 3) (addr epoch ack sack limit cls : Nat) (s : State),
    (s.sess se).isOpen = true → (s.sess se).epoch = epoch → s.knownPort (s.sess se) port addr = true →
    ∃ u, exec (.nop t se port addr epoch ack sack limit cls) s = .next u ∧
      u = (((s.atTime t).inc64 (Od.net_port.rx_frames port)).setSess se
        ((s.sess se).learn port addr)).takeFields se ack sack limit cls ∧
      ∀ j : Fin 8, j ≠ se → u.sess j = s.sess j) ∧
  (∀ (t : Nat) (se : Fin 8) (s : State), (s.sess se).isOpen = true → (s.sess se).ackDue = true →
    ∃ u, exec (.ackDue t se) s = .next u ∧ (u.sess se).ackDue = false ∧ (u.sess se).lastTx = (s.atTime t).now ∧
      u.net.lastNoSeq = some (se.val, klpHeader se (s.sess se) 0x10 0 0 (s.sess se).txNext) ∧
      (∀ j : Fin 8, j ≠ se → u.sess j = s.sess j) ∧ ∀ k, u.ov k = s.ov k) ∧
  (∀ (t : Nat) (se : Fin 8) (s : State), (s.sess se).isOpen = true →
    ∃ u, exec (.keepaliveDue t se) s = .next u ∧ (u.sess se).lastTx = (s.atTime t).now ∧
      u.net.lastNoSeq = some (se.val, klpHeader se (s.sess se) 0x10 0 0 (s.sess se).txNext) ∧
      (∀ j : Fin 8, j ≠ se → u.sess j = s.sess j) ∧ ∀ k, u.ov k = s.ov k)

/-- What the time-outs of the transport do (spec 04_network_transport.md, R135, R138, R145, R146).

* RETRANSMIT_TIMEOUT resends the packet, counted, with a doubled timeout of at most 8 ms, or ends the session at the
  limit of retransmissions; a packet that is no longer awaited changes nothing.
* CREDIT_UPDATE_DUE reports every limit that was raised: after it the limits reported are those granted.
* SESSION_TIMEOUT ends the session: its slot is free, and the end is a record of the Change Log. -/
def Obligations.KlpTimeoutsAct : Prop :=
  (∀ (t : Nat) (se : Fin 8) (seq : Nat) (p : TxPkt) (s : State),
    (s.sess se).unacked.find? (fun p => decide (p.seq = seq) && !p.sacked) = some p →
    p.retx < s.on Od.klp_config.klp_retx_limit →
    ∃ u, exec (.retransmitTimeout t se seq) s = .next u ∧
      (u.sess se).unacked = (s.sess se).unacked.map (fun q =>
        if q.seq = seq then q.again (s.atTime t).now (min 8000 (2 * q.rtoUs)) false else q) ∧
      (u.sess se).retransmissions = ((s.sess se).retransmissions + 1) % 2 ^ 32 ∧
      (u.sess se).lastTx = (s.atTime t).now ∧
      (∀ j : Fin 8, j ≠ se → u.sess j = s.sess j) ∧ ∀ k, u.ov k = s.ov k) ∧
  (∀ (t : Nat) (se : Fin 8) (seq : Nat) (p : TxPkt) (s : State),
    (s.sess se).unacked.find? (fun p => decide (p.seq = seq) && !p.sacked) = some p →
    s.on Od.klp_config.klp_retx_limit ≤ p.retx →
    exec (.retransmitTimeout t se seq) s = .next ((s.atTime t).endSession se errTimeout)) ∧
  (∀ (t : Nat) (se : Fin 8) (s : State), (s.sess se).isOpen = true → (s.sess se).reportTurn < 4 →
    ∃ u, exec (.creditUpdateDue t se) s = .next u ∧ (u.sess se).granted = (s.sess se).granted ∧
      (u.sess se).reported = (s.sess se).granted ∧ (∀ j : Fin 8, j ≠ se → u.sess j = s.sess j) ∧
      ∀ k, u.ov k = s.ov k) ∧
  (∀ (t : Nat) (se : Fin 8) (s : State), (s.sess se).isOpen = true →
    ∃ u, exec (.sessionTimeout t se) s = .next u ∧ (u.sess se).isOpen = false ∧
      (u.sess se).epoch = (s.sess se).epoch ∧ (u.sess se).node = (s.sess se).node ∧
      (u.sess se).windows = Vector.replicate 4 none ∧ u.log.nextNum = s.log.nextNum + 1 ∧
      (∃ r : LogRec, u.log.program = s.log.program ++ [⟨none, [], [], [r]⟩] ∧ r.num = s.log.nextNum ∧ r.kind = 4 ∧
        r.sess = se.val ∧ r.new = leBytes 1 errTimeout) ∧
      (∀ j : Fin 8, j ≠ se → u.sess j = s.sess j) ∧ ∀ k, u.ov k = s.ov k)

/-- What OPEN and CLOSE do (spec 04_network_transport.md, R140 to R146, and 05_object_dictionary.md, R168 to R171).

* OPEN from an address that is locked out is refused and counted in `auth_failures`; a credential of a wrong length is
  MALFORMED; a role above MET or a slot beyond the eight is RANGE; with every slot taken it is answered SESSIONS_FULL; a credential
  that does not verify is AUTH and counted. A role that needs no credential, or whose credential verifies, is given: the slot is open with the client's node, role, nonce and limits, its epoch
  is one more than the last, the OPEN_ACK is kept, and a record of the Change Log names it. In
  recovery an OPEN is taken on port 2 alone.
* CLOSE ends the session with a record; its slot is free.
* AUTH_LOCKOUT_EXPIRY forgets what is held of the address. -/
def Obligations.SessionsAct : Prop :=
  (∀ (t : Nat) (port : Fin 3) (addr : Nat) (o : OpenReq) (s : State), s.mgmt.recovery = false →
    (s.atTime t).locked addr = true →
    ∃ u, exec (.open t port addr o) s = .next u ∧ u.net.sess = s.net.sess ∧
      u.on Od.role_keys.auth_failures = (s.on Od.role_keys.auth_failures + 1) % 2 ^ 32 ∧
      ∃ b, u.net.lastReject = some (addr, b) ∧ leAt b 0 4 = o.nonce % 2 ^ 32 ∧ leAt b 4 1 = errAuth) ∧
  (∀ (t : Nat) (port : Fin 3) (addr : Nat) (o : OpenReq) (s : State), s.mgmt.recovery = false →
    (s.atTime t).locked addr = false →
    (∀ i, i < 8 → ¬ ((s.sess i).isOpen = true ∧ (s.sess i).openFrom = addr ∧ (s.sess i).nonce = o.nonce)) →
    (o.credential.length ≠ 0 ∧ o.credential.length ≠ 40) ∨ 5 < o.role ∨ (8 ≤ o.reqSession ∧ o.reqSession ≠ 255) ∨
      s.openSlot o = none →
    ∃ u, exec (.open t port addr o) s = .next u ∧ u.net.sess = s.net.sess ∧
      ∃ b, u.net.lastReject = some (addr, b) ∧ leAt b 4 1 =
        if o.credential.length ≠ 0 ∧ o.credential.length ≠ 40 then errMalformed
        else if 5 < o.role ∨ (8 ≤ o.reqSession ∧ o.reqSession ≠ 255) then errRange else errSessionsFull) ∧
  (∀ (t : Nat) (port : Fin 3) (addr : Nat) (o : OpenReq) (i : Nat) (s : State), s.mgmt.recovery = false →
    (s.atTime t).locked addr = false →
    (∀ i, i < 8 → ¬ ((s.sess i).isOpen = true ∧ (s.sess i).openFrom = addr ∧ (s.sess i).nonce = o.nonce)) →
    (o.credential.length = 0 ∨ o.credential.length = 40) → o.role ≤ 5 → (o.reqSession < 8 ∨ o.reqSession = 255) →
    s.openSlot o = some i →
    (s.roleFree o.role || (s.credOk o && (decide (o.role ≠ 5) || s.islandPresent))) = true →
    ∃ (a u : State), exec (.open t port addr o) s = .next u ∧ u = a.pump i ∧
      (a.sess i).isOpen = true ∧ (a.sess i).node = o.node ∧ (a.sess i).role = o.role ∧
      (a.sess i).nonce = o.nonce ∧ (a.sess i).openFrom = addr ∧ (a.sess i).addrs = [(port.val, addr)] ∧
      (a.sess i).epoch = (if (s.sess i).used then ((s.sess i).epoch + 1) % 256 else 0) ∧
      (a.sess i).maxPayload = min o.maxPayload (s.on Od.klp_config.klp_max_payload) ∧
      (a.sess i).rxNext = 0 ∧ a.log.nextNum = s.log.nextNum + 1 ∧
      (∃ r : LogRec, a.log.program = s.log.program ++ [⟨none, [], [], [r]⟩] ∧ r.num = s.log.nextNum ∧ r.kind = 3 ∧
        r.sess = i ∧ r.role = o.role) ∧
      (∀ j, j ≠ i → u.sess j = s.sess j) ∧
      ∀ k, k ≠ Od.net_port.rx_frames port → k ≠ Od.role_keys.last_stamps → u.ov k = s.ov k) ∧
  (∀ (t : Nat) (port : Fin 3) (addr : Nat) (o : OpenReq) (i : Nat) (s : State), s.mgmt.recovery = false →
    (s.atTime t).locked addr = false →
    (∀ i, i < 8 → ¬ ((s.sess i).isOpen = true ∧ (s.sess i).openFrom = addr ∧ (s.sess i).nonce = o.nonce)) →
    (o.credential.length = 0 ∨ o.credential.length = 40) → o.role ≤ 5 → (o.reqSession < 8 ∨ o.reqSession = 255) →
    s.openSlot o = some i →
    (s.roleFree o.role || (s.credOk o && (decide (o.role ≠ 5) || s.islandPresent))) = false →
    ∃ u, exec (.open t port addr o) s = .next u ∧ u.net.sess = s.net.sess ∧
      u.on Od.role_keys.auth_failures = (s.on Od.role_keys.auth_failures + 1) % 2 ^ 32 ∧
      ∃ b, u.net.lastReject = some (addr, b) ∧ leAt b 4 1 = errAuth) ∧
  (∀ (t : Nat) (port : Fin 3) (addr : Nat) (o : OpenReq) (s : State), s.mgmt.recovery = true → port ≠ 2 →
    ∃ u, exec (.open t port addr o) s = .next u ∧ u.net = s.net ∧
      u.on (Od.net_port.rx_frames port) = (s.on (Od.net_port.rx_frames port) + 1) % 2 ^ 64) ∧
  (∀ (t : Nat) (se : Fin 8) (req : Nat) (s : State), (s.sess se).isOpen = true → (s.sess se).inbox = [] →
    ∃ u, exec (.close t se req) s = .next u ∧ (u.sess se).isOpen = false ∧
      (u.sess se).epoch = (s.sess se).epoch ∧ u.log.nextNum = s.log.nextNum + 1 ∧
      (∃ r : LogRec, u.log.program = s.log.program ++ [⟨none, [], [], [r]⟩] ∧ r.kind = 4 ∧ r.sess = se.val ∧
        r.new = leBytes 1 errOk) ∧
      (∀ j : Fin 8, j ≠ se → u.sess j = s.sess j) ∧ ∀ k, u.ov k = s.ov k) ∧
  (∀ (t addr : Nat) (s : State), ∃ u, exec (.authLockoutExpiry t addr) s = .next u ∧ u.locked addr = false ∧
      (∀ l, l ∈ u.net.lockouts ↔ l ∈ s.net.lockouts ∧ l.addr ≠ addr) ∧ u.net.sess = s.net.sess ∧
      ∀ k, u.ov k = s.ov k)

/-- What READ does (spec 05_object_dictionary.md, R164; 04_network_transport.md, R147).

* READ of no object or of more than 64 is answered with ERROR MALFORMED.
* READ of objects the device itself holds is answered with READ_RESP: their entries in the order asked for.
* READ that meets first a readable object served by the integrator core waits for its answer. -/
def Obligations.ReadActs : Prop :=
  (∀ (t : Nat) (se : Fin 8) (req : Nat) (objs : List (Nat × Nat)) (s : State),
    let r := (s.at t).take se 0x10
    r.2.live = true → objs.length = 0 ∨ 64 < objs.length →
    ∃ u, exec (.read t se req objs) s = .next u ∧ u = r.1.errorTo r.2 errMalformed 0x10 ∧ ∀ k, u.ov k = s.ov k) ∧
  (∀ (t : Nat) (se : Fin 8) (req : Nat) (objs : List (Nat × Nat)) (s : State),
    let r := (s.at t).take se 0x10
    r.2.live = true → objs.length ≠ 0 → objs.length ≤ 64 → s.mgmt.declared = [] →
    let end_ := objs.foldl (fun (p : State × List Byte) o =>
      let q := p.1.readOne r.2.who.sess r.2.who.role o.1 o.2
      (q.1, p.2 ++ q.2)) (r.1, [])
    ∃ u, exec (.read t se req objs) s = .next u ∧
      u = end_.1.sendIn se r.2.who.epoch 0 0x11 (leBytes 4 req ++ (leBytes 1 objs.length ++ [0, 0, 0] ++ end_.2)) ∧
      ∀ k, u.ov k = s.ov k) ∧
  (∀ (t : Nat) (se : Fin 8) (req : Nat) (o : Nat × Nat) (objs : List (Nat × Nat)) (d : Declared) (s : State),
    let r := (s.at t).take se 0x10
    r.2.live = true → objs.length < 64 → s.declaredAt (odKey o.1 o.2) = some d → d.rd ≠ 255 →
    mayRead r.2.who.role d.row = true →
    ∃ u, exec (.read t se req (o :: objs)) s = .next u ∧
      u.mgmt.serves = s.mgmt.serves ++ [⟨r.2.who, req, objs.length + 1, [], o :: objs, none, 0⟩] ∧
      ∀ k, u.ov k = s.ov k)

/-- What a WRITE or BATCH that fails a check does (spec 05_object_dictionary.md, R165, R177, R178; 04_network_transport.md,
R147, R148): it changes no object and makes no record, and its response carries the status of the first check that
failed, no change number, and for a BATCH the position of the entry. -/
def Obligations.RefusedWritesChangeNothing : Prop :=
  (∀ (t : Nat) (se : Fin 8) (req : Nat) (e : WEntry) (status at_ : Nat) (s : State),
    let r := (s.at t).take se 0x12
    r.2.live = true → r.1.checkWrite (r.2.single req e) = .error (status, at_) →
    ∃ u, exec (.write t se req e) s = .next u ∧
      u = r.1.sendIn se r.2.who.epoch 0 0x13 (leBytes 4 req ++ leBytes 2 e.idx ++ leBytes 1 e.sub ++
        leBytes 1 status ++ leBytes 8 0) ∧
      u.log = s.log ∧ u.od = s.od ∧ u.mem = s.mem) ∧
  (∀ (t : Nat) (se : Fin 8) (req : Nat) (es : List WEntry) (status at_ : Nat) (s : State),
    let r := (s.at t).take se 0x14
    let d : Deferred := ⟨r.2.who, true, es, .batch se r.2.who.epoch req es.length (es.any (fun e => mirroredIdx e.idx))⟩
    r.2.live = true → r.1.checkWrite d = .error (status, at_) →
    ∃ u, exec (.batch t se req es) s = .next u ∧
      u = r.1.sendIn se r.2.who.epoch 0 0x15 (leBytes 4 req ++ leBytes 1 es.length ++ leBytes 1 status ++
        leBytes 2 at_ ++ leBytes 8 0) ∧
      u.log = s.log ∧ u.od = s.od ∧ u.mem = s.mem)

/-- What an accepted WRITE of a value that takes effect at once does (spec 05_object_dictionary.md, R175 to R185;
00_scope.md, R11): the object has the value, but for a command, no other object but the island's event counter changes
before the effect the owner gives the value, one change number is used, the record becomes durable by a flash program
or enters the RAM ring, and then what is durable and in effect is answered. -/
def Obligations.WriteTakesEffect : Prop :=
  ∀ (t : Nat) (se : Fin 8) (req k : Nat) (v : OVal) (row : OdRow) (s : State),
    odRow k = some row → s.takesWrite t se req k v = true → k < 0x800000 →
    let w := ((s.at t).take se 0x12).2.who
    let c : Checked := ⟨k, row, v, encodeVal row.ty v⟩
    ((s.at t).take se 0x12).1.whenOf c = .now → (∀ c, camFrameKey c k = false) →
    ∃ (b u : State), exec (.write t se req (entryOf row k v)) s = .next u ∧
      u = ((b.writeEffect w k (s.ov k) v Aux.none).release).runReset ∧
      (row.cmd = false → b.ov k = v) ∧
      (∀ j, j ≠ k → j ≠ Od.island_identity.event_counter → b.ov j = s.ov j) ∧
      (row.per ≠ 2 → b.ov Od.island_identity.event_counter =
        if k = Od.island_identity.event_counter ∧ row.cmd = false then v else s.ov Od.island_identity.event_counter) ∧
      b.log.nextNum = s.log.nextNum + 1 ∧
      (c.durable = true → ∃ op : FlashOp, b.log.program = s.log.program ++ [op] ∧ op.held = some s.log.nextHeld ∧
        ∃ r : LogRec, op.recs = [r] ∧ r.num = s.log.nextNum ∧ r.kind = 1 ∧ r.idx = k / 256 ∧ r.sub = k % 256) ∧
      (c.durable = false → b.log.program = s.log.program ∧ b.log.unflushed = s.log.unflushed + 1 ∧
        ∃ r : LogRec, b.log.ring = (s.log.ring ++ [r]).drop (s.log.ring.length + 1 - 256) ∧
          r.num = s.log.nextNum ∧ r.kind = 1 ∧ r.idx = k / 256 ∧ r.sub = k % 256) ∧
      b.mem = s.mem ∧ b.lane = s.lane ∧ b.fire = s.fire

/-- What the commands of the item side do that are writes of one object (spec 06_items_and_ledger.md, R208, R210, R225;
07_compositor.md, R237, R250, R283), when the WRITE passes its checks: `a` is the state with the effect, before the
answers that are then due.

* LANE_FLUSH empties the lane's queue, counts its records as flushed, and the mark of consumed records is the last one.
* NEXT_RECORD_SET sets `next_record`, and the mark of consumed records one below it.
* LEDGER_RESET zeroes the lane's dispositions, verdicts, rejects and validity, counts the items in flight as accepted,
  and notes the time.
* COUNTER_VALUE_WRITE sets the counter, which is then exact and not exhausted.
* MOULD_DELETE and GLYPH_SET_DELETE end the current version, which is freed once nothing uses it.
* LOOK_AHEAD_MIN_CLEAR sets the least look-ahead to the look-ahead now. -/
def Obligations.ItemWritesAct : Prop :=
  (∀ (t : Nat) (se : Fin 8) (req : Nat) (l : Fin 8) (s : State),
    s.takesWrite t se req (Od.lane_config.lane_flush l) (.int 1) = true →
    ∃ (a u : State), exec (.laneFlush t se req l true) s = .next u ∧ u = a.release.runReset ∧ a.queue l = [] ∧
      a.on (Od.lane_status.records_flushed l) =
        (s.on (Od.lane_status.records_flushed l) + (s.queue l).length) % 2 ^ 32 ∧
      (∀ r, (s.queue l).getLast? = some r → a.on (Od.lane_status.consumed_mark l) = r.num) ∧
      (∀ j : Fin 8, j ≠ l → a.queue j = s.queue j) ∧ a.lane.items = s.lane.items) ∧
  (∀ (t : Nat) (se : Fin 8) (req : Nat) (l : Fin 8) (n : Nat) (s : State),
    s.takesWrite t se req (Od.lane_config.next_record_set l) (.int n) = true →
    ∃ (a u : State), exec (.nextRecordSet t se req l n) s = .next u ∧ u = a.release.runReset ∧
      a.on (Od.lane_status.next_record l) = n ∧ a.on (Od.lane_status.consumed_mark l) = n - 1 ∧ a.lane = s.lane) ∧
  (∀ (t : Nat) (se : Fin 8) (req : Nat) (l : Fin 8) (s : State),
    s.takesWrite t se req (Od.ledger.ledger_reset l) (.int 1) = true →
    ∃ (a u : State), exec (.ledgerReset t se req l true) s = .next u ∧ u = a.release.runReset ∧
      (∀ d : Fin 10, a.on (dispKey l d) = 0) ∧ a.on (verdictKey l 1) = 0 ∧ a.on (verdictKey l 2) = 0 ∧
      a.on (verdictKey l 3) = 0 ∧ a.on (Od.ledger.rejects_issued l) = 0 ∧ a.on (Od.ledger.ledger_validity l) = 0 ∧
      a.on (Od.ledger.triggers_accepted l) = s.inFlightOf l ∧
      a.on (Od.ledger.last_reset_time l) = (s.at t).time ∧ a.lane = s.lane) ∧
  (∀ (t : Nat) (se : Fin 8) (req : Nat) (c : Fin 64) (n : Nat) (s : State),
    s.takesWrite t se req (Od.counter.counter_value c) (.int n) = true →
    ∃ (a u : State), exec (.counterValueWrite t se req c n) s = .next u ∧ u = a.release.runReset ∧
      a.on (Od.counter.counter_value c) = n ∧ a.on (Od.counter.counter_validity c) = 0 ∧
      a.ob (Od.counter.counter_exhausted c) = false ∧ a.lane = s.lane) ∧
  (∀ (t : Nat) (se : Fin 8) (req n : Nat) (s : State),
    s.takesWrite t se req Od.mould_control.mould_delete (.int n) = true →
    ∃ (b a u : State), exec (.mouldDelete t se req n) s = .next u ∧ u = a.release.runReset ∧ a = b.freeVersions ∧
      b.comp.moulds = verEnd s.comp.moulds n ((s.at t).now / 4) ∧ b.comp.glyphs = s.comp.glyphs) ∧
  (∀ (t : Nat) (se : Fin 8) (req n : Nat) (s : State), n ≠ 255 →
    s.takesWrite t se req Od.glyph_control.glyph_set_delete (.int n) = true →
    ∃ (b a u : State), exec (.glyphSetDelete t se req n) s = .next u ∧ u = a.release.runReset ∧
      a = b.freeVersions ∧ b.comp.glyphs = verEnd s.comp.glyphs n ((s.at t).now / 4) ∧ b.comp.moulds = s.comp.moulds) ∧
  (∀ (t : Nat) (se : Fin 8) (req : Nat) (r : Fin 6) (s : State),
    s.takesWrite t se req (Od.compose_ring.look_ahead_min_clear r) (.int 1) = true →
    ∃ (b a u : State), exec (.lookAheadMinClear t se req r true) s = .next u ∧ u = a.release.runReset ∧
      a = b.lookCheck ∧ b.on (Od.compose_ring.look_ahead_min r) = ((s.at t).lookAhead r).toNat)

/-- What the writes that clear counts do (spec 08_codec.md, R317; 09_memory.md, R345, R352; 10_dma.md, R367, R374;
11_firing.md, R428; 14_beam_engine.md, R548; 19_faults_and_pairing.md, R684), when the WRITE passes its checks: `a` is
the state with the effect, before the answers that are then due. -/
def Obligations.CountWritesAct : Prop :=
  (∀ (t : Nat) (se : Fin 8) (req : Nat) (i : Fin 4) (s : State),
    s.takesWrite t se req (Od.codec_instance.counts_reset i) (.int 1) = true →
    ∃ (a u : State), exec (.codecCountsReset t se req i true) s = .next u ∧ u = a.release.runReset ∧
      (∀ k, k ∈ [Od.codec_instance.jobs_done i, Od.codec_instance.bytes_consumed i,
        Od.codec_instance.bytes_produced i, Od.codec_instance.errors i, Od.codec_instance.suspensions i,
        Od.codec_instance.count_validity i] → a.on k = 0) ∧ a.mover.codec = s.mover.codec) ∧
  (∀ (t : Nat) (se : Fin 8) (req : Nat) (c : Fin 16) (s : State),
    s.takesWrite t se req (Od.dma_channel.counts_reset c) (.int 1) = true →
    ∃ (a u : State), exec (.dmaCountsReset t se req c true) s = .next u ∧ u = a.release.runReset ∧
      (∀ k, k ∈ [Od.dma_channel.chains_ended c, Od.dma_channel.descriptors_done c, Od.dma_channel.bytes_moved c,
        Od.dma_channel.budget_stops c, Od.dma_channel.doorbell_errors c, Od.dma_channel.count_validity c] →
        a.on k = 0) ∧ a.mover = s.mover) ∧
  (∀ (t : Nat) (se : Fin 8) (req : Nat) (s : State),
    s.takesWrite t se req Od.dram_freeze_snapshot.freeze_clear (.int 1) = true →
    ∃ (a u : State), exec (.freezeClear t se req true) s = .next u ∧ u = a.release.runReset ∧
      a.on Od.dram_freeze_snapshot.freeze_valid = 0 ∧ a.on Od.dram_freeze_snapshot.freeze_address = 0 ∧
      a.on Od.dram_freeze_snapshot.freeze_requester = 0xFF ∧
      kvGet a.od.flash Od.dram_freeze_snapshot.freeze_requester = some (.int 0xFF) ∧ a.mem = s.mem) ∧
  (∀ (t : Nat) (se : Fin 8) (req : Nat) (s : State),
    s.takesWrite t se req Od.dma_engine.bus_error_clear (.int 1) = true →
    ∃ (a u : State), exec (.busErrorClear t se req true) s = .next u ∧ u = a.release.runReset ∧
      a.ob Od.dma_engine.bus_error_active = false ∧
      (∀ k, k ≠ Od.dma_engine.bus_error_active → a.ov k = s.ov k) ∧ a.mover = s.mover) ∧
  (∀ (t : Nat) (se : Fin 8) (req : Nat) (ch : Fin 192) (s : State),
    s.takesWrite t se req (Od.firing_channel.counts_reset ch) (.int 1) = true →
    ∃ (a u : State), exec (.dropCountsReset t se req ch true) s = .next u ∧ u = a.release.runReset ∧
      (∀ i : Fin 12, a.on (Od.firing_channel.drops_demanded ch + i) = 0) ∧
      (∀ q, q ∈ a.fire.nozzles → q.1 / 65536 = ch.val / 48 → chanOf (ch.val / 48) (q.1 % 65536) = ch.val →
        q.2.fired = 0 ∧ q.2.supp = 0) ∧
      (∀ q, q ∈ s.fire.nozzles → ¬ (q.1 / 65536 = ch.val / 48 ∧ chanOf (ch.val / 48) (q.1 % 65536) = ch.val) →
        q ∈ a.fire.nozzles)) ∧
  (∀ (t : Nat) (se : Fin 8) (req : Nat) (b : Fin 2) (s : State),
    s.takesWrite t se req (Od.beam_unit_status.counts_reset b) (.int 1) = true →
    ∃ (a u : State), exec (.beamCountsReset t se req b true) s = .next u ∧ u = a.release.runReset ∧
      (∀ k, k ∈ [Od.beam_unit_status.scans_emitted b, Od.beam_unit_status.scans_blank b,
        Od.beam_unit_status.lines_skipped b, Od.beam_unit_status.pixels_demanded b,
        Od.beam_unit_status.pixels_emitted b, Od.beam_unit_status.supp_gated b,
        Od.beam_unit_status.supp_tick_ceiling b, Od.beam_unit_status.count_validity b] → a.on k = 0) ∧
      a.beam = s.beam) ∧
  (∀ (t : Nat) (se : Fin 8) (req : Nat) (g : Fin 8) (s : State),
    s.takesWrite t se req (Od.fault_group.recovery_count_reset g) (.int 1) = true →
    ∃ (a u : State), exec (.recoveryCountReset t se req g true) s = .next u ∧ u = a.release.runReset ∧
      a.on (Od.fault_group.recovery_count g) = 0 ∧
      (∀ k, k ≠ Od.fault_group.recovery_count g → a.ov k = s.ov k) ∧ a.fault = s.fault)

/-- What the writes of the compensation map, of a waveform slot and of a sensor register do (spec 11_firing.md, R411;
12_inspection_loop.md, R462, R474, R484; 13_image_pipeline.md, R521), when the WRITE passes its checks: `a` is the state
with the effect, before the answers that are then due.

* MAP_ENTRY_WRITE stages the entry it names on its plane; MAP_RESET_LEARNED stages the preload entry of every nozzle of
  the plane whose entry was learned.
* WAVE_SLOT_WRITE holds the waveform, shows the slot as not loaded, and has it written to every link of the plane that
  loads or is loaded.
* I2C_READ_REG shows the register's value, of one byte or two. -/
def Obligations.MapAndSlotWritesAct : Prop :=
  (∀ (t : Nat) (se : Fin 8) (req n : Nat) (s : State),
    s.takesWrite t se req Od.map_write.map_entry_write (.int n) = true →
    ∃ (b a u : State), exec (.mapEntryWrite t se req n) s = .next u ∧ u = a.release.runReset ∧
      a = (b.stage (field n 17 16) [(n % 65536, n / 2 ^ 32)] true none).staged (field n 17 16) ∧ b.insp = s.insp ∧
      b.fire = s.fire) ∧
  (∀ (t : Nat) (se : Fin 8) (req : Nat) (p : Fin 4) (s : State),
    s.takesWrite t se req Od.map_reset.map_reset_learned (.int p) = true →
    let es := (s.planeMap p).filterMap (fun q =>
      if bitAt q.2 14 && !bitAt q.2 15 then
        some (q.1, if (s.link (linkOf p (q.1 / 1024))).block.isEmpty then mapIdentity else s.preloadEntry p q.1)
      else none)
    ∃ (b a u : State), exec (.mapResetLearned t se req p) s = .next u ∧ u = a.release.runReset ∧
      b.insp = s.insp ∧ b.fire = s.fire ∧ a = if es.isEmpty then b else (b.stage p es true none).staged p) ∧
  (∀ (t : Nat) (se : Fin 8) (req : Nat) (slot : Fin 64) (data : List Byte) (s : State),
    s.takesWrite t se req (Od.waveform_slot.wave_data slot) (.bytes data) = true →
    ∃ (b a u : State), exec (.waveSlotWrite t se req slot data) s = .next u ∧ u = a.release.runReset ∧
      a = b.planeSet (slot.val / 16) ∧ b.obytes (Od.waveform_slot.wave_data slot) = data ∧
      b.on (Od.waveform_slot.wave_loaded slot) = 0 ∧
      ∀ i : Fin 12, 4 ≤ s.linkState (12 * (slot.val / 16) + i) → s.linkState (12 * (slot.val / 16) + i) ≤ 6 →
        let k := 12 * (slot.val / 16) + i.val
        (b.link k).waiting = (s.link k).waiting ++ [⟨(s.link k).ctlSeq, some (slot.val % 16), 0, 0, 0⟩]) ∧
  (∀ (t : Nat) (se : Fin 8) (req : Nat) (c : Fin 4) (reg answer : Nat) (s : State),
    s.takesWrite t se req (Od.camera_sensor.i2c_read_reg c) (.int reg) = true →
    ∃ (a u : State), exec (.i2cReadReg t se req c reg answer) s = .next u ∧ u = a.release.runReset ∧
      a.on (Od.camera_sensor.i2c_read_value c) =
        (if s.on (Od.camera_sensor.i2c_data_bytes c) = 1 then answer % 65536 % 256 else answer % 65536) ∧
      (∀ k, k ≠ Od.camera_sensor.i2c_read_value c → k ≠ Od.camera_sensor.i2c_read_reg c → a.ov k = s.ov k))

/-- The role chain (00_scope.md, R8): of OBS, OPR, ENG, SVC and VND (0 to 4, in that order) each role holds every right
of the roles before it, and no right of a role after it. -/
def Obligations.RoleChain : Prop :=
  ∀ held need : Fin 5, roleHolds held need = true ↔ need.val ≤ held.val

/-- Every step keeps the canonical forms of the object store and of the memory, from every state that has them: keys and
addresses rise strictly, and no memory cell holds what an unlisted address reads as. -/
def Obligations.StepKeepsCanonical : Prop :=
  ∀ s u : State, s.canonical → step s = .next u → u.canonical

/-- What no step ever takes back (05_object_dictionary.md, R181; 18_power.md, R660; 20_management.md, R720): the next
change number and the next journal number do not fall, the anti-rollback counter in the fuses does not fall, the clock
does not run back and no free value is drawn twice; and the queue loses at most its front. -/
def Obligations.NumbersNeverReturn : Prop :=
  ∀ s u : State, step s = .next u → s.log.nextNum ≤ u.log.nextNum ∧ s.jrn.next ≤ u.jrn.next ∧
    s.mgmt.fuses ≤ u.mgmt.fuses ∧ s.now ≤ u.now ∧ s.freeCtr ≤ u.freeCtr ∧ u.pending = s.pending.drop 1

/-- The frame of every command: a command leaves every part of the state unchanged that `mayChange` does not list for
it, and the queue of waiting commands too. -/
def Obligations.CommandsChangeOnlyTheirParts : Prop :=
  ∀ (c : Instr) (s u : State), exec c s = .next u →
    u.pending = s.pending ∧ ∀ p : Part, p ∉ mayChange c → p.same s u

/-- Every command completes: whatever its operands and whatever the state, it answers a next state. -/
def Obligations.EveryCommandCompletes : Prop :=
  ∀ (c : Instr) (s : State), ∃ u, exec c s = .next u

/-- Memory (09_memory.md, R346; the byte order of 00_scope.md, R4, belongs to what is stored): the bytes stored read
back, every byte outside them reads as before, and the store keeps the canonical form. -/
def Obligations.StoredBytesReadBack : Prop :=
  ∀ (s : State) (a : Nat) (bs : List Byte),
    (s.store a bs).load a bs.length = bs ∧
    (∀ b, b < a ∨ a + bs.length ≤ b → (s.store a bs).byteAt b = s.byteAt b) ∧
    (Memory.wf s.mem = true → Memory.wf (s.store a bs).mem = true)

/-- Serial arithmetic on `n` bits (00_scope.md, R760): a value is greater than another when the difference modulo 2^n
lies from 1 to 2^(n-1) - 1, less when it lies from 2^(n-1) + 1 to 2^n - 1, and values exactly 2^(n-1) apart are neither
greater nor less than each other. -/
def Obligations.SerialOrder : Prop :=
  ∀ (n a b : Nat), 1 ≤ n → a < 2 ^ n → b < 2 ^ n →
    (serialGt n a b = true ↔ 1 ≤ (a + 2 ^ n - b) % 2 ^ n ∧ (a + 2 ^ n - b) % 2 ^ n ≤ 2 ^ (n - 1) - 1) ∧
    (serialGt n b a = true ↔ 2 ^ (n - 1) + 1 ≤ (a + 2 ^ n - b) % 2 ^ n) ∧
    ((a + 2 ^ n - b) % 2 ^ n = 2 ^ (n - 1) → serialGt n a b = false ∧ serialGt n b a = false)

end
end

