-- ==== Sys2Proof/Laws/Lists.lean ====
section
/-! SUPPORT. The laws of the sorted key and value lists that hold the objects of the dictionary. -/

set_option Elab.async false

namespace Sys2Proof.Machine

/-- The keys rise strictly, so a list has one form for the values it holds. -/
def KeysRise {α : Type} (l : List (Nat × α)) : Prop := l.Pairwise (fun p q => p.1 < q.1)

theorem kvGet_kvSet_same {α : Type} (l : List (Nat × α)) (k : Nat) (v : α) : kvGet (kvSet l k v) k = some v := by
  induction l with
  | nil => simp [kvSet, kvGet]
  | cons p ps ih =>
    unfold kvSet
    split
    · simp [kvGet]
    · split
      · simp [kvGet]
      · rename_i h
        simp [kvGet, h, ih]

theorem kvGet_kvSet_ne {α : Type} (l : List (Nat × α)) {k j : Nat} (v : α) (h : j ≠ k) :
    kvGet (kvSet l k v) j = kvGet l j := by
  induction l with
  | nil => simp [kvSet, kvGet, h.symm]
  | cons p ps ih =>
    unfold kvSet
    split
    · simp [kvGet, h.symm]
    · split
      · rename_i e
        have e' : p.1 ≠ j := fun x => h (x.symm.trans e)
        simp [kvGet, e', h.symm]
      · simp only [kvGet, ih]

theorem kvSet_mem {α : Type} {l : List (Nat × α)} {k : Nat} {v : α} {q : Nat × α} (h : q ∈ kvSet l k v) :
    q = (k, v) ∨ q ∈ l := by
  induction l with
  | nil => simpa [kvSet] using h
  | cons p ps ih =>
    unfold kvSet at h
    split at h
    · simpa using h
    · split at h
      · rcases List.mem_cons.mp h with h | h
        · exact .inl h
        · exact .inr (List.mem_cons_of_mem _ h)
      · rcases List.mem_cons.mp h with h | h
        · exact .inr (h ▸ List.mem_cons_self)
        · rcases ih h with h | h
          · exact .inl h
          · exact .inr (List.mem_cons_of_mem _ h)

theorem KeysRise.nil {α : Type} : KeysRise ([] : List (Nat × α)) := List.Pairwise.nil

theorem KeysRise.kvSet {α : Type} {l : List (Nat × α)} (h : KeysRise l) (k : Nat) (v : α) :
    KeysRise (kvSet l k v) := by
  induction l with
  | nil => exact List.pairwise_singleton _ _
  | cons p ps ih =>
    have hp := List.pairwise_cons.mp h
    unfold Machine.kvSet
    split
    · rename_i hk
      refine List.pairwise_cons.mpr ⟨fun q hq => ?_, h⟩
      rcases List.mem_cons.mp hq with e | hq
      · exact e ▸ hk
      · exact Nat.lt_trans hk (hp.1 q hq)
    · split
      · rename_i e
        exact List.pairwise_cons.mpr ⟨fun q hq => e ▸ hp.1 q hq, hp.2⟩
      · rename_i hk hne
        refine List.pairwise_cons.mpr ⟨fun q hq => ?_, ih hp.2⟩
        rcases kvSet_mem hq with e | hq
        · rw [e]
          exact Nat.lt_of_le_of_ne (Nat.le_of_not_lt hk) hne
        · exact hp.1 q hq

theorem kvDel_sublist {α : Type} (l : List (Nat × α)) (k : Nat) : (kvDel l k).Sublist l := by
  induction l with
  | nil => exact List.Sublist.slnil
  | cons p ps ih =>
    unfold kvDel
    split
    · exact ih.cons p
    · exact ih.cons_cons p

theorem KeysRise.kvDel {α : Type} {l : List (Nat × α)} (h : KeysRise l) (k : Nat) : KeysRise (kvDel l k) :=
  h.sublist (kvDel_sublist l k)

theorem KeysRise.filter {α : Type} {l : List (Nat × α)} (h : KeysRise l) (f : Nat × α → Bool) :
    KeysRise (l.filter f) := h.sublist List.filter_sublist

end Sys2Proof.Machine
end

