-- ==== Sys2Proof/Laws/Memory.lean ====
section
/-! SUPPORT. The laws of memory: its canonical form in other words, that writes keep it, and what a read answers
after a write. -/

set_option Elab.async false

namespace Sys2Proof.Machine

/-- The canonical form as a property: addresses rise and no cell holds the unlisted value. -/
theorem memSorted_iff (lo : Nat) (cs : List Host.Cell) :
    memSorted lo cs = true ↔
      cs.Pairwise (fun c d => c.1 < d.1) ∧ ∀ c ∈ cs, lo ≤ c.1 ∧ c.2 ≠ memDefault := by
  induction cs generalizing lo with
  | nil => simp [memSorted]
  | cons c cs ih =>
    simp only [memSorted, Bool.and_eq_true, decide_eq_true_eq, ih, List.pairwise_cons, List.mem_cons]
    constructor
    · rintro ⟨⟨h1, h2⟩, h3, h4⟩
      refine ⟨⟨fun d hd => (h4 d hd).1, h3⟩, fun d hd => ?_⟩
      rcases hd with rfl | hd
      · exact ⟨h1, h2⟩
      · exact ⟨Nat.le_trans h1 (Nat.le_of_lt (h4 d hd).1), (h4 d hd).2⟩
    · rintro ⟨⟨h1, h2⟩, h3⟩
      exact ⟨h3 c (.inl rfl), h2, fun d hd => ⟨h1 d hd, (h3 d (.inr hd)).2⟩⟩

/-- A part of canonical cells is canonical. -/
theorem memSorted_filter {cs : List Host.Cell} (h : memSorted 0 cs = true) (f : Host.Cell → Bool) :
    memSorted 0 (cs.filter f) = true := by
  rw [memSorted_iff] at h ⊢
  exact ⟨h.1.filter f, fun c hc => h.2 c (List.mem_filter.mp hc).1⟩

theorem memCells_bounds {a : Nat} {bs : List Byte} {c : Host.Cell} (h : c ∈ memCells a bs) :
    a ≤ c.1 ∧ c.1 < a + bs.length := by
  induction bs generalizing a with
  | nil => simp [memCells] at h
  | cons b bs ih =>
    unfold memCells at h
    simp only [List.length_cons]
    split at h
    · have := ih h
      omega
    · rcases List.mem_cons.mp h with rfl | h
      · dsimp only
        omega
      · have := ih h
        omega

theorem memCells_canonical (a : Nat) (bs : List Byte) : memSorted a (memCells a bs) = true := by
  induction bs generalizing a with
  | nil => simp [memCells, memSorted]
  | cons b bs ih =>
    unfold memCells
    split
    · have := (memSorted_iff _ _).mp (ih (a + 1))
      exact (memSorted_iff _ _).mpr ⟨this.1, fun c hc => ⟨Nat.le_of_succ_le (this.2 c hc).1, (this.2 c hc).2⟩⟩
    · rename_i hb
      simp [memSorted, hb, ih (a + 1)]

/-- Writing keeps the canonical form. -/
theorem memPut_canonical {cs : List Host.Cell} (h : memSorted 0 cs = true) (a : Nat) (bs : List Byte) :
    memSorted 0 (memPut cs a bs) = true := by
  have hc := (memSorted_iff _ _).mp (memCells_canonical a bs)
  rw [memSorted_iff] at h ⊢
  unfold memPut
  constructor
  · refine List.pairwise_append.mpr ⟨List.pairwise_append.mpr ⟨h.1.filter _, hc.1, fun c h1 d h2 => ?_⟩,
      h.1.filter _, fun c h1 d h2 => ?_⟩
    · have := of_decide_eq_true (List.mem_filter.mp h1).2
      have := (memCells_bounds h2).1
      omega
    · have := of_decide_eq_true (List.mem_filter.mp h2).2
      rcases List.mem_append.mp h1 with h1 | h1
      · have := of_decide_eq_true (List.mem_filter.mp h1).2
        omega
      · have := (memCells_bounds h1).2
        omega
  · intro c h1
    rcases List.mem_append.mp h1 with h1 | h1
    · rcases List.mem_append.mp h1 with h1 | h1
      · exact h.2 c (List.mem_filter.mp h1).1
      · exact ⟨Nat.zero_le _, (hc.2 c h1).2⟩
    · exact h.2 c (List.mem_filter.mp h1).1

theorem memGet_append_of_not_mem {cs ds : List Host.Cell} {b : Nat} (h : ∀ c ∈ cs, c.1 ≠ b) :
    memGet (cs ++ ds) b = memGet ds b := by
  induction cs with
  | nil => rfl
  | cons c cs ih =>
    have h1 := h c List.mem_cons_self
    simp only [List.cons_append, memGet, h1, if_false]
    exact ih fun d hd => h d (List.mem_cons_of_mem _ hd)

theorem memGet_of_not_mem {cs : List Host.Cell} {b : Nat} (h : ∀ c ∈ cs, c.1 ≠ b) :
    memGet cs b = memDefault := by
  simpa [memGet] using memGet_append_of_not_mem (ds := []) h

theorem memGet_append_right {cs ds : List Host.Cell} {b : Nat} (h : ∀ c ∈ ds, c.1 ≠ b) :
    memGet (cs ++ ds) b = memGet cs b := by
  induction cs with
  | nil => simpa [memGet] using memGet_of_not_mem h
  | cons c cs ih => simp only [List.cons_append, memGet, ih]

theorem memGet_filter {cs : List Host.Cell} {f : Host.Cell → Bool} {b : Nat}
    (h : ∀ c ∈ cs, c.1 = b → f c = true) : memGet (cs.filter f) b = memGet cs b := by
  induction cs with
  | nil => rfl
  | cons c cs ih =>
    have ih := ih fun d hd => h d (List.mem_cons_of_mem _ hd)
    by_cases hc : f c = true
    · simp only [List.filter_cons_of_pos hc, memGet, ih]
    · have hn : c.1 ≠ b := fun e => hc (h c List.mem_cons_self e)
      simp only [List.filter_cons_of_neg hc, memGet, hn, if_false, ih]

theorem memGet_memCells {bs : List Byte} {a b : Nat} (h : a ≤ b) :
    memGet (memCells a bs) b = (bs[b - a]?).getD memDefault := by
  induction bs generalizing a with
  | nil => simp [memCells, memGet]
  | cons x bs ih =>
    unfold memCells
    by_cases e : a = b
    · subst e
      have hn : ∀ c ∈ memCells (a + 1) bs, c.1 ≠ a := fun c hc => by
        have := (memCells_bounds hc).1
        omega
      split
      · rename_i hx
        simp [memGet_of_not_mem hn, hx]
      · simp [memGet]
    · have hi := ih (a := a + 1) (by omega)
      have he : b - a = (b - (a + 1)) + 1 := by omega
      split
      · rw [hi, he, List.getElem?_cons_succ]
      · simp only [memGet, e, if_false]
        rw [hi, he, List.getElem?_cons_succ]

/-- A read of a byte after a write: the byte written, or what was there before. -/
theorem memGet_memPut (cs : List Host.Cell) (a : Nat) (bs : List Byte) (b : Nat) :
    memGet (memPut cs a bs) b =
      if a ≤ b ∧ b < a + bs.length then (bs[b - a]?).getD memDefault else memGet cs b := by
  unfold memPut
  split
  · rename_i h
    rw [memGet_append_right, memGet_append_of_not_mem, memGet_memCells h.1]
    · intro c hc
      have := of_decide_eq_true (List.mem_filter.mp hc).2
      omega
    · intro c hc
      have := of_decide_eq_true (List.mem_filter.mp hc).2
      omega
  · rename_i h
    by_cases h1 : b < a
    · rw [memGet_append_right, memGet_append_right, memGet_filter]
      · intro c _ e
        exact decide_eq_true (e ▸ h1)
      · intro c hc
        have := (memCells_bounds hc).1
        omega
      · intro c hc
        have := of_decide_eq_true (List.mem_filter.mp hc).2
        omega
    · rw [memGet_append_of_not_mem, memGet_filter]
      · intro c _ e
        refine decide_eq_true ?_
        omega
      · intro c hc
        rcases List.mem_append.mp hc with hc | hc
        · have := of_decide_eq_true (List.mem_filter.mp hc).2
          omega
        · have := (memCells_bounds hc).2
          omega

/-- A read of a byte of the device after a store. -/
theorem State.byteAt_store (s : State) (a : Nat) (bs : List Byte) (b : Nat) :
    (s.store a bs).byteAt b =
      if a ≤ b ∧ b < a + bs.length then (bs[b - a]?).getD memDefault else s.byteAt b :=
  memGet_memPut s.mem.cells a bs b

/-- A range read back as it was written. -/
theorem memRange_memPut_same (cs : List Host.Cell) (a : Nat) (bs : List Byte) :
    memRange (memPut cs a bs) a bs.length = bs := by
  have key : ∀ n k, k + n = bs.length → memRange (memPut cs a bs) (a + k) n = bs.drop k := by
    intro n
    induction n with
    | zero =>
      intro k h
      simp [memRange, List.drop_eq_nil_of_le (show bs.length ≤ k by omega)]
    | succ n ih =>
      intro k h
      have hk : k < bs.length := by omega
      have := ih (k + 1) (by omega)
      rw [memRange, show a + k + 1 = a + (k + 1) by omega, this, memGet_memPut, if_pos ⟨by omega, by omega⟩,
        List.drop_eq_getElem_cons hk]
      congr 1
      simp [show a + k - a = k by omega, hk]
  simpa using key bs.length 0 (by omega)

end Sys2Proof.Machine
end

