-- ==== Sys2Proof/Laws/Keeps.lean ====
section
/-! SUPPORT. What every operation of the model keeps: the queue of waiting commands, the order of time, of the
change numbers and of the free values, the sorted form of the object store and the canonical form of memory. -/

set_option Elab.async false

namespace Sys2Proof.Machine

/-- The object store in its canonical form: the keys of the values in force and of the durable values rise. -/
def OdSt.wf (o : OdSt) : Prop := KeysRise o.vals ∧ KeysRise o.flash

/-- What a state `b` made from a state `a` keeps. -/
structure Keeps (a b : State) : Prop where
  /-- the queue is the same -/
  queue : b.pending = a.pending
  /-- time does not run back -/
  now : a.now ≤ b.now
  /-- no free value is used twice -/
  freeCtr : a.freeCtr ≤ b.freeCtr
  /-- no change number is given twice -/
  nextNum : a.log.nextNum ≤ b.log.nextNum
  /-- the anti-rollback counter in fuses does not fall (R720) -/
  fuses : a.mgmt.fuses ≤ b.mgmt.fuses
  /-- no journal entry number is given twice -/
  jrn : a.jrn.next ≤ b.jrn.next
  /-- the object store stays canonical -/
  od : a.od.wf → b.od.wf
  /-- memory stays canonical -/
  mem : Memory.wf a.mem = true → Memory.wf b.mem = true

/-- An outcome whose next state, if it has one, keeps what `a` has. -/
def OutKeeps (a : State) (o : Host.Outcome State Fault Refusal) : Prop := ∀ u, o = .next u → Keeps a u

theorem Keeps.refl (a : State) : Keeps a a := ⟨rfl, Nat.le_refl _, Nat.le_refl _, Nat.le_refl _, Nat.le_refl _, Nat.le_refl _, id, id⟩

theorem Keeps.trans {a b c : State} (h1 : Keeps a b) (h2 : Keeps b c) : Keeps a c :=
  ⟨h2.queue.trans h1.queue, Nat.le_trans h1.now h2.now, Nat.le_trans h1.freeCtr h2.freeCtr,
    Nat.le_trans h1.nextNum h2.nextNum, Nat.le_trans h1.fuses h2.fuses, Nat.le_trans h1.jrn h2.jrn, fun w => h2.od (h1.od w), fun w => h2.mem (h1.mem w)⟩

theorem Keeps.same {a b c : State} (h1 : c.pending = b.pending) (h2 : c.now = b.now)
    (h3 : c.freeCtr = b.freeCtr) (h4 : c.log.nextNum = b.log.nextNum) (h5 : c.od.vals = b.od.vals)
    (h6 : c.od.flash = b.od.flash) (h7 : c.mem = b.mem) (h8 : c.mgmt.fuses = b.mgmt.fuses)
    (h9 : c.jrn.next = b.jrn.next) (h : Keeps a b) : Keeps a c :=
  ⟨h1.trans h.queue, h2 ▸ h.now, h3 ▸ h.freeCtr, h4 ▸ h.nextNum, h8 ▸ h.fuses, h9 ▸ h.jrn,
    fun w => ⟨h5 ▸ (h.od w).1, h6 ▸ (h.od w).2⟩, fun w => h7 ▸ h.mem w⟩

theorem Keeps.ite {a b c : State} {p : Prop} [Decidable p] (h1 : Keeps a b) (h2 : Keeps a c) :
    Keeps a (if p then b else c) := by split <;> assumption

theorem Keeps.dite {a : State} {p : Prop} [Decidable p] {b : p → State} {c : ¬p → State}
    (h1 : ∀ h, Keeps a (b h)) (h2 : ∀ h, Keeps a (c h)) : Keeps a (if h : p then b h else c h) := by
  split
  · exact h1 _
  · exact h2 _

theorem Keeps.foldl {a b : State} {β : Type} {f : State → β → State} {l : List β} (h : Keeps a b)
    (hf : ∀ x y, Keeps a x → Keeps a (f x y)) : Keeps a (l.foldl f b) := by
  induction l generalizing b with
  | nil => exact h
  | cons y l ih => exact ih (hf b y h)

theorem OutKeeps.ok {a b : State} (h : Keeps a b) : OutKeeps a (ok b) := by
  intro u hu
  injection hu with hu
  exact hu ▸ h

theorem OutKeeps.ite {a : State} {o p : Host.Outcome State Fault Refusal} {q : Prop} [Decidable q]
    (h1 : OutKeeps a o) (h2 : OutKeeps a p) : OutKeeps a (if q then o else p) := by split <;> assumption

end Sys2Proof.Machine
end

