-- ==== Sys2Proof/Laws/KeepsA.lean ====
section
/-! SUPPORT. What the operations of these files keep, by `Keeps`: Ops, Mem, Items, Results, Cams, Mould, Track,
Held, Channels, Island, Net, Lanes. -/

set_option Elab.async false

namespace Sys2Proof.Machine

theorem atTime_keeps {a s : State} {v1} (h : Keeps a s) :
    Keeps a (@State.atTime s v1) := by
  unfold State.atTime
  refine Keeps.trans (b := s) ?_ ⟨rfl, Nat.le_max_left _ _, Nat.le_refl _, Nat.le_refl _, Nat.le_refl _, Nat.le_refl _, id, id⟩
  assumption

theorem ok_keeps {a s : State} (h : Keeps a s) :
    OutKeeps a (@ok s) := by
  unfold ok
  exact OutKeeps.ok (by assumption)

theorem freeNext_keeps {a s : State} (h : Keeps a s) :
    Keeps a (@State.freeNext s) := by
  unfold State.freeNext
  refine Keeps.trans (b := s) ?_ ⟨rfl, Nat.le_refl _, Nat.le_add_right _ _, Nat.le_refl _, Nat.le_refl _, Nat.le_refl _, id, id⟩
  assumption

theorem setv_keeps {a s : State} {v1 v2} (h : Keeps a s) :
    Keeps a (@State.setv s v1 v2) := by
  unfold State.setv
  refine Keeps.trans (b := s) ?_ ⟨rfl, Nat.le_refl _, Nat.le_refl _, Nat.le_refl _, Nat.le_refl _, Nat.le_refl _, fun w => ⟨w.1.kvSet _ _, w.2⟩, id⟩
  assumption

theorem setn_keeps {a s : State} {v1 v2} (h : Keeps a s) :
    Keeps a (@State.setn s v1 v2) := by
  unfold State.setn
  exact setv_keeps (by assumption)

theorem setb_keeps {a s : State} {v1 v2} (h : Keeps a s) :
    Keeps a (@State.setb s v1 v2) := by
  unfold State.setb
  exact setv_keeps (by assumption)

theorem seti_keeps {a s : State} {v1 v2} (h : Keeps a s) :
    Keeps a (@State.seti s v1 v2) := by
  unfold State.seti
  exact setv_keeps (by assumption)

theorem bump_keeps {a s : State} {v1 v2 v3} (h : Keeps a s) :
    Keeps a (@State.bump s v1 v2 v3) := by
  unfold State.bump
  exact setn_keeps (by assumption)

theorem inc64_keeps {a s : State} {v1} (h : Keeps a s) :
    Keeps a (@State.inc64 s v1) := by
  unfold State.inc64
  exact bump_keeps (by assumption)

theorem event_keeps {a s : State} {v1 v2} (h : Keeps a s) :
    Keeps a (@State.event s v1 v2) := by
  unfold State.event
  extract_lets +onlyGivenNames x1
  clear_value x1
  extract_lets +onlyGivenNames x2
  clear_value x2
  refine Keeps.same (b := s) rfl rfl rfl rfl rfl rfl rfl rfl rfl ?_
  assumption

theorem program_keeps {a s : State} {v1} (h : Keeps a s) :
    Keeps a (@State.program s v1) := by
  unfold State.program
  refine Keeps.same (b := s) rfl rfl rfl rfl rfl rfl rfl rfl rfl ?_
  assumption

theorem logObj_keeps {a s : State} {v1 v2 v3 v4 v5 v6} (h : Keeps a s) :
    Keeps a (@State.logObj s v1 v2 v3 v4 v5 v6) := by
  unfold State.logObj
  split
  · assumption
  · extract_lets +onlyGivenNames x1
    clear_value x1
    extract_lets +onlyGivenNames x2
    clear_value x2
    extract_lets +onlyGivenNames x3
    clear_value x3
    extract_lets +onlyGivenNames x4
    extract_lets +onlyGivenNames x5
    have h5 : Keeps a x5 := by
      unfold x5
      refine Keeps.trans (b := s) ?_ ⟨rfl, Nat.le_refl _, Nat.le_refl _, Nat.le_add_right _ _, Nat.le_refl _, Nat.le_refl _, id, id⟩
      assumption
    clear_value x5
    refine Keeps.ite ?_ ?_
    · exact program_keeps (by assumption)
    · refine Keeps.same (b := x5) rfl rfl rfl rfl rfl rfl rfl rfl rfl ?_
      assumption

theorem inc32_keeps {a s : State} {v1} (h : Keeps a s) :
    Keeps a (@State.inc32 s v1) := by
  unfold State.inc32
  exact bump_keeps (by assumption)

theorem setSess_keeps {a s : State} {v1 v2} (h : Keeps a s) :
    Keeps a (@State.setSess s v1 v2) := by
  unfold State.setSess
  refine Keeps.same (b := s) rfl rfl rfl rfl rfl rfl rfl rfl rfl ?_
  assumption

theorem pump_keeps {a s : State} {v1} (h : Keeps a s) :
    Keeps a (@State.pump s v1) := by
  unfold State.pump
  extract_lets +onlyGivenNames x1
  clear_value x1
  refine Keeps.ite ?_ ?_
  · exact setSess_keeps (by assumption)
  · assumption

theorem modSess_keeps {a s : State} {v1 v2} (h : Keeps a s) :
    Keeps a (@State.modSess s v1 v2) := by
  unfold State.modSess
  exact setSess_keeps (by assumption)

theorem send_keeps {a s : State} {v1 v2 v3 v4} (h : Keeps a s) :
    Keeps a (@State.send s v1 v2 v3 v4) := by
  unfold State.send
  refine Keeps.ite ?_ ?_
  · exact pump_keeps (modSess_keeps (by assumption))
  · assumption

theorem sendIn_keeps {a s : State} {v1 v2 v3 v4 v5} (h : Keeps a s) :
    Keeps a (@State.sendIn s v1 v2 v3 v4 v5) := by
  unfold State.sendIn
  refine Keeps.ite ?_ ?_
  · exact send_keeps (by assumption)
  · assumption

theorem setDurable_keeps {a s : State} {v1 v2} (h : Keeps a s) :
    Keeps a (@State.setDurable s v1 v2) := by
  unfold State.setDurable
  extract_lets +onlyGivenNames x1
  have h1 : Keeps a x1 := by
    unfold x1
    exact setv_keeps (by assumption)
  clear_value x1
  refine Keeps.trans (b := x1) ?_ ⟨rfl, Nat.le_refl _, Nat.le_refl _, Nat.le_refl _, Nat.le_refl _, Nat.le_refl _, fun w => ⟨w.1, w.2.kvSet _ _⟩, id⟩
  assumption

theorem logKind_keeps {a s : State} {v1 v2 v3} (h : Keeps a s) :
    Keeps a (@State.logKind s v1 v2 v3) := by
  unfold State.logKind
  extract_lets +onlyGivenNames x1
  clear_value x1
  refine program_keeps ?_
  refine Keeps.trans (b := s) ?_ ⟨rfl, Nat.le_refl _, Nat.le_refl _, Nat.le_add_right _ _, Nat.le_refl _, Nat.le_refl _, id, id⟩
  assumption

theorem logFlash_keeps {a s : State} {v1} (h : Keeps a s) :
    Keeps a (@State.logFlash s v1) := by
  unfold State.logFlash
  extract_lets +onlyGivenNames x1
  clear_value x1
  extract_lets +onlyGivenNames x2
  clear_value x2
  extract_lets +onlyGivenNames x3
  extract_lets +onlyGivenNames x4
  have h4 : Keeps a x4 := by
    unfold x4
    refine Keeps.same (b := s) rfl rfl rfl rfl rfl rfl rfl rfl rfl ?_
    assumption
  clear_value x4
  refine Keeps.ite ?_ ?_
  · assumption
  · exact bump_keeps (by assumption)

theorem mirror_keeps {a s : State} (h : Keeps a s) :
    Keeps a (@State.mirror s) := by
  unfold State.mirror
  refine Keeps.ite ?_ ?_
  · refine Keeps.same (b := s) rfl rfl rfl rfl rfl rfl rfl rfl rfl ?_
    assumption
  · assumption

theorem answer_keeps {a s : State} {v1 v2 v3 v4} (h : Keeps a s) :
    Keeps a (@State.answer s v1 v2 v3 v4) := by
  unfold State.answer
  refine Keeps.ite ?_ ?_
  · extract_lets +onlyGivenNames x1
    have h1 : Keeps a x1 := by
      unfold x1
      exact mirror_keeps (by assumption)
    clear_value x1
    refine Keeps.same (b := x1) rfl rfl rfl rfl rfl rfl rfl rfl rfl ?_
    assumption
  · exact send_keeps (mirror_keeps (by assumption))

theorem renewReady_keeps {a s : State} (h : Keeps a s) :
    Keeps a (@State.renewReady s) := by
  unfold State.renewReady
  extract_lets +onlyGivenNames x1
  clear_value x1
  exact setb_keeps (by assumption)

theorem failBit_keeps {a s : State} {v1} (h : Keeps a s) :
    Keeps a (@State.failBit s v1) := by
  unfold State.failBit
  extract_lets +onlyGivenNames x1
  clear_value x1
  extract_lets +onlyGivenNames x2
  have h2 : Keeps a x2 := by
    unfold x2
    refine Keeps.same (b := s) rfl rfl rfl rfl rfl rfl rfl rfl rfl ?_
    assumption
  clear_value x2
  exact renewReady_keeps (setn_keeps (by assumption))

theorem testBit_keeps {a s : State} {v1 v2} (h : Keeps a s) :
    Keeps a (@State.testBit s v1 v2) := by
  unfold State.testBit
  refine Keeps.ite ?_ ?_
  · exact failBit_keeps (by assumption)
  · refine Keeps.ite ?_ ?_
    · assumption
    · extract_lets +onlyGivenNames x1
      clear_value x1
      extract_lets +onlyGivenNames x2
      clear_value x2
      extract_lets +onlyGivenNames x3
      clear_value x3
      extract_lets +onlyGivenNames x4
      have h4 : Keeps a x4 := by
        unfold x4
        refine Keeps.same (b := s) rfl rfl rfl rfl rfl rfl rfl rfl rfl ?_
        assumption
      clear_value x4
      refine Keeps.ite ?_ ?_
      · assumption
      · exact renewReady_keeps (setn_keeps (by assumption))

theorem logRecord_keeps {a s : State} {v1 v2 v3 v4} (h : Keeps a s) :
    Keeps a (@State.logRecord s v1 v2 v3 v4) := by
  unfold State.logRecord
  split
  · assumption
  · extract_lets +onlyGivenNames x1
    clear_value x1
    extract_lets +onlyGivenNames x2
    clear_value x2
    extract_lets +onlyGivenNames x3
    clear_value x3
    refine program_keeps ?_
    refine Keeps.trans (b := s) ?_ ⟨rfl, Nat.le_refl _, Nat.le_refl _, Nat.le_add_right _ _, Nat.le_refl _, Nat.le_refl _, id, id⟩
    assumption

theorem sendError_keeps {a s : State} {v1 v2 v3 v4} (h : Keeps a s) :
    Keeps a (@State.sendError s v1 v2 v3 v4) := by
  unfold State.sendError
  exact send_keeps (by assumption)

theorem store_keeps {a s : State} {v1 v2} (h : Keeps a s) :
    Keeps a (@State.store s v1 v2) := by
  unfold State.store
  refine Keeps.trans (b := s) ?_ ⟨rfl, Nat.le_refl _, Nat.le_refl _, Nat.le_refl _, Nat.le_refl _, Nat.le_refl _, id, fun w => memPut_canonical w _ _⟩
  assumption

theorem couchBad_keeps {a s : State} {v1 v2} (h : Keeps a s) :
    Keeps a (@State.couchBad s v1 v2) := by
  unfold State.couchBad
  exact setn_keeps (setn_keeps (inc32_keeps (by assumption)))

theorem journal_keeps {a s : State} {v1 v2} (h : Keeps a s) :
    Keeps a (@State.journal s v1 v2) := by
  unfold State.journal
  extract_lets +onlyGivenNames x1
  clear_value x1
  refine Keeps.trans (b := s) ?_ ⟨rfl, Nat.le_refl _, Nat.le_refl _, Nat.le_refl _, Nat.le_refl _, Nat.le_add_right _ _, id, id⟩
  assumption

theorem setItems_keeps {a s : State} {v1} (h : Keeps a s) :
    Keeps a (@State.setItems s v1) := by
  unfold State.setItems
  refine Keeps.same (b := s) rfl rfl rfl rfl rfl rfl rfl rfl rfl ?_
  assumption

theorem modItem_keeps {a s : State} {v1 v2} (h : Keeps a s) :
    Keeps a (@State.modItem s v1 v2) := by
  unfold State.modItem
  exact setItems_keeps (by assumption)

theorem recordVerdict_keeps {a s : State} {v1 v2} (h : Keeps a s) :
    Keeps a (@State.recordVerdict s v1 v2) := by
  unfold State.recordVerdict
  split
  · assumption
  · refine Keeps.ite ?_ ?_
    · assumption
    · extract_lets +onlyGivenNames x1
      clear_value x1
      exact event_keeps (journal_keeps (inc64_keeps (modItem_keeps (by assumption))))

theorem forceOldest_keeps {a s : State} (h : Keeps a s) :
    Keeps a (@State.forceOldest s) := by
  unfold State.forceOldest
  extract_lets +onlyGivenNames x1
  clear_value x1
  refine Keeps.ite ?_ ?_
  · split
    · exact inc32_keeps (recordVerdict_keeps (by assumption))
    · assumption
  · assumption

theorem afterClose_keeps {a s : State} {v1} (h : Keeps a s) :
    Keeps a (@State.afterClose s v1) := by
  unfold State.afterClose
  refine Keeps.ite ?_ ?_
  · exact recordVerdict_keeps (by assumption)
  · exact forceOldest_keeps (by assumption)

theorem dispose_keeps {a s : State} {v1 v2 v3} (h : Keeps a s) :
    Keeps a (@State.dispose s v1 v2 v3) := by
  unfold State.dispose
  split
  · assumption
  · split
    · refine Keeps.ite ?_ ?_
      · assumption
      · extract_lets +onlyGivenNames x1
        clear_value x1
        extract_lets +onlyGivenNames x2
        clear_value x2
        extract_lets +onlyGivenNames x3
        clear_value x3
        exact afterClose_keeps (event_keeps (journal_keeps (inc64_keeps (modItem_keeps (by assumption)))))
    · refine Keeps.ite ?_ ?_
      · extract_lets +onlyGivenNames x4
        clear_value x4
        extract_lets +onlyGivenNames x5
        clear_value x5
        extract_lets +onlyGivenNames x6
        have h6 : Keeps a x6 := by
          unfold x6
          exact setn_keeps (modItem_keeps (by assumption))
        clear_value x6
        exact event_keeps (journal_keeps (inc64_keeps (by assumption)))
      · assumption

theorem disposeAll_keeps {a s : State} {v1 v2 v3} (h : Keeps a s) :
    Keeps a (@State.disposeAll s v1 v2 v3) := by
  unfold State.disposeAll
  refine Keeps.foldl ?_ (fun y1 z1 h1 => ?_)
  · assumption
  · exact dispose_keeps (by assumption)

theorem drainAll_keeps {a s : State} (h : Keeps a s) :
    Keeps a (@State.drainAll s) := by
  unfold State.drainAll
  exact setItems_keeps (by assumption)

theorem endWindow_keeps {a s : State} {v1} (h : Keeps a s) :
    Keeps a (@State.endWindow s v1) := by
  unfold State.endWindow
  exact dispose_keeps (by assumption)

theorem drain_keeps {a s : State} {v1} (h : Keeps a s) :
    Keeps a (@State.drain s v1) := by
  unfold State.drain
  split
  · refine Keeps.ite ?_ ?_
    · exact modItem_keeps (by assumption)
    · assumption
  · assumption

theorem addResult_keeps {a s : State} {v1} (h : Keeps a s) :
    Keeps a (@State.addResult s v1) := by
  unfold State.addResult
  refine Keeps.same (b := s) rfl rfl rfl rfl rfl rfl rfl rfl rfl ?_
  assumption

theorem countResult_keeps {a s : State} {v1 v2} (h : Keeps a s) :
    Keeps a (@State.countResult s v1 v2) := by
  unfold State.countResult
  refine Keeps.ite ?_ ?_
  · exact inc64_keeps (by assumption)
  · refine Keeps.ite ?_ ?_
    · exact setn_keeps (setn_keeps (inc64_keeps (by assumption)))
    · exact inc64_keeps (by assumption)

theorem camResult_keeps {a s : State} {v1 v2 v3} (h : Keeps a s) :
    Keeps a (@State.camResult s v1 v2 v3) := by
  unfold State.camResult
  split
  · exact inc32_keeps (by assumption)
  · refine Keeps.ite ?_ ?_
    · exact inc32_keeps (by assumption)
    · refine Keeps.ite ?_ ?_
      · assumption
      · extract_lets +onlyGivenNames x1
        clear_value x1
        extract_lets +onlyGivenNames x2
        have h2 : Keeps a x2 := by
          unfold x2
          exact addResult_keeps (by assumption)
        clear_value x2
        extract_lets +onlyGivenNames x3
        have h3 : Keeps a x3 := by
          unfold x3
          exact countResult_keeps (by assumption)
        clear_value x3
        extract_lets +onlyGivenNames x4
        have h4 : Keeps a x4 := by
          unfold x4
          refine Keeps.ite ?_ ?_
          · exact event_keeps (by assumption)
          · assumption
        clear_value x4
        split
        · exact recordVerdict_keeps (by assumption)
        · assumption

theorem setCam_keeps {a s : State} {v1 v2} (h : Keeps a s) :
    Keeps a (@State.setCam s v1 v2) := by
  unfold State.setCam
  refine Keeps.same (b := s) rfl rfl rfl rfl rfl rfl rfl rfl rfl ?_
  assumption

theorem archCounts_keeps {a s : State} (h : Keeps a s) :
    Keeps a (@State.archCounts s) := by
  unfold State.archCounts
  exact setn_keeps (setn_keeps (by assumption))

theorem archStore_keeps {a s : State} {v1 v2} (h : Keeps a s) :
    Keeps a (@State.archStore s v1 v2) := by
  unfold State.archStore
  extract_lets +onlyGivenNames x1
  clear_value x1
  extract_lets +onlyGivenNames x2
  clear_value x2
  extract_lets +onlyGivenNames x3
  clear_value x3
  extract_lets +onlyGivenNames x4
  refine Keeps.ite ?_ ?_
  · dsimp only [x4]
    refine archCounts_keeps ?_
    refine Keeps.same (b := s) rfl rfl rfl rfl rfl rfl rfl rfl rfl ?_
    assumption
  · refine Keeps.ite ?_ ?_
    · extract_lets +onlyGivenNames x5
      clear_value x5
      refine bump_keeps ?_
      dsimp only [x4]
      refine archCounts_keeps ?_
      refine Keeps.same (b := s) rfl rfl rfl rfl rfl rfl rfl rfl rfl ?_
      assumption
    · exact inc32_keeps (by assumption)

theorem archPart_keeps {a s : State} {v1 v2} (h : Keeps a s) :
    Keeps a (@State.archPart s v1 v2) := by
  unfold State.archPart
  split
  · assumption
  · extract_lets +onlyGivenNames x1
    clear_value x1
    extract_lets +onlyGivenNames x2
    clear_value x2
    refine Keeps.ite ?_ ?_
    · extract_lets +onlyGivenNames x3
      clear_value x3
      extract_lets +onlyGivenNames x4
      have h4 : Keeps a x4 := by
        unfold x4
        refine Keeps.same (b := s) rfl rfl rfl rfl rfl rfl rfl rfl rfl ?_
        assumption
      clear_value x4
      extract_lets +onlyGivenNames x5
      clear_value x5
      refine Keeps.ite ?_ ?_
      · exact archStore_keeps (by assumption)
      · assumption
    · refine Keeps.same (b := s) rfl rfl rfl rfl rfl rfl rfl rfl rfl ?_
      assumption

theorem archLost_keeps {a s : State} {v1 v2 v3 v4} (h : Keeps a s) :
    Keeps a (@State.archLost s v1 v2 v3 v4) := by
  unfold State.archLost
  extract_lets +onlyGivenNames x1
  clear_value x1
  exact archPart_keeps (by assumption)

theorem barUnseen_keeps {a s : State} {v1 v2} (h : Keeps a s) :
    Keeps a (@State.barUnseen s v1 v2) := by
  unfold State.barUnseen
  split
  · assumption
  · extract_lets +onlyGivenNames x1
    clear_value x1
    extract_lets +onlyGivenNames x2
    clear_value x2
    extract_lets +onlyGivenNames x3
    have h3 : Keeps a x3 := by
      unfold x3
      exact inc32_keeps (by assumption)
    clear_value x3
    extract_lets +onlyGivenNames x4
    clear_value x4
    refine Keeps.same (b := x3) rfl rfl rfl rfl rfl rfl rfl rfl rfl ?_
    assumption

theorem loseTrigger_keeps {a s : State} {v1 v2} (h : Keeps a s) :
    Keeps a (@State.loseTrigger s v1 v2) := by
  unfold State.loseTrigger
  extract_lets +onlyGivenNames x1
  have h1 : Keeps a x1 := by
    unfold x1
    exact inc32_keeps (by assumption)
  clear_value x1
  extract_lets +onlyGivenNames x2
  clear_value x2
  extract_lets +onlyGivenNames x3
  have h3 : Keeps a x3 := by
    unfold x3
    exact setCam_keeps (by assumption)
  clear_value x3
  refine Keeps.ite ?_ ?_
  · exact archLost_keeps (camResult_keeps (by assumption))
  · exact barUnseen_keeps (by assumption)

theorem queueFrame_keeps {a s : State} {v1 v2} (h : Keeps a s) :
    Keeps a (@State.queueFrame s v1 v2) := by
  unfold State.queueFrame
  extract_lets +onlyGivenNames x1
  clear_value x1
  extract_lets +onlyGivenNames x2
  clear_value x2
  extract_lets +onlyGivenNames x3
  have h3 : Keeps a x3 := by
    unfold x3
    exact setCam_keeps (by assumption)
  clear_value x3
  refine Keeps.foldl ?_ (fun y4 z4 h4 => ?_)
  · assumption
  · exact loseTrigger_keeps (by assumption)

theorem freeVersions_keeps {a s : State} (h : Keeps a s) :
    Keeps a (@State.freeVersions s) := by
  unfold State.freeVersions
  extract_lets +onlyGivenNames x1
  clear_value x1
  extract_lets +onlyGivenNames x2
  clear_value x2
  refine Keeps.same (b := s) rfl rfl rfl rfl rfl rfl rfl rfl rfl ?_
  assumption

theorem deleteRes_keeps {a s : State} {v1 v2} (h : Keeps a s) :
    Keeps a (@State.deleteRes s v1 v2) := by
  unfold State.deleteRes
  extract_lets +onlyGivenNames x1
  clear_value x1
  extract_lets +onlyGivenNames x2
  clear_value x2
  extract_lets +onlyGivenNames x3
  clear_value x3
  refine freeVersions_keeps ?_
  refine Keeps.same (b := s) rfl rfl rfl rfl rfl rfl rfl rfl rfl ?_
  assumption

theorem commitRes_keeps {a s : State} {v1 v2 v3 v4} (h : Keeps a s) :
    Keeps a (@State.commitRes s v1 v2 v3 v4).1 := by
  unfold State.commitRes
  split
  · dsimp only
    exact setn_keeps (setn_keeps (by assumption))
  · extract_lets +onlyGivenNames x1
    clear_value x1
    extract_lets +onlyGivenNames x2
    clear_value x2
    extract_lets +onlyGivenNames x3
    clear_value x3
    extract_lets +onlyGivenNames x4
    clear_value x4
    extract_lets +onlyGivenNames x5
    have h5 : Keeps a x5 := by
      unfold x5
      refine Keeps.same (b := s) rfl rfl rfl rfl rfl rfl rfl rfl rfl ?_
      assumption
    clear_value x5
    dsimp only
    exact freeVersions_keeps (setn_keeps (setn_keeps (by assumption)))

theorem setWeb_keeps {a s : State} {v1} (h : Keeps a s) :
    Keeps a (@State.setWeb s v1) := by
  unfold State.setWeb
  refine Keeps.same (b := s) rfl rfl rfl rfl rfl rfl rfl rfl rfl ?_
  assumption

theorem moveX_keeps {a s : State} (h : Keeps a s) :
    Keeps a (@State.moveX s) := by
  unfold State.moveX
  extract_lets +onlyGivenNames x1
  clear_value x1
  extract_lets +onlyGivenNames x2
  clear_value x2
  extract_lets +onlyGivenNames x3
  clear_value x3
  extract_lets +onlyGivenNames x4
  clear_value x4
  exact setWeb_keeps (by assumption)

theorem setEnc_keeps {a s : State} {v1 v2} (h : Keeps a s) :
    Keeps a (@State.setEnc s v1 v2) := by
  unfold State.setEnc
  exact setWeb_keeps (by assumption)

theorem setGrid_keeps {a s : State} {v1 v2} (h : Keeps a s) :
    Keeps a (@State.setGrid s v1 v2) := by
  unfold State.setGrid
  refine Keeps.ite ?_ ?_
  · exact setWeb_keeps (by assumption)
  · exact setWeb_keeps (by assumption)

theorem webEvent_keeps {a s : State} {v1 v2} (h : Keeps a s) :
    Keeps a (@State.webEvent s v1 v2) := by
  unfold State.webEvent
  exact event_keeps (by assumption)

theorem advise_keeps {a s : State} (h : Keeps a s) :
    Keeps a (@State.advise s) := by
  unfold State.advise
  extract_lets +onlyGivenNames x1
  clear_value x1
  extract_lets +onlyGivenNames x2
  have h2 : Keeps a x2 := by
    unfold x2
    exact setn_keeps (by assumption)
  clear_value x2
  refine Keeps.ite ?_ ?_
  · exact webEvent_keeps (inc32_keeps (setWeb_keeps (by assumption)))
  · assumption

theorem enter_keeps {a s : State} {v1} (h : Keeps a s) :
    Keeps a (@State.enter s v1) := by
  unfold State.enter
  extract_lets +onlyGivenNames x1
  clear_value x1
  extract_lets +onlyGivenNames x2
  clear_value x2
  extract_lets +onlyGivenNames x3
  have h3 : Keeps a x3 := by
    unfold x3
    refine Keeps.ite ?_ ?_
    · assumption
    · exact setWeb_keeps (by assumption)
  clear_value x3
  exact advise_keeps (setn_keeps (setn_keeps (by assumption)))

theorem setReason_keeps {a s : State} {v1 v2} (h : Keeps a s) :
    Keeps a (@State.setReason s v1 v2) := by
  unfold State.setReason
  exact advise_keeps (setn_keeps (by assumption))

theorem loseTrack_keeps {a s : State} (h : Keeps a s) :
    Keeps a (@State.loseTrack s) := by
  unfold State.loseTrack
  extract_lets +onlyGivenNames x1
  clear_value x1
  extract_lets +onlyGivenNames x2
  have h2 : Keeps a x2 := by
    unfold x2
    exact setWeb_keeps (by assumption)
  clear_value x2
  exact drainAll_keeps (disposeAll_keeps (webEvent_keeps (enter_keeps (by assumption))))

theorem follow_keeps {a s : State} {v1} (h : Keeps a s) :
    Keeps a (@State.follow s v1) := by
  unfold State.follow
  exact setWeb_keeps (by assumption)

theorem coast_keeps {a s : State} (h : Keeps a s) :
    Keeps a (@State.coast s) := by
  unfold State.coast
  extract_lets +onlyGivenNames x1
  have h1 : Keeps a x1 := by
    unfold x1
    exact inc32_keeps (enter_keeps (by assumption))
  clear_value x1
  extract_lets +onlyGivenNames x2
  clear_value x2
  extract_lets +onlyGivenNames x3
  have h3 : Keeps a x3 := by
    unfold x3
    exact setWeb_keeps (by assumption)
  clear_value x3
  extract_lets +onlyGivenNames x4
  have h4 : Keeps a x4 := by
    unfold x4
    exact setItems_keeps (by assumption)
  clear_value x4
  exact webEvent_keeps (follow_keeps (by assumption))

theorem standstill_keeps {a s : State} (h : Keeps a s) :
    Keeps a (@State.standstill s) := by
  unfold State.standstill
  exact enter_keeps (setWeb_keeps (by assumption))

theorem jumpX_keeps {a s : State} {v1} (h : Keeps a s) :
    Keeps a (@State.jumpX s v1) := by
  unfold State.jumpX
  extract_lets +onlyGivenNames x1
  clear_value x1
  exact setWeb_keeps (by assumption)

theorem trackFault_keeps {a s : State} (h : Keeps a s) :
    Keeps a (@State.trackFault s) := by
  unfold State.trackFault
  extract_lets +onlyGivenNames x1
  clear_value x1
  extract_lets +onlyGivenNames x2
  clear_value x2
  refine Keeps.ite ?_ ?_
  · exact loseTrack_keeps (by assumption)
  · refine Keeps.ite ?_ ?_
    · refine Keeps.ite ?_ ?_
      · exact loseTrack_keeps (by assumption)
      · exact coast_keeps (by assumption)
    · refine Keeps.ite ?_ ?_
      · exact setWeb_keeps (by assumption)
      · refine Keeps.ite ?_ ?_
        · exact setWeb_keeps (by assumption)
        · assumption

theorem reverse_keeps {a s : State} (h : Keeps a s) :
    Keeps a (@State.reverse s) := by
  unfold State.reverse
  exact disposeAll_keeps (webEvent_keeps (inc32_keeps (enter_keeps (by assumption))))

theorem integAnswer_keeps {a s : State} {v1 v2} (h : Keeps a s) :
    Keeps a (@State.integAnswer s v1 v2) := by
  unfold State.integAnswer
  extract_lets +onlyGivenNames x1
  clear_value x1
  refine Keeps.same (b := s) rfl rfl rfl rfl rfl rfl rfl rfl rfl ?_
  assumption

theorem reply_keeps {a s : State} {v1 v2} (h : Keeps a s) :
    Keeps a (@State.reply s v1 v2) := by
  unfold State.reply
  split
  · assumption
  · refine Keeps.same (b := s) rfl rfl rfl rfl rfl rfl rfl rfl rfl ?_
    assumption
  · refine Keeps.ite ?_ ?_
    · refine Keeps.ite ?_ ?_
      · exact answer_keeps (by assumption)
      · exact send_keeps (by assumption)
    · assumption
  · refine Keeps.ite ?_ ?_
    · extract_lets +onlyGivenNames x1
      clear_value x1
      refine Keeps.ite ?_ ?_
      · exact answer_keeps (by assumption)
      · exact send_keeps (by assumption)
    · assumption
  · exact integAnswer_keeps (by assumption)

theorem release_keeps {a s : State} (h : Keeps a s) :
    Keeps a (@State.release s) := by
  unfold State.release
  extract_lets +onlyGivenNames x1
  clear_value x1
  extract_lets +onlyGivenNames x2
  extract_lets +onlyGivenNames x3
  have h3 : Keeps a x3 := by
    unfold x3
    refine Keeps.same (b := s) rfl rfl rfl rfl rfl rfl rfl rfl rfl ?_
    assumption
  clear_value x3
  refine Keeps.foldl ?_ (fun y4 z4 h4 => ?_)
  · assumption
  · extract_lets +onlyGivenNames x5
    have h5 : Keeps a x5 := by
      unfold x5
      exact reply_keeps (by assumption)
    clear_value x5
    refine Keeps.ite ?_ ?_
    · refine Keeps.same (b := x5) rfl rfl rfl rfl rfl rfl rfl rfl rfl ?_
      assumption
    · assumption

theorem applyLine_keeps {a s : State} {v1} (h : Keeps a s) :
    Keeps a (@State.applyLine s v1) := by
  unfold State.applyLine
  extract_lets +onlyGivenNames x1
  clear_value x1
  refine Keeps.ite ?_ ?_
  · assumption
  · extract_lets +onlyGivenNames x2
    clear_value x2
    extract_lets +onlyGivenNames x3
    extract_lets +onlyGivenNames x4
    have h4 : Keeps a x4 := by
      unfold x4
      refine Keeps.same (b := s) rfl rfl rfl rfl rfl rfl rfl rfl rfl ?_
      assumption
    clear_value x4
    extract_lets +onlyGivenNames x5
    have h5 : Keeps a x5 := by
      unfold x5
      refine Keeps.foldl ?_ (fun y6 z6 h6 => ?_)
      · assumption
      · refine Keeps.ite ?_ ?_
        · assumption
        · exact setv_keeps (by assumption)
    clear_value x5
    extract_lets +onlyGivenNames x7
    extract_lets +onlyGivenNames x8
    have h8 : Keeps a x8 := by
      unfold x8
      refine Keeps.same (b := x5) rfl rfl rfl rfl rfl rfl rfl rfl rfl ?_
      assumption
    clear_value x8
    exact release_keeps (by assumption)

theorem modHeld_keeps {a s : State} {v1 v2} (h : Keeps a s) :
    Keeps a (@State.modHeld s v1 v2) := by
  unfold State.modHeld
  refine Keeps.same (b := s) rfl rfl rfl rfl rfl rfl rfl rfl rfl ?_
  assumption

theorem setInsp_keeps {a s : State} {v1} (h : Keeps a s) :
    Keeps a (@State.setInsp s v1) := by
  unfold State.setInsp
  refine Keeps.same (b := s) rfl rfl rfl rfl rfl rfl rfl rfl rfl ?_
  assumption

theorem setEntry_keeps {a s : State} {v1 v2 v3} (h : Keeps a s) :
    Keeps a (@State.setEntry s v1 v2 v3) := by
  unfold State.setEntry
  extract_lets +onlyGivenNames x1
  clear_value x1
  exact setInsp_keeps (by assumption)

theorem setFire_keeps {a s : State} {v1} (h : Keeps a s) :
    Keeps a (@State.setFire s v1) := by
  unfold State.setFire
  refine Keeps.same (b := s) rfl rfl rfl rfl rfl rfl rfl rfl rfl ?_
  assumption

theorem setLink_keeps {a s : State} {v1 v2} (h : Keeps a s) :
    Keeps a (@State.setLink s v1 v2) := by
  unfold State.setLink
  exact setFire_keeps (by assumption)

theorem countMap_keeps {a s : State} {v1} (h : Keeps a s) :
    Keeps a (@State.countMap s v1) := by
  unfold State.countMap
  extract_lets +onlyGivenNames x1
  clear_value x1
  extract_lets +onlyGivenNames x2
  clear_value x2
  extract_lets +onlyGivenNames x3
  have h3 : Keeps a x3 := by
    unfold x3
    exact setn_keeps (by assumption)
  clear_value x3
  extract_lets +onlyGivenNames x4
  have h4 : Keeps a x4 := by
    unfold x4
    exact setn_keeps (by assumption)
  clear_value x4
  exact setn_keeps (by assumption)

theorem switchGroup_keeps {a s : State} {v1 v2} (h : Keeps a s) :
    Keeps a (@State.switchGroup s v1 v2) := by
  unfold State.switchGroup
  extract_lets +onlyGivenNames x1
  clear_value x1
  extract_lets +onlyGivenNames x2
  clear_value x2
  extract_lets +onlyGivenNames x3
  clear_value x3
  extract_lets +onlyGivenNames x4
  clear_value x4
  extract_lets +onlyGivenNames x5
  have h5 : Keeps a x5 := by
    unfold x5
    exact setInsp_keeps (by assumption)
  clear_value x5
  extract_lets +onlyGivenNames x6
  have h6 : Keeps a x6 := by
    unfold x6
    refine Keeps.foldl ?_ (fun y7 z7 h7 => ?_)
    · assumption
    · exact setEntry_keeps (by assumption)
  clear_value x6
  extract_lets +onlyGivenNames x8
  have h8 : Keeps a x8 := by
    unfold x8
    refine Keeps.foldl ?_ (fun y9 z9 h9 => ?_)
    · assumption
    · exact setLink_keeps (by assumption)
  clear_value x8
  extract_lets +onlyGivenNames x10
  have h10 : Keeps a x10 := by
    unfold x10
    refine Keeps.ite ?_ ?_
    · exact setn_keeps (by assumption)
    · assumption
  clear_value x10
  extract_lets +onlyGivenNames x11
  have h11 : Keeps a x11 := by
    unfold x11
    exact seti_keeps (inc64_keeps (by assumption))
  clear_value x11
  extract_lets +onlyGivenNames x12
  have h12 : Keeps a x12 := by
    unfold x12
    exact setn_keeps (by assumption)
  clear_value x12
  extract_lets +onlyGivenNames x13
  have h13 : Keeps a x13 := by
    unfold x13
    exact setn_keeps (by assumption)
  clear_value x13
  extract_lets +onlyGivenNames x14
  have h14 : Keeps a x14 := by
    unfold x14
    split
    · refine Keeps.ite ?_ ?_
      · exact setn_keeps (by assumption)
      · assumption
    · assumption
  clear_value x14
  extract_lets +onlyGivenNames x15
  have h15 : Keeps a x15 := by
    unfold x15
    exact countMap_keeps (setn_keeps (by assumption))
  clear_value x15
  refine Keeps.ite ?_ ?_
  · exact event_keeps (by assumption)
  · assumption

theorem modAcc_keeps {a s : State} {v1 v2} (h : Keeps a s) :
    Keeps a (@State.modAcc s v1 v2) := by
  unfold State.modAcc
  exact setFire_keeps (by assumption)

theorem modNozzle_keeps {a s : State} {v1 v2} (h : Keeps a s) :
    Keeps a (@State.modNozzle s v1 v2) := by
  unfold State.modNozzle
  exact setFire_keeps (by assumption)

theorem spitDrop_keeps {a s : State} {v1 v2 v3 v4} (h : Keeps a s) :
    Keeps a (@State.spitDrop s v1 v2 v3 v4) := by
  unfold State.spitDrop
  exact modAcc_keeps (modNozzle_keeps (by assumption))

theorem setChan_keeps {a s : State} {v1 v2 v3} (h : Keeps a s) :
    Keeps a (@State.setChan s v1 v2 v3) := by
  unfold State.setChan
  exact setn_keeps (setn_keeps (by assumption))

theorem refreshPlane_keeps {a s : State} {v1} (h : Keeps a s) :
    Keeps a (@State.refreshPlane s v1) := by
  unfold State.refreshPlane
  extract_lets +onlyGivenNames x1
  clear_value x1
  extract_lets +onlyGivenNames x2
  clear_value x2
  extract_lets +onlyGivenNames x3
  have h3 : Keeps a x3 := by
    unfold x3
    exact setn_keeps (setn_keeps (by assumption))
  clear_value x3
  extract_lets +onlyGivenNames x4
  clear_value x4
  exact setn_keeps (by assumption)

theorem chargeItem_keeps {a s : State} {v1 v2 v3} (h : Keeps a s) :
    Keeps a (@State.chargeItem s v1 v2 v3) := by
  unfold State.chargeItem
  split
  · assumption
  · refine Keeps.ite ?_ ?_
    · assumption
    · extract_lets +onlyGivenNames x1
      clear_value x1
      extract_lets +onlyGivenNames x2
      clear_value x2
      exact modItem_keeps (by assumption)

theorem refreshLimits_keeps {a s : State} {v1} (h : Keeps a s) :
    Keeps a (@State.refreshLimits s v1) := by
  unfold State.refreshLimits
  extract_lets +onlyGivenNames x1
  clear_value x1
  extract_lets +onlyGivenNames x2
  clear_value x2
  extract_lets +onlyGivenNames x3
  clear_value x3
  exact setn_keeps (setn_keeps (by assumption))

theorem setLinkState_keeps {a s : State} {v1 v2 v3} (h : Keeps a s) :
    Keeps a (@State.setLinkState s v1 v2 v3) := by
  unfold State.setLinkState
  extract_lets +onlyGivenNames x1
  have h1 : Keeps a x1 := by
    unfold x1
    refine Keeps.foldl ?_ (fun y2 z2 h2 => ?_)
    · assumption
    · refine Keeps.ite ?_ ?_
      · exact setChan_keeps (by assumption)
      · exact setChan_keeps (by assumption)
  clear_value x1
  extract_lets +onlyGivenNames x3
  have h3 : Keeps a x3 := by
    unfold x3
    exact setn_keeps (by assumption)
  clear_value x3
  extract_lets +onlyGivenNames x4
  have h4 : Keeps a x4 := by
    unfold x4
    refine Keeps.ite ?_ ?_
    · exact inc32_keeps (by assumption)
    · assumption
  clear_value x4
  exact refreshPlane_keeps (refreshLimits_keeps (by assumption))

theorem writeTrims_keeps {a s : State} {v1} (h : Keeps a s) :
    Keeps a (@State.writeTrims s v1) := by
  unfold State.writeTrims
  extract_lets +onlyGivenNames x1
  clear_value x1
  refine Keeps.ite ?_ ?_
  · assumption
  · extract_lets +onlyGivenNames x2
    clear_value x2
    extract_lets +onlyGivenNames x3
    clear_value x3
    exact setLink_keeps (by assumption)

theorem sendTrims_keeps {a s : State} (h : Keeps a s) :
    Keeps a (@State.sendTrims s) := by
  unfold State.sendTrims
  refine Keeps.foldl ?_ (fun y1 z1 h1 => ?_)
  · assumption
  · split
    · assumption
    · refine Keeps.ite ?_ ?_
      · assumption
      · extract_lets +onlyGivenNames x2
        clear_value x2
        extract_lets +onlyGivenNames x3
        have h3 : Keeps a x3 := by
          unfold x3
          refine Keeps.foldl ?_ (fun y4 z4 h4 => ?_)
          · assumption
          · exact writeTrims_keeps (by assumption)
        clear_value x3
        extract_lets +onlyGivenNames x5
        clear_value x5
        extract_lets +onlyGivenNames x6
        clear_value x6
        exact setInsp_keeps (by assumption)

theorem switchNow_keeps {a s : State} {v1} (h : Keeps a s) :
    Keeps a (@State.switchNow s v1) := by
  unfold State.switchNow
  extract_lets +onlyGivenNames x1
  clear_value x1
  refine Keeps.foldl ?_ (fun y2 z2 h2 => ?_)
  · assumption
  · exact switchGroup_keeps (by assumption)

theorem fireDrop_keeps {a s : State} {v1 v2 v3 v4} (h : Keeps a s) :
    Keeps a (@State.fireDrop s v1 v2 v3 v4) := by
  unfold State.fireDrop
  exact modAcc_keeps (modNozzle_keeps (by assumption))

theorem suppressDrop_keeps {a s : State} {v1 v2 v3} (h : Keeps a s) :
    Keeps a (@State.suppressDrop s v1 v2 v3) := by
  unfold State.suppressDrop
  exact modAcc_keeps (modNozzle_keeps (by assumption))

theorem suppressAll_keeps {a s : State} {v1 v2 v3 v4} (h : Keeps a s) :
    Keeps a (@State.suppressAll s v1 v2 v3 v4) := by
  unfold State.suppressAll
  extract_lets +onlyGivenNames x1
  have h1 : Keeps a x1 := by
    unfold x1
    refine Keeps.foldl ?_ (fun y2 z2 h2 => ?_)
    · assumption
    · exact suppressDrop_keeps (by assumption)
  clear_value x1
  refine Keeps.foldl ?_ (fun y3 z3 h3 => ?_)
  · assumption
  · exact chargeItem_keeps (by assumption)

theorem chanEvent_keeps {a s : State} {v1} (h : Keeps a s) :
    Keeps a (@State.chanEvent s v1) := by
  unfold State.chanEvent
  exact event_keeps (by assumption)

theorem linkEvent_keeps {a s : State} {v1} (h : Keeps a s) :
    Keeps a (@State.linkEvent s v1) := by
  unfold State.linkEvent
  refine Keeps.foldl ?_ (fun y1 z1 h1 => ?_)
  · assumption
  · exact chanEvent_keeps (by assumption)

theorem followPlane_keeps {a s : State} {v1 v2} (h : Keeps a s) :
    Keeps a (@State.followPlane s v1 v2) := by
  unfold State.followPlane
  extract_lets +onlyGivenNames x1
  have h1 : Keeps a x1 := by
    unfold x1
    refine Keeps.foldl ?_ (fun y2 z2 h2 => ?_)
    · assumption
    · extract_lets +onlyGivenNames x3
      clear_value x3
      refine Keeps.ite ?_ ?_
      · exact setChan_keeps (by assumption)
      · refine Keeps.ite ?_ ?_
        · exact setChan_keeps (by assumption)
        · assumption
  clear_value x1
  refine Keeps.foldl ?_ (fun y4 z4 h4 => ?_)
  · assumption
  · extract_lets +onlyGivenNames x5
    clear_value x5
    refine Keeps.ite ?_ ?_
    · exact setn_keeps (by assumption)
    · assumption

theorem countWaiting_keeps {a s : State} {v1 v2} (h : Keeps a s) :
    Keeps a (@State.countWaiting s v1 v2) := by
  unfold State.countWaiting
  extract_lets +onlyGivenNames x1
  clear_value x1
  extract_lets +onlyGivenNames x2
  clear_value x2
  extract_lets +onlyGivenNames x3
  clear_value x3
  extract_lets +onlyGivenNames x4
  have h4 : Keeps a x4 := by
    unfold x4
    exact setInsp_keeps (by assumption)
  clear_value x4
  refine Keeps.ite ?_ ?_
  · assumption
  · exact bump_keeps (by assumption)

theorem switchAt_keeps {a s : State} {v1 v2} (h : Keeps a s) :
    Keeps a (@State.switchAt s v1 v2) := by
  unfold State.switchAt
  extract_lets +onlyGivenNames x1
  have h1 : Keeps a x1 := by
    unfold x1
    exact countWaiting_keeps (by assumption)
  clear_value x1
  extract_lets +onlyGivenNames x2
  have h2 : Keeps a x2 := by
    unfold x2
    refine Keeps.foldl ?_ (fun y3 z3 h3 => ?_)
    · assumption
    · exact switchGroup_keeps (by assumption)
  clear_value x2
  exact sendTrims_keeps (by assumption)

theorem fetch_keeps {a s : State} {v1 v2 v3} (h : Keeps a s) :
    Keeps a (@State.fetch s v1 v2 v3) := by
  unfold State.fetch
  extract_lets +onlyGivenNames x1
  have h1 : Keeps a x1 := by
    unfold x1
    exact applyLine_keeps (by assumption)
  clear_value x1
  extract_lets +onlyGivenNames x2
  clear_value x2
  extract_lets +onlyGivenNames x3
  have h3 : Keeps a x3 := by
    unfold x3
    exact setn_keeps (by assumption)
  clear_value x3
  extract_lets +onlyGivenNames x4
  have h4 : Keeps a x4 := by
    unfold x4
    exact refreshPlane_keeps (followPlane_keeps (by assumption))
  clear_value x4
  extract_lets +onlyGivenNames x5
  have h5 : Keeps a x5 := by
    unfold x5
    refine Keeps.ite ?_ ?_
    · exact switchAt_keeps (by assumption)
    · exact switchNow_keeps (by assumption)
  clear_value x5
  extract_lets +onlyGivenNames x6
  refine Keeps.ite ?_ ?_
  · exact setFire_keeps (by assumption)
  · extract_lets +onlyGivenNames x7
    have h7 : Keeps a x7 := by
      unfold x7
      refine Keeps.ite ?_ ?_
      · exact couchBad_keeps (by assumption)
      · assumption
    clear_value x7
    extract_lets +onlyGivenNames x8
    clear_value x8
    extract_lets +onlyGivenNames x9
    have h9 : Keeps a x9 := by
      unfold x9
      refine Keeps.foldl ?_ (fun y10 z10 h10 => ?_)
      · assumption
      · exact modAcc_keeps (by assumption)
    clear_value x9
    extract_lets +onlyGivenNames x11
    have h11 : Keeps a x11 := by
      unfold x11
      exact setn_keeps (setn_keeps (by assumption))
    clear_value x11
    extract_lets +onlyGivenNames x12
    have h12 : Keeps a x12 := by
      unfold x12
      exact setn_keeps (by assumption)
    clear_value x12
    extract_lets +onlyGivenNames x13
    have h13 : Keeps a x13 := by
      unfold x13
      refine Keeps.ite ?_ ?_
      · refine Keeps.foldl ?_ (fun y14 z14 h14 => ?_)
        · assumption
        · refine Keeps.ite ?_ ?_
          · exact inc64_keeps (by assumption)
          · assumption
      · assumption
    clear_value x13
    exact setFire_keeps (by assumption)

theorem setMet_keeps {a s : State} {v1} (h : Keeps a s) :
    Keeps a (@State.setMet s v1) := by
  unfold State.setMet
  refine Keeps.same (b := s) rfl rfl rfl rfl rfl rfl rfl rfl rfl ?_
  assumption

theorem islandEvent_keeps {a s : State} {v1 v2} (h : Keeps a s) :
    Keeps a (@State.islandEvent s v1 v2) := by
  unfold State.islandEvent
  extract_lets +onlyGivenNames x1
  clear_value x1
  extract_lets +onlyGivenNames x2
  have h2 : Keeps a x2 := by
    unfold x2
    exact setDurable_keeps (by assumption)
  clear_value x2
  extract_lets +onlyGivenNames x3
  clear_value x3
  exact setMet_keeps (by assumption)

theorem setCell_keeps {a s : State} {v1 v2} (h : Keeps a s) :
    Keeps a (@State.setCell s v1 v2) := by
  unfold State.setCell
  exact setMet_keeps (by assumption)

theorem takeZero_keeps {a s : State} {v1} (h : Keeps a s) :
    Keeps a (@State.takeZero s v1) := by
  unfold State.takeZero
  extract_lets +onlyGivenNames x1
  clear_value x1
  extract_lets +onlyGivenNames x2
  have h2 : Keeps a x2 := by
    unfold x2
    exact freeNext_keeps (by assumption)
  clear_value x2
  split
  · assumption
  · extract_lets +onlyGivenNames x3
    clear_value x3
    extract_lets +onlyGivenNames x4
    clear_value x4
    refine Keeps.ite ?_ ?_
    · exact setCell_keeps (by assumption)
    · assumption

theorem zeroRequest_keeps {a s : State} (h : Keeps a s) :
    Keeps a (@State.zeroRequest s) := by
  unfold State.zeroRequest
  refine Keeps.ite ?_ ?_
  · exact takeZero_keeps (takeZero_keeps (by assumption))
  · assumption

theorem execWeighingWindowEnd_keeps {a s : State} {v0 v1 v2 v3 v4 v5} (h : Keeps a s) :
    OutKeeps a (@execWeighingWindowEnd v0 v1 v2 v3 v4 v5 s) := by
  unfold execWeighingWindowEnd
  extract_lets +onlyGivenNames x1
  have h1 : Keeps a x1 := by
    unfold x1
    exact atTime_keeps (by assumption)
  clear_value x1
  extract_lets +onlyGivenNames x2
  clear_value x2
  refine OutKeeps.ite ?_ ?_
  · exact OutKeeps.ok (by assumption)
  · extract_lets +onlyGivenNames x3
    clear_value x3
    extract_lets +onlyGivenNames x4
    clear_value x4
    extract_lets +onlyGivenNames x5
    clear_value x5
    extract_lets +onlyGivenNames x6
    clear_value x6
    extract_lets +onlyGivenNames x7
    clear_value x7
    extract_lets +onlyGivenNames x8
    clear_value x8
    extract_lets +onlyGivenNames x9
    clear_value x9
    extract_lets +onlyGivenNames x10
    clear_value x10
    extract_lets +onlyGivenNames x11
    clear_value x11
    extract_lets +onlyGivenNames x12
    clear_value x12
    extract_lets +onlyGivenNames x13
    clear_value x13
    extract_lets +onlyGivenNames x14
    clear_value x14
    extract_lets +onlyGivenNames x15
    clear_value x15
    extract_lets +onlyGivenNames x16
    have h16 : Keeps a x16 := by
      unfold x16
      exact inc64_keeps (setn_keeps (by assumption))
    clear_value x16
    extract_lets +onlyGivenNames x17
    have h17 : Keeps a x17 := by
      unfold x17
      exact setCell_keeps (by assumption)
    clear_value x17
    exact OutKeeps.ok (setMet_keeps (by assumption))

theorem bindWeighed_keeps {a s : State} {v1 v2} (h : Keeps a s) :
    Keeps a (@State.bindWeighed s v1 v2) := by
  unfold State.bindWeighed
  extract_lets +onlyGivenNames x1
  clear_value x1
  extract_lets +onlyGivenNames x2
  clear_value x2
  extract_lets +onlyGivenNames x3
  have h3 : Keeps a x3 := by
    unfold x3
    exact setMet_keeps (by assumption)
  clear_value x3
  exact bump_keeps (by assumption)

theorem islandFault_keeps {a s : State} {v1} (h : Keeps a s) :
    Keeps a (@State.islandFault s v1) := by
  unfold State.islandFault
  extract_lets +onlyGivenNames x1
  have h1 : Keeps a x1 := by
    unfold x1
    exact setn_keeps (setn_keeps (by assumption))
  clear_value x1
  exact setCell_keeps (setCell_keeps (by assumption))

theorem execModulatorSilent_keeps {a s : State} {v0 v1} (h : Keeps a s) :
    OutKeeps a (@execModulatorSilent v0 v1 s) := by
  unfold execModulatorSilent
  extract_lets +onlyGivenNames x1
  have h1 : Keeps a x1 := by
    unfold x1
    exact atTime_keeps (by assumption)
  clear_value x1
  refine OutKeeps.ok ?_
  refine Keeps.ite ?_ ?_
  · exact islandFault_keeps (by assumption)
  · assumption

theorem execIslandWatchdog_keeps {a s : State} {v0} (h : Keeps a s) :
    OutKeeps a (@execIslandWatchdog v0 s) := by
  unfold execIslandWatchdog
  extract_lets +onlyGivenNames x1
  have h1 : Keeps a x1 := by
    unfold x1
    exact atTime_keeps (by assumption)
  clear_value x1
  refine OutKeeps.ok ?_
  refine Keeps.ite ?_ ?_
  · exact islandFault_keeps (by assumption)
  · assumption

theorem enterSealed_keeps {a s : State} (h : Keeps a s) :
    Keeps a (@State.enterSealed s) := by
  unfold State.enterSealed
  extract_lets +onlyGivenNames x1
  clear_value x1
  extract_lets +onlyGivenNames x2
  have h2 : Keeps a x2 := by
    unfold x2
    exact setDurable_keeps (setn_keeps (by assumption))
  clear_value x2
  extract_lets +onlyGivenNames x3
  clear_value x3
  extract_lets +onlyGivenNames x4
  clear_value x4
  extract_lets +onlyGivenNames x5
  have h5 : Keeps a x5 := by
    unfold x5
    exact setCell_keeps (setCell_keeps (by assumption))
  clear_value x5
  exact takeZero_keeps (takeZero_keeps (by assumption))

theorem execSealedRecord_keeps {a s : State} {v0 v1} (h : Keeps a s) :
    OutKeeps a (@execSealedRecord v0 v1 s) := by
  unfold execSealedRecord
  extract_lets +onlyGivenNames x1
  have h1 : Keeps a x1 := by
    unfold x1
    exact atTime_keeps (by assumption)
  clear_value x1
  extract_lets +onlyGivenNames x2
  clear_value x2
  extract_lets +onlyGivenNames x3
  have h3 : Keeps a x3 := by
    unfold x3
    exact setMet_keeps (by assumption)
  clear_value x3
  refine OutKeeps.ite ?_ ?_
  · exact OutKeeps.ok (inc32_keeps (by assumption))
  · extract_lets +onlyGivenNames x4
    clear_value x4
    extract_lets +onlyGivenNames x5
    clear_value x5
    extract_lets +onlyGivenNames x6
    have h6 : Keeps a x6 := by
      unfold x6
      refine Keeps.ite ?_ ?_
      · exact inc32_keeps (by assumption)
      · assumption
    clear_value x6
    extract_lets +onlyGivenNames x7
    clear_value x7
    extract_lets +onlyGivenNames x8
    have h8 : Keeps a x8 := by
      unfold x8
      exact setMet_keeps (by assumption)
    clear_value x8
    exact OutKeeps.ok (event_keeps (by assumption))

theorem execSealOpened_keeps {a s : State} {v0} (h : Keeps a s) :
    OutKeeps a (@execSealOpened v0 s) := by
  unfold execSealOpened
  extract_lets +onlyGivenNames x1
  have h1 : Keeps a x1 := by
    unfold x1
    exact atTime_keeps (by assumption)
  clear_value x1
  extract_lets +onlyGivenNames x2
  clear_value x2
  extract_lets +onlyGivenNames x3
  have h3 : Keeps a x3 := by
    unfold x3
    exact setMet_keeps (by assumption)
  clear_value x3
  extract_lets +onlyGivenNames x4
  have h4 : Keeps a x4 := by
    unfold x4
    exact setDurable_keeps (by assumption)
  clear_value x4
  extract_lets +onlyGivenNames x5
  have h5 : Keeps a x5 := by
    unfold x5
    exact islandEvent_keeps (by assumption)
  clear_value x5
  refine OutKeeps.ok ?_
  refine Keeps.ite ?_ ?_
  · exact setn_keeps (by assumption)
  · assumption

theorem execPdMetroSupplyFault_keeps {a s : State} {v0} (h : Keeps a s) :
    OutKeeps a (@execPdMetroSupplyFault v0 s) := by
  unfold execPdMetroSupplyFault
  extract_lets +onlyGivenNames x1
  have h1 : Keeps a x1 := by
    unfold x1
    exact atTime_keeps (by assumption)
  clear_value x1
  refine OutKeeps.ok ?_
  refine Keeps.ite ?_ ?_
  · exact islandFault_keeps (by assumption)
  · assumption

theorem execMetPdEdge_keeps {a s : State} {v0 v1} (h : Keeps a s) :
    OutKeeps a (@execMetPdEdge v0 v1 s) := by
  unfold execMetPdEdge
  extract_lets +onlyGivenNames x1
  have h1 : Keeps a x1 := by
    unfold x1
    exact atTime_keeps (by assumption)
  clear_value x1
  refine OutKeeps.ite ?_ ?_
  · exact OutKeeps.ok (by assumption)
  · refine OutKeeps.ite ?_ ?_
    · exact OutKeeps.ok (inc32_keeps (by assumption))
    · exact OutKeeps.ok (setCell_keeps (by assumption))

theorem execSealClosed_keeps {a s : State} {v0} (h : Keeps a s) :
    OutKeeps a (@execSealClosed v0 s) := by
  unfold execSealClosed
  extract_lets +onlyGivenNames x1
  have h1 : Keeps a x1 := by
    unfold x1
    exact atTime_keeps (by assumption)
  clear_value x1
  extract_lets +onlyGivenNames x2
  clear_value x2
  extract_lets +onlyGivenNames x3
  have h3 : Keeps a x3 := by
    unfold x3
    exact setMet_keeps (by assumption)
  clear_value x3
  refine OutKeeps.ok ?_
  refine Keeps.ite ?_ ?_
  · exact enterSealed_keeps (by assumption)
  · assumption

theorem execZeroTracking_keeps {a s : State} {v0 v1 v2} (h : Keeps a s) :
    OutKeeps a (@execZeroTracking v0 v1 v2 s) := by
  unfold execZeroTracking
  extract_lets +onlyGivenNames x1
  have h1 : Keeps a x1 := by
    unfold x1
    exact atTime_keeps (by assumption)
  clear_value x1
  extract_lets +onlyGivenNames x2
  clear_value x2
  extract_lets +onlyGivenNames x3
  clear_value x3
  refine OutKeeps.ite ?_ ?_
  · exact OutKeeps.ok (setCell_keeps (by assumption))
  · exact OutKeeps.ok (by assumption)

theorem execIslandBootComplete_keeps {a s : State} {v0 v1 v2} (h : Keeps a s) :
    OutKeeps a (@execIslandBootComplete v0 v1 v2 s) := by
  unfold execIslandBootComplete
  extract_lets +onlyGivenNames x1
  have h1 : Keeps a x1 := by
    unfold x1
    exact atTime_keeps (by assumption)
  clear_value x1
  refine OutKeeps.ite ?_ ?_
  · exact OutKeeps.ok (by assumption)
  · refine OutKeeps.ite ?_ ?_
    · exact OutKeeps.ok (islandFault_keeps (by assumption))
    · refine OutKeeps.ite ?_ ?_
      · exact OutKeeps.ok (islandFault_keeps (by assumption))
      · extract_lets +onlyGivenNames x2
        clear_value x2
        extract_lets +onlyGivenNames x3
        have h3 : Keeps a x3 := by
          unfold x3
          exact setMet_keeps (by assumption)
        clear_value x3
        refine OutKeeps.ite ?_ ?_
        · exact OutKeeps.ok (enterSealed_keeps (by assumption))
        · exact OutKeeps.ok (setMet_keeps (setn_keeps (by assumption)))

theorem take_keeps {a s : State} {v1 v2} (h : Keeps a s) :
    Keeps a (@State.take s v1 v2).1 := by
  unfold State.take
  extract_lets +onlyGivenNames x1
  clear_value x1
  split
  · extract_lets +onlyGivenNames x2
    clear_value x2
    dsimp only
    exact setSess_keeps (by assumption)
  · dsimp only
    assumption

theorem ptpSelect_keeps {a s : State} (h : Keeps a s) :
    Keeps a (@State.ptpSelect s) := by
  unfold State.ptpSelect
  extract_lets +onlyGivenNames x1
  clear_value x1
  extract_lets +onlyGivenNames x2
  have h2 : Keeps a x2 := by
    unfold x2
    exact setn_keeps (by assumption)
  clear_value x2
  extract_lets +onlyGivenNames x3
  have h3 : Keeps a x3 := by
    unfold x3
    refine Keeps.ite ?_ ?_
    · assumption
    · refine Keeps.ite ?_ ?_
      · exact setn_keeps (by assumption)
      · assumption
  clear_value x3
  split
  · exact seti_keeps (setn_keeps (by assumption))
  · assumption

theorem execPtpSyncTimeout_keeps {a s : State} {v0 v1} (h : Keeps a s) :
    OutKeeps a (@execPtpSyncTimeout v0 v1 s) := by
  unfold execPtpSyncTimeout
  extract_lets +onlyGivenNames x1
  have h1 : Keeps a x1 := by
    unfold x1
    exact atTime_keeps (by assumption)
  clear_value x1
  extract_lets +onlyGivenNames x2
  clear_value x2
  extract_lets +onlyGivenNames x3
  clear_value x3
  extract_lets +onlyGivenNames x4
  clear_value x4
  extract_lets +onlyGivenNames x5
  have h5 : Keeps a x5 := by
    unfold x5
    refine Keeps.same (b := x1) rfl rfl rfl rfl rfl rfl rfl rfl rfl ?_
    assumption
  clear_value x5
  refine OutKeeps.ite ?_ ?_
  · extract_lets +onlyGivenNames x6
    have h6 : Keeps a x6 := by
      unfold x6
      refine Keeps.ite ?_ ?_
      · assumption
      · exact setn_keeps (by assumption)
    clear_value x6
    exact OutKeeps.ok (ptpSelect_keeps (by assumption))
  · exact OutKeeps.ok (by assumption)

theorem respond_keeps {a s : State} {v1 v2 v3 v4} (h : Keeps a s) :
    Keeps a (@State.respond s v1 v2 v3 v4) := by
  unfold State.respond
  exact send_keeps (by assumption)

theorem openReject_keeps {a s : State} {v1 v2 v3} (h : Keeps a s) :
    Keeps a (@State.openReject s v1 v2 v3) := by
  unfold State.openReject
  refine Keeps.same (b := s) rfl rfl rfl rfl rfl rfl rfl rfl rfl ?_
  assumption

theorem sendNoSeq_keeps {a s : State} {v1} (h : Keeps a s) :
    Keeps a (@State.sendNoSeq s v1) := by
  unfold State.sendNoSeq
  extract_lets +onlyGivenNames x1
  clear_value x1
  extract_lets +onlyGivenNames x2
  clear_value x2
  extract_lets +onlyGivenNames x3
  have h3 : Keeps a x3 := by
    unfold x3
    refine Keeps.same (b := s) rfl rfl rfl rfl rfl rfl rfl rfl rfl ?_
    assumption
  clear_value x3
  exact setSess_keeps (by assumption)

theorem reportLimits_keeps {a s : State} {v0 v2} (h : Keeps a s) :
    Keeps a (@State.reportLimits v0 s v2) := by
  induction v0 generalizing s with
  | zero => exact h
  | succ n ih =>
    unfold State.reportLimits
    exact Keeps.ite (ih (sendNoSeq_keeps h)) h

theorem ptpSteer_keeps {a s : State} {v1} (h : Keeps a s) :
    Keeps a (@State.ptpSteer s v1) := by
  unfold State.ptpSteer
  extract_lets +onlyGivenNames x1
  clear_value x1
  extract_lets +onlyGivenNames x2
  clear_value x2
  extract_lets +onlyGivenNames x3
  clear_value x3
  extract_lets +onlyGivenNames x4
  clear_value x4
  extract_lets +onlyGivenNames x5
  clear_value x5
  extract_lets +onlyGivenNames x6
  clear_value x6
  extract_lets +onlyGivenNames x7
  clear_value x7
  extract_lets +onlyGivenNames x8
  clear_value x8
  extract_lets +onlyGivenNames x9
  have h9 : Keeps a x9 := by
    unfold x9
    refine Keeps.same (b := s) rfl rfl rfl rfl rfl rfl rfl rfl rfl ?_
    assumption
  clear_value x9
  exact setn_keeps (seti_keeps (by assumption))

theorem ptpOffset_keeps {a s : State} {v1 v2 v3 v4} (h : Keeps a s) :
    Keeps a (@State.ptpOffset s v1 v2 v3 v4) := by
  unfold State.ptpOffset
  refine Keeps.ite ?_ ?_
  · exact ptpSteer_keeps (by assumption)
  · assumption

theorem execSubscribeEvents_keeps {a s : State} {v0 v1 v2 v3} (h : Keeps a s) :
    OutKeeps a (@execSubscribeEvents v0 v1 v2 v3 s) := by
  unfold execSubscribeEvents
  extract_lets +onlyGivenNames x1
  have h1 : Keeps a x1 := by
    unfold x1
    exact atTime_keeps (by assumption)
  clear_value x1
  extract_lets +onlyGivenNames x2
  have h2 : Keeps a x2.1 := by
    unfold x2
    exact take_keeps (by assumption)
  clear_value x2
  refine OutKeeps.ite ?_ ?_
  · extract_lets +onlyGivenNames x3
    have h3 : Keeps a x3 := by
      unfold x3
      exact modSess_keeps (by assumption)
    clear_value x3
    exact OutKeeps.ok (respond_keeps (by assumption))
  · exact OutKeeps.ok (by assumption)

theorem execPtpGeneralMessage_keeps {a s : State} {v0 v1 v2} (h : Keeps a s) :
    OutKeeps a (@execPtpGeneralMessage v0 v1 v2 s) := by
  unfold execPtpGeneralMessage
  extract_lets +onlyGivenNames x1
  have h1 : Keeps a x1 := by
    unfold x1
    exact inc64_keeps (atTime_keeps (by assumption))
  clear_value x1
  split
  · refine OutKeeps.ite ?_ ?_
    · refine OutKeeps.ok ?_
      refine ptpSelect_keeps ?_
      refine Keeps.same (b := x1) rfl rfl rfl rfl rfl rfl rfl rfl rfl ?_
      assumption
    · exact OutKeeps.ok (by assumption)
  · refine OutKeeps.ite ?_ ?_
    · split
      · refine OutKeeps.ite ?_ ?_
        · refine OutKeeps.ok ?_
          refine ptpOffset_keeps ?_
          refine Keeps.same (b := x1) rfl rfl rfl rfl rfl rfl rfl rfl rfl ?_
          assumption
        · exact OutKeeps.ok (by assumption)
      · exact OutKeeps.ok (by assumption)
    · exact OutKeeps.ok (by assumption)

theorem execNetLinkUp_keeps {a s : State} {v0 v1} (h : Keeps a s) :
    OutKeeps a (@execNetLinkUp v0 v1 s) := by
  unfold execNetLinkUp
  extract_lets +onlyGivenNames x1
  have h1 : Keeps a x1 := by
    unfold x1
    exact setb_keeps (atTime_keeps (by assumption))
  clear_value x1
  refine OutKeeps.ok ?_
  refine Keeps.ite ?_ ?_
  · exact setn_keeps (by assumption)
  · assumption

theorem errorTo_keeps {a s : State} {v1 v2 v3} (h : Keeps a s) :
    Keeps a (@State.errorTo s v1 v2 v3) := by
  unfold State.errorTo
  refine Keeps.ite ?_ ?_
  · exact sendError_keeps (by assumption)
  · assumption

theorem execCreditUpdateDue_keeps {a s : State} {v0 v1} (h : Keeps a s) :
    OutKeeps a (@execCreditUpdateDue v0 v1 s) := by
  unfold execCreditUpdateDue
  exact OutKeeps.ok (reportLimits_keeps (atTime_keeps (by assumption)))

theorem openOn_keeps {a s : State} {v1 v2 v3 v4} (h : Keeps a s) :
    Keeps a (@State.openOn s v1 v2 v3 v4) := by
  unfold State.openOn
  extract_lets +onlyGivenNames x1
  clear_value x1
  extract_lets +onlyGivenNames x2
  clear_value x2
  extract_lets +onlyGivenNames x3
  clear_value x3
  extract_lets +onlyGivenNames x4
  clear_value x4
  extract_lets +onlyGivenNames x5
  clear_value x5
  extract_lets +onlyGivenNames x6
  clear_value x6
  extract_lets +onlyGivenNames x7
  clear_value x7
  extract_lets +onlyGivenNames x8
  clear_value x8
  extract_lets +onlyGivenNames x9
  clear_value x9
  extract_lets +onlyGivenNames x10
  clear_value x10
  extract_lets +onlyGivenNames x11
  have h11 : Keeps a x11 := by
    unfold x11
    exact setSess_keeps (by assumption)
  clear_value x11
  extract_lets +onlyGivenNames x12
  have h12 : Keeps a x12 := by
    unfold x12
    exact logKind_keeps (by assumption)
  clear_value x12
  exact pump_keeps (by assumption)

theorem setSfp_keeps {a s : State} {v1 v2 v3} (h : Keeps a s) :
    Keeps a (@State.setSfp s v1 v2 v3) := by
  unfold State.setSfp
  extract_lets +onlyGivenNames x1
  clear_value x1
  extract_lets +onlyGivenNames x2
  have h2 : Keeps a x2 := by
    unfold x2
    refine Keeps.same (b := s) rfl rfl rfl rfl rfl rfl rfl rfl rfl ?_
    assumption
  clear_value x2
  exact setv_keeps (by assumption)

theorem endSession_keeps {a s : State} {v1 v2} (h : Keeps a s) :
    Keeps a (@State.endSession s v1 v2) := by
  unfold State.endSession
  extract_lets +onlyGivenNames x1
  clear_value x1
  refine Keeps.ite ?_ ?_
  · extract_lets +onlyGivenNames x2
    have h2 : Keeps a x2 := by
      unfold x2
      exact logKind_keeps (by assumption)
    clear_value x2
    exact setSess_keeps (by assumption)
  · assumption

theorem takeFields_keeps {a s : State} {v1 v2 v3 v4 v5} (h : Keeps a s) :
    Keeps a (@State.takeFields s v1 v2 v3 v4 v5) := by
  unfold State.takeFields
  extract_lets +onlyGivenNames x1
  clear_value x1
  extract_lets +onlyGivenNames x2
  clear_value x2
  extract_lets +onlyGivenNames x3
  clear_value x3
  extract_lets +onlyGivenNames x4
  clear_value x4
  extract_lets +onlyGivenNames x5
  clear_value x5
  extract_lets +onlyGivenNames x6
  clear_value x6
  extract_lets +onlyGivenNames x7
  clear_value x7
  extract_lets +onlyGivenNames x8
  clear_value x8
  extract_lets +onlyGivenNames x9
  clear_value x9
  extract_lets +onlyGivenNames x10
  clear_value x10
  refine Keeps.ite ?_ ?_
  · exact endSession_keeps (setSess_keeps (by assumption))
  · extract_lets +onlyGivenNames x11
    clear_value x11
    extract_lets +onlyGivenNames x12
    clear_value x12
    extract_lets +onlyGivenNames x13
    clear_value x13
    exact pump_keeps (setSess_keeps (by assumption))

theorem execKlpPacket_keeps {a s : State} {v0 v1 v2 v3} (h : Keeps a s) :
    OutKeeps a (@execKlpPacket v0 v1 v2 v3 s) := by
  unfold execKlpPacket
  extract_lets +onlyGivenNames x1
  have h1 : Keeps a x1 := by
    unfold x1
    exact inc64_keeps (atTime_keeps (by assumption))
  clear_value x1
  extract_lets +onlyGivenNames x2
  clear_value x2
  extract_lets +onlyGivenNames x3
  clear_value x3
  refine OutKeeps.ite ?_ ?_
  · exact OutKeeps.ok (by assumption)
  · extract_lets +onlyGivenNames x4
    clear_value x4
    extract_lets +onlyGivenNames x5
    have h5 : Keeps a x5 := by
      unfold x5
      exact setSess_keeps (by assumption)
    clear_value x5
    extract_lets +onlyGivenNames x6
    have h6 : Keeps a x6 := by
      unfold x6
      exact takeFields_keeps (by assumption)
    clear_value x6
    extract_lets +onlyGivenNames x7
    clear_value x7
    refine OutKeeps.ite ?_ ?_
    · exact OutKeeps.ok (by assumption)
    · refine OutKeeps.ite ?_ ?_
      · exact OutKeeps.ok (sendError_keeps (by assumption))
      · refine OutKeeps.ite ?_ ?_
        · exact OutKeeps.ok (sendNoSeq_keeps (inc32_keeps (by assumption)))
        · extract_lets +onlyGivenNames x8
          clear_value x8
          extract_lets +onlyGivenNames x9
          clear_value x9
          refine OutKeeps.ite ?_ ?_
          · extract_lets +onlyGivenNames x10
            have h10 : Keeps a x10 := by
              unfold x10
              exact setSess_keeps (by assumption)
            clear_value x10
            extract_lets +onlyGivenNames x11
            have h11 : Keeps a x11 := by
              unfold x11
              exact sendError_keeps (by assumption)
            clear_value x11
            refine OutKeeps.ok ?_
            refine Keeps.ite ?_ ?_
            · exact endSession_keeps (by assumption)
            · assumption
          · extract_lets +onlyGivenNames x12
            clear_value x12
            extract_lets +onlyGivenNames x13
            clear_value x13
            extract_lets +onlyGivenNames x14
            clear_value x14
            extract_lets +onlyGivenNames x15
            clear_value x15
            extract_lets +onlyGivenNames x16
            clear_value x16
            extract_lets +onlyGivenNames x17
            have h17 : Keeps a x17 := by
              unfold x17
              exact setSess_keeps (by assumption)
            clear_value x17
            refine OutKeeps.ok ?_
            refine Keeps.ite ?_ ?_
            · exact sendNoSeq_keeps (by assumption)
            · assumption

theorem execSessionTimeout_keeps {a s : State} {v0 v1} (h : Keeps a s) :
    OutKeeps a (@execSessionTimeout v0 v1 s) := by
  unfold execSessionTimeout
  exact OutKeeps.ok (endSession_keeps (atTime_keeps (by assumption)))

theorem execSfpModuleInserted_keeps {a s : State} {v0 v1 v2} (h : Keeps a s) :
    OutKeeps a (@execSfpModuleInserted v0 v1 v2 s) := by
  unfold execSfpModuleInserted
  exact OutKeeps.ok (setSfp_keeps (atTime_keeps (by assumption)))

theorem execEventSend_keeps {a s : State} {v0 v1} (h : Keeps a s) :
    OutKeeps a (@execEventSend v0 v1 s) := by
  unfold execEventSend
  extract_lets +onlyGivenNames x1
  have h1 : Keeps a x1 := by
    unfold x1
    exact atTime_keeps (by assumption)
  clear_value x1
  extract_lets +onlyGivenNames x2
  clear_value x2
  extract_lets +onlyGivenNames x3
  clear_value x3
  refine OutKeeps.ite ?_ ?_
  · extract_lets +onlyGivenNames x4
    have h4 : Keeps a x4 := by
      unfold x4
      exact setSess_keeps (by assumption)
    clear_value x4
    exact OutKeeps.ok (send_keeps (by assumption))
  · exact OutKeeps.ok (by assumption)

theorem execPtpEventMessage_keeps {a s : State} {v0 v1 v2 v3 v4 v5 v6 v7} (h : Keeps a s) :
    OutKeeps a (@execPtpEventMessage v0 v1 v2 v3 v4 v5 v6 v7 s) := by
  unfold execPtpEventMessage
  extract_lets +onlyGivenNames x1
  have h1 : Keeps a x1 := by
    unfold x1
    exact inc64_keeps (atTime_keeps (by assumption))
  clear_value x1
  refine OutKeeps.ite ?_ ?_
  · split
    · exact OutKeeps.ok (ptpOffset_keeps (by assumption))
    · refine OutKeeps.ok ?_
      refine Keeps.same (b := x1) rfl rfl rfl rfl rfl rfl rfl rfl rfl ?_
      assumption
    · extract_lets +onlyGivenNames x2
      clear_value x2
      extract_lets +onlyGivenNames x3
      clear_value x3
      extract_lets +onlyGivenNames x4
      have h4 : Keeps a x4 := by
        unfold x4
        refine Keeps.same (b := x1) rfl rfl rfl rfl rfl rfl rfl rfl rfl ?_
        assumption
      clear_value x4
      refine OutKeeps.ok ?_
      refine Keeps.ite ?_ ?_
      · exact seti_keeps (by assumption)
      · assumption
  · exact OutKeeps.ok (by assumption)

theorem keepStamp_keeps {a s : State} {v1} (h : Keeps a s) :
    Keeps a (@State.keepStamp s v1) := by
  unfold State.keepStamp
  extract_lets +onlyGivenNames x1
  clear_value x1
  extract_lets +onlyGivenNames x2
  clear_value x2
  exact setDurable_keeps (by assumption)

theorem refuse_keeps {a s : State} {v1} (h : Keeps a s) :
    Keeps a (@State.refuse s v1) := by
  unfold State.refuse
  extract_lets +onlyGivenNames x1
  clear_value x1
  extract_lets +onlyGivenNames x2
  clear_value x2
  extract_lets +onlyGivenNames x3
  clear_value x3
  refine Keeps.same (b := s) rfl rfl rfl rfl rfl rfl rfl rfl rfl ?_
  assumption

theorem execOpen_keeps {a s : State} {v0 v1 v2 v3} (h : Keeps a s) :
    OutKeeps a (@execOpen v0 v1 v2 v3 s) := by
  unfold execOpen
  extract_lets +onlyGivenNames x1
  have h1 : Keeps a x1 := by
    unfold x1
    exact inc64_keeps (atTime_keeps (by assumption))
  clear_value x1
  refine OutKeeps.ite ?_ ?_
  · exact OutKeeps.ok (by assumption)
  · refine OutKeeps.ite ?_ ?_
    · exact OutKeeps.ok (openReject_keeps (inc32_keeps (by assumption)))
    · refine OutKeeps.ite ?_ ?_
      · exact OutKeeps.ok (by assumption)
      · refine OutKeeps.ite ?_ ?_
        · exact OutKeeps.ok (openReject_keeps (by assumption))
        · refine OutKeeps.ite ?_ ?_
          · exact OutKeeps.ok (openReject_keeps (by assumption))
          · refine OutKeeps.ite ?_ ?_
            · exact OutKeeps.ok (openReject_keeps (by assumption))
            · split
              · exact OutKeeps.ok (openReject_keeps (by assumption))
              · refine OutKeeps.ite ?_ ?_
                · exact OutKeeps.ok (openOn_keeps (by assumption))
                · refine OutKeeps.ite ?_ ?_
                  · exact OutKeeps.ok (openOn_keeps (keepStamp_keeps (by assumption)))
                  · exact OutKeeps.ok (openReject_keeps (inc32_keeps (refuse_keeps (by assumption))))

theorem execPauseFrame_keeps {a s : State} {v0 v1} (h : Keeps a s) :
    OutKeeps a (@execPauseFrame v0 v1 s) := by
  unfold execPauseFrame
  exact OutKeeps.ok (inc32_keeps (inc64_keeps (atTime_keeps (by assumption))))

theorem execNetLinkDown_keeps {a s : State} {v0 v1 v2} (h : Keeps a s) :
    OutKeeps a (@execNetLinkDown v0 v1 v2 s) := by
  unfold execNetLinkDown
  extract_lets +onlyGivenNames x1
  have h1 : Keeps a x1 := by
    unfold x1
    exact atTime_keeps (by assumption)
  clear_value x1
  extract_lets +onlyGivenNames x2
  have h2 : Keeps a x2 := by
    unfold x2
    exact inc32_keeps (setb_keeps (by assumption))
  clear_value x2
  extract_lets +onlyGivenNames x3
  have h3 : Keeps a x3 := by
    unfold x3
    refine Keeps.ite ?_ ?_
    · exact setn_keeps (by assumption)
    · assumption
  clear_value x3
  exact OutKeeps.ok (event_keeps (by assumption))

theorem execSfpModuleRemoved_keeps {a s : State} {v0 v1} (h : Keeps a s) :
    OutKeeps a (@execSfpModuleRemoved v0 v1 s) := by
  unfold execSfpModuleRemoved
  exact OutKeeps.ok (setSfp_keeps (atTime_keeps (by assumption)))

theorem execRetransmitTimeout_keeps {a s : State} {v0 v1 v2} (h : Keeps a s) :
    OutKeeps a (@execRetransmitTimeout v0 v1 v2 s) := by
  unfold execRetransmitTimeout
  extract_lets +onlyGivenNames x1
  have h1 : Keeps a x1 := by
    unfold x1
    exact atTime_keeps (by assumption)
  clear_value x1
  extract_lets +onlyGivenNames x2
  clear_value x2
  split
  · exact OutKeeps.ok (by assumption)
  · refine OutKeeps.ite ?_ ?_
    · exact OutKeeps.ok (endSession_keeps (by assumption))
    · extract_lets +onlyGivenNames x3
      clear_value x3
      exact OutKeeps.ok (setSess_keeps (by assumption))

theorem execAckDue_keeps {a s : State} {v0 v1} (h : Keeps a s) :
    OutKeeps a (@execAckDue v0 v1 s) := by
  unfold execAckDue
  extract_lets +onlyGivenNames x1
  have h1 : Keeps a x1 := by
    unfold x1
    exact atTime_keeps (by assumption)
  clear_value x1
  refine OutKeeps.ok ?_
  refine Keeps.ite ?_ ?_
  · exact sendNoSeq_keeps (by assumption)
  · assumption

theorem execKeepaliveDue_keeps {a s : State} {v0 v1} (h : Keeps a s) :
    OutKeeps a (@execKeepaliveDue v0 v1 s) := by
  unfold execKeepaliveDue
  extract_lets +onlyGivenNames x1
  have h1 : Keeps a x1 := by
    unfold x1
    exact atTime_keeps (by assumption)
  clear_value x1
  refine OutKeeps.ok ?_
  refine Keeps.ite ?_ ?_
  · exact sendNoSeq_keeps (by assumption)
  · assumption

theorem execNop_keeps {a s : State} {v0 v1 v2 v3 v4 v5 v6 v7 v8} (h : Keeps a s) :
    OutKeeps a (@execNop v0 v1 v2 v3 v4 v5 v6 v7 v8 s) := by
  unfold execNop
  extract_lets +onlyGivenNames x1
  have h1 : Keeps a x1 := by
    unfold x1
    exact inc64_keeps (atTime_keeps (by assumption))
  clear_value x1
  extract_lets +onlyGivenNames x2
  clear_value x2
  refine OutKeeps.ite ?_ ?_
  · exact OutKeeps.ok (takeFields_keeps (setSess_keeps (by assumption)))
  · exact OutKeeps.ok (by assumption)

theorem execClose_keeps {a s : State} {v0 v1 v2} (h : Keeps a s) :
    OutKeeps a (@execClose v0 v1 v2 s) := by
  unfold execClose
  extract_lets +onlyGivenNames x1
  have h1 : Keeps a x1 := by
    unfold x1
    exact atTime_keeps (by assumption)
  clear_value x1
  extract_lets +onlyGivenNames x2
  have h2 : Keeps a x2.1 := by
    unfold x2
    exact take_keeps (by assumption)
  clear_value x2
  refine OutKeeps.ite ?_ ?_
  · exact OutKeeps.ok (endSession_keeps (by assumption))
  · exact OutKeeps.ok (by assumption)

theorem execAuthLockoutExpiry_keeps {a s : State} {v0 v1} (h : Keeps a s) :
    OutKeeps a (@execAuthLockoutExpiry v0 v1 s) := by
  unfold execAuthLockoutExpiry
  extract_lets +onlyGivenNames x1
  have h1 : Keeps a x1 := by
    unfold x1
    exact atTime_keeps (by assumption)
  clear_value x1
  refine OutKeeps.ok ?_
  refine Keeps.same (b := x1) rfl rfl rfl rfl rfl rfl rfl rfl rfl ?_
  assumption

theorem noteLow_keeps {a s : State} {v1 v2} (h : Keeps a s) :
    Keeps a (@State.noteLow s v1 v2) := by
  unfold State.noteLow
  refine Keeps.same (b := s) rfl rfl rfl rfl rfl rfl rfl rfl rfl ?_
  assumption

theorem queueCheck_keeps {a s : State} {v1} (h : Keeps a s) :
    Keeps a (@State.queueCheck s v1) := by
  unfold State.queueCheck
  extract_lets +onlyGivenNames x1
  clear_value x1
  extract_lets +onlyGivenNames x2
  have h2 : Keeps a x2 := by
    unfold x2
    exact noteLow_keeps (by assumption)
  clear_value x2
  refine Keeps.ite ?_ ?_
  · exact event_keeps (by assumption)
  · assumption

theorem setQueue_keeps {a s : State} {v1 v2} (h : Keeps a s) :
    Keeps a (@State.setQueue s v1 v2) := by
  unfold State.setQueue
  refine Keeps.same (b := s) rfl rfl rfl rfl rfl rfl rfl rfl rfl ?_
  assumption

theorem laneFlush_keeps {a s : State} {v1} (h : Keeps a s) :
    Keeps a (@State.laneFlush s v1) := by
  unfold State.laneFlush
  extract_lets +onlyGivenNames x1
  clear_value x1
  extract_lets +onlyGivenNames x2
  have h2 : Keeps a x2 := by
    unfold x2
    split
    · exact setn_keeps (by assumption)
    · assumption
  clear_value x2
  exact journal_keeps (queueCheck_keeps (bump_keeps (setQueue_keeps (by assumption))))

theorem nextRecordSet_keeps {a s : State} {v1 v2} (h : Keeps a s) :
    Keeps a (@State.nextRecordSet s v1 v2) := by
  unfold State.nextRecordSet
  exact journal_keeps (setn_keeps (setn_keeps (by assumption)))

theorem ledgerReset_keeps {a s : State} {v1} (h : Keeps a s) :
    Keeps a (@State.ledgerReset s v1) := by
  unfold State.ledgerReset
  extract_lets +onlyGivenNames x1
  clear_value x1
  extract_lets +onlyGivenNames x2
  have h2 : Keeps a x2 := by
    unfold x2
    refine Keeps.foldl ?_ (fun y3 z3 h3 => ?_)
    · assumption
    · exact setn_keeps (by assumption)
  clear_value x2
  extract_lets +onlyGivenNames x4
  have h4 : Keeps a x4 := by
    unfold x4
    exact setn_keeps (setn_keeps (by assumption))
  clear_value x4
  exact journal_keeps (by assumption)

theorem startEngine_keeps {a s : State} {v1} (h : Keeps a s) :
    Keeps a (@State.startEngine s v1) := by
  unfold State.startEngine
  split
  · assumption
  · split
    · assumption
    · refine Keeps.same (b := s) rfl rfl rfl rfl rfl rfl rfl rfl rfl ?_
      assumption

theorem queueSymbols_keeps {a s : State} {v1} (h : Keeps a s) :
    Keeps a (@State.queueSymbols s v1) := by
  unfold State.queueSymbols
  refine startEngine_keeps ?_
  refine startEngine_keeps ?_
  refine Keeps.same (b := s) rfl rfl rfl rfl rfl rfl rfl rfl rfl ?_
  assumption

theorem preResolve_keeps {a s : State} {v1} (h : Keeps a s) :
    Keeps a (@State.preResolve s v1) := by
  unfold State.preResolve
  extract_lets +onlyGivenNames x1
  clear_value x1
  extract_lets +onlyGivenNames x2
  clear_value x2
  extract_lets +onlyGivenNames x3
  clear_value x3
  refine Keeps.ite ?_ ?_
  · assumption
  · extract_lets +onlyGivenNames x4
    clear_value x4
    extract_lets +onlyGivenNames x5
    clear_value x5
    exact queueSymbols_keeps (setQueue_keeps (by assumption))

theorem counterWritten_keeps {a s : State} {v1} (h : Keeps a s) :
    Keeps a (@State.counterWritten s v1) := by
  unfold State.counterWritten
  exact journal_keeps (setb_keeps (setn_keeps (by assumption)))

theorem composeError_keeps {a s : State} {v1 v2 v3} (h : Keeps a s) :
    Keeps a (@State.composeError s v1 v2 v3) := by
  unfold State.composeError
  extract_lets +onlyGivenNames x1
  have h1 : Keeps a x1 := by
    unfold x1
    exact inc32_keeps (by assumption)
  clear_value x1
  extract_lets +onlyGivenNames x2
  have h2 : Keeps a x2 := by
    unfold x2
    exact setn_keeps (inc32_keeps (by assumption))
  clear_value x2
  extract_lets +onlyGivenNames x3
  have h3 : Keeps a x3 := by
    unfold x3
    exact setn_keeps (setn_keeps (by assumption))
  clear_value x3
  extract_lets +onlyGivenNames x4
  have h4 : Keeps a x4 := by
    unfold x4
    exact modItem_keeps (by assumption)
  clear_value x4
  extract_lets +onlyGivenNames x5
  have h5 : Keeps a x5 := by
    unfold x5
    exact event_keeps (by assumption)
  clear_value x5
  exact dispose_keeps (by assumption)

theorem addItem_keeps {a s : State} {v1} (h : Keeps a s) :
    Keeps a (@State.addItem s v1) := by
  unfold State.addItem
  exact setItems_keeps (by assumption)

theorem takeHead_keeps {a s : State} {v1 v2 v3} (h : Keeps a s) :
    Keeps a (@State.takeHead s v1 v2 v3) := by
  unfold State.takeHead
  exact preResolve_keeps (queueCheck_keeps (setn_keeps (setQueue_keeps (by assumption))))

theorem advanceCounter_keeps {a s : State} {v1} (h : Keeps a s) :
    Keeps a (@State.advanceCounter s v1) := by
  unfold State.advanceCounter
  extract_lets +onlyGivenNames x1
  clear_value x1
  extract_lets +onlyGivenNames x2
  clear_value x2
  extract_lets +onlyGivenNames x3
  clear_value x3
  extract_lets +onlyGivenNames x4
  clear_value x4
  extract_lets +onlyGivenNames x5
  have h5 : Keeps a x5 := by
    unfold x5
    exact inc64_keeps (by assumption)
  clear_value x5
  refine Keeps.ite ?_ ?_
  · exact seti_keeps (by assumption)
  · refine Keeps.ite ?_ ?_
    · exact seti_keeps (by assumption)
    · exact seti_keeps (setb_keeps (by assumption))

theorem composeBinding_keeps {a s : State} {v1 v2 v3} (h : Keeps a s) :
    Keeps a (@State.composeBinding s v1 v2 v3) := by
  unfold State.composeBinding
  split
  · assumption
  · extract_lets +onlyGivenNames x1
    clear_value x1
    split
    · exact composeError_keeps (by assumption)
    · extract_lets +onlyGivenNames x2
      clear_value x2
      split
      · exact composeError_keeps (by assumption)
      · extract_lets +onlyGivenNames x3
        clear_value x3
        extract_lets +onlyGivenNames x4
        have h4 : Keeps a x4 := by
          unfold x4
          refine Keeps.foldl ?_ (fun y5 z5 h5 => ?_)
          · assumption
          · exact advanceCounter_keeps (by assumption)
        clear_value x4
        extract_lets +onlyGivenNames x6
        have h6 : Keeps a x6 := by
          unfold x6
          exact journal_keeps (by assumption)
        clear_value x6
        split
        · exact composeError_keeps (by assumption)
        · extract_lets +onlyGivenNames x7
          clear_value x7
          extract_lets +onlyGivenNames x8
          clear_value x8
          extract_lets +onlyGivenNames x9
          clear_value x9
          extract_lets +onlyGivenNames x10
          have h10 : Keeps a x10 := by
            unfold x10
            exact bindWeighed_keeps (by assumption)
          clear_value x10
          extract_lets +onlyGivenNames x11
          clear_value x11
          extract_lets +onlyGivenNames x12
          have h12 : Keeps a x12 := by
            unfold x12
            exact modItem_keeps (by assumption)
          clear_value x12
          split
          · exact composeError_keeps (by assumption)
          · split
            · exact composeError_keeps (by assumption)
            · refine Keeps.ite ?_ ?_
              · exact composeError_keeps (by assumption)
              · extract_lets +onlyGivenNames x13
                clear_value x13
                exact queueSymbols_keeps (by assumption)

theorem setTargets_keeps {a s : State} {v1 v2} (h : Keeps a s) :
    Keeps a (@State.setTargets s v1 v2) := by
  unfold State.setTargets
  refine Keeps.foldl ?_ (fun y1 z1 h1 => ?_)
  · assumption
  · refine Keeps.ite ?_ ?_
    · exact setGrid_keeps (by assumption)
    · assumption

theorem bindHead_keeps {a s : State} {v1 v2} (h : Keeps a s) :
    Keeps a (@State.bindHead s v1 v2) := by
  unfold State.bindHead
  extract_lets +onlyGivenNames x1
  clear_value x1
  extract_lets +onlyGivenNames x2
  clear_value x2
  split
  · extract_lets +onlyGivenNames x3
    clear_value x3
    exact composeError_keeps (addItem_keeps (by assumption))
  · extract_lets +onlyGivenNames x4
    clear_value x4
    extract_lets +onlyGivenNames x5
    clear_value x5
    extract_lets +onlyGivenNames x6
    clear_value x6
    exact composeBinding_keeps (setTargets_keeps (addItem_keeps (by assumption)))

theorem acceptTrigger_keeps {a s : State} {v1 v2} (h : Keeps a s) :
    Keeps a (@State.acceptTrigger s v1 v2) := by
  unfold State.acceptTrigger
  extract_lets +onlyGivenNames x1
  clear_value x1
  extract_lets +onlyGivenNames x2
  have h2 : Keeps a x2 := by
    unfold x2
    exact inc64_keeps (setn_keeps (by assumption))
  clear_value x2
  extract_lets +onlyGivenNames x3
  clear_value x3
  extract_lets +onlyGivenNames x4
  clear_value x4
  extract_lets +onlyGivenNames x5
  clear_value x5
  extract_lets +onlyGivenNames x6
  clear_value x6
  extract_lets +onlyGivenNames x7
  have h7 : Keeps a x7 := by
    unfold x7
    split
    · exact dispose_keeps (addItem_keeps (by assumption))
    · extract_lets +onlyGivenNames x8
      clear_value x8
      extract_lets +onlyGivenNames x9
      have h9 : Keeps a x9 := by
        unfold x9
        exact takeHead_keeps (by assumption)
      clear_value x9
      refine Keeps.ite ?_ ?_
      · exact dispose_keeps (addItem_keeps (by assumption))
      · refine Keeps.ite ?_ ?_
        · exact dispose_keeps (addItem_keeps (by assumption))
        · split
          · exact dispose_keeps (addItem_keeps (by assumption))
          · refine Keeps.ite ?_ ?_
            · exact dispose_keeps (addItem_keeps (by assumption))
            · exact bindHead_keeps (by assumption)
  clear_value x7
  exact mirror_keeps (journal_keeps (by assumption))

theorem acceptRecord_keeps {a s : State} {v1 v2} (h : Keeps a s) :
    Keeps a (@State.acceptRecord s v1 v2) := by
  unfold State.acceptRecord
  extract_lets +onlyGivenNames x1
  have h1 : Keeps a x1 := by
    unfold x1
    exact setQueue_keeps (by assumption)
  clear_value x1
  extract_lets +onlyGivenNames x2
  have h2 : Keeps a x2 := by
    unfold x2
    exact inc64_keeps (setn_keeps (by assumption))
  clear_value x2
  exact preResolve_keeps (queueCheck_keeps (by assumption))

theorem execVerdictTimeout_keeps {a s : State} {v0 v1} (h : Keeps a s) :
    OutKeeps a (@execVerdictTimeout v0 v1 s) := by
  unfold execVerdictTimeout
  extract_lets +onlyGivenNames x1
  have h1 : Keeps a x1 := by
    unfold x1
    exact atTime_keeps (by assumption)
  clear_value x1
  split
  · refine OutKeeps.ok ?_
    refine Keeps.ite ?_ ?_
    · exact recordVerdict_keeps (by assumption)
    · assumption
  · exact OutKeeps.ok (by assumption)

theorem countRefusal_keeps {a s : State} {v1 v2} (h : Keeps a s) :
    Keeps a (@State.countRefusal s v1 v2) := by
  unfold State.countRefusal
  extract_lets +onlyGivenNames x1
  clear_value x1
  refine Keeps.ite ?_ ?_
  · assumption
  · exact setn_keeps (inc32_keeps (by assumption))

theorem execItemPut_keeps {a s : State} {v0 v1 v2} (h : Keeps a s) :
    OutKeeps a (@execItemPut v0 v1 v2 s) := by
  unfold execItemPut
  extract_lets +onlyGivenNames x1
  have h1 : Keeps a x1 := by
    unfold x1
    exact atTime_keeps (by assumption)
  clear_value x1
  extract_lets +onlyGivenNames x2
  have h2 : Keeps a x2.1 := by
    unfold x2
    exact take_keeps (by assumption)
  clear_value x2
  refine OutKeeps.ite ?_ ?_
  · exact OutKeeps.ok (by assumption)
  · extract_lets +onlyGivenNames x3
    have h3 : Keeps a x3 := by
      unfold x3
      assumption
    clear_value x3
    extract_lets +onlyGivenNames x4
    clear_value x4
    extract_lets +onlyGivenNames x5
    clear_value x5
    extract_lets +onlyGivenNames x6
    clear_value x6
    split
    · extract_lets +onlyGivenNames x7
      have h7 : Keeps a x7 := by
        unfold x7
        exact acceptRecord_keeps (by assumption)
      clear_value x7
      refine OutKeeps.ok ?_
      refine Keeps.ite ?_ ?_
      · exact answer_keeps (by assumption)
      · exact mirror_keeps (by assumption)
    · extract_lets +onlyGivenNames x8
      have h8 : Keeps a x8 := by
        unfold x8
        exact countRefusal_keeps (by assumption)
      clear_value x8
      refine OutKeeps.ok ?_
      refine Keeps.ite ?_ ?_
      · exact send_keeps (by assumption)
      · assumption

theorem execSymbolEncoded_keeps {a s : State} {v0 v1} (h : Keeps a s) :
    OutKeeps a (@execSymbolEncoded v0 v1 s) := by
  unfold execSymbolEncoded
  extract_lets +onlyGivenNames x1
  have h1 : Keeps a x1 := by
    unfold x1
    exact atTime_keeps (by assumption)
  clear_value x1
  split
  · exact OutKeeps.ok (by assumption)
  · extract_lets +onlyGivenNames x2
    clear_value x2
    extract_lets +onlyGivenNames x3
    clear_value x3
    extract_lets +onlyGivenNames x4
    have h4 : Keeps a x4 := by
      unfold x4
      refine Keeps.same (b := x1) rfl rfl rfl rfl rfl rfl rfl rfl rfl ?_
      assumption
    clear_value x4
    extract_lets +onlyGivenNames x5
    have h5 : Keeps a x5 := by
      unfold x5
      exact setn_keeps (inc64_keeps (by assumption))
    clear_value x5
    exact OutKeeps.ok (startEngine_keeps (by assumption))

end Sys2Proof.Machine
end

