-- ==== Sys2Proof/Laws/KeepsB.lean ====
section
/-! SUPPORT. What the operations of these files keep, by `Keeps`: Web, Image, Firing, Insp. -/

set_option Elab.async false

namespace Sys2Proof.Machine

theorem advanceTo_keeps {a s : State} {v1} (h : Keeps a s) :
    Keeps a (@State.advanceTo s v1) := by
  unfold State.advanceTo
  extract_lets +onlyGivenNames x1
  clear_value x1
  extract_lets +onlyGivenNames x2
  clear_value x2
  extract_lets +onlyGivenNames x3
  clear_value x3
  exact setWeb_keeps (by assumption)

theorem execEdgeOverdue_keeps {a s : State} {v0} (h : Keeps a s) :
    OutKeeps a (@execEdgeOverdue v0 s) := by
  unfold execEdgeOverdue
  extract_lets +onlyGivenNames x1
  have h1 : Keeps a x1 := by
    unfold x1
    exact moveX_keeps (atTime_keeps (by assumption))
  clear_value x1
  refine OutKeeps.ite ?_ ?_
  · exact OutKeeps.ok (by assumption)
  · refine OutKeeps.ite ?_ ?_
    · refine OutKeeps.ok ?_
      refine Keeps.ite ?_ ?_
      · exact loseTrack_keeps (by assumption)
      · exact coast_keeps (by assumption)
    · exact OutKeeps.ok (standstill_keeps (by assumption))

theorem closePassed_keeps {a s : State} (h : Keeps a s) :
    Keeps a (@State.closePassed s) := by
  unfold State.closePassed
  extract_lets +onlyGivenNames x1
  have h1 : Keeps a x1 := by
    unfold x1
    refine Keeps.foldl ?_ (fun y2 z2 h2 => ?_)
    · assumption
    · exact endWindow_keeps (by assumption)
  clear_value x1
  refine Keeps.foldl ?_ (fun y3 z3 h3 => ?_)
  · assumption
  · exact drain_keeps (by assumption)

theorem passBeam_keeps {a s : State} {v1 v2} (h : Keeps a s) :
    Keeps a (@State.passBeam s v1 v2) := by
  unfold State.passBeam
  exact closePassed_keeps (setItems_keeps (by assumption))

theorem beamIdle_keeps {a s : State} {v1 v2} (h : Keeps a s) :
    Keeps a (@State.beamIdle s v1 v2) := by
  unfold State.beamIdle
  extract_lets +onlyGivenNames x1
  clear_value x1
  extract_lets +onlyGivenNames x2
  clear_value x2
  extract_lets +onlyGivenNames x3
  clear_value x3
  refine Keeps.ite ?_ ?_
  · assumption
  · extract_lets +onlyGivenNames x4
    clear_value x4
    extract_lets +onlyGivenNames x5
    clear_value x5
    extract_lets +onlyGivenNames x6
    have h6 : Keeps a x6 := by
      unfold x6
      exact setGrid_keeps (by assumption)
    clear_value x6
    extract_lets +onlyGivenNames x7
    have h7 : Keeps a x7 := by
      unfold x7
      refine Keeps.ite ?_ ?_
      · refine Keeps.foldl ?_ (fun y8 z8 h8 => ?_)
        · assumption
        · refine Keeps.ite ?_ ?_
          · exact dispose_keeps (by assumption)
          · exact dispose_keeps (by assumption)
      · assumption
    clear_value x7
    exact passBeam_keeps (by assumption)

theorem setTrueCount_keeps {a s : State} {v1} (h : Keeps a s) :
    Keeps a (@State.setTrueCount s v1) := by
  unfold State.setTrueCount
  extract_lets +onlyGivenNames x1
  clear_value x1
  extract_lets +onlyGivenNames x2
  clear_value x2
  extract_lets +onlyGivenNames x3
  have h3 : Keeps a x3 := by
    unfold x3
    exact setEnc_keeps (by assumption)
  clear_value x3
  exact setWeb_keeps (by assumption)

theorem skipLines_keeps {a s : State} {v1} (h : Keeps a s) :
    Keeps a (@State.skipLines s v1) := by
  unfold State.skipLines
  extract_lets +onlyGivenNames x1
  clear_value x1
  extract_lets +onlyGivenNames x2
  clear_value x2
  refine Keeps.ite ?_ ?_
  · assumption
  · extract_lets +onlyGivenNames x3
    have h3 : Keeps a x3 := by
      unfold x3
      exact setGrid_keeps (by assumption)
    clear_value x3
    extract_lets +onlyGivenNames x4
    have h4 : Keeps a x4 := by
      unfold x4
      exact setItems_keeps (by assumption)
    clear_value x4
    refine Keeps.ite ?_ ?_
    · extract_lets +onlyGivenNames x5
      have h5 : Keeps a x5 := by
        unfold x5
        exact bump_keeps (seti_keeps (by assumption))
      clear_value x5
      exact fetch_keeps (by assumption)
    · assumption

theorem breakItems_keeps {a s : State} (h : Keeps a s) :
    Keeps a (@State.breakItems s) := by
  unfold State.breakItems
  extract_lets +onlyGivenNames x1
  have h1 : Keeps a x1 := by
    unfold x1
    exact setItems_keeps (by assumption)
  clear_value x1
  extract_lets +onlyGivenNames x2
  have h2 : Keeps a x2 := by
    unfold x2
    exact disposeAll_keeps (by assumption)
  clear_value x2
  exact setItems_keeps (by assumption)

theorem regBreak_keeps {a s : State} {v1 v2} (h : Keeps a s) :
    Keeps a (@State.regBreak s v1 v2) := by
  unfold State.regBreak
  extract_lets +onlyGivenNames x1
  have h1 : Keeps a x1 := by
    unfold x1
    exact setTrueCount_keeps (by assumption)
  clear_value x1
  extract_lets +onlyGivenNames x2
  have h2 : Keeps a x2 := by
    unfold x2
    exact jumpX_keeps (by assumption)
  clear_value x2
  extract_lets +onlyGivenNames x3
  clear_value x3
  extract_lets +onlyGivenNames x4
  have h4 : Keeps a x4 := by
    unfold x4
    exact setWeb_keeps (by assumption)
  clear_value x4
  extract_lets +onlyGivenNames x5
  clear_value x5
  extract_lets +onlyGivenNames x6
  have h6 : Keeps a x6 := by
    unfold x6
    exact setWeb_keeps (by assumption)
  clear_value x6
  extract_lets +onlyGivenNames x7
  clear_value x7
  extract_lets +onlyGivenNames x8
  have h8 : Keeps a x8 := by
    unfold x8
    refine Keeps.ite ?_ ?_
    · refine Keeps.foldl ?_ (fun y9 z9 h9 => ?_)
      · assumption
      · exact skipLines_keeps (by assumption)
    · exact setWeb_keeps (by assumption)
  clear_value x8
  exact closePassed_keeps (breakItems_keeps (inc32_keeps (by assumption)))

theorem keepBand_keeps {a s : State} {v1} (h : Keeps a s) :
    Keeps a (@State.keepBand s v1) := by
  unfold State.keepBand
  refine Keeps.ite ?_ ?_
  · exact setWeb_keeps (by assumption)
  · assumption

theorem polygonItem_keeps {a s : State} {v1} (h : Keeps a s) :
    Keeps a (@State.polygonItem s v1) := by
  unfold State.polygonItem
  refine Keeps.ite ?_ ?_
  · exact dispose_keeps (by assumption)
  · assumption

theorem abandonBars_keeps {a s : State} {v1} (h : Keeps a s) :
    Keeps a (@State.abandonBars s v1) := by
  unfold State.abandonBars
  extract_lets +onlyGivenNames x1
  clear_value x1
  extract_lets +onlyGivenNames x2
  clear_value x2
  extract_lets +onlyGivenNames x3
  have h3 : Keeps a x3 := by
    unfold x3
    refine Keeps.same (b := s) rfl rfl rfl rfl rfl rfl rfl rfl rfl ?_
    assumption
  clear_value x3
  refine Keeps.foldl ?_ (fun y4 z4 h4 => ?_)
  · assumption
  · exact event_keeps (inc32_keeps (by assumption))

theorem bindTrigger_keeps {a s : State} {v1 v2} (h : Keeps a s) :
    Keeps a (@State.bindTrigger s v1 v2) := by
  unfold State.bindTrigger
  extract_lets +onlyGivenNames x1
  clear_value x1
  extract_lets +onlyGivenNames x2
  have h2 : Keeps a x2 := by
    unfold x2
    exact acceptTrigger_keeps (by assumption)
  clear_value x2
  split
  · exact polygonItem_keeps (abandonBars_keeps (by assumption))
  · assumption

theorem withVelocity_keeps {a s : State} (h : Keeps a s) :
    Keeps a (@State.withVelocity s) := by
  unfold State.withVelocity
  extract_lets +onlyGivenNames x1
  clear_value x1
  split
  · refine Keeps.ite ?_ ?_
    · assumption
    · exact setWeb_keeps (by assumption)
  · assumption

theorem pulseCam_keeps {a s : State} {v1} (h : Keeps a s) :
    Keeps a (@State.pulseCam s v1).1 := by
  unfold State.pulseCam
  extract_lets +onlyGivenNames x1
  clear_value x1
  split
  · dsimp only
    exact inc32_keeps (by assumption)
  · dsimp only
    exact inc64_keeps (setWeb_keeps (by assumption))

theorem idleUnits_keeps {a s : State} (h : Keeps a s) :
    Keeps a (@State.idleUnits s) := by
  unfold State.idleUnits
  exact beamIdle_keeps (beamIdle_keeps (by assumption))

theorem jumpEvent_keeps {a s : State} {v1 v2} (h : Keeps a s) :
    Keeps a (@State.jumpEvent s v1 v2) := by
  unfold State.jumpEvent
  exact webEvent_keeps (by assumption)

theorem returned_keeps {a s : State} (h : Keeps a s) :
    Keeps a (@State.returned s) := by
  unfold State.returned
  extract_lets +onlyGivenNames x1
  clear_value x1
  extract_lets +onlyGivenNames x2
  clear_value x2
  extract_lets +onlyGivenNames x3
  clear_value x3
  extract_lets +onlyGivenNames x4
  clear_value x4
  extract_lets +onlyGivenNames x5
  clear_value x5
  extract_lets +onlyGivenNames x6
  have h6 : Keeps a x6 := by
    unfold x6
    exact setn_keeps (seti_keeps (by assumption))
  clear_value x6
  extract_lets +onlyGivenNames x7
  clear_value x7
  extract_lets +onlyGivenNames x8
  clear_value x8
  extract_lets +onlyGivenNames x9
  have h9 : Keeps a x9 := by
    unfold x9
    exact setWeb_keeps (by assumption)
  clear_value x9
  refine Keeps.ite ?_ ?_
  · extract_lets +onlyGivenNames x10
    have h10 : Keeps a x10 := by
      unfold x10
      exact regBreak_keeps (by assumption)
    clear_value x10
    extract_lets +onlyGivenNames x11
    clear_value x11
    extract_lets +onlyGivenNames x12
    have h12 : Keeps a x12 := by
      unfold x12
      refine Keeps.ite ?_ ?_
      · exact withVelocity_keeps (setWeb_keeps (by assumption))
      · assumption
    clear_value x12
    exact jumpEvent_keeps (enter_keeps (by assumption))
  · extract_lets +onlyGivenNames x13
    have h13 : Keeps a x13 := by
      unfold x13
      exact setTrueCount_keeps (by assumption)
    clear_value x13
    extract_lets +onlyGivenNames x14
    clear_value x14
    extract_lets +onlyGivenNames x15
    have h15 : Keeps a x15 := by
      unfold x15
      exact setWeb_keeps (by assumption)
    clear_value x15
    extract_lets +onlyGivenNames x16
    have h16 : Keeps a x16 := by
      unfold x16
      exact withVelocity_keeps (follow_keeps (by assumption))
    clear_value x16
    extract_lets +onlyGivenNames x17
    have h17 : Keeps a x17 := by
      unfold x17
      exact setItems_keeps (by assumption)
    clear_value x17
    exact jumpEvent_keeps (enter_keeps (by assumption))

theorem returnEdge_keeps {a s : State} (h : Keeps a s) :
    Keeps a (@State.returnEdge s) := by
  unfold State.returnEdge
  extract_lets +onlyGivenNames x1
  clear_value x1
  extract_lets +onlyGivenNames x2
  clear_value x2
  extract_lets +onlyGivenNames x3
  have h3 : Keeps a x3 := by
    unfold x3
    exact setWeb_keeps (by assumption)
  clear_value x3
  refine Keeps.ite ?_ ?_
  · exact returned_keeps (by assumption)
  · assumption

theorem rebase_keeps {a s : State} (h : Keeps a s) :
    Keeps a (@State.rebase s) := by
  unfold State.rebase
  extract_lets +onlyGivenNames x1
  clear_value x1
  extract_lets +onlyGivenNames x2
  clear_value x2
  extract_lets +onlyGivenNames x3
  clear_value x3
  extract_lets +onlyGivenNames x4
  clear_value x4
  extract_lets +onlyGivenNames x5
  have h5 : Keeps a x5 := by
    unfold x5
    exact setWeb_keeps (by assumption)
  clear_value x5
  exact webEvent_keeps (enter_keeps (withVelocity_keeps (by assumption)))

theorem reacqEdge_keeps {a s : State} (h : Keeps a s) :
    Keeps a (@State.reacqEdge s) := by
  unfold State.reacqEdge
  extract_lets +onlyGivenNames x1
  clear_value x1
  extract_lets +onlyGivenNames x2
  clear_value x2
  extract_lets +onlyGivenNames x3
  have h3 : Keeps a x3 := by
    unfold x3
    exact setWeb_keeps (by assumption)
  clear_value x3
  extract_lets +onlyGivenNames x4
  have h4 : Keeps a x4 := by
    unfold x4
    refine Keeps.ite ?_ ?_
    · exact enter_keeps (by assumption)
    · assumption
  clear_value x4
  refine Keeps.ite ?_ ?_
  · exact rebase_keeps (by assumption)
  · assumption

theorem newGround_keeps {a s : State} {v1} (h : Keeps a s) :
    Keeps a (@State.newGround s v1) := by
  unfold State.newGround
  extract_lets +onlyGivenNames x1
  clear_value x1
  extract_lets +onlyGivenNames x2
  clear_value x2
  extract_lets +onlyGivenNames x3
  clear_value x3
  extract_lets +onlyGivenNames x4
  have h4 : Keeps a x4 := by
    unfold x4
    exact setWeb_keeps (by assumption)
  clear_value x4
  exact advanceTo_keeps (withVelocity_keeps (by assumption))

theorem backstep_keeps {a s : State} (h : Keeps a s) :
    Keeps a (@State.backstep s) := by
  unfold State.backstep
  exact inc32_keeps (enter_keeps (by assumption))

theorem countEdge_keeps {a s : State} {v1} (h : Keeps a s) :
    Keeps a (@State.countEdge s v1) := by
  unfold State.countEdge
  extract_lets +onlyGivenNames x1
  clear_value x1
  refine Keeps.ite ?_ ?_
  · extract_lets +onlyGivenNames x2
    clear_value x2
    extract_lets +onlyGivenNames x3
    have h3 : Keeps a x3 := by
      unfold x3
      exact newGround_keeps (by assumption)
    clear_value x3
    refine Keeps.ite ?_ ?_
    · exact webEvent_keeps (enter_keeps (by assumption))
    · refine Keeps.ite ?_ ?_
      · exact advise_keeps (by assumption)
      · exact enter_keeps (by assumption)
  · extract_lets +onlyGivenNames x4
    clear_value x4
    refine Keeps.ite ?_ ?_
    · refine Keeps.ite ?_ ?_
      · assumption
      · exact reverse_keeps (by assumption)
    · refine Keeps.ite ?_ ?_
      · refine Keeps.ite ?_ ?_
        · exact backstep_keeps (by assumption)
        · assumption
      · assumption

theorem webEdge_keeps {a s : State} {v1} (h : Keeps a s) :
    Keeps a (@State.webEdge s v1) := by
  unfold State.webEdge
  extract_lets +onlyGivenNames x1
  clear_value x1
  refine Keeps.ite ?_ ?_
  · assumption
  · refine Keeps.ite ?_ ?_
    · refine Keeps.ite ?_ ?_
      · exact returnEdge_keeps (by assumption)
      · exact setWeb_keeps (by assumption)
    · refine Keeps.ite ?_ ?_
      · refine Keeps.ite ?_ ?_
        · exact reacqEdge_keeps (by assumption)
        · exact setWeb_keeps (by assumption)
      · exact countEdge_keeps (by assumption)

theorem runEncoderEdge_keeps {a s : State} {v0 v1 v2 v3} (h : Keeps a s) :
    OutKeeps a (@runEncoderEdge v0 v1 v2 v3 s) := by
  unfold runEncoderEdge
  extract_lets +onlyGivenNames x1
  have h1 : Keeps a x1 := by
    unfold x1
    exact atTime_keeps (by assumption)
  clear_value x1
  extract_lets +onlyGivenNames x2
  clear_value x2
  extract_lets +onlyGivenNames x3
  clear_value x3
  extract_lets +onlyGivenNames x4
  clear_value x4
  extract_lets +onlyGivenNames x5
  clear_value x5
  extract_lets +onlyGivenNames x6
  clear_value x6
  extract_lets +onlyGivenNames x7
  clear_value x7
  refine OutKeeps.ite ?_ ?_
  · exact OutKeeps.ok (setEnc_keeps (by assumption))
  · refine OutKeeps.ite ?_ ?_
    · extract_lets +onlyGivenNames x8
      have h8 : Keeps a x8 := by
        unfold x8
        exact inc32_keeps (setEnc_keeps (by assumption))
      clear_value x8
      extract_lets +onlyGivenNames x9
      have h9 : Keeps a x9 := by
        unfold x9
        exact setn_keeps (by assumption)
      clear_value x9
      refine OutKeeps.ok ?_
      refine Keeps.ite ?_ ?_
      · exact trackFault_keeps (moveX_keeps (by assumption))
      · assumption
    · extract_lets +onlyGivenNames x10
      clear_value x10
      extract_lets +onlyGivenNames x11
      clear_value x11
      extract_lets +onlyGivenNames x12
      clear_value x12
      extract_lets +onlyGivenNames x13
      have h13 : Keeps a x13 := by
        unfold x13
        refine Keeps.ite ?_ ?_
        · exact moveX_keeps (by assumption)
        · assumption
      clear_value x13
      extract_lets +onlyGivenNames x14
      clear_value x14
      extract_lets +onlyGivenNames x15
      have h15 : Keeps a x15 := by
        unfold x15
        refine Keeps.ite ?_ ?_
        · exact keepBand_keeps (by assumption)
        · assumption
      clear_value x15
      extract_lets +onlyGivenNames x16
      have h16 : Keeps a x16 := by
        unfold x16
        exact setEnc_keeps (by assumption)
      clear_value x16
      refine OutKeeps.ite ?_ ?_
      · extract_lets +onlyGivenNames x17
        clear_value x17
        extract_lets +onlyGivenNames x18
        have h18 : Keeps a x18 := by
          unfold x18
          exact setWeb_keeps (by assumption)
        clear_value x18
        exact OutKeeps.ok (idleUnits_keeps (webEdge_keeps (by assumption)))
      · exact OutKeeps.ok (by assumption)

theorem shadowStamp_keeps {a s : State} {v1 v2} (h : Keeps a s) :
    Keeps a (@State.shadowStamp s v1 v2) := by
  unfold State.shadowStamp
  extract_lets +onlyGivenNames x1
  clear_value x1
  split
  · extract_lets +onlyGivenNames x2
    clear_value x2
    extract_lets +onlyGivenNames x3
    have h3 : Keeps a x3 := by
      unfold x3
      refine Keeps.same (b := s) rfl rfl rfl rfl rfl rfl rfl rfl rfl ?_
      assumption
    clear_value x3
    refine Keeps.ite ?_ ?_
    · exact testBit_keeps (by assumption)
    · exact failBit_keeps (inc32_keeps (by assumption))
  · refine Keeps.same (b := s) rfl rfl rfl rfl rfl rfl rfl rfl rfl ?_
    assumption

theorem laneTrigger_keeps {a s : State} {v1 v2} (h : Keeps a s) :
    Keeps a (@State.laneTrigger s v1 v2) := by
  unfold State.laneTrigger
  extract_lets +onlyGivenNames x1
  have h1 : Keeps a x1 := by
    unfold x1
    exact inc64_keeps (by assumption)
  clear_value x1
  extract_lets +onlyGivenNames x2
  clear_value x2
  refine Keeps.ite ?_ ?_
  · exact inc32_keeps (by assumption)
  · refine Keeps.ite ?_ ?_
    · exact inc32_keeps (by assumption)
    · extract_lets +onlyGivenNames x3
      clear_value x3
      extract_lets +onlyGivenNames x4
      have h4 : Keeps a x4 := by
        unfold x4
        exact setWeb_keeps (by assumption)
      clear_value x4
      extract_lets +onlyGivenNames x5
      have h5 : Keeps a x5 := by
        unfold x5
        exact setn_keeps (seti_keeps (by assumption))
      clear_value x5
      refine Keeps.ite ?_ ?_
      · exact bindTrigger_keeps (by assumption)
      · refine Keeps.ite ?_ ?_
        · exact shadowStamp_keeps (by assumption)
        · assumption

theorem pairMark_keeps {a s : State} {v1 v2 v3} (h : Keeps a s) :
    Keeps a (@State.pairMark s v1 v2 v3) := by
  unfold State.pairMark
  extract_lets +onlyGivenNames x1
  clear_value x1
  extract_lets +onlyGivenNames x2
  clear_value x2
  extract_lets +onlyGivenNames x3
  clear_value x3
  extract_lets +onlyGivenNames x4
  clear_value x4
  extract_lets +onlyGivenNames x5
  have h5 : Keeps a x5 := by
    unfold x5
    exact modItem_keeps (by assumption)
  clear_value x5
  extract_lets +onlyGivenNames x6
  clear_value x6
  extract_lets +onlyGivenNames x7
  have h7 : Keeps a x7 := by
    unfold x7
    exact setWeb_keeps (by assumption)
  clear_value x7
  exact seti_keeps (seti_keeps (by assumption))

theorem correctMark_keeps {a s : State} {v1 v2} (h : Keeps a s) :
    Keeps a (@State.correctMark s v1 v2) := by
  unfold State.correctMark
  extract_lets +onlyGivenNames x1
  clear_value x1
  split
  · exact pairMark_keeps (by assumption)
  · exact inc32_keeps (by assumption)

theorem execLubberMark_keeps {a s : State} {v0 v1 v2} (h : Keeps a s) :
    OutKeeps a (@execLubberMark v0 v1 v2 s) := by
  unfold execLubberMark
  extract_lets +onlyGivenNames x1
  have h1 : Keeps a x1 := by
    unfold x1
    exact moveX_keeps (atTime_keeps (by assumption))
  clear_value x1
  refine OutKeeps.ite ?_ ?_
  · exact OutKeeps.ok (by assumption)
  · extract_lets +onlyGivenNames x2
    clear_value x2
    refine OutKeeps.ite ?_ ?_
    · refine OutKeeps.ok ?_
      refine Keeps.foldl ?_ (fun y3 z3 h3 => ?_)
      · assumption
      · refine Keeps.ite ?_ ?_
        · exact laneTrigger_keeps (by assumption)
        · assumption
    · exact OutKeeps.ok (correctMark_keeps (by assumption))

theorem execEncoderLineFaultClear_keeps {a s : State} {v0 v1 v2} (h : Keeps a s) :
    OutKeeps a (@execEncoderLineFaultClear v0 v1 v2 s) := by
  unfold execEncoderLineFaultClear
  extract_lets +onlyGivenNames x1
  have h1 : Keeps a x1 := by
    unfold x1
    exact atTime_keeps (by assumption)
  clear_value x1
  exact OutKeeps.ok (setn_keeps (by assumption))

theorem zMismatch_keeps {a s : State} {v1} (h : Keeps a s) :
    Keeps a (@State.zMismatch s v1) := by
  unfold State.zMismatch
  extract_lets +onlyGivenNames x1
  clear_value x1
  extract_lets +onlyGivenNames x2
  have h2 : Keeps a x2 := by
    unfold x2
    exact seti_keeps (by assumption)
  clear_value x2
  refine Keeps.ite ?_ ?_
  · extract_lets +onlyGivenNames x3
    clear_value x3
    extract_lets +onlyGivenNames x4
    clear_value x4
    extract_lets +onlyGivenNames x5
    have h5 : Keeps a x5 := by
      unfold x5
      exact setTrueCount_keeps (by assumption)
    clear_value x5
    extract_lets +onlyGivenNames x6
    clear_value x6
    extract_lets +onlyGivenNames x7
    have h7 : Keeps a x7 := by
      unfold x7
      exact setWeb_keeps (by assumption)
    clear_value x7
    exact jumpEvent_keeps (follow_keeps (by assumption))
  · exact jumpEvent_keeps (jumpEvent_keeps (enter_keeps (regBreak_keeps (by assumption))))

theorem runZEdge_keeps {a s : State} {v0 v1 v2} (h : Keeps a s) :
    OutKeeps a (@runZEdge v0 v1 v2 s) := by
  unfold runZEdge
  extract_lets +onlyGivenNames x1
  have h1 : Keeps a x1 := by
    unfold x1
    exact atTime_keeps (by assumption)
  clear_value x1
  extract_lets +onlyGivenNames x2
  clear_value x2
  extract_lets +onlyGivenNames x3
  have h3 : Keeps a x3 := by
    unfold x3
    exact setEnc_keeps (by assumption)
  clear_value x3
  extract_lets +onlyGivenNames x4
  clear_value x4
  refine OutKeeps.ite ?_ ?_
  · exact OutKeeps.ok (by assumption)
  · extract_lets +onlyGivenNames x5
    have h5 : Keeps a x5 := by
      unfold x5
      exact moveX_keeps (by assumption)
    clear_value x5
    extract_lets +onlyGivenNames x6
    clear_value x6
    split
    · exact OutKeeps.ok (setWeb_keeps (by assumption))
    · extract_lets +onlyGivenNames x7
      clear_value x7
      refine OutKeeps.ite ?_ ?_
      · exact OutKeeps.ok (by assumption)
      · exact OutKeeps.ok (zMismatch_keeps (by assumption))

theorem execDataLateReasonExpiry_keeps {a s : State} {v0} (h : Keeps a s) :
    OutKeeps a (@execDataLateReasonExpiry v0 s) := by
  unfold execDataLateReasonExpiry
  exact OutKeeps.ok (setReason_keeps (moveX_keeps (atTime_keeps (by assumption))))

theorem execEncoderLineFault_keeps {a s : State} {v0 v1 v2} (h : Keeps a s) :
    OutKeeps a (@execEncoderLineFault v0 v1 v2 s) := by
  unfold execEncoderLineFault
  extract_lets +onlyGivenNames x1
  have h1 : Keeps a x1 := by
    unfold x1
    exact atTime_keeps (by assumption)
  clear_value x1
  extract_lets +onlyGivenNames x2
  clear_value x2
  extract_lets +onlyGivenNames x3
  have h3 : Keeps a x3 := by
    unfold x3
    exact setn_keeps (by assumption)
  clear_value x3
  refine OutKeeps.ite ?_ ?_
  · exact OutKeeps.ok (trackFault_keeps (moveX_keeps (by assumption)))
  · exact OutKeeps.ok (by assumption)

theorem execCamPulseEnd_keeps {a s : State} {v0 v1} (h : Keeps a s) :
    OutKeeps a (@execCamPulseEnd v0 v1 s) := by
  unfold execCamPulseEnd
  extract_lets +onlyGivenNames x1
  have h1 : Keeps a x1 := by
    unfold x1
    exact atTime_keeps (by assumption)
  clear_value x1
  extract_lets +onlyGivenNames x2
  clear_value x2
  exact OutKeeps.ok (setWeb_keeps (by assumption))

theorem execCoastLimitExceeded_keeps {a s : State} {v0} (h : Keeps a s) :
    OutKeeps a (@execCoastLimitExceeded v0 s) := by
  unfold execCoastLimitExceeded
  extract_lets +onlyGivenNames x1
  have h1 : Keeps a x1 := by
    unfold x1
    exact moveX_keeps (atTime_keeps (by assumption))
  clear_value x1
  refine OutKeeps.ite ?_ ?_
  · exact OutKeeps.ok (loseTrack_keeps (setn_keeps (by assumption)))
  · exact OutKeeps.ok (by assumption)

theorem execTriggerEdge_keeps {a s : State} {v0 v1 v2} (h : Keeps a s) :
    OutKeeps a (@execTriggerEdge v0 v1 v2 s) := by
  unfold execTriggerEdge
  extract_lets +onlyGivenNames x1
  have h1 : Keeps a x1 := by
    unfold x1
    exact moveX_keeps (atTime_keeps (by assumption))
  clear_value x1
  extract_lets +onlyGivenNames x2
  clear_value x2
  refine OutKeeps.ite ?_ ?_
  · exact OutKeeps.ok (by assumption)
  · exact OutKeeps.ok (laneTrigger_keeps (by assumption))

theorem execMarkMissing_keeps {a s : State} {v0 v1 v2} (h : Keeps a s) :
    OutKeeps a (@execMarkMissing v0 v1 v2 s) := by
  unfold execMarkMissing
  extract_lets +onlyGivenNames x1
  have h1 : Keeps a x1 := by
    unfold x1
    exact moveX_keeps (atTime_keeps (by assumption))
  clear_value x1
  split
  · exact OutKeeps.ok (by assumption)
  · refine OutKeeps.ite ?_ ?_
    · exact OutKeeps.ok (by assumption)
    · extract_lets +onlyGivenNames x2
      clear_value x2
      extract_lets +onlyGivenNames x3
      have h3 : Keeps a x3 := by
        unfold x3
        exact modItem_keeps (by assumption)
      clear_value x3
      extract_lets +onlyGivenNames x4
      clear_value x4
      extract_lets +onlyGivenNames x5
      have h5 : Keeps a x5 := by
        unfold x5
        exact inc32_keeps (setWeb_keeps (by assumption))
      clear_value x5
      refine OutKeeps.ok ?_
      refine Keeps.ite ?_ ?_
      · exact webEvent_keeps (by assumption)
      · assumption

theorem execCameraTrigger_keeps {a s : State} {v0 v1 v2} (h : Keeps a s) :
    OutKeeps a (@execCameraTrigger v0 v1 v2 s) := by
  unfold execCameraTrigger
  extract_lets +onlyGivenNames x1
  have h1 : Keeps a x1 := by
    unfold x1
    exact moveX_keeps (atTime_keeps (by assumption))
  clear_value x1
  split
  · exact OutKeeps.ok (by assumption)
  · refine OutKeeps.ite ?_ ?_
    · exact OutKeeps.ok (by assumption)
    · extract_lets +onlyGivenNames x2
      have h2 : Keeps a x2 := by
        unfold x2
        exact modItem_keeps (by assumption)
      clear_value x2
      extract_lets +onlyGivenNames x3
      have h3 : Keeps a x3.1 := by
        unfold x3
        exact pulseCam_keeps (by assumption)
      clear_value x3
      refine OutKeeps.ite ?_ ?_
      · exact OutKeeps.ok (queueFrame_keeps (by assumption))
      · extract_lets +onlyGivenNames x4
        have h4 : Keeps a x4 := by
          unfold x4
          exact modItem_keeps (by assumption)
        clear_value x4
        exact OutKeeps.ok (archLost_keeps (camResult_keeps (by assumption)))

theorem execBarCameraTrigger_keeps {a s : State} {v0 v1 v2} (h : Keeps a s) :
    OutKeeps a (@execBarCameraTrigger v0 v1 v2 s) := by
  unfold execBarCameraTrigger
  extract_lets +onlyGivenNames x1
  have h1 : Keeps a x1 := by
    unfold x1
    exact moveX_keeps (atTime_keeps (by assumption))
  clear_value x1
  split
  · exact OutKeeps.ok (by assumption)
  · refine OutKeeps.ite ?_ ?_
    · exact OutKeeps.ok (by assumption)
    · extract_lets +onlyGivenNames x2
      clear_value x2
      extract_lets +onlyGivenNames x3
      have h3 : Keeps a x3 := by
        unfold x3
        refine Keeps.same (b := x1) rfl rfl rfl rfl rfl rfl rfl rfl rfl ?_
        assumption
      clear_value x3
      extract_lets +onlyGivenNames x4
      have h4 : Keeps a x4.1 := by
        unfold x4
        exact pulseCam_keeps (by assumption)
      clear_value x4
      refine OutKeeps.ite ?_ ?_
      · exact OutKeeps.ok (queueFrame_keeps (by assumption))
      · exact OutKeeps.ok (barUnseen_keeps (by assumption))

theorem rejectPulse_keeps {a s : State} {v1 v2 v3 v4} (h : Keeps a s) :
    Keeps a (@State.rejectPulse s v1 v2 v3 v4) := by
  unfold State.rejectPulse
  extract_lets +onlyGivenNames x1
  clear_value x1
  extract_lets +onlyGivenNames x2
  clear_value x2
  extract_lets +onlyGivenNames x3
  have h3 : Keeps a x3 := by
    unfold x3
    exact inc64_keeps (by assumption)
  clear_value x3
  extract_lets +onlyGivenNames x4
  have h4 : Keeps a x4 := by
    unfold x4
    refine Keeps.ite ?_ ?_
    · exact inc32_keeps (by assumption)
    · assumption
  clear_value x4
  extract_lets +onlyGivenNames x5
  have h5 : Keeps a x5 := by
    unfold x5
    exact modItem_keeps (by assumption)
  clear_value x5
  extract_lets +onlyGivenNames x6
  clear_value x6
  extract_lets +onlyGivenNames x7
  clear_value x7
  extract_lets +onlyGivenNames x8
  have h8 : Keeps a x8 := by
    unfold x8
    refine Keeps.same (b := x5) rfl rfl rfl rfl rfl rfl rfl rfl rfl ?_
    assumption
  clear_value x8
  refine Keeps.ite ?_ ?_
  · exact inc64_keeps (by assumption)
  · assumption

theorem execRejectDecision_keeps {a s : State} {v0 v1 v2} (h : Keeps a s) :
    OutKeeps a (@execRejectDecision v0 v1 v2 s) := by
  unfold execRejectDecision
  extract_lets +onlyGivenNames x1
  have h1 : Keeps a x1 := by
    unfold x1
    exact moveX_keeps (atTime_keeps (by assumption))
  clear_value x1
  split
  · exact OutKeeps.ok (by assumption)
  · refine OutKeeps.ite ?_ ?_
    · exact OutKeeps.ok (by assumption)
    · extract_lets +onlyGivenNames x2
      have h2 : Keeps a x2 := by
        unfold x2
        exact modItem_keeps (by assumption)
      clear_value x2
      refine OutKeeps.ok ?_
      refine Keeps.ite ?_ ?_
      · exact rejectPulse_keeps (by assumption)
      · assumption

theorem execRejPulseEnd_keeps {a s : State} {v0 v1} (h : Keeps a s) :
    OutKeeps a (@execRejPulseEnd v0 v1 s) := by
  unfold execRejPulseEnd
  extract_lets +onlyGivenNames x1
  have h1 : Keeps a x1 := by
    unfold x1
    exact atTime_keeps (by assumption)
  clear_value x1
  extract_lets +onlyGivenNames x2
  clear_value x2
  refine OutKeeps.ite ?_ ?_
  · exact OutKeeps.ok (by assumption)
  · refine OutKeeps.ok ?_
    refine Keeps.same (b := x1) rfl rfl rfl rfl rfl rfl rfl rfl rfl ?_
    assumption

theorem execSpeedAdvHoldExpiry_keeps {a s : State} {v0} (h : Keeps a s) :
    OutKeeps a (@execSpeedAdvHoldExpiry v0 s) := by
  unfold execSpeedAdvHoldExpiry
  extract_lets +onlyGivenNames x1
  have h1 : Keeps a x1 := by
    unfold x1
    exact advise_keeps (moveX_keeps (atTime_keeps (by assumption)))
  clear_value x1
  refine OutKeeps.ite ?_ ?_
  · exact OutKeeps.ok (setWeb_keeps (by assumption))
  · exact OutKeeps.ok (by assumption)

theorem trySend_keeps {a s : State} {v1} (h : Keeps a s) :
    Keeps a (@State.trySend s v1) := by
  unfold State.trySend
  extract_lets +onlyGivenNames x1
  clear_value x1
  split
  · assumption
  · refine Keeps.ite ?_ ?_
    · assumption
    · extract_lets +onlyGivenNames x2
      clear_value x2
      refine Keeps.ite ?_ ?_
      · exact setCam_keeps (by assumption)
      · assumption

theorem refreshPipes_keeps {a s : State} (h : Keeps a s) :
    Keeps a (@State.refreshPipes s) := by
  unfold State.refreshPipes
  extract_lets +onlyGivenNames x1
  have h1 : Keeps a x1 := by
    unfold x1
    exact setn_keeps (setn_keeps (by assumption))
  clear_value x1
  refine Keeps.foldl ?_ (fun y2 z2 h2 => ?_)
  · assumption
  · exact setn_keeps (by assumption)

theorem refreshPort_keeps {a s : State} {v1} (h : Keeps a s) :
    Keeps a (@State.refreshPort s v1) := by
  unfold State.refreshPort
  extract_lets +onlyGivenNames x1
  clear_value x1
  extract_lets +onlyGivenNames x2
  clear_value x2
  extract_lets +onlyGivenNames x3
  clear_value x3
  extract_lets +onlyGivenNames x4
  clear_value x4
  extract_lets +onlyGivenNames x5
  have h5 : Keeps a x5 := by
    unfold x5
    exact setn_keeps (setn_keeps (by assumption))
  clear_value x5
  extract_lets +onlyGivenNames x6
  clear_value x6
  extract_lets +onlyGivenNames x7
  have h7 : Keeps a x7 := by
    unfold x7
    refine Keeps.ite ?_ ?_
    · exact setn_keeps (setCam_keeps (by assumption))
    · assumption
  clear_value x7
  exact refreshPipes_keeps (by assumption)

theorem loseAll_keeps {a s : State} {v1} (h : Keeps a s) :
    Keeps a (@State.loseAll s v1) := by
  unfold State.loseAll
  extract_lets +onlyGivenNames x1
  clear_value x1
  extract_lets +onlyGivenNames x2
  clear_value x2
  extract_lets +onlyGivenNames x3
  have h3 : Keeps a x3 := by
    unfold x3
    exact setCam_keeps (by assumption)
  clear_value x3
  refine Keeps.foldl ?_ (fun y4 z4 h4 => ?_)
  · assumption
  · exact loseTrigger_keeps (by assumption)

theorem portWritten_keeps {a s : State} {v1} (h : Keeps a s) :
    Keeps a (@State.portWritten s v1) := by
  unfold State.portWritten
  refine Keeps.ite ?_ ?_
  · exact trySend_keeps (refreshPort_keeps (by assumption))
  · extract_lets +onlyGivenNames x1
    have h1 : Keeps a x1 := by
      unfold x1
      exact loseAll_keeps (by assumption)
    clear_value x1
    exact trySend_keeps (refreshPort_keeps (setCam_keeps (by assumption)))

theorem csiHeader_keeps {a s : State} {v1 v2 v3 v4} (h : Keeps a s) :
    Keeps a (@State.csiHeader s v1 v2 v3 v4).1 := by
  unfold State.csiHeader
  split
  · dsimp only
    assumption
  · split
    · dsimp only
      exact inc32_keeps (by assumption)
    · extract_lets +onlyGivenNames x1
      have h1 : Keeps a x1 := by
        unfold x1
        refine Keeps.ite ?_ ?_
        · exact inc32_keeps (by assumption)
        · assumption
      clear_value x1
      split
      · dsimp only
        exact inc32_keeps (by assumption)
      · dsimp only
        assumption

theorem streamStat_keeps {a s : State} {v1 v2 v3 v4 v5 v6} (h : Keeps a s) :
    Keeps a (@State.streamStat s v1 v2 v3 v4 v5 v6) := by
  unfold State.streamStat
  refine Keeps.ite ?_ ?_
  · assumption
  · extract_lets +onlyGivenNames x1
    clear_value x1
    extract_lets +onlyGivenNames x2
    clear_value x2
    extract_lets +onlyGivenNames x3
    clear_value x3
    extract_lets +onlyGivenNames x4
    clear_value x4
    extract_lets +onlyGivenNames x5
    clear_value x5
    exact setv_keeps (by assumption)

theorem streamInsp_keeps {a s : State} {v1 v2 v3 v4 v5} (h : Keeps a s) :
    Keeps a (@State.streamInsp s v1 v2 v3 v4 v5) := by
  unfold State.streamInsp
  extract_lets +onlyGivenNames x1
  clear_value x1
  extract_lets +onlyGivenNames x2
  clear_value x2
  extract_lets +onlyGivenNames x3
  clear_value x3
  extract_lets +onlyGivenNames x4
  clear_value x4
  refine Keeps.ite ?_ ?_
  · assumption
  · refine Keeps.ite ?_ ?_
    · refine Keeps.ite ?_ ?_
      · exact camResult_keeps (by assumption)
      · exact barUnseen_keeps (by assumption)
    · extract_lets +onlyGivenNames x5
      clear_value x5
      extract_lets +onlyGivenNames x6
      clear_value x6
      extract_lets +onlyGivenNames x7
      clear_value x7
      extract_lets +onlyGivenNames x8
      clear_value x8
      extract_lets +onlyGivenNames x9
      clear_value x9
      extract_lets +onlyGivenNames x10
      clear_value x10
      extract_lets +onlyGivenNames x11
      clear_value x11
      extract_lets +onlyGivenNames x12
      clear_value x12
      exact setv_keeps (inc64_keeps (setCam_keeps (by assumption)))

theorem execSensorWindowTimeout_keeps {a s : State} {v0 v1} (h : Keeps a s) :
    OutKeeps a (@execSensorWindowTimeout v0 v1 s) := by
  unfold execSensorWindowTimeout
  extract_lets +onlyGivenNames x1
  have h1 : Keeps a x1 := by
    unfold x1
    exact moveX_keeps (atTime_keeps (by assumption))
  clear_value x1
  split
  · exact OutKeeps.ok (by assumption)
  · refine OutKeeps.ite ?_ ?_
    · exact OutKeeps.ok (by assumption)
    · exact OutKeeps.ok (trySend_keeps (setCam_keeps (by assumption)))

theorem execCsiLongPacket_keeps {a s : State} {v0 v1 v2 v3 v4 v5 v6 v7} (h : Keeps a s) :
    OutKeeps a (@execCsiLongPacket v0 v1 v2 v3 v4 v5 v6 v7 s) := by
  unfold execCsiLongPacket
  extract_lets +onlyGivenNames x1
  have h1 : Keeps a x1 := by
    unfold x1
    exact atTime_keeps (by assumption)
  clear_value x1
  extract_lets +onlyGivenNames x2
  have h2 : Keeps a x2.1 := by
    unfold x2
    exact csiHeader_keeps (by assumption)
  clear_value x2
  refine OutKeeps.ite ?_ ?_
  · exact OutKeeps.ok (by assumption)
  · extract_lets +onlyGivenNames x3
    have h3 : Keeps a x3 := by
      unfold x3
      refine Keeps.ite ?_ ?_
      · assumption
      · exact inc32_keeps (by assumption)
    clear_value x3
    split
    · exact OutKeeps.ok (by assumption)
    · extract_lets +onlyGivenNames x4
      clear_value x4
      exact OutKeeps.ok (setCam_keeps (by assumption))

theorem streamArch_keeps {a s : State} {v1 v2 v3 v4 v5} (h : Keeps a s) :
    Keeps a (@State.streamArch s v1 v2 v3 v4 v5) := by
  unfold State.streamArch
  refine Keeps.ite ?_ ?_
  · assumption
  · extract_lets +onlyGivenNames x1
    clear_value x1
    extract_lets +onlyGivenNames x2
    clear_value x2
    extract_lets +onlyGivenNames x3
    clear_value x3
    extract_lets +onlyGivenNames x4
    clear_value x4
    extract_lets +onlyGivenNames x5
    clear_value x5
    extract_lets +onlyGivenNames x6
    clear_value x6
    extract_lets +onlyGivenNames x7
    clear_value x7
    refine Keeps.ite ?_ ?_
    · refine Keeps.same (b := s) rfl rfl rfl rfl rfl rfl rfl rfl rfl ?_
      assumption
    · extract_lets +onlyGivenNames x8
      have h8 : Keeps a x8 := by
        unfold x8
        refine Keeps.ite ?_ ?_
        · exact inc32_keeps (by assumption)
        · assumption
      clear_value x8
      exact archPart_keeps (by assumption)

theorem streamView_keeps {a s : State} {v1 v2 v3 v4} (h : Keeps a s) :
    Keeps a (@State.streamView s v1 v2 v3 v4) := by
  unfold State.streamView
  refine Keeps.ite ?_ ?_
  · assumption
  · extract_lets +onlyGivenNames x1
    clear_value x1
    extract_lets +onlyGivenNames x2
    clear_value x2
    extract_lets +onlyGivenNames x3
    clear_value x3
    extract_lets +onlyGivenNames x4
    clear_value x4
    extract_lets +onlyGivenNames x5
    clear_value x5
    extract_lets +onlyGivenNames x6
    clear_value x6
    extract_lets +onlyGivenNames x7
    clear_value x7
    extract_lets +onlyGivenNames x8
    clear_value x8
    extract_lets +onlyGivenNames x9
    clear_value x9
    extract_lets +onlyGivenNames x10
    clear_value x10
    exact inc64_keeps (inc32_keeps (store_keeps (by assumption)))

theorem finishFrame_keeps {a s : State} {v1 v2 v3} (h : Keeps a s) :
    Keeps a (@State.finishFrame s v1 v2 v3) := by
  unfold State.finishFrame
  extract_lets +onlyGivenNames x1
  clear_value x1
  extract_lets +onlyGivenNames x2
  clear_value x2
  extract_lets +onlyGivenNames x3
  clear_value x3
  extract_lets +onlyGivenNames x4
  clear_value x4
  extract_lets +onlyGivenNames x5
  clear_value x5
  extract_lets +onlyGivenNames x6
  clear_value x6
  extract_lets +onlyGivenNames x7
  clear_value x7
  extract_lets +onlyGivenNames x8
  clear_value x8
  extract_lets +onlyGivenNames x9
  clear_value x9
  extract_lets +onlyGivenNames x10
  clear_value x10
  extract_lets +onlyGivenNames x11
  clear_value x11
  extract_lets +onlyGivenNames x12
  clear_value x12
  extract_lets +onlyGivenNames x13
  clear_value x13
  extract_lets +onlyGivenNames x14
  clear_value x14
  extract_lets +onlyGivenNames x15
  clear_value x15
  extract_lets +onlyGivenNames x16
  clear_value x16
  extract_lets +onlyGivenNames x17
  have h17 : Keeps a x17 := by
    unfold x17
    exact setCam_keeps (by assumption)
  clear_value x17
  extract_lets +onlyGivenNames x18
  clear_value x18
  extract_lets +onlyGivenNames x19
  clear_value x19
  extract_lets +onlyGivenNames x20
  have h20 : Keeps a x20 := by
    unfold x20
    exact streamInsp_keeps (by assumption)
  clear_value x20
  extract_lets +onlyGivenNames x21
  have h21 : Keeps a x21 := by
    unfold x21
    exact streamView_keeps (by assumption)
  clear_value x21
  extract_lets +onlyGivenNames x22
  have h22 : Keeps a x22 := by
    unfold x22
    exact streamArch_keeps (by assumption)
  clear_value x22
  extract_lets +onlyGivenNames x23
  have h23 : Keeps a x23 := by
    unfold x23
    exact streamStat_keeps (by assumption)
  clear_value x23
  refine Keeps.ite ?_ ?_
  · exact inc32_keeps (by assumption)
  · assumption

theorem execCamTriggerLost_keeps {a s : State} {v0 v1} (h : Keeps a s) :
    OutKeeps a (@execCamTriggerLost v0 v1 s) := by
  unfold execCamTriggerLost
  extract_lets +onlyGivenNames x1
  have h1 : Keeps a x1 := by
    unfold x1
    exact moveX_keeps (atTime_keeps (by assumption))
  clear_value x1
  split
  · exact OutKeeps.ok (by assumption)
  · refine OutKeeps.ite ?_ ?_
    · exact OutKeeps.ok (by assumption)
    · exact OutKeeps.ok (trySend_keeps (loseTrigger_keeps (setCam_keeps (by assumption))))

theorem execCsiFrameStart_keeps {a s : State} {v0 v1 v2 v3 v4} (h : Keeps a s) :
    OutKeeps a (@execCsiFrameStart v0 v1 v2 v3 v4 s) := by
  unfold execCsiFrameStart
  extract_lets +onlyGivenNames x1
  have h1 : Keeps a x1 := by
    unfold x1
    exact moveX_keeps (atTime_keeps (by assumption))
  clear_value x1
  extract_lets +onlyGivenNames x2
  have h2 : Keeps a x2.1 := by
    unfold x2
    exact csiHeader_keeps (by assumption)
  clear_value x2
  refine OutKeeps.ite ?_ ?_
  · exact OutKeeps.ok (by assumption)
  · extract_lets +onlyGivenNames x3
    have h3 : Keeps a x3 := by
      unfold x3
      split
      · exact finishFrame_keeps (by assumption)
      · assumption
    clear_value x3
    extract_lets +onlyGivenNames x4
    clear_value x4
    extract_lets +onlyGivenNames x5
    clear_value x5
    extract_lets +onlyGivenNames x6
    clear_value x6
    extract_lets +onlyGivenNames x7
    clear_value x7
    split
    · exact OutKeeps.ok (inc32_keeps (setCam_keeps (by assumption)))
    · refine OutKeeps.ite ?_ ?_
      · exact OutKeeps.ok (inc32_keeps (setCam_keeps (by assumption)))
      · extract_lets +onlyGivenNames x8
        clear_value x8
        extract_lets +onlyGivenNames x9
        clear_value x9
        extract_lets +onlyGivenNames x10
        clear_value x10
        extract_lets +onlyGivenNames x11
        clear_value x11
        extract_lets +onlyGivenNames x12
        clear_value x12
        extract_lets +onlyGivenNames x13
        clear_value x13
        extract_lets +onlyGivenNames x14
        have h14 : Keeps a x14 := by
          unfold x14
          exact setCam_keeps (by assumption)
        clear_value x14
        extract_lets +onlyGivenNames x15
        have h15 : Keeps a x15 := by
          unfold x15
          exact inc64_keeps (setn_keeps (by assumption))
        clear_value x15
        refine OutKeeps.ok ?_
        refine Keeps.ite ?_ ?_
        · exact inc32_keeps (by assumption)
        · assumption

theorem execCsiFrameEnd_keeps {a s : State} {v0 v1 v2 v3} (h : Keeps a s) :
    OutKeeps a (@execCsiFrameEnd v0 v1 v2 v3 s) := by
  unfold execCsiFrameEnd
  extract_lets +onlyGivenNames x1
  have h1 : Keeps a x1 := by
    unfold x1
    exact moveX_keeps (atTime_keeps (by assumption))
  clear_value x1
  extract_lets +onlyGivenNames x2
  have h2 : Keeps a x2.1 := by
    unfold x2
    exact csiHeader_keeps (by assumption)
  clear_value x2
  refine OutKeeps.ite ?_ ?_
  · exact OutKeeps.ok (by assumption)
  · split
    · exact OutKeeps.ok (by assumption)
    · exact OutKeeps.ok (trySend_keeps (finishFrame_keeps (by assumption)))

theorem execFrameForcedEnd_keeps {a s : State} {v0 v1} (h : Keeps a s) :
    OutKeeps a (@execFrameForcedEnd v0 v1 s) := by
  unfold execFrameForcedEnd
  extract_lets +onlyGivenNames x1
  have h1 : Keeps a x1 := by
    unfold x1
    exact moveX_keeps (atTime_keeps (by assumption))
  clear_value x1
  split
  · exact OutKeeps.ok (by assumption)
  · refine OutKeeps.ite ?_ ?_
    · exact OutKeeps.ok (by assumption)
    · exact OutKeeps.ok (trySend_keeps (finishFrame_keeps (by assumption)))

theorem execCamResetRelease_keeps {a s : State} {v0 v1} (h : Keeps a s) :
    OutKeeps a (@execCamResetRelease v0 v1 s) := by
  unfold execCamResetRelease
  extract_lets +onlyGivenNames x1
  have h1 : Keeps a x1 := by
    unfold x1
    exact atTime_keeps (by assumption)
  clear_value x1
  refine OutKeeps.ite ?_ ?_
  · exact OutKeeps.ok (setCam_keeps (by assumption))
  · exact OutKeeps.ok (by assumption)

theorem setUnit_keeps {a s : State} {v1 v2} (h : Keeps a s) :
    Keeps a (@State.setUnit s v1 v2) := by
  unfold State.setUnit
  refine Keeps.same (b := s) rfl rfl rfl rfl rfl rfl rfl rfl rfl ?_
  assumption

theorem lookMin_keeps {a s : State} (h : Keeps a s) :
    Keeps a (@State.lookMin s) := by
  unfold State.lookMin
  refine Keeps.foldl ?_ (fun y1 z1 h1 => ?_)
  · assumption
  · refine Keeps.ite ?_ ?_
    · exact seti_keeps (by assumption)
    · assumption

theorem rampCheck_keeps {a s : State} (h : Keeps a s) :
    Keeps a (@State.rampCheck s) := by
  unfold State.rampCheck
  extract_lets +onlyGivenNames x1
  clear_value x1
  exact setb_keeps (by assumption)

theorem lookCheck_keeps {a s : State} (h : Keeps a s) :
    Keeps a (@State.lookCheck s) := by
  unfold State.lookCheck
  extract_lets +onlyGivenNames x1
  clear_value x1
  extract_lets +onlyGivenNames x2
  have h2 : Keeps a x2 := by
    unfold x2
    exact lookMin_keeps (by assumption)
  clear_value x2
  extract_lets +onlyGivenNames x3
  clear_value x3
  extract_lets +onlyGivenNames x4
  have h4 : Keeps a x4 := by
    unfold x4
    exact setFire_keeps (by assumption)
  clear_value x4
  extract_lets +onlyGivenNames x5
  have h5 : Keeps a x5 := by
    unfold x5
    refine Keeps.foldl ?_ (fun y6 z6 h6 => ?_)
    · assumption
    · exact setb_keeps (by assumption)
  clear_value x5
  extract_lets +onlyGivenNames x7
  clear_value x7
  split
  · refine Keeps.ite ?_ ?_
    · exact rampCheck_keeps (setReason_keeps (by assumption))
    · assumption
  · refine Keeps.ite ?_ ?_
    · assumption
    · exact rampCheck_keeps (event_keeps (setReason_keeps (by assumption)))

theorem identify_keeps {a s : State} {v1} (h : Keeps a s) :
    Keeps a (@State.identify s v1) := by
  unfold State.identify
  exact setLinkState_keeps (setLink_keeps (by assumption))

theorem resetChannel_keeps {a s : State} {v1} (h : Keeps a s) :
    Keeps a (@State.resetChannel s v1) := by
  unfold State.resetChannel
  extract_lets +onlyGivenNames x1
  clear_value x1
  extract_lets +onlyGivenNames x2
  clear_value x2
  extract_lets +onlyGivenNames x3
  clear_value x3
  extract_lets +onlyGivenNames x4
  have h4 : Keeps a x4 := by
    unfold x4
    exact setFire_keeps (by assumption)
  clear_value x4
  refine Keeps.foldl ?_ (fun y5 z5 h5 => ?_)
  · assumption
  · exact setn_keeps (by assumption)

theorem dropCheckpoint_keeps {a s : State} (h : Keeps a s) :
    Keeps a (@State.dropCheckpoint s) := by
  unfold State.dropCheckpoint
  extract_lets +onlyGivenNames x1
  clear_value x1
  extract_lets +onlyGivenNames x2
  clear_value x2
  extract_lets +onlyGivenNames x3
  have h3 : Keeps a x3 := by
    unfold x3
    exact setFire_keeps (by assumption)
  clear_value x3
  extract_lets +onlyGivenNames x4
  clear_value x4
  extract_lets +onlyGivenNames x5
  have h5 : Keeps a x5 := by
    unfold x5
    refine Keeps.same (b := x3) rfl rfl rfl rfl rfl rfl rfl rfl rfl ?_
    assumption
  clear_value x5
  exact inc64_keeps (setn_keeps (by assumption))

theorem addCount_keeps {a s : State} {v1 v2} (h : Keeps a s) :
    Keeps a (@State.addCount s v1 v2) := by
  unfold State.addCount
  exact setn_keeps (by assumption)

theorem accumulate_keeps {a s : State} {v1} (h : Keeps a s) :
    Keeps a (@State.accumulate s v1) := by
  unfold State.accumulate
  split
  · assumption
  · extract_lets +onlyGivenNames x1
    clear_value x1
    extract_lets +onlyGivenNames x2
    clear_value x2
    extract_lets +onlyGivenNames x3
    clear_value x3
    extract_lets +onlyGivenNames x4
    clear_value x4
    extract_lets +onlyGivenNames x5
    have h5 : Keeps a x5 := by
      unfold x5
      exact setFire_keeps (by assumption)
    clear_value x5
    extract_lets +onlyGivenNames x6
    clear_value x6
    extract_lets +onlyGivenNames x7
    have h7 : Keeps a x7 := by
      unfold x7
      exact addCount_keeps (by assumption)
    clear_value x7
    extract_lets +onlyGivenNames x8
    have h8 : Keeps a x8 := by
      unfold x8
      exact addCount_keeps (by assumption)
    clear_value x8
    extract_lets +onlyGivenNames x9
    have h9 : Keeps a x9 := by
      unfold x9
      exact addCount_keeps (by assumption)
    clear_value x9
    extract_lets +onlyGivenNames x10
    have h10 : Keeps a x10 := by
      unfold x10
      refine Keeps.foldl ?_ (fun y11 z11 h11 => ?_)
      · assumption
      · exact addCount_keeps (by assumption)
    clear_value x10
    exact addCount_keeps (addCount_keeps (by assumption))

theorem execGateClosed_keeps {a s : State} {v0 v1} (h : Keeps a s) :
    OutKeeps a (@execGateClosed v0 v1 s) := by
  unfold execGateClosed
  extract_lets +onlyGivenNames x1
  have h1 : Keeps a x1 := by
    unfold x1
    exact moveX_keeps (atTime_keeps (by assumption))
  clear_value x1
  refine OutKeeps.ite ?_ ?_
  · exact OutKeeps.ok (by assumption)
  · extract_lets +onlyGivenNames x2
    have h2 : Keeps a x2 := by
      unfold x2
      exact inc32_keeps (setb_keeps (by assumption))
    clear_value x2
    extract_lets +onlyGivenNames x3
    have h3 : Keeps a x3 := by
      unfold x3
      exact setn_keeps (by assumption)
    clear_value x3
    extract_lets +onlyGivenNames x4
    clear_value x4
    extract_lets +onlyGivenNames x5
    have h5 : Keeps a x5 := by
      unfold x5
      exact setFire_keeps (by assumption)
    clear_value x5
    extract_lets +onlyGivenNames x6
    clear_value x6
    extract_lets +onlyGivenNames x7
    have h7 : Keeps a x7 := by
      unfold x7
      refine Keeps.foldl ?_ (fun y8 z8 h8 => ?_)
      · assumption
      · exact switchNow_keeps (refreshPlane_keeps (by assumption))
    clear_value x7
    exact OutKeeps.ok (event_keeps (by assumption))

theorem countFired_keeps {a s : State} {v1 v2 v3} (h : Keeps a s) :
    Keeps a (@State.countFired s v1 v2 v3) := by
  unfold State.countFired
  extract_lets +onlyGivenNames x1
  clear_value x1
  extract_lets +onlyGivenNames x2
  clear_value x2
  extract_lets +onlyGivenNames x3
  have h3 : Keeps a x3 := by
    unfold x3
    refine Keeps.foldl ?_ (fun y4 z4 h4 => ?_)
    · assumption
    · exact fireDrop_keeps (by assumption)
  clear_value x3
  extract_lets +onlyGivenNames x5
  have h5 : Keeps a x5 := by
    unfold x5
    exact suppressAll_keeps (suppressAll_keeps (by assumption))
  clear_value x5
  extract_lets +onlyGivenNames x6
  have h6 : Keeps a x6 := by
    unfold x6
    refine Keeps.foldl ?_ (fun y7 z7 h7 => ?_)
    · assumption
    · exact spitDrop_keeps (by assumption)
  clear_value x6
  extract_lets +onlyGivenNames x8
  clear_value x8
  exact setFire_keeps (by assumption)

theorem sendFire_keeps {a s : State} {v1 v2} (h : Keeps a s) :
    Keeps a (@State.sendFire s v1 v2) := by
  unfold State.sendFire
  refine Keeps.foldl ?_ (fun y1 z1 h1 => ?_)
  · exact inc64_keeps (by assumption)
  · extract_lets +onlyGivenNames x2
    clear_value x2
    refine Keeps.ite ?_ ?_
    · extract_lets +onlyGivenNames x3
      have h3 : Keeps a x3 := by
        unfold x3
        exact inc64_keeps (by assumption)
      clear_value x3
      exact setLink_keeps (by assumption)
    · assumption

theorem fireLine_keeps {a s : State} {v1 v2 v3} (h : Keeps a s) :
    Keeps a (@State.fireLine s v1 v2 v3) := by
  unfold State.fireLine
  extract_lets +onlyGivenNames x1
  clear_value x1
  extract_lets +onlyGivenNames x2
  have h2 : Keeps a x2 := by
    unfold x2
    exact countFired_keeps (sendFire_keeps (by assumption))
  clear_value x2
  exact setItems_keeps (by assumption)

theorem holdLine_keeps {a s : State} {v1 v2 v3} (h : Keeps a s) :
    Keeps a (@State.holdLine s v1 v2 v3) := by
  unfold State.holdLine
  extract_lets +onlyGivenNames x1
  clear_value x1
  extract_lets +onlyGivenNames x2
  have h2 : Keeps a x2 := by
    unfold x2
    exact inc64_keeps (by assumption)
  clear_value x2
  extract_lets +onlyGivenNames x3
  have h3 : Keeps a x3 := by
    unfold x3
    exact suppressAll_keeps (by assumption)
  clear_value x3
  extract_lets +onlyGivenNames x4
  have h4 : Keeps a x4 := by
    unfold x4
    refine Keeps.foldl ?_ (fun y5 z5 h5 => ?_)
    · assumption
    · refine Keeps.ite ?_ ?_
      · exact setFire_keeps (by assumption)
      · assumption
  clear_value x4
  refine Keeps.foldl ?_ (fun y6 z6 h6 => ?_)
  · assumption
  · exact dispose_keeps (by assumption)

theorem lateLine_keeps {a s : State} {v1 v2 v3} (h : Keeps a s) :
    Keeps a (@State.lateLine s v1 v2 v3) := by
  unfold State.lateLine
  extract_lets +onlyGivenNames x1
  have h1 : Keeps a x1 := by
    unfold x1
    exact sendFire_keeps (inc64_keeps (by assumption))
  clear_value x1
  extract_lets +onlyGivenNames x2
  clear_value x2
  extract_lets +onlyGivenNames x3
  clear_value x3
  extract_lets +onlyGivenNames x4
  have h4 : Keeps a x4 := by
    unfold x4
    exact setFire_keeps (by assumption)
  clear_value x4
  extract_lets +onlyGivenNames x5
  clear_value x5
  extract_lets +onlyGivenNames x6
  have h6 : Keeps a x6 := by
    unfold x6
    refine Keeps.foldl ?_ (fun y7 z7 h7 => ?_)
    · assumption
    · exact dispose_keeps (by assumption)
  clear_value x6
  refine Keeps.ite ?_ ?_
  · assumption
  · exact rampCheck_keeps (setReason_keeps (by assumption))

theorem resolveLine_keeps {a s : State} {v1 v2 v3} (h : Keeps a s) :
    Keeps a (@State.resolveLine s v1 v2 v3) := by
  unfold State.resolveLine
  extract_lets +onlyGivenNames x1
  clear_value x1
  split
  · assumption
  · refine Keeps.ite ?_ ?_
    · assumption
    · refine Keeps.ite ?_ ?_
      · refine Keeps.ite ?_ ?_
        · exact setFire_keeps (by assumption)
        · assumption
      · refine Keeps.ite ?_ ?_
        · exact holdLine_keeps (by assumption)
        · refine Keeps.ite ?_ ?_
          · exact lateLine_keeps (by assumption)
          · refine Keeps.ite ?_ ?_
            · exact suppressAll_keeps (inc64_keeps (by assumption))
            · exact fireLine_keeps (by assumption)

theorem restoreMap_keeps {a s : State} {v1} (h : Keeps a s) :
    Keeps a (@State.restoreMap s v1) := by
  unfold State.restoreMap
  extract_lets +onlyGivenNames x1
  clear_value x1
  extract_lets +onlyGivenNames x2
  clear_value x2
  extract_lets +onlyGivenNames x3
  clear_value x3
  refine countMap_keeps ?_
  refine Keeps.foldl ?_ (fun y4 z4 h4 => ?_)
  · assumption
  · exact setEntry_keeps (by assumption)

theorem execIdentifyTimeout_keeps {a s : State} {v0 v1} (h : Keeps a s) :
    OutKeeps a (@execIdentifyTimeout v0 v1 s) := by
  unfold execIdentifyTimeout
  extract_lets +onlyGivenNames x1
  have h1 : Keeps a x1 := by
    unfold x1
    exact atTime_keeps (by assumption)
  clear_value x1
  refine OutKeeps.ite ?_ ?_
  · exact OutKeeps.ok (linkEvent_keeps (setLinkState_keeps (by assumption)))
  · exact OutKeeps.ok (by assumption)

theorem noteBarSpeed_keeps {a s : State} {v1 v2} (h : Keeps a s) :
    Keeps a (@State.noteBarSpeed s v1 v2) := by
  unfold State.noteBarSpeed
  exact setInsp_keeps (by assumption)

theorem tick_keeps {a s : State} {v1 v2 v3} (h : Keeps a s) :
    Keeps a (@State.tick s v1 v2 v3) := by
  unfold State.tick
  extract_lets +onlyGivenNames x1
  clear_value x1
  extract_lets +onlyGivenNames x2
  clear_value x2
  extract_lets +onlyGivenNames x3
  clear_value x3
  extract_lets +onlyGivenNames x4
  have h4 : Keeps a x4 := by
    unfold x4
    exact setGrid_keeps (by assumption)
  clear_value x4
  extract_lets +onlyGivenNames x5
  have h5 : Keeps a x5 := by
    unfold x5
    exact seti_keeps (by assumption)
  clear_value x5
  extract_lets +onlyGivenNames x6
  clear_value x6
  extract_lets +onlyGivenNames x7
  have h7 : Keeps a x7 := by
    unfold x7
    exact setFire_keeps (by assumption)
  clear_value x7
  extract_lets +onlyGivenNames x8
  have h8 : Keeps a x8 := by
    unfold x8
    exact setItems_keeps (by assumption)
  clear_value x8
  extract_lets +onlyGivenNames x9
  have h9 : Keeps a x9 := by
    unfold x9
    exact noteBarSpeed_keeps (by assumption)
  clear_value x9
  extract_lets +onlyGivenNames x10
  have h10 : Keeps a x10 := by
    unfold x10
    exact closePassed_keeps (resolveLine_keeps (by assumption))
  clear_value x10
  exact advise_keeps (lookCheck_keeps (fetch_keeps (by assumption)))

theorem runLineTick_keeps {a s : State} {v0 v1 v2} (h : Keeps a s) :
    OutKeeps a (@runLineTick v0 v1 v2 s) := by
  unfold runLineTick
  extract_lets +onlyGivenNames x1
  have h1 : Keeps a x1 := by
    unfold x1
    exact moveX_keeps (atTime_keeps (by assumption))
  clear_value x1
  extract_lets +onlyGivenNames x2
  clear_value x2
  refine OutKeeps.ite ?_ ?_
  · exact OutKeeps.ok (by assumption)
  · exact OutKeeps.ok (tick_keeps (by assumption))

theorem execBackFrameBad_keeps {a s : State} {v0 v1} (h : Keeps a s) :
    OutKeeps a (@execBackFrameBad v0 v1 s) := by
  unfold execBackFrameBad
  exact OutKeeps.ok (inc32_keeps (atTime_keeps (by assumption)))

theorem trimsDone_keeps {a s : State} {v1} (h : Keeps a s) :
    Keeps a (@State.trimsDone s v1) := by
  unfold State.trimsDone
  refine Keeps.ite ?_ ?_
  · assumption
  · exact setInsp_keeps (by assumption)

theorem preload_keeps {a s : State} {v1} (h : Keeps a s) :
    Keeps a (@State.preload s v1) := by
  unfold State.preload
  extract_lets +onlyGivenNames x1
  clear_value x1
  extract_lets +onlyGivenNames x2
  clear_value x2
  extract_lets +onlyGivenNames x3
  clear_value x3
  extract_lets +onlyGivenNames x4
  clear_value x4
  extract_lets +onlyGivenNames x5
  clear_value x5
  extract_lets +onlyGivenNames x6
  have h6 : Keeps a x6 := by
    unfold x6
    exact setInsp_keeps (by assumption)
  clear_value x6
  extract_lets +onlyGivenNames x7
  have h7 : Keeps a x7 := by
    unfold x7
    refine Keeps.foldl ?_ (fun y8 z8 h8 => ?_)
    · assumption
    · refine Keeps.ite ?_ ?_
      · exact setEntry_keeps (by assumption)
      · assumption
  clear_value x7
  exact countMap_keeps (setn_keeps (by assumption))

theorem loadLink_keeps {a s : State} {v1} (h : Keeps a s) :
    Keeps a (@State.loadLink s v1) := by
  unfold State.loadLink
  extract_lets +onlyGivenNames x1
  clear_value x1
  extract_lets +onlyGivenNames x2
  clear_value x2
  extract_lets +onlyGivenNames x3
  clear_value x3
  extract_lets +onlyGivenNames x4
  have h4 : Keeps a x4 := by
    unfold x4
    exact setLink_keeps (by assumption)
  clear_value x4
  extract_lets +onlyGivenNames x5
  have h5 : Keeps a x5 := by
    unfold x5
    exact writeTrims_keeps (by assumption)
  clear_value x5
  exact setLink_keeps (by assumption)

theorem acceptIdentity_keeps {a s : State} {v1 v2} (h : Keeps a s) :
    Keeps a (@State.acceptIdentity s v1 v2) := by
  unfold State.acceptIdentity
  extract_lets +onlyGivenNames x1
  clear_value x1
  extract_lets +onlyGivenNames x2
  clear_value x2
  extract_lets +onlyGivenNames x3
  clear_value x3
  extract_lets +onlyGivenNames x4
  have h4 : Keeps a x4 := by
    unfold x4
    exact setLink_keeps (by assumption)
  clear_value x4
  extract_lets +onlyGivenNames x5
  have h5 : Keeps a x5 := by
    unfold x5
    exact setv_keeps (by assumption)
  clear_value x5
  extract_lets +onlyGivenNames x6
  have h6 : Keeps a x6 := by
    unfold x6
    exact setn_keeps (by assumption)
  clear_value x6
  extract_lets +onlyGivenNames x7
  have h7 : Keeps a x7 := by
    unfold x7
    exact setn_keeps (setn_keeps (by assumption))
  clear_value x7
  extract_lets +onlyGivenNames x8
  have h8 : Keeps a x8 := by
    unfold x8
    exact setLinkState_keeps (setn_keeps (by assumption))
  clear_value x8
  extract_lets +onlyGivenNames x9
  have h9 : Keeps a x9 := by
    unfold x9
    refine Keeps.foldl ?_ (fun y10 z10 h10 => ?_)
    · assumption
    · exact chanEvent_keeps (by assumption)
  clear_value x9
  extract_lets +onlyGivenNames x11
  have h11 : Keeps a x11 := by
    unfold x11
    refine Keeps.ite ?_ ?_
    · assumption
    · refine Keeps.ite ?_ ?_
      · exact restoreMap_keeps (by assumption)
      · exact preload_keeps (by assumption)
  clear_value x11
  extract_lets +onlyGivenNames x12
  have h12 : Keeps a x12 := by
    unfold x12
    exact loadLink_keeps (by assumption)
  clear_value x12
  refine Keeps.ite ?_ ?_
  · exact setLinkState_keeps (by assumption)
  · assumption

theorem execBackIdentity_keeps {a s : State} {v0 v1 v2 v3} (h : Keeps a s) :
    OutKeeps a (@execBackIdentity v0 v1 v2 v3 s) := by
  unfold execBackIdentity
  extract_lets +onlyGivenNames x1
  have h1 : Keeps a x1 := by
    unfold x1
    exact atTime_keeps (by assumption)
  clear_value x1
  extract_lets +onlyGivenNames x2
  clear_value x2
  refine OutKeeps.ite ?_ ?_
  · exact OutKeeps.ok (by assumption)
  · refine OutKeeps.ite ?_ ?_
    · exact OutKeeps.ok (inc32_keeps (by assumption))
    · extract_lets +onlyGivenNames x3
      clear_value x3
      extract_lets +onlyGivenNames x4
      clear_value x4
      extract_lets +onlyGivenNames x5
      have h5 : Keeps a x5 := by
        unfold x5
        exact setLink_keeps (by assumption)
      clear_value x5
      split
      · exact OutKeeps.ok (by assumption)
      · split
        · exact OutKeeps.ok (linkEvent_keeps (setLinkState_keeps (setLink_keeps (by assumption))))
        · exact OutKeeps.ok (acceptIdentity_keeps (by assumption))

theorem unfire_keeps {a s : State} {v1 v2 v3} (h : Keeps a s) :
    Keeps a (@State.unfire s v1 v2 v3) := by
  unfold State.unfire
  exact modAcc_keeps (modNozzle_keeps (by assumption))

theorem rejectLine_keeps {a s : State} {v1 v2 v3 v4 v5} (h : Keeps a s) :
    Keeps a (@State.rejectLine s v1 v2 v3 v4 v5) := by
  unfold State.rejectLine
  extract_lets +onlyGivenNames x1
  clear_value x1
  extract_lets +onlyGivenNames x2
  clear_value x2
  extract_lets +onlyGivenNames x3
  clear_value x3
  extract_lets +onlyGivenNames x4
  have h4 : Keeps a x4 := by
    unfold x4
    refine Keeps.foldl ?_ (fun y5 z5 h5 => ?_)
    · assumption
    · exact unfire_keeps (by assumption)
  clear_value x4
  extract_lets +onlyGivenNames x6
  clear_value x6
  extract_lets +onlyGivenNames x7
  clear_value x7
  extract_lets +onlyGivenNames x8
  have h8 : Keeps a x8 := by
    unfold x8
    exact setFire_keeps (by assumption)
  clear_value x8
  extract_lets +onlyGivenNames x9
  clear_value x9
  extract_lets +onlyGivenNames x10
  have h10 : Keeps a x10 := by
    unfold x10
    refine Keeps.foldl ?_ (fun y11 z11 h11 => ?_)
    · assumption
    · exact chargeItem_keeps (by assumption)
  clear_value x10
  extract_lets +onlyGivenNames x12
  clear_value x12
  refine Keeps.ite ?_ ?_
  · assumption
  · extract_lets +onlyGivenNames x13
    clear_value x13
    refine event_keeps ?_
    refine Keeps.foldl ?_ (fun y14 z14 h14 => ?_)
    · assumption
    · exact inc32_keeps (by assumption)

theorem linkUnknown_keeps {a s : State} {v1} (h : Keeps a s) :
    Keeps a (@State.linkUnknown s v1) := by
  unfold State.linkUnknown
  refine event_keeps ?_
  refine Keeps.foldl ?_ (fun y1 z1 h1 => ?_)
  · assumption
  · exact setn_keeps (by assumption)

theorem checkReports_keeps {a s : State} {v1 v2} (h : Keeps a s) :
    Keeps a (@State.checkReports s v1 v2) := by
  unfold State.checkReports
  extract_lets +onlyGivenNames x1
  clear_value x1
  extract_lets +onlyGivenNames x2
  clear_value x2
  extract_lets +onlyGivenNames x3
  clear_value x3
  extract_lets +onlyGivenNames x4
  clear_value x4
  extract_lets +onlyGivenNames x5
  clear_value x5
  extract_lets +onlyGivenNames x6
  extract_lets +onlyGivenNames x7
  have h7 : Keeps a x7 := by
    unfold x7
    exact setLink_keeps (by assumption)
  clear_value x7
  refine Keeps.ite ?_ ?_
  · exact linkUnknown_keeps (by assumption)
  · assumption

theorem slotLoaded_keeps {a s : State} {v1 v2} (h : Keeps a s) :
    Keeps a (@State.slotLoaded s v1 v2) := by
  unfold State.slotLoaded
  extract_lets +onlyGivenNames x1
  clear_value x1
  exact setn_keeps (by assumption)

theorem execBackReject_keeps {a s : State} {v0 v1 v2 v3 v4} (h : Keeps a s) :
    OutKeeps a (@execBackReject v0 v1 v2 v3 v4 s) := by
  unfold execBackReject
  extract_lets +onlyGivenNames x1
  have h1 : Keeps a x1 := by
    unfold x1
    exact atTime_keeps (by assumption)
  clear_value x1
  extract_lets +onlyGivenNames x2
  clear_value x2
  refine OutKeeps.ite ?_ ?_
  · exact OutKeeps.ok (by assumption)
  · refine OutKeeps.ite ?_ ?_
    · exact OutKeeps.ok (inc32_keeps (by assumption))
    · extract_lets +onlyGivenNames x3
      clear_value x3
      extract_lets +onlyGivenNames x4
      have h4 : Keeps a x4 := by
        unfold x4
        exact setLink_keeps (by assumption)
      clear_value x4
      extract_lets +onlyGivenNames x5
      have h5 : Keeps a x5 := by
        unfold x5
        exact inc32_keeps (by assumption)
      clear_value x5
      split
      · exact OutKeeps.ok (mirror_keeps (rejectLine_keeps (by assumption)))
      · exact OutKeeps.ok (mirror_keeps (by assumption))

theorem execLoadWriteTimeout_keeps {a s : State} {v0 v1} (h : Keeps a s) :
    OutKeeps a (@execLoadWriteTimeout v0 v1 s) := by
  unfold execLoadWriteTimeout
  extract_lets +onlyGivenNames x1
  have h1 : Keeps a x1 := by
    unfold x1
    exact atTime_keeps (by assumption)
  clear_value x1
  refine OutKeeps.ite ?_ ?_
  · exact OutKeeps.ok (setLinkState_keeps (setLink_keeps (by assumption)))
  · exact OutKeeps.ok (by assumption)

theorem dropTrims_keeps {a s : State} {v1} (h : Keeps a s) :
    Keeps a (@State.dropTrims s v1) := by
  unfold State.dropTrims
  extract_lets +onlyGivenNames x1
  clear_value x1
  exact setInsp_keeps (by assumption)

theorem execBackAck_keeps {a s : State} {v0 v1 v2 v3} (h : Keeps a s) :
    OutKeeps a (@execBackAck v0 v1 v2 v3 s) := by
  unfold execBackAck
  extract_lets +onlyGivenNames x1
  have h1 : Keeps a x1 := by
    unfold x1
    exact atTime_keeps (by assumption)
  clear_value x1
  extract_lets +onlyGivenNames x2
  clear_value x2
  extract_lets +onlyGivenNames x3
  clear_value x3
  split
  · exact OutKeeps.ok (by assumption)
  · extract_lets +onlyGivenNames x4
    have h4 : Keeps a x4 := by
      unfold x4
      exact setLink_keeps (by assumption)
    extract_lets +onlyGivenNames x5
    have h5 : Keeps a x5 := by
      unfold x5
      split
      · refine Keeps.ite ?_ ?_
        · exact slotLoaded_keeps (by assumption)
        · assumption
      · refine Keeps.ite ?_ ?_
        · exact trimsDone_keeps (by assumption)
        · exact dropTrims_keeps (by assumption)
    refine OutKeeps.ite ?_ ?_
    · refine OutKeeps.ite ?_ ?_
      · exact OutKeeps.ok (setLinkState_keeps (by assumption))
      · exact OutKeeps.ok (by assumption)
    · refine OutKeeps.ite ?_ ?_
      · exact OutKeeps.ok (setLinkState_keeps (setLink_keeps (by assumption)))
      · exact OutKeeps.ok (by assumption)

theorem statusCounts_keeps {a s : State} {v1 v2} (h : Keeps a s) :
    Keeps a (@State.statusCounts s v1 v2) := by
  unfold State.statusCounts
  extract_lets +onlyGivenNames x1
  have h1 : Keeps a x1 := by
    unfold x1
    exact setn_keeps (setn_keeps (by assumption))
  clear_value x1
  exact seti_keeps (by assumption)

theorem linkDown_keeps {a s : State} {v1} (h : Keeps a s) :
    Keeps a (@State.linkDown s v1) := by
  unfold State.linkDown
  extract_lets +onlyGivenNames x1
  clear_value x1
  extract_lets +onlyGivenNames x2
  have h2 : Keeps a x2 := by
    unfold x2
    exact setLink_keeps (by assumption)
  clear_value x2
  extract_lets +onlyGivenNames x3
  clear_value x3
  extract_lets +onlyGivenNames x4
  have h4 : Keeps a x4 := by
    unfold x4
    exact setInsp_keeps (by assumption)
  clear_value x4
  exact linkEvent_keeps (setLinkState_keeps (by assumption))

theorem backStatus_keeps {a s : State} {v1 v2} (h : Keeps a s) :
    Keeps a (@State.backStatus s v1 v2) := by
  unfold State.backStatus
  extract_lets +onlyGivenNames x1
  clear_value x1
  refine Keeps.ite ?_ ?_
  · assumption
  · extract_lets +onlyGivenNames x2
    clear_value x2
    extract_lets +onlyGivenNames x3
    have h3 : Keeps a x3 := by
      unfold x3
      exact statusCounts_keeps (by assumption)
    clear_value x3
    extract_lets +onlyGivenNames x4
    have h4 : Keeps a x4 := by
      unfold x4
      refine Keeps.ite ?_ ?_
      · exact checkReports_keeps (by assumption)
      · assumption
    clear_value x4
    extract_lets +onlyGivenNames x5
    clear_value x5
    extract_lets +onlyGivenNames x6
    clear_value x6
    extract_lets +onlyGivenNames x7
    have h7 : Keeps a x7 := by
      unfold x7
      refine Keeps.ite ?_ ?_
      · exact linkDown_keeps (by assumption)
      · assumption
    clear_value x7
    refine Keeps.ite ?_ ?_
    · exact identify_keeps (by assumption)
    · assumption

theorem execBackChannelSilent_keeps {a s : State} {v0 v1} (h : Keeps a s) :
    OutKeeps a (@execBackChannelSilent v0 v1 s) := by
  unfold execBackChannelSilent
  extract_lets +onlyGivenNames x1
  have h1 : Keeps a x1 := by
    unfold x1
    exact atTime_keeps (by assumption)
  clear_value x1
  extract_lets +onlyGivenNames x2
  clear_value x2
  refine OutKeeps.ite ?_ ?_
  · exact OutKeeps.ok (linkDown_keeps (by assumption))
  · exact OutKeeps.ok (by assumption)

theorem ilkHigh_keeps {a s : State} {v1} (h : Keeps a s) :
    Keeps a (@State.ilkHigh s v1) := by
  unfold State.ilkHigh
  refine Keeps.ite ?_ ?_
  · assumption
  · extract_lets +onlyGivenNames x1
    clear_value x1
    exact setUnit_keeps (by assumption)

theorem execGateOpened_keeps {a s : State} {v0 v1} (h : Keeps a s) :
    OutKeeps a (@execGateOpened v0 v1 s) := by
  unfold execGateOpened
  extract_lets +onlyGivenNames x1
  have h1 : Keeps a x1 := by
    unfold x1
    exact ilkHigh_keeps (moveX_keeps (atTime_keeps (by assumption)))
  clear_value x1
  refine OutKeeps.ite ?_ ?_
  · exact OutKeeps.ok (by assumption)
  · extract_lets +onlyGivenNames x2
    have h2 : Keeps a x2 := by
      unfold x2
      exact setn_keeps (setb_keeps (by assumption))
    clear_value x2
    extract_lets +onlyGivenNames x3
    have h3 : Keeps a x3 := by
      unfold x3
      refine Keeps.foldl ?_ (fun y4 z4 h4 => ?_)
      · assumption
      · refine Keeps.ite ?_ ?_
        · exact refreshPlane_keeps (by assumption)
        · assumption
    clear_value x3
    exact OutKeeps.ok (event_keeps (by assumption))

theorem execDropCountAccumulate_keeps {a s : State} {v0 v1} (h : Keeps a s) :
    OutKeeps a (@execDropCountAccumulate v0 v1 s) := by
  unfold execDropCountAccumulate
  exact OutKeeps.ok (accumulate_keeps (atTime_keeps (by assumption)))

theorem execDropCheckpoint_keeps {a s : State} {v0 v1} (h : Keeps a s) :
    OutKeeps a (@execDropCheckpoint v0 v1 s) := by
  unfold execDropCheckpoint
  extract_lets +onlyGivenNames x1
  have h1 : Keeps a x1 := by
    unfold x1
    exact atTime_keeps (by assumption)
  clear_value x1
  refine OutKeeps.ite ?_ ?_
  · exact OutKeeps.ok (inc32_keeps (by assumption))
  · exact OutKeeps.ok (dropCheckpoint_keeps (by assumption))

theorem staged_keeps {a s : State} {v1} (h : Keeps a s) :
    Keeps a (@State.staged s v1) := by
  unfold State.staged
  refine Keeps.ite ?_ ?_
  · exact sendTrims_keeps (by assumption)
  · exact switchNow_keeps (by assumption)

theorem stage_keeps {a s : State} {v1 v2 v3 v4} (h : Keeps a s) :
    Keeps a (@State.stage s v1 v2 v3 v4) := by
  unfold State.stage
  extract_lets +onlyGivenNames x1
  clear_value x1
  extract_lets +onlyGivenNames x2
  clear_value x2
  extract_lets +onlyGivenNames x3
  clear_value x3
  extract_lets +onlyGivenNames x4
  clear_value x4
  extract_lets +onlyGivenNames x5
  clear_value x5
  extract_lets +onlyGivenNames x6
  have h6 : Keeps a x6 := by
    unfold x6
    exact setInsp_keeps (by assumption)
  clear_value x6
  exact setn_keeps (by assumption)

theorem mapEntryWrite_keeps {a s : State} {v1} (h : Keeps a s) :
    Keeps a (@State.mapEntryWrite s v1) := by
  unfold State.mapEntryWrite
  extract_lets +onlyGivenNames x1
  clear_value x1
  exact staged_keeps (stage_keeps (by assumption))

theorem mapReset_keeps {a s : State} {v1} (h : Keeps a s) :
    Keeps a (@State.mapReset s v1) := by
  unfold State.mapReset
  extract_lets +onlyGivenNames x1
  clear_value x1
  refine Keeps.ite ?_ ?_
  · assumption
  · exact staged_keeps (stage_keeps (by assumption))

theorem logEntry_keeps {a s : State} {v1 v2 v3} (h : Keeps a s) :
    Keeps a (@State.logEntry s v1 v2 v3) := by
  unfold State.logEntry
  exact logRecord_keeps (by assumption)

theorem detect_keeps {a s : State} {v1 v2 v3 v4 v5} (h : Keeps a s) :
    Keeps a (@State.detect s v1 v2 v3 v4 v5) := by
  unfold State.detect
  extract_lets +onlyGivenNames x1
  have h1 : Keeps a x1 := by
    unfold x1
    exact inc64_keeps (by assumption)
  clear_value x1
  extract_lets +onlyGivenNames x2
  refine Keeps.ite ?_ ?_
  · dsimp only [x2]
    exact event_keeps (by assumption)
  · split
    · dsimp only [x2]
      exact event_keeps (by assumption)
    · extract_lets +onlyGivenNames x3
      have h3 : Keeps a x3 := by
        unfold x3
        refine Keeps.foldl ?_ (fun y4 z4 h4 => ?_)
        · assumption
        · exact logEntry_keeps (by assumption)
      clear_value x3
      dsimp only [x2]
      exact event_keeps (stage_keeps (by assumption))
    · extract_lets +onlyGivenNames x5
      clear_value x5
      extract_lets +onlyGivenNames x6
      have h6 : Keeps a x6 := by
        unfold x6
        dsimp only [x2]
        exact event_keeps (by assumption)
      clear_value x6
      refine Keeps.ite ?_ ?_
      · exact event_keeps (setInsp_keeps (by assumption))
      · assumption

theorem barSeen_keeps {a s : State} {v1 v2} (h : Keeps a s) :
    Keeps a (@State.barSeen s v1 v2) := by
  unfold State.barSeen
  exact setInsp_keeps (by assumption)

theorem lineErrors_keeps {a s : State} {v1 v2 v3} (h : Keeps a s) :
    Keeps a (@State.lineErrors s v1 v2 v3) := by
  unfold State.lineErrors
  refine Keeps.foldl ?_ (fun y1 z1 h1 => ?_)
  · assumption
  · refine Keeps.ite ?_ ?_
    · exact composeError_keeps (by assumption)
    · assumption

theorem noteStreaks_keeps {a s : State} {v1 v2 v3 v4} (h : Keeps a s) :
    Keeps a (@State.noteStreaks s v1 v2 v3 v4) := by
  unfold State.noteStreaks
  extract_lets +onlyGivenNames x1
  have h1 : Keeps a x1 := by
    unfold x1
    exact bump_keeps (by assumption)
  clear_value x1
  extract_lets +onlyGivenNames x2
  clear_value x2
  refine Keeps.ite ?_ ?_
  · assumption
  · refine Keeps.foldl ?_ (fun y3 z3 h3 => ?_)
    · assumption
    · refine Keeps.ite ?_ ?_
      · exact setInsp_keeps (by assumption)
      · assumption

theorem startBar_keeps {a s : State} {v1 v2} (h : Keeps a s) :
    Keeps a (@State.startBar s v1 v2) := by
  unfold State.startBar
  extract_lets +onlyGivenNames x1
  clear_value x1
  extract_lets +onlyGivenNames x2
  clear_value x2
  refine Keeps.ite ?_ ?_
  · assumption
  · extract_lets +onlyGivenNames x3
    clear_value x3
    exact setInsp_keeps (by assumption)

theorem couch_keeps {a s : State} {v1 v2 v3} (h : Keeps a s) :
    Keeps a (@State.couch s v1 v2 v3) := by
  unfold State.couch
  extract_lets +onlyGivenNames x1
  have h1 : Keeps a x1 := by
    unfold x1
    refine Keeps.ite ?_ ?_
    · exact startBar_keeps (by assumption)
    · assumption
  clear_value x1
  extract_lets +onlyGivenNames x2
  have h2 : Keeps a x2 := by
    unfold x2
    exact lineErrors_keeps (by assumption)
  clear_value x2
  extract_lets +onlyGivenNames x3
  clear_value x3
  extract_lets +onlyGivenNames x4
  have h4 : Keeps a x4 := by
    unfold x4
    split
    · exact store_keeps (by assumption)
    · exact inc64_keeps (by assumption)
  clear_value x4
  extract_lets +onlyGivenNames x5
  have h5 : Keeps a x5 := by
    unfold x5
    exact store_keeps (by assumption)
  clear_value x5
  extract_lets +onlyGivenNames x6
  have h6 : Keeps a x6 := by
    unfold x6
    exact inc64_keeps (seti_keeps (by assumption))
  clear_value x6
  extract_lets +onlyGivenNames x7
  have h7 : Keeps a x7 := by
    unfold x7
    exact bump_keeps (by assumption)
  clear_value x7
  refine Keeps.ite ?_ ?_
  · exact inc64_keeps (by assumption)
  · assumption

theorem execLineCouched_keeps {a s : State} {v0 v1 v2} (h : Keeps a s) :
    OutKeeps a (@execLineCouched v0 v1 v2 s) := by
  unfold execLineCouched
  extract_lets +onlyGivenNames x1
  have h1 : Keeps a x1 := by
    unfold x1
    exact moveX_keeps (atTime_keeps (by assumption))
  clear_value x1
  extract_lets +onlyGivenNames x2
  clear_value x2
  extract_lets +onlyGivenNames x3
  clear_value x3
  extract_lets +onlyGivenNames x4
  clear_value x4
  extract_lets +onlyGivenNames x5
  clear_value x5
  refine OutKeeps.ite ?_ ?_
  · exact OutKeeps.ok (by assumption)
  · extract_lets +onlyGivenNames x6
    have h6 : Keeps a x6 := by
      unfold x6
      exact couch_keeps (by assumption)
    clear_value x6
    extract_lets +onlyGivenNames x7
    clear_value x7
    extract_lets +onlyGivenNames x8
    have h8 : Keeps a x8 := by
      unfold x8
      refine Keeps.same (b := x6) rfl rfl rfl rfl rfl rfl rfl rfl rfl ?_
      assumption
    clear_value x8
    exact OutKeeps.ok (lookCheck_keeps (by assumption))

theorem noteClass_keeps {a s : State} {v1 v2 v3 v4 v5} (h : Keeps a s) :
    Keeps a (@State.noteClass s v1 v2 v3 v4 v5) := by
  unfold State.noteClass
  extract_lets +onlyGivenNames x1
  clear_value x1
  refine Keeps.ite ?_ ?_
  · exact setInsp_keeps (by assumption)
  · extract_lets +onlyGivenNames x2
    clear_value x2
    refine Keeps.ite ?_ ?_
    · exact detect_keeps (setInsp_keeps (by assumption))
    · exact setInsp_keeps (by assumption)

theorem evalSegment_keeps {a s : State} {v1 v2 v3 v4} (h : Keeps a s) :
    Keeps a (@State.evalSegment s v1 v2 v3 v4) := by
  unfold State.evalSegment
  refine Keeps.ite ?_ ?_
  · assumption
  · extract_lets +onlyGivenNames x1
    clear_value x1
    extract_lets +onlyGivenNames x2
    clear_value x2
    extract_lets +onlyGivenNames x3
    clear_value x3
    refine Keeps.foldl ?_ (fun y4 z4 h4 => ?_)
    · assumption
    · exact noteClass_keeps (by assumption)

theorem execBarEvaluated_keeps {a s : State} {v0 v1 v2 v3} (h : Keeps a s) :
    OutKeeps a (@execBarEvaluated v0 v1 v2 v3 s) := by
  unfold execBarEvaluated
  extract_lets +onlyGivenNames x1
  have h1 : Keeps a x1 := by
    unfold x1
    exact atTime_keeps (by assumption)
  clear_value x1
  split
  · exact OutKeeps.ok (by assumption)
  · split
    · exact OutKeeps.ok (by assumption)
    · refine OutKeeps.ite ?_ ?_
      · exact OutKeeps.ok (by assumption)
      · extract_lets +onlyGivenNames x2
        clear_value x2
        extract_lets +onlyGivenNames x3
        have h3 : Keeps a x3 := by
          unfold x3
          refine Keeps.foldl ?_ (fun y4 z4 h4 => ?_)
          · assumption
          · exact evalSegment_keeps (by assumption)
        clear_value x3
        extract_lets +onlyGivenNames x5
        have h5 : Keeps a x5 := by
          unfold x5
          exact inc64_keeps (inc64_keeps (by assumption))
        clear_value x5
        exact OutKeeps.ok (barSeen_keeps (by assumption))

theorem execInspectionComplete_keeps {a s : State} {v0 v1 v2 v3} (h : Keeps a s) :
    OutKeeps a (@execInspectionComplete v0 v1 v2 v3 s) := by
  unfold execInspectionComplete
  extract_lets +onlyGivenNames x1
  have h1 : Keeps a x1 := by
    unfold x1
    exact atTime_keeps (by assumption)
  clear_value x1
  split
  · exact OutKeeps.ok (by assumption)
  · refine OutKeeps.ite ?_ ?_
    · exact OutKeeps.ok (by assumption)
    · split
      · exact OutKeeps.ok (inc32_keeps (by assumption))
      · refine OutKeeps.ite ?_ ?_
        · exact OutKeeps.ok (inc32_keeps (by assumption))
        · extract_lets +onlyGivenNames x2
          clear_value x2
          extract_lets +onlyGivenNames x3
          have h3 : Keeps a x3 := by
            unfold x3
            refine Keeps.ite ?_ ?_
            · exact inc32_keeps (by assumption)
            · exact noteStreaks_keeps (inc64_keeps (by assumption))
          clear_value x3
          exact OutKeeps.ok (camResult_keeps (by assumption))

theorem execStagingComplete_keeps {a s : State} {v0 v1} (h : Keeps a s) :
    OutKeeps a (@execStagingComplete v0 v1 s) := by
  unfold execStagingComplete
  extract_lets +onlyGivenNames x1
  have h1 : Keeps a x1 := by
    unfold x1
    exact atTime_keeps (by assumption)
  clear_value x1
  extract_lets +onlyGivenNames x2
  clear_value x2
  extract_lets +onlyGivenNames x3
  have h3 : Keeps a x3 := by
    unfold x3
    exact setInsp_keeps (by assumption)
  clear_value x3
  exact OutKeeps.ok (staged_keeps (by assumption))

theorem execMapSaved_keeps {a s : State} {v0 v1} (h : Keeps a s) :
    OutKeeps a (@execMapSaved v0 v1 s) := by
  unfold execMapSaved
  extract_lets +onlyGivenNames x1
  have h1 : Keeps a x1 := by
    unfold x1
    exact atTime_keeps (by assumption)
  clear_value x1
  extract_lets +onlyGivenNames x2
  clear_value x2
  extract_lets +onlyGivenNames x3
  clear_value x3
  extract_lets +onlyGivenNames x4
  have h4 : Keeps a x4 := by
    unfold x4
    exact setInsp_keeps (by assumption)
  clear_value x4
  exact OutKeeps.ok (setn_keeps (by assumption))

end Sys2Proof.Machine
end

