-- ==== Sys2Proof/Laws/KeepsC.lean ====
section
/-! SUPPORT. What the operations of these files keep, by `Keeps`: Beam, Clocks, Access, Codec, Dma, MemCmds,
Motor, Loops. -/

set_option Elab.async false

namespace Sys2Proof.Machine

theorem countPixels_keeps {a s : State} {v1 v2 v3 v4} (h : Keeps a s) :
    Keeps a (@State.countPixels s v1 v2 v3 v4) := by
  unfold State.countPixels
  refine Keeps.ite ?_ ?_
  · extract_lets +onlyGivenNames x1
    have h1 : Keeps a x1 := by
      unfold x1
      exact bump_keeps (by assumption)
    clear_value x1
    refine Keeps.ite ?_ ?_
    · exact bump_keeps (by assumption)
    · exact bump_keeps (by assumption)
  · refine Keeps.ite ?_ ?_
    · refine Keeps.same (b := s) rfl rfl rfl rfl rfl rfl rfl rfl rfl ?_
      assumption
    · assumption

theorem chargeScan_keeps {a s : State} {v1 v2 v3} (h : Keeps a s) :
    Keeps a (@State.chargeScan s v1 v2 v3) := by
  unfold State.chargeScan
  refine Keeps.foldl ?_ (fun y1 z1 h1 => ?_)
  · assumption
  · exact chargeItem_keeps (by assumption)

theorem settleScan_keeps {a s : State} {v1 v2} (h : Keeps a s) :
    Keeps a (@State.settleScan s v1 v2) := by
  unfold State.settleScan
  extract_lets +onlyGivenNames x1
  clear_value x1
  split
  · assumption
  · extract_lets +onlyGivenNames x2
    clear_value x2
    extract_lets +onlyGivenNames x3
    clear_value x3
    extract_lets +onlyGivenNames x4
    have h4 : Keeps a x4 := by
      unfold x4
      exact setUnit_keeps (by assumption)
    clear_value x4
    refine Keeps.ite ?_ ?_
    · assumption
    · extract_lets +onlyGivenNames x5
      have h5 : Keeps a x5 := by
        unfold x5
        exact countPixels_keeps (by assumption)
      clear_value x5
      refine Keeps.ite ?_ ?_
      · exact chargeScan_keeps (by assumption)
      · assumption

theorem unitEnter_keeps {a s : State} {v1 v2 v3} (h : Keeps a s) :
    Keeps a (@State.unitEnter s v1 v2 v3) := by
  unfold State.unitEnter
  extract_lets +onlyGivenNames x1
  clear_value x1
  extract_lets +onlyGivenNames x2
  have h2 : Keeps a x2 := by
    unfold x2
    exact setUnit_keeps (by assumption)
  clear_value x2
  extract_lets +onlyGivenNames x3
  have h3 : Keeps a x3 := by
    unfold x3
    exact setn_keeps (setn_keeps (by assumption))
  clear_value x3
  exact event_keeps (by assumption)

theorem unitSafe_keeps {a s : State} {v1} (h : Keeps a s) :
    Keeps a (@State.unitSafe s v1) := by
  unfold State.unitSafe
  refine Keeps.ite ?_ ?_
  · assumption
  · extract_lets +onlyGivenNames x1
    have h1 : Keeps a x1 := by
      unfold x1
      exact settleScan_keeps (by assumption)
    clear_value x1
    exact unitEnter_keeps (setUnit_keeps (by assumption))

theorem unitWait_keeps {a s : State} {v1} (h : Keeps a s) :
    Keeps a (@State.unitWait s v1) := by
  unfold State.unitWait
  extract_lets +onlyGivenNames x1
  have h1 : Keeps a x1 := by
    unfold x1
    exact unitEnter_keeps (by assumption)
  clear_value x1
  refine Keeps.ite ?_ ?_
  · exact unitEnter_keeps (by assumption)
  · assumption

theorem unitConfigured_keeps {a s : State} {v1 v2} (h : Keeps a s) :
    Keeps a (@State.unitConfigured s v1 v2) := by
  unfold State.unitConfigured
  extract_lets +onlyGivenNames x1
  clear_value x1
  refine Keeps.ite ?_ ?_
  · refine Keeps.ite ?_ ?_
    · assumption
    · extract_lets +onlyGivenNames x2
      have h2 : Keeps a x2 := by
        unfold x2
        exact settleScan_keeps (by assumption)
      clear_value x2
      exact unitEnter_keeps (setUnit_keeps (by assumption))
  · refine Keeps.ite ?_ ?_
    · exact unitWait_keeps (by assumption)
    · refine Keeps.ite ?_ ?_
      · exact unitWait_keeps (by assumption)
      · assumption

theorem beamReset_keeps {a s : State} {v1} (h : Keeps a s) :
    Keeps a (@State.beamReset s v1) := by
  unfold State.beamReset
  refine Keeps.foldl ?_ (fun y1 z1 h1 => ?_)
  · assumption
  · exact setn_keeps (by assumption)

theorem unlock_keeps {a s : State} {v1 v2} (h : Keeps a s) :
    Keeps a (@State.unlock s v1 v2) := by
  unfold State.unlock
  extract_lets +onlyGivenNames x1
  clear_value x1
  extract_lets +onlyGivenNames x2
  have h2 : Keeps a x2 := by
    unfold x2
    exact setUnit_keeps (by assumption)
  clear_value x2
  refine Keeps.ite ?_ ?_
  · assumption
  · extract_lets +onlyGivenNames x3
    have h3 : Keeps a x3 := by
      unfold x3
      exact settleScan_keeps (by assumption)
    clear_value x3
    extract_lets +onlyGivenNames x4
    clear_value x4
    extract_lets +onlyGivenNames x5
    have h5 : Keeps a x5 := by
      unfold x5
      exact setUnit_keeps (by assumption)
    clear_value x5
    extract_lets +onlyGivenNames x6
    have h6 : Keeps a x6 := by
      unfold x6
      exact inc32_keeps (unitEnter_keeps (by assumption))
    clear_value x6
    refine Keeps.ite ?_ ?_
    · exact disposeAll_keeps (by assumption)
    · assumption

theorem pixelClockLost_keeps {a s : State} (h : Keeps a s) :
    Keeps a (@State.pixelClockLost s) := by
  unfold State.pixelClockLost
  exact unlock_keeps (unlock_keeps (by assumption))

theorem endScan_keeps {a s : State} {v1} (h : Keeps a s) :
    Keeps a (@State.endScan s v1) := by
  unfold State.endScan
  split
  · exact passBeam_keeps (settleScan_keeps (by assumption))
  · assumption

theorem noteBd_keeps {a s : State} {v1 v2} (h : Keeps a s) :
    Keeps a (@State.noteBd s v1 v2) := by
  unfold State.noteBd
  extract_lets +onlyGivenNames x1
  clear_value x1
  extract_lets +onlyGivenNames x2
  clear_value x2
  extract_lets +onlyGivenNames x3
  have h3 : Keeps a x3 := by
    unfold x3
    exact setUnit_keeps (by assumption)
  clear_value x3
  exact setn_keeps (by assumption)

theorem skipScan_keeps {a s : State} {v1 v2} (h : Keeps a s) :
    Keeps a (@State.skipScan s v1 v2) := by
  unfold State.skipScan
  extract_lets +onlyGivenNames x1
  clear_value x1
  extract_lets +onlyGivenNames x2
  clear_value x2
  extract_lets +onlyGivenNames x3
  clear_value x3
  extract_lets +onlyGivenNames x4
  have h4 : Keeps a x4 := by
    unfold x4
    refine Keeps.ite ?_ ?_
    · exact bump_keeps (bump_keeps (by assumption))
    · assumption
  clear_value x4
  exact chargeScan_keeps (inc64_keeps (by assumption))

theorem selectLine_keeps {a s : State} {v1} (h : Keeps a s) :
    Keeps a (@State.selectLine s v1) := by
  unfold State.selectLine
  extract_lets +onlyGivenNames x1
  clear_value x1
  extract_lets +onlyGivenNames x2
  clear_value x2
  extract_lets +onlyGivenNames x3
  clear_value x3
  extract_lets +onlyGivenNames x4
  clear_value x4
  refine Keeps.ite ?_ ?_
  · exact inc64_keeps (setUnit_keeps (by assumption))
  · extract_lets +onlyGivenNames x5
    clear_value x5
    extract_lets +onlyGivenNames x6
    have h6 : Keeps a x6 := by
      unfold x6
      refine Keeps.foldl ?_ (fun y7 z7 h7 => ?_)
      · assumption
      · exact skipScan_keeps (by assumption)
    clear_value x6
    extract_lets +onlyGivenNames x8
    have h8 : Keeps a x8 := by
      unfold x8
      refine Keeps.ite ?_ ?_
      · assumption
      · exact event_keeps (by assumption)
    clear_value x8
    extract_lets +onlyGivenNames x9
    clear_value x9
    extract_lets +onlyGivenNames x10
    clear_value x10
    extract_lets +onlyGivenNames x11
    clear_value x11
    extract_lets +onlyGivenNames x12
    clear_value x12
    extract_lets +onlyGivenNames x13
    clear_value x13
    extract_lets +onlyGivenNames x14
    clear_value x14
    extract_lets +onlyGivenNames x15
    have h15 : Keeps a x15 := by
      unfold x15
      exact setGrid_keeps (by assumption)
    clear_value x15
    extract_lets +onlyGivenNames x16
    clear_value x16
    extract_lets +onlyGivenNames x17
    have h17 : Keeps a x17 := by
      unfold x17
      exact setUnit_keeps (by assumption)
    clear_value x17
    extract_lets +onlyGivenNames x18
    have h18 : Keeps a x18 := by
      unfold x18
      exact setn_keeps (by assumption)
    clear_value x18
    extract_lets +onlyGivenNames x19
    have h19 : Keeps a x19 := by
      unfold x19
      exact setItems_keeps (by assumption)
    clear_value x19
    extract_lets +onlyGivenNames x20
    have h20 : Keeps a x20 := by
      unfold x20
      refine Keeps.foldl ?_ (fun y21 z21 h21 => ?_)
      · assumption
      · refine Keeps.ite ?_ ?_
        · exact setFire_keeps (by assumption)
        · assumption
    clear_value x20
    extract_lets +onlyGivenNames x22
    have h22 : Keeps a x22 := by
      unfold x22
      refine Keeps.ite ?_ ?_
      · refine Keeps.foldl ?_ (fun y23 z23 h23 => ?_)
        · assumption
        · exact dispose_keeps (by assumption)
      · assumption
    clear_value x22
    refine Keeps.ite ?_ ?_
    · extract_lets +onlyGivenNames x24
      clear_value x24
      extract_lets +onlyGivenNames x25
      have h25 : Keeps a x25 := by
        unfold x25
        refine Keeps.foldl ?_ (fun y26 z26 h26 => ?_)
        · assumption
        · exact dispose_keeps (by assumption)
      clear_value x25
      refine Keeps.ite ?_ ?_
      · assumption
      · exact rampCheck_keeps (setReason_keeps (by assumption))
    · assumption

theorem beginScan_keeps {a s : State} {v1 v2} (h : Keeps a s) :
    Keeps a (@State.beginScan s v1 v2) := by
  unfold State.beginScan
  extract_lets +onlyGivenNames x1
  clear_value x1
  split
  · assumption
  · extract_lets +onlyGivenNames x2
    clear_value x2
    extract_lets +onlyGivenNames x3
    have h3 : Keeps a x3 := by
      unfold x3
      exact setUnit_keeps (by assumption)
    clear_value x3
    extract_lets +onlyGivenNames x4
    have h4 : Keeps a x4 := by
      unfold x4
      exact inc64_keeps (by assumption)
    clear_value x4
    refine Keeps.ite ?_ ?_
    · assumption
    · extract_lets +onlyGivenNames x5
      clear_value x5
      exact setItems_keeps (by assumption)

theorem bdEmitting_keeps {a s : State} {v1 v2} (h : Keeps a s) :
    Keeps a (@State.bdEmitting s v1 v2) := by
  unfold State.bdEmitting
  refine Keeps.ite ?_ ?_
  · exact unlock_keeps (by assumption)
  · exact advise_keeps (lookCheck_keeps (selectLine_keeps (beginScan_keeps (by assumption))))

theorem bdWaiting_keeps {a s : State} {v1} (h : Keeps a s) :
    Keeps a (@State.bdWaiting s v1) := by
  unfold State.bdWaiting
  extract_lets +onlyGivenNames x1
  have h1 : Keeps a x1 := by
    unfold x1
    exact beamIdle_keeps (by assumption)
  clear_value x1
  extract_lets +onlyGivenNames x2
  have h2 : Keeps a x2 := by
    unfold x2
    refine Keeps.ite ?_ ?_
    · exact unitEnter_keeps (by assumption)
    · assumption
  clear_value x2
  refine Keeps.ite ?_ ?_
  · exact advise_keeps (unitEnter_keeps (by assumption))
  · assumption

theorem runBdEdge_keeps {a s : State} {v0 v1 v2 v3} (h : Keeps a s) :
    OutKeeps a (@runBdEdge v0 v1 v2 v3 s) := by
  unfold runBdEdge
  extract_lets +onlyGivenNames x1
  have h1 : Keeps a x1 := by
    unfold x1
    exact moveX_keeps (atTime_keeps (by assumption))
  clear_value x1
  extract_lets +onlyGivenNames x2
  clear_value x2
  refine OutKeeps.ite ?_ ?_
  · exact OutKeeps.ok (by assumption)
  · extract_lets +onlyGivenNames x3
    clear_value x3
    extract_lets +onlyGivenNames x4
    clear_value x4
    extract_lets +onlyGivenNames x5
    have h5 : Keeps a x5 := by
      unfold x5
      exact noteBd_keeps (endScan_keeps (by assumption))
    clear_value x5
    extract_lets +onlyGivenNames x6
    have h6 : Keeps a x6 := by
      unfold x6
      exact unitConfigured_keeps (applyLine_keeps (by assumption))
    clear_value x6
    refine OutKeeps.ok ?_
    refine Keeps.ite ?_ ?_
    · exact bdEmitting_keeps (by assumption)
    · exact bdWaiting_keeps (by assumption)

theorem execLaserIlkLow_keeps {a s : State} {v0 v1} (h : Keeps a s) :
    OutKeeps a (@execLaserIlkLow v0 v1 s) := by
  unfold execLaserIlkLow
  extract_lets +onlyGivenNames x1
  have h1 : Keeps a x1 := by
    unfold x1
    exact atTime_keeps (by assumption)
  clear_value x1
  extract_lets +onlyGivenNames x2
  clear_value x2
  extract_lets +onlyGivenNames x3
  have h3 : Keeps a x3 := by
    unfold x3
    exact settleScan_keeps (by assumption)
  clear_value x3
  exact OutKeeps.ok (setUnit_keeps (by assumption))

theorem execBdTimeout_keeps {a s : State} {v0 v1} (h : Keeps a s) :
    OutKeeps a (@execBdTimeout v0 v1 s) := by
  unfold execBdTimeout
  extract_lets +onlyGivenNames x1
  have h1 : Keeps a x1 := by
    unfold x1
    exact moveX_keeps (atTime_keeps (by assumption))
  clear_value x1
  extract_lets +onlyGivenNames x2
  clear_value x2
  split
  · extract_lets +onlyGivenNames x3
    clear_value x3
    refine OutKeeps.ite ?_ ?_
    · exact OutKeeps.ok (by assumption)
    · extract_lets +onlyGivenNames x4
      have h4 : Keeps a x4 := by
        unfold x4
        exact unlock_keeps (by assumption)
      clear_value x4
      exact OutKeeps.ok (beamIdle_keeps (setUnit_keeps (by assumption)))
  · exact OutKeeps.ok (beamIdle_keeps (by assumption))

theorem setPll_keeps {a s : State} {v1 v2} (h : Keeps a s) :
    Keeps a (@State.setPll s v1 v2) := by
  unfold State.setPll
  refine Keeps.same (b := s) rfl rfl rfl rfl rfl rfl rfl rfl rfl ?_
  assumption

theorem tune_keeps {a s : State} {v1 v2} (h : Keeps a s) :
    Keeps a (@State.tune s v1 v2) := by
  unfold State.tune
  extract_lets +onlyGivenNames x1
  clear_value x1
  extract_lets +onlyGivenNames x2
  clear_value x2
  extract_lets +onlyGivenNames x3
  clear_value x3
  extract_lets +onlyGivenNames x4
  have h4 : Keeps a x4 := by
    unfold x4
    exact setn_keeps (setn_keeps (by assumption))
  clear_value x4
  extract_lets +onlyGivenNames x5
  have h5 : Keeps a x5 := by
    unfold x5
    exact setn_keeps (by assumption)
  clear_value x5
  extract_lets +onlyGivenNames x6
  clear_value x6
  extract_lets +onlyGivenNames x7
  have h7 : Keeps a x7 := by
    unfold x7
    exact seti_keeps (by assumption)
  clear_value x7
  extract_lets +onlyGivenNames x8
  have h8 : Keeps a x8 := by
    unfold x8
    exact seti_keeps (by assumption)
  clear_value x8
  exact setPll_keeps (by assumption)

theorem relock_keeps {a s : State} {v1} (h : Keeps a s) :
    Keeps a (@State.relock s v1) := by
  unfold State.relock
  extract_lets +onlyGivenNames x1
  clear_value x1
  extract_lets +onlyGivenNames x2
  clear_value x2
  extract_lets +onlyGivenNames x3
  clear_value x3
  extract_lets +onlyGivenNames x4
  have h4 : Keeps a x4 := by
    unfold x4
    exact setPll_keeps (by assumption)
  clear_value x4
  extract_lets +onlyGivenNames x5
  have h5 : Keeps a x5 := by
    unfold x5
    exact setn_keeps (tune_keeps (by assumption))
  clear_value x5
  refine Keeps.ite ?_ ?_
  · exact pixelClockLost_keeps (by assumption)
  · assumption

theorem pllDone_keeps {a s : State} {v1} (h : Keeps a s) :
    Keeps a (@State.pllDone s v1) := by
  unfold State.pllDone
  extract_lets +onlyGivenNames x1
  extract_lets +onlyGivenNames x2
  have h2 : Keeps a x2 := by
    unfold x2
    refine Keeps.same (b := s) rfl rfl rfl rfl rfl rfl rfl rfl rfl ?_
    assumption
  clear_value x2
  exact release_keeps (by assumption)

theorem glide_keeps {a s : State} {v1 v2} (h : Keeps a s) :
    Keeps a (@State.glide s v1 v2) := by
  unfold State.glide
  extract_lets +onlyGivenNames x1
  have h1 : Keeps a x1 := by
    unfold x1
    refine Keeps.ite ?_ ?_
    · exact pllDone_keeps (by assumption)
    · assumption
  clear_value x1
  exact setn_keeps (setPll_keeps (by assumption))

theorem stopWalk_keeps {a s : State} {v1} (h : Keeps a s) :
    Keeps a (@State.stopWalk s v1) := by
  unfold State.stopWalk
  refine Keeps.ite ?_ ?_
  · assumption
  · extract_lets +onlyGivenNames x1
    clear_value x1
    extract_lets +onlyGivenNames x2
    clear_value x2
    extract_lets +onlyGivenNames x3
    have h3 : Keeps a x3 := by
      unfold x3
      exact setn_keeps (by assumption)
    clear_value x3
    extract_lets +onlyGivenNames x4
    have h4 : Keeps a x4 := by
      unfold x4
      exact freeNext_keeps (by assumption)
    clear_value x4
    exact freeNext_keeps (setn_keeps (by assumption))

theorem holdover_keeps {a s : State} {v1} (h : Keeps a s) :
    Keeps a (@State.holdover s v1) := by
  unfold State.holdover
  extract_lets +onlyGivenNames x1
  have h1 : Keeps a x1 := by
    unfold x1
    exact stopWalk_keeps (by assumption)
  clear_value x1
  exact setn_keeps (setPll_keeps (by assumption))

theorem pllLost_keeps {a s : State} {v1} (h : Keeps a s) :
    Keeps a (@State.pllLost s v1) := by
  unfold State.pllLost
  refine Keeps.ite ?_ ?_
  · exact relock_keeps (by assumption)
  · exact holdover_keeps (by assumption)

theorem execPllLockLoss_keeps {a s : State} {v0 v1} (h : Keeps a s) :
    OutKeeps a (@execPllLockLoss v0 v1 s) := by
  unfold execPllLockLoss
  extract_lets +onlyGivenNames x1
  have h1 : Keeps a x1 := by
    unfold x1
    exact atTime_keeps (by assumption)
  clear_value x1
  refine OutKeeps.ite ?_ ?_
  · exact OutKeeps.ok (pllLost_keeps (inc32_keeps (by assumption)))
  · exact OutKeeps.ok (by assumption)

theorem relocked_keeps {a s : State} {v1} (h : Keeps a s) :
    Keeps a (@State.relocked s v1) := by
  unfold State.relocked
  extract_lets +onlyGivenNames x1
  clear_value x1
  extract_lets +onlyGivenNames x2
  have h2 : Keeps a x2 := by
    unfold x2
    exact setPll_keeps (by assumption)
  clear_value x2
  extract_lets +onlyGivenNames x3
  have h3 : Keeps a x3 := by
    unfold x3
    exact setn_keeps (setn_keeps (by assumption))
  clear_value x3
  exact pllDone_keeps (by assumption)

theorem execCrystalFault_keeps {a s : State} {v0 v1} (h : Keeps a s) :
    OutKeeps a (@execCrystalFault v0 v1 s) := by
  unfold execCrystalFault
  extract_lets +onlyGivenNames x1
  have h1 : Keeps a x1 := by
    unfold x1
    exact atTime_keeps (by assumption)
  clear_value x1
  extract_lets +onlyGivenNames x2
  have h2 : Keeps a x2 := by
    unfold x2
    exact setb_keeps (setn_keeps (by assumption))
  clear_value x2
  refine OutKeeps.ok ?_
  refine Keeps.foldl ?_ (fun y3 z3 h3 => ?_)
  · assumption
  · refine Keeps.ite ?_ ?_
    · exact holdover_keeps (by assumption)
    · assumption

theorem runPllGlideDone_keeps {a s : State} {v0 v1} (h : Keeps a s) :
    OutKeeps a (@runPllGlideDone v0 v1 s) := by
  unfold runPllGlideDone
  extract_lets +onlyGivenNames x1
  have h1 : Keeps a x1 := by
    unfold x1
    exact atTime_keeps (by assumption)
  clear_value x1
  refine OutKeeps.ite ?_ ?_
  · exact OutKeeps.ok (pllDone_keeps (setn_keeps (tune_keeps (by assumption))))
  · exact OutKeeps.ok (by assumption)

theorem execClockRangeFault_keeps {a s : State} {v0 v1} (h : Keeps a s) :
    OutKeeps a (@execClockRangeFault v0 v1 s) := by
  unfold execClockRangeFault
  extract_lets +onlyGivenNames x1
  have h1 : Keeps a x1 := by
    unfold x1
    exact atTime_keeps (by assumption)
  clear_value x1
  extract_lets +onlyGivenNames x2
  clear_value x2
  refine OutKeeps.ite ?_ ?_
  · exact OutKeeps.ok (by assumption)
  · extract_lets +onlyGivenNames x3
    have h3 : Keeps a x3 := by
      unfold x3
      exact inc32_keeps (by assumption)
    clear_value x3
    refine OutKeeps.ok ?_
    refine Keeps.ite ?_ ?_
    · exact pllLost_keeps (by assumption)
    · assumption

theorem put?_keeps {a s : State} {v1 v2} (h : Keeps a s) :
    Keeps a (@State.put? s v1 v2) := by
  unfold State.put?
  split
  · exact store_keeps (by assumption)
  · assumption
  · assumption
  · assumption
  · assumption

theorem fetched_keeps {a s : State} {v1 v2} (h : Keeps a s) :
    Keeps a (@State.fetched s v1 v2) := by
  unfold State.fetched
  split
  · refine Keeps.trans (b := s) ?_ ⟨rfl, Nat.le_refl _, Nat.le_add_right _ _, Nat.le_refl _, Nat.le_refl _, Nat.le_refl _, id, id⟩
    assumption
  · assumption
  · assumption
  · assumption
  · assumption

theorem noteRefused_keeps {a s : State} {v1} (h : Keeps a s) :
    Keeps a (@State.noteRefused s v1) := by
  unfold State.noteRefused
  refine Keeps.ite ?_ ?_
  · exact inc32_keeps (by assumption)
  · assumption

theorem runJob_keeps {a s : State} {v1 v2 v3} (h : Keeps a s) :
    Keeps a (@State.runJob s v1 v2 v3).1 := by
  unfold State.runJob
  split
  · dsimp only
    assumption
  · extract_lets +onlyGivenNames x1
    clear_value x1
    extract_lets +onlyGivenNames x2
    clear_value x2
    extract_lets +onlyGivenNames x3
    clear_value x3
    extract_lets +onlyGivenNames x4
    clear_value x4
    extract_lets +onlyGivenNames x5
    clear_value x5
    extract_lets +onlyGivenNames x6
    clear_value x6
    extract_lets +onlyGivenNames x7
    clear_value x7
    extract_lets +onlyGivenNames x8
    clear_value x8
    extract_lets +onlyGivenNames x9
    have h9 : Keeps a x9 := by
      unfold x9
      refine put?_keeps ?_
      exact fetched_keeps (by assumption)
    clear_value x9
    extract_lets +onlyGivenNames x10
    have h10 : Keeps a x10 := by
      unfold x10
      refine Keeps.ite ?_ ?_
      · exact inc32_keeps (by assumption)
      · assumption
    clear_value x10
    dsimp only
    assumption

theorem setCodec_keeps {a s : State} {v1 v2} (h : Keeps a s) :
    Keeps a (@State.setCodec s v1 v2) := by
  unfold State.setCodec
  refine Keeps.same (b := s) rfl rfl rfl rfl rfl rfl rfl rfl rfl ?_
  assumption

theorem setCodecQ_keeps {a s : State} {v1 v2 v3} (h : Keeps a s) :
    Keeps a (@State.setCodecQ s v1 v2 v3) := by
  unfold State.setCodecQ
  extract_lets +onlyGivenNames x1
  clear_value x1
  exact setCodec_keeps (by assumption)

theorem codecCount_keeps {a s : State} {v1 v2 v3} (h : Keeps a s) :
    Keeps a (@State.codecCount s v1 v2 v3) := by
  unfold State.codecCount
  extract_lets +onlyGivenNames x1
  have h1 : Keeps a x1 := by
    unfold x1
    exact bump_keeps (bump_keeps (inc64_keeps (by assumption)))
  clear_value x1
  extract_lets +onlyGivenNames x2
  have h2 : Keeps a x2 := by
    unfold x2
    refine Keeps.ite ?_ ?_
    · exact setn_keeps (inc32_keeps (by assumption))
    · assumption
  clear_value x2
  refine Keeps.ite ?_ ?_
  · exact setn_keeps (by assumption)
  · assumption

theorem complete_keeps {a s : State} {v1 v2 v3 v4} (h : Keeps a s) :
    Keeps a (@State.complete s v1 v2 v3 v4) := by
  unfold State.complete
  extract_lets +onlyGivenNames x1
  clear_value x1
  extract_lets +onlyGivenNames x2
  clear_value x2
  extract_lets +onlyGivenNames x3
  have h3 : Keeps a x3 := by
    unfold x3
    refine put?_keeps ?_
    assumption
  clear_value x3
  extract_lets +onlyGivenNames x4
  have h4 : Keeps a x4 := by
    unfold x4
    exact setCodecQ_keeps (by assumption)
  clear_value x4
  exact codecCount_keeps (by assumption)

theorem abortRest_keeps {a s : State} {v1 v2 v3} (h : Keeps a s) :
    Keeps a (@State.abortRest s v1 v2 v3) := by
  induction v3 generalizing s with
  | zero => exact h
  | succ n ih => exact ih (complete_keeps (setCodecQ_keeps h))

theorem startCodec_keeps {a s : State} {v1} (h : Keeps a s) :
    Keeps a (@State.startCodec s v1) := by
  unfold State.startCodec
  extract_lets +onlyGivenNames x1
  clear_value x1
  extract_lets +onlyGivenNames x2
  clear_value x2
  extract_lets +onlyGivenNames x3
  clear_value x3
  refine Keeps.ite ?_ ?_
  · assumption
  · extract_lets +onlyGivenNames x4
    clear_value x4
    extract_lets +onlyGivenNames x5
    clear_value x5
    extract_lets +onlyGivenNames x6
    clear_value x6
    extract_lets +onlyGivenNames x7
    have h7 : Keeps a x7 := by
      unfold x7
      refine Keeps.ite ?_ ?_
      · exact freeNext_keeps (by assumption)
      · assumption
    clear_value x7
    extract_lets +onlyGivenNames x8
    clear_value x8
    extract_lets +onlyGivenNames x9
    clear_value x9
    extract_lets +onlyGivenNames x10
    clear_value x10
    extract_lets +onlyGivenNames x11
    clear_value x11
    extract_lets +onlyGivenNames x12
    have h12 : Keeps a x12 := by
      unfold x12
      exact setCodecQ_keeps (fetched_keeps (noteRefused_keeps (by assumption)))
    clear_value x12
    exact setCodec_keeps (by assumption)

theorem abortQueue_keeps {a s : State} {v1 v2 v3} (h : Keeps a s) :
    Keeps a (@State.abortQueue s v1 v2 v3) := by
  unfold State.abortQueue
  extract_lets +onlyGivenNames x1
  have h1 : Keeps a x1 := by
    unfold x1
    split
    · refine Keeps.ite ?_ ?_
      · extract_lets +onlyGivenNames x2
        have h2 : Keeps a x2.1 := by
          unfold x2
          exact runJob_keeps (by assumption)
        clear_value x2
        exact complete_keeps (setCodec_keeps (by assumption))
      · assumption
    · assumption
  clear_value x1
  extract_lets +onlyGivenNames x3
  have h3 : Keeps a x3 := by
    unfold x3
    exact abortRest_keeps (by assumption)
  clear_value x3
  exact startCodec_keeps (setCodecQ_keeps (by assumption))

theorem codecReset_keeps {a s : State} {v1} (h : Keeps a s) :
    Keeps a (@State.codecReset s v1) := by
  unfold State.codecReset
  refine Keeps.foldl ?_ (fun y1 z1 h1 => ?_)
  · assumption
  · exact setn_keeps (by assumption)

theorem endArchive_keeps {a s : State} {v1} (h : Keeps a s) :
    Keeps a (@State.endArchive s v1) := by
  unfold State.endArchive
  split
  · assumption
  · extract_lets +onlyGivenNames x1
    clear_value x1
    extract_lets +onlyGivenNames x2
    clear_value x2
    extract_lets +onlyGivenNames x3
    clear_value x3
    extract_lets +onlyGivenNames x4
    clear_value x4
    extract_lets +onlyGivenNames x5
    clear_value x5
    extract_lets +onlyGivenNames x6
    clear_value x6
    extract_lets +onlyGivenNames x7
    have h7 : Keeps a x7 := by
      unfold x7
      refine Keeps.same (b := s) rfl rfl rfl rfl rfl rfl rfl rfl rfl ?_
      assumption
    clear_value x7
    refine Keeps.ite ?_ ?_
    · extract_lets +onlyGivenNames x8
      have h8 : Keeps a x8 := by
        unfold x8
        exact inc32_keeps (codecCount_keeps (by assumption))
      clear_value x8
      exact archPart_keeps (by assumption)
    · extract_lets +onlyGivenNames x9
      have h9 : Keeps a x9 := by
        unfold x9
        exact inc64_keeps (codecCount_keeps (by assumption))
      clear_value x9
      exact archPart_keeps (by assumption)

theorem codecReg_keeps {a s : State} {v1 v2 v3 v4} (h : Keeps a s) :
    Keeps a (@State.codecReg s v1 v2 v3 v4) := by
  unfold State.codecReg
  extract_lets +onlyGivenNames x1
  clear_value x1
  extract_lets +onlyGivenNames x2
  refine Keeps.ite ?_ ?_
  · dsimp only [x2]
    exact setCodecQ_keeps (by assumption)
  · refine Keeps.ite ?_ ?_
    · assumption
    · refine Keeps.ite ?_ ?_
      · dsimp only [x2]
        exact setCodecQ_keeps (by assumption)
      · refine Keeps.ite ?_ ?_
        · dsimp only [x2]
          exact setCodecQ_keeps (by assumption)
        · refine Keeps.ite ?_ ?_
          · dsimp only [x2]
            exact setCodecQ_keeps (by assumption)
          · assumption

theorem execCodecAbort_keeps {a s : State} {v0 v1 v2 v3} (h : Keeps a s) :
    OutKeeps a (@execCodecAbort v0 v1 v2 v3 s) := by
  unfold execCodecAbort
  exact OutKeeps.ok (abortQueue_keeps (atTime_keeps (by assumption)))

theorem saveCtx_keeps {a s : State} {v1 v2} (h : Keeps a s) :
    Keeps a (@State.saveCtx s v1 v2) := by
  unfold State.saveCtx
  refine Keeps.ite ?_ ?_
  · assumption
  · split
    · extract_lets +onlyGivenNames x1
      clear_value x1
      extract_lets +onlyGivenNames x2
      have h2 : Keeps a x2 := by
        unfold x2
        exact store_keeps (by assumption)
      clear_value x2
      refine Keeps.same (b := x2) rfl rfl rfl rfl rfl rfl rfl rfl rfl ?_
      assumption
    · assumption
    · assumption
    · assumption
    · assumption

theorem endJob_keeps {a s : State} {v1 v2 v3 v4} (h : Keeps a s) :
    Keeps a (@State.endJob s v1 v2 v3 v4) := by
  unfold State.endJob
  extract_lets +onlyGivenNames x1
  clear_value x1
  extract_lets +onlyGivenNames x2
  have h2 : Keeps a x2 := by
    unfold x2
    exact setCodec_keeps (by assumption)
  clear_value x2
  extract_lets +onlyGivenNames x3
  have h3 : Keeps a x3 := by
    unfold x3
    refine Keeps.ite ?_ ?_
    · exact saveCtx_keeps (by assumption)
    · assumption
  clear_value x3
  exact startCodec_keeps (complete_keeps (by assumption))

theorem execCodecDoorbell_keeps {a s : State} {v0 v1 v2 v3} (h : Keeps a s) :
    OutKeeps a (@execCodecDoorbell v0 v1 v2 v3 s) := by
  unfold execCodecDoorbell
  extract_lets +onlyGivenNames x1
  have h1 : Keeps a x1 := by
    unfold x1
    exact atTime_keeps (by assumption)
  clear_value x1
  extract_lets +onlyGivenNames x2
  clear_value x2
  refine OutKeeps.ite ?_ ?_
  · exact OutKeeps.ok (inc32_keeps (by assumption))
  · exact OutKeeps.ok (startCodec_keeps (setCodecQ_keeps (by assumption)))

theorem execCodecBusTimeout_keeps {a s : State} {v0 v1 v2} (h : Keeps a s) :
    OutKeeps a (@execCodecBusTimeout v0 v1 v2 s) := by
  unfold execCodecBusTimeout
  extract_lets +onlyGivenNames x1
  have h1 : Keeps a x1 := by
    unfold x1
    exact atTime_keeps (by assumption)
  clear_value x1
  split
  · exact OutKeeps.ok (by assumption)
  · extract_lets +onlyGivenNames x2
    have h2 : Keeps a x2.1 := by
      unfold x2
      exact runJob_keeps (by assumption)
    clear_value x2
    exact OutKeeps.ok (endJob_keeps (by assumption))

theorem execCodecQueueEnable_keeps {a s : State} {v0 v1 v2 v3} (h : Keeps a s) :
    OutKeeps a (@execCodecQueueEnable v0 v1 v2 v3 s) := by
  unfold execCodecQueueEnable
  extract_lets +onlyGivenNames x1
  have h1 : Keeps a x1 := by
    unfold x1
    exact atTime_keeps (by assumption)
  clear_value x1
  exact OutKeeps.ok (startCodec_keeps (setCodecQ_keeps (by assumption)))

theorem endLayer_keeps {a s : State} {v1 v2 v3} (h : Keeps a s) :
    Keeps a (@State.endLayer s v1 v2 v3) := by
  unfold State.endLayer
  split
  · assumption
  · split
    · assumption
    · extract_lets +onlyGivenNames x1
      clear_value x1
      extract_lets +onlyGivenNames x2
      clear_value x2
      refine Keeps.ite ?_ ?_
      · assumption
      · extract_lets +onlyGivenNames x3
        clear_value x3
        extract_lets +onlyGivenNames x4
        clear_value x4
        extract_lets +onlyGivenNames x5
        clear_value x5
        extract_lets +onlyGivenNames x6
        clear_value x6
        extract_lets +onlyGivenNames x7
        clear_value x7
        extract_lets +onlyGivenNames x8
        have h8 : Keeps a x8 := by
          unfold x8
          exact modItem_keeps (by assumption)
        clear_value x8
        extract_lets +onlyGivenNames x9
        have h9 : Keeps a x9 := by
          unfold x9
          exact codecCount_keeps (by assumption)
        clear_value x9
        refine Keeps.ite ?_ ?_
        · assumption
        · exact composeError_keeps (by assumption)

theorem execCodecJobEnd_keeps {a s : State} {v0 v1 v2 v3 v4 v5 v6} (h : Keeps a s) :
    OutKeeps a (@execCodecJobEnd v0 v1 v2 v3 v4 v5 v6 s) := by
  unfold execCodecJobEnd
  extract_lets +onlyGivenNames x1
  have h1 : Keeps a x1 := by
    unfold x1
    exact atTime_keeps (by assumption)
  clear_value x1
  extract_lets +onlyGivenNames x2
  refine OutKeeps.ite ?_ ?_
  · refine OutKeeps.ite ?_ ?_
    · exact OutKeeps.ok (endLayer_keeps (by assumption))
    · exact OutKeeps.ok (by assumption)
  · refine OutKeeps.ite ?_ ?_
    · refine OutKeeps.ite ?_ ?_
      · refine OutKeeps.ok ?_
        refine endArchive_keeps ?_
        dsimp only [x2]
        exact bump_keeps (by assumption)
      · exact OutKeeps.ok (by assumption)
    · split
      · exact OutKeeps.ok (by assumption)
      · refine OutKeeps.ite ?_ ?_
        · exact OutKeeps.ok (by assumption)
        · extract_lets +onlyGivenNames x3
          have h3 : Keeps a x3.1 := by
            unfold x3
            exact runJob_keeps (by assumption)
          clear_value x3
          extract_lets +onlyGivenNames x4
          clear_value x4
          refine OutKeeps.ok ?_
          refine endJob_keeps ?_
          dsimp only [x2]
          exact bump_keeps (by assumption)

theorem setDma_keeps {a s : State} {v1 v2} (h : Keeps a s) :
    Keeps a (@State.setDma s v1 v2) := by
  unfold State.setDma
  refine setn_keeps ?_
  refine Keeps.same (b := s) rfl rfl rfl rfl rfl rfl rfl rfl rfl ?_
  assumption

theorem dmaReset_keeps {a s : State} {v1} (h : Keeps a s) :
    Keeps a (@State.dmaReset s v1) := by
  unfold State.dmaReset
  refine Keeps.foldl ?_ (fun y1 z1 h1 => ?_)
  · assumption
  · exact setn_keeps (by assumption)

theorem runDesc_keeps {a s : State} {v1 v2 v3 v4} (h : Keeps a s) :
    Keeps a (@State.runDesc s v1 v2 v3 v4).1 := by
  unfold State.runDesc
  extract_lets +onlyGivenNames x1
  clear_value x1
  extract_lets +onlyGivenNames x2
  clear_value x2
  extract_lets +onlyGivenNames x3
  clear_value x3
  extract_lets +onlyGivenNames x4
  clear_value x4
  extract_lets +onlyGivenNames x5
  clear_value x5
  extract_lets +onlyGivenNames x6
  clear_value x6
  extract_lets +onlyGivenNames x7
  clear_value x7
  split
  · extract_lets +onlyGivenNames x8
    clear_value x8
    extract_lets +onlyGivenNames x9
    clear_value x9
    extract_lets +onlyGivenNames x10
    have h10 : Keeps a x10 := by
      unfold x10
      refine put?_keeps ?_
      assumption
    clear_value x10
    split
    · extract_lets +onlyGivenNames x11
      clear_value x11
      dsimp only
      exact noteRefused_keeps (by assumption)
    · dsimp only
      assumption
  · extract_lets +onlyGivenNames x12
    clear_value x12
    extract_lets +onlyGivenNames x13
    clear_value x13
    extract_lets +onlyGivenNames x14
    clear_value x14
    extract_lets +onlyGivenNames x15
    clear_value x15
    extract_lets +onlyGivenNames x16
    clear_value x16
    extract_lets +onlyGivenNames x17
    have h17 : Keeps a x17 := by
      unfold x17
      exact fetched_keeps (by assumption)
    clear_value x17
    split
    · extract_lets +onlyGivenNames x18
      have h18 : Keeps a x18 := by
        unfold x18
        refine put?_keeps ?_
        assumption
      clear_value x18
      split
      · dsimp only
        exact noteRefused_keeps (by assumption)
      · dsimp only
        assumption
    · extract_lets +onlyGivenNames x19
      clear_value x19
      extract_lets +onlyGivenNames x20
      have h20 : Keeps a x20 := by
        unfold x20
        exact fetched_keeps (by assumption)
      clear_value x20
      extract_lets +onlyGivenNames x21
      clear_value x21
      split
      · dsimp only
        assumption
      · split
        · dsimp only
          exact noteRefused_keeps (by assumption)
        · dsimp only
          assumption

theorem runChain_keeps {a s : State} {v0 v1 v3} (h : Keeps a s) :
    Keeps a (@State.runChain v0 v1 s v3).1 := by
  induction v1 generalizing s v3 with
  | zero => exact h
  | succ n ih =>
    unfold State.runChain
    extract_lets +onlyGivenNames x integ
    split
    · exact h
    · extract_lets +onlyGivenNames p
      split
      · exact noteRefused_keeps h
      · extract_lets +onlyGivenNames b t
        have ht : Keeps a t := fetched_keeps h
        clear_value t
        split
        · exact ht
        · extract_lets +onlyGivenNames x1 x2 r y
          have hr : Keeps a r.1 := runDesc_keeps (setDma_keeps ht)
          clear_value r
          split
          · exact setDma_keeps hr
          · extract_lets +onlyGivenNames flags y1
            split
            · exact ih (setDma_keeps hr)
            · exact setDma_keeps hr

theorem endChain_keeps {a s : State} {v1 v2 v3 v4 v5} (h : Keeps a s) :
    Keeps a (@State.endChain s v1 v2 v3 v4 v5) := by
  unfold State.endChain
  extract_lets +onlyGivenNames x1
  clear_value x1
  extract_lets +onlyGivenNames x2
  have h2 : Keeps a x2 := by
    unfold x2
    exact setDma_keeps (by assumption)
  clear_value x2
  extract_lets +onlyGivenNames x3
  have h3 : Keeps a x3 := by
    unfold x3
    exact bump_keeps (bump_keeps (inc64_keeps (by assumption)))
  clear_value x3
  extract_lets +onlyGivenNames x4
  have h4 : Keeps a x4 := by
    unfold x4
    refine Keeps.ite ?_ ?_
    · exact inc32_keeps (by assumption)
    · assumption
  clear_value x4
  extract_lets +onlyGivenNames x5
  have h5 : Keeps a x5 := by
    unfold x5
    refine Keeps.ite ?_ ?_
    · exact setn_keeps (by assumption)
    · assumption
  clear_value x5
  refine Keeps.ite ?_ ?_
  · exact setn_keeps (by assumption)
  · assumption

theorem finishChain_keeps {a s : State} {v1 v2 v3 v4} (h : Keeps a s) :
    Keeps a (@State.finishChain s v1 v2 v3 v4) := by
  unfold State.finishChain
  extract_lets +onlyGivenNames x1
  clear_value x1
  extract_lets +onlyGivenNames x2
  have h2 : Keeps a x2.1 := by
    unfold x2
    exact runChain_keeps (by assumption)
  clear_value x2
  extract_lets +onlyGivenNames x3
  clear_value x3
  exact endChain_keeps (by assumption)

theorem execDmaDrainEnd_keeps {a s : State} {v0 v1} (h : Keeps a s) :
    OutKeeps a (@execDmaDrainEnd v0 v1 s) := by
  unfold execDmaDrainEnd
  extract_lets +onlyGivenNames x1
  have h1 : Keeps a x1 := by
    unfold x1
    exact atTime_keeps (by assumption)
  clear_value x1
  split
  · exact OutKeeps.ok (by assumption)
  · extract_lets +onlyGivenNames x2
    clear_value x2
    extract_lets +onlyGivenNames x3
    have h3 : Keeps a x3 := by
      unfold x3
      refine Keeps.foldl ?_ (fun y4 z4 h4 => ?_)
      · assumption
      · exact finishChain_keeps (by assumption)
    clear_value x3
    extract_lets +onlyGivenNames x5
    clear_value x5
    extract_lets +onlyGivenNames x6
    have h6 : Keeps a x6 := by
      unfold x6
      refine Keeps.same (b := x3) rfl rfl rfl rfl rfl rfl rfl rfl rfl ?_
      assumption
    clear_value x6
    extract_lets +onlyGivenNames x7
    have h7 : Keeps a x7 := by
      unfold x7
      exact setn_keeps (setn_keeps (setb_keeps (by assumption)))
    clear_value x7
    extract_lets +onlyGivenNames x8
    have h8 : Keeps a x8 := by
      unfold x8
      exact inc32_keeps (setn_keeps (by assumption))
    clear_value x8
    exact OutKeeps.ok (event_keeps (by assumption))

theorem dmaIgnore_keeps {a s : State} {v1 v2} (h : Keeps a s) :
    Keeps a (@State.dmaIgnore s v1 v2) := by
  unfold State.dmaIgnore
  extract_lets +onlyGivenNames x1
  clear_value x1
  exact bump_keeps (setDma_keeps (by assumption))

theorem execDmaResume_keeps {a s : State} {v0 v1} (h : Keeps a s) :
    OutKeeps a (@execDmaResume v0 v1 s) := by
  unfold execDmaResume
  extract_lets +onlyGivenNames x1
  have h1 : Keeps a x1 := by
    unfold x1
    exact atTime_keeps (by assumption)
  clear_value x1
  extract_lets +onlyGivenNames x2
  clear_value x2
  refine OutKeeps.ite ?_ ?_
  · exact OutKeeps.ok (dmaIgnore_keeps (by assumption))
  · exact OutKeeps.ok (setDma_keeps (by assumption))

theorem execDmaStopRequest_keeps {a s : State} {v0 v1} (h : Keeps a s) :
    OutKeeps a (@execDmaStopRequest v0 v1 s) := by
  unfold execDmaStopRequest
  extract_lets +onlyGivenNames x1
  have h1 : Keeps a x1 := by
    unfold x1
    exact atTime_keeps (by assumption)
  clear_value x1
  extract_lets +onlyGivenNames x2
  clear_value x2
  refine OutKeeps.ite ?_ ?_
  · exact OutKeeps.ok (setDma_keeps (by assumption))
  · exact OutKeeps.ok (by assumption)

theorem execDmaChainEnd_keeps {a s : State} {v0 v1 v2 v3} (h : Keeps a s) :
    OutKeeps a (@execDmaChainEnd v0 v1 v2 v3 s) := by
  unfold execDmaChainEnd
  extract_lets +onlyGivenNames x1
  have h1 : Keeps a x1 := by
    unfold x1
    exact atTime_keeps (by assumption)
  clear_value x1
  extract_lets +onlyGivenNames x2
  clear_value x2
  refine OutKeeps.ite ?_ ?_
  · exact OutKeeps.ok (by assumption)
  · refine OutKeeps.ite ?_ ?_
    · exact OutKeeps.ok (finishChain_keeps (by assumption))
    · exact OutKeeps.ok (finishChain_keeps (by assumption))

theorem execDmaBusTimeout_keeps {a s : State} {v0 v1 v2} (h : Keeps a s) :
    OutKeeps a (@execDmaBusTimeout v0 v1 v2 s) := by
  unfold execDmaBusTimeout
  extract_lets +onlyGivenNames x1
  have h1 : Keeps a x1 := by
    unfold x1
    exact atTime_keeps (by assumption)
  clear_value x1
  refine OutKeeps.ite ?_ ?_
  · exact OutKeeps.ok (by assumption)
  · refine OutKeeps.ok ?_
    refine Keeps.same (b := x1) rfl rfl rfl rfl rfl rfl rfl rfl rfl ?_
    assumption

theorem execDmaStart_keeps {a s : State} {v0 v1} (h : Keeps a s) :
    OutKeeps a (@execDmaStart v0 v1 s) := by
  unfold execDmaStart
  extract_lets +onlyGivenNames x1
  have h1 : Keeps a x1 := by
    unfold x1
    exact atTime_keeps (by assumption)
  clear_value x1
  extract_lets +onlyGivenNames x2
  clear_value x2
  refine OutKeeps.ite ?_ ?_
  · exact OutKeeps.ok (dmaIgnore_keeps (by assumption))
  · exact OutKeeps.ok (setDma_keeps (by assumption))

theorem dmaReg_keeps {a s : State} {v1 v2 v3} (h : Keeps a s) :
    Keeps a (@State.dmaReg s v1 v2 v3) := by
  unfold State.dmaReg
  extract_lets +onlyGivenNames x1
  clear_value x1
  refine Keeps.ite ?_ ?_
  · exact setDma_keeps (by assumption)
  · refine Keeps.ite ?_ ?_
    · refine Keeps.ite ?_ ?_
      · exact dmaIgnore_keeps (by assumption)
      · exact setDma_keeps (by assumption)
    · refine Keeps.ite ?_ ?_
      · exact dmaIgnore_keeps (by assumption)
      · assumption

theorem execDmaStatusRead_keeps {a s : State} {v0 v1 v2 v3 v4 v5 v6} (h : Keeps a s) :
    OutKeeps a (@execDmaStatusRead v0 v1 v2 v3 v4 v5 v6 s) := by
  unfold execDmaStatusRead
  extract_lets +onlyGivenNames x1
  have h1 : Keeps a x1 := by
    unfold x1
    exact atTime_keeps (by assumption)
  clear_value x1
  extract_lets +onlyGivenNames x2
  clear_value x2
  extract_lets +onlyGivenNames x3
  clear_value x3
  exact OutKeeps.ok (setDma_keeps (by assumption))

theorem freezeClear_keeps {a s : State} (h : Keeps a s) :
    Keeps a (@State.freezeClear s) := by
  unfold State.freezeClear
  extract_lets +onlyGivenNames x1
  extract_lets +onlyGivenNames x2
  have h2 : Keeps a x2 := by
    unfold x2
    refine Keeps.foldl ?_ (fun y3 z3 h3 => ?_)
    · assumption
    · dsimp only [x1]
      exact setDurable_keeps (by assumption)
  clear_value x2
  exact setDurable_keeps (by assumption)

theorem updateCut_keeps {a s : State} (h : Keeps a s) :
    Keeps a (@State.updateCut s) := by
  unfold State.updateCut
  split
  · assumption
  · extract_lets +onlyGivenNames x1
    extract_lets +onlyGivenNames x2
    have h2 : Keeps a x2 := by
      unfold x2
      refine Keeps.same (b := s) rfl rfl rfl rfl rfl rfl rfl rfl rfl ?_
      assumption
    clear_value x2
    extract_lets +onlyGivenNames x3
    have h3 : Keeps a x3 := by
      unfold x3
      exact setn_keeps (setn_keeps (by assumption))
    clear_value x3
    exact sendIn_keeps (by assumption)

theorem snapshot_keeps {a s : State} {v1 v2} (h : Keeps a s) :
    Keeps a (@State.snapshot s v1 v2) := by
  unfold State.snapshot
  extract_lets +onlyGivenNames x1
  clear_value x1
  refine Keeps.foldl ?_ (fun y2 z2 h2 => ?_)
  · assumption
  · exact setDurable_keeps (by assumption)

theorem execDramFrozen_keeps {a s : State} {v0 v1} (h : Keeps a s) :
    OutKeeps a (@execDramFrozen v0 v1 s) := by
  unfold execDramFrozen
  extract_lets +onlyGivenNames x1
  have h1 : Keeps a x1 := by
    unfold x1
    exact moveX_keeps (atTime_keeps (by assumption))
  clear_value x1
  refine OutKeeps.ite ?_ ?_
  · exact OutKeeps.ok (by assumption)
  · extract_lets +onlyGivenNames x2
    clear_value x2
    extract_lets +onlyGivenNames x3
    clear_value x3
    extract_lets +onlyGivenNames x4
    have h4 : Keeps a x4 := by
      unfold x4
      exact inc32_keeps (setn_keeps (by assumption))
    clear_value x4
    extract_lets +onlyGivenNames x5
    have h5 : Keeps a x5 := by
      unfold x5
      exact updateCut_keeps (disposeAll_keeps (by assumption))
    clear_value x5
    exact OutKeeps.ok (event_keeps (snapshot_keeps (by assumption)))

theorem execCouchInitDone_keeps {a s : State} {v0} (h : Keeps a s) :
    OutKeeps a (@execCouchInitDone v0 s) := by
  unfold execCouchInitDone
  extract_lets +onlyGivenNames x1
  have h1 : Keeps a x1 := by
    unfold x1
    exact atTime_keeps (by assumption)
  clear_value x1
  extract_lets +onlyGivenNames x2
  extract_lets +onlyGivenNames x3
  have h3 : Keeps a x3 := by
    unfold x3
    refine Keeps.trans (b := x1) ?_ ⟨rfl, Nat.le_refl _, Nat.le_refl _, Nat.le_refl _, Nat.le_refl _, Nat.le_refl _, id, fun w => memSorted_filter w _⟩
    assumption
  clear_value x3
  exact OutKeeps.ok (setb_keeps (by assumption))

theorem execDramRefresh_keeps {a s : State} {v0 v1} (h : Keeps a s) :
    OutKeeps a (@execDramRefresh v0 v1 s) := by
  unfold execDramRefresh
  extract_lets +onlyGivenNames x1
  have h1 : Keeps a x1 := by
    unfold x1
    exact atTime_keeps (by assumption)
  clear_value x1
  refine OutKeeps.ite ?_ ?_
  · exact OutKeeps.ok (setn_keeps (by assumption))
  · exact OutKeeps.ok (by assumption)

theorem execDramRetrain_keeps {a s : State} {v0} (h : Keeps a s) :
    OutKeeps a (@execDramRetrain v0 s) := by
  unfold execDramRetrain
  exact OutKeeps.ok (atTime_keeps (by assumption))

theorem execCouchScrubWriteback_keeps {a s : State} {v0 v1 v2} (h : Keeps a s) :
    OutKeeps a (@execCouchScrubWriteback v0 v1 v2 s) := by
  unfold execCouchScrubWriteback
  extract_lets +onlyGivenNames x1
  have h1 : Keeps a x1 := by
    unfold x1
    exact atTime_keeps (by assumption)
  clear_value x1
  exact OutKeeps.ok (setn_keeps (setn_keeps (inc64_keeps (by assumption))))

theorem execMr4Poll_keeps {a s : State} {v0 v1} (h : Keeps a s) :
    OutKeeps a (@execMr4Poll v0 v1 s) := by
  unfold execMr4Poll
  extract_lets +onlyGivenNames x1
  have h1 : Keeps a x1 := by
    unfold x1
    exact atTime_keeps (by assumption)
  clear_value x1
  refine OutKeeps.ite ?_ ?_
  · exact OutKeeps.ok (setn_keeps (by assumption))
  · exact OutKeeps.ok (by assumption)

theorem execPatrolScrub_keeps {a s : State} {v0 v1 v2} (h : Keeps a s) :
    OutKeeps a (@execPatrolScrub v0 v1 v2 s) := by
  unfold execPatrolScrub
  extract_lets +onlyGivenNames x1
  have h1 : Keeps a x1 := by
    unfold x1
    exact atTime_keeps (by assumption)
  clear_value x1
  refine OutKeeps.ite ?_ ?_
  · exact OutKeeps.ok (by assumption)
  · extract_lets +onlyGivenNames x2
    have h2 : Keeps a x2 := by
      unfold x2
      refine Keeps.ite ?_ ?_
      · exact inc64_keeps (by assumption)
      · assumption
    clear_value x2
    refine OutKeeps.ok ?_
    refine Keeps.ite ?_ ?_
    · exact inc32_keeps (by assumption)
    · assumption

theorem execRegisterWrite_keeps {a s : State} {v0 v1} (h : Keeps a s) :
    OutKeeps a (@execRegisterWrite v0 v1 s) := by
  unfold execRegisterWrite
  extract_lets +onlyGivenNames x1
  have h1 : Keeps a x1 := by
    unfold x1
    exact atTime_keeps (by assumption)
  clear_value x1
  split
  · exact OutKeeps.ok (dmaReg_keeps (by assumption))
  · exact OutKeeps.ok (codecReg_keeps (by assumption))
  · refine OutKeeps.ok ?_
    refine Keeps.same (b := x1) rfl rfl rfl rfl rfl rfl rfl rfl rfl ?_
    assumption

theorem setAxis_keeps {a s : State} {v1 v2} (h : Keeps a s) :
    Keeps a (@State.setAxis s v1 v2) := by
  unfold State.setAxis
  refine Keeps.same (b := s) rfl rfl rfl rfl rfl rfl rfl rfl rfl ?_
  assumption

theorem axisItems_keeps {a s : State} {v1} (h : Keeps a s) :
    Keeps a (@State.axisItems s v1) := by
  unfold State.axisItems
  refine Keeps.ite ?_ ?_
  · assumption
  · extract_lets +onlyGivenNames x1
    clear_value x1
    exact disposeAll_keeps (by assumption)

theorem axisEnter_keeps {a s : State} {v1 v2 v3} (h : Keeps a s) :
    Keeps a (@State.axisEnter s v1 v2 v3) := by
  unfold State.axisEnter
  extract_lets +onlyGivenNames x1
  clear_value x1
  extract_lets +onlyGivenNames x2
  clear_value x2
  extract_lets +onlyGivenNames x3
  have h3 : Keeps a x3 := by
    unfold x3
    exact setAxis_keeps (by assumption)
  clear_value x3
  extract_lets +onlyGivenNames x4
  have h4 : Keeps a x4 := by
    unfold x4
    exact setn_keeps (setn_keeps (by assumption))
  clear_value x4
  extract_lets +onlyGivenNames x5
  have h5 : Keeps a x5 := by
    unfold x5
    exact event_keeps (by assumption)
  clear_value x5
  refine Keeps.ite ?_ ?_
  · exact axisItems_keeps (by assumption)
  · assumption

theorem axisSafe_keeps {a s : State} {v1} (h : Keeps a s) :
    Keeps a (@State.axisSafe s v1) := by
  unfold State.axisSafe
  refine Keeps.ite ?_ ?_
  · assumption
  · exact axisEnter_keeps (by assumption)

theorem axisSense_keeps {a s : State} {v1} (h : Keeps a s) :
    Keeps a (@State.axisSense s v1) := by
  unfold State.axisSense
  exact setn_keeps (axisEnter_keeps (by assumption))

theorem axisOff_keeps {a s : State} {v1} (h : Keeps a s) :
    Keeps a (@State.axisOff s v1) := by
  unfold State.axisOff
  extract_lets +onlyGivenNames x1
  have h1 : Keeps a x1 := by
    unfold x1
    exact axisEnter_keeps (by assumption)
  clear_value x1
  extract_lets +onlyGivenNames x2
  clear_value x2
  extract_lets +onlyGivenNames x3
  have h3 : Keeps a x3 := by
    unfold x3
    exact setAxis_keeps (by assumption)
  clear_value x3
  refine Keeps.ite ?_ ?_
  · exact axisSense_keeps (by assumption)
  · assumption

theorem axisEnabled_keeps {a s : State} {v1} (h : Keeps a s) :
    Keeps a (@State.axisEnabled s v1) := by
  unfold State.axisEnabled
  extract_lets +onlyGivenNames x1
  clear_value x1
  refine Keeps.ite ?_ ?_
  · refine Keeps.ite ?_ ?_
    · exact axisSense_keeps (setAxis_keeps (by assumption))
    · assumption
  · refine Keeps.ite ?_ ?_
    · exact axisEnter_keeps (by assumption)
    · refine Keeps.ite ?_ ?_
      · assumption
      · exact axisOff_keeps (by assumption)

theorem focBoundary_keeps {a s : State} {v1 v2} (h : Keeps a s) :
    Keeps a (@State.focBoundary s v1 v2) := by
  unfold State.focBoundary
  extract_lets +onlyGivenNames x1
  clear_value x1
  extract_lets +onlyGivenNames x2
  clear_value x2
  extract_lets +onlyGivenNames x3
  clear_value x3
  extract_lets +onlyGivenNames x4
  have h4 : Keeps a x4 := by
    unfold x4
    exact setAxis_keeps (by assumption)
  clear_value x4
  refine Keeps.ite ?_ ?_
  · extract_lets +onlyGivenNames x5
    have h5 : Keeps a x5 := by
      unfold x5
      exact inc32_keeps (by assumption)
    clear_value x5
    refine Keeps.ite ?_ ?_
    · exact axisEnter_keeps (by assumption)
    · assumption
  · assumption

theorem execDriverFault_keeps {a s : State} {v0 v1} (h : Keeps a s) :
    OutKeeps a (@execDriverFault v0 v1 s) := by
  unfold execDriverFault
  extract_lets +onlyGivenNames x1
  have h1 : Keeps a x1 := by
    unfold x1
    exact atTime_keeps (by assumption)
  clear_value x1
  extract_lets +onlyGivenNames x2
  clear_value x2
  refine OutKeeps.ite ?_ ?_
  · exact OutKeeps.ok (setAxis_keeps (by assumption))
  · exact OutKeeps.ok (axisEnter_keeps (by assumption))

theorem ainSample_keeps {a s : State} {v1 v2} (h : Keeps a s) :
    Keeps a (@State.ainSample s v1 v2) := by
  unfold State.ainSample
  exact setn_keeps (setn_keeps (setn_keeps (by assumption)))

theorem axisStart_keeps {a s : State} {v1} (h : Keeps a s) :
    Keeps a (@State.axisStart s v1) := by
  unfold State.axisStart
  extract_lets +onlyGivenNames x1
  have h1 : Keeps a x1 := by
    unfold x1
    exact axisEnter_keeps (by assumption)
  clear_value x1
  exact setAxis_keeps (by assumption)

theorem axisBrake_keeps {a s : State} {v1 v2} (h : Keeps a s) :
    Keeps a (@State.axisBrake s v1 v2) := by
  unfold State.axisBrake
  extract_lets +onlyGivenNames x1
  have h1 : Keeps a x1 := by
    unfold x1
    exact axisEnter_keeps (by assumption)
  clear_value x1
  exact setAxis_keeps (by assumption)

theorem controlStep_keeps {a s : State} {v1 v2} (h : Keeps a s) :
    Keeps a (@State.controlStep s v1 v2) := by
  unfold State.controlStep
  extract_lets +onlyGivenNames x1
  clear_value x1
  extract_lets +onlyGivenNames x2
  clear_value x2
  extract_lets +onlyGivenNames x3
  clear_value x3
  extract_lets +onlyGivenNames x4
  clear_value x4
  extract_lets +onlyGivenNames x5
  clear_value x5
  extract_lets +onlyGivenNames x6
  have h6 : Keeps a x6 := by
    unfold x6
    refine Keeps.ite ?_ ?_
    · exact setn_keeps (by assumption)
    · assumption
  clear_value x6
  extract_lets +onlyGivenNames x7
  clear_value x7
  extract_lets +onlyGivenNames x8
  clear_value x8
  exact setAxis_keeps (freeNext_keeps (by assumption))

theorem execRecatchDelayExpiry_keeps {a s : State} {v0 v1} (h : Keeps a s) :
    OutKeeps a (@execRecatchDelayExpiry v0 v1 s) := by
  unfold execRecatchDelayExpiry
  extract_lets +onlyGivenNames x1
  have h1 : Keeps a x1 := by
    unfold x1
    exact atTime_keeps (by assumption)
  clear_value x1
  refine OutKeeps.ite ?_ ?_
  · exact OutKeeps.ok (axisSense_keeps (by assumption))
  · exact OutKeeps.ok (by assumption)

theorem modulate_keeps {a s : State} {v1 v2 v3} (h : Keeps a s) :
    Keeps a (@State.modulate s v1 v2 v3) := by
  unfold State.modulate
  extract_lets +onlyGivenNames x1
  clear_value x1
  extract_lets +onlyGivenNames x2
  clear_value x2
  extract_lets +onlyGivenNames x3
  clear_value x3
  extract_lets +onlyGivenNames x4
  clear_value x4
  extract_lets +onlyGivenNames x5
  clear_value x5
  extract_lets +onlyGivenNames x6
  clear_value x6
  extract_lets +onlyGivenNames x7
  clear_value x7
  extract_lets +onlyGivenNames x8
  clear_value x8
  extract_lets +onlyGivenNames x9
  clear_value x9
  extract_lets +onlyGivenNames x10
  have h10 : Keeps a x10 := by
    unfold x10
    exact setn_keeps (setn_keeps (by assumption))
  clear_value x10
  exact setAxis_keeps (by assumption)

theorem axisRun_keeps {a s : State} {v1} (h : Keeps a s) :
    Keeps a (@State.axisRun s v1) := by
  unfold State.axisRun
  extract_lets +onlyGivenNames x1
  clear_value x1
  extract_lets +onlyGivenNames x2
  have h2 : Keeps a x2 := by
    unfold x2
    exact axisEnter_keeps (by assumption)
  clear_value x2
  exact setAxis_keeps (by assumption)

theorem execPwmPeriodBoundary_keeps {a s : State} {v0 v1 v2 v3 v4 v5} (h : Keeps a s) :
    OutKeeps a (@execPwmPeriodBoundary v0 v1 v2 v3 v4 v5 s) := by
  unfold execPwmPeriodBoundary
  extract_lets +onlyGivenNames x1
  have h1 : Keeps a x1 := by
    unfold x1
    exact atTime_keeps (by assumption)
  clear_value x1
  extract_lets +onlyGivenNames x2
  clear_value x2
  extract_lets +onlyGivenNames x3
  clear_value x3
  extract_lets +onlyGivenNames x4
  have h4 : Keeps a x4 := by
    unfold x4
    exact ainSample_keeps (by assumption)
  clear_value x4
  extract_lets +onlyGivenNames x5
  have h5 : Keeps a x5 := by
    unfold x5
    exact seti_keeps (by assumption)
  clear_value x5
  refine OutKeeps.ite ?_ ?_
  · exact OutKeeps.ok (setAxis_keeps (by assumption))
  · refine OutKeeps.ite ?_ ?_
    · exact OutKeeps.ok (focBoundary_keeps (by assumption))
    · exact OutKeeps.ok (by assumption)

theorem currentStep_keeps {a s : State} {v1 v2 v3 v4} (h : Keeps a s) :
    Keeps a (@State.currentStep s v1 v2 v3 v4) := by
  unfold State.currentStep
  extract_lets +onlyGivenNames x1
  clear_value x1
  extract_lets +onlyGivenNames x2
  clear_value x2
  exact modulate_keeps (freeNext_keeps (by assumption))

theorem handover_keeps {a s : State} {v1 v2} (h : Keeps a s) :
    Keeps a (@State.handover s v1 v2) := by
  unfold State.handover
  extract_lets +onlyGivenNames x1
  clear_value x1
  extract_lets +onlyGivenNames x2
  clear_value x2
  extract_lets +onlyGivenNames x3
  clear_value x3
  refine Keeps.ite ?_ ?_
  · refine Keeps.ite ?_ ?_
    · assumption
    · extract_lets +onlyGivenNames x4
      clear_value x4
      exact axisRun_keeps (setAxis_keeps (by assumption))
  · refine Keeps.ite ?_ ?_
    · exact axisRun_keeps (by assumption)
    · assumption

theorem evalKe_keeps {a s : State} {v1 v2} (h : Keeps a s) :
    Keeps a (@State.evalKe s v1 v2) := by
  unfold State.evalKe
  refine Keeps.ite ?_ ?_
  · extract_lets +onlyGivenNames x1
    have h1 : Keeps a x1 := by
      unfold x1
      exact setn_keeps (by assumption)
    clear_value x1
    extract_lets +onlyGivenNames x2
    clear_value x2
    exact setAxis_keeps (by assumption)
  · exact setAxis_keeps (by assumption)

theorem observe_keeps {a s : State} {v1 v2} (h : Keeps a s) :
    Keeps a (@State.observe s v1 v2) := by
  unfold State.observe
  extract_lets +onlyGivenNames x1
  clear_value x1
  extract_lets +onlyGivenNames x2
  clear_value x2
  exact setAxis_keeps (by assumption)

theorem observerLoss_keeps {a s : State} {v1} (h : Keeps a s) :
    Keeps a (@State.observerLoss s v1) := by
  unfold State.observerLoss
  extract_lets +onlyGivenNames x1
  have h1 : Keeps a x1 := by
    unfold x1
    exact inc32_keeps (by assumption)
  clear_value x1
  extract_lets +onlyGivenNames x2
  clear_value x2
  refine Keeps.ite ?_ ?_
  · exact axisBrake_keeps (by assumption)
  · exact event_keeps (axisEnter_keeps (setn_keeps (by assumption)))

theorem focDecide_keeps {a s : State} {v1 v2} (h : Keeps a s) :
    Keeps a (@State.focDecide s v1 v2) := by
  unfold State.focDecide
  extract_lets +onlyGivenNames x1
  clear_value x1
  refine Keeps.ite ?_ ?_
  · exact handover_keeps (by assumption)
  · refine Keeps.ite ?_ ?_
    · refine Keeps.ite ?_ ?_
      · assumption
      · exact axisOff_keeps (by assumption)
    · extract_lets +onlyGivenNames x2
      have h2 : Keeps a x2 := by
        unfold x2
        exact evalKe_keeps (observe_keeps (by assumption))
      clear_value x2
      extract_lets +onlyGivenNames x3
      have h3 : Keeps a x3 := by
        unfold x3
        refine Keeps.ite ?_ ?_
        · exact setn_keeps (by assumption)
        · assumption
      clear_value x3
      refine Keeps.ite ?_ ?_
      · exact observerLoss_keeps (by assumption)
      · assumption

theorem keBrake_keeps {a s : State} {v1} (h : Keeps a s) :
    Keeps a (@State.keBrake s v1) := by
  unfold State.keBrake
  exact event_keeps (axisBrake_keeps (by assumption))

theorem execKeAbnormal_keeps {a s : State} {v0 v1} (h : Keeps a s) :
    OutKeeps a (@execKeAbnormal v0 v1 s) := by
  unfold execKeAbnormal
  extract_lets +onlyGivenNames x1
  have h1 : Keeps a x1 := by
    unfold x1
    exact atTime_keeps (by assumption)
  clear_value x1
  split
  · refine OutKeeps.ite ?_ ?_
    · exact OutKeeps.ok (keBrake_keeps (by assumption))
    · exact OutKeeps.ok (by assumption)
  · exact OutKeeps.ok (by assumption)

theorem phaseAmps_keeps {a s : State} {v1} (h : Keeps a s) :
    Keeps a (@State.phaseAmps s v1).1 := by
  unfold State.phaseAmps
  extract_lets +onlyGivenNames x
  split
  extract_lets +onlyGivenNames n
  split
  · exact setAxis_keeps h
  · split
    · exact setAxis_keeps h
    · split
      · exact setAxis_keeps h
      · split
        · exact setAxis_keeps h
        · exact setAxis_keeps (inc64_keeps
            (Keeps.trans h ⟨rfl, Nat.le_refl _, Nat.le_add_right _ _, Nat.le_refl _, Nat.le_refl _,
              Nat.le_refl _, id, id⟩))

theorem execFocStep_keeps {a s : State} {v0 v1 v2} (h : Keeps a s) :
    OutKeeps a (@execFocStep v0 v1 v2 s) := by
  unfold execFocStep
  extract_lets +onlyGivenNames x1
  have h1 : Keeps a x1 := by
    unfold x1
    exact atTime_keeps (by assumption)
  clear_value x1
  extract_lets +onlyGivenNames x2
  clear_value x2
  refine OutKeeps.ite ?_ ?_
  · exact OutKeeps.ok (setn_keeps (seti_keeps (by assumption)))
  · refine OutKeeps.ite ?_ ?_
    · exact OutKeeps.ok (by assumption)
    · extract_lets +onlyGivenNames x3
      have h3 : Keeps a x3.1 := by
        unfold x3
        exact phaseAmps_keeps (by assumption)
      clear_value x3
      extract_lets +onlyGivenNames x4
      have h4 : Keeps a x4 := by
        unfold x4
        assumption
      clear_value x4
      extract_lets +onlyGivenNames x5
      clear_value x5
      extract_lets +onlyGivenNames x6
      clear_value x6
      extract_lets +onlyGivenNames x7
      have h7 : Keeps a x7 := by
        unfold x7
        exact setn_keeps (seti_keeps (seti_keeps (by assumption)))
      clear_value x7
      extract_lets +onlyGivenNames x8
      have h8 : Keeps a x8 := by
        unfold x8
        exact setn_keeps (seti_keeps (by assumption))
      clear_value x8
      exact OutKeeps.ok (focDecide_keeps (currentStep_keeps (controlStep_keeps (by assumption))))

theorem execSensingComplete_keeps {a s : State} {v0 v1 v2 v3} (h : Keeps a s) :
    OutKeeps a (@execSensingComplete v0 v1 v2 v3 s) := by
  unfold execSensingComplete
  extract_lets +onlyGivenNames x1
  have h1 : Keeps a x1 := by
    unfold x1
    exact atTime_keeps (by assumption)
  clear_value x1
  refine OutKeeps.ite ?_ ?_
  · exact OutKeeps.ok (by assumption)
  · extract_lets +onlyGivenNames x2
    have h2 : Keeps a x2 := by
      unfold x2
      exact seti_keeps (by assumption)
    clear_value x2
    extract_lets +onlyGivenNames x3
    clear_value x3
    refine OutKeeps.ite ?_ ?_
    · exact OutKeeps.ok (axisStart_keeps (by assumption))
    · refine OutKeeps.ite ?_ ?_
      · extract_lets +onlyGivenNames x4
        have h4 : Keeps a x4 := by
          unfold x4
          exact setn_keeps (by assumption)
        clear_value x4
        refine OutKeeps.ite ?_ ?_
        · exact OutKeeps.ok (keBrake_keeps (by assumption))
        · extract_lets +onlyGivenNames x5
          have h5 : Keeps a x5 := by
            unfold x5
            exact setn_keeps (axisEnter_keeps (by assumption))
          clear_value x5
          exact OutKeeps.ok (setAxis_keeps (by assumption))
      · exact OutKeeps.ok (axisBrake_keeps (by assumption))

theorem execBrakeHoldDone_keeps {a s : State} {v0 v1} (h : Keeps a s) :
    OutKeeps a (@execBrakeHoldDone v0 v1 s) := by
  unfold execBrakeHoldDone
  extract_lets +onlyGivenNames x1
  have h1 : Keeps a x1 := by
    unfold x1
    exact atTime_keeps (by assumption)
  clear_value x1
  refine OutKeeps.ite ?_ ?_
  · exact OutKeeps.ok (by assumption)
  · extract_lets +onlyGivenNames x2
    clear_value x2
    refine OutKeeps.ok ?_
    refine Keeps.ite ?_ ?_
    · exact axisStart_keeps (by assumption)
    · exact axisEnter_keeps (by assumption)

theorem execBrakeTimeout_keeps {a s : State} {v0 v1} (h : Keeps a s) :
    OutKeeps a (@execBrakeTimeout v0 v1 s) := by
  unfold execBrakeTimeout
  extract_lets +onlyGivenNames x1
  have h1 : Keeps a x1 := by
    unfold x1
    exact atTime_keeps (by assumption)
  clear_value x1
  refine OutKeeps.ite ?_ ?_
  · exact OutKeeps.ok (axisEnter_keeps (by assumption))
  · exact OutKeeps.ok (by assumption)

theorem execStartTimeout_keeps {a s : State} {v0 v1} (h : Keeps a s) :
    OutKeeps a (@execStartTimeout v0 v1 s) := by
  unfold execStartTimeout
  extract_lets +onlyGivenNames x1
  have h1 : Keeps a x1 := by
    unfold x1
    exact atTime_keeps (by assumption)
  clear_value x1
  refine OutKeeps.ite ?_ ?_
  · exact OutKeeps.ok (axisEnter_keeps (by assumption))
  · exact OutKeeps.ok (by assumption)

theorem setLoop_keeps {a s : State} {v1 v2} (h : Keeps a s) :
    Keeps a (@State.setLoop s v1 v2) := by
  unfold State.setLoop
  refine Keeps.same (b := s) rfl rfl rfl rfl rfl rfl rfl rfl rfl ?_
  assumption

theorem fit28_keeps {a s : State} {v1} (h : Keeps a s) :
    Keeps a (@State.fit28 s v1).1 := by
  unfold State.fit28
  split
  · dsimp only
    assumption
  · dsimp only
    exact freeNext_keeps (by assumption)

theorem putOutput_keeps {a s : State} {v1 v2} (h : Keeps a s) :
    Keeps a (@State.putOutput s v1 v2) := by
  unfold State.putOutput
  extract_lets +onlyGivenNames x1
  clear_value x1
  extract_lets +onlyGivenNames x2
  have h2 : Keeps a x2 := by
    unfold x2
    exact setLoop_keeps (by assumption)
  clear_value x2
  refine Keeps.ite ?_ ?_
  · extract_lets +onlyGivenNames x3
    have h3 : Keeps a x3.1 := by
      unfold x3
      exact fit28_keeps (by assumption)
    clear_value x3
    exact seti_keeps (by assumption)
  · exact seti_keeps (by assumption)

theorem loopSafe_keeps {a s : State} {v1} (h : Keeps a s) :
    Keeps a (@State.loopSafe s v1) := by
  unfold State.loopSafe
  refine Keeps.ite ?_ ?_
  · assumption
  · exact putOutput_keeps (setn_keeps (by assumption))

theorem setOwner_keeps {a s : State} {v1 v2} (h : Keeps a s) :
    Keeps a (@State.setOwner s v1 v2) := by
  unfold State.setOwner
  extract_lets +onlyGivenNames x1
  clear_value x1
  refine Keeps.ite ?_ ?_
  · exact setn_keeps (by assumption)
  · assumption

theorem loopStart_keeps {a s : State} {v1} (h : Keeps a s) :
    Keeps a (@State.loopStart s v1) := by
  unfold State.loopStart
  extract_lets +onlyGivenNames x1
  clear_value x1
  extract_lets +onlyGivenNames x2
  have h2 : Keeps a x2 := by
    unfold x2
    exact setLoop_keeps (by assumption)
  clear_value x2
  extract_lets +onlyGivenNames x3
  have h3 : Keeps a x3 := by
    unfold x3
    exact setn_keeps (setn_keeps (by assumption))
  clear_value x3
  exact setOwner_keeps (putOutput_keeps (by assumption))

theorem loopStop_keeps {a s : State} {v1} (h : Keeps a s) :
    Keeps a (@State.loopStop s v1) := by
  unfold State.loopStop
  exact setOwner_keeps (setn_keeps (setn_keeps (by assumption)))

theorem loopEnabled_keeps {a s : State} {v1} (h : Keeps a s) :
    Keeps a (@State.loopEnabled s v1) := by
  unfold State.loopEnabled
  extract_lets +onlyGivenNames x1
  clear_value x1
  refine Keeps.ite ?_ ?_
  · refine Keeps.ite ?_ ?_
    · assumption
    · refine Keeps.ite ?_ ?_
      · exact setn_keeps (by assumption)
      · exact loopStart_keeps (by assumption)
  · refine Keeps.ite ?_ ?_
    · exact loopStop_keeps (by assumption)
    · assumption

theorem loopFault_keeps {a s : State} {v1 v2} (h : Keeps a s) :
    Keeps a (@State.loopFault s v1 v2) := by
  unfold State.loopFault
  extract_lets +onlyGivenNames x1
  have h1 : Keeps a x1 := by
    unfold x1
    exact setn_keeps (setn_keeps (by assumption))
  clear_value x1
  exact event_keeps (putOutput_keeps (by assumption))

theorem loopMiss_keeps {a s : State} {v1} (h : Keeps a s) :
    Keeps a (@State.loopMiss s v1) := by
  unfold State.loopMiss
  extract_lets +onlyGivenNames x1
  clear_value x1
  extract_lets +onlyGivenNames x2
  have h2 : Keeps a x2 := by
    unfold x2
    exact inc32_keeps (setLoop_keeps (by assumption))
  clear_value x2
  extract_lets +onlyGivenNames x3
  clear_value x3
  refine Keeps.ite ?_ ?_
  · exact loopFault_keeps (by assumption)
  · assumption

theorem pulseValue_keeps {a s : State} {v1 v2 v3} (h : Keeps a s) :
    Keeps a (@State.pulseValue s v1 v2 v3) := by
  unfold State.pulseValue
  refine Keeps.ite ?_ ?_
  · assumption
  · extract_lets +onlyGivenNames x1
    have h1 : Keeps a x1 := by
      unfold x1
      exact setn_keeps (by assumption)
    clear_value x1
    extract_lets +onlyGivenNames x2
    clear_value x2
    extract_lets +onlyGivenNames x3
    have h3 : Keeps a x3.1 := by
      unfold x3
      exact fit28_keeps (by assumption)
    clear_value x3
    exact seti_keeps (by assumption)

theorem execPulseTimeout_keeps {a s : State} {v0 v1} (h : Keeps a s) :
    OutKeeps a (@execPulseTimeout v0 v1 s) := by
  unfold execPulseTimeout
  extract_lets +onlyGivenNames x1
  have h1 : Keeps a x1 := by
    unfold x1
    exact atTime_keeps (by assumption)
  clear_value x1
  extract_lets +onlyGivenNames x2
  clear_value x2
  extract_lets +onlyGivenNames x3
  clear_value x3
  refine OutKeeps.ite ?_ ?_
  · extract_lets +onlyGivenNames x4
    clear_value x4
    extract_lets +onlyGivenNames x5
    have h5 : Keeps a x5 := by
      unfold x5
      refine Keeps.same (b := x1) rfl rfl rfl rfl rfl rfl rfl rfl rfl ?_
      assumption
    clear_value x5
    exact OutKeeps.ok (setn_keeps (setn_keeps (setn_keeps (by assumption))))
  · exact OutKeeps.ok (by assumption)

theorem takePv_keeps {a s : State} {v1 v2} (h : Keeps a s) :
    Keeps a (@State.takePv s v1 v2).1 := by
  unfold State.takePv
  extract_lets +onlyGivenNames x1
  clear_value x1
  split
  · dsimp only
    exact ainSample_keeps (by assumption)
  · dsimp only
    assumption

theorem round28_keeps {a s : State} {v1} (h : Keeps a s) :
    Keeps a (@State.round28 s v1).1 := by
  unfold State.round28
  exact fit28_keeps (by assumption)

theorem takeSp_keeps {a s : State} {v1 v2} (h : Keeps a s) :
    Keeps a (@State.takeSp s v1 v2).1 := by
  unfold State.takeSp
  extract_lets +onlyGivenNames x1
  clear_value x1
  extract_lets +onlyGivenNames x2
  clear_value x2
  extract_lets +onlyGivenNames x3
  clear_value x3
  split
  · exact round28_keeps (ainSample_keeps (by assumption))
  · split
    · exact round28_keeps (by assumption)
    · dsimp only
      assumption

theorem loopStep_keeps {a s : State} {v1 v2 v3} (h : Keeps a s) :
    Keeps a (@State.loopStep s v1 v2 v3) := by
  unfold State.loopStep
  extract_lets +onlyGivenNames x1
  have h1 : Keeps a x1.1 := by
    unfold x1
    exact takePv_keeps (by assumption)
  clear_value x1
  extract_lets +onlyGivenNames x2
  have h2 : Keeps a x2.1 := by
    unfold x2
    exact takeSp_keeps (by assumption)
  clear_value x2
  extract_lets +onlyGivenNames x3
  have h3 : Keeps a x3 := by
    unfold x3
    assumption
  clear_value x3
  extract_lets +onlyGivenNames x4
  clear_value x4
  extract_lets +onlyGivenNames x5
  have h5 : Keeps a x5.1 := by
    unfold x5
    exact fit28_keeps (by assumption)
  clear_value x5
  extract_lets +onlyGivenNames x6
  have h6 : Keeps a x6 := by
    unfold x6
    assumption
  clear_value x6
  extract_lets +onlyGivenNames x7
  have h7 : Keeps a x7.1 := by
    unfold x7
    exact round28_keeps (by assumption)
  clear_value x7
  extract_lets +onlyGivenNames x8
  have h8 : Keeps a x8 := by
    unfold x8
    assumption
  clear_value x8
  extract_lets +onlyGivenNames x9
  clear_value x9
  extract_lets +onlyGivenNames x10
  clear_value x10
  extract_lets +onlyGivenNames x11
  have h11 : Keeps a x11 := by
    unfold x11
    exact setLoop_keeps (by assumption)
  clear_value x11
  extract_lets +onlyGivenNames x12
  have h12 : Keeps a x12 := by
    unfold x12
    exact seti_keeps (seti_keeps (by assumption))
  clear_value x12
  exact inc64_keeps (putOutput_keeps (by assumption))

theorem execLoopSampleTick_keeps {a s : State} {v0 v1 v2 v3 v4 v5 v6} (h : Keeps a s) :
    OutKeeps a (@execLoopSampleTick v0 v1 v2 v3 v4 v5 v6 s) := by
  unfold execLoopSampleTick
  extract_lets +onlyGivenNames x1
  have h1 : Keeps a x1 := by
    unfold x1
    exact atTime_keeps (by assumption)
  clear_value x1
  extract_lets +onlyGivenNames x2
  clear_value x2
  refine OutKeeps.ite ?_ ?_
  · exact OutKeeps.ok (by assumption)
  · refine OutKeeps.ite ?_ ?_
    · exact OutKeeps.ok (loopFault_keeps (by assumption))
    · extract_lets +onlyGivenNames x3
      have h3 : Keeps a x3 := by
        unfold x3
        exact setn_keeps (by assumption)
      clear_value x3
      refine OutKeeps.ite ?_ ?_
      · exact OutKeeps.ok (loopMiss_keeps (by assumption))
      · exact OutKeeps.ok (setn_keeps (loopStep_keeps (by assumption)))

theorem execPulseInEdge_keeps {a s : State} {v0 v1 v2} (h : Keeps a s) :
    OutKeeps a (@execPulseInEdge v0 v1 v2 s) := by
  unfold execPulseInEdge
  extract_lets +onlyGivenNames x1
  have h1 : Keeps a x1 := by
    unfold x1
    exact atTime_keeps (by assumption)
  clear_value x1
  extract_lets +onlyGivenNames x2
  clear_value x2
  extract_lets +onlyGivenNames x3
  clear_value x3
  extract_lets +onlyGivenNames x4
  have h4 : Keeps a x4 := by
    unfold x4
    refine Keeps.same (b := x1) rfl rfl rfl rfl rfl rfl rfl rfl rfl ?_
    assumption
  clear_value x4
  split
  · exact OutKeeps.ok (by assumption)
  · exact OutKeeps.ok (setn_keeps (pulseValue_keeps (by assumption)))

end Sys2Proof.Machine
end

