-- ==== Sys2Proof/Laws/KeepsD.lean ====
section
/-! SUPPORT. What the operations of these files keep, by `Keeps`: Rails, SafeState, Thermal, Power, Faults,
Pair. -/

set_option Elab.async false

namespace Sys2Proof.Machine

theorem setPower_keeps {a s : State} {v1} (h : Keeps a s) :
    Keeps a (@State.setPower s v1) := by
  unfold State.setPower
  refine Keeps.same (b := s) rfl rfl rfl rfl rfl rfl rfl rfl rfl ?_
  assumption

theorem seqUnlatch_keeps {a s : State} (h : Keeps a s) :
    Keeps a (@State.seqUnlatch s) := by
  unfold State.seqUnlatch
  extract_lets +onlyGivenNames x1
  have h1 : Keeps a x1 := by
    unfold x1
    exact setn_keeps (setn_keeps (setb_keeps (by assumption)))
  clear_value x1
  exact setPower_keeps (by assumption)

theorem beginStep_keeps {a s : State} {v1 v2} (h : Keeps a s) :
    Keeps a (@State.beginStep s v1 v2) := by
  unfold State.beginStep
  exact setPower_keeps (setn_keeps (by assumption))

theorem endSteps_keeps {a s : State} (h : Keeps a s) :
    Keeps a (@State.endSteps s) := by
  unfold State.endSteps
  exact beginStep_keeps (by assumption)

theorem keptVals_rise {s : State} (h : s.od.wf) : KeysRise s.keptVals := by
  unfold State.keptVals
  extract_lets +onlyGivenNames per
  have hp : KeysRise per := h.2.filter _
  clear_value per
  generalize aonObjects = l
  induction l generalizing per with
  | nil => exact hp
  | cons k l ih =>
    refine ih _ ?_
    dsimp only
    split
    · exact hp.kvSet _ _
    · exact hp.kvDel _

theorem restart_keeps {a s : State} {v1} (h : Keeps a s) :
    Keeps a (@State.restart s v1) := by
  unfold State.restart
  refine setn_keeps (Keeps.trans h ⟨rfl, Nat.le_refl _, Nat.le_refl _, Nat.le_refl _, Nat.le_refl _, Nat.le_refl _,
    fun w => ⟨keptVals_rise w, w.2⟩,
    fun _ => rfl⟩)

theorem powerEnter_keeps {a s : State} {v1 v2} (h : Keeps a s) :
    Keeps a (@State.powerEnter s v1 v2) := by
  unfold State.powerEnter
  exact event_keeps (setn_keeps (setn_keeps (by assumption)))

theorem allDown_keeps {a s : State} (h : Keeps a s) :
    Keeps a (@State.allDown s) := by
  unfold State.allDown
  extract_lets +onlyGivenNames x1
  have h1 : Keeps a x1 := by
    unfold x1
    exact endSteps_keeps (by assumption)
  clear_value x1
  refine Keeps.ite ?_ ?_
  · assumption
  · extract_lets +onlyGivenNames x2
    have h2 : Keeps a x2 := by
      unfold x2
      exact setn_keeps (by assumption)
    clear_value x2
    extract_lets +onlyGivenNames x3
    clear_value x3
    extract_lets +onlyGivenNames x4
    have h4 : Keeps a x4 := by
      unfold x4
      exact restart_keeps (by assumption)
    clear_value x4
    refine Keeps.ite ?_ ?_
    · exact powerEnter_keeps (by assumption)
    · exact powerEnter_keeps (by assumption)

theorem nextDown_keeps {a s : State} (h : Keeps a s) :
    Keeps a (@State.nextDown s) := by
  unfold State.nextDown
  extract_lets +onlyGivenNames x1
  clear_value x1
  split
  · exact allDown_keeps (by assumption)
  · extract_lets +onlyGivenNames x2
    clear_value x2
    exact beginStep_keeps (by assumption)

theorem domainsOff_keeps {a s : State} (h : Keeps a s) :
    Keeps a (@State.domainsOff s) := by
  unfold State.domainsOff
  refine Keeps.foldl ?_ (fun y1 z1 h1 => ?_)
  · assumption
  · exact setn_keeps (by assumption)

theorem powerDown_keeps {a s : State} {v1} (h : Keeps a s) :
    Keeps a (@State.powerDown s v1) := by
  unfold State.powerDown
  exact nextDown_keeps (domainsOff_keeps (powerEnter_keeps (by assumption)))

theorem domainOn_keeps {a s : State} {v1} (h : Keeps a s) :
    Keeps a (@State.domainOn s v1) := by
  unfold State.domainOn
  refine Keeps.ite ?_ ?_
  · assumption
  · exact inc32_keeps (setn_keeps (by assumption))

theorem domainReset_keeps {a s : State} {v1} (h : Keeps a s) :
    Keeps a (@State.domainReset s v1) := by
  unfold State.domainReset
  refine Keeps.ite ?_ ?_
  · exact setFire_keeps (by assumption)
  · refine Keeps.ite ?_ ?_
    · refine Keeps.same (b := s) rfl rfl rfl rfl rfl rfl rfl rfl rfl ?_
      assumption
    · refine Keeps.ite ?_ ?_
      · refine Keeps.same (b := s) rfl rfl rfl rfl rfl rfl rfl rfl rfl ?_
        assumption
      · refine Keeps.ite ?_ ?_
        · refine Keeps.trans (b := s) ?_ ⟨rfl, Nat.le_refl _, Nat.le_refl _, Nat.le_refl _, Nat.le_refl _, Nat.le_refl _, id, fun w => memSorted_filter w _⟩
          assumption
        · assumption

theorem domainOff_keeps {a s : State} {v1} (h : Keeps a s) :
    Keeps a (@State.domainOff s v1) := by
  unfold State.domainOff
  exact setn_keeps (domainReset_keeps (by assumption))

theorem domainsOn_keeps {a s : State} {v1} (h : Keeps a s) :
    Keeps a (@State.domainsOn s v1) := by
  unfold State.domainsOn
  refine Keeps.foldl ?_ (fun y1 z1 h1 => ?_)
  · assumption
  · refine Keeps.ite ?_ ?_
    · exact domainOn_keeps (by assumption)
    · assumption

theorem channelDone_keeps {a s : State} {v1} (h : Keeps a s) :
    Keeps a (@State.channelDone s v1) := by
  unfold State.channelDone
  extract_lets +onlyGivenNames x1
  clear_value x1
  extract_lets +onlyGivenNames x2
  clear_value x2
  extract_lets +onlyGivenNames x3
  have h3 : Keeps a x3 := by
    unfold x3
    exact setPower_keeps (by assumption)
  clear_value x3
  refine Keeps.ite ?_ ?_
  · exact nextDown_keeps (by assumption)
  · assumption

theorem setSeqState_keeps {a s : State} {v1 v2} (h : Keeps a s) :
    Keeps a (@State.setSeqState s v1 v2) := by
  unfold State.setSeqState
  exact setn_keeps (by assumption)

theorem execSeqChannelDown_keeps {a s : State} {v0 v1 v2} (h : Keeps a s) :
    OutKeeps a (@execSeqChannelDown v0 v1 v2 s) := by
  unfold execSeqChannelDown
  extract_lets +onlyGivenNames x1
  have h1 : Keeps a x1 := by
    unfold x1
    exact atTime_keeps (by assumption)
  clear_value x1
  refine OutKeeps.ite ?_ ?_
  · exact OutKeeps.ok (by assumption)
  · exact OutKeeps.ok (channelDone_keeps (setn_keeps (setSeqState_keeps (by assumption))))

theorem seqLatch_keeps {a s : State} {v1 v2} (h : Keeps a s) :
    Keeps a (@State.seqLatch s v1 v2) := by
  unfold State.seqLatch
  exact setn_keeps (setn_keeps (setb_keeps (by assumption)))

theorem setSeq_keeps {a s : State} {v1 v2} (h : Keeps a s) :
    Keeps a (@State.setSeq s v1 v2) := by
  unfold State.setSeq
  exact setPower_keeps (by assumption)

theorem execSeqDisableDelayExpiry_keeps {a s : State} {v0 v1} (h : Keeps a s) :
    OutKeeps a (@execSeqDisableDelayExpiry v0 v1 s) := by
  unfold execSeqDisableDelayExpiry
  extract_lets +onlyGivenNames x1
  have h1 : Keeps a x1 := by
    unfold x1
    exact atTime_keeps (by assumption)
  clear_value x1
  refine OutKeeps.ite ?_ ?_
  · exact OutKeeps.ok (by assumption)
  · extract_lets +onlyGivenNames x2
    clear_value x2
    extract_lets +onlyGivenNames x3
    have h3 : Keeps a x3 := by
      unfold x3
      exact setSeq_keeps (by assumption)
    clear_value x3
    exact OutKeeps.ok (setSeqState_keeps (by assumption))

theorem execMarginRampStep_keeps {a s : State} {v0 v1} (h : Keeps a s) :
    OutKeeps a (@execMarginRampStep v0 v1 s) := by
  unfold execMarginRampStep
  extract_lets +onlyGivenNames x1
  have h1 : Keeps a x1 := by
    unfold x1
    exact atTime_keeps (by assumption)
  clear_value x1
  exact OutKeeps.ok (seti_keeps (by assumption))

theorem railFault_keeps {a s : State} {v1 v2} (h : Keeps a s) :
    Keeps a (@State.railFault s v1 v2) := by
  unfold State.railFault
  extract_lets +onlyGivenNames x1
  have h1 : Keeps a x1 := by
    unfold x1
    exact inc32_keeps (setSeqState_keeps (by assumption))
  clear_value x1
  exact event_keeps (by assumption)

theorem execSeqDownTimeout_keeps {a s : State} {v0} (h : Keeps a s) :
    OutKeeps a (@execSeqDownTimeout v0 s) := by
  unfold execSeqDownTimeout
  extract_lets +onlyGivenNames x1
  have h1 : Keeps a x1 := by
    unfold x1
    exact atTime_keeps (by assumption)
  clear_value x1
  extract_lets +onlyGivenNames x2
  clear_value x2
  refine OutKeeps.ok ?_
  refine Keeps.foldl ?_ (fun y3 z3 h3 => ?_)
  · assumption
  · exact channelDone_keeps (railFault_keeps (by assumption))

theorem setFault_keeps {a s : State} {v1} (h : Keeps a s) :
    Keeps a (@State.setFault s v1) := by
  unfold State.setFault
  refine Keeps.same (b := s) rfl rfl rfl rfl rfl rfl rfl rfl rfl ?_
  assumption

theorem pairOutputs_keeps {a s : State} (h : Keeps a s) :
    Keeps a (@State.pairOutputs s) := by
  unfold State.pairOutputs
  extract_lets +onlyGivenNames x1
  clear_value x1
  extract_lets +onlyGivenNames x2
  clear_value x2
  exact setFault_keeps (by assumption)

theorem releaseMirror_keeps {a s : State} (h : Keeps a s) :
    Keeps a (@State.releaseMirror s) := by
  unfold State.releaseMirror
  extract_lets +onlyGivenNames x1
  clear_value x1
  extract_lets +onlyGivenNames x2
  clear_value x2
  extract_lets +onlyGivenNames x3
  have h3 : Keeps a x3 := by
    unfold x3
    exact setFault_keeps (by assumption)
  clear_value x3
  refine Keeps.foldl ?_ (fun y4 z4 h4 => ?_)
  · assumption
  · exact sendIn_keeps (by assumption)

theorem pairEnter_keeps {a s : State} {v1 v2} (h : Keeps a s) :
    Keeps a (@State.pairEnter s v1 v2) := by
  unfold State.pairEnter
  extract_lets +onlyGivenNames x1
  have h1 : Keeps a x1 := by
    unfold x1
    exact pairOutputs_keeps (setn_keeps (setn_keeps (by assumption)))
  clear_value x1
  extract_lets +onlyGivenNames x2
  have h2 : Keeps a x2 := by
    unfold x2
    exact event_keeps (by assumption)
  clear_value x2
  refine Keeps.ite ?_ ?_
  · exact releaseMirror_keeps (by assumption)
  · assumption

theorem beat_keeps {a s : State} {v1} (h : Keeps a s) :
    Keeps a (@State.beat s v1) := by
  unfold State.beat
  exact setFault_keeps (by assumption)

theorem relinquish_keeps {a s : State} (h : Keeps a s) :
    Keeps a (@State.relinquish s) := by
  unfold State.relinquish
  refine Keeps.ite ?_ ?_
  · exact pairEnter_keeps (beat_keeps (by assumption))
  · assumption

theorem renewFaultN_keeps {a s : State} (h : Keeps a s) :
    Keeps a (@State.renewFaultN s) := by
  unfold State.renewFaultN
  exact setb_keeps (by assumption)

theorem linkSafe_keeps {a s : State} {v1} (h : Keeps a s) :
    Keeps a (@State.linkSafe s v1) := by
  unfold State.linkSafe
  extract_lets +onlyGivenNames x1
  clear_value x1
  extract_lets +onlyGivenNames x2
  have h2 : Keeps a x2 := by
    unfold x2
    exact setLink_keeps (by assumption)
  clear_value x2
  refine setn_keeps ?_
  refine Keeps.foldl ?_ (fun y3 z3 h3 => ?_)
  · assumption
  · exact setChan_keeps (by assumption)

theorem safeParts_keeps {a s : State} (h : Keeps a s) :
    Keeps a (@State.safeParts s) := by
  unfold State.safeParts
  extract_lets +onlyGivenNames x1
  have h1 : Keeps a x1 := by
    unfold x1
    refine Keeps.foldl ?_ (fun y2 z2 h2 => ?_)
    · assumption
    · exact linkSafe_keeps (by assumption)
  clear_value x1
  extract_lets +onlyGivenNames x3
  have h3 : Keeps a x3 := by
    unfold x3
    refine Keeps.foldl ?_ (fun y4 z4 h4 => ?_)
    · assumption
    · exact refreshPlane_keeps (by assumption)
  clear_value x3
  extract_lets +onlyGivenNames x5
  have h5 : Keeps a x5 := by
    unfold x5
    exact unitSafe_keeps (unitSafe_keeps (by assumption))
  clear_value x5
  extract_lets +onlyGivenNames x6
  have h6 : Keeps a x6 := by
    unfold x6
    refine Keeps.foldl ?_ (fun y7 z7 h7 => ?_)
    · assumption
    · exact axisSafe_keeps (by assumption)
  clear_value x6
  extract_lets +onlyGivenNames x8
  have h8 : Keeps a x8 := by
    unfold x8
    refine Keeps.foldl ?_ (fun y9 z9 h9 => ?_)
    · assumption
    · exact loopSafe_keeps (by assumption)
  clear_value x8
  refine Keeps.ite ?_ ?_
  · exact nextDown_keeps (by assumption)
  · assumption

theorem safeEnter_keeps {a s : State} {v1 v2} (h : Keeps a s) :
    Keeps a (@State.safeEnter s v1 v2) := by
  unfold State.safeEnter
  refine Keeps.ite ?_ ?_
  · assumption
  · extract_lets +onlyGivenNames x1
    have h1 : Keeps a x1 := by
      unfold x1
      exact relinquish_keeps (by assumption)
    clear_value x1
    extract_lets +onlyGivenNames x2
    have h2 : Keeps a x2 := by
      unfold x2
      exact setn_keeps (by assumption)
    clear_value x2
    extract_lets +onlyGivenNames x3
    have h3 : Keeps a x3 := by
      unfold x3
      exact setn_keeps (setn_keeps (by assumption))
    clear_value x3
    extract_lets +onlyGivenNames x4
    have h4 : Keeps a x4 := by
      unfold x4
      exact event_keeps (inc32_keeps (by assumption))
    clear_value x4
    extract_lets +onlyGivenNames x5
    have h5 : Keeps a x5 := by
      unfold x5
      refine Keeps.ite ?_ ?_
      · exact disposeAll_keeps (by assumption)
      · assumption
    clear_value x5
    exact renewFaultN_keeps (safeParts_keeps (by assumption))

theorem deviceWrite_keeps {a s : State} {v1 v2} (h : Keeps a s) :
    Keeps a (@State.deviceWrite s v1 v2) := by
  unfold State.deviceWrite
  split
  · assumption
  · exact setv_keeps (logObj_keeps (by assumption))

theorem linkUnsafe_keeps {a s : State} {v1} (h : Keeps a s) :
    Keeps a (@State.linkUnsafe s v1) := by
  unfold State.linkUnsafe
  extract_lets +onlyGivenNames x1
  clear_value x1
  refine setn_keeps ?_
  refine Keeps.foldl ?_ (fun y2 z2 h2 => ?_)
  · assumption
  · exact setChan_keeps (by assumption)

theorem safeDone_keeps {a s : State} (h : Keeps a s) :
    Keeps a (@State.safeDone s) := by
  unfold State.safeDone
  extract_lets +onlyGivenNames x1
  clear_value x1
  extract_lets +onlyGivenNames x2
  have h2 : Keeps a x2 := by
    unfold x2
    exact setn_keeps (setn_keeps (by assumption))
  clear_value x2
  extract_lets +onlyGivenNames x3
  clear_value x3
  extract_lets +onlyGivenNames x4
  have h4 : Keeps a x4 := by
    unfold x4
    exact setPower_keeps (by assumption)
  clear_value x4
  extract_lets +onlyGivenNames x5
  have h5 : Keeps a x5 := by
    unfold x5
    refine Keeps.foldl ?_ (fun y6 z6 h6 => ?_)
    · assumption
    · exact deviceWrite_keeps (by assumption)
  clear_value x5
  extract_lets +onlyGivenNames x7
  have h7 : Keeps a x7 := by
    unfold x7
    refine Keeps.foldl ?_ (fun y8 z8 h8 => ?_)
    · assumption
    · exact linkUnsafe_keeps (by assumption)
  clear_value x7
  extract_lets +onlyGivenNames x9
  have h9 : Keeps a x9 := by
    unfold x9
    refine Keeps.foldl ?_ (fun y10 z10 h10 => ?_)
    · assumption
    · exact refreshPlane_keeps (setn_keeps (by assumption))
  clear_value x9
  extract_lets +onlyGivenNames x11
  have h11 : Keeps a x11 := by
    unfold x11
    exact unitEnter_keeps (unitEnter_keeps (by assumption))
  clear_value x11
  extract_lets +onlyGivenNames x12
  have h12 : Keeps a x12 := by
    unfold x12
    refine Keeps.foldl ?_ (fun y13 z13 h13 => ?_)
    · assumption
    · exact axisOff_keeps (by assumption)
  clear_value x12
  extract_lets +onlyGivenNames x14
  have h14 : Keeps a x14 := by
    unfold x14
    refine Keeps.foldl ?_ (fun y15 z15 h15 => ?_)
    · assumption
    · exact loopStop_keeps (by assumption)
  clear_value x14
  exact renewFaultN_keeps (event_keeps (by assumption))

theorem safeUpFrom_keeps {a s : State} {v1} (h : Keeps a s) :
    Keeps a (@State.safeUpFrom s v1) := by
  unfold State.safeUpFrom
  split
  · exact beginStep_keeps (by assumption)
  · exact safeDone_keeps (endSteps_keeps (by assumption))

theorem safeLeave_keeps {a s : State} (h : Keeps a s) :
    Keeps a (@State.safeLeave s) := by
  unfold State.safeLeave
  refine Keeps.ite ?_ ?_
  · exact safeUpFrom_keeps (setPower_keeps (by assumption))
  · assumption

theorem setSource_keeps {a s : State} {v1 v2} (h : Keeps a s) :
    Keeps a (@State.setSource s v1 v2) := by
  unfold State.setSource
  exact setFault_keeps (by assumption)

theorem setSensor_keeps {a s : State} {v1 v2} (h : Keeps a s) :
    Keeps a (@State.setSensor s v1 v2) := by
  unfold State.setSensor
  refine Keeps.same (b := s) rfl rfl rfl rfl rfl rfl rfl rfl rfl ?_
  assumption

theorem setLimits_keeps {a s : State} {v1 v2} (h : Keeps a s) :
    Keeps a (@State.setLimits s v1 v2) := by
  unfold State.setLimits
  refine Keeps.ite ?_ ?_
  · exact setn_keeps (setn_keeps (by assumption))
  · extract_lets +onlyGivenNames x1
    have h1 : Keeps a x1 := by
      unfold x1
      exact setn_keeps (by assumption)
    clear_value x1
    exact setn_keeps (setn_keeps (by assumption))

theorem renewTarget_keeps {a s : State} {v1 v2} (h : Keeps a s) :
    Keeps a (@State.renewTarget s v1 v2) := by
  unfold State.renewTarget
  extract_lets +onlyGivenNames x1
  clear_value x1
  extract_lets +onlyGivenNames x2
  clear_value x2
  extract_lets +onlyGivenNames x3
  clear_value x3
  extract_lets +onlyGivenNames x4
  clear_value x4
  extract_lets +onlyGivenNames x5
  have h5 : Keeps a x5 := by
    unfold x5
    refine Keeps.same (b := s) rfl rfl rfl rfl rfl rfl rfl rfl rfl ?_
    assumption
  clear_value x5
  extract_lets +onlyGivenNames x6
  have h6 : Keeps a x6 := by
    unfold x6
    exact setLimits_keeps (by assumption)
  clear_value x6
  refine Keeps.ite ?_ ?_
  · assumption
  · exact event_keeps (by assumption)

theorem setStatus_keeps {a s : State} {v1 v2} (h : Keeps a s) :
    Keeps a (@State.setStatus s v1 v2) := by
  unfold State.setStatus
  refine Keeps.ite ?_ ?_
  · exact setn_keeps (by assumption)
  · exact setn_keeps (by assumption)

theorem goodSample_keeps {a s : State} {v1 v2} (h : Keeps a s) :
    Keeps a (@State.goodSample s v1 v2) := by
  unfold State.goodSample
  extract_lets +onlyGivenNames x1
  clear_value x1
  extract_lets +onlyGivenNames x2
  clear_value x2
  extract_lets +onlyGivenNames x3
  have h3 : Keeps a x3 := by
    unfold x3
    refine Keeps.ite ?_ ?_
    · exact seti_keeps (by assumption)
    · exact seti_keeps (by assumption)
  clear_value x3
  extract_lets +onlyGivenNames x4
  clear_value x4
  extract_lets +onlyGivenNames x5
  clear_value x5
  extract_lets +onlyGivenNames x6
  have h6 : Keeps a x6 := by
    unfold x6
    exact setSensor_keeps (by assumption)
  clear_value x6
  refine Keeps.ite ?_ ?_
  · exact setStatus_keeps (by assumption)
  · assumption

theorem badSample_keeps {a s : State} {v1 v2} (h : Keeps a s) :
    Keeps a (@State.badSample s v1 v2) := by
  unfold State.badSample
  extract_lets +onlyGivenNames x1
  clear_value x1
  extract_lets +onlyGivenNames x2
  clear_value x2
  extract_lets +onlyGivenNames x3
  have h3 : Keeps a x3 := by
    unfold x3
    exact setSensor_keeps (by assumption)
  clear_value x3
  refine Keeps.ite ?_ ?_
  · assumption
  · exact event_keeps (setStatus_keeps (by assumption))

theorem promote_keeps {a s : State} {v1} (h : Keeps a s) :
    Keeps a (@State.promote s v1) := by
  unfold State.promote
  refine Keeps.ite ?_ ?_
  · assumption
  · extract_lets +onlyGivenNames x1
    clear_value x1
    extract_lets +onlyGivenNames x2
    clear_value x2
    refine Keeps.ite ?_ ?_
    · exact setb_keeps (by assumption)
    · refine Keeps.ite ?_ ?_
      · exact setb_keeps (by assumption)
      · assumption

theorem renewR_keeps {a s : State} {v1} (h : Keeps a s) :
    Keeps a (@State.renewR s v1) := by
  unfold State.renewR
  extract_lets +onlyGivenNames x1
  clear_value x1
  extract_lets +onlyGivenNames x2
  clear_value x2
  extract_lets +onlyGivenNames x3
  have h3 : Keeps a x3 := by
    unfold x3
    exact setSensor_keeps (by assumption)
  clear_value x3
  refine Keeps.ite ?_ ?_
  · exact setn_keeps (by assumption)
  · exact setn_keeps (by assumption)

theorem shutdownCheck_keeps {a s : State} {v1} (h : Keeps a s) :
    Keeps a (@State.shutdownCheck s v1) := by
  unfold State.shutdownCheck
  refine Keeps.ite ?_ ?_
  · assumption
  · extract_lets +onlyGivenNames x1
    have h1 : Keeps a x1 := by
      unfold x1
      exact setn_keeps (setb_keeps (by assumption))
    clear_value x1
    extract_lets +onlyGivenNames x2
    have h2 : Keeps a x2 := by
      unfold x2
      exact seti_keeps (by assumption)
    clear_value x2
    exact event_keeps (safeEnter_keeps (by assumption))

theorem measured_keeps {a s : State} {v1 v2 v3} (h : Keeps a s) :
    Keeps a (@State.measured s v1 v2 v3) := by
  unfold State.measured
  extract_lets +onlyGivenNames x1
  have h1 : Keeps a x1 := by
    unfold x1
    split
    · exact goodSample_keeps (by assumption)
    · exact badSample_keeps (by assumption)
  clear_value x1
  extract_lets +onlyGivenNames x2
  have h2 : Keeps a x2 := by
    unfold x2
    exact promote_keeps (renewR_keeps (by assumption))
  clear_value x2
  extract_lets +onlyGivenNames x3
  have h3 : Keeps a x3 := by
    unfold x3
    refine Keeps.foldl ?_ (fun y4 z4 h4 => ?_)
    · assumption
    · exact renewTarget_keeps (by assumption)
  clear_value x3
  exact shutdownCheck_keeps (by assumption)

theorem tsRound_keeps {a s : State} {v1 v2} (h : Keeps a s) :
    Keeps a (@State.tsRound s v1 v2) := by
  unfold State.tsRound
  refine Keeps.foldl ?_ (fun y1 z1 h1 => ?_)
  · assumption
  · extract_lets +onlyGivenNames x2
    clear_value x2
    exact measured_keeps (by assumption)

theorem execSlowAdcRound_keeps {a s : State} {v0 v1 v2 v3} (h : Keeps a s) :
    OutKeeps a (@execSlowAdcRound v0 v1 v2 v3 s) := by
  unfold execSlowAdcRound
  extract_lets +onlyGivenNames x1
  have h1 : Keeps a x1 := by
    unfold x1
    exact atTime_keeps (by assumption)
  clear_value x1
  extract_lets +onlyGivenNames x2
  have h2 : Keeps a x2 := by
    unfold x2
    refine Keeps.foldl ?_ (fun y3 z3 h3 => ?_)
    · assumption
    · exact ainSample_keeps (by assumption)
  clear_value x2
  extract_lets +onlyGivenNames x4
  have h4 : Keeps a x4 := by
    unfold x4
    exact tsRound_keeps (by assumption)
  clear_value x4
  refine OutKeeps.ok ?_
  refine Keeps.ite ?_ ?_
  · exact inc32_keeps (by assumption)
  · assumption

theorem execFastAdcRound_keeps {a s : State} {v0 v1 v2} (h : Keeps a s) :
    OutKeeps a (@execFastAdcRound v0 v1 v2 s) := by
  unfold execFastAdcRound
  extract_lets +onlyGivenNames x1
  have h1 : Keeps a x1 := by
    unfold x1
    exact tsRound_keeps (atTime_keeps (by assumption))
  clear_value x1
  refine OutKeeps.ok ?_
  refine Keeps.ite ?_ ?_
  · exact inc32_keeps (by assumption)
  · assumption

theorem execTdSample_keeps {a s : State} {v0 v1 v2 v3} (h : Keeps a s) :
    OutKeeps a (@execTdSample v0 v1 v2 v3 s) := by
  unfold execTdSample
  extract_lets +onlyGivenNames x1
  have h1 : Keeps a x1 := by
    unfold x1
    exact atTime_keeps (by assumption)
  clear_value x1
  extract_lets +onlyGivenNames x2
  clear_value x2
  exact OutKeeps.ok (measured_keeps (by assumption))

theorem journalProgram_keeps {a s : State} (h : Keeps a s) :
    Keeps a (@State.journalProgram s) := by
  unfold State.journalProgram
  refine Keeps.ite ?_ ?_
  · assumption
  · extract_lets +onlyGivenNames x1
    extract_lets +onlyGivenNames x2
    have h2 : Keeps a x2 := by
      unfold x2
      refine Keeps.same (b := s) rfl rfl rfl rfl rfl rfl rfl rfl rfl ?_
      assumption
    clear_value x2
    exact freeNext_keeps (setn_keeps (by assumption))

theorem execHoldupJournalProgrammed_keeps {a s : State} {v0} (h : Keeps a s) :
    OutKeeps a (@execHoldupJournalProgrammed v0 s) := by
  unfold execHoldupJournalProgrammed
  extract_lets +onlyGivenNames x1
  have h1 : Keeps a x1 := by
    unfold x1
    exact atTime_keeps (by assumption)
  clear_value x1
  refine OutKeeps.ok ?_
  refine Keeps.ite ?_ ?_
  · exact journalProgram_keeps (by assumption)
  · assumption

theorem decideStop_keeps {a s : State} {v1 v2} (h : Keeps a s) :
    Keeps a (@State.decideStop s v1 v2) := by
  unfold State.decideStop
  split
  · assumption
  · exact setPower_keeps (by assumption)

theorem holdupStart_keeps {a s : State} (h : Keeps a s) :
    Keeps a (@State.holdupStart s) := by
  unfold State.holdupStart
  split
  · assumption
  · extract_lets +onlyGivenNames x1
    have h1 : Keeps a x1 := by
      unfold x1
      exact setn_keeps (by assumption)
    clear_value x1
    refine Keeps.ite ?_ ?_
    · exact setPower_keeps (by assumption)
    · exact setPower_keeps (by assumption)

theorem resetSequence_keeps {a s : State} {v1} (h : Keeps a s) :
    Keeps a (@State.resetSequence s v1) := by
  unfold State.resetSequence
  refine Keeps.ite ?_ ?_
  · assumption
  · extract_lets +onlyGivenNames x1
    clear_value x1
    extract_lets +onlyGivenNames x2
    have h2 : Keeps a x2 := by
      unfold x2
      exact safeEnter_keeps (by assumption)
    clear_value x2
    extract_lets +onlyGivenNames x3
    have h3 : Keeps a x3 := by
      unfold x3
      refine Keeps.ite ?_ ?_
      · exact disposeAll_keeps (by assumption)
      · assumption
    clear_value x3
    extract_lets +onlyGivenNames x4
    have h4 : Keeps a x4 := by
      unfold x4
      exact decideStop_keeps (holdupStart_keeps (by assumption))
    clear_value x4
    extract_lets +onlyGivenNames x5
    have h5 : Keeps a x5 := by
      unfold x5
      exact setb_keeps (by assumption)
    clear_value x5
    exact setPower_keeps (by assumption)

theorem settleFlash_keeps {a s : State} (h : Keeps a s) :
    Keeps a (@State.settleFlash s) := by
  unfold State.settleFlash
  extract_lets +onlyGivenNames x1
  have h1 : Keeps a x1 := by
    unfold x1
    exact logFlash_keeps (journalProgram_keeps (by assumption))
  clear_value x1
  extract_lets +onlyGivenNames x2
  extract_lets +onlyGivenNames x3
  have h3 : Keeps a x3 := by
    unfold x3
    refine Keeps.same (b := x1) rfl rfl rfl rfl rfl rfl rfl rfl rfl ?_
    assumption
  clear_value x3
  refine dropCheckpoint_keeps ?_
  refine Keeps.foldl ?_ (fun y4 z4 h4 => ?_)
  · assumption
  · exact accumulate_keeps (by assumption)

theorem orderlyDown_keeps {a s : State} {v1} (h : Keeps a s) :
    Keeps a (@State.orderlyDown s v1) := by
  unfold State.orderlyDown
  exact powerDown_keeps (settleFlash_keeps (by assumption))

theorem offRequest_keeps {a s : State} (h : Keeps a s) :
    Keeps a (@State.offRequest s) := by
  unfold State.offRequest
  refine Keeps.ite ?_ ?_
  · exact setPower_keeps (by assumption)
  · refine Keeps.ite ?_ ?_
    · exact orderlyDown_keeps (safeEnter_keeps (by assumption))
    · assumption

theorem faultClear_keeps {a s : State} (h : Keeps a s) :
    Keeps a (@State.faultClear s) := by
  unfold State.faultClear
  refine Keeps.ite ?_ ?_
  · assumption
  · extract_lets +onlyGivenNames x1
    have h1 : Keeps a x1 := by
      unfold x1
      exact seqUnlatch_keeps (by assumption)
    clear_value x1
    exact orderlyDown_keeps (setPower_keeps (by assumption))

theorem bootValues_keeps {a s : State} (h : Keeps a s) :
    Keeps a (@State.bootValues s) := by
  unfold State.bootValues
  refine Keeps.ite ?_ ?_
  · refine Keeps.trans (b := s) ?_ ⟨rfl, Nat.le_refl _, Nat.le_refl _, Nat.le_refl _, Nat.le_refl _, Nat.le_refl _, fun w => ⟨w.1.filter _, w.2⟩, id⟩
    assumption
  · refine Keeps.foldl ?_ (fun y1 z1 h1 => ?_)
    · assumption
    · exact setv_keeps (by assumption)

theorem bootStart_keeps {a s : State} (h : Keeps a s) :
    Keeps a (@State.bootStart s) := by
  unfold State.bootStart
  extract_lets +onlyGivenNames x1
  have h1 : Keeps a x1 := by
    unfold x1
    exact setn_keeps (setn_keeps (bootValues_keeps (by assumption)))
  clear_value x1
  exact relock_keeps (renewFaultN_keeps (by assumption))

theorem upDone_keeps {a s : State} (h : Keeps a s) :
    Keeps a (@State.upDone s) := by
  unfold State.upDone
  extract_lets +onlyGivenNames x1
  have h1 : Keeps a x1 := by
    unfold x1
    exact endSteps_keeps (by assumption)
  clear_value x1
  refine Keeps.ite ?_ ?_
  · exact bootStart_keeps (domainsOn_keeps (powerEnter_keeps (by assumption)))
  · refine Keeps.ite ?_ ?_
    · exact domainOn_keeps (by assumption)
    · assumption

theorem upFrom_keeps {a s : State} {v1} (h : Keeps a s) :
    Keeps a (@State.upFrom s v1) := by
  unfold State.upFrom
  split
  · exact beginStep_keeps (by assumption)
  · exact upDone_keeps (by assumption)

theorem stepDone_keeps {a s : State} (h : Keeps a s) :
    Keeps a (@State.stepDone s) := by
  unfold State.stepDone
  extract_lets +onlyGivenNames x1
  clear_value x1
  refine Keeps.ite ?_ ?_
  · exact orderlyDown_keeps (setPower_keeps (by assumption))
  · refine Keeps.ite ?_ ?_
    · exact safeUpFrom_keeps (by assumption)
    · exact upFrom_keeps (by assumption)

theorem execSupplyGlitch_keeps {a s : State} {v0} (h : Keeps a s) :
    OutKeeps a (@execSupplyGlitch v0 s) := by
  unfold execSupplyGlitch
  exact OutKeeps.ok (inc32_keeps (atTime_keeps (by assumption)))

theorem renewSlots_keeps {a s : State} (h : Keeps a s) :
    Keeps a (@State.renewSlots s) := by
  unfold State.renewSlots
  exact setn_keeps (by assumption)

theorem writeBody_keeps {a s : State} (h : Keeps a s) :
    Keeps a (@State.writeBody s) := by
  unfold State.writeBody
  split
  · refine Keeps.ite ?_ ?_
    · assumption
    · exact renewSlots_keeps (setPower_keeps (by assumption))
  · assumption

theorem supplyWarning_keeps {a s : State} (h : Keeps a s) :
    Keeps a (@State.supplyWarning s) := by
  unfold State.supplyWarning
  extract_lets +onlyGivenNames x1
  have h1 : Keeps a x1 := by
    unfold x1
    exact holdupStart_keeps (by assumption)
  clear_value x1
  extract_lets +onlyGivenNames x2
  have h2 : Keeps a x2 := by
    unfold x2
    exact inc32_keeps (setb_keeps (by assumption))
  clear_value x2
  exact updateCut_keeps (event_keeps (by assumption))

theorem mainAt_keeps {a s : State} {v1} (h : Keeps a s) :
    Keeps a (@State.mainAt s v1) := by
  unfold State.mainAt
  exact setn_keeps (by assumption)

theorem outrankNow_keeps {a s : State} (h : Keeps a s) :
    Keeps a (@State.outrankNow s) := by
  unfold State.outrankNow
  refine Keeps.foldl ?_ (fun y1 z1 h1 => ?_)
  · assumption
  · exact dispose_keeps (by assumption)

theorem powerStop_keeps {a s : State} (h : Keeps a s) :
    Keeps a (@State.powerStop s) := by
  unfold State.powerStop
  extract_lets +onlyGivenNames x1
  have h1 : Keeps a x1 := by
    unfold x1
    refine Keeps.ite ?_ ?_
    · exact supplyWarning_keeps (by assumption)
    · assumption
  clear_value x1
  extract_lets +onlyGivenNames x2
  clear_value x2
  extract_lets +onlyGivenNames x3
  clear_value x3
  extract_lets +onlyGivenNames x4
  have h4 : Keeps a x4 := by
    unfold x4
    exact decideStop_keeps (by assumption)
  clear_value x4
  extract_lets +onlyGivenNames x5
  clear_value x5
  extract_lets +onlyGivenNames x6
  have h6 : Keeps a x6 := by
    unfold x6
    exact setPower_keeps (by assumption)
  clear_value x6
  extract_lets +onlyGivenNames x7
  have h7 : Keeps a x7 := by
    unfold x7
    exact setb_keeps (by assumption)
  clear_value x7
  extract_lets +onlyGivenNames x8
  have h8 : Keeps a x8 := by
    unfold x8
    exact safeEnter_keeps (by assumption)
  clear_value x8
  extract_lets +onlyGivenNames x9
  have h9 : Keeps a x9 := by
    unfold x9
    refine Keeps.ite ?_ ?_
    · exact outrankNow_keeps (by assumption)
    · assumption
  clear_value x9
  exact endSteps_keeps (domainsOff_keeps (powerEnter_keeps (by assumption)))

theorem execPowerStop_keeps {a s : State} {v0 v1} (h : Keeps a s) :
    OutKeeps a (@execPowerStop v0 v1 s) := by
  unfold execPowerStop
  extract_lets +onlyGivenNames x1
  have h1 : Keeps a x1 := by
    unfold x1
    exact mainAt_keeps (atTime_keeps (by assumption))
  clear_value x1
  refine OutKeeps.ite ?_ ?_
  · exact OutKeeps.ok (by assumption)
  · exact OutKeeps.ok (powerStop_keeps (by assumption))

theorem toDefault_keeps {a s : State} {v1} (h : Keeps a s) :
    Keeps a (@State.toDefault s v1) := by
  unfold State.toDefault
  extract_lets +onlyGivenNames x1
  have h1 : Keeps a x1 := by
    unfold x1
    exact logObj_keeps (by assumption)
  clear_value x1
  refine Keeps.trans (b := x1) ?_ ⟨rfl, Nat.le_refl _, Nat.le_refl _, Nat.le_refl _, Nat.le_refl _, Nat.le_refl _, fun w => ⟨w.1.kvDel _, w.2⟩, id⟩
  assumption

theorem applyPend_keeps {a s : State} {v1} (h : Keeps a s) :
    Keeps a (@State.applyPend s v1) := by
  unfold State.applyPend
  extract_lets +onlyGivenNames x1
  extract_lets +onlyGivenNames x2
  have h2 : Keeps a x2 := by
    unfold x2
    refine Keeps.same (b := s) rfl rfl rfl rfl rfl rfl rfl rfl rfl ?_
    assumption
  clear_value x2
  extract_lets +onlyGivenNames x3
  clear_value x3
  exact setv_keeps (logObj_keeps (by assumption))

theorem loadSeq_keeps {a s : State} (h : Keeps a s) :
    Keeps a (@State.loadSeq s) := by
  unfold State.loadSeq
  extract_lets +onlyGivenNames x1
  clear_value x1
  refine Keeps.ite ?_ ?_
  · refine Keeps.foldl ?_ (fun y2 z2 h2 => ?_)
    · refine Keeps.same (b := s) rfl rfl rfl rfl rfl rfl rfl rfl rfl ?_
      assumption
    · exact toDefault_keeps (by assumption)
  · refine Keeps.foldl ?_ (fun y3 z3 h3 => ?_)
    · assumption
    · exact applyPend_keeps (by assumption)

theorem writeStop_keeps {a s : State} (h : Keeps a s) :
    Keeps a (@State.writeStop s) := by
  unfold State.writeStop
  split
  · extract_lets +onlyGivenNames x1
    clear_value x1
    exact setn_keeps (setPower_keeps (by assumption))
  · assumption

theorem resetNow_keeps {a s : State} (h : Keeps a s) :
    Keeps a (@State.resetNow s) := by
  unfold State.resetNow
  exact bootStart_keeps (restart_keeps (by assumption))

theorem execHoldupStopProgrammed_keeps {a s : State} {v0} (h : Keeps a s) :
    OutKeeps a (@execHoldupStopProgrammed v0 s) := by
  unfold execHoldupStopProgrammed
  extract_lets +onlyGivenNames x1
  have h1 : Keeps a x1 := by
    unfold x1
    exact atTime_keeps (by assumption)
  clear_value x1
  split
  · exact OutKeeps.ok (by assumption)
  · extract_lets +onlyGivenNames x2
    clear_value x2
    refine OutKeeps.ite ?_ ?_
    · exact OutKeeps.ok (by assumption)
    · extract_lets +onlyGivenNames x3
      have h3 : Keeps a x3 := by
        unfold x3
        exact writeStop_keeps (writeBody_keeps (journalProgram_keeps (by assumption)))
      clear_value x3
      extract_lets +onlyGivenNames x4
      have h4 : Keeps a x4 := by
        unfold x4
        exact setn_keeps (by assumption)
      clear_value x4
      extract_lets +onlyGivenNames x5
      clear_value x5
      extract_lets +onlyGivenNames x6
      have h6 : Keeps a x6 := by
        unfold x6
        exact setPower_keeps (by assumption)
      clear_value x6
      split
      · exact OutKeeps.ok (by assumption)
      · refine OutKeeps.ok ?_
        refine Keeps.ite ?_ ?_
        · exact nextDown_keeps (by assumption)
        · exact resetNow_keeps (by assumption)

theorem powerUp_keeps {a s : State} {v1} (h : Keeps a s) :
    Keeps a (@State.powerUp s v1) := by
  unfold State.powerUp
  extract_lets +onlyGivenNames x1
  clear_value x1
  extract_lets +onlyGivenNames x2
  have h2 : Keeps a x2 := by
    unfold x2
    exact setPower_keeps (by assumption)
  clear_value x2
  extract_lets +onlyGivenNames x3
  have h3 : Keeps a x3 := by
    unfold x3
    exact loadSeq_keeps (domainOn_keeps (domainOn_keeps (powerEnter_keeps (by assumption))))
  clear_value x3
  exact upFrom_keeps (setn_keeps (by assumption))

theorem railLost_keeps {a s : State} {v1 v2} (h : Keeps a s) :
    Keeps a (@State.railLost s v1 v2) := by
  unfold State.railLost
  exact orderlyDown_keeps (setPower_keeps (railFault_keeps (seqLatch_keeps (safeEnter_keeps (by assumption)))))

theorem execSupplyWarningCleared_keeps {a s : State} {v0 v1} (h : Keeps a s) :
    OutKeeps a (@execSupplyWarningCleared v0 v1 s) := by
  unfold execSupplyWarningCleared
  extract_lets +onlyGivenNames x1
  have h1 : Keeps a x1 := by
    unfold x1
    exact mainAt_keeps (atTime_keeps (by assumption))
  clear_value x1
  refine OutKeeps.ite ?_ ?_
  · exact OutKeeps.ok (by assumption)
  · extract_lets +onlyGivenNames x2
    have h2 : Keeps a x2 := by
      unfold x2
      exact decideStop_keeps (setb_keeps (by assumption))
    clear_value x2
    extract_lets +onlyGivenNames x3
    have h3 : Keeps a x3 := by
      unfold x3
      exact setDurable_keeps (by assumption)
    clear_value x3
    exact OutKeeps.ok (event_keeps (by assumption))

theorem serviceLost_keeps {a s : State} {v1} (h : Keeps a s) :
    Keeps a (@State.serviceLost s v1) := by
  unfold State.serviceLost
  extract_lets +onlyGivenNames x1
  have h1 : Keeps a x1 := by
    unfold x1
    exact railFault_keeps (seqLatch_keeps (by assumption))
  clear_value x1
  exact orderlyDown_keeps (setPower_keeps (by assumption))

theorem execSeqWindowLost_keeps {a s : State} {v0 v1 v2 v3} (h : Keeps a s) :
    OutKeeps a (@execSeqWindowLost v0 v1 v2 v3 s) := by
  unfold execSeqWindowLost
  extract_lets +onlyGivenNames x1
  have h1 : Keeps a x1 := by
    unfold x1
    exact setn_keeps (mainAt_keeps (atTime_keeps (by assumption)))
  clear_value x1
  refine OutKeeps.ite ?_ ?_
  · exact OutKeeps.ok (by assumption)
  · refine OutKeeps.ite ?_ ?_
    · exact OutKeeps.ok (powerStop_keeps (by assumption))
    · refine OutKeeps.ite ?_ ?_
      · exact OutKeeps.ok (railLost_keeps (by assumption))
      · refine OutKeeps.ite ?_ ?_
        · exact OutKeeps.ok (serviceLost_keeps (by assumption))
        · exact OutKeeps.ok (by assumption)

theorem execWakeOffRequest_keeps {a s : State} {v0} (h : Keeps a s) :
    OutKeeps a (@execWakeOffRequest v0 s) := by
  unfold execWakeOffRequest
  extract_lets +onlyGivenNames x1
  have h1 : Keeps a x1 := by
    unfold x1
    exact atTime_keeps (by assumption)
  clear_value x1
  refine OutKeeps.ite ?_ ?_
  · exact OutKeeps.ok (by assumption)
  · exact OutKeeps.ok (offRequest_keeps (by assumption))

theorem serviceUp_keeps {a s : State} (h : Keeps a s) :
    Keeps a (@State.serviceUp s) := by
  unfold State.serviceUp
  extract_lets +onlyGivenNames x1
  clear_value x1
  extract_lets +onlyGivenNames x2
  have h2 : Keeps a x2 := by
    unfold x2
    exact setPower_keeps (by assumption)
  clear_value x2
  exact upFrom_keeps (loadSeq_keeps (domainOn_keeps (domainOn_keeps (powerEnter_keeps (by assumption)))))

theorem execMainInputQualified_keeps {a s : State} {v0 v1} (h : Keeps a s) :
    OutKeeps a (@execMainInputQualified v0 v1 s) := by
  unfold execMainInputQualified
  extract_lets +onlyGivenNames x1
  have h1 : Keeps a x1 := by
    unfold x1
    exact mainAt_keeps (atTime_keeps (by assumption))
  clear_value x1
  refine OutKeeps.ite ?_ ?_
  · exact OutKeeps.ok (powerUp_keeps (by assumption))
  · exact OutKeeps.ok (by assumption)

theorem railsDrop_keeps {a s : State} (h : Keeps a s) :
    Keeps a (@State.railsDrop s) := by
  unfold State.railsDrop
  refine Keeps.foldl ?_ (fun y1 z1 h1 => ?_)
  · assumption
  · exact setSeqState_keeps (setSeq_keeps (by assumption))

theorem execHoldUpExhausted_keeps {a s : State} {v0} (h : Keeps a s) :
    OutKeeps a (@execHoldUpExhausted v0 s) := by
  unfold execHoldUpExhausted
  extract_lets +onlyGivenNames x1
  have h1 : Keeps a x1 := by
    unfold x1
    exact atTime_keeps (by assumption)
  clear_value x1
  refine OutKeeps.ite ?_ ?_
  · exact OutKeeps.ok (nextDown_keeps (railsDrop_keeps (domainsOff_keeps (powerEnter_keeps (by assumption)))))
  · refine OutKeeps.ite ?_ ?_
    · exact OutKeeps.ok (nextDown_keeps (railsDrop_keeps (by assumption)))
    · exact OutKeeps.ok (by assumption)

theorem execMinOffTimeExpiry_keeps {a s : State} {v0 v1} (h : Keeps a s) :
    OutKeeps a (@execMinOffTimeExpiry v0 v1 s) := by
  unfold execMinOffTimeExpiry
  extract_lets +onlyGivenNames x1
  have h1 : Keeps a x1 := by
    unfold x1
    exact mainAt_keeps (atTime_keeps (by assumption))
  clear_value x1
  refine OutKeeps.ite ?_ ?_
  · exact OutKeeps.ok (by assumption)
  · refine OutKeeps.ite ?_ ?_
    · exact OutKeeps.ok (serviceUp_keeps (by assumption))
    · extract_lets +onlyGivenNames x2
      clear_value x2
      extract_lets +onlyGivenNames x3
      clear_value x3
      refine OutKeeps.ite ?_ ?_
      · exact OutKeeps.ok (powerEnter_keeps (by assumption))
      · refine OutKeeps.ite ?_ ?_
        · exact OutKeeps.ok (powerUp_keeps (by assumption))
        · exact OutKeeps.ok (powerEnter_keeps (setPower_keeps (by assumption)))

theorem execWakeOnRequest_keeps {a s : State} {v0 v1} (h : Keeps a s) :
    OutKeeps a (@execWakeOnRequest v0 v1 s) := by
  unfold execWakeOnRequest
  extract_lets +onlyGivenNames x1
  have h1 : Keeps a x1 := by
    unfold x1
    exact mainAt_keeps (atTime_keeps (by assumption))
  clear_value x1
  extract_lets +onlyGivenNames x2
  clear_value x2
  extract_lets +onlyGivenNames x3
  clear_value x3
  extract_lets +onlyGivenNames x4
  have h4 : Keeps a x4 := by
    unfold x4
    exact setPower_keeps (by assumption)
  clear_value x4
  refine OutKeeps.ite ?_ ?_
  · refine OutKeeps.ok ?_
    refine Keeps.ite ?_ ?_
    · exact powerUp_keeps (by assumption)
    · assumption
  · refine OutKeeps.ite ?_ ?_
    · exact OutKeeps.ok (by assumption)
    · exact OutKeeps.ok (by assumption)

theorem execSeqEnableDelayExpiry_keeps {a s : State} {v0 v1} (h : Keeps a s) :
    OutKeeps a (@execSeqEnableDelayExpiry v0 v1 s) := by
  unfold execSeqEnableDelayExpiry
  extract_lets +onlyGivenNames x1
  have h1 : Keeps a x1 := by
    unfold x1
    exact atTime_keeps (by assumption)
  clear_value x1
  refine OutKeeps.ite ?_ ?_
  · exact OutKeeps.ok (by assumption)
  · exact OutKeeps.ok (setSeqState_keeps (setSeq_keeps (by assumption)))

theorem execHoldupBodyProgrammed_keeps {a s : State} {v0} (h : Keeps a s) :
    OutKeeps a (@execHoldupBodyProgrammed v0 s) := by
  unfold execHoldupBodyProgrammed
  exact OutKeeps.ok (writeBody_keeps (atTime_keeps (by assumption)))

theorem execResetDeadline_keeps {a s : State} {v0} (h : Keeps a s) :
    OutKeeps a (@execResetDeadline v0 s) := by
  unfold execResetDeadline
  extract_lets +onlyGivenNames x1
  have h1 : Keeps a x1 := by
    unfold x1
    exact atTime_keeps (by assumption)
  clear_value x1
  split
  · refine OutKeeps.ok ?_
    refine Keeps.ite ?_ ?_
    · exact resetNow_keeps (by assumption)
    · assumption
  · exact OutKeeps.ok (by assumption)

theorem execSeqChannelSettled_keeps {a s : State} {v0 v1 v2} (h : Keeps a s) :
    OutKeeps a (@execSeqChannelSettled v0 v1 v2 s) := by
  unfold execSeqChannelSettled
  extract_lets +onlyGivenNames x1
  have h1 : Keeps a x1 := by
    unfold x1
    exact atTime_keeps (by assumption)
  clear_value x1
  refine OutKeeps.ite ?_ ?_
  · exact OutKeeps.ok (by assumption)
  · extract_lets +onlyGivenNames x2
    have h2 : Keeps a x2 := by
      unfold x2
      exact setSeqState_keeps (setSeq_keeps (by assumption))
    clear_value x2
    extract_lets +onlyGivenNames x3
    have h3 : Keeps a x3 := by
      unfold x3
      exact setn_keeps (by assumption)
    clear_value x3
    extract_lets +onlyGivenNames x4
    clear_value x4
    extract_lets +onlyGivenNames x5
    clear_value x5
    extract_lets +onlyGivenNames x6
    have h6 : Keeps a x6 := by
      unfold x6
      exact setPower_keeps (by assumption)
    clear_value x6
    refine OutKeeps.ok ?_
    refine Keeps.ite ?_ ?_
    · exact stepDone_keeps (by assumption)
    · assumption

theorem execSeqUpTimeout_keeps {a s : State} {v0 v1} (h : Keeps a s) :
    OutKeeps a (@execSeqUpTimeout v0 v1 s) := by
  unfold execSeqUpTimeout
  extract_lets +onlyGivenNames x1
  have h1 : Keeps a x1 := by
    unfold x1
    exact atTime_keeps (by assumption)
  clear_value x1
  refine OutKeeps.ite ?_ ?_
  · exact OutKeeps.ok (by assumption)
  · refine OutKeeps.ite ?_ ?_
    · exact OutKeeps.ok (serviceLost_keeps (by assumption))
    · refine OutKeeps.ite ?_ ?_
      · exact OutKeeps.ok (railLost_keeps (by assumption))
      · extract_lets +onlyGivenNames x2
        clear_value x2
        extract_lets +onlyGivenNames x3
        have h3 : Keeps a x3 := by
          unfold x3
          exact setPower_keeps (railFault_keeps (seqLatch_keeps (by assumption)))
        clear_value x3
        exact OutKeeps.ok (orderlyDown_keeps (by assumption))

theorem execSupplyWarning_keeps {a s : State} {v0 v1} (h : Keeps a s) :
    OutKeeps a (@execSupplyWarning v0 v1 s) := by
  unfold execSupplyWarning
  extract_lets +onlyGivenNames x1
  have h1 : Keeps a x1 := by
    unfold x1
    exact mainAt_keeps (atTime_keeps (by assumption))
  clear_value x1
  refine OutKeeps.ite ?_ ?_
  · exact OutKeeps.ok (by assumption)
  · exact OutKeeps.ok (supplyWarning_keeps (by assumption))

theorem execMainSupplyPowerOn_keeps {a s : State} {v0 v1 v2} (h : Keeps a s) :
    OutKeeps a (@execMainSupplyPowerOn v0 v1 v2 s) := by
  unfold execMainSupplyPowerOn
  extract_lets +onlyGivenNames x1
  have h1 : Keeps a x1 := by
    unfold x1
    exact atTime_keeps (by assumption)
  clear_value x1
  extract_lets +onlyGivenNames x2
  have h2 : Keeps a x2 := by
    unfold x2
    exact restart_keeps (railsDrop_keeps (by assumption))
  clear_value x2
  extract_lets +onlyGivenNames x3
  clear_value x3
  extract_lets +onlyGivenNames x4
  have h4 : Keeps a x4 := by
    unfold x4
    exact setPower_keeps (by assumption)
  clear_value x4
  extract_lets +onlyGivenNames x5
  have h5 : Keeps a x5 := by
    unfold x5
    exact mainAt_keeps (setn_keeps (setb_keeps (seqUnlatch_keeps (by assumption))))
  clear_value x5
  extract_lets +onlyGivenNames x6
  have h6 : Keeps a x6 := by
    unfold x6
    refine Keeps.foldl ?_ (fun y7 z7 h7 => ?_)
    · assumption
    · exact setn_keeps (setn_keeps (by assumption))
  clear_value x6
  extract_lets +onlyGivenNames x8
  have h8 : Keeps a x8 := by
    unfold x8
    exact setb_keeps (by assumption)
  clear_value x8
  extract_lets +onlyGivenNames x9
  clear_value x9
  extract_lets +onlyGivenNames x10
  clear_value x10
  extract_lets +onlyGivenNames x11
  clear_value x11
  extract_lets +onlyGivenNames x12
  have h12 : Keeps a x12 := by
    unfold x12
    refine Keeps.ite ?_ ?_
    · refine Keeps.trans (b := x8) ?_ ⟨rfl, Nat.le_refl _, Nat.le_add_right _ _, Nat.le_refl _, Nat.le_refl _, Nat.le_refl _, id, id⟩
      assumption
    · assumption
  clear_value x12
  extract_lets +onlyGivenNames x13
  have h13 : Keeps a x13 := by
    unfold x13
    exact domainOn_keeps (powerEnter_keeps (by assumption))
  clear_value x13
  extract_lets +onlyGivenNames x14
  clear_value x14
  refine OutKeeps.ite ?_ ?_
  · exact OutKeeps.ok (by assumption)
  · refine OutKeeps.ite ?_ ?_
    · exact OutKeeps.ok (powerUp_keeps (by assumption))
    · exact OutKeeps.ok (setPower_keeps (by assumption))

theorem execJournalProgram_keeps {a s : State} {v0} (h : Keeps a s) :
    OutKeeps a (@execJournalProgram v0 s) := by
  unfold execJournalProgram
  exact OutKeeps.ok (journalProgram_keeps (atTime_keeps (by assumption)))

theorem execStateCheckpoint_keeps {a s : State} {v0} (h : Keeps a s) :
    OutKeeps a (@execStateCheckpoint v0 s) := by
  unfold execStateCheckpoint
  extract_lets +onlyGivenNames x1
  have h1 : Keeps a x1 := by
    unfold x1
    exact atTime_keeps (by assumption)
  clear_value x1
  refine OutKeeps.ite ?_ ?_
  · exact OutKeeps.ok (by assumption)
  · refine OutKeeps.ok ?_
    refine Keeps.same (b := x1) rfl rfl rfl rfl rfl rfl rfl rfl rfl ?_
    assumption

theorem execHoldupSectorErased_keeps {a s : State} {v0} (h : Keeps a s) :
    OutKeeps a (@execHoldupSectorErased v0 s) := by
  unfold execHoldupSectorErased
  extract_lets +onlyGivenNames x1
  have h1 : Keeps a x1 := by
    unfold x1
    exact atTime_keeps (by assumption)
  clear_value x1
  refine OutKeeps.ite ?_ ?_
  · exact OutKeeps.ok (by assumption)
  · exact OutKeeps.ok (renewSlots_keeps (setPower_keeps (by assumption)))

theorem renewGroup_keeps {a s : State} {v1} (h : Keeps a s) :
    Keeps a (@State.renewGroup s v1) := by
  unfold State.renewGroup
  extract_lets +onlyGivenNames x1
  have h1 : Keeps a x1 := by
    unfold x1
    exact setn_keeps (by assumption)
  clear_value x1
  extract_lets +onlyGivenNames x2
  have h2 : Keeps a x2 := by
    unfold x2
    exact setn_keeps (by assumption)
  clear_value x2
  exact setn_keeps (by assumption)

theorem clearSticky_keeps {a s : State} {v1} (h : Keeps a s) :
    Keeps a (@State.clearSticky s v1) := by
  unfold State.clearSticky
  extract_lets +onlyGivenNames x1
  clear_value x1
  refine Keeps.ite ?_ ?_
  · exact renewGroup_keeps (setSource_keeps (by assumption))
  · assumption

theorem clearFault_keeps {a s : State} {v1} (h : Keeps a s) :
    Keeps a (@State.clearFault s v1) := by
  unfold State.clearFault
  refine Keeps.ite ?_ ?_
  · exact renewFaultN_keeps (clearSticky_keeps (by assumption))
  · refine Keeps.ite ?_ ?_
    · refine renewFaultN_keeps ?_
      refine Keeps.foldl ?_ (fun y1 z1 h1 => ?_)
      · assumption
      · exact clearSticky_keeps (by assumption)
    · assumption

theorem startQuiet_keeps {a s : State} {v1} (h : Keeps a s) :
    Keeps a (@State.startQuiet s v1) := by
  unfold State.startQuiet
  extract_lets +onlyGivenNames x1
  have h1 : Keeps a x1 := by
    unfold x1
    exact renewGroup_keeps (by assumption)
  clear_value x1
  refine Keeps.ite ?_ ?_
  · exact setFault_keeps (by assumption)
  · assumption

theorem raiseSource_keeps {a s : State} {v1 v2} (h : Keeps a s) :
    Keeps a (@State.raiseSource s v1 v2) := by
  unfold State.raiseSource
  extract_lets +onlyGivenNames x1
  clear_value x1
  extract_lets +onlyGivenNames x2
  clear_value x2
  extract_lets +onlyGivenNames x3
  have h3 : Keeps a x3 := by
    unfold x3
    exact setSource_keeps (by assumption)
  clear_value x3
  extract_lets +onlyGivenNames x4
  clear_value x4
  extract_lets +onlyGivenNames x5
  have h5 : Keeps a x5 := by
    unfold x5
    exact setFault_keeps (by assumption)
  clear_value x5
  extract_lets +onlyGivenNames x6
  have h6 : Keeps a x6 := by
    unfold x6
    exact renewGroup_keeps (setn_keeps (by assumption))
  clear_value x6
  extract_lets +onlyGivenNames x7
  clear_value x7
  extract_lets +onlyGivenNames x8
  have h8 : Keeps a x8 := by
    unfold x8
    refine Keeps.ite ?_ ?_
    · exact safeEnter_keeps (by assumption)
    · assumption
  clear_value x8
  extract_lets +onlyGivenNames x9
  have h9 : Keeps a x9 := by
    unfold x9
    refine Keeps.ite ?_ ?_
    · exact relinquish_keeps (by assumption)
    · assumption
  clear_value x9
  extract_lets +onlyGivenNames x10
  have h10 : Keeps a x10 := by
    unfold x10
    refine Keeps.ite ?_ ?_
    · exact event_keeps (by assumption)
    · assumption
  clear_value x10
  extract_lets +onlyGivenNames x11
  clear_value x11
  extract_lets +onlyGivenNames x12
  have h12 : Keeps a x12 := by
    unfold x12
    refine Keeps.ite ?_ ?_
    · exact setFault_keeps (by assumption)
    · assumption
  clear_value x12
  exact renewFaultN_keeps (by assumption)

theorem inject_keeps {a s : State} {v1 v2} (h : Keeps a s) :
    Keeps a (@State.inject s v1 v2) := by
  unfold State.inject
  extract_lets +onlyGivenNames x1
  clear_value x1
  refine Keeps.ite ?_ ?_
  · assumption
  · refine Keeps.ite ?_ ?_
    · extract_lets +onlyGivenNames x2
      have h2 : Keeps a x2 := by
        unfold x2
        exact setn_keeps (by assumption)
      clear_value x2
      refine Keeps.ite ?_ ?_
      · exact renewFaultN_keeps (startQuiet_keeps (setSource_keeps (by assumption)))
      · assumption
    · extract_lets +onlyGivenNames x3
      have h3 : Keeps a x3 := by
        unfold x3
        exact event_keeps (setn_keeps (by assumption))
      clear_value x3
      refine Keeps.ite ?_ ?_
      · assumption
      · exact raiseSource_keeps (by assumption)

theorem writeActions_keeps {a s : State} {v1} (h : Keeps a s) :
    Keeps a (@State.writeActions s v1) := by
  unfold State.writeActions
  exact renewFaultN_keeps (setFault_keeps (by assumption))

theorem sourceOn_keeps {a s : State} {v1 v2} (h : Keeps a s) :
    Keeps a (@State.sourceOn s v1 v2) := by
  unfold State.sourceOn
  extract_lets +onlyGivenNames x1
  clear_value x1
  extract_lets +onlyGivenNames x2
  clear_value x2
  refine Keeps.ite ?_ ?_
  · assumption
  · extract_lets +onlyGivenNames x3
    have h3 : Keeps a x3 := by
      unfold x3
      refine Keeps.ite ?_ ?_
      · exact inc32_keeps (by assumption)
      · assumption
    clear_value x3
    extract_lets +onlyGivenNames x4
    have h4 : Keeps a x4 := by
      unfold x4
      exact setSource_keeps (by assumption)
    clear_value x4
    refine Keeps.ite ?_ ?_
    · exact raiseSource_keeps (by assumption)
    · refine Keeps.ite ?_ ?_
      · assumption
      · exact setSource_keeps (by assumption)

theorem execNetrefFault_keeps {a s : State} {v0 v1} (h : Keeps a s) :
    OutKeeps a (@execNetrefFault v0 v1 s) := by
  unfold execNetrefFault
  extract_lets +onlyGivenNames x1
  have h1 : Keeps a x1 := by
    unfold x1
    exact setn_keeps (atTime_keeps (by assumption))
  clear_value x1
  exact OutKeeps.ok (sourceOn_keeps (by assumption))

theorem recoverSticky_keeps {a s : State} {v1} (h : Keeps a s) :
    Keeps a (@State.recoverSticky s v1) := by
  unfold State.recoverSticky
  refine Keeps.foldl ?_ (fun y1 z1 h1 => ?_)
  · assumption
  · refine Keeps.ite ?_ ?_
    · exact clearSticky_keeps (by assumption)
    · assumption

theorem execCollectorSelfFault_keeps {a s : State} {v0} (h : Keeps a s) :
    OutKeeps a (@execCollectorSelfFault v0 s) := by
  unfold execCollectorSelfFault
  extract_lets +onlyGivenNames x1
  have h1 : Keeps a x1 := by
    unfold x1
    exact safeEnter_keeps (atTime_keeps (by assumption))
  clear_value x1
  exact OutKeeps.ok (renewFaultN_keeps (setn_keeps (by assumption)))

theorem execGroupRecovered_keeps {a s : State} {v0 v1} (h : Keeps a s) :
    OutKeeps a (@execGroupRecovered v0 v1 s) := by
  unfold execGroupRecovered
  extract_lets +onlyGivenNames x1
  have h1 : Keeps a x1 := by
    unfold x1
    exact atTime_keeps (by assumption)
  clear_value x1
  refine OutKeeps.ite ?_ ?_
  · exact OutKeeps.ok (by assumption)
  · extract_lets +onlyGivenNames x2
    clear_value x2
    extract_lets +onlyGivenNames x3
    have h3 : Keeps a x3 := by
      unfold x3
      exact recoverSticky_keeps (setFault_keeps (by assumption))
    clear_value x3
    extract_lets +onlyGivenNames x4
    clear_value x4
    extract_lets +onlyGivenNames x5
    have h5 : Keeps a x5 := by
      unfold x5
      exact event_keeps (setn_keeps (by assumption))
    clear_value x5
    extract_lets +onlyGivenNames x6
    have h6 : Keeps a x6 := by
      unfold x6
      exact renewFaultN_keeps (by assumption)
    clear_value x6
    refine OutKeeps.ite ?_ ?_
    · exact OutKeeps.ok (safeLeave_keeps (by assumption))
    · exact OutKeeps.ok (by assumption)

theorem execFaultSourceActive_keeps {a s : State} {v0 v1 v2} (h : Keeps a s) :
    OutKeeps a (@execFaultSourceActive v0 v1 v2 s) := by
  unfold execFaultSourceActive
  extract_lets +onlyGivenNames x1
  have h1 : Keeps a x1 := by
    unfold x1
    exact atTime_keeps (by assumption)
  clear_value x1
  refine OutKeeps.ite ?_ ?_
  · exact OutKeeps.ok (by assumption)
  · exact OutKeeps.ok (sourceOn_keeps (by assumption))

theorem execFaultSourceInactive_keeps {a s : State} {v0 v1} (h : Keeps a s) :
    OutKeeps a (@execFaultSourceInactive v0 v1 s) := by
  unfold execFaultSourceInactive
  extract_lets +onlyGivenNames x1
  have h1 : Keeps a x1 := by
    unfold x1
    exact atTime_keeps (by assumption)
  clear_value x1
  extract_lets +onlyGivenNames x2
  clear_value x2
  refine OutKeeps.ite ?_ ?_
  · exact OutKeeps.ok (by assumption)
  · extract_lets +onlyGivenNames x3
    have h3 : Keeps a x3 := by
      unfold x3
      exact setSource_keeps (by assumption)
    clear_value x3
    exact OutKeeps.ok (renewFaultN_keeps (startQuiet_keeps (by assumption)))

theorem execFaultNPulseEnd_keeps {a s : State} {v0} (h : Keeps a s) :
    OutKeeps a (@execFaultNPulseEnd v0 s) := by
  unfold execFaultNPulseEnd
  exact OutKeeps.ok (renewFaultN_keeps (atTime_keeps (by assumption)))

theorem execFaultSelfTestTurn_keeps {a s : State} {v0 v1} (h : Keeps a s) :
    OutKeeps a (@execFaultSelfTestTurn v0 v1 s) := by
  unfold execFaultSelfTestTurn
  extract_lets +onlyGivenNames x1
  have h1 : Keeps a x1 := by
    unfold x1
    exact atTime_keeps (by assumption)
  clear_value x1
  extract_lets +onlyGivenNames x2
  clear_value x2
  extract_lets +onlyGivenNames x3
  clear_value x3
  exact OutKeeps.ok (inject_keeps (setFault_keeps (by assumption)))

theorem ackMirror_keeps {a s : State} {v1} (h : Keeps a s) :
    Keeps a (@State.ackMirror s v1) := by
  unfold State.ackMirror
  extract_lets +onlyGivenNames x1
  clear_value x1
  extract_lets +onlyGivenNames x2
  clear_value x2
  extract_lets +onlyGivenNames x3
  clear_value x3
  extract_lets +onlyGivenNames x4
  have h4 : Keeps a x4 := by
    unfold x4
    exact setFault_keeps (by assumption)
  clear_value x4
  refine Keeps.foldl ?_ (fun y5 z5 h5 => ?_)
  · assumption
  · exact sendIn_keeps (by assumption)

theorem execMirrorLaneLockLost_keeps {a s : State} {v0 v1} (h : Keeps a s) :
    OutKeeps a (@execMirrorLaneLockLost v0 v1 s) := by
  unfold execMirrorLaneLockLost
  extract_lets +onlyGivenNames x1
  have h1 : Keeps a x1 := by
    unfold x1
    exact atTime_keeps (by assumption)
  clear_value x1
  extract_lets +onlyGivenNames x2
  clear_value x2
  extract_lets +onlyGivenNames x3
  have h3 : Keeps a x3 := by
    unfold x3
    exact setFault_keeps (by assumption)
  clear_value x3
  exact OutKeeps.ok (sourceOn_keeps (failBit_keeps (by assumption)))

theorem forget_keeps {a s : State} (h : Keeps a s) :
    Keeps a (@State.forget s) := by
  unfold State.forget
  refine Keeps.foldl ?_ (fun y1 z1 h1 => ?_)
  · exact setItems_keeps (by assumption)
  · exact setQueue_keeps (by assumption)

theorem takeRole_keeps {a s : State} (h : Keeps a s) :
    Keeps a (@State.takeRole s) := by
  unfold State.takeRole
  exact pairEnter_keeps (setn_keeps (by assumption))

theorem seekBeat_keeps {a s : State} {v1} (h : Keeps a s) :
    Keeps a (@State.seekBeat s v1) := by
  unfold State.seekBeat
  refine Keeps.ite ?_ ?_
  · exact setn_keeps (by assumption)
  · refine Keeps.ite ?_ ?_
    · exact pairEnter_keeps (forget_keeps (failBit_keeps (setn_keeps (by assumption))))
    · extract_lets +onlyGivenNames x1
      clear_value x1
      refine Keeps.ite ?_ ?_
      · exact takeRole_keeps (by assumption)
      · assumption

theorem loopsHeld_keeps {a s : State} {v1 v2} (h : Keeps a s) :
    Keeps a (@State.loopsHeld s v1 v2) := by
  unfold State.loopsHeld
  refine Keeps.foldl ?_ (fun y1 z1 h1 => ?_)
  · assumption
  · refine Keeps.ite ?_ ?_
    · exact setn_keeps (by assumption)
    · assumption

theorem takeover_keeps {a s : State} {v1} (h : Keeps a s) :
    Keeps a (@State.takeover s v1) := by
  unfold State.takeover
  extract_lets +onlyGivenNames x1
  clear_value x1
  extract_lets +onlyGivenNames x2
  have h2 : Keeps a x2 := by
    unfold x2
    exact setFault_keeps (by assumption)
  clear_value x2
  extract_lets +onlyGivenNames x3
  have h3 : Keeps a x3 := by
    unfold x3
    exact event_keeps (by assumption)
  clear_value x3
  exact loopsHeld_keeps (pairEnter_keeps (by assumption))

theorem partnerLost_keeps {a s : State} {v1} (h : Keeps a s) :
    Keeps a (@State.partnerLost s v1) := by
  unfold State.partnerLost
  refine Keeps.ite ?_ ?_
  · exact takeover_keeps (by assumption)
  · refine Keeps.ite ?_ ?_
    · exact pairEnter_keeps (by assumption)
    · refine Keeps.ite ?_ ?_
      · exact pairEnter_keeps (by assumption)
      · assumption

theorem testEncoder_keeps {a s : State} {v1} (h : Keeps a s) :
    Keeps a (@State.testEncoder s v1) := by
  unfold State.testEncoder
  extract_lets +onlyGivenNames x1
  clear_value x1
  extract_lets +onlyGivenNames x2
  have h2 : Keeps a x2 := by
    unfold x2
    exact seti_keeps (by assumption)
  clear_value x2
  refine Keeps.ite ?_ ?_
  · extract_lets +onlyGivenNames x3
    clear_value x3
    extract_lets +onlyGivenNames x4
    clear_value x4
    extract_lets +onlyGivenNames x5
    have h5 : Keeps a x5 := by
      unfold x5
      exact setFault_keeps (by assumption)
    clear_value x5
    refine Keeps.ite ?_ ?_
    · exact failBit_keeps (by assumption)
    · assumption
  · exact testBit_keeps (setFault_keeps (by assumption))

theorem beatTests_keeps {a s : State} {v1} (h : Keeps a s) :
    Keeps a (@State.beatTests s v1) := by
  unfold State.beatTests
  extract_lets +onlyGivenNames x1
  have h1 : Keeps a x1 := by
    unfold x1
    exact testBit_keeps (testBit_keeps (by assumption))
  clear_value x1
  extract_lets +onlyGivenNames x2
  have h2 : Keeps a x2 := by
    unfold x2
    refine Keeps.ite ?_ ?_
    · exact testEncoder_keeps (by assumption)
    · assumption
  clear_value x2
  exact testBit_keeps (testBit_keeps (by assumption))

theorem coverShadow_keeps {a s : State} {v1} (h : Keeps a s) :
    Keeps a (@State.coverShadow s v1) := by
  unfold State.coverShadow
  extract_lets +onlyGivenNames x1
  clear_value x1
  extract_lets +onlyGivenNames x2
  clear_value x2
  extract_lets +onlyGivenNames x3
  clear_value x3
  extract_lets +onlyGivenNames x4
  clear_value x4
  extract_lets +onlyGivenNames x5
  have h5 : Keeps a x5 := by
    unfold x5
    exact setFire_keeps (by assumption)
  clear_value x5
  extract_lets +onlyGivenNames x6
  clear_value x6
  extract_lets +onlyGivenNames x7
  have h7 : Keeps a x7 := by
    unfold x7
    refine Keeps.same (b := x5) rfl rfl rfl rfl rfl rfl rfl rfl rfl ?_
    assumption
  clear_value x7
  extract_lets +onlyGivenNames x8
  have h8 : Keeps a x8 := by
    unfold x8
    refine Keeps.foldl ?_ (fun y9 z9 h9 => ?_)
    · assumption
    · exact countFired_keeps (by assumption)
  clear_value x8
  refine Keeps.foldl ?_ (fun y10 z10 h10 => ?_)
  · assumption
  · extract_lets +onlyGivenNames x11
    have h11 : Keeps a x11 := by
      unfold x11
      exact bump_keeps (by assumption)
    clear_value x11
    refine Keeps.ite ?_ ?_
    · exact bump_keeps (by assumption)
    · exact bump_keeps (by assumption)

theorem beatState_keeps {a s : State} {v1} (h : Keeps a s) :
    Keeps a (@State.beatState s v1) := by
  unfold State.beatState
  extract_lets +onlyGivenNames x1
  clear_value x1
  refine Keeps.ite ?_ ?_
  · exact seekBeat_keeps (by assumption)
  · refine Keeps.ite ?_ ?_
    · exact pairEnter_keeps (by assumption)
    · refine Keeps.ite ?_ ?_
      · exact pairEnter_keeps (by assumption)
      · assumption

theorem execHeartbeatReceived_keeps {a s : State} {v0 v1} (h : Keeps a s) :
    OutKeeps a (@execHeartbeatReceived v0 v1 s) := by
  unfold execHeartbeatReceived
  extract_lets +onlyGivenNames x1
  have h1 : Keeps a x1 := by
    unfold x1
    exact atTime_keeps (by assumption)
  clear_value x1
  refine OutKeeps.ite ?_ ?_
  · exact OutKeeps.ok (by assumption)
  · extract_lets +onlyGivenNames x2
    clear_value x2
    extract_lets +onlyGivenNames x3
    have h3 : Keeps a x3 := by
      unfold x3
      exact setFault_keeps (by assumption)
    clear_value x3
    extract_lets +onlyGivenNames x4
    have h4 : Keeps a x4 := by
      unfold x4
      exact setv_keeps (by assumption)
    clear_value x4
    extract_lets +onlyGivenNames x5
    have h5 : Keeps a x5 := by
      unfold x5
      exact beatTests_keeps (ackMirror_keeps (by assumption))
    clear_value x5
    extract_lets +onlyGivenNames x6
    have h6 : Keeps a x6 := by
      unfold x6
      refine Keeps.ite ?_ ?_
      · exact coverShadow_keeps (by assumption)
      · assumption
    clear_value x6
    exact OutKeeps.ok (beatState_keeps (by assumption))

theorem testLink_keeps {a s : State} {v1 v2 v3} (h : Keeps a s) :
    Keeps a (@State.testLink s v1 v2 v3) := by
  unfold State.testLink
  refine Keeps.ite ?_ ?_
  · assumption
  · extract_lets +onlyGivenNames x1
    clear_value x1
    extract_lets +onlyGivenNames x2
    clear_value x2
    extract_lets +onlyGivenNames x3
    have h3 : Keeps a x3 := by
      unfold x3
      exact testBit_keeps (setn_keeps (by assumption))
    clear_value x3
    exact testBit_keeps (by assumption)

theorem execPartnerLossTimeout_keeps {a s : State} {v0} (h : Keeps a s) :
    OutKeeps a (@execPartnerLossTimeout v0 s) := by
  unfold execPartnerLossTimeout
  exact OutKeeps.ok (partnerLost_keeps (atTime_keeps (by assumption)))

theorem execPairSeekTimeout_keeps {a s : State} {v0} (h : Keeps a s) :
    OutKeeps a (@execPairSeekTimeout v0 s) := by
  unfold execPairSeekTimeout
  extract_lets +onlyGivenNames x1
  have h1 : Keeps a x1 := by
    unfold x1
    exact atTime_keeps (by assumption)
  clear_value x1
  refine OutKeeps.ite ?_ ?_
  · exact OutKeeps.ok (takeRole_keeps (by assumption))
  · exact OutKeeps.ok (by assumption)

theorem execPairFenceInHigh_keeps {a s : State} {v0} (h : Keeps a s) :
    OutKeeps a (@execPairFenceInHigh v0 s) := by
  unfold execPairFenceInHigh
  extract_lets +onlyGivenNames x1
  have h1 : Keeps a x1 := by
    unfold x1
    exact atTime_keeps (by assumption)
  clear_value x1
  extract_lets +onlyGivenNames x2
  clear_value x2
  extract_lets +onlyGivenNames x3
  have h3 : Keeps a x3 := by
    unfold x3
    exact pairOutputs_keeps (setFault_keeps (by assumption))
  clear_value x3
  refine OutKeeps.ite ?_ ?_
  · exact OutKeeps.ok (pairEnter_keeps (by assumption))
  · exact OutKeeps.ok (by assumption)

theorem superseded_keeps {a s : State} {v1 v2} (h : Keeps a s) :
    Keeps a (@State.superseded s v1 v2) := by
  unfold State.superseded
  extract_lets +onlyGivenNames x1
  clear_value x1
  extract_lets +onlyGivenNames x2
  clear_value x2
  extract_lets +onlyGivenNames x3
  clear_value x3
  extract_lets +onlyGivenNames x4
  have h4 : Keeps a x4 := by
    unfold x4
    exact setLink_keeps (by assumption)
  clear_value x4
  refine Keeps.ite ?_ ?_
  · exact pairEnter_keeps (by assumption)
  · assumption

theorem execBackStatus_keeps {a s : State} {v0 v1 v2} (h : Keeps a s) :
    OutKeeps a (@execBackStatus v0 v1 v2 s) := by
  unfold execBackStatus
  extract_lets +onlyGivenNames x1
  have h1 : Keeps a x1 := by
    unfold x1
    exact atTime_keeps (by assumption)
  clear_value x1
  extract_lets +onlyGivenNames x2
  clear_value x2
  refine OutKeeps.ite ?_ ?_
  · exact OutKeeps.ok (by assumption)
  · extract_lets +onlyGivenNames x3
    clear_value x3
    extract_lets +onlyGivenNames x4
    have h4 : Keeps a x4 := by
      unfold x4
      exact testLink_keeps (backStatus_keeps (by assumption))
    clear_value x4
    refine OutKeeps.ok ?_
    refine mirror_keeps ?_
    refine Keeps.ite ?_ ?_
    · exact setLink_keeps (by assumption)
    · exact superseded_keeps (by assumption)

theorem gapLines_keeps {a s : State} (h : Keeps a s) :
    Keeps a (@State.gapLines s) := by
  unfold State.gapLines
  extract_lets +onlyGivenNames x1
  clear_value x1
  extract_lets +onlyGivenNames x2
  have h2 : Keeps a x2 := by
    unfold x2
    exact setFire_keeps (by assumption)
  clear_value x2
  refine Keeps.same (b := x2) rfl rfl rfl rfl rfl rfl rfl rfl rfl ?_
  assumption

theorem gapFrames_keeps {a s : State} (h : Keeps a s) :
    Keeps a (@State.gapFrames s) := by
  unfold State.gapFrames
  refine Keeps.foldl ?_ (fun y1 z1 h1 => ?_)
  · assumption
  · refine Keeps.foldl ?_ (fun y2 z2 h2 => ?_)
    · assumption
    · exact camResult_keeps (modItem_keeps (by assumption))

theorem takeoverDone_keeps {a s : State} (h : Keeps a s) :
    Keeps a (@State.takeoverDone s) := by
  unfold State.takeoverDone
  extract_lets +onlyGivenNames x1
  clear_value x1
  extract_lets +onlyGivenNames x2
  clear_value x2
  extract_lets +onlyGivenNames x3
  clear_value x3
  extract_lets +onlyGivenNames x4
  clear_value x4
  extract_lets +onlyGivenNames x5
  have h5 : Keeps a x5 := by
    unfold x5
    exact setn_keeps (by assumption)
  clear_value x5
  extract_lets +onlyGivenNames x6
  have h6 : Keeps a x6 := by
    unfold x6
    exact loopsHeld_keeps (pairEnter_keeps (by assumption))
  clear_value x6
  extract_lets +onlyGivenNames x7
  have h7 : Keeps a x7 := by
    unfold x7
    exact gapLines_keeps (by assumption)
  clear_value x7
  extract_lets +onlyGivenNames x8
  have h8 : Keeps a x8 := by
    unfold x8
    refine Keeps.foldl ?_ (fun y9 z9 h9 => ?_)
    · assumption
    · exact dispose_keeps (by assumption)
  clear_value x8
  extract_lets +onlyGivenNames x10
  clear_value x10
  extract_lets +onlyGivenNames x11
  have h11 : Keeps a x11 := by
    unfold x11
    exact setFault_keeps (by assumption)
  clear_value x11
  extract_lets +onlyGivenNames x12
  have h12 : Keeps a x12 := by
    unfold x12
    refine Keeps.foldl ?_ (fun y13 z13 h13 => ?_)
    · assumption
    · exact bindTrigger_keeps (by assumption)
  clear_value x12
  extract_lets +onlyGivenNames x14
  have h14 : Keeps a x14 := by
    unfold x14
    exact gapFrames_keeps (by assumption)
  clear_value x14
  extract_lets +onlyGivenNames x15
  have h15 : Keeps a x15 := by
    unfold x15
    exact setn_keeps (inc32_keeps (by assumption))
  clear_value x15
  extract_lets +onlyGivenNames x16
  have h16 : Keeps a x16 := by
    unfold x16
    exact setn_keeps (setn_keeps (by assumption))
  clear_value x16
  exact event_keeps (by assumption)

theorem execHeartbeatSend_keeps {a s : State} {v0} (h : Keeps a s) :
    OutKeeps a (@execHeartbeatSend v0 s) := by
  unfold execHeartbeatSend
  extract_lets +onlyGivenNames x1
  have h1 : Keeps a x1 := by
    unfold x1
    exact atTime_keeps (by assumption)
  clear_value x1
  refine OutKeeps.ite ?_ ?_
  · exact OutKeeps.ok (by assumption)
  · extract_lets +onlyGivenNames x2
    have h2 : Keeps a x2 := by
      unfold x2
      exact beat_keeps (by assumption)
    clear_value x2
    refine OutKeeps.ite ?_ ?_
    · exact OutKeeps.ok (pairEnter_keeps (by assumption))
    · exact OutKeeps.ok (by assumption)

theorem execRelinquishReceived_keeps {a s : State} {v0 v1} (h : Keeps a s) :
    OutKeeps a (@execRelinquishReceived v0 v1 s) := by
  unfold execRelinquishReceived
  extract_lets +onlyGivenNames x1
  have h1 : Keeps a x1 := by
    unfold x1
    exact atTime_keeps (by assumption)
  clear_value x1
  refine OutKeeps.ite ?_ ?_
  · exact OutKeeps.ok (by assumption)
  · extract_lets +onlyGivenNames x2
    clear_value x2
    extract_lets +onlyGivenNames x3
    have h3 : Keeps a x3 := by
      unfold x3
      exact setFault_keeps (by assumption)
    clear_value x3
    extract_lets +onlyGivenNames x4
    have h4 : Keeps a x4 := by
      unfold x4
      exact ackMirror_keeps (by assumption)
    clear_value x4
    extract_lets +onlyGivenNames x5
    have h5 : Keeps a x5 := by
      unfold x5
      refine Keeps.ite ?_ ?_
      · exact coverShadow_keeps (by assumption)
      · assumption
    clear_value x5
    exact OutKeeps.ok (partnerLost_keeps (by assumption))

theorem execTakeoverComplete_keeps {a s : State} {v0} (h : Keeps a s) :
    OutKeeps a (@execTakeoverComplete v0 s) := by
  unfold execTakeoverComplete
  extract_lets +onlyGivenNames x1
  have h1 : Keeps a x1 := by
    unfold x1
    exact moveX_keeps (atTime_keeps (by assumption))
  clear_value x1
  refine OutKeeps.ite ?_ ?_
  · exact OutKeeps.ok (takeoverDone_keeps (by assumption))
  · exact OutKeeps.ok (by assumption)

theorem execPairFenceInLow_keeps {a s : State} {v0} (h : Keeps a s) :
    OutKeeps a (@execPairFenceInLow v0 s) := by
  unfold execPairFenceInLow
  extract_lets +onlyGivenNames x1
  have h1 : Keeps a x1 := by
    unfold x1
    exact atTime_keeps (by assumption)
  clear_value x1
  extract_lets +onlyGivenNames x2
  clear_value x2
  extract_lets +onlyGivenNames x3
  have h3 : Keeps a x3 := by
    unfold x3
    exact setFault_keeps (by assumption)
  clear_value x3
  refine OutKeeps.ite ?_ ?_
  · exact OutKeeps.ok (pairOutputs_keeps (by assumption))
  · exact OutKeeps.ok (pairEnter_keeps (by assumption))

theorem rebaseTo_keeps {a s : State} {v1 v2} (h : Keeps a s) :
    Keeps a (@State.rebaseTo s v1 v2) := by
  unfold State.rebaseTo
  extract_lets +onlyGivenNames x1
  clear_value x1
  extract_lets +onlyGivenNames x2
  have h2 : Keeps a x2 := by
    unfold x2
    exact setEnc_keeps (by assumption)
  clear_value x2
  exact setWeb_keeps (by assumption)

theorem execSyncComplete_keeps {a s : State} {v0} (h : Keeps a s) :
    OutKeeps a (@execSyncComplete v0 s) := by
  unfold execSyncComplete
  extract_lets +onlyGivenNames x1
  have h1 : Keeps a x1 := by
    unfold x1
    exact atTime_keeps (by assumption)
  clear_value x1
  refine OutKeeps.ite ?_ ?_
  · exact OutKeeps.ok (by assumption)
  · extract_lets +onlyGivenNames x2
    have h2 : Keeps a x2 := by
      unfold x2
      exact setn_keeps (by assumption)
    clear_value x2
    extract_lets +onlyGivenNames x3
    have h3 : Keeps a x3 := by
      unfold x3
      exact renewReady_keeps (setn_keeps (by assumption))
    clear_value x3
    refine OutKeeps.ite ?_ ?_
    · exact OutKeeps.ok (by assumption)
    · extract_lets +onlyGivenNames x4
      have h4 : Keeps a x4 := by
        unfold x4
        exact rebaseTo_keeps (by assumption)
      clear_value x4
      extract_lets +onlyGivenNames x5
      clear_value x5
      extract_lets +onlyGivenNames x6
      have h6 : Keeps a x6 := by
        unfold x6
        exact setFault_keeps (setn_keeps (by assumption))
      clear_value x6
      exact OutKeeps.ok (pairEnter_keeps (by assumption))

theorem execMirrorLaneLockRegained_keeps {a s : State} {v0 v1} (h : Keeps a s) :
    OutKeeps a (@execMirrorLaneLockRegained v0 v1 s) := by
  unfold execMirrorLaneLockRegained
  extract_lets +onlyGivenNames x1
  have h1 : Keeps a x1 := by
    unfold x1
    exact atTime_keeps (by assumption)
  clear_value x1
  exact OutKeeps.ok (renewReady_keeps (setFault_keeps (by assumption)))

theorem execTriggerCounterpartTimeout_keeps {a s : State} {v0} (h : Keeps a s) :
    OutKeeps a (@execTriggerCounterpartTimeout v0 s) := by
  unfold execTriggerCounterpartTimeout
  extract_lets +onlyGivenNames x1
  have h1 : Keeps a x1 := by
    unfold x1
    exact atTime_keeps (by assumption)
  clear_value x1
  split
  · exact OutKeeps.ok (by assumption)
  · extract_lets +onlyGivenNames x2
    clear_value x2
    extract_lets +onlyGivenNames x3
    have h3 : Keeps a x3 := by
      unfold x3
      exact inc32_keeps (setFault_keeps (by assumption))
    clear_value x3
    exact OutKeeps.ok (failBit_keeps (by assumption))

end Sys2Proof.Machine
end

