-- ==== Sys2Proof/Laws/KeepsE.lean ====
section
/-! SUPPORT. What the operations of these files keep, by `Keeps`: Mgmt, OdRead, Effects, Accept, Requests, Boot,
CamWrites, Bulk, Commands. -/

set_option Elab.async false

namespace Sys2Proof.Machine

theorem setMgmt_keeps {a s : State} {v1 : MgmtSt} (hf : s.mgmt.fuses ≤ v1.fuses) (h : Keeps a s) :
    Keeps a (@State.setMgmt s v1) :=
  Keeps.trans h ⟨rfl, Nat.le_refl _, Nat.le_refl _, Nat.le_refl _, hf, Nat.le_refl _, id, id⟩

theorem renewUpdate_keeps {a s : State} (h : Keeps a s) :
    Keeps a (@State.renewUpdate s) := by
  unfold State.renewUpdate
  extract_lets +onlyGivenNames x1
  clear_value x1
  refine Keeps.foldl ?_ (fun y2 z2 h2 => ?_)
  · assumption
  · exact setn_keeps (by assumption)

theorem writeDir_keeps {a s : State} {v1} (h : Keeps a s) :
    Keeps a (@State.writeDir s v1) := by
  unfold State.writeDir
  extract_lets +onlyGivenNames x1
  clear_value x1
  extract_lets +onlyGivenNames x2
  clear_value x2
  refine renewUpdate_keeps ?_
  refine setMgmt_keeps (Nat.le_refl _) ?_
  assumption

theorem confirm_keeps {a s : State} (h : Keeps a s) :
    Keeps a (@State.confirm s) := by
  unfold State.confirm
  extract_lets +onlyGivenNames x1
  clear_value x1
  extract_lets +onlyGivenNames x2
  clear_value x2
  refine Keeps.ite ?_ ?_
  · assumption
  · extract_lets +onlyGivenNames x3
    clear_value x3
    extract_lets +onlyGivenNames x4
    clear_value x4
    extract_lets +onlyGivenNames x5
    have h5 : Keeps a x5 := by
      unfold x5
      exact writeDir_keeps (by assumption)
    clear_value x5
    refine renewUpdate_keeps ?_
    refine setMgmt_keeps (Nat.le_max_left _ _) ?_
    assumption

theorem integEnter_keeps {a s : State} {v1 v2} (h : Keeps a s) :
    Keeps a (@State.integEnter s v1 v2) := by
  unfold State.integEnter
  exact setn_keeps (setn_keeps (by assumption))

theorem integStart_keeps {a s : State} (h : Keeps a s) :
    Keeps a (@State.integStart s) := by
  unfold State.integStart
  refine Keeps.ite ?_ ?_
  · assumption
  · exact integEnter_keeps (by assumption)

theorem coreReset_keeps {a s : State} (h : Keeps a s) :
    Keeps a (@State.coreReset s) := by
  have h1 : Keeps a ((List.range 8).foldl (fun a c =>
      if (a.dma (c + 8)).state = 1 then a.setDma (c + 8) { a.dma (c + 8) with stopReq := true } else a) s) :=
    Keeps.foldl h fun _ _ h => Keeps.ite (setDma_keeps h) h
  have h2 : ∀ {t}, Keeps a t →
      Keeps a ((List.range 4).foldl (fun a i => (a.abortQueue i 1 a.freeVal).freeNext) t) := fun h =>
    Keeps.foldl h fun _ _ h => freeNext_keeps (abortQueue_keeps h)
  have h3 : ∀ {t : State}, Keeps a t → Keeps a (t.setMgmt
      { t.mgmt with declared := [], scBusy := false, scReady := false, timerIrq := false, timerCmp := 0, locals := [] }) :=
    fun h => setMgmt_keeps (Nat.le_refl _) h
  unfold State.coreReset
  exact setn_keeps (h3 (h2 h1))

theorem integStop_keeps {a s : State} (h : Keeps a s) :
    Keeps a (@State.integStop s) := by
  unfold State.integStop
  exact integEnter_keeps (coreReset_keeps (by assumption))

theorem integRun_keeps {a s : State} {v1} (h : Keeps a s) :
    Keeps a (@State.integRun s v1) := by
  unfold State.integRun
  refine Keeps.ite ?_ ?_
  · exact integStart_keeps (by assumption)
  · exact integStop_keeps (by assumption)

theorem updateFail_keeps {a s : State} {v1 v2} (h : Keeps a s) :
    Keeps a (@State.updateFail s v1 v2) := by
  unfold State.updateFail
  extract_lets +onlyGivenNames x1
  extract_lets +onlyGivenNames x2
  have h2 : Keeps a x2 := by
    unfold x2
    refine setMgmt_keeps (Nat.le_refl _) ?_
    assumption
  clear_value x2
  extract_lets +onlyGivenNames x3
  have h3 : Keeps a x3 := by
    unfold x3
    exact setn_keeps (setn_keeps (by assumption))
  clear_value x3
  exact sendIn_keeps (by assumption)

theorem updateStart_keeps {a s : State} {v1} (h : Keeps a s) :
    Keeps a (@State.updateStart s v1) := by
  unfold State.updateStart
  extract_lets +onlyGivenNames x1
  clear_value x1
  refine Keeps.ite ?_ ?_
  · exact updateFail_keeps (by assumption)
  · refine Keeps.ite ?_ ?_
    · exact updateFail_keeps (by assumption)
    · extract_lets +onlyGivenNames x2
      extract_lets +onlyGivenNames x3
      have h3 : Keeps a x3 := by
        unfold x3
        refine setMgmt_keeps (Nat.le_refl _) ?_
        assumption
      clear_value x3
      extract_lets +onlyGivenNames x4
      have h4 : Keeps a x4 := by
        unfold x4
        exact setn_keeps (setn_keeps (by assumption))
      clear_value x4
      extract_lets +onlyGivenNames x5
      have h5 : Keeps a x5 := by
        unfold x5
        exact setn_keeps (by assumption)
      clear_value x5
      exact writeDir_keeps (by assumption)

theorem execIntegImageLoaded_keeps {a s : State} {v0} (h : Keeps a s) :
    OutKeeps a (@execIntegImageLoaded v0 s) := by
  unfold execIntegImageLoaded
  extract_lets +onlyGivenNames x1
  have h1 : Keeps a x1 := by
    unfold x1
    exact atTime_keeps (by assumption)
  clear_value x1
  refine OutKeeps.ite ?_ ?_
  · exact OutKeeps.ok (by assumption)
  · extract_lets +onlyGivenNames x2
    clear_value x2
    refine OutKeeps.ite ?_ ?_
    · exact OutKeeps.ok (integEnter_keeps (by assumption))
    · extract_lets +onlyGivenNames x3
      clear_value x3
      extract_lets +onlyGivenNames x4
      have h4 : Keeps a x4 := by
        unfold x4
        refine put?_keeps ?_
        assumption
      clear_value x4
      extract_lets +onlyGivenNames x5
      have h5 : Keeps a x5 := by
        unfold x5
        exact setn_keeps (by assumption)
      clear_value x5
      refine OutKeeps.ok ?_
      refine integEnter_keeps ?_
      refine setMgmt_keeps (Nat.le_refl _) ?_
      assumption

theorem execScRespRead_keeps {a s : State} {v0} (h : Keeps a s) :
    OutKeeps a (@execScRespRead v0 s) := by
  unfold execScRespRead
  extract_lets +onlyGivenNames x1
  have h1 : Keeps a x1 := by
    unfold x1
    exact atTime_keeps (by assumption)
  clear_value x1
  refine OutKeeps.ok ?_
  refine setMgmt_keeps (Nat.le_refl _) ?_
  assumption

theorem execAutoConfirmExpiry_keeps {a s : State} {v0} (h : Keeps a s) :
    OutKeeps a (@execAutoConfirmExpiry v0 s) := by
  unfold execAutoConfirmExpiry
  extract_lets +onlyGivenNames x1
  have h1 : Keeps a x1 := by
    unfold x1
    exact atTime_keeps (by assumption)
  clear_value x1
  refine OutKeeps.ite ?_ ?_
  · exact OutKeeps.ok (confirm_keeps (by assumption))
  · exact OutKeeps.ok (by assumption)

theorem execWatchdogExpiry_keeps {a s : State} {v0 v1} (h : Keeps a s) :
    OutKeeps a (@execWatchdogExpiry v0 v1 s) := by
  unfold execWatchdogExpiry
  extract_lets +onlyGivenNames x1
  have h1 : Keeps a x1 := by
    unfold x1
    exact atTime_keeps (by assumption)
  clear_value x1
  refine OutKeeps.ite ?_ ?_
  · exact OutKeeps.ok (resetSequence_keeps (sourceOn_keeps (by assumption)))
  · exact OutKeeps.ok (by assumption)

theorem execWdtKick_keeps {a s : State} {v0 v1} (h : Keeps a s) :
    OutKeeps a (@execWdtKick v0 v1 s) := by
  unfold execWdtKick
  extract_lets +onlyGivenNames x1
  have h1 : Keeps a x1 := by
    unfold x1
    exact atTime_keeps (by assumption)
  clear_value x1
  refine OutKeeps.ite ?_ ?_
  · refine OutKeeps.ok ?_
    refine setMgmt_keeps (Nat.le_refl _) ?_
    assumption
  · exact OutKeeps.ok (by assumption)

theorem execFirmwareImageWritten_keeps {a s : State} {v0 v1} (h : Keeps a s) :
    OutKeeps a (@execFirmwareImageWritten v0 v1 s) := by
  unfold execFirmwareImageWritten
  extract_lets +onlyGivenNames x1
  have h1 : Keeps a x1 := by
    unfold x1
    exact atTime_keeps (by assumption)
  clear_value x1
  split
  · exact OutKeeps.ok (by assumption)
  · refine OutKeeps.ite ?_ ?_
    · exact OutKeeps.ok (updateFail_keeps (by assumption))
    · extract_lets +onlyGivenNames x2
      clear_value x2
      extract_lets +onlyGivenNames x3
      extract_lets +onlyGivenNames x4
      have h4 : Keeps a x4 := by
        unfold x4
        refine setMgmt_keeps (Nat.le_refl _) ?_
        assumption
      clear_value x4
      extract_lets +onlyGivenNames x5
      clear_value x5
      extract_lets +onlyGivenNames x6
      clear_value x6
      extract_lets +onlyGivenNames x7
      have h7 : Keeps a x7 := by
        unfold x7
        exact writeDir_keeps (by assumption)
      clear_value x7
      extract_lets +onlyGivenNames x8
      have h8 : Keeps a x8 := by
        unfold x8
        exact setn_keeps (setn_keeps (by assumption))
      clear_value x8
      extract_lets +onlyGivenNames x9
      have h9 : Keeps a x9 := by
        unfold x9
        refine Keeps.ite ?_ ?_
        · exact modSess_keeps (by assumption)
        · assumption
      clear_value x9
      extract_lets +onlyGivenNames x10
      have h10 : Keeps a x10 := by
        unfold x10
        exact sendIn_keeps (by assumption)
      clear_value x10
      refine OutKeeps.ok ?_
      refine Keeps.ite ?_ ?_
      · exact bootStart_keeps (restart_keeps (by assumption))
      · assumption

theorem execIntegWatchdogExpiry_keeps {a s : State} {v0} (h : Keeps a s) :
    OutKeeps a (@execIntegWatchdogExpiry v0 s) := by
  unfold execIntegWatchdogExpiry
  extract_lets +onlyGivenNames x1
  have h1 : Keeps a x1 := by
    unfold x1
    exact atTime_keeps (by assumption)
  clear_value x1
  extract_lets +onlyGivenNames x2
  clear_value x2
  refine OutKeeps.ite ?_ ?_
  · exact OutKeeps.ok (by assumption)
  · exact OutKeeps.ok (integEnter_keeps (coreReset_keeps (sourceOn_keeps (by assumption))))

theorem execIntegRestartDelayExpiry_keeps {a s : State} {v0} (h : Keeps a s) :
    OutKeeps a (@execIntegRestartDelayExpiry v0 s) := by
  unfold execIntegRestartDelayExpiry
  extract_lets +onlyGivenNames x1
  have h1 : Keeps a x1 := by
    unfold x1
    exact atTime_keeps (by assumption)
  clear_value x1
  refine OutKeeps.ite ?_ ?_
  · exact OutKeeps.ok (integStart_keeps (inc32_keeps (by assumption)))
  · exact OutKeeps.ok (by assumption)

theorem execIntegTimerInterrupt_keeps {a s : State} {v0} (h : Keeps a s) :
    OutKeeps a (@execIntegTimerInterrupt v0 s) := by
  unfold execIntegTimerInterrupt
  extract_lets +onlyGivenNames x1
  have h1 : Keeps a x1 := by
    unfold x1
    exact atTime_keeps (by assumption)
  clear_value x1
  refine OutKeeps.ite ?_ ?_
  · refine OutKeeps.ok ?_
    refine setMgmt_keeps (Nat.le_refl _) ?_
    assumption
  · exact OutKeeps.ok (by assumption)

theorem setLocal_keeps {a s : State} {v1 v2 v3} (h : Keeps a s) :
    Keeps a (@State.setLocal s v1 v2 v3) := by
  unfold State.setLocal
  refine Keeps.ite ?_ ?_
  · exact modSess_keeps (by assumption)
  · refine setMgmt_keeps (Nat.le_refl _) ?_
    assumption

theorem readOne_keeps {a s : State} {v1 v2 v3 v4} (h : Keeps a s) :
    Keeps a (@State.readOne s v1 v2 v3 v4).1 := by
  unfold State.readOne
  extract_lets +onlyGivenNames x1
  clear_value x1
  split
  · dsimp only
    assumption
  · split
    · dsimp only
      assumption
    · extract_lets +onlyGivenNames x2
      clear_value x2
      dsimp only
      refine Keeps.ite ?_ ?_
      · exact freeNext_keeps (by assumption)
      · assumption

theorem logRelease_keeps {a s : State} {v1 v2} (h : Keeps a s) :
    Keeps a (@State.logRelease s v1 v2) := by
  unfold State.logRelease
  extract_lets +onlyGivenNames x1
  extract_lets +onlyGivenNames x2
  have h2 : Keeps a x2 := by
    unfold x2
    refine Keeps.same (b := s) rfl rfl rfl rfl rfl rfl rfl rfl rfl ?_
    assumption
  clear_value x2
  exact logKind_keeps (by assumption)

theorem trackerStart_keeps {a s : State} (h : Keeps a s) :
    Keeps a (@State.trackerStart s) := by
  unfold State.trackerStart
  extract_lets +onlyGivenNames x1
  clear_value x1
  extract_lets +onlyGivenNames x2
  clear_value x2
  extract_lets +onlyGivenNames x3
  have h3 : Keeps a x3 := by
    unfold x3
    exact setWeb_keeps (by assumption)
  clear_value x3
  extract_lets +onlyGivenNames x4
  have h4 : Keeps a x4 := by
    unfold x4
    refine Keeps.foldl ?_ (fun y5 z5 h5 => ?_)
    · assumption
    · extract_lets +onlyGivenNames x6
      clear_value x6
      extract_lets +onlyGivenNames x7
      clear_value x7
      extract_lets +onlyGivenNames x8
      have h8 : Keeps a x8 := by
        unfold x8
        exact setGrid_keeps (by assumption)
      clear_value x8
      extract_lets +onlyGivenNames x9
      have h9 : Keeps a x9 := by
        unfold x9
        exact seti_keeps (by assumption)
      clear_value x9
      refine Keeps.ite ?_ ?_
      · exact seti_keeps (by assumption)
      · assumption
  clear_value x4
  extract_lets +onlyGivenNames x10
  clear_value x10
  extract_lets +onlyGivenNames x11
  have h11 : Keeps a x11 := by
    unfold x11
    exact setFire_keeps (by assumption)
  clear_value x11
  extract_lets +onlyGivenNames x12
  have h12 : Keeps a x12 := by
    unfold x12
    refine Keeps.foldl ?_ (fun y13 z13 h13 => ?_)
    · assumption
    · exact setUnit_keeps (by assumption)
  clear_value x12
  exact enter_keeps (by assumption)

theorem trackerCheck_keeps {a s : State} (h : Keeps a s) :
    Keeps a (@State.trackerCheck s) := by
  unfold State.trackerCheck
  refine Keeps.ite ?_ ?_
  · refine Keeps.ite ?_ ?_
    · exact trackerStart_keeps (by assumption)
    · assumption
  · refine Keeps.ite ?_ ?_
    · exact enter_keeps (by assumption)
    · assumption

theorem encoderSet_keeps {a s : State} {v1 v2 v3 v4} (h : Keeps a s) :
    Keeps a (@State.encoderSet s v1 v2 v3 v4) := by
  unfold State.encoderSet
  extract_lets +onlyGivenNames x1
  clear_value x1
  extract_lets +onlyGivenNames x2
  have h2 : Keeps a x2 := by
    unfold x2
    refine Keeps.ite ?_ ?_
    · exact setEnc_keeps (by assumption)
    · assumption
  clear_value x2
  extract_lets +onlyGivenNames x3
  have h3 : Keeps a x3 := by
    unfold x3
    refine Keeps.ite ?_ ?_
    · exact setn_keeps (setn_keeps (by assumption))
    · assumption
  clear_value x3
  extract_lets +onlyGivenNames x4
  clear_value x4
  extract_lets +onlyGivenNames x5
  have h5 : Keeps a x5 := by
    unfold x5
    exact setEnc_keeps (by assumption)
  clear_value x5
  exact trackerCheck_keeps (by assumption)

theorem planesSet_keeps {a s : State} {v1} (h : Keeps a s) :
    Keeps a (@State.planesSet s v1) := by
  unfold State.planesSet
  refine advise_keeps ?_
  refine lookCheck_keeps ?_
  refine Keeps.foldl ?_ (fun y1 z1 h1 => ?_)
  · assumption
  · exact refreshPlane_keeps (by assumption)

theorem planeSet_keeps {a s : State} {v1} (h : Keeps a s) :
    Keeps a (@State.planeSet s v1) := by
  unfold State.planeSet
  extract_lets +onlyGivenNames x1
  have h1 : Keeps a x1 := by
    unfold x1
    exact planesSet_keeps (by assumption)
  clear_value x1
  refine Keeps.foldl ?_ (fun y2 z2 h2 => ?_)
  · assumption
  · refine Keeps.ite ?_ ?_
    · exact identify_keeps (by assumption)
    · assumption

theorem laneSet_keeps {a s : State} {v1 v2 v3} (h : Keeps a s) :
    Keeps a (@State.laneSet s v1 v2 v3) := by
  unfold State.laneSet
  refine Keeps.ite ?_ ?_
  · refine Keeps.ite ?_ ?_
    · exact laneFlush_keeps (by assumption)
    · assumption
  · refine Keeps.ite ?_ ?_
    · exact nextRecordSet_keeps (by assumption)
    · exact planesSet_keeps (noteLow_keeps (by assumption))

theorem printSet_keeps {a s : State} {v1 v2 v3} (h : Keeps a s) :
    Keeps a (@State.printSet s v1 v2 v3) := by
  unfold State.printSet
  extract_lets +onlyGivenNames x1
  clear_value x1
  extract_lets +onlyGivenNames x2
  clear_value x2
  refine Keeps.ite ?_ ?_
  · exact encoderSet_keeps (by assumption)
  · refine Keeps.ite ?_ ?_
    · exact trackerCheck_keeps (by assumption)
    · refine Keeps.ite ?_ ?_
      · exact planeSet_keeps (by assumption)
      · refine Keeps.ite ?_ ?_
        · exact advise_keeps (by assumption)
        · refine Keeps.ite ?_ ?_
          · exact laneSet_keeps (by assumption)
          · refine Keeps.ite ?_ ?_
            · refine Keeps.ite ?_ ?_
              · exact ledgerReset_keeps (by assumption)
              · assumption
            · refine Keeps.ite ?_ ?_
              · refine Keeps.foldl ?_ (fun y3 z3 h3 => ?_)
                · assumption
                · exact preResolve_keeps (by assumption)
              · refine Keeps.ite ?_ ?_
                · extract_lets +onlyGivenNames x4
                  clear_value x4
                  extract_lets +onlyGivenNames x5
                  have h5 : Keeps a x5 := by
                    unfold x5
                    refine Keeps.ite ?_ ?_
                    · exact setn_keeps (by assumption)
                    · assumption
                  clear_value x5
                  exact lookCheck_keeps (by assumption)
                · refine Keeps.ite ?_ ?_
                  · exact deleteRes_keeps (by assumption)
                  · refine Keeps.ite ?_ ?_
                    · refine Keeps.ite ?_ ?_
                      · assumption
                      · exact deleteRes_keeps (by assumption)
                    · refine Keeps.ite ?_ ?_
                      · refine Keeps.ite ?_ ?_
                        · exact counterWritten_keeps (by assumption)
                        · assumption
                      · assumption

theorem gateSet_keeps {a s : State} {v1} (h : Keeps a s) :
    Keeps a (@State.gateSet s v1) := by
  unfold State.gateSet
  extract_lets +onlyGivenNames x1
  have h1 : Keeps a x1 := by
    unfold x1
    refine Keeps.ite ?_ ?_
    · exact setn_keeps (setb_keeps (by assumption))
    · assumption
  clear_value x1
  exact planesSet_keeps (by assumption)

theorem linkSet_keeps {a s : State} {v1} (h : Keeps a s) :
    Keeps a (@State.linkSet s v1) := by
  unfold State.linkSet
  refine Keeps.ite ?_ ?_
  · refine Keeps.ite ?_ ?_
    · exact setn_keeps (setLinkState_keeps (by assumption))
    · assumption
  · exact setLinkState_keeps (setLink_keeps (by assumption))

theorem waveSet_keeps {a s : State} {v1} (h : Keeps a s) :
    Keeps a (@State.waveSet s v1) := by
  unfold State.waveSet
  extract_lets +onlyGivenNames x1
  clear_value x1
  extract_lets +onlyGivenNames x2
  clear_value x2
  extract_lets +onlyGivenNames x3
  have h3 : Keeps a x3 := by
    unfold x3
    exact setn_keeps (by assumption)
  clear_value x3
  extract_lets +onlyGivenNames x4
  have h4 : Keeps a x4 := by
    unfold x4
    refine Keeps.foldl ?_ (fun y5 z5 h5 => ?_)
    · assumption
    · extract_lets +onlyGivenNames x6
      clear_value x6
      extract_lets +onlyGivenNames x7
      clear_value x7
      refine Keeps.ite ?_ ?_
      · exact setLink_keeps (by assumption)
      · exact setLink_keeps (by assumption)
  clear_value x4
  exact planeSet_keeps (by assumption)

theorem fireSet_keeps {a s : State} {v1 v2} (h : Keeps a s) :
    Keeps a (@State.fireSet s v1 v2) := by
  unfold State.fireSet
  extract_lets +onlyGivenNames x1
  clear_value x1
  refine Keeps.ite ?_ ?_
  · exact planeSet_keeps (by assumption)
  · refine Keeps.ite ?_ ?_
    · exact gateSet_keeps (by assumption)
    · refine Keeps.ite ?_ ?_
      · refine Keeps.ite ?_ ?_
        · exact resetChannel_keeps (by assumption)
        · assumption
      · refine Keeps.ite ?_ ?_
        · exact planesSet_keeps (by assumption)
        · refine Keeps.ite ?_ ?_
          · refine Keeps.ite ?_ ?_
            · exact linkSet_keeps (by assumption)
            · exact planesSet_keeps (by assumption)
          · refine Keeps.ite ?_ ?_
            · exact waveSet_keeps (by assumption)
            · assumption

theorem sensorRead_keeps {a s : State} {v1 v2 v3} (h : Keeps a s) :
    Keeps a (@State.sensorRead s v1 v2 v3) := by
  unfold State.sensorRead
  extract_lets +onlyGivenNames x1
  clear_value x1
  extract_lets +onlyGivenNames x2
  clear_value x2
  extract_lets +onlyGivenNames x3
  have h3 : Keeps a x3 := by
    unfold x3
    refine Keeps.ite ?_ ?_
    · exact freeNext_keeps (by assumption)
    · assumption
  clear_value x3
  extract_lets +onlyGivenNames x4
  clear_value x4
  exact setn_keeps (setCam_keeps (by assumption))

theorem driveSet_keeps {a s : State} {v1 v2 v3} (h : Keeps a s) :
    Keeps a (@State.driveSet s v1 v2 v3) := by
  unfold State.driveSet
  extract_lets +onlyGivenNames x1
  clear_value x1
  extract_lets +onlyGivenNames x2
  clear_value x2
  refine Keeps.ite ?_ ?_
  · exact mapEntryWrite_keeps (by assumption)
  · refine Keeps.ite ?_ ?_
    · refine Keeps.ite ?_ ?_
      · exact mapReset_keeps (by assumption)
      · assumption
    · refine Keeps.ite ?_ ?_
      · refine Keeps.ite ?_ ?_
        · exact portWritten_keeps (by assumption)
        · exact refreshPort_keeps (by assumption)
      · refine Keeps.ite ?_ ?_
        · refine Keeps.ite ?_ ?_
          · exact sensorRead_keeps (by assumption)
          · assumption
        · refine Keeps.ite ?_ ?_
          · exact refreshPort_keeps (by assumption)
          · refine Keeps.ite ?_ ?_
            · assumption
            · refine Keeps.ite ?_ ?_
              · exact advise_keeps (lookCheck_keeps (unitConfigured_keeps (by assumption)))
              · refine Keeps.ite ?_ ?_
                · refine Keeps.ite ?_ ?_
                  · exact beamReset_keeps (by assumption)
                  · assumption
                · refine Keeps.ite ?_ ?_
                  · refine Keeps.ite ?_ ?_
                    · exact axisEnabled_keeps (by assumption)
                    · assumption
                  · refine Keeps.ite ?_ ?_
                    · refine Keeps.ite ?_ ?_
                      · exact loopEnabled_keeps (by assumption)
                      · assumption
                    · assumption

theorem faultSet_keeps {a s : State} {v1 v2 v3} (h : Keeps a s) :
    Keeps a (@State.faultSet s v1 v2 v3) := by
  unfold State.faultSet
  extract_lets +onlyGivenNames x1
  clear_value x1
  extract_lets +onlyGivenNames x2
  clear_value x2
  refine Keeps.ite ?_ ?_
  · refine Keeps.ite ?_ ?_
    · exact safeLeave_keeps (by assumption)
    · assumption
  · refine Keeps.ite ?_ ?_
    · exact renewFaultN_keeps (by assumption)
    · refine Keeps.ite ?_ ?_
      · exact clearFault_keeps (by assumption)
      · refine Keeps.ite ?_ ?_
        · split
          · exact inject_keeps (by assumption)
          · exact freeNext_keeps (inject_keeps (by assumption))
        · refine Keeps.ite ?_ ?_
          · exact writeActions_keeps (by assumption)
          · refine Keeps.ite ?_ ?_
            · refine Keeps.ite ?_ ?_
              · exact setn_keeps (by assumption)
              · assumption
            · refine Keeps.ite ?_ ?_
              · refine Keeps.ite ?_ ?_
                · exact relinquish_keeps (by assumption)
                · assumption
              · assumption

theorem pixSet_keeps {a s : State} (h : Keeps a s) :
    Keeps a (@State.pixSet s) := by
  unfold State.pixSet
  refine Keeps.ite ?_ ?_
  · refine Keeps.ite ?_ ?_
    · exact relock_keeps (by assumption)
    · assumption
  · extract_lets +onlyGivenNames x1
    clear_value x1
    extract_lets +onlyGivenNames x2
    have h2 : Keeps a x2 := by
      unfold x2
      exact setn_keeps (setPll_keeps (by assumption))
    clear_value x2
    exact pllDone_keeps (pixelClockLost_keeps (by assumption))

theorem powerSet_keeps {a s : State} {v1 v2} (h : Keeps a s) :
    Keeps a (@State.powerSet s v1 v2) := by
  unfold State.powerSet
  extract_lets +onlyGivenNames x1
  clear_value x1
  extract_lets +onlyGivenNames x2
  clear_value x2
  refine Keeps.ite ?_ ?_
  · refine Keeps.ite ?_ ?_
    · exact offRequest_keeps (by assumption)
    · assumption
  · refine Keeps.ite ?_ ?_
    · refine Keeps.ite ?_ ?_
      · exact faultClear_keeps (by assumption)
      · assumption
    · refine Keeps.ite ?_ ?_
      · refine Keeps.ite ?_ ?_
        · assumption
        · refine Keeps.ite ?_ ?_
          · exact domainOn_keeps (by assumption)
          · exact domainOff_keeps (by assumption)
      · refine Keeps.ite ?_ ?_
        · exact pixSet_keeps (by assumption)
        · refine Keeps.ite ?_ ?_
          · refine Keeps.ite ?_ ?_
            · exact freezeClear_keeps (by assumption)
            · assumption
          · refine Keeps.ite ?_ ?_
            · refine Keeps.ite ?_ ?_
              · exact setb_keeps (by assumption)
              · assumption
            · refine Keeps.ite ?_ ?_
              · extract_lets +onlyGivenNames x3
                clear_value x3
                refine Keeps.ite ?_ ?_
                · refine Keeps.ite ?_ ?_
                  · exact dmaReset_keeps (by assumption)
                  · assumption
                · exact setDma_keeps (by assumption)
              · refine Keeps.ite ?_ ?_
                · refine Keeps.ite ?_ ?_
                  · exact codecReset_keeps (by assumption)
                  · assumption
                · assumption

theorem writeEffect_keeps {a s : State} {v1 v2 v3 v4 v5} (h : Keeps a s) :
    Keeps a (@State.writeEffect s v1 v2 v3 v4 v5) := by
  unfold State.writeEffect
  extract_lets +onlyGivenNames x1
  clear_value x1
  refine Keeps.ite ?_ ?_
  · refine Keeps.ite ?_ ?_
    · exact logRelease_keeps (by assumption)
    · refine Keeps.ite ?_ ?_
      · refine Keeps.ite ?_ ?_
        · exact confirm_keeps (by assumption)
        · assumption
      · refine Keeps.ite ?_ ?_
        · exact integRun_keeps (by assumption)
        · assumption
  · refine Keeps.ite ?_ ?_
    · exact printSet_keeps (by assumption)
    · refine Keeps.ite ?_ ?_
      · exact fireSet_keeps (by assumption)
      · refine Keeps.ite ?_ ?_
        · exact driveSet_keeps (by assumption)
        · refine Keeps.ite ?_ ?_
          · exact faultSet_keeps (by assumption)
          · refine Keeps.ite ?_ ?_
            · exact powerSet_keeps (by assumption)
            · refine Keeps.ite ?_ ?_
              · refine Keeps.ite ?_ ?_
                · exact zeroRequest_keeps (by assumption)
                · assumption
              · assumption

theorem armSet_keeps {a s : State} {v1 v2 v3 v4} (h : Keeps a s) :
    Keeps a (@State.armSet s v1 v2 v3 v4) := by
  unfold State.armSet
  extract_lets +onlyGivenNames x1
  clear_value x1
  extract_lets +onlyGivenNames x2
  clear_value x2
  extract_lets +onlyGivenNames x3
  have h3 : Keeps a x3 := by
    unfold x3
    exact setCam_keeps (by assumption)
  clear_value x3
  exact setn_keeps (by assumption)

theorem toRing_keeps {a s : State} {v1} (h : Keeps a s) :
    Keeps a (@State.toRing s v1) := by
  unfold State.toRing
  extract_lets +onlyGivenNames x1
  clear_value x1
  extract_lets +onlyGivenNames x2
  extract_lets +onlyGivenNames x3
  have h3 : Keeps a x3 := by
    unfold x3
    refine Keeps.same (b := s) rfl rfl rfl rfl rfl rfl rfl rfl rfl ?_
    assumption
  clear_value x3
  refine Keeps.ite ?_ ?_
  · refine Keeps.same (b := x3) rfl rfl rfl rfl rfl rfl rfl rfl rfl ?_
    assumption
  · assumption

theorem placeLocal_keeps {a s : State} {v1 v2} (h : Keeps a s) :
    Keeps a (@State.placeLocal s v1 v2) := by
  unfold State.placeLocal
  refine Keeps.ite ?_ ?_
  · exact modSess_keeps (by assumption)
  · exact setLocal_keeps (by assumption)

theorem armNow_keeps {a s : State} {v1 v2} (h : Keeps a s) :
    Keeps a (@State.armNow s v1 v2) := by
  unfold State.armNow
  refine Keeps.foldl ?_ (fun y1 z1 h1 => ?_)
  · assumption
  · extract_lets +onlyGivenNames x2
    clear_value x2
    refine Keeps.ite ?_ ?_
    · assumption
    · extract_lets +onlyGivenNames x3
      clear_value x3
      extract_lets +onlyGivenNames x4
      clear_value x4
      extract_lets +onlyGivenNames x5
      clear_value x5
      extract_lets +onlyGivenNames x6
      have h6 : Keeps a x6 := by
        unfold x6
        exact setCam_keeps (by assumption)
      clear_value x6
      extract_lets +onlyGivenNames x7
      clear_value x7
      extract_lets +onlyGivenNames x8
      have h8 : Keeps a x8 := by
        unfold x8
        split
        · exact setCam_keeps (by assumption)
        · assumption
      clear_value x8
      exact armSet_keeps (by assumption)

theorem place_keeps {a s : State} {v1 v2 v3 v4} (h : Keeps a s) :
    Keeps a (@State.place s v1 v2 v3 v4) := by
  unfold State.place
  extract_lets +onlyGivenNames x1
  clear_value x1
  split
  · refine Keeps.same (b := s) rfl rfl rfl rfl rfl rfl rfl rfl rfl ?_
    assumption
  · refine Keeps.same (b := s) rfl rfl rfl rfl rfl rfl rfl rfl rfl ?_
    assumption
  · extract_lets +onlyGivenNames x2
    extract_lets +onlyGivenNames x3
    have h3 : Keeps a x3 := by
      unfold x3
      refine Keeps.same (b := s) rfl rfl rfl rfl rfl rfl rfl rfl rfl ?_
      assumption
    clear_value x3
    refine Keeps.ite ?_ ?_
    · assumption
    · exact setv_keeps (by assumption)

theorem entryEffect_keeps {a s : State} {v1 v2 v3 v4 v5} (h : Keeps a s) :
    Keeps a (@State.entryEffect s v1 v2 v3 v4 v5) := by
  unfold State.entryEffect
  split
  · exact writeEffect_keeps (by assumption)
  · refine Keeps.ite ?_ ?_
    · exact refreshPort_keeps (by assumption)
    · assumption
  · exact glide_keeps (by assumption)
  · exact relock_keeps (by assumption)
  · assumption
  · assumption

theorem accept_keeps {a s : State} {v1 v2 v3 v4 v5 v6} (h : Keeps a s) :
    Keeps a (@State.accept s v1 v2 v3 v4 v5 v6) := by
  unfold State.accept
  extract_lets +onlyGivenNames x1
  clear_value x1
  extract_lets +onlyGivenNames x2
  clear_value x2
  extract_lets +onlyGivenNames x3
  clear_value x3
  extract_lets +onlyGivenNames x4
  clear_value x4
  extract_lets +onlyGivenNames x5
  clear_value x5
  extract_lets +onlyGivenNames x6
  clear_value x6
  extract_lets +onlyGivenNames x7
  clear_value x7
  extract_lets +onlyGivenNames x8
  clear_value x8
  extract_lets +onlyGivenNames x9
  clear_value x9
  extract_lets +onlyGivenNames x10
  clear_value x10
  extract_lets +onlyGivenNames x11
  clear_value x11
  extract_lets +onlyGivenNames x12
  extract_lets +onlyGivenNames x13
  have h13 : Keeps a x13 := by
    unfold x13
    refine Keeps.trans (b := s) ?_ ⟨rfl, Nat.le_refl _, Nat.le_refl _, Nat.le_add_right _ _, Nat.le_refl _, Nat.le_refl _, id, id⟩
    assumption
  clear_value x13
  extract_lets +onlyGivenNames x14
  have h14 : Keeps a x14 := by
    unfold x14
    refine Keeps.ite ?_ ?_
    · exact program_keeps (by assumption)
    · refine Keeps.ite ?_ ?_
      · assumption
      · exact toRing_keeps (by assumption)
  clear_value x14
  extract_lets +onlyGivenNames x15
  clear_value x15
  extract_lets +onlyGivenNames x16
  have h16 : Keeps a x16 := by
    unfold x16
    refine Keeps.ite ?_ ?_
    · assumption
    · exact islandEvent_keeps (by assumption)
  clear_value x16
  extract_lets +onlyGivenNames x17
  have h17 : Keeps a x17 := by
    unfold x17
    refine Keeps.foldl ?_ (fun y18 z18 h18 => ?_)
    · assumption
    · exact placeLocal_keeps (by assumption)
  clear_value x17
  extract_lets +onlyGivenNames x19
  have h19 : Keeps a x19 := by
    unfold x19
    exact armNow_keeps (by assumption)
  clear_value x19
  extract_lets +onlyGivenNames x20
  have h20 : Keeps a x20 := by
    unfold x20
    refine Keeps.foldl ?_ (fun y21 z21 h21 => ?_)
    · assumption
    · exact place_keeps (by assumption)
  clear_value x20
  extract_lets +onlyGivenNames x22
  have h22 : Keeps a x22 := by
    unfold x22
    refine Keeps.foldl ?_ (fun y23 z23 h23 => ?_)
    · assumption
    · exact entryEffect_keeps (by assumption)
  clear_value x22
  exact release_keeps (by assumption)

theorem at_keeps {a s : State} {v1} (h : Keeps a s) :
    Keeps a (@State.at s v1) := by
  unfold State.at
  exact moveX_keeps (atTime_keeps (by assumption))

theorem runReset_keeps {a s : State} (h : Keeps a s) :
    Keeps a (@State.runReset s) := by
  unfold State.runReset
  refine Keeps.ite ?_ ?_
  · refine resetSequence_keeps ?_
    refine Keeps.same (b := s) rfl rfl rfl rfl rfl rfl rfl rfl rfl ?_
    assumption
  · assumption

theorem finish_keeps {a : State} {o : Host.Outcome State Fault Refusal} (h : OutKeeps a o) :
    OutKeeps a (finish o) := by
  intro u hu
  cases o with
  | next s => injection hu with hu; exact hu ▸ runReset_keeps (h s rfl)
  | fault x => cases hu
  | refused x => cases hu

theorem letIn_keeps {a s : State} {v1 v2 v3 v4} (h : Keeps a s) :
    Keeps a (@State.letIn s v1 v2 v3 v4) := by
  unfold State.letIn
  refine Keeps.ite ?_ ?_
  · refine Keeps.same (b := s) rfl rfl rfl rfl rfl rfl rfl rfl rfl ?_
    assumption
  · exact accept_keeps (by assumption)

theorem rejectWrite_keeps {a s : State} {v1 v2 v3} (h : Keeps a s) :
    Keeps a (@State.rejectWrite s v1 v2 v3) := by
  unfold State.rejectWrite
  split
  · assumption
  · refine Keeps.same (b := s) rfl rfl rfl rfl rfl rfl rfl rfl rfl ?_
    assumption
  · exact sendIn_keeps (by assumption)
  · exact sendIn_keeps (by assumption)
  · exact integAnswer_keeps (by assumption)

theorem showServe_keeps {a s : State} (h : Keeps a s) :
    Keeps a (@State.showServe s) := by
  unfold State.showServe
  split
  · assumption
  · refine setMgmt_keeps (Nat.le_refl _) ?_
    assumption

theorem pushServe_keeps {a s : State} {v1} (h : Keeps a s) :
    Keeps a (@State.pushServe s v1) := by
  unfold State.pushServe
  refine showServe_keeps ?_
  refine setMgmt_keeps (Nat.le_refl _) ?_
  assumption

theorem awaitSet_keeps {a s : State} {v1 v2 v3} (h : Keeps a s) :
    Keeps a (@State.awaitSet s v1 v2 v3) := by
  unfold State.awaitSet
  extract_lets +onlyGivenNames x1
  clear_value x1
  extract_lets +onlyGivenNames x2
  clear_value x2
  extract_lets +onlyGivenNames x3
  clear_value x3
  extract_lets +onlyGivenNames x4
  clear_value x4
  exact trySend_keeps (setCam_keeps (by assumption))

theorem sendLists_keeps {a s : State} {v1 v2 v3} (h : Keeps a s) :
    Keeps a (@State.sendLists s v1 v2 v3) := by
  unfold State.sendLists
  extract_lets +onlyGivenNames x1
  clear_value x1
  refine Keeps.ite ?_ ?_
  · exact letIn_keeps (by assumption)
  · extract_lets +onlyGivenNames x2
    clear_value x2
    extract_lets +onlyGivenNames x3
    clear_value x3
    extract_lets +onlyGivenNames x4
    have h4 : Keeps a x4 := by
      unfold x4
      refine Keeps.same (b := s) rfl rfl rfl rfl rfl rfl rfl rfl rfl ?_
      assumption
    clear_value x4
    refine Keeps.foldl ?_ (fun y5 z5 h5 => ?_)
    · assumption
    · exact awaitSet_keeps (by assumption)

theorem process_keeps {a s : State} {v1 v2 v3} (h : Keeps a s) :
    Keeps a (@State.process s v1 v2 v3) := by
  unfold State.process
  split
  · exact rejectWrite_keeps (by assumption)
  · split
    · exact pushServe_keeps (by assumption)
    · exact runReset_keeps (sendLists_keeps (by assumption))

theorem writeOne_keeps {a s : State} {v1 v2 v3 v4} (h : Keeps a s) :
    Keeps a (@State.writeOne s v1 v2 v3 v4) := by
  unfold State.writeOne
  extract_lets +onlyGivenNames x1
  have h1 : Keeps a x1.1 := by
    unfold x1
    exact take_keeps (by assumption)
  clear_value x1
  refine Keeps.ite ?_ ?_
  · exact process_keeps (by assumption)
  · assumption

theorem writeKey_keeps {a s : State} {v1 v2 v3 v4 v5} (h : Keeps a s) :
    Keeps a (@State.writeKey s v1 v2 v3 v4 v5) := by
  unfold State.writeKey
  split
  · assumption
  · exact writeOne_keeps (by assumption)

theorem readDone_keeps {a s : State} {v1 v2 v3 v4} (h : Keeps a s) :
    Keeps a (@State.readDone s v1 v2 v3 v4) := by
  unfold State.readDone
  extract_lets +onlyGivenNames x1
  clear_value x1
  refine Keeps.ite ?_ ?_
  · exact sendIn_keeps (by assumption)
  · refine Keeps.ite ?_ ?_
    · exact integAnswer_keeps (by assumption)
    · exact integAnswer_keeps (by assumption)

theorem readGo_keeps {a s : State} {v1 v2 v3 v4 v5} (h : Keeps a s) :
    Keeps a (@State.readGo s v1 v2 v3 v4 v5) := by
  induction v5 generalizing s v4 with
  | nil => exact readDone_keeps h
  | cons o rest ih =>
    unfold State.readGo
    split
    · split
      · exact ih h
      · exact pushServe_keeps h
    · exact ih (readOne_keeps h)

theorem serveAnswer_keeps {a s : State} {v1 v2} (h : Keeps a s) :
    Keeps a (@State.serveAnswer s v1 v2) := by
  unfold State.serveAnswer
  split
  · assumption
  · extract_lets +onlyGivenNames x1
    extract_lets +onlyGivenNames x2
    have h2 : Keeps a x2 := by
      unfold x2
      refine showServe_keeps ?_
      refine setMgmt_keeps (Nat.le_refl _) ?_
      assumption
    clear_value x2
    split
    · split
      · assumption
      · exact readGo_keeps (by assumption)
    · refine Keeps.ite ?_ ?_
      · exact process_keeps (by assumption)
      · exact rejectWrite_keeps (by assumption)

theorem programDone_keeps {a s : State} (h : Keeps a s) :
    Keeps a (@State.programDone s) := by
  unfold State.programDone
  split
  · assumption
  · extract_lets +onlyGivenNames x1
    extract_lets +onlyGivenNames x2
    have h2 : Keeps a x2 := by
      unfold x2
      refine Keeps.same (b := s) rfl rfl rfl rfl rfl rfl rfl rfl rfl ?_
      assumption
    clear_value x2
    extract_lets +onlyGivenNames x3
    have h3 : Keeps a x3 := by
      unfold x3
      refine Keeps.foldl ?_ (fun y4 z4 h4 => ?_)
      · assumption
      · refine Keeps.ite ?_ ?_
        · refine Keeps.same (b := y4) rfl rfl rfl rfl rfl rfl rfl rfl rfl ?_
          assumption
        · refine Keeps.trans (b := y4) ?_ ⟨rfl, Nat.le_refl _, Nat.le_refl _, Nat.le_refl _, Nat.le_refl _, Nat.le_refl _, fun w => ⟨w.1, w.2.kvSet _ _⟩, id⟩
          assumption
    clear_value x3
    extract_lets +onlyGivenNames x5
    have h5 : Keeps a x5 := by
      unfold x5
      refine Keeps.foldl ?_ (fun y6 z6 h6 => ?_)
      · assumption
      · refine Keeps.same (b := y6) rfl rfl rfl rfl rfl rfl rfl rfl rfl ?_
        assumption
    clear_value x5
    extract_lets +onlyGivenNames x7
    have h7 : Keeps a x7 := by
      unfold x7
      exact logFlash_keeps (by assumption)
    clear_value x7
    split
    · assumption
    · exact release_keeps (modHeld_keeps (by assumption))

theorem execFlashProgramComplete_keeps {a s : State} {v0} (h : Keeps a s) :
    OutKeeps a (@execFlashProgramComplete v0 s) := by
  unfold execFlashProgramComplete
  exact OutKeeps.ok (runReset_keeps (programDone_keeps (at_keeps (by assumption))))

theorem execPendingValueApplied_keeps {a s : State} {v0 v1 v2} (h : Keeps a s) :
    OutKeeps a (@execPendingValueApplied v0 v1 v2 s) := by
  unfold execPendingValueApplied
  extract_lets +onlyGivenNames x1
  have h1 : Keeps a x1 := by
    unfold x1
    exact at_keeps (by assumption)
  clear_value x1
  extract_lets +onlyGivenNames x2
  clear_value x2
  split
  · exact OutKeeps.ok (by assumption)
  · refine OutKeeps.ite ?_ ?_
    · extract_lets +onlyGivenNames x3
      clear_value x3
      exact OutKeeps.ok (runReset_keeps (writeEffect_keeps (applyPend_keeps (by assumption))))
    · exact OutKeeps.ok (by assumption)

theorem execWrite_keeps {a s : State} {v0 v1 v2 v3} (h : Keeps a s) :
    OutKeeps a (@execWrite v0 v1 v2 v3 s) := by
  unfold execWrite
  exact OutKeeps.ok (writeOne_keeps (at_keeps (by assumption)))

theorem execBatch_keeps {a s : State} {v0 v1 v2 v3} (h : Keeps a s) :
    OutKeeps a (@execBatch v0 v1 v2 v3 s) := by
  unfold execBatch
  extract_lets +onlyGivenNames x1
  have h1 : Keeps a x1.1 := by
    unfold x1
    exact take_keeps (at_keeps (by assumption))
  clear_value x1
  refine OutKeeps.ite ?_ ?_
  · exact OutKeeps.ok (process_keeps (by assumption))
  · exact OutKeeps.ok (by assumption)

theorem execRead_keeps {a s : State} {v0 v1 v2 v3} (h : Keeps a s) :
    OutKeeps a (@execRead v0 v1 v2 v3 s) := by
  unfold execRead
  extract_lets +onlyGivenNames x1
  have h1 : Keeps a x1.1 := by
    unfold x1
    exact take_keeps (at_keeps (by assumption))
  clear_value x1
  refine OutKeeps.ite ?_ ?_
  · exact OutKeeps.ok (by assumption)
  · refine OutKeeps.ite ?_ ?_
    · exact OutKeeps.ok (errorTo_keeps (by assumption))
    · exact OutKeeps.ok (readGo_keeps (by assumption))

theorem execChangeLogFlush_keeps {a s : State} {v0} (h : Keeps a s) :
    OutKeeps a (@execChangeLogFlush v0 s) := by
  unfold execChangeLogFlush
  extract_lets +onlyGivenNames x1
  have h1 : Keeps a x1 := by
    unfold x1
    exact atTime_keeps (by assumption)
  clear_value x1
  refine OutKeeps.ite ?_ ?_
  · refine OutKeeps.ok ?_
    refine Keeps.same (b := x1) rfl rfl rfl rfl rfl rfl rfl rfl rfl ?_
    assumption
  · exact OutKeeps.ok (by assumption)

theorem execChangeLogFlushDone_keeps {a s : State} {v0} (h : Keeps a s) :
    OutKeeps a (@execChangeLogFlushDone v0 s) := by
  unfold execChangeLogFlushDone
  extract_lets +onlyGivenNames x1
  have h1 : Keeps a x1 := by
    unfold x1
    exact at_keeps (by assumption)
  clear_value x1
  split
  · exact OutKeeps.ok (by assumption)
  · extract_lets +onlyGivenNames x2
    clear_value x2
    extract_lets +onlyGivenNames x3
    clear_value x3
    extract_lets +onlyGivenNames x4
    extract_lets +onlyGivenNames x5
    have h5 : Keeps a x5 := by
      unfold x5
      refine Keeps.same (b := x1) rfl rfl rfl rfl rfl rfl rfl rfl rfl ?_
      assumption
    clear_value x5
    extract_lets +onlyGivenNames x6
    have h6 : Keeps a x6 := by
      unfold x6
      exact inc64_keeps (logFlash_keeps (by assumption))
    clear_value x6
    refine OutKeeps.ok ?_
    refine Keeps.foldl ?_ (fun y7 z7 h7 => ?_)
    · assumption
    · exact process_keeps (by assumption)

theorem unseenAtBoot_keeps {a s : State} (h : Keeps a s) :
    Keeps a (@State.unseenAtBoot s) := by
  unfold State.unseenAtBoot
  refine Keeps.foldl ?_ (fun y1 z1 h1 => ?_)
  · assumption
  · exact recordVerdict_keeps (by assumption)

theorem closeAtBoot_keeps {a s : State} {v1 v2} (h : Keeps a s) :
    Keeps a (@State.closeAtBoot s v1 v2) := by
  unfold State.closeAtBoot
  split
  · assumption
  · extract_lets +onlyGivenNames x1
    clear_value x1
    extract_lets +onlyGivenNames x2
    clear_value x2
    extract_lets +onlyGivenNames x3
    have h3 : Keeps a x3 := by
      unfold x3
      exact inc64_keeps (modItem_keeps (by assumption))
    clear_value x3
    extract_lets +onlyGivenNames x4
    have h4 : Keeps a x4 := by
      unfold x4
      exact journal_keeps (inc64_keeps (by assumption))
    clear_value x4
    exact event_keeps (event_keeps (by assumption))

theorem resumeDrops_keeps {a s : State} {v1} (h : Keeps a s) :
    Keeps a (@State.resumeDrops s v1) := by
  unfold State.resumeDrops
  extract_lets +onlyGivenNames x1
  have h1 : Keeps a x1 := by
    unfold x1
    refine Keeps.foldl ?_ (fun y2 z2 h2 => ?_)
    · assumption
    · exact setv_keeps (by assumption)
  clear_value x1
  extract_lets +onlyGivenNames x3
  clear_value x3
  extract_lets +onlyGivenNames x4
  clear_value x4
  extract_lets +onlyGivenNames x5
  have h5 : Keeps a x5 := by
    unfold x5
    exact setFire_keeps (by assumption)
  clear_value x5
  extract_lets +onlyGivenNames x6
  have h6 : Keeps a x6 := by
    unfold x6
    exact setn_keeps (by assumption)
  clear_value x6
  refine Keeps.foldl ?_ (fun y7 z7 h7 => ?_)
  · assumption
  · refine Keeps.ite ?_ ?_
    · assumption
    · exact setn_keeps (by assumption)

theorem fromRecord_keeps {a s : State} {v1} (h : Keeps a s) :
    Keeps a (@State.fromRecord s v1) := by
  unfold State.fromRecord
  extract_lets +onlyGivenNames x1
  have h1 : Keeps a x1 := by
    unfold x1
    refine unseenAtBoot_keeps ?_
    refine Keeps.foldl ?_ (fun y2 z2 h2 => ?_)
    · assumption
    · exact closeAtBoot_keeps (by assumption)
  clear_value x1
  extract_lets +onlyGivenNames x3
  have h3 : Keeps a x3 := by
    unfold x3
    exact setn_keeps (setn_keeps (by assumption))
  clear_value x3
  extract_lets +onlyGivenNames x4
  have h4 : Keeps a x4 := by
    unfold x4
    exact setn_keeps (by assumption)
  clear_value x4
  exact resumeDrops_keeps (setn_keeps (by assumption))

theorem countersUnknown_keeps {a s : State} (h : Keeps a s) :
    Keeps a (@State.countersUnknown s) := by
  unfold State.countersUnknown
  refine Keeps.foldl ?_ (fun y1 z1 h1 => ?_)
  · assumption
  · exact setn_keeps (by assumption)

theorem bootLocked_keeps {a s : State} {v1} (h : Keeps a s) :
    Keeps a (@State.bootLocked s v1) := by
  unfold State.bootLocked
  refine Keeps.ite ?_ ?_
  · assumption
  · refine Keeps.ite ?_ ?_
    · refine Keeps.ite ?_ ?_
      · exact relock_keeps (by assumption)
      · assumption
    · refine Keeps.ite ?_ ?_
      · exact setn_keeps (by assumption)
      · assumption

theorem execPllLockAcquired_keeps {a s : State} {v0 v1} (h : Keeps a s) :
    OutKeeps a (@execPllLockAcquired v0 v1 s) := by
  unfold execPllLockAcquired
  extract_lets +onlyGivenNames x1
  have h1 : Keeps a x1 := by
    unfold x1
    exact atTime_keeps (by assumption)
  clear_value x1
  refine OutKeeps.ite ?_ ?_
  · exact OutKeeps.ok (runReset_keeps (bootLocked_keeps (relocked_keeps (by assumption))))
  · exact OutKeeps.ok (by assumption)

theorem logDefault_keeps {a s : State} {v1} (h : Keeps a s) :
    Keeps a (@State.logDefault s v1) := by
  unfold State.logDefault
  exact logObj_keeps (by assumption)

theorem execLineTick_keeps {a s : State} {v0 v1 v2} (h : Keeps a s) :
    OutKeeps a (@execLineTick v0 v1 v2 s) := by
  unfold execLineTick
  exact finish_keeps (runLineTick_keeps (by assumption))

theorem restoreTail_keeps {a s : State} (h : Keeps a s) :
    Keeps a (@State.restoreTail s) := by
  unfold State.restoreTail
  split
  · assumption
  · refine Keeps.ite ?_ ?_
    · extract_lets +onlyGivenNames x1
      clear_value x1
      extract_lets +onlyGivenNames x2
      have h2 : Keeps a x2 := by
        unfold x2
        refine Keeps.foldl ?_ (fun y3 z3 h3 => ?_)
        · assumption
        · exact logFlash_keeps (by assumption)
      clear_value x2
      exact setn_keeps (by assumption)
    · assumption

theorem bootSlot_keeps {a s : State} {v1} (h : Keeps a s) :
    Keeps a (@State.bootSlot s v1).1 := by
  unfold State.bootSlot
  extract_lets +onlyGivenNames x1
  clear_value x1
  extract_lets +onlyGivenNames x2
  clear_value x2
  split
  · extract_lets +onlyGivenNames x3
    have h3 : Keeps a x3 := by
      unfold x3
      exact setn_keeps (setn_keeps (by assumption))
    clear_value x3
    dsimp only
    exact setn_keeps (by assumption)
  · dsimp only
    exact setn_keeps (writeDir_keeps (by assumption))

theorem bootConfirmed_keeps {a s : State} {v0} (h : Keeps a s) :
    Keeps a (@State.bootConfirmed v0 s).1 := by
  induction v0 generalizing s with
  | zero => exact h
  | succ n ih =>
    unfold State.bootConfirmed
    split
    · exact h
    · extract_lets +onlyGivenNames r
      split
      · exact bootSlot_keeps h
      · exact ih (bootSlot_keeps h)

theorem selectSlot_keeps {a s : State} (h : Keeps a s) :
    Keeps a (@State.selectSlot s).1 := by
  unfold State.selectSlot
  extract_lets +onlyGivenNames x1
  clear_value x1
  split
  · split
    · extract_lets +onlyGivenNames x2
      have h2 : Keeps a x2 := by
        unfold x2
        exact writeDir_keeps (by assumption)
      clear_value x2
      extract_lets +onlyGivenNames x3
      have h3 : Keeps a x3.1 := by
        unfold x3
        exact bootSlot_keeps (by assumption)
      clear_value x3
      split
      · dsimp only
        assumption
      · exact bootConfirmed_keeps (by assumption)
    · exact bootConfirmed_keeps (writeDir_keeps (by assumption))
  · exact bootConfirmed_keeps (by assumption)

theorem startBlocks_keeps {a s : State} (h : Keeps a s) :
    Keeps a (@State.startBlocks s) := by
  unfold State.startBlocks
  extract_lets +onlyGivenNames x1
  have h1 : Keeps a x1 := by
    unfold x1
    refine Keeps.foldl ?_ (fun y2 z2 h2 => ?_)
    · assumption
    · refine Keeps.ite ?_ ?_
      · exact linkSet_keeps (by assumption)
      · assumption
  clear_value x1
  extract_lets +onlyGivenNames x3
  have h3 : Keeps a x3 := by
    unfold x3
    refine Keeps.foldl ?_ (fun y4 z4 h4 => ?_)
    · assumption
    · refine Keeps.ite ?_ ?_
      · exact portWritten_keeps (by assumption)
      · assumption
  clear_value x3
  extract_lets +onlyGivenNames x5
  have h5 : Keeps a x5 := by
    unfold x5
    exact trackerCheck_keeps (unitConfigured_keeps (unitConfigured_keeps (by assumption)))
  clear_value x5
  exact planesSet_keeps (by assumption)

theorem newBoot_keeps {a s : State} (h : Keeps a s) :
    Keeps a (@State.newBoot s) := by
  unfold State.newBoot
  extract_lets +onlyGivenNames x1
  clear_value x1
  extract_lets +onlyGivenNames x2
  have h2 : Keeps a x2 := by
    unfold x2
    exact setn_keeps (by assumption)
  clear_value x2
  exact logKind_keeps (setPower_keeps (by assumption))

theorem recordValues_keeps {a s : State} (h : Keeps a s) :
    Keeps a (@State.recordValues s) := by
  unfold State.recordValues
  extract_lets +onlyGivenNames x1
  clear_value x1
  extract_lets +onlyGivenNames x2
  clear_value x2
  extract_lets +onlyGivenNames x3
  extract_lets +onlyGivenNames x4
  have h4 : Keeps a x4 := by
    unfold x4
    refine Keeps.same (b := s) rfl rfl rfl rfl rfl rfl rfl rfl rfl ?_
    assumption
  clear_value x4
  refine Keeps.ite ?_ ?_
  · extract_lets +onlyGivenNames x5
    clear_value x5
    extract_lets +onlyGivenNames x6
    clear_value x6
    refine Keeps.foldl ?_ (fun y7 z7 h7 => ?_)
    · assumption
    · exact logDefault_keeps (by assumption)
  · refine Keeps.foldl ?_ (fun y8 z8 h8 => ?_)
    · assumption
    · exact setv_keeps (logObj_keeps (by assumption))

theorem rebuildCounts_keeps {a s : State} (h : Keeps a s) :
    Keeps a (@State.rebuildCounts s) := by
  unfold State.rebuildCounts
  extract_lets +onlyGivenNames x1
  have h1 : Keeps a x1 := by
    unfold x1
    refine Keeps.foldl ?_ (fun y2 z2 h2 => ?_)
    · assumption
    · exact setv_keeps (by assumption)
  clear_value x1
  refine Keeps.foldl ?_ (fun y3 z3 h3 => ?_)
  · assumption
  · refine Keeps.foldl ?_ (fun y4 z4 h4 => ?_)
    · assumption
    · exact setv_keeps (by assumption)

theorem leapSequence_keeps {a s : State} (h : Keeps a s) :
    Keeps a (@State.leapSequence s) := by
  unfold State.leapSequence
  extract_lets +onlyGivenNames x1
  clear_value x1
  exact setn_keeps (by assumption)

theorem withoutRecord_keeps {a s : State} (h : Keeps a s) :
    Keeps a (@State.withoutRecord s) := by
  unfold State.withoutRecord
  extract_lets +onlyGivenNames x1
  clear_value x1
  extract_lets +onlyGivenNames x2
  have h2 : Keeps a x2 := by
    unfold x2
    exact setItems_keeps (by assumption)
  clear_value x2
  extract_lets +onlyGivenNames x3
  have h3 : Keeps a x3 := by
    unfold x3
    refine Keeps.foldl ?_ (fun y4 z4 h4 => ?_)
    · assumption
    · exact setn_keeps (by assumption)
  clear_value x3
  extract_lets +onlyGivenNames x5
  have h5 : Keeps a x5 := by
    unfold x5
    exact leapSequence_keeps (countersUnknown_keeps (resumeDrops_keeps (setn_keeps (by assumption))))
  clear_value x5
  exact event_keeps (by assumption)

theorem nextRecords_keeps {a s : State} (h : Keeps a s) :
    Keeps a (@State.nextRecords s) := by
  unfold State.nextRecords
  refine Keeps.foldl ?_ (fun y1 z1 h1 => ?_)
  · assumption
  · exact setn_keeps (by assumption)

theorem holdupBoot_keeps {a s : State} (h : Keeps a s) :
    Keeps a (@State.holdupBoot s) := by
  unfold State.holdupBoot
  extract_lets +onlyGivenNames x1
  have h1 : Keeps a x1 := by
    unfold x1
    exact rebuildCounts_keeps (setItems_keeps (by assumption))
  clear_value x1
  extract_lets +onlyGivenNames x2
  have h2 : Keeps a x2 := by
    unfold x2
    split
    · refine Keeps.ite ?_ ?_
      · exact fromRecord_keeps (by assumption)
      · refine Keeps.ite ?_ ?_
        · exact withoutRecord_keeps (by assumption)
        · exact resumeDrops_keeps (unseenAtBoot_keeps (by assumption))
    · refine Keeps.ite ?_ ?_
      · exact withoutRecord_keeps (by assumption)
      · exact resumeDrops_keeps (unseenAtBoot_keeps (by assumption))
  clear_value x2
  exact renewSlots_keeps (nextRecords_keeps (by assumption))

theorem firmwareInit_keeps {a s : State} (h : Keeps a s) :
    Keeps a (@State.firmwareInit s) := by
  unfold State.firmwareInit
  extract_lets +onlyGivenNames x1
  have h1 : Keeps a x1 := by
    unfold x1
    exact startBlocks_keeps (newBoot_keeps (recordValues_keeps (restoreTail_keeps (holdupBoot_keeps
      (by assumption)))))
  clear_value x1
  extract_lets +onlyGivenNames x2
  have h2 : Keeps a x2 := by
    unfold x2
    refine Keeps.ite ?_ ?_
    · exact integStart_keeps (by assumption)
    · assumption
  clear_value x2
  extract_lets +onlyGivenNames x3
  have h3 : Keeps a x3 := by
    unfold x3
    refine Keeps.ite ?_ ?_
    · exact pairEnter_keeps (by assumption)
    · assumption
  clear_value x3
  extract_lets +onlyGivenNames x4
  have h4 : Keeps a x4 := by
    unfold x4
    exact setn_keeps (by assumption)
  clear_value x4
  exact setn_keeps (by assumption)

theorem bootImage_keeps {a s : State} (h : Keeps a s) :
    Keeps a (@State.bootImage s) := by
  unfold State.bootImage
  extract_lets +onlyGivenNames x1
  clear_value x1
  extract_lets +onlyGivenNames x2
  have h2 : Keeps a x2 := by
    unfold x2
    exact renewUpdate_keeps (setn_keeps (by assumption))
  clear_value x2
  extract_lets +onlyGivenNames x3
  have h3 : Keeps a x3.1 := by
    unfold x3
    exact selectSlot_keeps (by assumption)
  clear_value x3
  split
  · extract_lets +onlyGivenNames x4
    have h4 : Keeps a x4 := by
      unfold x4
      exact setn_keeps (by assumption)
    clear_value x4
    refine renewFaultN_keeps ?_
    refine setMgmt_keeps (Nat.le_refl _) ?_
    assumption
  · extract_lets +onlyGivenNames x5
    have h5 : Keeps a x5 := by
      unfold x5
      refine Keeps.ite ?_ ?_
      · exact setDurable_keeps (by assumption)
      · assumption
    clear_value x5
    exact firmwareInit_keeps (renewFaultN_keeps (by assumption))

theorem execDramTrainingDone_keeps {a s : State} {v0 v1 v2} (h : Keeps a s) :
    OutKeeps a (@execDramTrainingDone v0 v1 v2 s) := by
  unfold execDramTrainingDone
  extract_lets +onlyGivenNames x1
  have h1 : Keeps a x1 := by
    unfold x1
    exact atTime_keeps (by assumption)
  clear_value x1
  refine OutKeeps.ite ?_ ?_
  · exact OutKeeps.ok (by assumption)
  · refine OutKeeps.ite ?_ ?_
    · exact OutKeeps.ok (renewFaultN_keeps (setn_keeps (setn_keeps (by assumption))))
    · extract_lets +onlyGivenNames x2
      clear_value x2
      extract_lets +onlyGivenNames x3
      have h3 : Keeps a x3 := by
        unfold x3
        exact setn_keeps (setn_keeps (by assumption))
      clear_value x3
      extract_lets +onlyGivenNames x4
      have h4 : Keeps a x4 := by
        unfold x4
        exact setn_keeps (by assumption)
      clear_value x4
      extract_lets +onlyGivenNames x5
      have h5 : Keeps a x5 := by
        unfold x5
        exact setn_keeps (by assumption)
      clear_value x5
      exact OutKeeps.ok (bootImage_keeps (setn_keeps (by assumption)))

theorem execEncoderEdge_keeps {a s : State} {v0 v1 v2 v3} (h : Keeps a s) :
    OutKeeps a (@execEncoderEdge v0 v1 v2 v3 s) := by
  unfold execEncoderEdge
  exact finish_keeps (runEncoderEdge_keeps (by assumption))

theorem execZEdge_keeps {a s : State} {v0 v1 v2} (h : Keeps a s) :
    OutKeeps a (@execZEdge v0 v1 v2 s) := by
  unfold execZEdge
  exact finish_keeps (runZEdge_keeps (by assumption))

theorem execPllGlideDone_keeps {a s : State} {v0 v1} (h : Keeps a s) :
    OutKeeps a (@execPllGlideDone v0 v1 s) := by
  unfold execPllGlideDone
  exact finish_keeps (runPllGlideDone_keeps (by assumption))

theorem execBdEdge_keeps {a s : State} {v0 v1 v2 v3} (h : Keeps a s) :
    OutKeeps a (@execBdEdge v0 v1 v2 v3 s) := by
  unfold execBdEdge
  exact finish_keeps (runBdEdge_keeps (by assumption))

theorem listSent_keeps {a s : State} {v1 v2} (h : Keeps a s) :
    Keeps a (@State.listSent s v1 v2) := by
  unfold State.listSent
  split
  · assumption
  · extract_lets +onlyGivenNames x1
    clear_value x1
    refine Keeps.ite ?_ ?_
    · extract_lets +onlyGivenNames x2
      clear_value x2
      extract_lets +onlyGivenNames x3
      have h3 : Keeps a x3 := by
        unfold x3
        refine Keeps.same (b := s) rfl rfl rfl rfl rfl rfl rfl rfl rfl ?_
        assumption
      clear_value x3
      exact letIn_keeps (by assumption)
    · refine Keeps.same (b := s) rfl rfl rfl rfl rfl rfl rfl rfl rfl ?_
      assumption

theorem execSettingsSetArmed_keeps {a s : State} {v0 v1} (h : Keeps a s) :
    OutKeeps a (@execSettingsSetArmed v0 v1 s) := by
  unfold execSettingsSetArmed
  extract_lets +onlyGivenNames x1
  have h1 : Keeps a x1 := by
    unfold x1
    exact at_keeps (by assumption)
  clear_value x1
  extract_lets +onlyGivenNames x2
  clear_value x2
  split
  · exact OutKeeps.ok (by assumption)
  · refine OutKeeps.ite ?_ ?_
    · exact OutKeeps.ok (by assumption)
    · extract_lets +onlyGivenNames x3
      clear_value x3
      extract_lets +onlyGivenNames x4
      have h4 : Keeps a x4 := by
        unfold x4
        exact setCam_keeps (by assumption)
      clear_value x4
      extract_lets +onlyGivenNames x5
      have h5 : Keeps a x5 := by
        unfold x5
        exact setn_keeps (armSet_keeps (by assumption))
      clear_value x5
      refine OutKeeps.ok ?_
      refine runReset_keeps ?_
      refine Keeps.foldl ?_ (fun y6 z6 h6 => ?_)
      · assumption
      · exact listSent_keeps (by assumption)

theorem diverge_keeps {a s : State} {v1} (h : Keeps a s) :
    Keeps a (@State.diverge s v1) := by
  unfold State.diverge
  exact setn_keeps (by assumption)

theorem leaveWait_keeps {a s : State} {v1 v2} (h : Keeps a s) :
    Keeps a (@State.leaveWait s v1 v2) := by
  unfold State.leaveWait
  extract_lets +onlyGivenNames x1
  clear_value x1
  split
  · assumption
  · refine Keeps.ite ?_ ?_
    · assumption
    · extract_lets +onlyGivenNames x2
      clear_value x2
      extract_lets +onlyGivenNames x3
      have h3 : Keeps a x3 := by
        unfold x3
        refine Keeps.ite ?_ ?_
        · exact diverge_keeps (by assumption)
        · assumption
      clear_value x3
      refine Keeps.ite ?_ ?_
      · exact setCam_keeps (by assumption)
      · extract_lets +onlyGivenNames x4
        clear_value x4
        exact trySend_keeps (setCam_keeps (by assumption))

theorem rearm_keeps {a s : State} {v1} (h : Keeps a s) :
    Keeps a (@State.rearm s v1) := by
  unfold State.rearm
  extract_lets +onlyGivenNames x1
  clear_value x1
  extract_lets +onlyGivenNames x2
  clear_value x2
  exact diverge_keeps (armSet_keeps (setCam_keeps (by assumption)))

theorem failList_keeps {a s : State} {v1 v2} (h : Keeps a s) :
    Keeps a (@State.failList s v1 v2) := by
  unfold State.failList
  split
  · assumption
  · extract_lets +onlyGivenNames x1
    have h1 : Keeps a x1 := by
      unfold x1
      refine Keeps.foldl ?_ (fun y2 z2 h2 => ?_)
      · assumption
      · refine Keeps.ite ?_ ?_
        · assumption
        · exact leaveWait_keeps (by assumption)
    clear_value x1
    extract_lets +onlyGivenNames x3
    have h3 : Keeps a x3 := by
      unfold x3
      refine Keeps.foldl ?_ (fun y4 z4 h4 => ?_)
      · assumption
      · exact rearm_keeps (by assumption)
    clear_value x3
    extract_lets +onlyGivenNames x5
    clear_value x5
    extract_lets +onlyGivenNames x6
    have h6 : Keeps a x6 := by
      unfold x6
      refine Keeps.same (b := x3) rfl rfl rfl rfl rfl rfl rfl rfl rfl ?_
      assumption
    clear_value x6
    extract_lets +onlyGivenNames x7
    clear_value x7
    exact rejectWrite_keeps (by assumption)

theorem listFailed_keeps {a s : State} {v1} (h : Keeps a s) :
    Keeps a (@State.listFailed s v1) := by
  unfold State.listFailed
  extract_lets +onlyGivenNames x1
  clear_value x1
  split
  · assumption
  · refine Keeps.ite ?_ ?_
    · assumption
    · extract_lets +onlyGivenNames x2
      have h2 : Keeps a x2 := by
        unfold x2
        exact inc32_keeps (diverge_keeps (setCam_keeps (by assumption)))
      clear_value x2
      refine Keeps.foldl ?_ (fun y3 z3 h3 => ?_)
      · assumption
      · exact failList_keeps (by assumption)

theorem execI2cReadReg_keeps {a s : State} {v0 v1 v2 v3 v4 v5} (h : Keeps a s) :
    OutKeeps a (@execI2cReadReg v0 v1 v2 v3 v4 v5 s) := by
  unfold execI2cReadReg
  exact OutKeeps.ok (writeKey_keeps (at_keeps (by assumption)))

theorem execI2cStretchTimeout_keeps {a s : State} {v0 v1} (h : Keeps a s) :
    OutKeeps a (@execI2cStretchTimeout v0 v1 s) := by
  unfold execI2cStretchTimeout
  exact OutKeeps.ok (listFailed_keeps (at_keeps (by assumption)))

theorem execI2cNack_keeps {a s : State} {v0 v1} (h : Keeps a s) :
    OutKeeps a (@execI2cNack v0 v1 s) := by
  unfold execI2cNack
  exact OutKeeps.ok (listFailed_keeps (at_keeps (by assumption)))

theorem bulkAnswer_keeps {a s : State} {v1 v2 v3 v4 v5 v6} (h : Keeps a s) :
    Keeps a (@State.bulkAnswer s v1 v2 v3 v4 v5 v6) := by
  unfold State.bulkAnswer
  exact sendIn_keeps (by assumption)

theorem setWindow_keeps {a s : State} {v1 v2 v3} (h : Keeps a s) :
    Keeps a (@State.setWindow s v1 v2 v3) := by
  unfold State.setWindow
  exact modSess_keeps (by assumption)

theorem commitImage_keeps {a s : State} {v1 v2 v3 v4 v5} (h : Keeps a s) :
    Keeps a (@State.commitImage s v1 v2 v3 v4 v5) := by
  unfold State.commitImage
  extract_lets +onlyGivenNames x1
  have h1 : Keeps a x1.1 := by
    unfold x1
    exact commitRes_keeps (by assumption)
  clear_value x1
  refine Keeps.ite ?_ ?_
  · extract_lets +onlyGivenNames x2
    have h2 : Keeps a x2 := by
      unfold x2
      refine Keeps.foldl ?_ (fun y3 z3 h3 => ?_)
      · exact setWindow_keeps (by assumption)
      · exact preResolve_keeps (by assumption)
    clear_value x2
    refine Keeps.ite ?_ ?_
    · exact answer_keeps (by assumption)
    · exact mirror_keeps (by assumption)
  · exact bulkAnswer_keeps (by assumption)

theorem handOver_keeps {a s : State} {v1 v2 v3 v4 v5} (h : Keeps a s) :
    Keeps a (@State.handOver s v1 v2 v3 v4 v5) := by
  unfold State.handOver
  refine Keeps.ite ?_ ?_
  · refine Keeps.ite ?_ ?_
    · exact bulkAnswer_keeps (by assumption)
    · exact updateStart_keeps (by assumption)
  · refine Keeps.ite ?_ ?_
    · extract_lets +onlyGivenNames x1
      extract_lets +onlyGivenNames x2
      have h2 : Keeps a x2 := by
        unfold x2
        refine setWindow_keeps ?_
        refine setMgmt_keeps (Nat.le_refl _) ?_
        assumption
      clear_value x2
      exact bulkAnswer_keeps (by assumption)
    · exact commitImage_keeps (by assumption)

theorem execBulkCommit_keeps {a s : State} {v0 v1 v2 v3} (h : Keeps a s) :
    OutKeeps a (@execBulkCommit v0 v1 v2 v3 s) := by
  unfold execBulkCommit
  extract_lets +onlyGivenNames x1
  have h1 : Keeps a x1.1 := by
    unfold x1
    exact take_keeps (atTime_keeps (by assumption))
  clear_value x1
  extract_lets +onlyGivenNames x2
  have h2 : Keeps a x2 := by
    unfold x2
    assumption
  clear_value x2
  refine OutKeeps.ite ?_ ?_
  · exact OutKeeps.ok (by assumption)
  · split
    · exact OutKeeps.ok (bulkAnswer_keeps (by assumption))
    · extract_lets +onlyGivenNames x3
      clear_value x3
      refine OutKeeps.ite ?_ ?_
      · exact OutKeeps.ok (bulkAnswer_keeps (by assumption))
      · refine OutKeeps.ite ?_ ?_
        · exact OutKeeps.ok (bulkAnswer_keeps (by assumption))
        · exact OutKeeps.ok (handOver_keeps (by assumption))

theorem execSubscribeCyclic_keeps {a s : State} {v0 v1 v2 v3 v4 v5} (h : Keeps a s) :
    OutKeeps a (@execSubscribeCyclic v0 v1 v2 v3 v4 v5 s) := by
  unfold execSubscribeCyclic
  extract_lets +onlyGivenNames x1
  have h1 : Keeps a x1.1 := by
    unfold x1
    exact take_keeps (atTime_keeps (by assumption))
  clear_value x1
  extract_lets +onlyGivenNames x2
  have h2 : Keeps a x2 := by
    unfold x2
    assumption
  clear_value x2
  refine OutKeeps.ite ?_ ?_
  · exact OutKeeps.ok (by assumption)
  · extract_lets +onlyGivenNames x3
    extract_lets +onlyGivenNames x4
    clear_value x4
    refine OutKeeps.ite ?_ ?_
    · exact OutKeeps.ok (respond_keeps (by assumption))
    · extract_lets +onlyGivenNames x5
      clear_value x5
      extract_lets +onlyGivenNames x6
      have h6 : Keeps a x6 := by
        unfold x6
        exact modSess_keeps (by assumption)
      clear_value x6
      exact OutKeeps.ok (respond_keeps (by assumption))

theorem sample_keeps {a s : State} {v1 v2 v3} (h : Keeps a s) :
    Keeps a (@State.sample s v1 v2 v3).1 := by
  induction v3 generalizing s with
  | nil => exact h
  | cons o os ih =>
    unfold State.sample
    refine ih ?_
    split
    · exact h
    · exact readOne_keeps h

theorem execCyclicPeriod_keeps {a s : State} {v0 v1 v2} (h : Keeps a s) :
    OutKeeps a (@execCyclicPeriod v0 v1 v2 s) := by
  unfold execCyclicPeriod
  extract_lets +onlyGivenNames x1
  have h1 : Keeps a x1 := by
    unfold x1
    exact at_keeps (by assumption)
  clear_value x1
  extract_lets +onlyGivenNames x2
  clear_value x2
  split
  · exact OutKeeps.ok (by assumption)
  · extract_lets +onlyGivenNames x3
    clear_value x3
    extract_lets +onlyGivenNames x4
    have h4 : Keeps a x4.1 := by
      unfold x4
      exact sample_keeps (by assumption)
    clear_value x4
    extract_lets +onlyGivenNames x5
    clear_value x5
    extract_lets +onlyGivenNames x6
    clear_value x6
    extract_lets +onlyGivenNames x7
    have h7 : Keeps a x7 := by
      unfold x7
      exact modSess_keeps (by assumption)
    clear_value x7
    refine OutKeeps.ok ?_
    refine Keeps.ite ?_ ?_
    · exact send_keeps (by assumption)
    · assumption

theorem execBulkWrite_keeps {a s : State} {v0 v1 v2 v3 v4} (h : Keeps a s) :
    OutKeeps a (@execBulkWrite v0 v1 v2 v3 v4 s) := by
  unfold execBulkWrite
  extract_lets +onlyGivenNames x1
  have h1 : Keeps a x1.1 := by
    unfold x1
    exact take_keeps (atTime_keeps (by assumption))
  clear_value x1
  extract_lets +onlyGivenNames x2
  have h2 : Keeps a x2 := by
    unfold x2
    assumption
  clear_value x2
  refine OutKeeps.ite ?_ ?_
  · exact OutKeeps.ok (by assumption)
  · split
    · refine OutKeeps.ite ?_ ?_
      · exact OutKeeps.ok (errorTo_keeps (by assumption))
      · exact OutKeeps.ok (setWindow_keeps (by assumption))
    · exact OutKeeps.ok (errorTo_keeps (by assumption))

theorem endRead_keeps {a s : State} {v1 v2 v3} (h : Keeps a s) :
    Keeps a (@State.endRead s v1 v2 v3) := by
  unfold State.endRead
  extract_lets +onlyGivenNames x1
  have h1 : Keeps a x1 := by
    unfold x1
    exact setWindow_keeps (by assumption)
  clear_value x1
  extract_lets +onlyGivenNames x2
  clear_value x2
  extract_lets +onlyGivenNames x3
  have h3 : Keeps a x3 := by
    unfold x3
    refine Keeps.ite ?_ ?_
    · refine archCounts_keeps ?_
      refine Keeps.same (b := x1) rfl rfl rfl rfl rfl rfl rfl rfl rfl ?_
      assumption
    · assumption
  clear_value x3
  exact send_keeps (by assumption)

theorem execBulkDataSend_keeps {a s : State} {v0 v1 v2} (h : Keeps a s) :
    OutKeeps a (@execBulkDataSend v0 v1 v2 s) := by
  unfold execBulkDataSend
  extract_lets +onlyGivenNames x1
  have h1 : Keeps a x1 := by
    unfold x1
    exact atTime_keeps (by assumption)
  clear_value x1
  split
  · exact OutKeeps.ok (by assumption)
  · extract_lets +onlyGivenNames x2
    clear_value x2
    extract_lets +onlyGivenNames x3
    clear_value x3
    refine OutKeeps.ite ?_ ?_
    · exact OutKeeps.ok (by assumption)
    · refine OutKeeps.ite ?_ ?_
      · exact OutKeeps.ok (endRead_keeps (by assumption))
      · extract_lets +onlyGivenNames x4
        clear_value x4
        refine OutKeeps.ite ?_ ?_
        · exact OutKeeps.ok (by assumption)
        · extract_lets +onlyGivenNames x5
          clear_value x5
          extract_lets +onlyGivenNames x6
          have h6 : Keeps a x6 := by
            unfold x6
            exact send_keeps (setWindow_keeps (by assumption))
          clear_value x6
          refine OutKeeps.ok ?_
          refine Keeps.ite ?_ ?_
          · exact endRead_keeps (by assumption)
          · assumption

theorem execBulkAbort_keeps {a s : State} {v0 v1 v2 v3} (h : Keeps a s) :
    OutKeeps a (@execBulkAbort v0 v1 v2 v3 s) := by
  unfold execBulkAbort
  extract_lets +onlyGivenNames x1
  have h1 : Keeps a x1.1 := by
    unfold x1
    exact take_keeps (atTime_keeps (by assumption))
  clear_value x1
  extract_lets +onlyGivenNames x2
  have h2 : Keeps a x2 := by
    unfold x2
    assumption
  clear_value x2
  refine OutKeeps.ite ?_ ?_
  · exact OutKeeps.ok (by assumption)
  · refine OutKeeps.ite ?_ ?_
    · exact OutKeeps.ok (bulkAnswer_keeps (by assumption))
    · exact OutKeeps.ok (bulkAnswer_keeps (setWindow_keeps (by assumption)))

theorem execBulkOpen_keeps {a s : State} {v0 v1 v2 v3 v4 v5 v6 v7 v8} (h : Keeps a s) :
    OutKeeps a (@execBulkOpen v0 v1 v2 v3 v4 v5 v6 v7 v8 s) := by
  unfold execBulkOpen
  extract_lets +onlyGivenNames x1
  have h1 : Keeps a x1.1 := by
    unfold x1
    exact take_keeps (atTime_keeps (by assumption))
  clear_value x1
  extract_lets +onlyGivenNames x2
  have h2 : Keeps a x2 := by
    unfold x2
    assumption
  clear_value x2
  refine OutKeeps.ite ?_ ?_
  · exact OutKeeps.ok (by assumption)
  · extract_lets +onlyGivenNames x3
    clear_value x3
    refine OutKeeps.ite ?_ ?_
    · exact OutKeeps.ok (bulkAnswer_keeps (by assumption))
    · extract_lets +onlyGivenNames x4
      clear_value x4
      extract_lets +onlyGivenNames x5
      clear_value x5
      exact OutKeeps.ok (bulkAnswer_keeps (setWindow_keeps (by assumption)))

theorem writeNat_keeps {a s : State} {v1 v2 v3 v4} (h : Keeps a s) :
    Keeps a (@State.writeNat s v1 v2 v3 v4) := by
  unfold State.writeNat
  exact writeKey_keeps (by assumption)

theorem execMouldDelete_keeps {a s : State} {v0 v1 v2 v3} (h : Keeps a s) :
    OutKeeps a (@execMouldDelete v0 v1 v2 v3 s) := by
  unfold execMouldDelete
  exact OutKeeps.ok (writeNat_keeps (at_keeps (by assumption)))

theorem writeBool_keeps {a s : State} {v1 v2 v3 v4} (h : Keeps a s) :
    Keeps a (@State.writeBool s v1 v2 v3 v4) := by
  unfold State.writeBool
  exact writeKey_keeps (by assumption)

theorem execSeqFaultClear_keeps {a s : State} {v0 v1 v2 v3} (h : Keeps a s) :
    OutKeeps a (@execSeqFaultClear v0 v1 v2 v3 s) := by
  unfold execSeqFaultClear
  exact OutKeeps.ok (writeBool_keeps (at_keeps (by assumption)))

theorem execFaultInject_keeps {a s : State} {v0 v1 v2 v3 v4} (h : Keeps a s) :
    OutKeeps a (@execFaultInject v0 v1 v2 v3 v4 s) := by
  unfold execFaultInject
  exact OutKeeps.ok (writeKey_keeps (at_keeps (by assumption)))

theorem execLoopEnable_keeps {a s : State} {v0 v1 v2 v3 v4} (h : Keeps a s) :
    OutKeeps a (@execLoopEnable v0 v1 v2 v3 v4 s) := by
  unfold execLoopEnable
  exact OutKeeps.ok (writeBool_keeps (at_keeps (by assumption)))

theorem execRecoveryCountReset_keeps {a s : State} {v0 v1 v2 v3 v4} (h : Keeps a s) :
    OutKeeps a (@execRecoveryCountReset v0 v1 v2 v3 v4 s) := by
  unfold execRecoveryCountReset
  exact OutKeeps.ok (writeBool_keeps (at_keeps (by assumption)))

theorem execLookAheadMinClear_keeps {a s : State} {v0 v1 v2 v3 v4} (h : Keeps a s) :
    OutKeeps a (@execLookAheadMinClear v0 v1 v2 v3 v4 s) := by
  unfold execLookAheadMinClear
  exact OutKeeps.ok (writeBool_keeps (at_keeps (by assumption)))

theorem execChangeLogRelease_keeps {a s : State} {v0 v1 v2 v3} (h : Keeps a s) :
    OutKeeps a (@execChangeLogRelease v0 v1 v2 v3 s) := by
  unfold execChangeLogRelease
  exact OutKeeps.ok (writeNat_keeps (at_keeps (by assumption)))

theorem execPowerOffRequest_keeps {a s : State} {v0 v1 v2 v3} (h : Keeps a s) :
    OutKeeps a (@execPowerOffRequest v0 v1 v2 v3 s) := by
  unfold execPowerOffRequest
  exact OutKeeps.ok (writeBool_keeps (at_keeps (by assumption)))

theorem execBeamCountsReset_keeps {a s : State} {v0 v1 v2 v3 v4} (h : Keeps a s) :
    OutKeeps a (@execBeamCountsReset v0 v1 v2 v3 v4 s) := by
  unfold execBeamCountsReset
  exact OutKeeps.ok (writeBool_keeps (at_keeps (by assumption)))

theorem execLaneFlush_keeps {a s : State} {v0 v1 v2 v3 v4} (h : Keeps a s) :
    OutKeeps a (@execLaneFlush v0 v1 v2 v3 v4 s) := by
  unfold execLaneFlush
  exact OutKeeps.ok (writeBool_keeps (at_keeps (by assumption)))

theorem execNextRecordSet_keeps {a s : State} {v0 v1 v2 v3 v4} (h : Keeps a s) :
    OutKeeps a (@execNextRecordSet v0 v1 v2 v3 v4 s) := by
  unfold execNextRecordSet
  exact OutKeeps.ok (writeNat_keeps (at_keeps (by assumption)))

theorem execLedgerReset_keeps {a s : State} {v0 v1 v2 v3 v4} (h : Keeps a s) :
    OutKeeps a (@execLedgerReset v0 v1 v2 v3 v4 s) := by
  unfold execLedgerReset
  exact OutKeeps.ok (writeBool_keeps (at_keeps (by assumption)))

theorem execDmaCountsReset_keeps {a s : State} {v0 v1 v2 v3 v4} (h : Keeps a s) :
    OutKeeps a (@execDmaCountsReset v0 v1 v2 v3 v4 s) := by
  unfold execDmaCountsReset
  exact OutKeeps.ok (writeBool_keeps (at_keeps (by assumption)))

theorem execZeroRequest_keeps {a s : State} {v0 v1 v2 v3} (h : Keeps a s) :
    OutKeeps a (@execZeroRequest v0 v1 v2 v3 s) := by
  unfold execZeroRequest
  exact OutKeeps.ok (writeBool_keeps (at_keeps (by assumption)))

theorem execSelfRole_keeps {a s : State} {v0 v1 v2 v3} (h : Keeps a s) :
    OutKeeps a (@execSelfRole v0 v1 v2 v3 s) := by
  unfold execSelfRole
  exact OutKeeps.ok (writeNat_keeps (at_keeps (by assumption)))

theorem execMapResetLearned_keeps {a s : State} {v0 v1 v2 v3} (h : Keeps a s) :
    OutKeeps a (@execMapResetLearned v0 v1 v2 v3 s) := by
  unfold execMapResetLearned
  exact OutKeeps.ok (writeNat_keeps (at_keeps (by assumption)))

theorem execFaultClear_keeps {a s : State} {v0 v1 v2 v3} (h : Keeps a s) :
    OutKeeps a (@execFaultClear v0 v1 v2 v3 s) := by
  unfold execFaultClear
  exact OutKeeps.ok (writeNat_keeps (at_keeps (by assumption)))

theorem execUpdateActivate_keeps {a s : State} {v0 v1 v2 v3} (h : Keeps a s) :
    OutKeeps a (@execUpdateActivate v0 v1 v2 v3 s) := by
  unfold execUpdateActivate
  exact OutKeeps.ok (writeBool_keeps (at_keeps (by assumption)))

theorem execAxisEnable_keeps {a s : State} {v0 v1 v2 v3 v4} (h : Keeps a s) :
    OutKeeps a (@execAxisEnable v0 v1 v2 v3 v4 s) := by
  unfold execAxisEnable
  exact OutKeeps.ok (writeBool_keeps (at_keeps (by assumption)))

theorem execUpdateConfirm_keeps {a s : State} {v0 v1 v2 v3} (h : Keeps a s) :
    OutKeeps a (@execUpdateConfirm v0 v1 v2 v3 s) := by
  unfold execUpdateConfirm
  exact OutKeeps.ok (writeBool_keeps (at_keeps (by assumption)))

theorem execResetRequest_keeps {a s : State} {v0 v1 v2 v3} (h : Keeps a s) :
    OutKeeps a (@execResetRequest v0 v1 v2 v3 s) := by
  unfold execResetRequest
  exact OutKeeps.ok (writeBool_keeps (at_keeps (by assumption)))

theorem execGlyphSetDelete_keeps {a s : State} {v0 v1 v2 v3} (h : Keeps a s) :
    OutKeeps a (@execGlyphSetDelete v0 v1 v2 v3 s) := by
  unfold execGlyphSetDelete
  exact OutKeeps.ok (writeNat_keeps (at_keeps (by assumption)))

theorem execCounterValueWrite_keeps {a s : State} {v0 v1 v2 v3 v4} (h : Keeps a s) :
    OutKeeps a (@execCounterValueWrite v0 v1 v2 v3 v4 s) := by
  unfold execCounterValueWrite
  exact OutKeeps.ok (writeNat_keeps (at_keeps (by assumption)))

theorem execCodecCountsReset_keeps {a s : State} {v0 v1 v2 v3 v4} (h : Keeps a s) :
    OutKeeps a (@execCodecCountsReset v0 v1 v2 v3 v4 s) := by
  unfold execCodecCountsReset
  exact OutKeeps.ok (writeBool_keeps (at_keeps (by assumption)))

theorem execFreezeClear_keeps {a s : State} {v0 v1 v2 v3} (h : Keeps a s) :
    OutKeeps a (@execFreezeClear v0 v1 v2 v3 s) := by
  unfold execFreezeClear
  exact OutKeeps.ok (writeBool_keeps (at_keeps (by assumption)))

theorem execBusErrorClear_keeps {a s : State} {v0 v1 v2 v3} (h : Keeps a s) :
    OutKeeps a (@execBusErrorClear v0 v1 v2 v3 s) := by
  unfold execBusErrorClear
  exact OutKeeps.ok (writeBool_keeps (at_keeps (by assumption)))

theorem execWaveSlotWrite_keeps {a s : State} {v0 v1 v2 v3 v4} (h : Keeps a s) :
    OutKeeps a (@execWaveSlotWrite v0 v1 v2 v3 v4 s) := by
  unfold execWaveSlotWrite
  exact OutKeeps.ok (writeKey_keeps (at_keeps (by assumption)))

theorem execDropCountsReset_keeps {a s : State} {v0 v1 v2 v3 v4} (h : Keeps a s) :
    OutKeeps a (@execDropCountsReset v0 v1 v2 v3 v4 s) := by
  unfold execDropCountsReset
  exact OutKeeps.ok (writeBool_keeps (at_keeps (by assumption)))

theorem execMapEntryWrite_keeps {a s : State} {v0 v1 v2 v3} (h : Keeps a s) :
    OutKeeps a (@execMapEntryWrite v0 v1 v2 v3 s) := by
  unfold execMapEntryWrite
  exact OutKeeps.ok (writeNat_keeps (at_keeps (by assumption)))

theorem execActionWrite_keeps {a s : State} {v0 v1 v2 v3} (h : Keeps a s) :
    OutKeeps a (@execActionWrite v0 v1 v2 v3 s) := by
  unfold execActionWrite
  exact OutKeeps.ok (writeNat_keeps (at_keeps (by assumption)))

theorem execSafeStateExit_keeps {a s : State} {v0 v1 v2 v3} (h : Keeps a s) :
    OutKeeps a (@execSafeStateExit v0 v1 v2 v3 s) := by
  unfold execSafeStateExit
  exact OutKeeps.ok (writeBool_keeps (at_keeps (by assumption)))

theorem execPairSwitchoverRequest_keeps {a s : State} {v0 v1 v2 v3} (h : Keeps a s) :
    OutKeeps a (@execPairSwitchoverRequest v0 v1 v2 v3 s) := by
  unfold execPairSwitchoverRequest
  exact OutKeeps.ok (writeBool_keeps (at_keeps (by assumption)))

theorem execIntegRun_keeps {a s : State} {v0 v1 v2 v3} (h : Keeps a s) :
    OutKeeps a (@execIntegRun v0 v1 v2 v3 s) := by
  unfold execIntegRun
  exact OutKeeps.ok (writeBool_keeps (at_keeps (by assumption)))

end Sys2Proof.Machine
end

