-- ==== Sys2Proof/Laws/KeepsF.lean ====
section
/-! SUPPORT. What the operations of these files keep, by `Keeps`: Mirror, Serve, Dispatch. -/

set_option Elab.async false

namespace Sys2Proof.Machine

theorem matchBinding_keeps {a s : State} {v1 v2 v3 v4} (h : Keeps a s) :
    Keeps a (@State.matchBinding s v1 v2 v3 v4) := by
  unfold State.matchBinding
  refine Keeps.ite ?_ ?_
  · assumption
  · extract_lets +onlyGivenNames x1
    clear_value x1
    extract_lets +onlyGivenNames x2
    have h2 : Keeps a x2 := by
      unfold x2
      refine Keeps.same (b := s) rfl rfl rfl rfl rfl rfl rfl rfl rfl ?_
      assumption
    clear_value x2
    split
    · refine Keeps.same (b := x2) rfl rfl rfl rfl rfl rfl rfl rfl rfl ?_
      assumption
    · extract_lets +onlyGivenNames x3
      clear_value x3
      extract_lets +onlyGivenNames x4
      have h4 : Keeps a x4 := by
        unfold x4
        refine Keeps.same (b := x2) rfl rfl rfl rfl rfl rfl rfl rfl rfl ?_
        assumption
      clear_value x4
      refine Keeps.ite ?_ ?_
      · exact testBit_keeps (by assumption)
      · exact failBit_keeps (inc32_keeps (by assumption))

theorem mirrorWrite_keeps {a s : State} {v1} (h : Keeps a s) :
    Keeps a (@State.mirrorWrite s v1) := by
  unfold State.mirrorWrite
  split
  · assumption
  · refine Keeps.ite ?_ ?_
    · assumption
    · extract_lets +onlyGivenNames x1
      clear_value x1
      extract_lets +onlyGivenNames x2
      clear_value x2
      extract_lets +onlyGivenNames x3
      have h3 : Keeps a x3 := by
        unfold x3
        refine Keeps.same (b := s) rfl rfl rfl rfl rfl rfl rfl rfl rfl ?_
        assumption
      clear_value x3
      exact sendLists_keeps (by assumption)

theorem mirrorValue_keeps {a s : State} {v1} (h : Keeps a s) :
    Keeps a (@State.mirrorValue s v1) := by
  unfold State.mirrorValue
  split
  · assumption
  · refine Keeps.ite ?_ ?_
    · assumption
    · exact setv_keeps (by assumption)

theorem mirrorBinding_keeps {a s : State} {v1 v2 v3 v4} (h : Keeps a s) :
    Keeps a (@State.mirrorBinding s v1 v2 v3 v4) := by
  unfold State.mirrorBinding
  extract_lets +onlyGivenNames x1
  have h1 : Keeps a x1 := by
    unfold x1
    exact inc64_keeps (setn_keeps (by assumption))
  clear_value x1
  extract_lets +onlyGivenNames x2
  clear_value x2
  extract_lets +onlyGivenNames x3
  have h3 : Keeps a x3 := by
    unfold x3
    split
    · exact addItem_keeps (by assumption)
    · extract_lets +onlyGivenNames x4
      have h4 : Keeps a x4 := by
        unfold x4
        exact takeHead_keeps (by assumption)
      clear_value x4
      split
      · exact addItem_keeps (by assumption)
      · exact bindHead_keeps (by assumption)
  clear_value x3
  extract_lets +onlyGivenNames x5
  have h5 : Keeps a x5 := by
    unfold x5
    exact journal_keeps (by assumption)
  clear_value x5
  extract_lets +onlyGivenNames x6
  have h6 : Keeps a x6 := by
    unfold x6
    split
    · exact polygonItem_keeps (abandonBars_keeps (by assumption))
    · assumption
  clear_value x6
  exact matchBinding_keeps (by assumption)

theorem mirrorReject_keeps {a s : State} {v1 v2 v3 v4} (h : Keeps a s) :
    Keeps a (@State.mirrorReject s v1 v2 v3 v4) := by
  unfold State.mirrorReject
  extract_lets +onlyGivenNames x1
  clear_value x1
  extract_lets +onlyGivenNames x2
  have h2 : Keeps a x2 := by
    unfold x2
    exact setLink_keeps (by assumption)
  clear_value x2
  split
  · exact rejectLine_keeps (by assumption)
  · assumption

theorem mirrorRes_keeps {a s : State} {v1 v2 v3} (h : Keeps a s) :
    Keeps a (@State.mirrorRes s v1 v2 v3) := by
  unfold State.mirrorRes
  extract_lets +onlyGivenNames x1
  have h1 : Keeps a x1.1 := by
    unfold x1
    exact commitRes_keeps (by assumption)
  clear_value x1
  refine Keeps.ite ?_ ?_
  · refine Keeps.foldl ?_ (fun y2 z2 h2 => ?_)
    · assumption
    · exact preResolve_keeps (by assumption)
  · assumption

theorem mirrorLedger_keeps {a s : State} {v1} (h : Keeps a s) :
    Keeps a (@State.mirrorLedger s v1) := by
  unfold State.mirrorLedger
  extract_lets +onlyGivenNames x1
  clear_value x1
  extract_lets +onlyGivenNames x2
  have h2 : Keeps a x2 := by
    unfold x2
    split
    · exact modItem_keeps (by assumption)
    · exact addItem_keeps (by assumption)
  clear_value x2
  exact journal_keeps (by assumption)

theorem mirrorApply_keeps {a s : State} {v1} (h : Keeps a s) :
    Keeps a (@State.mirrorApply s v1) := by
  unfold State.mirrorApply
  split
  · exact mirrorWrite_keeps (by assumption)
  · exact mirrorRes_keeps (by assumption)
  · split
    · exact acceptRecord_keeps (by assumption)
    · assumption
  · exact mirrorBinding_keeps (by assumption)
  · exact mirrorLedger_keeps (by assumption)
  · refine Keeps.foldl ?_ (fun y1 z1 h1 => ?_)
    · assumption
    · exact mirrorValue_keeps (by assumption)
  · exact staged_keeps (stage_keeps (by assumption))
  · exact mirrorReject_keeps (by assumption)
  · exact checkReports_keeps (by assumption)
  · exact setLoop_keeps (by assumption)
  · exact setAxis_keeps (by assumption)

theorem execMirrorFrameReceived_keeps {a s : State} {v0 v1 v2} (h : Keeps a s) :
    OutKeeps a (@execMirrorFrameReceived v0 v1 v2 s) := by
  unfold execMirrorFrameReceived
  extract_lets +onlyGivenNames x1
  have h1 : Keeps a x1 := by
    unfold x1
    exact at_keeps (by assumption)
  clear_value x1
  refine OutKeeps.ite ?_ ?_
  · exact OutKeeps.ok (by assumption)
  · extract_lets +onlyGivenNames x2
    clear_value x2
    extract_lets +onlyGivenNames x3
    clear_value x3
    extract_lets +onlyGivenNames x4
    have h4 : Keeps a x4 := by
      unfold x4
      exact setFault_keeps (by assumption)
    clear_value x4
    exact OutKeeps.ok (runReset_keeps (mirrorApply_keeps (by assumption)))

theorem execServeDoorbell_keeps {a s : State} {v0 v1} (h : Keeps a s) :
    OutKeeps a (@execServeDoorbell v0 v1 s) := by
  unfold execServeDoorbell
  extract_lets +onlyGivenNames x1
  have h1 : Keeps a x1 := by
    unfold x1
    exact at_keeps (by assumption)
  clear_value x1
  extract_lets +onlyGivenNames x2
  clear_value x2
  extract_lets +onlyGivenNames x3
  extract_lets +onlyGivenNames x4
  have h4 : Keeps a x4 := by
    unfold x4
    refine setMgmt_keeps (Nat.le_refl _) ?_
    assumption
  clear_value x4
  exact OutKeeps.ok (runReset_keeps (serveAnswer_keeps (by assumption)))

theorem scSubmit_keeps {a s : State} {v1 v2 v3} (h : Keeps a s) :
    Keeps a (@State.scSubmit s v1 v2 v3) := by
  unfold State.scSubmit
  refine setMgmt_keeps (Nat.le_refl _) ?_
  assumption

theorem execEventPush_keeps {a s : State} {v0 v1 v2 v3} (h : Keeps a s) :
    OutKeeps a (@execEventPush v0 v1 v2 v3 s) := by
  unfold execEventPush
  extract_lets +onlyGivenNames x1
  have h1 : Keeps a x1 := by
    unfold x1
    exact at_keeps (by assumption)
  clear_value x1
  refine OutKeeps.ite ?_ ?_
  · exact OutKeeps.ok (by assumption)
  · extract_lets +onlyGivenNames x2
    have h2 : Keeps a x2 := by
      unfold x2
      exact freeNext_keeps (scSubmit_keeps (by assumption))
    clear_value x2
    refine OutKeeps.ite ?_ ?_
    · exact OutKeeps.ok (integAnswer_keeps (by assumption))
    · refine OutKeeps.ite ?_ ?_
      · exact OutKeeps.ok (integAnswer_keeps (by assumption))
      · exact OutKeeps.ok (integAnswer_keeps (event_keeps (by assumption)))

theorem execOdRead_keeps {a s : State} {v0 v1 v2} (h : Keeps a s) :
    OutKeeps a (@execOdRead v0 v1 v2 s) := by
  unfold execOdRead
  extract_lets +onlyGivenNames x1
  have h1 : Keeps a x1 := by
    unfold x1
    exact at_keeps (by assumption)
  clear_value x1
  refine OutKeeps.ite ?_ ?_
  · exact OutKeeps.ok (by assumption)
  · extract_lets +onlyGivenNames x2
    have h2 : Keeps a x2 := by
      unfold x2
      exact scSubmit_keeps (by assumption)
    clear_value x2
    refine OutKeeps.ite ?_ ?_
    · exact OutKeeps.ok (integAnswer_keeps (by assumption))
    · exact OutKeeps.ok (readGo_keeps (by assumption))

theorem execOdWrite_keeps {a s : State} {v0 v1 v2} (h : Keeps a s) :
    OutKeeps a (@execOdWrite v0 v1 v2 s) := by
  unfold execOdWrite
  extract_lets +onlyGivenNames x1
  have h1 : Keeps a x1 := by
    unfold x1
    exact at_keeps (by assumption)
  clear_value x1
  refine OutKeeps.ite ?_ ?_
  · exact OutKeeps.ok (by assumption)
  · extract_lets +onlyGivenNames x2
    have h2 : Keeps a x2 := by
      unfold x2
      exact scSubmit_keeps (by assumption)
    clear_value x2
    exact OutKeeps.ok (process_keeps (by assumption))

theorem declare_keeps {a s : State} {v1} (h : Keeps a s) :
    Keeps a (@State.declare s v1) := by
  unfold State.declare
  extract_lets +onlyGivenNames x1
  clear_value x1
  refine setn_keeps ?_
  refine setMgmt_keeps (Nat.le_refl _) ?_
  assumption

theorem execDeclare_keeps {a s : State} {v0 v1 v2} (h : Keeps a s) :
    OutKeeps a (@execDeclare v0 v1 v2 s) := by
  unfold execDeclare
  extract_lets +onlyGivenNames x1
  have h1 : Keeps a x1 := by
    unfold x1
    exact at_keeps (by assumption)
  clear_value x1
  refine OutKeeps.ite ?_ ?_
  · exact OutKeeps.ok (by assumption)
  · extract_lets +onlyGivenNames x2
    have h2 : Keeps a x2 := by
      unfold x2
      exact freeNext_keeps (scSubmit_keeps (by assumption))
    clear_value x2
    split
    · exact OutKeeps.ok (integAnswer_keeps (by assumption))
    · extract_lets +onlyGivenNames x3
      clear_value x3
      refine OutKeeps.ite ?_ ?_
      · exact OutKeeps.ok (integAnswer_keeps (by assumption))
      · refine OutKeeps.ite ?_ ?_
        · exact OutKeeps.ok (integAnswer_keeps (by assumption))
        · exact OutKeeps.ok (integAnswer_keeps (declare_keeps (by assumption)))

theorem execServeTimeout_keeps {a s : State} {v0} (h : Keeps a s) :
    OutKeeps a (@execServeTimeout v0 s) := by
  unfold execServeTimeout
  exact OutKeeps.ok (runReset_keeps (serveAnswer_keeps (at_keeps (by assumption))))

theorem exec_keeps {a s : State} {v0} (h : Keeps a s) :
    OutKeeps a (@exec v0 s) := by
  unfold exec
  split
  · exact execEncoderEdge_keeps (by assumption)
  · exact execZEdge_keeps (by assumption)
  · exact execEncoderLineFault_keeps (by assumption)
  · exact execEncoderLineFaultClear_keeps (by assumption)
  · exact execEdgeOverdue_keeps (by assumption)
  · exact execCoastLimitExceeded_keeps (by assumption)
  · exact execLineTick_keeps (by assumption)
  · exact execTriggerEdge_keeps (by assumption)
  · exact execLubberMark_keeps (by assumption)
  · exact execMarkMissing_keeps (by assumption)
  · exact execCameraTrigger_keeps (by assumption)
  · exact execBarCameraTrigger_keeps (by assumption)
  · exact execCamPulseEnd_keeps (by assumption)
  · exact execRejectDecision_keeps (by assumption)
  · exact execRejPulseEnd_keeps (by assumption)
  · exact execSpeedAdvHoldExpiry_keeps (by assumption)
  · exact execDataLateReasonExpiry_keeps (by assumption)
  · exact execPllLockAcquired_keeps (by assumption)
  · exact execPllGlideDone_keeps (by assumption)
  · exact execPllLockLoss_keeps (by assumption)
  · exact execClockRangeFault_keeps (by assumption)
  · exact execCrystalFault_keeps (by assumption)
  · exact execNetLinkDown_keeps (by assumption)
  · exact execNetLinkUp_keeps (by assumption)
  · exact execSfpModuleInserted_keeps (by assumption)
  · exact execSfpModuleRemoved_keeps (by assumption)
  · exact execPauseFrame_keeps (by assumption)
  · exact execPtpEventMessage_keeps (by assumption)
  · exact execPtpSyncTimeout_keeps (by assumption)
  · exact execKlpPacket_keeps (by assumption)
  · exact execRetransmitTimeout_keeps (by assumption)
  · exact execAckDue_keeps (by assumption)
  · exact execCreditUpdateDue_keeps (by assumption)
  · exact execKeepaliveDue_keeps (by assumption)
  · exact execSessionTimeout_keeps (by assumption)
  · exact execNop_keeps (by assumption)
  · exact execOpen_keeps (by assumption)
  · exact execClose_keeps (by assumption)
  · exact execRead_keeps (by assumption)
  · exact execWrite_keeps (by assumption)
  · exact execBatch_keeps (by assumption)
  · exact execItemPut_keeps (by assumption)
  · exact execBulkOpen_keeps (by assumption)
  · exact execBulkWrite_keeps (by assumption)
  · exact execBulkCommit_keeps (by assumption)
  · exact execBulkAbort_keeps (by assumption)
  · exact execBulkDataSend_keeps (by assumption)
  · exact execSubscribeEvents_keeps (by assumption)
  · exact execSubscribeCyclic_keeps (by assumption)
  · exact execEventSend_keeps (by assumption)
  · exact execCyclicPeriod_keeps (by assumption)
  · exact execAuthLockoutExpiry_keeps (by assumption)
  · exact execPendingValueApplied_keeps (by assumption)
  · exact execChangeLogFlush_keeps (by assumption)
  · exact execChangeLogFlushDone_keeps (by assumption)
  · exact execChangeLogRelease_keeps (by assumption)
  · exact execSelfRole_keeps (by assumption)
  · exact execResetRequest_keeps (by assumption)
  · exact execResetDeadline_keeps (by assumption)
  · exact execLaneFlush_keeps (by assumption)
  · exact execNextRecordSet_keeps (by assumption)
  · exact execLedgerReset_keeps (by assumption)
  · exact execVerdictTimeout_keeps (by assumption)
  · exact execMouldDelete_keeps (by assumption)
  · exact execGlyphSetDelete_keeps (by assumption)
  · exact execCounterValueWrite_keeps (by assumption)
  · exact execSymbolEncoded_keeps (by assumption)
  · exact execLineCouched_keeps (by assumption)
  · exact execLookAheadMinClear_keeps (by assumption)
  · exact execCodecDoorbell_keeps (by assumption)
  · exact execCodecQueueEnable_keeps (by assumption)
  · exact execCodecAbort_keeps (by assumption)
  · exact execCodecJobEnd_keeps (by assumption)
  · exact execCodecBusTimeout_keeps (by assumption)
  · exact execCodecCountsReset_keeps (by assumption)
  · exact execCouchInitDone_keeps (by assumption)
  · exact execCouchScrubWriteback_keeps (by assumption)
  · exact execDramTrainingDone_keeps (by assumption)
  · exact execDramRetrain_keeps (by assumption)
  · exact execDramRefresh_keeps (by assumption)
  · exact execMr4Poll_keeps (by assumption)
  · exact execPatrolScrub_keeps (by assumption)
  · exact execDramFrozen_keeps (by assumption)
  · exact execFreezeClear_keeps (by assumption)
  · exact execDmaStart_keeps (by assumption)
  · exact execDmaResume_keeps (by assumption)
  · exact execDmaStopRequest_keeps (by assumption)
  · exact execDmaStatusRead_keeps (by assumption)
  · exact execDmaChainEnd_keeps (by assumption)
  · exact execDmaBusTimeout_keeps (by assumption)
  · exact execDmaDrainEnd_keeps (by assumption)
  · exact execBusErrorClear_keeps (by assumption)
  · exact execDmaCountsReset_keeps (by assumption)
  · exact execRegisterWrite_keeps (by assumption)
  · exact execBackStatus_keeps (by assumption)
  · exact execBackReject_keeps (by assumption)
  · exact execBackIdentity_keeps (by assumption)
  · exact execBackAck_keeps (by assumption)
  · exact execBackFrameBad_keeps (by assumption)
  · exact execBackChannelSilent_keeps (by assumption)
  · exact execIdentifyTimeout_keeps (by assumption)
  · exact execLoadWriteTimeout_keeps (by assumption)
  · exact execGateClosed_keeps (by assumption)
  · exact execGateOpened_keeps (by assumption)
  · exact execWaveSlotWrite_keeps (by assumption)
  · exact execDropCountAccumulate_keeps (by assumption)
  · exact execDropCheckpoint_keeps (by assumption)
  · exact execDropCountsReset_keeps (by assumption)
  · exact execInspectionComplete_keeps (by assumption)
  · exact execBarEvaluated_keeps (by assumption)
  · exact execStagingComplete_keeps (by assumption)
  · exact execMapSaved_keeps (by assumption)
  · exact execMapEntryWrite_keeps (by assumption)
  · exact execMapResetLearned_keeps (by assumption)
  · exact execCsiFrameStart_keeps (by assumption)
  · exact execCsiLongPacket_keeps (by assumption)
  · exact execCsiFrameEnd_keeps (by assumption)
  · exact execFrameForcedEnd_keeps (by assumption)
  · exact execCamTriggerLost_keeps (by assumption)
  · exact execSettingsSetArmed_keeps (by assumption)
  · exact execSensorWindowTimeout_keeps (by assumption)
  · exact execI2cNack_keeps (by assumption)
  · exact execI2cStretchTimeout_keeps (by assumption)
  · exact execI2cReadReg_keeps (by assumption)
  · exact execCamResetRelease_keeps (by assumption)
  · exact execBdEdge_keeps (by assumption)
  · exact execBdTimeout_keeps (by assumption)
  · exact execLaserIlkLow_keeps (by assumption)
  · exact execBeamCountsReset_keeps (by assumption)
  · exact execPwmPeriodBoundary_keeps (by assumption)
  · exact execFocStep_keeps (by assumption)
  · exact execDriverFault_keeps (by assumption)
  · exact execSensingComplete_keeps (by assumption)
  · exact execKeAbnormal_keeps (by assumption)
  · exact execBrakeHoldDone_keeps (by assumption)
  · exact execBrakeTimeout_keeps (by assumption)
  · exact execStartTimeout_keeps (by assumption)
  · exact execRecatchDelayExpiry_keeps (by assumption)
  · exact execAxisEnable_keeps (by assumption)
  · exact execLoopSampleTick_keeps (by assumption)
  · exact execLoopEnable_keeps (by assumption)
  · exact execSlowAdcRound_keeps (by assumption)
  · exact execFastAdcRound_keeps (by assumption)
  · exact execTdSample_keeps (by assumption)
  · exact execPulseInEdge_keeps (by assumption)
  · exact execPulseTimeout_keeps (by assumption)
  · exact execMetPdEdge_keeps (by assumption)
  · exact execWeighingWindowEnd_keeps (by assumption)
  · exact execSealedRecord_keeps (by assumption)
  · exact execSealOpened_keeps (by assumption)
  · exact execSealClosed_keeps (by assumption)
  · exact execZeroRequest_keeps (by assumption)
  · exact execZeroTracking_keeps (by assumption)
  · exact execIslandBootComplete_keeps (by assumption)
  · exact execModulatorSilent_keeps (by assumption)
  · exact execIslandWatchdog_keeps (by assumption)
  · exact execWakeOnRequest_keeps (by assumption)
  · exact execWakeOffRequest_keeps (by assumption)
  · exact execPowerOffRequest_keeps (by assumption)
  · exact execSeqEnableDelayExpiry_keeps (by assumption)
  · exact execSeqChannelSettled_keeps (by assumption)
  · exact execSeqUpTimeout_keeps (by assumption)
  · exact execSeqDisableDelayExpiry_keeps (by assumption)
  · exact execSeqChannelDown_keeps (by assumption)
  · exact execSeqDownTimeout_keeps (by assumption)
  · exact execSeqWindowLost_keeps (by assumption)
  · exact execSeqFaultClear_keeps (by assumption)
  · exact execMinOffTimeExpiry_keeps (by assumption)
  · exact execMarginRampStep_keeps (by assumption)
  · exact execSupplyWarning_keeps (by assumption)
  · exact execPowerStop_keeps (by assumption)
  · exact execSupplyWarningCleared_keeps (by assumption)
  · exact execMainSupplyPowerOn_keeps (by assumption)
  · exact execJournalProgram_keeps (by assumption)
  · exact execStateCheckpoint_keeps (by assumption)
  · exact execHoldupJournalProgrammed_keeps (by assumption)
  · exact execHoldupBodyProgrammed_keeps (by assumption)
  · exact execHoldupStopProgrammed_keeps (by assumption)
  · exact execHoldupSectorErased_keeps (by assumption)
  · exact execFaultSourceActive_keeps (by assumption)
  · exact execFaultSourceInactive_keeps (by assumption)
  · exact execFaultNPulseEnd_keeps (by assumption)
  · exact execFaultClear_keeps (by assumption)
  · exact execFaultInject_keeps (by assumption)
  · exact execFaultSelfTestTurn_keeps (by assumption)
  · exact execActionWrite_keeps (by assumption)
  · exact execCollectorSelfFault_keeps (by assumption)
  · exact execGroupRecovered_keeps (by assumption)
  · exact execRecoveryCountReset_keeps (by assumption)
  · exact execSafeStateExit_keeps (by assumption)
  · exact execHeartbeatSend_keeps (by assumption)
  · exact execHeartbeatReceived_keeps (by assumption)
  · exact execMirrorFrameReceived_keeps (by assumption)
  · exact execRelinquishReceived_keeps (by assumption)
  · exact execPartnerLossTimeout_keeps (by assumption)
  · exact execTakeoverComplete_keeps (by assumption)
  · exact execPairFenceInLow_keeps (by assumption)
  · exact execPairFenceInHigh_keeps (by assumption)
  · exact execPairSeekTimeout_keeps (by assumption)
  · exact execSyncComplete_keeps (by assumption)
  · exact execPairSwitchoverRequest_keeps (by assumption)
  · exact execWatchdogExpiry_keeps (by assumption)
  · exact execFirmwareImageWritten_keeps (by assumption)
  · exact execUpdateConfirm_keeps (by assumption)
  · exact execAutoConfirmExpiry_keeps (by assumption)
  · exact execUpdateActivate_keeps (by assumption)
  · exact execIntegRun_keeps (by assumption)
  · exact execOdRead_keeps (by assumption)
  · exact execOdWrite_keeps (by assumption)
  · exact execDeclare_keeps (by assumption)
  · exact execEventPush_keeps (by assumption)
  · exact execScRespRead_keeps (by assumption)
  · exact execServeDoorbell_keeps (by assumption)
  · exact execServeTimeout_keeps (by assumption)
  · exact execWdtKick_keeps (by assumption)
  · exact execIntegWatchdogExpiry_keeps (by assumption)
  · exact execIntegRestartDelayExpiry_keeps (by assumption)
  · exact execIntegTimerInterrupt_keeps (by assumption)
  · exact execFlashProgramComplete_keeps (by assumption)
  · exact execIntegImageLoaded_keeps (by assumption)
  · exact execPdMetroSupplyFault_keeps (by assumption)
  · exact execMirrorLaneLockLost_keeps (by assumption)
  · exact execMirrorLaneLockRegained_keeps (by assumption)
  · exact execTriggerCounterpartTimeout_keeps (by assumption)
  · exact execSupplyGlitch_keeps (by assumption)
  · exact execMainInputQualified_keeps (by assumption)
  · exact execHoldUpExhausted_keeps (by assumption)
  · exact execNetrefFault_keeps (by assumption)
  · exact execPtpGeneralMessage_keeps (by assumption)

end Sys2Proof.Machine
end

