-- ==== Sys2Proof/Laws/Touch.lean ====
section
/-! SUPPORT. Which parts of the state an operation may change: `Touch m a b` says that `b` differs from `a` at most in
the parts whose bits `m` sets (`Part.idx`), and the laws by which it is shown of every operation. -/

set_option Elab.async false

namespace Sys2Proof.Machine

/-- `b` differs from `a` at most in the parts that `m` names. -/
structure Touch (m : Nat) (a b : State) : Prop where
  objects : m.testBit 0 = true ∨ b.od.vals = a.od.vals := by exact .inr rfl
  waiting : m.testBit 1 = true ∨ b.waitingPart = a.waitingPart := by exact .inr rfl
  durable : m.testBit 2 = true ∨ b.durablePart = a.durablePart := by exact .inr rfl
  changeLog : m.testBit 3 = true ∨ b.log = a.log := by exact .inr rfl
  sessions : m.testBit 4 = true ∨ b.net.sess = a.net.sess := by exact .inr rfl
  network : m.testBit 5 = true ∨ b.networkPart = a.networkPart := by exact .inr rfl
  ptp : m.testBit 6 = true ∨ b.net.ptp = a.net.ptp := by exact .inr rfl
  web : m.testBit 7 = true ∨ b.web = a.web := by exact .inr rfl
  queues : m.testBit 8 = true ∨ b.queuesPart = a.queuesPart := by exact .inr rfl
  items : m.testBit 9 = true ∨ b.lane.items = a.lane.items := by exact .inr rfl
  results : m.testBit 10 = true ∨ b.lane.results = a.lane.results := by exact .inr rfl
  gates : m.testBit 11 = true ∨ b.lane.gates = a.lane.gates := by exact .inr rfl
  journal : m.testBit 12 = true ∨ b.jrn = a.jrn := by exact .inr rfl
  compositor : m.testBit 13 = true ∨ b.comp = a.comp := by exact .inr rfl
  firing : m.testBit 14 = true ∨ b.firingPart = a.firingPart := by exact .inr rfl
  links : m.testBit 15 = true ∨ b.fire.links = a.fire.links := by exact .inr rfl
  inspection : m.testBit 16 = true ∨ b.insp = a.insp := by exact .inr rfl
  cameras : m.testBit 17 = true ∨ b.img = a.img := by exact .inr rfl
  beam : m.testBit 18 = true ∨ b.beam = a.beam := by exact .inr rfl
  codec : m.testBit 19 = true ∨ b.codecPart = a.codecPart := by exact .inr rfl
  dma : m.testBit 20 = true ∨ b.dmaPart = a.dmaPart := by exact .inr rfl
  memory : m.testBit 21 = true ∨ b.mem = a.mem := by exact .inr rfl
  island : m.testBit 22 = true ∨ b.met = a.met := by exact .inr rfl
  power : m.testBit 23 = true ∨ b.power = a.power := by exact .inr rfl
  faults : m.testBit 24 = true ∨ b.faultsPart = a.faultsPart := by exact .inr rfl
  pair : m.testBit 25 = true ∨ b.pairPart = a.pairPart := by exact .inr rfl
  firmware : m.testBit 26 = true ∨ b.firmwarePart = a.firmwarePart := by exact .inr rfl
  integrator : m.testBit 27 = true ∨ b.integratorPart = a.integratorPart := by exact .inr rfl
  plls : m.testBit 28 = true ∨ b.clk = a.clk := by exact .inr rfl
  axes : m.testBit 29 = true ∨ b.ctl.axes = a.ctl.axes := by exact .inr rfl
  loops : m.testBit 30 = true ∨ b.ctl.loops = a.ctl.loops := by exact .inr rfl
  sensors : m.testBit 31 = true ∨ b.sensorsPart = a.sensorsPart := by exact .inr rfl
  free : m.testBit 32 = true ∨ b.freeCtr = a.freeCtr := by exact .inr rfl

/-- An outcome whose next state, if it has one, differs at most in the parts that `m` names. -/
def OutTouch (m : Nat) (a : State) (o : Host.Outcome State Fault Refusal) : Prop := ∀ u, o = .next u → Touch m a u

theorem Touch.refl {m : Nat} {a : State} : Touch m a a := {}

theorem or_trans {α : Type} {p q r : Prop} {x y z : α} (h1 : p ∨ y = x) (h2 : q ∨ z = y) (hp : p → r) (hq : q → r) :
    r ∨ z = x := by
  rcases h1 with h1 | h1
  · exact .inl (hp h1)
  · rcases h2 with h2 | h2
    · exact .inl (hq h2)
    · exact .inr (h2.trans h1)

theorem bit_mono {k m i : Nat} (h : k &&& m = k) (hb : k.testBit i = true) : m.testBit i = true := by
  rw [← h, Nat.testBit_and] at hb
  exact (Bool.and_eq_true _ _ ▸ hb).2

theorem Touch.step {k m : Nat} {a b c : State} (h2 : Touch k b c) (hk : k &&& m = k) (h1 : Touch m a b) :
    Touch m a c where
  objects := or_trans h1.objects h2.objects id (bit_mono hk)
  waiting := or_trans h1.waiting h2.waiting id (bit_mono hk)
  durable := or_trans h1.durable h2.durable id (bit_mono hk)
  changeLog := or_trans h1.changeLog h2.changeLog id (bit_mono hk)
  sessions := or_trans h1.sessions h2.sessions id (bit_mono hk)
  network := or_trans h1.network h2.network id (bit_mono hk)
  ptp := or_trans h1.ptp h2.ptp id (bit_mono hk)
  web := or_trans h1.web h2.web id (bit_mono hk)
  queues := or_trans h1.queues h2.queues id (bit_mono hk)
  items := or_trans h1.items h2.items id (bit_mono hk)
  results := or_trans h1.results h2.results id (bit_mono hk)
  gates := or_trans h1.gates h2.gates id (bit_mono hk)
  journal := or_trans h1.journal h2.journal id (bit_mono hk)
  compositor := or_trans h1.compositor h2.compositor id (bit_mono hk)
  firing := or_trans h1.firing h2.firing id (bit_mono hk)
  links := or_trans h1.links h2.links id (bit_mono hk)
  inspection := or_trans h1.inspection h2.inspection id (bit_mono hk)
  cameras := or_trans h1.cameras h2.cameras id (bit_mono hk)
  beam := or_trans h1.beam h2.beam id (bit_mono hk)
  codec := or_trans h1.codec h2.codec id (bit_mono hk)
  dma := or_trans h1.dma h2.dma id (bit_mono hk)
  memory := or_trans h1.memory h2.memory id (bit_mono hk)
  island := or_trans h1.island h2.island id (bit_mono hk)
  power := or_trans h1.power h2.power id (bit_mono hk)
  faults := or_trans h1.faults h2.faults id (bit_mono hk)
  pair := or_trans h1.pair h2.pair id (bit_mono hk)
  firmware := or_trans h1.firmware h2.firmware id (bit_mono hk)
  integrator := or_trans h1.integrator h2.integrator id (bit_mono hk)
  plls := or_trans h1.plls h2.plls id (bit_mono hk)
  axes := or_trans h1.axes h2.axes id (bit_mono hk)
  loops := or_trans h1.loops h2.loops id (bit_mono hk)
  sensors := or_trans h1.sensors h2.sensors id (bit_mono hk)
  free := or_trans h1.free h2.free id (bit_mono hk)

theorem Touch.trans {m : Nat} {a b c : State} (h1 : Touch m a b) (h2 : Touch m b c) : Touch m a c :=
  h2.step (Nat.and_self m) h1

theorem Touch.ite {m : Nat} {a b c : State} {p : Prop} [Decidable p] (h1 : Touch m a b) (h2 : Touch m a c) :
    Touch m a (if p then b else c) := by split <;> assumption

theorem Touch.dite {m : Nat} {a : State} {p : Prop} [Decidable p] {b : p → State} {c : ¬p → State}
    (h1 : ∀ h, Touch m a (b h)) (h2 : ∀ h, Touch m a (c h)) : Touch m a (if h : p then b h else c h) := by
  split
  · exact h1 _
  · exact h2 _

theorem Touch.foldl {m : Nat} {a b : State} {β : Type} {f : State → β → State} {l : List β} (h : Touch m a b)
    (hf : ∀ x y, Touch m a x → Touch m a (f x y)) : Touch m a (l.foldl f b) := by
  induction l generalizing b with
  | nil => exact h
  | cons y l ih => exact ih (hf b y h)

theorem OutTouch.ok {m : Nat} {a b : State} (h : Touch m a b) : OutTouch m a (ok b) := by
  intro u hu
  injection hu with hu
  exact hu ▸ h

theorem OutTouch.ite {m : Nat} {a : State} {o p : Host.Outcome State Fault Refusal} {q : Prop} [Decidable q]
    (h1 : OutTouch m a o) (h2 : OutTouch m a p) : OutTouch m a (if q then o else p) := by split <;> assumption

theorem OutTouch.step {k m : Nat} {a b : State} {o : Host.Outcome State Fault Refusal} (h2 : OutTouch k b o)
    (hk : k &&& m = k) (h1 : Touch m a b) : OutTouch m a o := fun u hu => (h2 u hu).step hk h1

theorem Touch.setFire {m : Nat} {a b : State} {v} (h_firing : m.testBit 14 = true ∨ (v.nozzles, v.acc, v.line,
    v.flown, v.ticked, v.low, v.shadow, v.gateHeld, v.ckptNozzles, v.ckptVals) = (b.fire.nozzles, b.fire.acc,
    b.fire.line, b.fire.flown, b.fire.ticked, b.fire.low, b.fire.shadow, b.fire.gateHeld, b.fire.ckptNozzles,
    b.fire.ckptVals)) (h_links : m.testBit 15 = true ∨ v.links = b.fire.links) (h : Touch m a b) : Touch m a
    (b.setFire v) :=
  h.trans { firing := h_firing, links := h_links }

theorem Touch.setMgmt {m : Nat} {a b : State} {v} (h_firmware : m.testBit 26 = true ∨ (v.dirs, v.slots,
    v.recovery, v.fuses, v.update, v.integImage) = (b.mgmt.dirs, b.mgmt.slots, b.mgmt.recovery, b.mgmt.fuses,
    b.mgmt.update, b.mgmt.integImage)) (h_integrator : m.testBit 27 = true ∨ (v.declared, v.scReq, v.scResp,
    v.scBusy, v.scReady, v.serveReq, v.serveResp, v.serves, v.timerCmp, v.timerIrq, v.kicked, v.locals) =
    (b.mgmt.declared, b.mgmt.scReq, b.mgmt.scResp, b.mgmt.scBusy, b.mgmt.scReady, b.mgmt.serveReq,
    b.mgmt.serveResp, b.mgmt.serves, b.mgmt.timerCmp, b.mgmt.timerIrq, b.mgmt.kicked, b.mgmt.locals)) (h :
    Touch m a b) : Touch m a (b.setMgmt v) :=
  h.trans { firmware := h_firmware, integrator := h_integrator }

theorem Touch.setFault {m : Nat} {a b : State} {v} (h_faults : m.testBit 24 = true ∨ (v.sources, v.actions,
    v.kept, v.quiet, v.pulseEnd, v.testNext, v.hiZ) = (b.fault.sources, b.fault.actions, b.fault.kept,
    b.fault.quiet, b.fault.pulseEnd, b.fault.testNext, b.fault.hiZ)) (h_pair : m.testBit 25 = true ∨
    (v.mirrorSent, v.mirrorRx, v.applying, v.partnerRx, v.held, v.shadow, v.unbound, v.lastHeart, v.partner,
    v.partnerHealth, v.partnerFired, v.laneUp, v.takeAt, v.gapFrom, v.fenceOut, v.fenceIn, v.actOut,
    v.partnerPos, v.sent, v.lags, v.encMiss, v.passes) = (b.fault.mirrorSent, b.fault.mirrorRx,
    b.fault.applying, b.fault.partnerRx, b.fault.held, b.fault.shadow, b.fault.unbound, b.fault.lastHeart,
    b.fault.partner, b.fault.partnerHealth, b.fault.partnerFired, b.fault.laneUp, b.fault.takeAt,
    b.fault.gapFrom, b.fault.fenceOut, b.fault.fenceIn, b.fault.actOut, b.fault.partnerPos, b.fault.sent,
    b.fault.lags, b.fault.encMiss, b.fault.passes)) (h : Touch m a b) : Touch m a (b.setFault v) :=
  h.trans { faults := h_faults, pair := h_pair }

theorem not_true_of_false {b : Bool} (h : b = false) : ¬b = true := by rw [h]; decide

theorem Touch.objects_same {m : Nat} {a b : State} (h : Touch m a b) (hm : m.testBit 0 = false) :
    b.od.vals = a.od.vals := h.objects.resolve_left (not_true_of_false hm)

theorem Touch.waiting_same {m : Nat} {a b : State} (h : Touch m a b) (hm : m.testBit 1 = false) :
    b.waitingPart = a.waitingPart := h.waiting.resolve_left (not_true_of_false hm)

theorem Touch.durable_same {m : Nat} {a b : State} (h : Touch m a b) (hm : m.testBit 2 = false) :
    b.durablePart = a.durablePart := h.durable.resolve_left (not_true_of_false hm)

theorem Touch.changeLog_same {m : Nat} {a b : State} (h : Touch m a b) (hm : m.testBit 3 = false) :
    b.log = a.log := h.changeLog.resolve_left (not_true_of_false hm)

theorem Touch.sessions_same {m : Nat} {a b : State} (h : Touch m a b) (hm : m.testBit 4 = false) :
    b.net.sess = a.net.sess := h.sessions.resolve_left (not_true_of_false hm)

theorem Touch.network_same {m : Nat} {a b : State} (h : Touch m a b) (hm : m.testBit 5 = false) :
    b.networkPart = a.networkPart := h.network.resolve_left (not_true_of_false hm)

theorem Touch.ptp_same {m : Nat} {a b : State} (h : Touch m a b) (hm : m.testBit 6 = false) :
    b.net.ptp = a.net.ptp := h.ptp.resolve_left (not_true_of_false hm)

theorem Touch.web_same {m : Nat} {a b : State} (h : Touch m a b) (hm : m.testBit 7 = false) :
    b.web = a.web := h.web.resolve_left (not_true_of_false hm)

theorem Touch.queues_same {m : Nat} {a b : State} (h : Touch m a b) (hm : m.testBit 8 = false) :
    b.queuesPart = a.queuesPart := h.queues.resolve_left (not_true_of_false hm)

theorem Touch.items_same {m : Nat} {a b : State} (h : Touch m a b) (hm : m.testBit 9 = false) :
    b.lane.items = a.lane.items := h.items.resolve_left (not_true_of_false hm)

theorem Touch.results_same {m : Nat} {a b : State} (h : Touch m a b) (hm : m.testBit 10 = false) :
    b.lane.results = a.lane.results := h.results.resolve_left (not_true_of_false hm)

theorem Touch.gates_same {m : Nat} {a b : State} (h : Touch m a b) (hm : m.testBit 11 = false) :
    b.lane.gates = a.lane.gates := h.gates.resolve_left (not_true_of_false hm)

theorem Touch.journal_same {m : Nat} {a b : State} (h : Touch m a b) (hm : m.testBit 12 = false) :
    b.jrn = a.jrn := h.journal.resolve_left (not_true_of_false hm)

theorem Touch.compositor_same {m : Nat} {a b : State} (h : Touch m a b) (hm : m.testBit 13 = false) :
    b.comp = a.comp := h.compositor.resolve_left (not_true_of_false hm)

theorem Touch.firing_same {m : Nat} {a b : State} (h : Touch m a b) (hm : m.testBit 14 = false) :
    b.firingPart = a.firingPart := h.firing.resolve_left (not_true_of_false hm)

theorem Touch.links_same {m : Nat} {a b : State} (h : Touch m a b) (hm : m.testBit 15 = false) :
    b.fire.links = a.fire.links := h.links.resolve_left (not_true_of_false hm)

theorem Touch.inspection_same {m : Nat} {a b : State} (h : Touch m a b) (hm : m.testBit 16 = false) :
    b.insp = a.insp := h.inspection.resolve_left (not_true_of_false hm)

theorem Touch.cameras_same {m : Nat} {a b : State} (h : Touch m a b) (hm : m.testBit 17 = false) :
    b.img = a.img := h.cameras.resolve_left (not_true_of_false hm)

theorem Touch.beam_same {m : Nat} {a b : State} (h : Touch m a b) (hm : m.testBit 18 = false) :
    b.beam = a.beam := h.beam.resolve_left (not_true_of_false hm)

theorem Touch.codec_same {m : Nat} {a b : State} (h : Touch m a b) (hm : m.testBit 19 = false) :
    b.codecPart = a.codecPart := h.codec.resolve_left (not_true_of_false hm)

theorem Touch.dma_same {m : Nat} {a b : State} (h : Touch m a b) (hm : m.testBit 20 = false) :
    b.dmaPart = a.dmaPart := h.dma.resolve_left (not_true_of_false hm)

theorem Touch.memory_same {m : Nat} {a b : State} (h : Touch m a b) (hm : m.testBit 21 = false) :
    b.mem = a.mem := h.memory.resolve_left (not_true_of_false hm)

theorem Touch.island_same {m : Nat} {a b : State} (h : Touch m a b) (hm : m.testBit 22 = false) :
    b.met = a.met := h.island.resolve_left (not_true_of_false hm)

theorem Touch.power_same {m : Nat} {a b : State} (h : Touch m a b) (hm : m.testBit 23 = false) :
    b.power = a.power := h.power.resolve_left (not_true_of_false hm)

theorem Touch.faults_same {m : Nat} {a b : State} (h : Touch m a b) (hm : m.testBit 24 = false) :
    b.faultsPart = a.faultsPart := h.faults.resolve_left (not_true_of_false hm)

theorem Touch.pair_same {m : Nat} {a b : State} (h : Touch m a b) (hm : m.testBit 25 = false) :
    b.pairPart = a.pairPart := h.pair.resolve_left (not_true_of_false hm)

theorem Touch.firmware_same {m : Nat} {a b : State} (h : Touch m a b) (hm : m.testBit 26 = false) :
    b.firmwarePart = a.firmwarePart := h.firmware.resolve_left (not_true_of_false hm)

theorem Touch.integrator_same {m : Nat} {a b : State} (h : Touch m a b) (hm : m.testBit 27 = false) :
    b.integratorPart = a.integratorPart := h.integrator.resolve_left (not_true_of_false hm)

theorem Touch.plls_same {m : Nat} {a b : State} (h : Touch m a b) (hm : m.testBit 28 = false) :
    b.clk = a.clk := h.plls.resolve_left (not_true_of_false hm)

theorem Touch.axes_same {m : Nat} {a b : State} (h : Touch m a b) (hm : m.testBit 29 = false) :
    b.ctl.axes = a.ctl.axes := h.axes.resolve_left (not_true_of_false hm)

theorem Touch.loops_same {m : Nat} {a b : State} (h : Touch m a b) (hm : m.testBit 30 = false) :
    b.ctl.loops = a.ctl.loops := h.loops.resolve_left (not_true_of_false hm)

theorem Touch.sensors_same {m : Nat} {a b : State} (h : Touch m a b) (hm : m.testBit 31 = false) :
    b.sensorsPart = a.sensorsPart := h.sensors.resolve_left (not_true_of_false hm)

theorem Touch.free_same {m : Nat} {a b : State} (h : Touch m a b) (hm : m.testBit 32 = false) :
    b.freeCtr = a.freeCtr := h.free.resolve_left (not_true_of_false hm)

end Sys2Proof.Machine
end

