-- ==== Sys2Proof/Laws/Objects.lean ====
section
/-! SUPPORT. The laws of the objects of the dictionary: what a read answers after a write of the same object or of
another, and that an operation which does not touch the objects leaves every one as it was. -/

set_option Elab.async false

namespace Sys2Proof.Machine

theorem State.ov_setv (s : State) (k j : Nat) (v : OVal) : (s.setv k v).ov j = if j = k then v else s.ov j := by
  by_cases e : j = k
  · subst e
    simp only [State.ov, State.setv, kvGet_kvSet_same, if_true]
  · simp only [State.ov, State.setv, kvGet_kvSet_ne _ _ e, e, if_false]

theorem State.ov_of_vals {a b : State} (h : b.od.vals = a.od.vals) (k : Nat) : b.ov k = a.ov k := by
  unfold State.ov
  rw [h]

/-- An operation that does not touch the objects leaves each as it was. -/
theorem Touch.ov {m : Nat} {a b : State} (h : Touch m a b) (hm : m.testBit 0 = false) (k : Nat) : b.ov k = a.ov k := by
  rcases h.objects with h | h
  · rw [hm] at h
    exact absurd h (by decide)
  · exact State.ov_of_vals h k

@[simp] theorem State.ov_setv_same (s : State) (k : Nat) (v : OVal) : (s.setv k v).ov k = v := by
  rw [State.ov_setv, if_pos rfl]

@[simp] theorem State.ov_setv_ne (s : State) {k j : Nat} (v : OVal) (h : j ≠ k) : (s.setv k v).ov j = s.ov j := by
  rw [State.ov_setv, if_neg h]

@[simp] theorem State.on_setn_same (s : State) (k n : Nat) : (s.setn k n).on k = n := by
  simp [State.on, State.setn, OVal.toInt]

@[simp] theorem State.oi_seti_same (s : State) (k : Nat) (i : Int) : (s.seti k i).oi k = i := by
  simp [State.oi, State.seti, OVal.toInt]

@[simp] theorem State.ob_setb_same (s : State) (k : Nat) (b : Bool) : (s.setb k b).ob k = b := by
  cases b <;> simp [State.ob, State.setb, OVal.toInt, b2i]

@[simp] theorem State.ov_setn_ne (s : State) {k j : Nat} (n : Nat) (h : j ≠ k) : (s.setn k n).ov j = s.ov j :=
  s.ov_setv_ne _ h

@[simp] theorem State.ov_seti_ne (s : State) {k j : Nat} (i : Int) (h : j ≠ k) : (s.seti k i).ov j = s.ov j :=
  s.ov_setv_ne _ h

@[simp] theorem State.ov_setb_ne (s : State) {k j : Nat} (b : Bool) (h : j ≠ k) : (s.setb k b).ov j = s.ov j :=
  s.ov_setv_ne _ h

@[simp] theorem State.ov_bump_ne (s : State) {k j : Nat} (bits n : Nat) (h : j ≠ k) : (s.bump k bits n).ov j = s.ov j :=
  s.ov_setn_ne _ h

@[simp] theorem State.ov_inc32_ne (s : State) {k j : Nat} (h : j ≠ k) : (s.inc32 k).ov j = s.ov j := s.ov_bump_ne 32 1 h

@[simp] theorem State.ov_inc64_ne (s : State) {k j : Nat} (h : j ≠ k) : (s.inc64 k).ov j = s.ov j := s.ov_bump_ne 64 1 h

@[simp] theorem State.on_bump_same (s : State) (k bits n : Nat) : (s.bump k bits n).on k = (s.on k + n) % 2 ^ bits := by
  simp [State.bump]

@[simp] theorem State.on_inc32_same (s : State) (k : Nat) : (s.inc32 k).on k = (s.on k + 1) % 2 ^ 32 := by
  simp [State.inc32]

@[simp] theorem State.on_inc64_same (s : State) (k : Nat) : (s.inc64 k).on k = (s.on k + 1) % 2 ^ 64 := by
  simp [State.inc64]

theorem State.on_of_ov {a b : State} {k : Nat} (h : b.ov k = a.ov k) : b.on k = a.on k := by
  unfold State.on
  rw [h]

theorem State.oi_of_ov {a b : State} {k : Nat} (h : b.ov k = a.ov k) : b.oi k = a.oi k := by
  unfold State.oi
  rw [h]

theorem State.ob_of_ov {a b : State} {k : Nat} (h : b.ov k = a.ov k) : b.ob k = a.ob k := by
  unfold State.ob
  rw [h]

@[simp] theorem State.ov_atTime (s : State) (t k : Nat) : (s.atTime t).ov k = s.ov k := rfl

@[simp] theorem State.on_setn_ne (s : State) {k j : Nat} (n : Nat) (h : j ≠ k) : (s.setn k n).on j = s.on j :=
  State.on_of_ov (s.ov_setn_ne _ h)
@[simp] theorem State.ob_setn_ne (s : State) {k j : Nat} (n : Nat) (h : j ≠ k) : (s.setn k n).ob j = s.ob j :=
  State.ob_of_ov (s.ov_setn_ne _ h)
@[simp] theorem State.oi_setn_ne (s : State) {k j : Nat} (n : Nat) (h : j ≠ k) : (s.setn k n).oi j = s.oi j :=
  State.oi_of_ov (s.ov_setn_ne _ h)
@[simp] theorem State.on_setb_ne (s : State) {k j : Nat} (n : Bool) (h : j ≠ k) : (s.setb k n).on j = s.on j :=
  State.on_of_ov (s.ov_setb_ne _ h)
@[simp] theorem State.ob_setb_ne (s : State) {k j : Nat} (n : Bool) (h : j ≠ k) : (s.setb k n).ob j = s.ob j :=
  State.ob_of_ov (s.ov_setb_ne _ h)
@[simp] theorem State.oi_setb_ne (s : State) {k j : Nat} (n : Bool) (h : j ≠ k) : (s.setb k n).oi j = s.oi j :=
  State.oi_of_ov (s.ov_setb_ne _ h)
@[simp] theorem State.on_seti_ne (s : State) {k j : Nat} (n : Int) (h : j ≠ k) : (s.seti k n).on j = s.on j :=
  State.on_of_ov (s.ov_seti_ne _ h)
@[simp] theorem State.ob_seti_ne (s : State) {k j : Nat} (n : Int) (h : j ≠ k) : (s.seti k n).ob j = s.ob j :=
  State.ob_of_ov (s.ov_seti_ne _ h)
@[simp] theorem State.oi_seti_ne (s : State) {k j : Nat} (n : Int) (h : j ≠ k) : (s.seti k n).oi j = s.oi j :=
  State.oi_of_ov (s.ov_seti_ne _ h)
@[simp] theorem State.on_setv_ne (s : State) {k j : Nat} (n : OVal) (h : j ≠ k) : (s.setv k n).on j = s.on j :=
  State.on_of_ov (s.ov_setv_ne _ h)
@[simp] theorem State.ob_setv_ne (s : State) {k j : Nat} (n : OVal) (h : j ≠ k) : (s.setv k n).ob j = s.ob j :=
  State.ob_of_ov (s.ov_setv_ne _ h)
@[simp] theorem State.oi_setv_ne (s : State) {k j : Nat} (n : OVal) (h : j ≠ k) : (s.setv k n).oi j = s.oi j :=
  State.oi_of_ov (s.ov_setv_ne _ h)
@[simp] theorem State.on_inc32_ne (s : State) {k j : Nat} (h : j ≠ k) : (s.inc32 k ).on j = s.on j :=
  State.on_of_ov (s.ov_inc32_ne h)
@[simp] theorem State.ob_inc32_ne (s : State) {k j : Nat} (h : j ≠ k) : (s.inc32 k ).ob j = s.ob j :=
  State.ob_of_ov (s.ov_inc32_ne h)
@[simp] theorem State.oi_inc32_ne (s : State) {k j : Nat} (h : j ≠ k) : (s.inc32 k ).oi j = s.oi j :=
  State.oi_of_ov (s.ov_inc32_ne h)
@[simp] theorem State.on_inc64_ne (s : State) {k j : Nat} (h : j ≠ k) : (s.inc64 k ).on j = s.on j :=
  State.on_of_ov (s.ov_inc64_ne h)
@[simp] theorem State.ob_inc64_ne (s : State) {k j : Nat} (h : j ≠ k) : (s.inc64 k ).ob j = s.ob j :=
  State.ob_of_ov (s.ov_inc64_ne h)
@[simp] theorem State.oi_inc64_ne (s : State) {k j : Nat} (h : j ≠ k) : (s.inc64 k ).oi j = s.oi j :=
  State.oi_of_ov (s.ov_inc64_ne h)
@[simp] theorem State.on_bump_ne (s : State) {k j : Nat} (b n : Nat) (h : j ≠ k) : (s.bump k b n).on j = s.on j :=
  State.on_of_ov (s.ov_bump_ne _ _ h)
@[simp] theorem State.ob_bump_ne (s : State) {k j : Nat} (b n : Nat) (h : j ≠ k) : (s.bump k b n).ob j = s.ob j :=
  State.ob_of_ov (s.ov_bump_ne _ _ h)
@[simp] theorem State.oi_bump_ne (s : State) {k j : Nat} (b n : Nat) (h : j ≠ k) : (s.bump k b n).oi j = s.oi j :=
  State.oi_of_ov (s.ov_bump_ne _ _ h)
@[simp] theorem State.oi_setn_same (s : State) (k n : Nat) : (s.setn k n).oi k = n :=
  by simp [State.oi, State.setn, OVal.toInt]
@[simp] theorem State.ov_setn_same (s : State) (k n : Nat) : (s.setn k n).ov k = .int n :=
  by simp [State.setn]
@[simp] theorem State.ov_setb_same (s : State) (k : Nat) (b) : (s.setb k b).ov k = .int (b2i b) :=
  by simp [State.setb]
@[simp] theorem State.ov_seti_same (s : State) (k : Nat) (b) : (s.seti k b).ov k = .int b :=
  by simp [State.seti]

end Sys2Proof.Machine
end

