-- ==== Sys2Proof/Laws/State.lean ====
section
/-! SUPPORT. The laws of the updates of the state: each changes the field it names and no other, and reading back
what was written gives it. -/

set_option Elab.async false

namespace Sys2Proof.Machine

theorem getD_setIfInBounds_same {α : Type} {n : Nat} (v : Vector α n) {i : Nat} (x d : α) (h : i < n) :
    (v.setIfInBounds i x).toList.getD i d = x := by
  simp [List.getD, Vector.toList, List.getElem?_set, h]

theorem getD_setIfInBounds_ne {α : Type} {n : Nat} (v : Vector α n) {i j : Nat} (x d : α) (h : j ≠ i) :
    (v.setIfInBounds i x).toList.getD j d = v.toList.getD j d := by
  simp [List.getD, Vector.toList, List.getElem?_set, Ne.symm h]

/-! `setv` -/
@[simp] theorem State.setv_pending (s : State) (k : Nat) (v : OVal) : (s.setv k v).pending = s.pending := rfl
@[simp] theorem State.setv_now (s : State) (k : Nat) (v : OVal) : (s.setv k v).now = s.now := rfl
@[simp] theorem State.setv_freeCtr (s : State) (k : Nat) (v : OVal) : (s.setv k v).freeCtr = s.freeCtr := rfl
@[simp] theorem State.setv_log (s : State) (k : Nat) (v : OVal) : (s.setv k v).log = s.log := rfl
@[simp] theorem State.setv_net (s : State) (k : Nat) (v : OVal) : (s.setv k v).net = s.net := rfl
@[simp] theorem State.setv_web (s : State) (k : Nat) (v : OVal) : (s.setv k v).web = s.web := rfl
@[simp] theorem State.setv_lane (s : State) (k : Nat) (v : OVal) : (s.setv k v).lane = s.lane := rfl
@[simp] theorem State.setv_jrn (s : State) (k : Nat) (v : OVal) : (s.setv k v).jrn = s.jrn := rfl
@[simp] theorem State.setv_comp (s : State) (k : Nat) (v : OVal) : (s.setv k v).comp = s.comp := rfl
@[simp] theorem State.setv_fire (s : State) (k : Nat) (v : OVal) : (s.setv k v).fire = s.fire := rfl
@[simp] theorem State.setv_insp (s : State) (k : Nat) (v : OVal) : (s.setv k v).insp = s.insp := rfl
@[simp] theorem State.setv_img (s : State) (k : Nat) (v : OVal) : (s.setv k v).img = s.img := rfl
@[simp] theorem State.setv_beam (s : State) (k : Nat) (v : OVal) : (s.setv k v).beam = s.beam := rfl
@[simp] theorem State.setv_mover (s : State) (k : Nat) (v : OVal) : (s.setv k v).mover = s.mover := rfl
@[simp] theorem State.setv_mem (s : State) (k : Nat) (v : OVal) : (s.setv k v).mem = s.mem := rfl
@[simp] theorem State.setv_met (s : State) (k : Nat) (v : OVal) : (s.setv k v).met = s.met := rfl
@[simp] theorem State.setv_power (s : State) (k : Nat) (v : OVal) : (s.setv k v).power = s.power := rfl
@[simp] theorem State.setv_fault (s : State) (k : Nat) (v : OVal) : (s.setv k v).fault = s.fault := rfl
@[simp] theorem State.setv_mgmt (s : State) (k : Nat) (v : OVal) : (s.setv k v).mgmt = s.mgmt := rfl
@[simp] theorem State.setv_clk (s : State) (k : Nat) (v : OVal) : (s.setv k v).clk = s.clk := rfl
@[simp] theorem State.setv_ctl (s : State) (k : Nat) (v : OVal) : (s.setv k v).ctl = s.ctl := rfl
@[simp] theorem State.setv_od_pend (s : State) (k : Nat) (v : OVal) : (s.setv k v).od.pend = s.od.pend := rfl
@[simp] theorem State.setv_od_line (s : State) (k : Nat) (v : OVal) : (s.setv k v).od.line = s.od.line := rfl
@[simp] theorem State.setv_od_flash (s : State) (k : Nat) (v : OVal) : (s.setv k v).od.flash = s.od.flash := rfl
@[simp] theorem State.setv_od_kept (s : State) (k : Nat) (v : OVal) : (s.setv k v).od.kept = s.od.kept := rfl

/-! `atTime` -/
@[simp] theorem State.atTime_pending (s : State) (t : Nat) : (s.atTime t).pending = s.pending := rfl
@[simp] theorem State.atTime_freeCtr (s : State) (t : Nat) : (s.atTime t).freeCtr = s.freeCtr := rfl
@[simp] theorem State.atTime_od (s : State) (t : Nat) : (s.atTime t).od = s.od := rfl
@[simp] theorem State.atTime_log (s : State) (t : Nat) : (s.atTime t).log = s.log := rfl
@[simp] theorem State.atTime_net (s : State) (t : Nat) : (s.atTime t).net = s.net := rfl
@[simp] theorem State.atTime_web (s : State) (t : Nat) : (s.atTime t).web = s.web := rfl
@[simp] theorem State.atTime_lane (s : State) (t : Nat) : (s.atTime t).lane = s.lane := rfl
@[simp] theorem State.atTime_jrn (s : State) (t : Nat) : (s.atTime t).jrn = s.jrn := rfl
@[simp] theorem State.atTime_comp (s : State) (t : Nat) : (s.atTime t).comp = s.comp := rfl
@[simp] theorem State.atTime_fire (s : State) (t : Nat) : (s.atTime t).fire = s.fire := rfl
@[simp] theorem State.atTime_insp (s : State) (t : Nat) : (s.atTime t).insp = s.insp := rfl
@[simp] theorem State.atTime_img (s : State) (t : Nat) : (s.atTime t).img = s.img := rfl
@[simp] theorem State.atTime_beam (s : State) (t : Nat) : (s.atTime t).beam = s.beam := rfl
@[simp] theorem State.atTime_mover (s : State) (t : Nat) : (s.atTime t).mover = s.mover := rfl
@[simp] theorem State.atTime_mem (s : State) (t : Nat) : (s.atTime t).mem = s.mem := rfl
@[simp] theorem State.atTime_met (s : State) (t : Nat) : (s.atTime t).met = s.met := rfl
@[simp] theorem State.atTime_power (s : State) (t : Nat) : (s.atTime t).power = s.power := rfl
@[simp] theorem State.atTime_fault (s : State) (t : Nat) : (s.atTime t).fault = s.fault := rfl
@[simp] theorem State.atTime_mgmt (s : State) (t : Nat) : (s.atTime t).mgmt = s.mgmt := rfl
@[simp] theorem State.atTime_clk (s : State) (t : Nat) : (s.atTime t).clk = s.clk := rfl
@[simp] theorem State.atTime_ctl (s : State) (t : Nat) : (s.atTime t).ctl = s.ctl := rfl
@[simp] theorem State.atTime_now (s : State) (t : Nat) : (s.atTime t).now = max s.now t := rfl
@[simp] theorem State.atTime_on (s : State) (t : Nat) (j : Nat) : (s.atTime t).on j = s.on j := rfl
@[simp] theorem State.atTime_oi (s : State) (t : Nat) (j : Nat) : (s.atTime t).oi j = s.oi j := rfl
@[simp] theorem State.atTime_ob (s : State) (t : Nat) (j : Nat) : (s.atTime t).ob j = s.ob j := rfl
@[simp] theorem State.atTime_obytes (s : State) (t : Nat) (j : Nat) : (s.atTime t).obytes j = s.obytes j := rfl

/-! `freeNext` -/
@[simp] theorem State.freeNext_pending (s : State) : (s.freeNext).pending = s.pending := rfl
@[simp] theorem State.freeNext_now (s : State) : (s.freeNext).now = s.now := rfl
@[simp] theorem State.freeNext_od (s : State) : (s.freeNext).od = s.od := rfl
@[simp] theorem State.freeNext_log (s : State) : (s.freeNext).log = s.log := rfl
@[simp] theorem State.freeNext_net (s : State) : (s.freeNext).net = s.net := rfl
@[simp] theorem State.freeNext_web (s : State) : (s.freeNext).web = s.web := rfl
@[simp] theorem State.freeNext_lane (s : State) : (s.freeNext).lane = s.lane := rfl
@[simp] theorem State.freeNext_jrn (s : State) : (s.freeNext).jrn = s.jrn := rfl
@[simp] theorem State.freeNext_comp (s : State) : (s.freeNext).comp = s.comp := rfl
@[simp] theorem State.freeNext_fire (s : State) : (s.freeNext).fire = s.fire := rfl
@[simp] theorem State.freeNext_insp (s : State) : (s.freeNext).insp = s.insp := rfl
@[simp] theorem State.freeNext_img (s : State) : (s.freeNext).img = s.img := rfl
@[simp] theorem State.freeNext_beam (s : State) : (s.freeNext).beam = s.beam := rfl
@[simp] theorem State.freeNext_mover (s : State) : (s.freeNext).mover = s.mover := rfl
@[simp] theorem State.freeNext_mem (s : State) : (s.freeNext).mem = s.mem := rfl
@[simp] theorem State.freeNext_met (s : State) : (s.freeNext).met = s.met := rfl
@[simp] theorem State.freeNext_power (s : State) : (s.freeNext).power = s.power := rfl
@[simp] theorem State.freeNext_fault (s : State) : (s.freeNext).fault = s.fault := rfl
@[simp] theorem State.freeNext_mgmt (s : State) : (s.freeNext).mgmt = s.mgmt := rfl
@[simp] theorem State.freeNext_clk (s : State) : (s.freeNext).clk = s.clk := rfl
@[simp] theorem State.freeNext_ctl (s : State) : (s.freeNext).ctl = s.ctl := rfl
@[simp] theorem State.freeNext_freeCtr (s : State) : (s.freeNext).freeCtr = s.freeCtr + 1 := rfl
@[simp] theorem State.freeNext_ov (s : State) (j : Nat) : (s.freeNext).ov j = s.ov j := rfl
@[simp] theorem State.freeNext_on (s : State) (j : Nat) : (s.freeNext).on j = s.on j := rfl
@[simp] theorem State.freeNext_oi (s : State) (j : Nat) : (s.freeNext).oi j = s.oi j := rfl
@[simp] theorem State.freeNext_ob (s : State) (j : Nat) : (s.freeNext).ob j = s.ob j := rfl
@[simp] theorem State.freeNext_obytes (s : State) (j : Nat) : (s.freeNext).obytes j = s.obytes j := rfl

/-! `setSess` -/
@[simp] theorem State.setSess_pending (s : State) (i : Nat) (x : Sess) : (s.setSess i x).pending = s.pending := rfl
@[simp] theorem State.setSess_now (s : State) (i : Nat) (x : Sess) : (s.setSess i x).now = s.now := rfl
@[simp] theorem State.setSess_freeCtr (s : State) (i : Nat) (x : Sess) : (s.setSess i x).freeCtr = s.freeCtr := rfl
@[simp] theorem State.setSess_od (s : State) (i : Nat) (x : Sess) : (s.setSess i x).od = s.od := rfl
@[simp] theorem State.setSess_log (s : State) (i : Nat) (x : Sess) : (s.setSess i x).log = s.log := rfl
@[simp] theorem State.setSess_web (s : State) (i : Nat) (x : Sess) : (s.setSess i x).web = s.web := rfl
@[simp] theorem State.setSess_lane (s : State) (i : Nat) (x : Sess) : (s.setSess i x).lane = s.lane := rfl
@[simp] theorem State.setSess_jrn (s : State) (i : Nat) (x : Sess) : (s.setSess i x).jrn = s.jrn := rfl
@[simp] theorem State.setSess_comp (s : State) (i : Nat) (x : Sess) : (s.setSess i x).comp = s.comp := rfl
@[simp] theorem State.setSess_fire (s : State) (i : Nat) (x : Sess) : (s.setSess i x).fire = s.fire := rfl
@[simp] theorem State.setSess_insp (s : State) (i : Nat) (x : Sess) : (s.setSess i x).insp = s.insp := rfl
@[simp] theorem State.setSess_img (s : State) (i : Nat) (x : Sess) : (s.setSess i x).img = s.img := rfl
@[simp] theorem State.setSess_beam (s : State) (i : Nat) (x : Sess) : (s.setSess i x).beam = s.beam := rfl
@[simp] theorem State.setSess_mover (s : State) (i : Nat) (x : Sess) : (s.setSess i x).mover = s.mover := rfl
@[simp] theorem State.setSess_mem (s : State) (i : Nat) (x : Sess) : (s.setSess i x).mem = s.mem := rfl
@[simp] theorem State.setSess_met (s : State) (i : Nat) (x : Sess) : (s.setSess i x).met = s.met := rfl
@[simp] theorem State.setSess_power (s : State) (i : Nat) (x : Sess) : (s.setSess i x).power = s.power := rfl
@[simp] theorem State.setSess_fault (s : State) (i : Nat) (x : Sess) : (s.setSess i x).fault = s.fault := rfl
@[simp] theorem State.setSess_mgmt (s : State) (i : Nat) (x : Sess) : (s.setSess i x).mgmt = s.mgmt := rfl
@[simp] theorem State.setSess_clk (s : State) (i : Nat) (x : Sess) : (s.setSess i x).clk = s.clk := rfl
@[simp] theorem State.setSess_ctl (s : State) (i : Nat) (x : Sess) : (s.setSess i x).ctl = s.ctl := rfl
@[simp] theorem State.setSess_net_lockouts (s : State) (i : Nat) (x : Sess) : (s.setSess i x).net.lockouts = s.net.lockouts := rfl
@[simp] theorem State.setSess_net_lastReject (s : State) (i : Nat) (x : Sess) : (s.setSess i x).net.lastReject = s.net.lastReject := rfl
@[simp] theorem State.setSess_net_lastNoSeq (s : State) (i : Nat) (x : Sess) : (s.setSess i x).net.lastNoSeq = s.net.lastNoSeq := rfl
@[simp] theorem State.setSess_net_nextEvent (s : State) (i : Nat) (x : Sess) : (s.setSess i x).net.nextEvent = s.net.nextEvent := rfl
@[simp] theorem State.setSess_net_ptp (s : State) (i : Nat) (x : Sess) : (s.setSess i x).net.ptp = s.net.ptp := rfl
@[simp] theorem State.setSess_net_sfp (s : State) (i : Nat) (x : Sess) : (s.setSess i x).net.sfp = s.net.sfp := rfl
@[simp] theorem State.setSess_net_txDisable (s : State) (i : Nat) (x : Sess) : (s.setSess i x).net.txDisable = s.net.txDisable := rfl
@[simp] theorem State.setSess_ov (s : State) (i : Nat) (x : Sess) (j : Nat) : (s.setSess i x).ov j = s.ov j := rfl
@[simp] theorem State.setSess_on (s : State) (i : Nat) (x : Sess) (j : Nat) : (s.setSess i x).on j = s.on j := rfl
@[simp] theorem State.setSess_oi (s : State) (i : Nat) (x : Sess) (j : Nat) : (s.setSess i x).oi j = s.oi j := rfl
@[simp] theorem State.setSess_ob (s : State) (i : Nat) (x : Sess) (j : Nat) : (s.setSess i x).ob j = s.ob j := rfl
@[simp] theorem State.setSess_obytes (s : State) (i : Nat) (x : Sess) (j : Nat) : (s.setSess i x).obytes j = s.obytes j := rfl
@[simp] theorem State.setSess_sess_same (s : State) (i : Nat) (x : Sess) (h : i < 8) : (s.setSess i x).sess i = x :=
  getD_setIfInBounds_same s.net.sess x _ h
theorem State.setSess_sess_ne (s : State) (i : Nat) (x : Sess) {j : Nat} (h : j ≠ i) : (s.setSess i x).sess j = s.sess j :=
  getD_setIfInBounds_ne s.net.sess x _ h

/-! `setWeb` -/
@[simp] theorem State.setWeb_pending (s : State) (x : WebSt) : (s.setWeb x).pending = s.pending := rfl
@[simp] theorem State.setWeb_now (s : State) (x : WebSt) : (s.setWeb x).now = s.now := rfl
@[simp] theorem State.setWeb_freeCtr (s : State) (x : WebSt) : (s.setWeb x).freeCtr = s.freeCtr := rfl
@[simp] theorem State.setWeb_od (s : State) (x : WebSt) : (s.setWeb x).od = s.od := rfl
@[simp] theorem State.setWeb_log (s : State) (x : WebSt) : (s.setWeb x).log = s.log := rfl
@[simp] theorem State.setWeb_net (s : State) (x : WebSt) : (s.setWeb x).net = s.net := rfl
@[simp] theorem State.setWeb_lane (s : State) (x : WebSt) : (s.setWeb x).lane = s.lane := rfl
@[simp] theorem State.setWeb_jrn (s : State) (x : WebSt) : (s.setWeb x).jrn = s.jrn := rfl
@[simp] theorem State.setWeb_comp (s : State) (x : WebSt) : (s.setWeb x).comp = s.comp := rfl
@[simp] theorem State.setWeb_fire (s : State) (x : WebSt) : (s.setWeb x).fire = s.fire := rfl
@[simp] theorem State.setWeb_insp (s : State) (x : WebSt) : (s.setWeb x).insp = s.insp := rfl
@[simp] theorem State.setWeb_img (s : State) (x : WebSt) : (s.setWeb x).img = s.img := rfl
@[simp] theorem State.setWeb_beam (s : State) (x : WebSt) : (s.setWeb x).beam = s.beam := rfl
@[simp] theorem State.setWeb_mover (s : State) (x : WebSt) : (s.setWeb x).mover = s.mover := rfl
@[simp] theorem State.setWeb_mem (s : State) (x : WebSt) : (s.setWeb x).mem = s.mem := rfl
@[simp] theorem State.setWeb_met (s : State) (x : WebSt) : (s.setWeb x).met = s.met := rfl
@[simp] theorem State.setWeb_power (s : State) (x : WebSt) : (s.setWeb x).power = s.power := rfl
@[simp] theorem State.setWeb_fault (s : State) (x : WebSt) : (s.setWeb x).fault = s.fault := rfl
@[simp] theorem State.setWeb_mgmt (s : State) (x : WebSt) : (s.setWeb x).mgmt = s.mgmt := rfl
@[simp] theorem State.setWeb_clk (s : State) (x : WebSt) : (s.setWeb x).clk = s.clk := rfl
@[simp] theorem State.setWeb_ctl (s : State) (x : WebSt) : (s.setWeb x).ctl = s.ctl := rfl
@[simp] theorem State.setWeb_web (s : State) (x : WebSt) : (s.setWeb x).web = x := rfl
@[simp] theorem State.setWeb_ov (s : State) (x : WebSt) (j : Nat) : (s.setWeb x).ov j = s.ov j := rfl
@[simp] theorem State.setWeb_on (s : State) (x : WebSt) (j : Nat) : (s.setWeb x).on j = s.on j := rfl
@[simp] theorem State.setWeb_oi (s : State) (x : WebSt) (j : Nat) : (s.setWeb x).oi j = s.oi j := rfl
@[simp] theorem State.setWeb_ob (s : State) (x : WebSt) (j : Nat) : (s.setWeb x).ob j = s.ob j := rfl
@[simp] theorem State.setWeb_obytes (s : State) (x : WebSt) (j : Nat) : (s.setWeb x).obytes j = s.obytes j := rfl

/-! `setEnc` -/
@[simp] theorem State.setEnc_pending (s : State) (i : Nat) (x : EncSt) : (s.setEnc i x).pending = s.pending := rfl
@[simp] theorem State.setEnc_now (s : State) (i : Nat) (x : EncSt) : (s.setEnc i x).now = s.now := rfl
@[simp] theorem State.setEnc_freeCtr (s : State) (i : Nat) (x : EncSt) : (s.setEnc i x).freeCtr = s.freeCtr := rfl
@[simp] theorem State.setEnc_od (s : State) (i : Nat) (x : EncSt) : (s.setEnc i x).od = s.od := rfl
@[simp] theorem State.setEnc_log (s : State) (i : Nat) (x : EncSt) : (s.setEnc i x).log = s.log := rfl
@[simp] theorem State.setEnc_net (s : State) (i : Nat) (x : EncSt) : (s.setEnc i x).net = s.net := rfl
@[simp] theorem State.setEnc_lane (s : State) (i : Nat) (x : EncSt) : (s.setEnc i x).lane = s.lane := rfl
@[simp] theorem State.setEnc_jrn (s : State) (i : Nat) (x : EncSt) : (s.setEnc i x).jrn = s.jrn := rfl
@[simp] theorem State.setEnc_comp (s : State) (i : Nat) (x : EncSt) : (s.setEnc i x).comp = s.comp := rfl
@[simp] theorem State.setEnc_fire (s : State) (i : Nat) (x : EncSt) : (s.setEnc i x).fire = s.fire := rfl
@[simp] theorem State.setEnc_insp (s : State) (i : Nat) (x : EncSt) : (s.setEnc i x).insp = s.insp := rfl
@[simp] theorem State.setEnc_img (s : State) (i : Nat) (x : EncSt) : (s.setEnc i x).img = s.img := rfl
@[simp] theorem State.setEnc_beam (s : State) (i : Nat) (x : EncSt) : (s.setEnc i x).beam = s.beam := rfl
@[simp] theorem State.setEnc_mover (s : State) (i : Nat) (x : EncSt) : (s.setEnc i x).mover = s.mover := rfl
@[simp] theorem State.setEnc_mem (s : State) (i : Nat) (x : EncSt) : (s.setEnc i x).mem = s.mem := rfl
@[simp] theorem State.setEnc_met (s : State) (i : Nat) (x : EncSt) : (s.setEnc i x).met = s.met := rfl
@[simp] theorem State.setEnc_power (s : State) (i : Nat) (x : EncSt) : (s.setEnc i x).power = s.power := rfl
@[simp] theorem State.setEnc_fault (s : State) (i : Nat) (x : EncSt) : (s.setEnc i x).fault = s.fault := rfl
@[simp] theorem State.setEnc_mgmt (s : State) (i : Nat) (x : EncSt) : (s.setEnc i x).mgmt = s.mgmt := rfl
@[simp] theorem State.setEnc_clk (s : State) (i : Nat) (x : EncSt) : (s.setEnc i x).clk = s.clk := rfl
@[simp] theorem State.setEnc_ctl (s : State) (i : Nat) (x : EncSt) : (s.setEnc i x).ctl = s.ctl := rfl
@[simp] theorem State.setEnc_web_refCount (s : State) (i : Nat) (x : EncSt) : (s.setEnc i x).web.refCount = s.web.refCount := rfl
@[simp] theorem State.setEnc_web_refPos (s : State) (i : Nat) (x : EncSt) : (s.setEnc i x).web.refPos = s.web.refPos := rfl
@[simp] theorem State.setEnc_web_chwm (s : State) (i : Nat) (x : EncSt) : (s.setEnc i x).web.chwm = s.web.chwm := rfl
@[simp] theorem State.setEnc_web_measure (s : State) (i : Nat) (x : EncSt) : (s.setEnc i x).web.measure = s.web.measure := rfl
@[simp] theorem State.setEnc_web_edges (s : State) (i : Nat) (x : EncSt) : (s.setEnc i x).web.edges = s.web.edges := rfl
@[simp] theorem State.setEnc_web_hist (s : State) (i : Nat) (x : EncSt) : (s.setEnc i x).web.hist = s.web.hist := rfl
@[simp] theorem State.setEnc_web_veNum (s : State) (i : Nat) (x : EncSt) : (s.setEnc i x).web.veNum = s.web.veNum := rfl
@[simp] theorem State.setEnc_web_veDen (s : State) (i : Nat) (x : EncSt) : (s.setEnc i x).web.veDen = s.web.veDen := rfl
@[simp] theorem State.setEnc_web_vBand (s : State) (i : Nat) (x : EncSt) : (s.setEnc i x).web.vBand = s.web.vBand := rfl
@[simp] theorem State.setEnc_web_lastInterval (s : State) (i : Nat) (x : EncSt) : (s.setEnc i x).web.lastInterval = s.web.lastInterval := rfl
@[simp] theorem State.setEnc_web_tEdge (s : State) (i : Nat) (x : EncSt) : (s.setEnc i x).web.tEdge = s.web.tEdge := rfl
@[simp] theorem State.setEnc_web_x (s : State) (i : Nat) (x : EncSt) : (s.setEnc i x).web.x = s.web.x := rfl
@[simp] theorem State.setEnc_web_tgt (s : State) (i : Nat) (x : EncSt) : (s.setEnc i x).web.tgt = s.web.tgt := rfl
@[simp] theorem State.setEnc_web_slew (s : State) (i : Nat) (x : EncSt) : (s.setEnc i x).web.slew = s.web.slew := rfl
@[simp] theorem State.setEnc_web_zRef (s : State) (i : Nat) (x : EncSt) : (s.setEnc i x).web.zRef = s.web.zRef := rfl
@[simp] theorem State.setEnc_web_ret (s : State) (i : Nat) (x : EncSt) : (s.setEnc i x).web.ret = s.web.ret := rfl
@[simp] theorem State.setEnc_web_reacq (s : State) (i : Nat) (x : EncSt) : (s.setEnc i x).web.reacq = s.web.reacq := rfl
@[simp] theorem State.setEnc_web_coastFrom (s : State) (i : Nat) (x : EncSt) : (s.setEnc i x).web.coastFrom = s.web.coastFrom := rfl
@[simp] theorem State.setEnc_web_planes (s : State) (i : Nat) (x : EncSt) : (s.setEnc i x).web.planes = s.web.planes := rfl
@[simp] theorem State.setEnc_web_beams (s : State) (i : Nat) (x : EncSt) : (s.setEnc i x).web.beams = s.web.beams := rfl
@[simp] theorem State.setEnc_web_stCycle (s : State) (i : Nat) (x : EncSt) : (s.setEnc i x).web.stCycle = s.web.stCycle := rfl
@[simp] theorem State.setEnc_web_stBefore (s : State) (i : Nat) (x : EncSt) : (s.setEnc i x).web.stBefore = s.web.stBefore := rfl
@[simp] theorem State.setEnc_web_speedAdv (s : State) (i : Nat) (x : EncSt) : (s.setEnc i x).web.speedAdv = s.web.speedAdv := rfl
@[simp] theorem State.setEnc_web_lastStamp (s : State) (i : Nat) (x : EncSt) : (s.setEnc i x).web.lastStamp = s.web.lastStamp := rfl
@[simp] theorem State.setEnc_web_missRun (s : State) (i : Nat) (x : EncSt) : (s.setEnc i x).web.missRun = s.web.missRun := rfl
@[simp] theorem State.setEnc_web_cams (s : State) (i : Nat) (x : EncSt) : (s.setEnc i x).web.cams = s.web.cams := rfl
@[simp] theorem State.setEnc_ov (s : State) (i : Nat) (x : EncSt) (j : Nat) : (s.setEnc i x).ov j = s.ov j := rfl
@[simp] theorem State.setEnc_on (s : State) (i : Nat) (x : EncSt) (j : Nat) : (s.setEnc i x).on j = s.on j := rfl
@[simp] theorem State.setEnc_oi (s : State) (i : Nat) (x : EncSt) (j : Nat) : (s.setEnc i x).oi j = s.oi j := rfl
@[simp] theorem State.setEnc_ob (s : State) (i : Nat) (x : EncSt) (j : Nat) : (s.setEnc i x).ob j = s.ob j := rfl
@[simp] theorem State.setEnc_obytes (s : State) (i : Nat) (x : EncSt) (j : Nat) : (s.setEnc i x).obytes j = s.obytes j := rfl
@[simp] theorem State.setEnc_enc_same (s : State) (i : Nat) (x : EncSt) (h : i < 4) : (s.setEnc i x).enc i = x :=
  getD_setIfInBounds_same s.web.enc x _ h
theorem State.setEnc_enc_ne (s : State) (i : Nat) (x : EncSt) {j : Nat} (h : j ≠ i) : (s.setEnc i x).enc j = s.enc j :=
  getD_setIfInBounds_ne s.web.enc x _ h

/-! `setItems` -/
@[simp] theorem State.setItems_pending (s : State) (x : List Item) : (s.setItems x).pending = s.pending := rfl
@[simp] theorem State.setItems_now (s : State) (x : List Item) : (s.setItems x).now = s.now := rfl
@[simp] theorem State.setItems_freeCtr (s : State) (x : List Item) : (s.setItems x).freeCtr = s.freeCtr := rfl
@[simp] theorem State.setItems_od (s : State) (x : List Item) : (s.setItems x).od = s.od := rfl
@[simp] theorem State.setItems_log (s : State) (x : List Item) : (s.setItems x).log = s.log := rfl
@[simp] theorem State.setItems_net (s : State) (x : List Item) : (s.setItems x).net = s.net := rfl
@[simp] theorem State.setItems_web (s : State) (x : List Item) : (s.setItems x).web = s.web := rfl
@[simp] theorem State.setItems_jrn (s : State) (x : List Item) : (s.setItems x).jrn = s.jrn := rfl
@[simp] theorem State.setItems_comp (s : State) (x : List Item) : (s.setItems x).comp = s.comp := rfl
@[simp] theorem State.setItems_fire (s : State) (x : List Item) : (s.setItems x).fire = s.fire := rfl
@[simp] theorem State.setItems_insp (s : State) (x : List Item) : (s.setItems x).insp = s.insp := rfl
@[simp] theorem State.setItems_img (s : State) (x : List Item) : (s.setItems x).img = s.img := rfl
@[simp] theorem State.setItems_beam (s : State) (x : List Item) : (s.setItems x).beam = s.beam := rfl
@[simp] theorem State.setItems_mover (s : State) (x : List Item) : (s.setItems x).mover = s.mover := rfl
@[simp] theorem State.setItems_mem (s : State) (x : List Item) : (s.setItems x).mem = s.mem := rfl
@[simp] theorem State.setItems_met (s : State) (x : List Item) : (s.setItems x).met = s.met := rfl
@[simp] theorem State.setItems_power (s : State) (x : List Item) : (s.setItems x).power = s.power := rfl
@[simp] theorem State.setItems_fault (s : State) (x : List Item) : (s.setItems x).fault = s.fault := rfl
@[simp] theorem State.setItems_mgmt (s : State) (x : List Item) : (s.setItems x).mgmt = s.mgmt := rfl
@[simp] theorem State.setItems_clk (s : State) (x : List Item) : (s.setItems x).clk = s.clk := rfl
@[simp] theorem State.setItems_ctl (s : State) (x : List Item) : (s.setItems x).ctl = s.ctl := rfl
@[simp] theorem State.setItems_lane_queues (s : State) (x : List Item) : (s.setItems x).lane.queues = s.lane.queues := rfl
@[simp] theorem State.setItems_lane_lowSent (s : State) (x : List Item) : (s.setItems x).lane.lowSent = s.lane.lowSent := rfl
@[simp] theorem State.setItems_lane_items (s : State) (x : List Item) : (s.setItems x).lane.items = x := rfl
@[simp] theorem State.setItems_lane_results (s : State) (x : List Item) : (s.setItems x).lane.results = s.lane.results := rfl
@[simp] theorem State.setItems_lane_gates (s : State) (x : List Item) : (s.setItems x).lane.gates = s.lane.gates := rfl
@[simp] theorem State.setItems_ov (s : State) (x : List Item) (j : Nat) : (s.setItems x).ov j = s.ov j := rfl
@[simp] theorem State.setItems_on (s : State) (x : List Item) (j : Nat) : (s.setItems x).on j = s.on j := rfl
@[simp] theorem State.setItems_oi (s : State) (x : List Item) (j : Nat) : (s.setItems x).oi j = s.oi j := rfl
@[simp] theorem State.setItems_ob (s : State) (x : List Item) (j : Nat) : (s.setItems x).ob j = s.ob j := rfl
@[simp] theorem State.setItems_obytes (s : State) (x : List Item) (j : Nat) : (s.setItems x).obytes j = s.obytes j := rfl

/-! `setQueue` -/
@[simp] theorem State.setQueue_pending (s : State) (i : Nat) (x : List ItemRec) : (s.setQueue i x).pending = s.pending := rfl
@[simp] theorem State.setQueue_now (s : State) (i : Nat) (x : List ItemRec) : (s.setQueue i x).now = s.now := rfl
@[simp] theorem State.setQueue_freeCtr (s : State) (i : Nat) (x : List ItemRec) : (s.setQueue i x).freeCtr = s.freeCtr := rfl
@[simp] theorem State.setQueue_od (s : State) (i : Nat) (x : List ItemRec) : (s.setQueue i x).od = s.od := rfl
@[simp] theorem State.setQueue_log (s : State) (i : Nat) (x : List ItemRec) : (s.setQueue i x).log = s.log := rfl
@[simp] theorem State.setQueue_net (s : State) (i : Nat) (x : List ItemRec) : (s.setQueue i x).net = s.net := rfl
@[simp] theorem State.setQueue_web (s : State) (i : Nat) (x : List ItemRec) : (s.setQueue i x).web = s.web := rfl
@[simp] theorem State.setQueue_jrn (s : State) (i : Nat) (x : List ItemRec) : (s.setQueue i x).jrn = s.jrn := rfl
@[simp] theorem State.setQueue_comp (s : State) (i : Nat) (x : List ItemRec) : (s.setQueue i x).comp = s.comp := rfl
@[simp] theorem State.setQueue_fire (s : State) (i : Nat) (x : List ItemRec) : (s.setQueue i x).fire = s.fire := rfl
@[simp] theorem State.setQueue_insp (s : State) (i : Nat) (x : List ItemRec) : (s.setQueue i x).insp = s.insp := rfl
@[simp] theorem State.setQueue_img (s : State) (i : Nat) (x : List ItemRec) : (s.setQueue i x).img = s.img := rfl
@[simp] theorem State.setQueue_beam (s : State) (i : Nat) (x : List ItemRec) : (s.setQueue i x).beam = s.beam := rfl
@[simp] theorem State.setQueue_mover (s : State) (i : Nat) (x : List ItemRec) : (s.setQueue i x).mover = s.mover := rfl
@[simp] theorem State.setQueue_mem (s : State) (i : Nat) (x : List ItemRec) : (s.setQueue i x).mem = s.mem := rfl
@[simp] theorem State.setQueue_met (s : State) (i : Nat) (x : List ItemRec) : (s.setQueue i x).met = s.met := rfl
@[simp] theorem State.setQueue_power (s : State) (i : Nat) (x : List ItemRec) : (s.setQueue i x).power = s.power := rfl
@[simp] theorem State.setQueue_fault (s : State) (i : Nat) (x : List ItemRec) : (s.setQueue i x).fault = s.fault := rfl
@[simp] theorem State.setQueue_mgmt (s : State) (i : Nat) (x : List ItemRec) : (s.setQueue i x).mgmt = s.mgmt := rfl
@[simp] theorem State.setQueue_clk (s : State) (i : Nat) (x : List ItemRec) : (s.setQueue i x).clk = s.clk := rfl
@[simp] theorem State.setQueue_ctl (s : State) (i : Nat) (x : List ItemRec) : (s.setQueue i x).ctl = s.ctl := rfl
@[simp] theorem State.setQueue_lane_lowSent (s : State) (i : Nat) (x : List ItemRec) : (s.setQueue i x).lane.lowSent = s.lane.lowSent := rfl
@[simp] theorem State.setQueue_lane_items (s : State) (i : Nat) (x : List ItemRec) : (s.setQueue i x).lane.items = s.lane.items := rfl
@[simp] theorem State.setQueue_lane_results (s : State) (i : Nat) (x : List ItemRec) : (s.setQueue i x).lane.results = s.lane.results := rfl
@[simp] theorem State.setQueue_lane_gates (s : State) (i : Nat) (x : List ItemRec) : (s.setQueue i x).lane.gates = s.lane.gates := rfl
@[simp] theorem State.setQueue_ov (s : State) (i : Nat) (x : List ItemRec) (j : Nat) : (s.setQueue i x).ov j = s.ov j := rfl
@[simp] theorem State.setQueue_on (s : State) (i : Nat) (x : List ItemRec) (j : Nat) : (s.setQueue i x).on j = s.on j := rfl
@[simp] theorem State.setQueue_oi (s : State) (i : Nat) (x : List ItemRec) (j : Nat) : (s.setQueue i x).oi j = s.oi j := rfl
@[simp] theorem State.setQueue_ob (s : State) (i : Nat) (x : List ItemRec) (j : Nat) : (s.setQueue i x).ob j = s.ob j := rfl
@[simp] theorem State.setQueue_obytes (s : State) (i : Nat) (x : List ItemRec) (j : Nat) : (s.setQueue i x).obytes j = s.obytes j := rfl
@[simp] theorem State.setQueue_queue_same (s : State) (i : Nat) (x : List ItemRec) (h : i < 8) : (s.setQueue i x).queue i = x :=
  getD_setIfInBounds_same s.lane.queues x _ h
theorem State.setQueue_queue_ne (s : State) (i : Nat) (x : List ItemRec) {j : Nat} (h : j ≠ i) : (s.setQueue i x).queue j = s.queue j :=
  getD_setIfInBounds_ne s.lane.queues x _ h

/-! `setFire` -/
@[simp] theorem State.setFire_pending (s : State) (x : FireSt) : (s.setFire x).pending = s.pending := rfl
@[simp] theorem State.setFire_now (s : State) (x : FireSt) : (s.setFire x).now = s.now := rfl
@[simp] theorem State.setFire_freeCtr (s : State) (x : FireSt) : (s.setFire x).freeCtr = s.freeCtr := rfl
@[simp] theorem State.setFire_od (s : State) (x : FireSt) : (s.setFire x).od = s.od := rfl
@[simp] theorem State.setFire_log (s : State) (x : FireSt) : (s.setFire x).log = s.log := rfl
@[simp] theorem State.setFire_net (s : State) (x : FireSt) : (s.setFire x).net = s.net := rfl
@[simp] theorem State.setFire_web (s : State) (x : FireSt) : (s.setFire x).web = s.web := rfl
@[simp] theorem State.setFire_lane (s : State) (x : FireSt) : (s.setFire x).lane = s.lane := rfl
@[simp] theorem State.setFire_jrn (s : State) (x : FireSt) : (s.setFire x).jrn = s.jrn := rfl
@[simp] theorem State.setFire_comp (s : State) (x : FireSt) : (s.setFire x).comp = s.comp := rfl
@[simp] theorem State.setFire_insp (s : State) (x : FireSt) : (s.setFire x).insp = s.insp := rfl
@[simp] theorem State.setFire_img (s : State) (x : FireSt) : (s.setFire x).img = s.img := rfl
@[simp] theorem State.setFire_beam (s : State) (x : FireSt) : (s.setFire x).beam = s.beam := rfl
@[simp] theorem State.setFire_mover (s : State) (x : FireSt) : (s.setFire x).mover = s.mover := rfl
@[simp] theorem State.setFire_mem (s : State) (x : FireSt) : (s.setFire x).mem = s.mem := rfl
@[simp] theorem State.setFire_met (s : State) (x : FireSt) : (s.setFire x).met = s.met := rfl
@[simp] theorem State.setFire_power (s : State) (x : FireSt) : (s.setFire x).power = s.power := rfl
@[simp] theorem State.setFire_fault (s : State) (x : FireSt) : (s.setFire x).fault = s.fault := rfl
@[simp] theorem State.setFire_mgmt (s : State) (x : FireSt) : (s.setFire x).mgmt = s.mgmt := rfl
@[simp] theorem State.setFire_clk (s : State) (x : FireSt) : (s.setFire x).clk = s.clk := rfl
@[simp] theorem State.setFire_ctl (s : State) (x : FireSt) : (s.setFire x).ctl = s.ctl := rfl
@[simp] theorem State.setFire_fire (s : State) (x : FireSt) : (s.setFire x).fire = x := rfl
@[simp] theorem State.setFire_ov (s : State) (x : FireSt) (j : Nat) : (s.setFire x).ov j = s.ov j := rfl
@[simp] theorem State.setFire_on (s : State) (x : FireSt) (j : Nat) : (s.setFire x).on j = s.on j := rfl
@[simp] theorem State.setFire_oi (s : State) (x : FireSt) (j : Nat) : (s.setFire x).oi j = s.oi j := rfl
@[simp] theorem State.setFire_ob (s : State) (x : FireSt) (j : Nat) : (s.setFire x).ob j = s.ob j := rfl
@[simp] theorem State.setFire_obytes (s : State) (x : FireSt) (j : Nat) : (s.setFire x).obytes j = s.obytes j := rfl

/-! `setLink` -/
@[simp] theorem State.setLink_pending (s : State) (i : Nat) (x : LinkSt) : (s.setLink i x).pending = s.pending := rfl
@[simp] theorem State.setLink_now (s : State) (i : Nat) (x : LinkSt) : (s.setLink i x).now = s.now := rfl
@[simp] theorem State.setLink_freeCtr (s : State) (i : Nat) (x : LinkSt) : (s.setLink i x).freeCtr = s.freeCtr := rfl
@[simp] theorem State.setLink_od (s : State) (i : Nat) (x : LinkSt) : (s.setLink i x).od = s.od := rfl
@[simp] theorem State.setLink_log (s : State) (i : Nat) (x : LinkSt) : (s.setLink i x).log = s.log := rfl
@[simp] theorem State.setLink_net (s : State) (i : Nat) (x : LinkSt) : (s.setLink i x).net = s.net := rfl
@[simp] theorem State.setLink_web (s : State) (i : Nat) (x : LinkSt) : (s.setLink i x).web = s.web := rfl
@[simp] theorem State.setLink_lane (s : State) (i : Nat) (x : LinkSt) : (s.setLink i x).lane = s.lane := rfl
@[simp] theorem State.setLink_jrn (s : State) (i : Nat) (x : LinkSt) : (s.setLink i x).jrn = s.jrn := rfl
@[simp] theorem State.setLink_comp (s : State) (i : Nat) (x : LinkSt) : (s.setLink i x).comp = s.comp := rfl
@[simp] theorem State.setLink_insp (s : State) (i : Nat) (x : LinkSt) : (s.setLink i x).insp = s.insp := rfl
@[simp] theorem State.setLink_img (s : State) (i : Nat) (x : LinkSt) : (s.setLink i x).img = s.img := rfl
@[simp] theorem State.setLink_beam (s : State) (i : Nat) (x : LinkSt) : (s.setLink i x).beam = s.beam := rfl
@[simp] theorem State.setLink_mover (s : State) (i : Nat) (x : LinkSt) : (s.setLink i x).mover = s.mover := rfl
@[simp] theorem State.setLink_mem (s : State) (i : Nat) (x : LinkSt) : (s.setLink i x).mem = s.mem := rfl
@[simp] theorem State.setLink_met (s : State) (i : Nat) (x : LinkSt) : (s.setLink i x).met = s.met := rfl
@[simp] theorem State.setLink_power (s : State) (i : Nat) (x : LinkSt) : (s.setLink i x).power = s.power := rfl
@[simp] theorem State.setLink_fault (s : State) (i : Nat) (x : LinkSt) : (s.setLink i x).fault = s.fault := rfl
@[simp] theorem State.setLink_mgmt (s : State) (i : Nat) (x : LinkSt) : (s.setLink i x).mgmt = s.mgmt := rfl
@[simp] theorem State.setLink_clk (s : State) (i : Nat) (x : LinkSt) : (s.setLink i x).clk = s.clk := rfl
@[simp] theorem State.setLink_ctl (s : State) (i : Nat) (x : LinkSt) : (s.setLink i x).ctl = s.ctl := rfl
@[simp] theorem State.setLink_fire_nozzles (s : State) (i : Nat) (x : LinkSt) : (s.setLink i x).fire.nozzles = s.fire.nozzles := rfl
@[simp] theorem State.setLink_fire_acc (s : State) (i : Nat) (x : LinkSt) : (s.setLink i x).fire.acc = s.fire.acc := rfl
@[simp] theorem State.setLink_fire_line (s : State) (i : Nat) (x : LinkSt) : (s.setLink i x).fire.line = s.fire.line := rfl
@[simp] theorem State.setLink_fire_flown (s : State) (i : Nat) (x : LinkSt) : (s.setLink i x).fire.flown = s.fire.flown := rfl
@[simp] theorem State.setLink_fire_ticked (s : State) (i : Nat) (x : LinkSt) : (s.setLink i x).fire.ticked = s.fire.ticked := rfl
@[simp] theorem State.setLink_fire_low (s : State) (i : Nat) (x : LinkSt) : (s.setLink i x).fire.low = s.fire.low := rfl
@[simp] theorem State.setLink_fire_shadow (s : State) (i : Nat) (x : LinkSt) : (s.setLink i x).fire.shadow = s.fire.shadow := rfl
@[simp] theorem State.setLink_fire_gateHeld (s : State) (i : Nat) (x : LinkSt) : (s.setLink i x).fire.gateHeld = s.fire.gateHeld := rfl
@[simp] theorem State.setLink_fire_ckptNozzles (s : State) (i : Nat) (x : LinkSt) : (s.setLink i x).fire.ckptNozzles = s.fire.ckptNozzles := rfl
@[simp] theorem State.setLink_fire_ckptVals (s : State) (i : Nat) (x : LinkSt) : (s.setLink i x).fire.ckptVals = s.fire.ckptVals := rfl
@[simp] theorem State.setLink_ov (s : State) (i : Nat) (x : LinkSt) (j : Nat) : (s.setLink i x).ov j = s.ov j := rfl
@[simp] theorem State.setLink_on (s : State) (i : Nat) (x : LinkSt) (j : Nat) : (s.setLink i x).on j = s.on j := rfl
@[simp] theorem State.setLink_oi (s : State) (i : Nat) (x : LinkSt) (j : Nat) : (s.setLink i x).oi j = s.oi j := rfl
@[simp] theorem State.setLink_ob (s : State) (i : Nat) (x : LinkSt) (j : Nat) : (s.setLink i x).ob j = s.ob j := rfl
@[simp] theorem State.setLink_obytes (s : State) (i : Nat) (x : LinkSt) (j : Nat) : (s.setLink i x).obytes j = s.obytes j := rfl
@[simp] theorem State.setLink_link_same (s : State) (i : Nat) (x : LinkSt) (h : i < 48) : (s.setLink i x).link i = x :=
  getD_setIfInBounds_same s.fire.links x _ h
theorem State.setLink_link_ne (s : State) (i : Nat) (x : LinkSt) {j : Nat} (h : j ≠ i) : (s.setLink i x).link j = s.link j :=
  getD_setIfInBounds_ne s.fire.links x _ h

/-! `setInsp` -/
@[simp] theorem State.setInsp_pending (s : State) (x : InspSt) : (s.setInsp x).pending = s.pending := rfl
@[simp] theorem State.setInsp_now (s : State) (x : InspSt) : (s.setInsp x).now = s.now := rfl
@[simp] theorem State.setInsp_freeCtr (s : State) (x : InspSt) : (s.setInsp x).freeCtr = s.freeCtr := rfl
@[simp] theorem State.setInsp_od (s : State) (x : InspSt) : (s.setInsp x).od = s.od := rfl
@[simp] theorem State.setInsp_log (s : State) (x : InspSt) : (s.setInsp x).log = s.log := rfl
@[simp] theorem State.setInsp_net (s : State) (x : InspSt) : (s.setInsp x).net = s.net := rfl
@[simp] theorem State.setInsp_web (s : State) (x : InspSt) : (s.setInsp x).web = s.web := rfl
@[simp] theorem State.setInsp_lane (s : State) (x : InspSt) : (s.setInsp x).lane = s.lane := rfl
@[simp] theorem State.setInsp_jrn (s : State) (x : InspSt) : (s.setInsp x).jrn = s.jrn := rfl
@[simp] theorem State.setInsp_comp (s : State) (x : InspSt) : (s.setInsp x).comp = s.comp := rfl
@[simp] theorem State.setInsp_fire (s : State) (x : InspSt) : (s.setInsp x).fire = s.fire := rfl
@[simp] theorem State.setInsp_img (s : State) (x : InspSt) : (s.setInsp x).img = s.img := rfl
@[simp] theorem State.setInsp_beam (s : State) (x : InspSt) : (s.setInsp x).beam = s.beam := rfl
@[simp] theorem State.setInsp_mover (s : State) (x : InspSt) : (s.setInsp x).mover = s.mover := rfl
@[simp] theorem State.setInsp_mem (s : State) (x : InspSt) : (s.setInsp x).mem = s.mem := rfl
@[simp] theorem State.setInsp_met (s : State) (x : InspSt) : (s.setInsp x).met = s.met := rfl
@[simp] theorem State.setInsp_power (s : State) (x : InspSt) : (s.setInsp x).power = s.power := rfl
@[simp] theorem State.setInsp_fault (s : State) (x : InspSt) : (s.setInsp x).fault = s.fault := rfl
@[simp] theorem State.setInsp_mgmt (s : State) (x : InspSt) : (s.setInsp x).mgmt = s.mgmt := rfl
@[simp] theorem State.setInsp_clk (s : State) (x : InspSt) : (s.setInsp x).clk = s.clk := rfl
@[simp] theorem State.setInsp_ctl (s : State) (x : InspSt) : (s.setInsp x).ctl = s.ctl := rfl
@[simp] theorem State.setInsp_insp (s : State) (x : InspSt) : (s.setInsp x).insp = x := rfl
@[simp] theorem State.setInsp_ov (s : State) (x : InspSt) (j : Nat) : (s.setInsp x).ov j = s.ov j := rfl
@[simp] theorem State.setInsp_on (s : State) (x : InspSt) (j : Nat) : (s.setInsp x).on j = s.on j := rfl
@[simp] theorem State.setInsp_oi (s : State) (x : InspSt) (j : Nat) : (s.setInsp x).oi j = s.oi j := rfl
@[simp] theorem State.setInsp_ob (s : State) (x : InspSt) (j : Nat) : (s.setInsp x).ob j = s.ob j := rfl
@[simp] theorem State.setInsp_obytes (s : State) (x : InspSt) (j : Nat) : (s.setInsp x).obytes j = s.obytes j := rfl

/-! `setCam` -/
@[simp] theorem State.setCam_pending (s : State) (i : Nat) (x : CamSt) : (s.setCam i x).pending = s.pending := rfl
@[simp] theorem State.setCam_now (s : State) (i : Nat) (x : CamSt) : (s.setCam i x).now = s.now := rfl
@[simp] theorem State.setCam_freeCtr (s : State) (i : Nat) (x : CamSt) : (s.setCam i x).freeCtr = s.freeCtr := rfl
@[simp] theorem State.setCam_od (s : State) (i : Nat) (x : CamSt) : (s.setCam i x).od = s.od := rfl
@[simp] theorem State.setCam_log (s : State) (i : Nat) (x : CamSt) : (s.setCam i x).log = s.log := rfl
@[simp] theorem State.setCam_net (s : State) (i : Nat) (x : CamSt) : (s.setCam i x).net = s.net := rfl
@[simp] theorem State.setCam_web (s : State) (i : Nat) (x : CamSt) : (s.setCam i x).web = s.web := rfl
@[simp] theorem State.setCam_lane (s : State) (i : Nat) (x : CamSt) : (s.setCam i x).lane = s.lane := rfl
@[simp] theorem State.setCam_jrn (s : State) (i : Nat) (x : CamSt) : (s.setCam i x).jrn = s.jrn := rfl
@[simp] theorem State.setCam_comp (s : State) (i : Nat) (x : CamSt) : (s.setCam i x).comp = s.comp := rfl
@[simp] theorem State.setCam_fire (s : State) (i : Nat) (x : CamSt) : (s.setCam i x).fire = s.fire := rfl
@[simp] theorem State.setCam_insp (s : State) (i : Nat) (x : CamSt) : (s.setCam i x).insp = s.insp := rfl
@[simp] theorem State.setCam_beam (s : State) (i : Nat) (x : CamSt) : (s.setCam i x).beam = s.beam := rfl
@[simp] theorem State.setCam_mover (s : State) (i : Nat) (x : CamSt) : (s.setCam i x).mover = s.mover := rfl
@[simp] theorem State.setCam_mem (s : State) (i : Nat) (x : CamSt) : (s.setCam i x).mem = s.mem := rfl
@[simp] theorem State.setCam_met (s : State) (i : Nat) (x : CamSt) : (s.setCam i x).met = s.met := rfl
@[simp] theorem State.setCam_power (s : State) (i : Nat) (x : CamSt) : (s.setCam i x).power = s.power := rfl
@[simp] theorem State.setCam_fault (s : State) (i : Nat) (x : CamSt) : (s.setCam i x).fault = s.fault := rfl
@[simp] theorem State.setCam_mgmt (s : State) (i : Nat) (x : CamSt) : (s.setCam i x).mgmt = s.mgmt := rfl
@[simp] theorem State.setCam_clk (s : State) (i : Nat) (x : CamSt) : (s.setCam i x).clk = s.clk := rfl
@[simp] theorem State.setCam_ctl (s : State) (i : Nat) (x : CamSt) : (s.setCam i x).ctl = s.ctl := rfl
@[simp] theorem State.setCam_img_raw (s : State) (i : Nat) (x : CamSt) : (s.setCam i x).img.raw = s.img.raw := rfl
@[simp] theorem State.setCam_img_parts (s : State) (i : Nat) (x : CamSt) : (s.setCam i x).img.parts = s.img.parts := rfl
@[simp] theorem State.setCam_img_store (s : State) (i : Nat) (x : CamSt) : (s.setCam i x).img.store = s.img.store := rfl
@[simp] theorem State.setCam_img_writes (s : State) (i : Nat) (x : CamSt) : (s.setCam i x).img.writes = s.img.writes := rfl
@[simp] theorem State.setCam_img_nextWrite (s : State) (i : Nat) (x : CamSt) : (s.setCam i x).img.nextWrite = s.img.nextWrite := rfl
@[simp] theorem State.setCam_ov (s : State) (i : Nat) (x : CamSt) (j : Nat) : (s.setCam i x).ov j = s.ov j := rfl
@[simp] theorem State.setCam_on (s : State) (i : Nat) (x : CamSt) (j : Nat) : (s.setCam i x).on j = s.on j := rfl
@[simp] theorem State.setCam_oi (s : State) (i : Nat) (x : CamSt) (j : Nat) : (s.setCam i x).oi j = s.oi j := rfl
@[simp] theorem State.setCam_ob (s : State) (i : Nat) (x : CamSt) (j : Nat) : (s.setCam i x).ob j = s.ob j := rfl
@[simp] theorem State.setCam_obytes (s : State) (i : Nat) (x : CamSt) (j : Nat) : (s.setCam i x).obytes j = s.obytes j := rfl
@[simp] theorem State.setCam_cam_same (s : State) (i : Nat) (x : CamSt) (h : i < 4) : (s.setCam i x).cam i = x :=
  getD_setIfInBounds_same s.img.cams x _ h
theorem State.setCam_cam_ne (s : State) (i : Nat) (x : CamSt) {j : Nat} (h : j ≠ i) : (s.setCam i x).cam j = s.cam j :=
  getD_setIfInBounds_ne s.img.cams x _ h

/-! `setUnit` -/
@[simp] theorem State.setUnit_pending (s : State) (i : Nat) (x : BeamUnit) : (s.setUnit i x).pending = s.pending := rfl
@[simp] theorem State.setUnit_now (s : State) (i : Nat) (x : BeamUnit) : (s.setUnit i x).now = s.now := rfl
@[simp] theorem State.setUnit_freeCtr (s : State) (i : Nat) (x : BeamUnit) : (s.setUnit i x).freeCtr = s.freeCtr := rfl
@[simp] theorem State.setUnit_od (s : State) (i : Nat) (x : BeamUnit) : (s.setUnit i x).od = s.od := rfl
@[simp] theorem State.setUnit_log (s : State) (i : Nat) (x : BeamUnit) : (s.setUnit i x).log = s.log := rfl
@[simp] theorem State.setUnit_net (s : State) (i : Nat) (x : BeamUnit) : (s.setUnit i x).net = s.net := rfl
@[simp] theorem State.setUnit_web (s : State) (i : Nat) (x : BeamUnit) : (s.setUnit i x).web = s.web := rfl
@[simp] theorem State.setUnit_lane (s : State) (i : Nat) (x : BeamUnit) : (s.setUnit i x).lane = s.lane := rfl
@[simp] theorem State.setUnit_jrn (s : State) (i : Nat) (x : BeamUnit) : (s.setUnit i x).jrn = s.jrn := rfl
@[simp] theorem State.setUnit_comp (s : State) (i : Nat) (x : BeamUnit) : (s.setUnit i x).comp = s.comp := rfl
@[simp] theorem State.setUnit_fire (s : State) (i : Nat) (x : BeamUnit) : (s.setUnit i x).fire = s.fire := rfl
@[simp] theorem State.setUnit_insp (s : State) (i : Nat) (x : BeamUnit) : (s.setUnit i x).insp = s.insp := rfl
@[simp] theorem State.setUnit_img (s : State) (i : Nat) (x : BeamUnit) : (s.setUnit i x).img = s.img := rfl
@[simp] theorem State.setUnit_mover (s : State) (i : Nat) (x : BeamUnit) : (s.setUnit i x).mover = s.mover := rfl
@[simp] theorem State.setUnit_mem (s : State) (i : Nat) (x : BeamUnit) : (s.setUnit i x).mem = s.mem := rfl
@[simp] theorem State.setUnit_met (s : State) (i : Nat) (x : BeamUnit) : (s.setUnit i x).met = s.met := rfl
@[simp] theorem State.setUnit_power (s : State) (i : Nat) (x : BeamUnit) : (s.setUnit i x).power = s.power := rfl
@[simp] theorem State.setUnit_fault (s : State) (i : Nat) (x : BeamUnit) : (s.setUnit i x).fault = s.fault := rfl
@[simp] theorem State.setUnit_mgmt (s : State) (i : Nat) (x : BeamUnit) : (s.setUnit i x).mgmt = s.mgmt := rfl
@[simp] theorem State.setUnit_clk (s : State) (i : Nat) (x : BeamUnit) : (s.setUnit i x).clk = s.clk := rfl
@[simp] theorem State.setUnit_ctl (s : State) (i : Nat) (x : BeamUnit) : (s.setUnit i x).ctl = s.ctl := rfl
@[simp] theorem State.setUnit_beam_shadow (s : State) (i : Nat) (x : BeamUnit) : (s.setUnit i x).beam.shadow = s.beam.shadow := rfl
@[simp] theorem State.setUnit_ov (s : State) (i : Nat) (x : BeamUnit) (j : Nat) : (s.setUnit i x).ov j = s.ov j := rfl
@[simp] theorem State.setUnit_on (s : State) (i : Nat) (x : BeamUnit) (j : Nat) : (s.setUnit i x).on j = s.on j := rfl
@[simp] theorem State.setUnit_oi (s : State) (i : Nat) (x : BeamUnit) (j : Nat) : (s.setUnit i x).oi j = s.oi j := rfl
@[simp] theorem State.setUnit_ob (s : State) (i : Nat) (x : BeamUnit) (j : Nat) : (s.setUnit i x).ob j = s.ob j := rfl
@[simp] theorem State.setUnit_obytes (s : State) (i : Nat) (x : BeamUnit) (j : Nat) : (s.setUnit i x).obytes j = s.obytes j := rfl
@[simp] theorem State.setUnit_unit_same (s : State) (i : Nat) (x : BeamUnit) (h : i < 2) : (s.setUnit i x).unit i = x :=
  getD_setIfInBounds_same s.beam.units x _ h
theorem State.setUnit_unit_ne (s : State) (i : Nat) (x : BeamUnit) {j : Nat} (h : j ≠ i) : (s.setUnit i x).unit j = s.unit j :=
  getD_setIfInBounds_ne s.beam.units x _ h

/-! `setCodec` -/
@[simp] theorem State.setCodec_pending (s : State) (i : Nat) (x : CodecInst) : (s.setCodec i x).pending = s.pending := rfl
@[simp] theorem State.setCodec_now (s : State) (i : Nat) (x : CodecInst) : (s.setCodec i x).now = s.now := rfl
@[simp] theorem State.setCodec_freeCtr (s : State) (i : Nat) (x : CodecInst) : (s.setCodec i x).freeCtr = s.freeCtr := rfl
@[simp] theorem State.setCodec_od (s : State) (i : Nat) (x : CodecInst) : (s.setCodec i x).od = s.od := rfl
@[simp] theorem State.setCodec_log (s : State) (i : Nat) (x : CodecInst) : (s.setCodec i x).log = s.log := rfl
@[simp] theorem State.setCodec_net (s : State) (i : Nat) (x : CodecInst) : (s.setCodec i x).net = s.net := rfl
@[simp] theorem State.setCodec_web (s : State) (i : Nat) (x : CodecInst) : (s.setCodec i x).web = s.web := rfl
@[simp] theorem State.setCodec_lane (s : State) (i : Nat) (x : CodecInst) : (s.setCodec i x).lane = s.lane := rfl
@[simp] theorem State.setCodec_jrn (s : State) (i : Nat) (x : CodecInst) : (s.setCodec i x).jrn = s.jrn := rfl
@[simp] theorem State.setCodec_comp (s : State) (i : Nat) (x : CodecInst) : (s.setCodec i x).comp = s.comp := rfl
@[simp] theorem State.setCodec_fire (s : State) (i : Nat) (x : CodecInst) : (s.setCodec i x).fire = s.fire := rfl
@[simp] theorem State.setCodec_insp (s : State) (i : Nat) (x : CodecInst) : (s.setCodec i x).insp = s.insp := rfl
@[simp] theorem State.setCodec_img (s : State) (i : Nat) (x : CodecInst) : (s.setCodec i x).img = s.img := rfl
@[simp] theorem State.setCodec_beam (s : State) (i : Nat) (x : CodecInst) : (s.setCodec i x).beam = s.beam := rfl
@[simp] theorem State.setCodec_mem (s : State) (i : Nat) (x : CodecInst) : (s.setCodec i x).mem = s.mem := rfl
@[simp] theorem State.setCodec_met (s : State) (i : Nat) (x : CodecInst) : (s.setCodec i x).met = s.met := rfl
@[simp] theorem State.setCodec_power (s : State) (i : Nat) (x : CodecInst) : (s.setCodec i x).power = s.power := rfl
@[simp] theorem State.setCodec_fault (s : State) (i : Nat) (x : CodecInst) : (s.setCodec i x).fault = s.fault := rfl
@[simp] theorem State.setCodec_mgmt (s : State) (i : Nat) (x : CodecInst) : (s.setCodec i x).mgmt = s.mgmt := rfl
@[simp] theorem State.setCodec_clk (s : State) (i : Nat) (x : CodecInst) : (s.setCodec i x).clk = s.clk := rfl
@[simp] theorem State.setCodec_ctl (s : State) (i : Nat) (x : CodecInst) : (s.setCodec i x).ctl = s.ctl := rfl
@[simp] theorem State.setCodec_mover_ctxs (s : State) (i : Nat) (x : CodecInst) : (s.setCodec i x).mover.ctxs = s.mover.ctxs := rfl
@[simp] theorem State.setCodec_mover_nextCtx (s : State) (i : Nat) (x : CodecInst) : (s.setCodec i x).mover.nextCtx = s.mover.nextCtx := rfl
@[simp] theorem State.setCodec_mover_dma (s : State) (i : Nat) (x : CodecInst) : (s.setCodec i x).mover.dma = s.mover.dma := rfl
@[simp] theorem State.setCodec_mover_drain (s : State) (i : Nat) (x : CodecInst) : (s.setCodec i x).mover.drain = s.mover.drain := rfl
@[simp] theorem State.setCodec_ov (s : State) (i : Nat) (x : CodecInst) (j : Nat) : (s.setCodec i x).ov j = s.ov j := rfl
@[simp] theorem State.setCodec_on (s : State) (i : Nat) (x : CodecInst) (j : Nat) : (s.setCodec i x).on j = s.on j := rfl
@[simp] theorem State.setCodec_oi (s : State) (i : Nat) (x : CodecInst) (j : Nat) : (s.setCodec i x).oi j = s.oi j := rfl
@[simp] theorem State.setCodec_ob (s : State) (i : Nat) (x : CodecInst) (j : Nat) : (s.setCodec i x).ob j = s.ob j := rfl
@[simp] theorem State.setCodec_obytes (s : State) (i : Nat) (x : CodecInst) (j : Nat) : (s.setCodec i x).obytes j = s.obytes j := rfl
@[simp] theorem State.setCodec_codec_same (s : State) (i : Nat) (x : CodecInst) (h : i < 4) : (s.setCodec i x).codec i = x :=
  getD_setIfInBounds_same s.mover.codec x _ h
theorem State.setCodec_codec_ne (s : State) (i : Nat) (x : CodecInst) {j : Nat} (h : j ≠ i) : (s.setCodec i x).codec j = s.codec j :=
  getD_setIfInBounds_ne s.mover.codec x _ h

/-! `setDma` -/
@[simp] theorem State.setDma_pending (s : State) (i : Nat) (x : DmaChan) : (s.setDma i x).pending = s.pending := rfl
@[simp] theorem State.setDma_now (s : State) (i : Nat) (x : DmaChan) : (s.setDma i x).now = s.now := rfl
@[simp] theorem State.setDma_freeCtr (s : State) (i : Nat) (x : DmaChan) : (s.setDma i x).freeCtr = s.freeCtr := rfl
@[simp] theorem State.setDma_log (s : State) (i : Nat) (x : DmaChan) : (s.setDma i x).log = s.log := rfl
@[simp] theorem State.setDma_net (s : State) (i : Nat) (x : DmaChan) : (s.setDma i x).net = s.net := rfl
@[simp] theorem State.setDma_web (s : State) (i : Nat) (x : DmaChan) : (s.setDma i x).web = s.web := rfl
@[simp] theorem State.setDma_lane (s : State) (i : Nat) (x : DmaChan) : (s.setDma i x).lane = s.lane := rfl
@[simp] theorem State.setDma_jrn (s : State) (i : Nat) (x : DmaChan) : (s.setDma i x).jrn = s.jrn := rfl
@[simp] theorem State.setDma_comp (s : State) (i : Nat) (x : DmaChan) : (s.setDma i x).comp = s.comp := rfl
@[simp] theorem State.setDma_fire (s : State) (i : Nat) (x : DmaChan) : (s.setDma i x).fire = s.fire := rfl
@[simp] theorem State.setDma_insp (s : State) (i : Nat) (x : DmaChan) : (s.setDma i x).insp = s.insp := rfl
@[simp] theorem State.setDma_img (s : State) (i : Nat) (x : DmaChan) : (s.setDma i x).img = s.img := rfl
@[simp] theorem State.setDma_beam (s : State) (i : Nat) (x : DmaChan) : (s.setDma i x).beam = s.beam := rfl
@[simp] theorem State.setDma_mem (s : State) (i : Nat) (x : DmaChan) : (s.setDma i x).mem = s.mem := rfl
@[simp] theorem State.setDma_met (s : State) (i : Nat) (x : DmaChan) : (s.setDma i x).met = s.met := rfl
@[simp] theorem State.setDma_power (s : State) (i : Nat) (x : DmaChan) : (s.setDma i x).power = s.power := rfl
@[simp] theorem State.setDma_fault (s : State) (i : Nat) (x : DmaChan) : (s.setDma i x).fault = s.fault := rfl
@[simp] theorem State.setDma_mgmt (s : State) (i : Nat) (x : DmaChan) : (s.setDma i x).mgmt = s.mgmt := rfl
@[simp] theorem State.setDma_clk (s : State) (i : Nat) (x : DmaChan) : (s.setDma i x).clk = s.clk := rfl
@[simp] theorem State.setDma_ctl (s : State) (i : Nat) (x : DmaChan) : (s.setDma i x).ctl = s.ctl := rfl
@[simp] theorem State.setDma_mover_codec (s : State) (i : Nat) (x : DmaChan) : (s.setDma i x).mover.codec = s.mover.codec := rfl
@[simp] theorem State.setDma_mover_ctxs (s : State) (i : Nat) (x : DmaChan) : (s.setDma i x).mover.ctxs = s.mover.ctxs := rfl
@[simp] theorem State.setDma_mover_nextCtx (s : State) (i : Nat) (x : DmaChan) : (s.setDma i x).mover.nextCtx = s.mover.nextCtx := rfl
@[simp] theorem State.setDma_mover_drain (s : State) (i : Nat) (x : DmaChan) : (s.setDma i x).mover.drain = s.mover.drain := rfl
@[simp] theorem State.setDma_od_pend (s : State) (i : Nat) (x : DmaChan) : (s.setDma i x).od.pend = s.od.pend := rfl
@[simp] theorem State.setDma_od_line (s : State) (i : Nat) (x : DmaChan) : (s.setDma i x).od.line = s.od.line := rfl
@[simp] theorem State.setDma_od_flash (s : State) (i : Nat) (x : DmaChan) : (s.setDma i x).od.flash = s.od.flash := rfl
@[simp] theorem State.setDma_od_kept (s : State) (i : Nat) (x : DmaChan) : (s.setDma i x).od.kept = s.od.kept := rfl
@[simp] theorem State.setDma_dma_same (s : State) (i : Nat) (x : DmaChan) (h : i < 16) : (s.setDma i x).dma i = x :=
  getD_setIfInBounds_same s.mover.dma x _ h
theorem State.setDma_dma_ne (s : State) (i : Nat) (x : DmaChan) {j : Nat} (h : j ≠ i) : (s.setDma i x).dma j = s.dma j :=
  getD_setIfInBounds_ne s.mover.dma x _ h

/-! `store` -/
@[simp] theorem State.store_pending (s : State) (a : Nat) (bs : List Byte) : (s.store a bs).pending = s.pending := rfl
@[simp] theorem State.store_now (s : State) (a : Nat) (bs : List Byte) : (s.store a bs).now = s.now := rfl
@[simp] theorem State.store_freeCtr (s : State) (a : Nat) (bs : List Byte) : (s.store a bs).freeCtr = s.freeCtr := rfl
@[simp] theorem State.store_od (s : State) (a : Nat) (bs : List Byte) : (s.store a bs).od = s.od := rfl
@[simp] theorem State.store_log (s : State) (a : Nat) (bs : List Byte) : (s.store a bs).log = s.log := rfl
@[simp] theorem State.store_net (s : State) (a : Nat) (bs : List Byte) : (s.store a bs).net = s.net := rfl
@[simp] theorem State.store_web (s : State) (a : Nat) (bs : List Byte) : (s.store a bs).web = s.web := rfl
@[simp] theorem State.store_lane (s : State) (a : Nat) (bs : List Byte) : (s.store a bs).lane = s.lane := rfl
@[simp] theorem State.store_jrn (s : State) (a : Nat) (bs : List Byte) : (s.store a bs).jrn = s.jrn := rfl
@[simp] theorem State.store_comp (s : State) (a : Nat) (bs : List Byte) : (s.store a bs).comp = s.comp := rfl
@[simp] theorem State.store_fire (s : State) (a : Nat) (bs : List Byte) : (s.store a bs).fire = s.fire := rfl
@[simp] theorem State.store_insp (s : State) (a : Nat) (bs : List Byte) : (s.store a bs).insp = s.insp := rfl
@[simp] theorem State.store_img (s : State) (a : Nat) (bs : List Byte) : (s.store a bs).img = s.img := rfl
@[simp] theorem State.store_beam (s : State) (a : Nat) (bs : List Byte) : (s.store a bs).beam = s.beam := rfl
@[simp] theorem State.store_mover (s : State) (a : Nat) (bs : List Byte) : (s.store a bs).mover = s.mover := rfl
@[simp] theorem State.store_met (s : State) (a : Nat) (bs : List Byte) : (s.store a bs).met = s.met := rfl
@[simp] theorem State.store_power (s : State) (a : Nat) (bs : List Byte) : (s.store a bs).power = s.power := rfl
@[simp] theorem State.store_fault (s : State) (a : Nat) (bs : List Byte) : (s.store a bs).fault = s.fault := rfl
@[simp] theorem State.store_mgmt (s : State) (a : Nat) (bs : List Byte) : (s.store a bs).mgmt = s.mgmt := rfl
@[simp] theorem State.store_clk (s : State) (a : Nat) (bs : List Byte) : (s.store a bs).clk = s.clk := rfl
@[simp] theorem State.store_ctl (s : State) (a : Nat) (bs : List Byte) : (s.store a bs).ctl = s.ctl := rfl
@[simp] theorem State.store_ov (s : State) (a : Nat) (bs : List Byte) (j : Nat) : (s.store a bs).ov j = s.ov j := rfl
@[simp] theorem State.store_on (s : State) (a : Nat) (bs : List Byte) (j : Nat) : (s.store a bs).on j = s.on j := rfl
@[simp] theorem State.store_oi (s : State) (a : Nat) (bs : List Byte) (j : Nat) : (s.store a bs).oi j = s.oi j := rfl
@[simp] theorem State.store_ob (s : State) (a : Nat) (bs : List Byte) (j : Nat) : (s.store a bs).ob j = s.ob j := rfl
@[simp] theorem State.store_obytes (s : State) (a : Nat) (bs : List Byte) (j : Nat) : (s.store a bs).obytes j = s.obytes j := rfl

/-! `setMet` -/
@[simp] theorem State.setMet_pending (s : State) (x : MetSt) : (s.setMet x).pending = s.pending := rfl
@[simp] theorem State.setMet_now (s : State) (x : MetSt) : (s.setMet x).now = s.now := rfl
@[simp] theorem State.setMet_freeCtr (s : State) (x : MetSt) : (s.setMet x).freeCtr = s.freeCtr := rfl
@[simp] theorem State.setMet_od (s : State) (x : MetSt) : (s.setMet x).od = s.od := rfl
@[simp] theorem State.setMet_log (s : State) (x : MetSt) : (s.setMet x).log = s.log := rfl
@[simp] theorem State.setMet_net (s : State) (x : MetSt) : (s.setMet x).net = s.net := rfl
@[simp] theorem State.setMet_web (s : State) (x : MetSt) : (s.setMet x).web = s.web := rfl
@[simp] theorem State.setMet_lane (s : State) (x : MetSt) : (s.setMet x).lane = s.lane := rfl
@[simp] theorem State.setMet_jrn (s : State) (x : MetSt) : (s.setMet x).jrn = s.jrn := rfl
@[simp] theorem State.setMet_comp (s : State) (x : MetSt) : (s.setMet x).comp = s.comp := rfl
@[simp] theorem State.setMet_fire (s : State) (x : MetSt) : (s.setMet x).fire = s.fire := rfl
@[simp] theorem State.setMet_insp (s : State) (x : MetSt) : (s.setMet x).insp = s.insp := rfl
@[simp] theorem State.setMet_img (s : State) (x : MetSt) : (s.setMet x).img = s.img := rfl
@[simp] theorem State.setMet_beam (s : State) (x : MetSt) : (s.setMet x).beam = s.beam := rfl
@[simp] theorem State.setMet_mover (s : State) (x : MetSt) : (s.setMet x).mover = s.mover := rfl
@[simp] theorem State.setMet_mem (s : State) (x : MetSt) : (s.setMet x).mem = s.mem := rfl
@[simp] theorem State.setMet_power (s : State) (x : MetSt) : (s.setMet x).power = s.power := rfl
@[simp] theorem State.setMet_fault (s : State) (x : MetSt) : (s.setMet x).fault = s.fault := rfl
@[simp] theorem State.setMet_mgmt (s : State) (x : MetSt) : (s.setMet x).mgmt = s.mgmt := rfl
@[simp] theorem State.setMet_clk (s : State) (x : MetSt) : (s.setMet x).clk = s.clk := rfl
@[simp] theorem State.setMet_ctl (s : State) (x : MetSt) : (s.setMet x).ctl = s.ctl := rfl
@[simp] theorem State.setMet_met (s : State) (x : MetSt) : (s.setMet x).met = x := rfl
@[simp] theorem State.setMet_ov (s : State) (x : MetSt) (j : Nat) : (s.setMet x).ov j = s.ov j := rfl
@[simp] theorem State.setMet_on (s : State) (x : MetSt) (j : Nat) : (s.setMet x).on j = s.on j := rfl
@[simp] theorem State.setMet_oi (s : State) (x : MetSt) (j : Nat) : (s.setMet x).oi j = s.oi j := rfl
@[simp] theorem State.setMet_ob (s : State) (x : MetSt) (j : Nat) : (s.setMet x).ob j = s.ob j := rfl
@[simp] theorem State.setMet_obytes (s : State) (x : MetSt) (j : Nat) : (s.setMet x).obytes j = s.obytes j := rfl

/-! `setCell` -/
@[simp] theorem State.setCell_pending (s : State) (i : Nat) (x : LoadCell) : (s.setCell i x).pending = s.pending := rfl
@[simp] theorem State.setCell_now (s : State) (i : Nat) (x : LoadCell) : (s.setCell i x).now = s.now := rfl
@[simp] theorem State.setCell_freeCtr (s : State) (i : Nat) (x : LoadCell) : (s.setCell i x).freeCtr = s.freeCtr := rfl
@[simp] theorem State.setCell_od (s : State) (i : Nat) (x : LoadCell) : (s.setCell i x).od = s.od := rfl
@[simp] theorem State.setCell_log (s : State) (i : Nat) (x : LoadCell) : (s.setCell i x).log = s.log := rfl
@[simp] theorem State.setCell_net (s : State) (i : Nat) (x : LoadCell) : (s.setCell i x).net = s.net := rfl
@[simp] theorem State.setCell_web (s : State) (i : Nat) (x : LoadCell) : (s.setCell i x).web = s.web := rfl
@[simp] theorem State.setCell_lane (s : State) (i : Nat) (x : LoadCell) : (s.setCell i x).lane = s.lane := rfl
@[simp] theorem State.setCell_jrn (s : State) (i : Nat) (x : LoadCell) : (s.setCell i x).jrn = s.jrn := rfl
@[simp] theorem State.setCell_comp (s : State) (i : Nat) (x : LoadCell) : (s.setCell i x).comp = s.comp := rfl
@[simp] theorem State.setCell_fire (s : State) (i : Nat) (x : LoadCell) : (s.setCell i x).fire = s.fire := rfl
@[simp] theorem State.setCell_insp (s : State) (i : Nat) (x : LoadCell) : (s.setCell i x).insp = s.insp := rfl
@[simp] theorem State.setCell_img (s : State) (i : Nat) (x : LoadCell) : (s.setCell i x).img = s.img := rfl
@[simp] theorem State.setCell_beam (s : State) (i : Nat) (x : LoadCell) : (s.setCell i x).beam = s.beam := rfl
@[simp] theorem State.setCell_mover (s : State) (i : Nat) (x : LoadCell) : (s.setCell i x).mover = s.mover := rfl
@[simp] theorem State.setCell_mem (s : State) (i : Nat) (x : LoadCell) : (s.setCell i x).mem = s.mem := rfl
@[simp] theorem State.setCell_power (s : State) (i : Nat) (x : LoadCell) : (s.setCell i x).power = s.power := rfl
@[simp] theorem State.setCell_fault (s : State) (i : Nat) (x : LoadCell) : (s.setCell i x).fault = s.fault := rfl
@[simp] theorem State.setCell_mgmt (s : State) (i : Nat) (x : LoadCell) : (s.setCell i x).mgmt = s.mgmt := rfl
@[simp] theorem State.setCell_clk (s : State) (i : Nat) (x : LoadCell) : (s.setCell i x).clk = s.clk := rfl
@[simp] theorem State.setCell_ctl (s : State) (i : Nat) (x : LoadCell) : (s.setCell i x).ctl = s.ctl := rfl
@[simp] theorem State.setCell_met_buffer (s : State) (i : Nat) (x : LoadCell) : (s.setCell i x).met.buffer = s.met.buffer := rfl
@[simp] theorem State.setCell_met_channel (s : State) (i : Nat) (x : LoadCell) : (s.setCell i x).met.channel = s.met.channel := rfl
@[simp] theorem State.setCell_met_nextSeq (s : State) (i : Nat) (x : LoadCell) : (s.setCell i x).met.nextSeq = s.met.nextSeq := rfl
@[simp] theorem State.setCell_met_reserved (s : State) (i : Nat) (x : LoadCell) : (s.setCell i x).met.reserved = s.met.reserved := rfl
@[simp] theorem State.setCell_met_sealShut (s : State) (i : Nat) (x : LoadCell) : (s.setCell i x).met.sealShut = s.met.sealShut := rfl
@[simp] theorem State.setCell_met_openLatched (s : State) (i : Nat) (x : LoadCell) : (s.setCell i x).met.openLatched = s.met.openLatched := rfl
@[simp] theorem State.setCell_met_audit (s : State) (i : Nat) (x : LoadCell) : (s.setCell i x).met.audit = s.met.audit := rfl
@[simp] theorem State.setCell_ov (s : State) (i : Nat) (x : LoadCell) (j : Nat) : (s.setCell i x).ov j = s.ov j := rfl
@[simp] theorem State.setCell_on (s : State) (i : Nat) (x : LoadCell) (j : Nat) : (s.setCell i x).on j = s.on j := rfl
@[simp] theorem State.setCell_oi (s : State) (i : Nat) (x : LoadCell) (j : Nat) : (s.setCell i x).oi j = s.oi j := rfl
@[simp] theorem State.setCell_ob (s : State) (i : Nat) (x : LoadCell) (j : Nat) : (s.setCell i x).ob j = s.ob j := rfl
@[simp] theorem State.setCell_obytes (s : State) (i : Nat) (x : LoadCell) (j : Nat) : (s.setCell i x).obytes j = s.obytes j := rfl
@[simp] theorem State.setCell_cell_same (s : State) (i : Nat) (x : LoadCell) (h : i < 2) : (s.setCell i x).cell i = x :=
  getD_setIfInBounds_same s.met.cells x _ h
theorem State.setCell_cell_ne (s : State) (i : Nat) (x : LoadCell) {j : Nat} (h : j ≠ i) : (s.setCell i x).cell j = s.cell j :=
  getD_setIfInBounds_ne s.met.cells x _ h

/-! `setPower` -/
@[simp] theorem State.setPower_pending (s : State) (x : PowerSt) : (s.setPower x).pending = s.pending := rfl
@[simp] theorem State.setPower_now (s : State) (x : PowerSt) : (s.setPower x).now = s.now := rfl
@[simp] theorem State.setPower_freeCtr (s : State) (x : PowerSt) : (s.setPower x).freeCtr = s.freeCtr := rfl
@[simp] theorem State.setPower_od (s : State) (x : PowerSt) : (s.setPower x).od = s.od := rfl
@[simp] theorem State.setPower_log (s : State) (x : PowerSt) : (s.setPower x).log = s.log := rfl
@[simp] theorem State.setPower_net (s : State) (x : PowerSt) : (s.setPower x).net = s.net := rfl
@[simp] theorem State.setPower_web (s : State) (x : PowerSt) : (s.setPower x).web = s.web := rfl
@[simp] theorem State.setPower_lane (s : State) (x : PowerSt) : (s.setPower x).lane = s.lane := rfl
@[simp] theorem State.setPower_jrn (s : State) (x : PowerSt) : (s.setPower x).jrn = s.jrn := rfl
@[simp] theorem State.setPower_comp (s : State) (x : PowerSt) : (s.setPower x).comp = s.comp := rfl
@[simp] theorem State.setPower_fire (s : State) (x : PowerSt) : (s.setPower x).fire = s.fire := rfl
@[simp] theorem State.setPower_insp (s : State) (x : PowerSt) : (s.setPower x).insp = s.insp := rfl
@[simp] theorem State.setPower_img (s : State) (x : PowerSt) : (s.setPower x).img = s.img := rfl
@[simp] theorem State.setPower_beam (s : State) (x : PowerSt) : (s.setPower x).beam = s.beam := rfl
@[simp] theorem State.setPower_mover (s : State) (x : PowerSt) : (s.setPower x).mover = s.mover := rfl
@[simp] theorem State.setPower_mem (s : State) (x : PowerSt) : (s.setPower x).mem = s.mem := rfl
@[simp] theorem State.setPower_met (s : State) (x : PowerSt) : (s.setPower x).met = s.met := rfl
@[simp] theorem State.setPower_fault (s : State) (x : PowerSt) : (s.setPower x).fault = s.fault := rfl
@[simp] theorem State.setPower_mgmt (s : State) (x : PowerSt) : (s.setPower x).mgmt = s.mgmt := rfl
@[simp] theorem State.setPower_clk (s : State) (x : PowerSt) : (s.setPower x).clk = s.clk := rfl
@[simp] theorem State.setPower_ctl (s : State) (x : PowerSt) : (s.setPower x).ctl = s.ctl := rfl
@[simp] theorem State.setPower_power (s : State) (x : PowerSt) : (s.setPower x).power = x := rfl
@[simp] theorem State.setPower_ov (s : State) (x : PowerSt) (j : Nat) : (s.setPower x).ov j = s.ov j := rfl
@[simp] theorem State.setPower_on (s : State) (x : PowerSt) (j : Nat) : (s.setPower x).on j = s.on j := rfl
@[simp] theorem State.setPower_oi (s : State) (x : PowerSt) (j : Nat) : (s.setPower x).oi j = s.oi j := rfl
@[simp] theorem State.setPower_ob (s : State) (x : PowerSt) (j : Nat) : (s.setPower x).ob j = s.ob j := rfl
@[simp] theorem State.setPower_obytes (s : State) (x : PowerSt) (j : Nat) : (s.setPower x).obytes j = s.obytes j := rfl

/-! `setSeq` -/
@[simp] theorem State.setSeq_pending (s : State) (i : Nat) (x : SeqCh) : (s.setSeq i x).pending = s.pending := rfl
@[simp] theorem State.setSeq_now (s : State) (i : Nat) (x : SeqCh) : (s.setSeq i x).now = s.now := rfl
@[simp] theorem State.setSeq_freeCtr (s : State) (i : Nat) (x : SeqCh) : (s.setSeq i x).freeCtr = s.freeCtr := rfl
@[simp] theorem State.setSeq_od (s : State) (i : Nat) (x : SeqCh) : (s.setSeq i x).od = s.od := rfl
@[simp] theorem State.setSeq_log (s : State) (i : Nat) (x : SeqCh) : (s.setSeq i x).log = s.log := rfl
@[simp] theorem State.setSeq_net (s : State) (i : Nat) (x : SeqCh) : (s.setSeq i x).net = s.net := rfl
@[simp] theorem State.setSeq_web (s : State) (i : Nat) (x : SeqCh) : (s.setSeq i x).web = s.web := rfl
@[simp] theorem State.setSeq_lane (s : State) (i : Nat) (x : SeqCh) : (s.setSeq i x).lane = s.lane := rfl
@[simp] theorem State.setSeq_jrn (s : State) (i : Nat) (x : SeqCh) : (s.setSeq i x).jrn = s.jrn := rfl
@[simp] theorem State.setSeq_comp (s : State) (i : Nat) (x : SeqCh) : (s.setSeq i x).comp = s.comp := rfl
@[simp] theorem State.setSeq_fire (s : State) (i : Nat) (x : SeqCh) : (s.setSeq i x).fire = s.fire := rfl
@[simp] theorem State.setSeq_insp (s : State) (i : Nat) (x : SeqCh) : (s.setSeq i x).insp = s.insp := rfl
@[simp] theorem State.setSeq_img (s : State) (i : Nat) (x : SeqCh) : (s.setSeq i x).img = s.img := rfl
@[simp] theorem State.setSeq_beam (s : State) (i : Nat) (x : SeqCh) : (s.setSeq i x).beam = s.beam := rfl
@[simp] theorem State.setSeq_mover (s : State) (i : Nat) (x : SeqCh) : (s.setSeq i x).mover = s.mover := rfl
@[simp] theorem State.setSeq_mem (s : State) (i : Nat) (x : SeqCh) : (s.setSeq i x).mem = s.mem := rfl
@[simp] theorem State.setSeq_met (s : State) (i : Nat) (x : SeqCh) : (s.setSeq i x).met = s.met := rfl
@[simp] theorem State.setSeq_fault (s : State) (i : Nat) (x : SeqCh) : (s.setSeq i x).fault = s.fault := rfl
@[simp] theorem State.setSeq_mgmt (s : State) (i : Nat) (x : SeqCh) : (s.setSeq i x).mgmt = s.mgmt := rfl
@[simp] theorem State.setSeq_clk (s : State) (i : Nat) (x : SeqCh) : (s.setSeq i x).clk = s.clk := rfl
@[simp] theorem State.setSeq_ctl (s : State) (i : Nat) (x : SeqCh) : (s.setSeq i x).ctl = s.ctl := rfl
@[simp] theorem State.setSeq_power_stepWait (s : State) (i : Nat) (x : SeqCh) : (s.setSeq i x).power.stepWait = s.power.stepWait := rfl
@[simp] theorem State.setSeq_power_service (s : State) (i : Nat) (x : SeqCh) : (s.setSeq i x).power.service = s.power.service := rfl
@[simp] theorem State.setSeq_power_svcFailed (s : State) (i : Nat) (x : SeqCh) : (s.setSeq i x).power.svcFailed = s.power.svcFailed := rfl
@[simp] theorem State.setSeq_power_offWanted (s : State) (i : Nat) (x : SeqCh) : (s.setSeq i x).power.offWanted = s.power.offWanted := rfl
@[simp] theorem State.setSeq_power_onWanted (s : State) (i : Nat) (x : SeqCh) : (s.setSeq i x).power.onWanted = s.power.onWanted := rfl
@[simp] theorem State.setSeq_power_onCause (s : State) (i : Nat) (x : SeqCh) : (s.setSeq i x).power.onCause = s.power.onCause := rfl
@[simp] theorem State.setSeq_power_safeUp (s : State) (i : Nat) (x : SeqCh) : (s.setSeq i x).power.safeUp = s.power.safeUp := rfl
@[simp] theorem State.setSeq_power_warnAt (s : State) (i : Nat) (x : SeqCh) : (s.setSeq i x).power.warnAt = s.power.warnAt := rfl
@[simp] theorem State.setSeq_power_stopAt (s : State) (i : Nat) (x : SeqCh) : (s.setSeq i x).power.stopAt = s.power.stopAt := rfl
@[simp] theorem State.setSeq_power_resetWhy (s : State) (i : Nat) (x : SeqCh) : (s.setSeq i x).power.resetWhy = s.power.resetWhy := rfl
@[simp] theorem State.setSeq_power_record (s : State) (i : Nat) (x : SeqCh) : (s.setSeq i x).power.record = s.power.record := rfl
@[simp] theorem State.setSeq_power_area (s : State) (i : Nat) (x : SeqCh) : (s.setSeq i x).power.area = s.power.area := rfl
@[simp] theorem State.setSeq_power_writeNum (s : State) (i : Nat) (x : SeqCh) : (s.setSeq i x).power.writeNum = s.power.writeNum := rfl
@[simp] theorem State.setSeq_power_dropTime (s : State) (i : Nat) (x : SeqCh) : (s.setSeq i x).power.dropTime = s.power.dropTime := rfl
@[simp] theorem State.setSeq_power_aonLost (s : State) (i : Nat) (x : SeqCh) : (s.setSeq i x).power.aonLost = s.power.aonLost := rfl
@[simp] theorem State.setSeq_power_resetAt (s : State) (i : Nat) (x : SeqCh) : (s.setSeq i x).power.resetAt = s.power.resetAt := rfl
@[simp] theorem State.setSeq_power_onAt (s : State) (i : Nat) (x : SeqCh) : (s.setSeq i x).power.onAt = s.power.onAt := rfl
@[simp] theorem State.setSeq_power_resetDue (s : State) (i : Nat) (x : SeqCh) : (s.setSeq i x).power.resetDue = s.power.resetDue := rfl
@[simp] theorem State.setSeq_ov (s : State) (i : Nat) (x : SeqCh) (j : Nat) : (s.setSeq i x).ov j = s.ov j := rfl
@[simp] theorem State.setSeq_on (s : State) (i : Nat) (x : SeqCh) (j : Nat) : (s.setSeq i x).on j = s.on j := rfl
@[simp] theorem State.setSeq_oi (s : State) (i : Nat) (x : SeqCh) (j : Nat) : (s.setSeq i x).oi j = s.oi j := rfl
@[simp] theorem State.setSeq_ob (s : State) (i : Nat) (x : SeqCh) (j : Nat) : (s.setSeq i x).ob j = s.ob j := rfl
@[simp] theorem State.setSeq_obytes (s : State) (i : Nat) (x : SeqCh) (j : Nat) : (s.setSeq i x).obytes j = s.obytes j := rfl
@[simp] theorem State.setSeq_seqCh_same (s : State) (i : Nat) (x : SeqCh) (h : i < 16) : (s.setSeq i x).seqCh i = x :=
  getD_setIfInBounds_same s.power.seq x _ h
theorem State.setSeq_seqCh_ne (s : State) (i : Nat) (x : SeqCh) {j : Nat} (h : j ≠ i) : (s.setSeq i x).seqCh j = s.seqCh j :=
  getD_setIfInBounds_ne s.power.seq x _ h

/-! `setFault` -/
@[simp] theorem State.setFault_pending (s : State) (x : FaultSt) : (s.setFault x).pending = s.pending := rfl
@[simp] theorem State.setFault_now (s : State) (x : FaultSt) : (s.setFault x).now = s.now := rfl
@[simp] theorem State.setFault_freeCtr (s : State) (x : FaultSt) : (s.setFault x).freeCtr = s.freeCtr := rfl
@[simp] theorem State.setFault_od (s : State) (x : FaultSt) : (s.setFault x).od = s.od := rfl
@[simp] theorem State.setFault_log (s : State) (x : FaultSt) : (s.setFault x).log = s.log := rfl
@[simp] theorem State.setFault_net (s : State) (x : FaultSt) : (s.setFault x).net = s.net := rfl
@[simp] theorem State.setFault_web (s : State) (x : FaultSt) : (s.setFault x).web = s.web := rfl
@[simp] theorem State.setFault_lane (s : State) (x : FaultSt) : (s.setFault x).lane = s.lane := rfl
@[simp] theorem State.setFault_jrn (s : State) (x : FaultSt) : (s.setFault x).jrn = s.jrn := rfl
@[simp] theorem State.setFault_comp (s : State) (x : FaultSt) : (s.setFault x).comp = s.comp := rfl
@[simp] theorem State.setFault_fire (s : State) (x : FaultSt) : (s.setFault x).fire = s.fire := rfl
@[simp] theorem State.setFault_insp (s : State) (x : FaultSt) : (s.setFault x).insp = s.insp := rfl
@[simp] theorem State.setFault_img (s : State) (x : FaultSt) : (s.setFault x).img = s.img := rfl
@[simp] theorem State.setFault_beam (s : State) (x : FaultSt) : (s.setFault x).beam = s.beam := rfl
@[simp] theorem State.setFault_mover (s : State) (x : FaultSt) : (s.setFault x).mover = s.mover := rfl
@[simp] theorem State.setFault_mem (s : State) (x : FaultSt) : (s.setFault x).mem = s.mem := rfl
@[simp] theorem State.setFault_met (s : State) (x : FaultSt) : (s.setFault x).met = s.met := rfl
@[simp] theorem State.setFault_power (s : State) (x : FaultSt) : (s.setFault x).power = s.power := rfl
@[simp] theorem State.setFault_mgmt (s : State) (x : FaultSt) : (s.setFault x).mgmt = s.mgmt := rfl
@[simp] theorem State.setFault_clk (s : State) (x : FaultSt) : (s.setFault x).clk = s.clk := rfl
@[simp] theorem State.setFault_ctl (s : State) (x : FaultSt) : (s.setFault x).ctl = s.ctl := rfl
@[simp] theorem State.setFault_fault (s : State) (x : FaultSt) : (s.setFault x).fault = x := rfl
@[simp] theorem State.setFault_ov (s : State) (x : FaultSt) (j : Nat) : (s.setFault x).ov j = s.ov j := rfl
@[simp] theorem State.setFault_on (s : State) (x : FaultSt) (j : Nat) : (s.setFault x).on j = s.on j := rfl
@[simp] theorem State.setFault_oi (s : State) (x : FaultSt) (j : Nat) : (s.setFault x).oi j = s.oi j := rfl
@[simp] theorem State.setFault_ob (s : State) (x : FaultSt) (j : Nat) : (s.setFault x).ob j = s.ob j := rfl
@[simp] theorem State.setFault_obytes (s : State) (x : FaultSt) (j : Nat) : (s.setFault x).obytes j = s.obytes j := rfl

/-! `setSource` -/
@[simp] theorem State.setSource_pending (s : State) (i : Nat) (x : Source) : (s.setSource i x).pending = s.pending := rfl
@[simp] theorem State.setSource_now (s : State) (i : Nat) (x : Source) : (s.setSource i x).now = s.now := rfl
@[simp] theorem State.setSource_freeCtr (s : State) (i : Nat) (x : Source) : (s.setSource i x).freeCtr = s.freeCtr := rfl
@[simp] theorem State.setSource_od (s : State) (i : Nat) (x : Source) : (s.setSource i x).od = s.od := rfl
@[simp] theorem State.setSource_log (s : State) (i : Nat) (x : Source) : (s.setSource i x).log = s.log := rfl
@[simp] theorem State.setSource_net (s : State) (i : Nat) (x : Source) : (s.setSource i x).net = s.net := rfl
@[simp] theorem State.setSource_web (s : State) (i : Nat) (x : Source) : (s.setSource i x).web = s.web := rfl
@[simp] theorem State.setSource_lane (s : State) (i : Nat) (x : Source) : (s.setSource i x).lane = s.lane := rfl
@[simp] theorem State.setSource_jrn (s : State) (i : Nat) (x : Source) : (s.setSource i x).jrn = s.jrn := rfl
@[simp] theorem State.setSource_comp (s : State) (i : Nat) (x : Source) : (s.setSource i x).comp = s.comp := rfl
@[simp] theorem State.setSource_fire (s : State) (i : Nat) (x : Source) : (s.setSource i x).fire = s.fire := rfl
@[simp] theorem State.setSource_insp (s : State) (i : Nat) (x : Source) : (s.setSource i x).insp = s.insp := rfl
@[simp] theorem State.setSource_img (s : State) (i : Nat) (x : Source) : (s.setSource i x).img = s.img := rfl
@[simp] theorem State.setSource_beam (s : State) (i : Nat) (x : Source) : (s.setSource i x).beam = s.beam := rfl
@[simp] theorem State.setSource_mover (s : State) (i : Nat) (x : Source) : (s.setSource i x).mover = s.mover := rfl
@[simp] theorem State.setSource_mem (s : State) (i : Nat) (x : Source) : (s.setSource i x).mem = s.mem := rfl
@[simp] theorem State.setSource_met (s : State) (i : Nat) (x : Source) : (s.setSource i x).met = s.met := rfl
@[simp] theorem State.setSource_power (s : State) (i : Nat) (x : Source) : (s.setSource i x).power = s.power := rfl
@[simp] theorem State.setSource_mgmt (s : State) (i : Nat) (x : Source) : (s.setSource i x).mgmt = s.mgmt := rfl
@[simp] theorem State.setSource_clk (s : State) (i : Nat) (x : Source) : (s.setSource i x).clk = s.clk := rfl
@[simp] theorem State.setSource_ctl (s : State) (i : Nat) (x : Source) : (s.setSource i x).ctl = s.ctl := rfl
@[simp] theorem State.setSource_fault_actions (s : State) (i : Nat) (x : Source) : (s.setSource i x).fault.actions = s.fault.actions := rfl
@[simp] theorem State.setSource_fault_kept (s : State) (i : Nat) (x : Source) : (s.setSource i x).fault.kept = s.fault.kept := rfl
@[simp] theorem State.setSource_fault_quiet (s : State) (i : Nat) (x : Source) : (s.setSource i x).fault.quiet = s.fault.quiet := rfl
@[simp] theorem State.setSource_fault_pulseEnd (s : State) (i : Nat) (x : Source) : (s.setSource i x).fault.pulseEnd = s.fault.pulseEnd := rfl
@[simp] theorem State.setSource_fault_testNext (s : State) (i : Nat) (x : Source) : (s.setSource i x).fault.testNext = s.fault.testNext := rfl
@[simp] theorem State.setSource_fault_mirrorSent (s : State) (i : Nat) (x : Source) : (s.setSource i x).fault.mirrorSent = s.fault.mirrorSent := rfl
@[simp] theorem State.setSource_fault_mirrorRx (s : State) (i : Nat) (x : Source) : (s.setSource i x).fault.mirrorRx = s.fault.mirrorRx := rfl
@[simp] theorem State.setSource_fault_applying (s : State) (i : Nat) (x : Source) : (s.setSource i x).fault.applying = s.fault.applying := rfl
@[simp] theorem State.setSource_fault_partnerRx (s : State) (i : Nat) (x : Source) : (s.setSource i x).fault.partnerRx = s.fault.partnerRx := rfl
@[simp] theorem State.setSource_fault_held (s : State) (i : Nat) (x : Source) : (s.setSource i x).fault.held = s.fault.held := rfl
@[simp] theorem State.setSource_fault_shadow (s : State) (i : Nat) (x : Source) : (s.setSource i x).fault.shadow = s.fault.shadow := rfl
@[simp] theorem State.setSource_fault_unbound (s : State) (i : Nat) (x : Source) : (s.setSource i x).fault.unbound = s.fault.unbound := rfl
@[simp] theorem State.setSource_fault_lastHeart (s : State) (i : Nat) (x : Source) : (s.setSource i x).fault.lastHeart = s.fault.lastHeart := rfl
@[simp] theorem State.setSource_fault_partner (s : State) (i : Nat) (x : Source) : (s.setSource i x).fault.partner = s.fault.partner := rfl
@[simp] theorem State.setSource_fault_partnerHealth (s : State) (i : Nat) (x : Source) : (s.setSource i x).fault.partnerHealth = s.fault.partnerHealth := rfl
@[simp] theorem State.setSource_fault_partnerFired (s : State) (i : Nat) (x : Source) : (s.setSource i x).fault.partnerFired = s.fault.partnerFired := rfl
@[simp] theorem State.setSource_fault_laneUp (s : State) (i : Nat) (x : Source) : (s.setSource i x).fault.laneUp = s.fault.laneUp := rfl
@[simp] theorem State.setSource_fault_takeAt (s : State) (i : Nat) (x : Source) : (s.setSource i x).fault.takeAt = s.fault.takeAt := rfl
@[simp] theorem State.setSource_fault_gapFrom (s : State) (i : Nat) (x : Source) : (s.setSource i x).fault.gapFrom = s.fault.gapFrom := rfl
@[simp] theorem State.setSource_fault_fenceOut (s : State) (i : Nat) (x : Source) : (s.setSource i x).fault.fenceOut = s.fault.fenceOut := rfl
@[simp] theorem State.setSource_fault_fenceIn (s : State) (i : Nat) (x : Source) : (s.setSource i x).fault.fenceIn = s.fault.fenceIn := rfl
@[simp] theorem State.setSource_fault_actOut (s : State) (i : Nat) (x : Source) : (s.setSource i x).fault.actOut = s.fault.actOut := rfl
@[simp] theorem State.setSource_fault_hiZ (s : State) (i : Nat) (x : Source) : (s.setSource i x).fault.hiZ = s.fault.hiZ := rfl
@[simp] theorem State.setSource_fault_partnerPos (s : State) (i : Nat) (x : Source) : (s.setSource i x).fault.partnerPos = s.fault.partnerPos := rfl
@[simp] theorem State.setSource_fault_sent (s : State) (i : Nat) (x : Source) : (s.setSource i x).fault.sent = s.fault.sent := rfl
@[simp] theorem State.setSource_fault_lags (s : State) (i : Nat) (x : Source) : (s.setSource i x).fault.lags = s.fault.lags := rfl
@[simp] theorem State.setSource_fault_encMiss (s : State) (i : Nat) (x : Source) : (s.setSource i x).fault.encMiss = s.fault.encMiss := rfl
@[simp] theorem State.setSource_fault_passes (s : State) (i : Nat) (x : Source) : (s.setSource i x).fault.passes = s.fault.passes := rfl
@[simp] theorem State.setSource_ov (s : State) (i : Nat) (x : Source) (j : Nat) : (s.setSource i x).ov j = s.ov j := rfl
@[simp] theorem State.setSource_on (s : State) (i : Nat) (x : Source) (j : Nat) : (s.setSource i x).on j = s.on j := rfl
@[simp] theorem State.setSource_oi (s : State) (i : Nat) (x : Source) (j : Nat) : (s.setSource i x).oi j = s.oi j := rfl
@[simp] theorem State.setSource_ob (s : State) (i : Nat) (x : Source) (j : Nat) : (s.setSource i x).ob j = s.ob j := rfl
@[simp] theorem State.setSource_obytes (s : State) (i : Nat) (x : Source) (j : Nat) : (s.setSource i x).obytes j = s.obytes j := rfl

/-! `setMgmt` -/
@[simp] theorem State.setMgmt_pending (s : State) (x : MgmtSt) : (s.setMgmt x).pending = s.pending := rfl
@[simp] theorem State.setMgmt_now (s : State) (x : MgmtSt) : (s.setMgmt x).now = s.now := rfl
@[simp] theorem State.setMgmt_freeCtr (s : State) (x : MgmtSt) : (s.setMgmt x).freeCtr = s.freeCtr := rfl
@[simp] theorem State.setMgmt_od (s : State) (x : MgmtSt) : (s.setMgmt x).od = s.od := rfl
@[simp] theorem State.setMgmt_log (s : State) (x : MgmtSt) : (s.setMgmt x).log = s.log := rfl
@[simp] theorem State.setMgmt_net (s : State) (x : MgmtSt) : (s.setMgmt x).net = s.net := rfl
@[simp] theorem State.setMgmt_web (s : State) (x : MgmtSt) : (s.setMgmt x).web = s.web := rfl
@[simp] theorem State.setMgmt_lane (s : State) (x : MgmtSt) : (s.setMgmt x).lane = s.lane := rfl
@[simp] theorem State.setMgmt_jrn (s : State) (x : MgmtSt) : (s.setMgmt x).jrn = s.jrn := rfl
@[simp] theorem State.setMgmt_comp (s : State) (x : MgmtSt) : (s.setMgmt x).comp = s.comp := rfl
@[simp] theorem State.setMgmt_fire (s : State) (x : MgmtSt) : (s.setMgmt x).fire = s.fire := rfl
@[simp] theorem State.setMgmt_insp (s : State) (x : MgmtSt) : (s.setMgmt x).insp = s.insp := rfl
@[simp] theorem State.setMgmt_img (s : State) (x : MgmtSt) : (s.setMgmt x).img = s.img := rfl
@[simp] theorem State.setMgmt_beam (s : State) (x : MgmtSt) : (s.setMgmt x).beam = s.beam := rfl
@[simp] theorem State.setMgmt_mover (s : State) (x : MgmtSt) : (s.setMgmt x).mover = s.mover := rfl
@[simp] theorem State.setMgmt_mem (s : State) (x : MgmtSt) : (s.setMgmt x).mem = s.mem := rfl
@[simp] theorem State.setMgmt_met (s : State) (x : MgmtSt) : (s.setMgmt x).met = s.met := rfl
@[simp] theorem State.setMgmt_power (s : State) (x : MgmtSt) : (s.setMgmt x).power = s.power := rfl
@[simp] theorem State.setMgmt_fault (s : State) (x : MgmtSt) : (s.setMgmt x).fault = s.fault := rfl
@[simp] theorem State.setMgmt_clk (s : State) (x : MgmtSt) : (s.setMgmt x).clk = s.clk := rfl
@[simp] theorem State.setMgmt_ctl (s : State) (x : MgmtSt) : (s.setMgmt x).ctl = s.ctl := rfl
@[simp] theorem State.setMgmt_mgmt (s : State) (x : MgmtSt) : (s.setMgmt x).mgmt = x := rfl
@[simp] theorem State.setMgmt_ov (s : State) (x : MgmtSt) (j : Nat) : (s.setMgmt x).ov j = s.ov j := rfl
@[simp] theorem State.setMgmt_on (s : State) (x : MgmtSt) (j : Nat) : (s.setMgmt x).on j = s.on j := rfl
@[simp] theorem State.setMgmt_oi (s : State) (x : MgmtSt) (j : Nat) : (s.setMgmt x).oi j = s.oi j := rfl
@[simp] theorem State.setMgmt_ob (s : State) (x : MgmtSt) (j : Nat) : (s.setMgmt x).ob j = s.ob j := rfl
@[simp] theorem State.setMgmt_obytes (s : State) (x : MgmtSt) (j : Nat) : (s.setMgmt x).obytes j = s.obytes j := rfl

/-! `setPll` -/
@[simp] theorem State.setPll_pending (s : State) (i : Nat) (x : PllSt) : (s.setPll i x).pending = s.pending := rfl
@[simp] theorem State.setPll_now (s : State) (i : Nat) (x : PllSt) : (s.setPll i x).now = s.now := rfl
@[simp] theorem State.setPll_freeCtr (s : State) (i : Nat) (x : PllSt) : (s.setPll i x).freeCtr = s.freeCtr := rfl
@[simp] theorem State.setPll_od (s : State) (i : Nat) (x : PllSt) : (s.setPll i x).od = s.od := rfl
@[simp] theorem State.setPll_log (s : State) (i : Nat) (x : PllSt) : (s.setPll i x).log = s.log := rfl
@[simp] theorem State.setPll_net (s : State) (i : Nat) (x : PllSt) : (s.setPll i x).net = s.net := rfl
@[simp] theorem State.setPll_web (s : State) (i : Nat) (x : PllSt) : (s.setPll i x).web = s.web := rfl
@[simp] theorem State.setPll_lane (s : State) (i : Nat) (x : PllSt) : (s.setPll i x).lane = s.lane := rfl
@[simp] theorem State.setPll_jrn (s : State) (i : Nat) (x : PllSt) : (s.setPll i x).jrn = s.jrn := rfl
@[simp] theorem State.setPll_comp (s : State) (i : Nat) (x : PllSt) : (s.setPll i x).comp = s.comp := rfl
@[simp] theorem State.setPll_fire (s : State) (i : Nat) (x : PllSt) : (s.setPll i x).fire = s.fire := rfl
@[simp] theorem State.setPll_insp (s : State) (i : Nat) (x : PllSt) : (s.setPll i x).insp = s.insp := rfl
@[simp] theorem State.setPll_img (s : State) (i : Nat) (x : PllSt) : (s.setPll i x).img = s.img := rfl
@[simp] theorem State.setPll_beam (s : State) (i : Nat) (x : PllSt) : (s.setPll i x).beam = s.beam := rfl
@[simp] theorem State.setPll_mover (s : State) (i : Nat) (x : PllSt) : (s.setPll i x).mover = s.mover := rfl
@[simp] theorem State.setPll_mem (s : State) (i : Nat) (x : PllSt) : (s.setPll i x).mem = s.mem := rfl
@[simp] theorem State.setPll_met (s : State) (i : Nat) (x : PllSt) : (s.setPll i x).met = s.met := rfl
@[simp] theorem State.setPll_power (s : State) (i : Nat) (x : PllSt) : (s.setPll i x).power = s.power := rfl
@[simp] theorem State.setPll_fault (s : State) (i : Nat) (x : PllSt) : (s.setPll i x).fault = s.fault := rfl
@[simp] theorem State.setPll_mgmt (s : State) (i : Nat) (x : PllSt) : (s.setPll i x).mgmt = s.mgmt := rfl
@[simp] theorem State.setPll_ctl (s : State) (i : Nat) (x : PllSt) : (s.setPll i x).ctl = s.ctl := rfl
@[simp] theorem State.setPll_ov (s : State) (i : Nat) (x : PllSt) (j : Nat) : (s.setPll i x).ov j = s.ov j := rfl
@[simp] theorem State.setPll_on (s : State) (i : Nat) (x : PllSt) (j : Nat) : (s.setPll i x).on j = s.on j := rfl
@[simp] theorem State.setPll_oi (s : State) (i : Nat) (x : PllSt) (j : Nat) : (s.setPll i x).oi j = s.oi j := rfl
@[simp] theorem State.setPll_ob (s : State) (i : Nat) (x : PllSt) (j : Nat) : (s.setPll i x).ob j = s.ob j := rfl
@[simp] theorem State.setPll_obytes (s : State) (i : Nat) (x : PllSt) (j : Nat) : (s.setPll i x).obytes j = s.obytes j := rfl
@[simp] theorem State.setPll_pll_same (s : State) (i : Nat) (x : PllSt) (h : i < 4) : (s.setPll i x).pll i = x :=
  getD_setIfInBounds_same s.clk.plls x _ h
theorem State.setPll_pll_ne (s : State) (i : Nat) (x : PllSt) {j : Nat} (h : j ≠ i) : (s.setPll i x).pll j = s.pll j :=
  getD_setIfInBounds_ne s.clk.plls x _ h

/-! `setAxis` -/
@[simp] theorem State.setAxis_pending (s : State) (i : Nat) (x : Axis) : (s.setAxis i x).pending = s.pending := rfl
@[simp] theorem State.setAxis_now (s : State) (i : Nat) (x : Axis) : (s.setAxis i x).now = s.now := rfl
@[simp] theorem State.setAxis_freeCtr (s : State) (i : Nat) (x : Axis) : (s.setAxis i x).freeCtr = s.freeCtr := rfl
@[simp] theorem State.setAxis_od (s : State) (i : Nat) (x : Axis) : (s.setAxis i x).od = s.od := rfl
@[simp] theorem State.setAxis_log (s : State) (i : Nat) (x : Axis) : (s.setAxis i x).log = s.log := rfl
@[simp] theorem State.setAxis_net (s : State) (i : Nat) (x : Axis) : (s.setAxis i x).net = s.net := rfl
@[simp] theorem State.setAxis_web (s : State) (i : Nat) (x : Axis) : (s.setAxis i x).web = s.web := rfl
@[simp] theorem State.setAxis_lane (s : State) (i : Nat) (x : Axis) : (s.setAxis i x).lane = s.lane := rfl
@[simp] theorem State.setAxis_jrn (s : State) (i : Nat) (x : Axis) : (s.setAxis i x).jrn = s.jrn := rfl
@[simp] theorem State.setAxis_comp (s : State) (i : Nat) (x : Axis) : (s.setAxis i x).comp = s.comp := rfl
@[simp] theorem State.setAxis_fire (s : State) (i : Nat) (x : Axis) : (s.setAxis i x).fire = s.fire := rfl
@[simp] theorem State.setAxis_insp (s : State) (i : Nat) (x : Axis) : (s.setAxis i x).insp = s.insp := rfl
@[simp] theorem State.setAxis_img (s : State) (i : Nat) (x : Axis) : (s.setAxis i x).img = s.img := rfl
@[simp] theorem State.setAxis_beam (s : State) (i : Nat) (x : Axis) : (s.setAxis i x).beam = s.beam := rfl
@[simp] theorem State.setAxis_mover (s : State) (i : Nat) (x : Axis) : (s.setAxis i x).mover = s.mover := rfl
@[simp] theorem State.setAxis_mem (s : State) (i : Nat) (x : Axis) : (s.setAxis i x).mem = s.mem := rfl
@[simp] theorem State.setAxis_met (s : State) (i : Nat) (x : Axis) : (s.setAxis i x).met = s.met := rfl
@[simp] theorem State.setAxis_power (s : State) (i : Nat) (x : Axis) : (s.setAxis i x).power = s.power := rfl
@[simp] theorem State.setAxis_fault (s : State) (i : Nat) (x : Axis) : (s.setAxis i x).fault = s.fault := rfl
@[simp] theorem State.setAxis_mgmt (s : State) (i : Nat) (x : Axis) : (s.setAxis i x).mgmt = s.mgmt := rfl
@[simp] theorem State.setAxis_clk (s : State) (i : Nat) (x : Axis) : (s.setAxis i x).clk = s.clk := rfl
@[simp] theorem State.setAxis_ctl_loops (s : State) (i : Nat) (x : Axis) : (s.setAxis i x).ctl.loops = s.ctl.loops := rfl
@[simp] theorem State.setAxis_ctl_pulses (s : State) (i : Nat) (x : Axis) : (s.setAxis i x).ctl.pulses = s.ctl.pulses := rfl
@[simp] theorem State.setAxis_ctl_sensors (s : State) (i : Nat) (x : Axis) : (s.setAxis i x).ctl.sensors = s.ctl.sensors := rfl
@[simp] theorem State.setAxis_ctl_throttle (s : State) (i : Nat) (x : Axis) : (s.setAxis i x).ctl.throttle = s.ctl.throttle := rfl
@[simp] theorem State.setAxis_ov (s : State) (i : Nat) (x : Axis) (j : Nat) : (s.setAxis i x).ov j = s.ov j := rfl
@[simp] theorem State.setAxis_on (s : State) (i : Nat) (x : Axis) (j : Nat) : (s.setAxis i x).on j = s.on j := rfl
@[simp] theorem State.setAxis_oi (s : State) (i : Nat) (x : Axis) (j : Nat) : (s.setAxis i x).oi j = s.oi j := rfl
@[simp] theorem State.setAxis_ob (s : State) (i : Nat) (x : Axis) (j : Nat) : (s.setAxis i x).ob j = s.ob j := rfl
@[simp] theorem State.setAxis_obytes (s : State) (i : Nat) (x : Axis) (j : Nat) : (s.setAxis i x).obytes j = s.obytes j := rfl
@[simp] theorem State.setAxis_axis_same (s : State) (i : Nat) (x : Axis) (h : i < 6) : (s.setAxis i x).axis i = x :=
  getD_setIfInBounds_same s.ctl.axes x _ h
theorem State.setAxis_axis_ne (s : State) (i : Nat) (x : Axis) {j : Nat} (h : j ≠ i) : (s.setAxis i x).axis j = s.axis j :=
  getD_setIfInBounds_ne s.ctl.axes x _ h

/-! `setLoop` -/
@[simp] theorem State.setLoop_pending (s : State) (i : Nat) (x : LoopSt) : (s.setLoop i x).pending = s.pending := rfl
@[simp] theorem State.setLoop_now (s : State) (i : Nat) (x : LoopSt) : (s.setLoop i x).now = s.now := rfl
@[simp] theorem State.setLoop_freeCtr (s : State) (i : Nat) (x : LoopSt) : (s.setLoop i x).freeCtr = s.freeCtr := rfl
@[simp] theorem State.setLoop_od (s : State) (i : Nat) (x : LoopSt) : (s.setLoop i x).od = s.od := rfl
@[simp] theorem State.setLoop_log (s : State) (i : Nat) (x : LoopSt) : (s.setLoop i x).log = s.log := rfl
@[simp] theorem State.setLoop_net (s : State) (i : Nat) (x : LoopSt) : (s.setLoop i x).net = s.net := rfl
@[simp] theorem State.setLoop_web (s : State) (i : Nat) (x : LoopSt) : (s.setLoop i x).web = s.web := rfl
@[simp] theorem State.setLoop_lane (s : State) (i : Nat) (x : LoopSt) : (s.setLoop i x).lane = s.lane := rfl
@[simp] theorem State.setLoop_jrn (s : State) (i : Nat) (x : LoopSt) : (s.setLoop i x).jrn = s.jrn := rfl
@[simp] theorem State.setLoop_comp (s : State) (i : Nat) (x : LoopSt) : (s.setLoop i x).comp = s.comp := rfl
@[simp] theorem State.setLoop_fire (s : State) (i : Nat) (x : LoopSt) : (s.setLoop i x).fire = s.fire := rfl
@[simp] theorem State.setLoop_insp (s : State) (i : Nat) (x : LoopSt) : (s.setLoop i x).insp = s.insp := rfl
@[simp] theorem State.setLoop_img (s : State) (i : Nat) (x : LoopSt) : (s.setLoop i x).img = s.img := rfl
@[simp] theorem State.setLoop_beam (s : State) (i : Nat) (x : LoopSt) : (s.setLoop i x).beam = s.beam := rfl
@[simp] theorem State.setLoop_mover (s : State) (i : Nat) (x : LoopSt) : (s.setLoop i x).mover = s.mover := rfl
@[simp] theorem State.setLoop_mem (s : State) (i : Nat) (x : LoopSt) : (s.setLoop i x).mem = s.mem := rfl
@[simp] theorem State.setLoop_met (s : State) (i : Nat) (x : LoopSt) : (s.setLoop i x).met = s.met := rfl
@[simp] theorem State.setLoop_power (s : State) (i : Nat) (x : LoopSt) : (s.setLoop i x).power = s.power := rfl
@[simp] theorem State.setLoop_fault (s : State) (i : Nat) (x : LoopSt) : (s.setLoop i x).fault = s.fault := rfl
@[simp] theorem State.setLoop_mgmt (s : State) (i : Nat) (x : LoopSt) : (s.setLoop i x).mgmt = s.mgmt := rfl
@[simp] theorem State.setLoop_clk (s : State) (i : Nat) (x : LoopSt) : (s.setLoop i x).clk = s.clk := rfl
@[simp] theorem State.setLoop_ctl_axes (s : State) (i : Nat) (x : LoopSt) : (s.setLoop i x).ctl.axes = s.ctl.axes := rfl
@[simp] theorem State.setLoop_ctl_pulses (s : State) (i : Nat) (x : LoopSt) : (s.setLoop i x).ctl.pulses = s.ctl.pulses := rfl
@[simp] theorem State.setLoop_ctl_sensors (s : State) (i : Nat) (x : LoopSt) : (s.setLoop i x).ctl.sensors = s.ctl.sensors := rfl
@[simp] theorem State.setLoop_ctl_throttle (s : State) (i : Nat) (x : LoopSt) : (s.setLoop i x).ctl.throttle = s.ctl.throttle := rfl
@[simp] theorem State.setLoop_ov (s : State) (i : Nat) (x : LoopSt) (j : Nat) : (s.setLoop i x).ov j = s.ov j := rfl
@[simp] theorem State.setLoop_on (s : State) (i : Nat) (x : LoopSt) (j : Nat) : (s.setLoop i x).on j = s.on j := rfl
@[simp] theorem State.setLoop_oi (s : State) (i : Nat) (x : LoopSt) (j : Nat) : (s.setLoop i x).oi j = s.oi j := rfl
@[simp] theorem State.setLoop_ob (s : State) (i : Nat) (x : LoopSt) (j : Nat) : (s.setLoop i x).ob j = s.ob j := rfl
@[simp] theorem State.setLoop_obytes (s : State) (i : Nat) (x : LoopSt) (j : Nat) : (s.setLoop i x).obytes j = s.obytes j := rfl
@[simp] theorem State.setLoop_loop_same (s : State) (i : Nat) (x : LoopSt) (h : i < 32) : (s.setLoop i x).loop i = x :=
  getD_setIfInBounds_same s.ctl.loops x _ h
theorem State.setLoop_loop_ne (s : State) (i : Nat) (x : LoopSt) {j : Nat} (h : j ≠ i) : (s.setLoop i x).loop j = s.loop j :=
  getD_setIfInBounds_ne s.ctl.loops x _ h

/-! `setSensor` -/
@[simp] theorem State.setSensor_pending (s : State) (i : Nat) (x : Sensor) : (s.setSensor i x).pending = s.pending := rfl
@[simp] theorem State.setSensor_now (s : State) (i : Nat) (x : Sensor) : (s.setSensor i x).now = s.now := rfl
@[simp] theorem State.setSensor_freeCtr (s : State) (i : Nat) (x : Sensor) : (s.setSensor i x).freeCtr = s.freeCtr := rfl
@[simp] theorem State.setSensor_od (s : State) (i : Nat) (x : Sensor) : (s.setSensor i x).od = s.od := rfl
@[simp] theorem State.setSensor_log (s : State) (i : Nat) (x : Sensor) : (s.setSensor i x).log = s.log := rfl
@[simp] theorem State.setSensor_net (s : State) (i : Nat) (x : Sensor) : (s.setSensor i x).net = s.net := rfl
@[simp] theorem State.setSensor_web (s : State) (i : Nat) (x : Sensor) : (s.setSensor i x).web = s.web := rfl
@[simp] theorem State.setSensor_lane (s : State) (i : Nat) (x : Sensor) : (s.setSensor i x).lane = s.lane := rfl
@[simp] theorem State.setSensor_jrn (s : State) (i : Nat) (x : Sensor) : (s.setSensor i x).jrn = s.jrn := rfl
@[simp] theorem State.setSensor_comp (s : State) (i : Nat) (x : Sensor) : (s.setSensor i x).comp = s.comp := rfl
@[simp] theorem State.setSensor_fire (s : State) (i : Nat) (x : Sensor) : (s.setSensor i x).fire = s.fire := rfl
@[simp] theorem State.setSensor_insp (s : State) (i : Nat) (x : Sensor) : (s.setSensor i x).insp = s.insp := rfl
@[simp] theorem State.setSensor_img (s : State) (i : Nat) (x : Sensor) : (s.setSensor i x).img = s.img := rfl
@[simp] theorem State.setSensor_beam (s : State) (i : Nat) (x : Sensor) : (s.setSensor i x).beam = s.beam := rfl
@[simp] theorem State.setSensor_mover (s : State) (i : Nat) (x : Sensor) : (s.setSensor i x).mover = s.mover := rfl
@[simp] theorem State.setSensor_mem (s : State) (i : Nat) (x : Sensor) : (s.setSensor i x).mem = s.mem := rfl
@[simp] theorem State.setSensor_met (s : State) (i : Nat) (x : Sensor) : (s.setSensor i x).met = s.met := rfl
@[simp] theorem State.setSensor_power (s : State) (i : Nat) (x : Sensor) : (s.setSensor i x).power = s.power := rfl
@[simp] theorem State.setSensor_fault (s : State) (i : Nat) (x : Sensor) : (s.setSensor i x).fault = s.fault := rfl
@[simp] theorem State.setSensor_mgmt (s : State) (i : Nat) (x : Sensor) : (s.setSensor i x).mgmt = s.mgmt := rfl
@[simp] theorem State.setSensor_clk (s : State) (i : Nat) (x : Sensor) : (s.setSensor i x).clk = s.clk := rfl
@[simp] theorem State.setSensor_ctl_axes (s : State) (i : Nat) (x : Sensor) : (s.setSensor i x).ctl.axes = s.ctl.axes := rfl
@[simp] theorem State.setSensor_ctl_loops (s : State) (i : Nat) (x : Sensor) : (s.setSensor i x).ctl.loops = s.ctl.loops := rfl
@[simp] theorem State.setSensor_ctl_pulses (s : State) (i : Nat) (x : Sensor) : (s.setSensor i x).ctl.pulses = s.ctl.pulses := rfl
@[simp] theorem State.setSensor_ctl_throttle (s : State) (i : Nat) (x : Sensor) : (s.setSensor i x).ctl.throttle = s.ctl.throttle := rfl
@[simp] theorem State.setSensor_ov (s : State) (i : Nat) (x : Sensor) (j : Nat) : (s.setSensor i x).ov j = s.ov j := rfl
@[simp] theorem State.setSensor_on (s : State) (i : Nat) (x : Sensor) (j : Nat) : (s.setSensor i x).on j = s.on j := rfl
@[simp] theorem State.setSensor_oi (s : State) (i : Nat) (x : Sensor) (j : Nat) : (s.setSensor i x).oi j = s.oi j := rfl
@[simp] theorem State.setSensor_ob (s : State) (i : Nat) (x : Sensor) (j : Nat) : (s.setSensor i x).ob j = s.ob j := rfl
@[simp] theorem State.setSensor_obytes (s : State) (i : Nat) (x : Sensor) (j : Nat) : (s.setSensor i x).obytes j = s.obytes j := rfl
@[simp] theorem State.setSensor_sensor_same (s : State) (i : Nat) (x : Sensor) (h : i < 24) : (s.setSensor i x).sensor i = x :=
  getD_setIfInBounds_same s.ctl.sensors x _ h
theorem State.setSensor_sensor_ne (s : State) (i : Nat) (x : Sensor) {j : Nat} (h : j ≠ i) : (s.setSensor i x).sensor j = s.sensor j :=
  getD_setIfInBounds_ne s.ctl.sensors x _ h

end Sys2Proof.Machine
end

