-- ==== Sys2Proof/Laws/TouchA.lean ====
section
/-! SUPPORT. Which parts of the state the operations of these files may change, by `Touch`: Ops, Mem, Items,
Results, Cams, Mould, Track, Held, Channels, Island, Net. -/

set_option Elab.async false

namespace Sys2Proof.Machine

theorem atTime_only {s : State} {v1} : Touch 0 s (@State.atTime s v1) := by
  have h : Touch 0 s s := Touch.refl
  unfold State.atTime
  refine Touch.trans (b := s) ?_ {  }
  assumption

theorem ok_only {s : State} : OutTouch 0 s (@ok s) := by
  have h : Touch 0 s s := Touch.refl
  unfold ok
  exact OutTouch.ok (by assumption)

theorem freeNext_only {s : State} : Touch 4294967296 s (@State.freeNext s) := by
  have h : Touch 4294967296 s s := Touch.refl
  unfold State.freeNext
  refine Touch.trans (b := s) ?_ { free := .inl rfl }
  assumption

theorem setv_only {s : State} {v1 v2} : Touch 1 s (@State.setv s v1 v2) := by
  have h : Touch 1 s s := Touch.refl
  unfold State.setv
  refine Touch.trans (b := s) ?_ { objects := .inl rfl }
  assumption

theorem setn_only {s : State} {v1 v2} : Touch 1 s (@State.setn s v1 v2) := by
  have h : Touch 1 s s := Touch.refl
  unfold State.setn
  exact setv_only.step rfl (by assumption)

theorem setb_only {s : State} {v1 v2} : Touch 1 s (@State.setb s v1 v2) := by
  have h : Touch 1 s s := Touch.refl
  unfold State.setb
  exact setv_only.step rfl (by assumption)

theorem seti_only {s : State} {v1 v2} : Touch 1 s (@State.seti s v1 v2) := by
  have h : Touch 1 s s := Touch.refl
  unfold State.seti
  exact setv_only.step rfl (by assumption)

theorem bump_only {s : State} {v1 v2 v3} : Touch 1 s (@State.bump s v1 v2 v3) := by
  have h : Touch 1 s s := Touch.refl
  unfold State.bump
  exact setn_only.step rfl (by assumption)

theorem inc64_only {s : State} {v1} : Touch 1 s (@State.inc64 s v1) := by
  have h : Touch 1 s s := Touch.refl
  unfold State.inc64
  exact bump_only.step rfl (by assumption)

theorem event_only {s : State} {v1 v2} : Touch 48 s (@State.event s v1 v2) := by
  have h : Touch 48 s s := Touch.refl
  unfold State.event
  extract_lets +onlyGivenNames x1
  clear_value x1
  extract_lets +onlyGivenNames x2
  clear_value x2
  refine Touch.trans (b := s) ?_ { sessions := .inl rfl, network := .inl rfl }
  assumption

theorem program_only {s : State} {v1} : Touch 8 s (@State.program s v1) := by
  have h : Touch 8 s s := Touch.refl
  unfold State.program
  refine Touch.trans (b := s) ?_ { changeLog := .inl rfl }
  assumption

theorem logObj_only {s : State} {v1 v2 v3 v4 v5 v6} : Touch 8 s (@State.logObj s v1 v2 v3 v4 v5 v6) := by
  unfold State.logObj
  split
  · exact Touch.refl
  · extract_lets +onlyGivenNames eo en r l s1
    have h1 : Touch 8 s s1 := { changeLog := .inl rfl }
    clear_value s1
    split
    · exact program_only.step rfl h1
    · generalize List.drop _ _ = d
      exact h1.trans { changeLog := .inl rfl }

theorem inc32_only {s : State} {v1} : Touch 1 s (@State.inc32 s v1) := by
  have h : Touch 1 s s := Touch.refl
  unfold State.inc32
  exact bump_only.step rfl (by assumption)

theorem setSess_only {s : State} {v1 v2} : Touch 16 s (@State.setSess s v1 v2) := by
  have h : Touch 16 s s := Touch.refl
  unfold State.setSess
  refine Touch.trans (b := s) ?_ { sessions := .inl rfl }
  assumption

theorem pump_only {s : State} {v1} : Touch 16 s (@State.pump s v1) := by
  have h : Touch 16 s s := Touch.refl
  unfold State.pump
  extract_lets +onlyGivenNames x1
  clear_value x1
  refine Touch.ite ?_ ?_
  · exact setSess_only.step rfl (by assumption)
  · assumption

theorem modSess_only {s : State} {v1 v2} : Touch 16 s (@State.modSess s v1 v2) := by
  have h : Touch 16 s s := Touch.refl
  unfold State.modSess
  exact setSess_only.step rfl (by assumption)

theorem send_only {s : State} {v1 v2 v3 v4} : Touch 16 s (@State.send s v1 v2 v3 v4) := by
  have h : Touch 16 s s := Touch.refl
  unfold State.send
  refine Touch.ite ?_ ?_
  · exact pump_only.step rfl (modSess_only.step rfl (by assumption))
  · assumption

theorem sendIn_only {s : State} {v1 v2 v3 v4 v5} : Touch 16 s (@State.sendIn s v1 v2 v3 v4 v5) := by
  have h : Touch 16 s s := Touch.refl
  unfold State.sendIn
  refine Touch.ite ?_ ?_
  · exact send_only.step rfl (by assumption)
  · assumption

theorem setDurable_only {s : State} {v1 v2} : Touch 5 s (@State.setDurable s v1 v2) := by
  have h : Touch 5 s s := Touch.refl
  unfold State.setDurable
  extract_lets +onlyGivenNames x1
  have h1 : Touch 5 s x1 := by
    unfold x1
    exact setv_only.step rfl (by assumption)
  clear_value x1
  refine Touch.trans (b := x1) ?_ { objects := .inl rfl, durable := .inl rfl }
  assumption

theorem logKind_only {s : State} {v1 v2 v3} : Touch 8 s (@State.logKind s v1 v2 v3) := by
  have h : Touch 8 s s := Touch.refl
  unfold State.logKind
  extract_lets +onlyGivenNames x1
  clear_value x1
  refine Touch.step program_only rfl ?_
  refine Touch.trans (b := s) ?_ { changeLog := .inl rfl }
  assumption

theorem logFlash_only {s : State} {v1} : Touch 9 s (@State.logFlash s v1) := by
  have h : Touch 9 s s := Touch.refl
  unfold State.logFlash
  extract_lets +onlyGivenNames x1
  clear_value x1
  extract_lets +onlyGivenNames x2
  clear_value x2
  extract_lets +onlyGivenNames x3
  extract_lets +onlyGivenNames x4
  have h4 : Touch 9 s x4 := by
    unfold x4
    refine Touch.trans (b := s) ?_ { objects := .inl rfl, changeLog := .inl rfl }
    assumption
  clear_value x4
  refine Touch.ite ?_ ?_
  · assumption
  · exact bump_only.step rfl (by assumption)

theorem mirror_only {s : State} : Touch 33554432 s (@State.mirror s) := by
  have h : Touch 33554432 s s := Touch.refl
  unfold State.mirror
  refine Touch.ite ?_ ?_
  · refine Touch.trans (b := s) ?_ { pair := .inl rfl }
    assumption
  · assumption

theorem answer_only {s : State} {v1 v2 v3 v4} : Touch 33554448 s (@State.answer s v1 v2 v3 v4) := by
  have h : Touch 33554448 s s := Touch.refl
  unfold State.answer
  refine Touch.ite ?_ ?_
  · extract_lets +onlyGivenNames x1
    have h1 : Touch 33554448 s x1 := by
      unfold x1
      exact mirror_only.step rfl (by assumption)
    clear_value x1
    refine Touch.trans (b := x1) ?_ { sessions := .inl rfl, pair := .inl rfl }
    assumption
  · exact send_only.step rfl (mirror_only.step rfl (by assumption))

theorem renewReady_only {s : State} : Touch 1 s (@State.renewReady s) := by
  have h : Touch 1 s s := Touch.refl
  unfold State.renewReady
  extract_lets +onlyGivenNames x1
  clear_value x1
  exact setb_only.step rfl (by assumption)

theorem failBit_only {s : State} {v1} : Touch 33554433 s (@State.failBit s v1) := by
  have h : Touch 33554433 s s := Touch.refl
  unfold State.failBit
  extract_lets +onlyGivenNames x1
  extract_lets +onlyGivenNames x2
  have h2 : Touch 33554433 s x2 := by
    unfold x2
    refine Touch.trans (b := s) ?_ { objects := .inl rfl, pair := .inl rfl }
    assumption
  clear_value x2
  exact renewReady_only.step rfl (setn_only.step rfl (by assumption))

theorem testBit_only {s : State} {v1 v2} : Touch 33554433 s (@State.testBit s v1 v2) := by
  have h : Touch 33554433 s s := Touch.refl
  unfold State.testBit
  refine Touch.ite ?_ ?_
  · exact failBit_only.step rfl (by assumption)
  · refine Touch.ite ?_ ?_
    · assumption
    · extract_lets +onlyGivenNames x1
      clear_value x1
      extract_lets +onlyGivenNames x2
      clear_value x2
      extract_lets +onlyGivenNames x3
      extract_lets +onlyGivenNames x4
      have h4 : Touch 33554433 s x4 := by
        unfold x4
        refine Touch.trans (b := s) ?_ { objects := .inl rfl, pair := .inl rfl }
        assumption
      clear_value x4
      refine Touch.ite ?_ ?_
      · assumption
      · exact renewReady_only.step rfl (setn_only.step rfl (by assumption))

theorem logRecord_only {s : State} {v1 v2 v3 v4} : Touch 8 s (@State.logRecord s v1 v2 v3 v4) := by
  have h : Touch 8 s s := Touch.refl
  unfold State.logRecord
  split
  · assumption
  · extract_lets +onlyGivenNames x1
    clear_value x1
    extract_lets +onlyGivenNames x2
    clear_value x2
    extract_lets +onlyGivenNames x3
    clear_value x3
    refine Touch.step program_only rfl ?_
    refine Touch.trans (b := s) ?_ { changeLog := .inl rfl }
    assumption

theorem sendError_only {s : State} {v1 v2 v3 v4} : Touch 16 s (@State.sendError s v1 v2 v3 v4) := by
  have h : Touch 16 s s := Touch.refl
  unfold State.sendError
  exact send_only.step rfl (by assumption)

theorem store_only {s : State} {v1 v2} : Touch 2097152 s (@State.store s v1 v2) := by
  have h : Touch 2097152 s s := Touch.refl
  unfold State.store
  refine Touch.trans (b := s) ?_ { memory := .inl rfl }
  assumption

theorem couchBad_only {s : State} {v1 v2} : Touch 1 s (@State.couchBad s v1 v2) := by
  have h : Touch 1 s s := Touch.refl
  unfold State.couchBad
  exact setn_only.step rfl (setn_only.step rfl (inc32_only.step rfl (by assumption)))

theorem journal_only {s : State} {v1 v2} : Touch 4096 s (@State.journal s v1 v2) := by
  have h : Touch 4096 s s := Touch.refl
  unfold State.journal
  extract_lets +onlyGivenNames x1
  clear_value x1
  refine Touch.trans (b := s) ?_ { journal := .inl rfl }
  assumption

theorem setItems_only {s : State} {v1} : Touch 512 s (@State.setItems s v1) := by
  have h : Touch 512 s s := Touch.refl
  unfold State.setItems
  refine Touch.trans (b := s) ?_ { items := .inl rfl }
  assumption

theorem modItem_only {s : State} {v1 v2} : Touch 512 s (@State.modItem s v1 v2) := by
  have h : Touch 512 s s := Touch.refl
  unfold State.modItem
  exact setItems_only.step rfl (by assumption)

theorem recordVerdict_only {s : State} {v1 v2} : Touch 4657 s (@State.recordVerdict s v1 v2) := by
  have h : Touch 4657 s s := Touch.refl
  unfold State.recordVerdict
  split
  · assumption
  · refine Touch.ite ?_ ?_
    · assumption
    · extract_lets +onlyGivenNames x1
      clear_value x1
      exact event_only.step rfl (journal_only.step rfl (inc64_only.step rfl (modItem_only.step rfl
        (by assumption))))

theorem forceOldest_only {s : State} : Touch 4657 s (@State.forceOldest s) := by
  have h : Touch 4657 s s := Touch.refl
  unfold State.forceOldest
  extract_lets +onlyGivenNames x1
  clear_value x1
  refine Touch.ite ?_ ?_
  · split
    · exact inc32_only.step rfl (recordVerdict_only.step rfl (by assumption))
    · assumption
  · assumption

theorem afterClose_only {s : State} {v1} : Touch 4657 s (@State.afterClose s v1) := by
  have h : Touch 4657 s s := Touch.refl
  unfold State.afterClose
  refine Touch.ite ?_ ?_
  · exact recordVerdict_only.step rfl (by assumption)
  · exact forceOldest_only.step rfl (by assumption)

theorem dispose_only {s : State} {v1 v2 v3} : Touch 4657 s (@State.dispose s v1 v2 v3) := by
  have h : Touch 4657 s s := Touch.refl
  unfold State.dispose
  split
  · assumption
  · split
    · refine Touch.ite ?_ ?_
      · assumption
      · extract_lets +onlyGivenNames x1
        clear_value x1
        extract_lets +onlyGivenNames x2
        clear_value x2
        extract_lets +onlyGivenNames x3
        clear_value x3
        exact afterClose_only.step rfl (event_only.step rfl (journal_only.step rfl (inc64_only.step rfl
          (modItem_only.step rfl (by assumption)))))
    · refine Touch.ite ?_ ?_
      · extract_lets +onlyGivenNames x4
        clear_value x4
        extract_lets +onlyGivenNames x5
        clear_value x5
        extract_lets +onlyGivenNames x6
        have h6 : Touch 4657 s x6 := by
          unfold x6
          exact setn_only.step rfl (modItem_only.step rfl (by assumption))
        clear_value x6
        exact event_only.step rfl (journal_only.step rfl (inc64_only.step rfl (by assumption)))
      · assumption

theorem disposeAll_only {s : State} {v1 v2 v3} : Touch 4657 s (@State.disposeAll s v1 v2 v3) := by
  have h : Touch 4657 s s := Touch.refl
  unfold State.disposeAll
  refine Touch.foldl ?_ (fun y1 z1 h1 => ?_)
  · assumption
  · exact dispose_only.step rfl (by assumption)

theorem drainAll_only {s : State} : Touch 512 s (@State.drainAll s) := by
  have h : Touch 512 s s := Touch.refl
  unfold State.drainAll
  exact setItems_only.step rfl (by assumption)

theorem endWindow_only {s : State} {v1} : Touch 4657 s (@State.endWindow s v1) := by
  have h : Touch 4657 s s := Touch.refl
  unfold State.endWindow
  exact dispose_only.step rfl (by assumption)

theorem drain_only {s : State} {v1} : Touch 512 s (@State.drain s v1) := by
  have h : Touch 512 s s := Touch.refl
  unfold State.drain
  split
  · refine Touch.ite ?_ ?_
    · exact modItem_only.step rfl (by assumption)
    · assumption
  · assumption

theorem addResult_only {s : State} {v1} : Touch 1024 s (@State.addResult s v1) := by
  have h : Touch 1024 s s := Touch.refl
  unfold State.addResult
  refine Touch.trans (b := s) ?_ { results := .inl rfl }
  assumption

theorem countResult_only {s : State} {v1 v2} : Touch 1 s (@State.countResult s v1 v2) := by
  have h : Touch 1 s s := Touch.refl
  unfold State.countResult
  refine Touch.ite ?_ ?_
  · exact inc64_only.step rfl (by assumption)
  · refine Touch.ite ?_ ?_
    · exact setn_only.step rfl (setn_only.step rfl (inc64_only.step rfl (by assumption)))
    · exact inc64_only.step rfl (by assumption)

theorem camResult_only {s : State} {v1 v2 v3} : Touch 5681 s (@State.camResult s v1 v2 v3) := by
  have h : Touch 5681 s s := Touch.refl
  unfold State.camResult
  split
  · exact inc32_only.step rfl (by assumption)
  · refine Touch.ite ?_ ?_
    · exact inc32_only.step rfl (by assumption)
    · refine Touch.ite ?_ ?_
      · assumption
      · extract_lets +onlyGivenNames x1
        clear_value x1
        extract_lets +onlyGivenNames x2
        have h2 : Touch 5681 s x2 := by
          unfold x2
          exact addResult_only.step rfl (by assumption)
        clear_value x2
        extract_lets +onlyGivenNames x3
        have h3 : Touch 5681 s x3 := by
          unfold x3
          exact countResult_only.step rfl (by assumption)
        clear_value x3
        extract_lets +onlyGivenNames x4
        have h4 : Touch 5681 s x4 := by
          unfold x4
          refine Touch.ite ?_ ?_
          · exact event_only.step rfl (by assumption)
          · assumption
        clear_value x4
        split
        · exact recordVerdict_only.step rfl (by assumption)
        · assumption

theorem setCam_only {s : State} {v1 v2} : Touch 131072 s (@State.setCam s v1 v2) := by
  have h : Touch 131072 s s := Touch.refl
  unfold State.setCam
  refine Touch.trans (b := s) ?_ { cameras := .inl rfl }
  assumption

theorem archCounts_only {s : State} : Touch 1 s (@State.archCounts s) := by
  have h : Touch 1 s s := Touch.refl
  unfold State.archCounts
  exact setn_only.step rfl (setn_only.step rfl (by assumption))

theorem archStore_only {s : State} {v1 v2} : Touch 131073 s (@State.archStore s v1 v2) := by
  have h : Touch 131073 s s := Touch.refl
  unfold State.archStore
  extract_lets +onlyGivenNames x1
  clear_value x1
  extract_lets +onlyGivenNames x2
  clear_value x2
  extract_lets +onlyGivenNames x3
  extract_lets +onlyGivenNames x4
  refine Touch.ite ?_ ?_
  · dsimp only [x4]
    refine Touch.step archCounts_only rfl ?_
    refine Touch.trans (b := s) ?_ { objects := .inl rfl, cameras := .inl rfl }
    assumption
  · refine Touch.ite ?_ ?_
    · extract_lets +onlyGivenNames x5
      clear_value x5
      refine Touch.step bump_only rfl ?_
      dsimp only [x4]
      refine Touch.step archCounts_only rfl ?_
      refine Touch.trans (b := s) ?_ { objects := .inl rfl, cameras := .inl rfl }
      assumption
    · exact inc32_only.step rfl (by assumption)

theorem archPart_only {s : State} {v1 v2} : Touch 131073 s (@State.archPart s v1 v2) := by
  have h : Touch 131073 s s := Touch.refl
  unfold State.archPart
  split
  · assumption
  · extract_lets +onlyGivenNames x1
    clear_value x1
    extract_lets +onlyGivenNames x2
    clear_value x2
    refine Touch.ite ?_ ?_
    · extract_lets +onlyGivenNames x3
      extract_lets +onlyGivenNames x4
      have h4 : Touch 131073 s x4 := by
        unfold x4
        refine Touch.trans (b := s) ?_ { objects := .inl rfl, cameras := .inl rfl }
        assumption
      clear_value x4
      extract_lets +onlyGivenNames x5
      clear_value x5
      refine Touch.ite ?_ ?_
      · exact archStore_only.step rfl (by assumption)
      · assumption
    · refine Touch.trans (b := s) ?_ { objects := .inl rfl, cameras := .inl rfl }
      assumption

theorem archLost_only {s : State} {v1 v2 v3 v4} : Touch 131073 s (@State.archLost s v1 v2 v3 v4) := by
  have h : Touch 131073 s s := Touch.refl
  unfold State.archLost
  extract_lets +onlyGivenNames x1
  clear_value x1
  exact archPart_only.step rfl (by assumption)

theorem barUnseen_only {s : State} {v1 v2} : Touch 65537 s (@State.barUnseen s v1 v2) := by
  have h : Touch 65537 s s := Touch.refl
  unfold State.barUnseen
  split
  · assumption
  · extract_lets +onlyGivenNames x1
    clear_value x1
    extract_lets +onlyGivenNames x2
    clear_value x2
    extract_lets +onlyGivenNames x3
    have h3 : Touch 65537 s x3 := by
      unfold x3
      exact inc32_only.step rfl (by assumption)
    clear_value x3
    extract_lets +onlyGivenNames x4
    clear_value x4
    refine Touch.trans (b := x3) ?_ { objects := .inl rfl, inspection := .inl rfl }
    assumption

theorem loseTrigger_only {s : State} {v1 v2} : Touch 202289 s (@State.loseTrigger s v1 v2) := by
  have h : Touch 202289 s s := Touch.refl
  unfold State.loseTrigger
  extract_lets +onlyGivenNames x1
  have h1 : Touch 202289 s x1 := by
    unfold x1
    exact inc32_only.step rfl (by assumption)
  clear_value x1
  extract_lets +onlyGivenNames x2
  clear_value x2
  extract_lets +onlyGivenNames x3
  have h3 : Touch 202289 s x3 := by
    unfold x3
    exact setCam_only.step rfl (by assumption)
  clear_value x3
  refine Touch.ite ?_ ?_
  · exact archLost_only.step rfl (camResult_only.step rfl (by assumption))
  · exact barUnseen_only.step rfl (by assumption)

theorem queueFrame_only {s : State} {v1 v2} : Touch 202289 s (@State.queueFrame s v1 v2) := by
  have h : Touch 202289 s s := Touch.refl
  unfold State.queueFrame
  extract_lets +onlyGivenNames x1
  clear_value x1
  extract_lets +onlyGivenNames x2
  clear_value x2
  extract_lets +onlyGivenNames x3
  have h3 : Touch 202289 s x3 := by
    unfold x3
    exact setCam_only.step rfl (by assumption)
  clear_value x3
  refine Touch.foldl ?_ (fun y4 z4 h4 => ?_)
  · assumption
  · exact loseTrigger_only.step rfl (by assumption)

theorem freeVersions_only {s : State} : Touch 8192 s (@State.freeVersions s) := by
  have h : Touch 8192 s s := Touch.refl
  unfold State.freeVersions
  extract_lets +onlyGivenNames x1
  clear_value x1
  extract_lets +onlyGivenNames x2
  clear_value x2
  refine Touch.trans (b := s) ?_ { compositor := .inl rfl }
  assumption

theorem deleteRes_only {s : State} {v1 v2} : Touch 8192 s (@State.deleteRes s v1 v2) := by
  have h : Touch 8192 s s := Touch.refl
  unfold State.deleteRes
  extract_lets +onlyGivenNames x1
  clear_value x1
  extract_lets +onlyGivenNames x2
  extract_lets +onlyGivenNames x3
  refine Touch.step freeVersions_only rfl ?_
  refine Touch.trans (b := s) ?_ { compositor := .inl rfl }
  assumption

theorem commitRes_only {s : State} {v1 v2 v3 v4} : Touch 8193 s (@State.commitRes s v1 v2 v3 v4).1 := by
  have h : Touch 8193 s s := Touch.refl
  unfold State.commitRes
  split
  · dsimp only
    exact setn_only.step rfl (setn_only.step rfl (by assumption))
  · extract_lets +onlyGivenNames x1
    clear_value x1
    extract_lets +onlyGivenNames x2
    clear_value x2
    extract_lets +onlyGivenNames x3
    extract_lets +onlyGivenNames x4
    extract_lets +onlyGivenNames x5
    have h5 : Touch 8193 s x5 := by
      unfold x5
      refine Touch.trans (b := s) ?_ { objects := .inl rfl, compositor := .inl rfl }
      assumption
    clear_value x5
    dsimp only
    exact freeVersions_only.step rfl (setn_only.step rfl (setn_only.step rfl (by assumption)))

theorem setWeb_only {s : State} {v1} : Touch 128 s (@State.setWeb s v1) := by
  have h : Touch 128 s s := Touch.refl
  unfold State.setWeb
  refine Touch.trans (b := s) ?_ { web := .inl rfl }
  assumption

theorem moveX_only {s : State} : Touch 128 s (@State.moveX s) := by
  have h : Touch 128 s s := Touch.refl
  unfold State.moveX
  extract_lets +onlyGivenNames x1
  extract_lets +onlyGivenNames x2
  clear_value x2
  extract_lets +onlyGivenNames x3
  clear_value x3
  extract_lets +onlyGivenNames x4
  clear_value x4
  exact setWeb_only.step rfl (by assumption)

theorem setEnc_only {s : State} {v1 v2} : Touch 128 s (@State.setEnc s v1 v2) := by
  have h : Touch 128 s s := Touch.refl
  unfold State.setEnc
  exact setWeb_only.step rfl (by assumption)

theorem setGrid_only {s : State} {v1 v2} : Touch 128 s (@State.setGrid s v1 v2) := by
  have h : Touch 128 s s := Touch.refl
  unfold State.setGrid
  refine Touch.ite ?_ ?_
  · exact setWeb_only.step rfl (by assumption)
  · exact setWeb_only.step rfl (by assumption)

theorem webEvent_only {s : State} {v1 v2} : Touch 48 s (@State.webEvent s v1 v2) := by
  have h : Touch 48 s s := Touch.refl
  unfold State.webEvent
  exact event_only.step rfl (by assumption)

theorem advise_only {s : State} : Touch 177 s (@State.advise s) := by
  have h : Touch 177 s s := Touch.refl
  unfold State.advise
  extract_lets +onlyGivenNames x1
  clear_value x1
  extract_lets +onlyGivenNames x2
  have h2 : Touch 177 s x2 := by
    unfold x2
    exact setn_only.step rfl (by assumption)
  clear_value x2
  refine Touch.ite ?_ ?_
  · exact webEvent_only.step rfl (inc32_only.step rfl (setWeb_only.step rfl (by assumption)))
  · assumption

theorem enter_only {s : State} {v1} : Touch 177 s (@State.enter s v1) := by
  have h : Touch 177 s s := Touch.refl
  unfold State.enter
  extract_lets +onlyGivenNames x1
  clear_value x1
  extract_lets +onlyGivenNames x2
  extract_lets +onlyGivenNames x3
  have h3 : Touch 177 s x3 := by
    unfold x3
    refine Touch.ite ?_ ?_
    · assumption
    · exact setWeb_only.step rfl (by assumption)
  clear_value x3
  exact advise_only.step rfl (setn_only.step rfl (setn_only.step rfl (by assumption)))

theorem setReason_only {s : State} {v1 v2} : Touch 177 s (@State.setReason s v1 v2) := by
  have h : Touch 177 s s := Touch.refl
  unfold State.setReason
  exact advise_only.step rfl (setn_only.step rfl (by assumption))

theorem loseTrack_only {s : State} : Touch 4785 s (@State.loseTrack s) := by
  have h : Touch 4785 s s := Touch.refl
  unfold State.loseTrack
  extract_lets +onlyGivenNames x1
  extract_lets +onlyGivenNames x2
  have h2 : Touch 4785 s x2 := by
    unfold x2
    exact setWeb_only.step rfl (by assumption)
  clear_value x2
  exact drainAll_only.step rfl (disposeAll_only.step rfl (webEvent_only.step rfl (enter_only.step rfl
    (by assumption))))

theorem follow_only {s : State} {v1} : Touch 128 s (@State.follow s v1) := by
  have h : Touch 128 s s := Touch.refl
  unfold State.follow
  exact setWeb_only.step rfl (by assumption)

theorem coast_only {s : State} : Touch 689 s (@State.coast s) := by
  have h : Touch 689 s s := Touch.refl
  unfold State.coast
  extract_lets +onlyGivenNames x1
  have h1 : Touch 689 s x1 := by
    unfold x1
    exact inc32_only.step rfl (enter_only.step rfl (by assumption))
  clear_value x1
  extract_lets +onlyGivenNames x2
  extract_lets +onlyGivenNames x3
  have h3 : Touch 689 s x3 := by
    unfold x3
    exact setWeb_only.step rfl (by assumption)
  clear_value x3
  extract_lets +onlyGivenNames x4
  have h4 : Touch 689 s x4 := by
    unfold x4
    exact setItems_only.step rfl (by assumption)
  clear_value x4
  exact webEvent_only.step rfl (follow_only.step rfl (by assumption))

theorem standstill_only {s : State} : Touch 177 s (@State.standstill s) := by
  have h : Touch 177 s s := Touch.refl
  unfold State.standstill
  exact enter_only.step rfl (setWeb_only.step rfl (by assumption))

theorem jumpX_only {s : State} {v1} : Touch 128 s (@State.jumpX s v1) := by
  have h : Touch 128 s s := Touch.refl
  unfold State.jumpX
  extract_lets +onlyGivenNames x1
  clear_value x1
  exact setWeb_only.step rfl (by assumption)

theorem trackFault_only {s : State} : Touch 4785 s (@State.trackFault s) := by
  have h : Touch 4785 s s := Touch.refl
  unfold State.trackFault
  extract_lets +onlyGivenNames x1
  clear_value x1
  extract_lets +onlyGivenNames x2
  clear_value x2
  refine Touch.ite ?_ ?_
  · exact loseTrack_only.step rfl (by assumption)
  · refine Touch.ite ?_ ?_
    · refine Touch.ite ?_ ?_
      · exact loseTrack_only.step rfl (by assumption)
      · exact coast_only.step rfl (by assumption)
    · refine Touch.ite ?_ ?_
      · exact setWeb_only.step rfl (by assumption)
      · refine Touch.ite ?_ ?_
        · exact setWeb_only.step rfl (by assumption)
        · assumption

theorem reverse_only {s : State} : Touch 4785 s (@State.reverse s) := by
  have h : Touch 4785 s s := Touch.refl
  unfold State.reverse
  exact disposeAll_only.step rfl (webEvent_only.step rfl (inc32_only.step rfl (enter_only.step rfl
    (by assumption))))

theorem integAnswer_only {s : State} {v1 v2} : Touch 134217728 s (@State.integAnswer s v1 v2) := by
  have h : Touch 134217728 s s := Touch.refl
  unfold State.integAnswer
  extract_lets +onlyGivenNames x1
  clear_value x1
  refine Touch.trans (b := s) ?_ { integrator := .inl rfl }
  assumption

theorem reply_only {s : State} {v1 v2} : Touch 167772176 s (@State.reply s v1 v2) := by
  have h : Touch 167772176 s s := Touch.refl
  unfold State.reply
  split
  · assumption
  · refine Touch.trans (b := s) ?_ { sessions := .inl rfl, pair := .inl rfl, integrator := .inl rfl }
    assumption
  · refine Touch.ite ?_ ?_
    · refine Touch.ite ?_ ?_
      · exact answer_only.step rfl (by assumption)
      · exact send_only.step rfl (by assumption)
    · assumption
  · refine Touch.ite ?_ ?_
    · extract_lets +onlyGivenNames x1
      clear_value x1
      refine Touch.ite ?_ ?_
      · exact answer_only.step rfl (by assumption)
      · exact send_only.step rfl (by assumption)
    · assumption
  · exact integAnswer_only.step rfl (by assumption)

theorem release_only {s : State} : Touch 176160792 s (@State.release s) := by
  have h : Touch 176160792 s s := Touch.refl
  unfold State.release
  extract_lets +onlyGivenNames x1
  clear_value x1
  extract_lets +onlyGivenNames x2
  extract_lets +onlyGivenNames x3
  have h3 : Touch 176160792 s x3 := by
    unfold x3
    refine Touch.trans (b := s) ?_ { changeLog := .inl rfl, sessions := .inl rfl, power := .inl rfl, pair := .inl rfl, integrator := .inl rfl }
    assumption
  clear_value x3
  refine Touch.foldl ?_ (fun y4 z4 h4 => ?_)
  · assumption
  · extract_lets +onlyGivenNames x5
    have h5 : Touch 176160792 s x5 := by
      unfold x5
      exact reply_only.step rfl (by assumption)
    clear_value x5
    refine Touch.ite ?_ ?_
    · refine Touch.trans (b := x5) ?_ { changeLog := .inl rfl, sessions := .inl rfl, power := .inl rfl, pair := .inl rfl, integrator := .inl rfl }
      assumption
    · assumption

theorem applyLine_only {s : State} {v1} : Touch 176160795 s (@State.applyLine s v1) := by
  have h : Touch 176160795 s s := Touch.refl
  unfold State.applyLine
  extract_lets +onlyGivenNames x1
  clear_value x1
  refine Touch.ite ?_ ?_
  · assumption
  · extract_lets +onlyGivenNames x2
    clear_value x2
    extract_lets +onlyGivenNames x3
    extract_lets +onlyGivenNames x4
    have h4 : Touch 176160795 s x4 := by
      unfold x4
      refine Touch.trans (b := s) ?_ { objects := .inl rfl, waiting := .inl rfl, changeLog := .inl rfl, sessions := .inl rfl, power := .inl rfl, pair := .inl rfl, integrator := .inl rfl }
      assumption
    clear_value x4
    extract_lets +onlyGivenNames x5
    have h5 : Touch 176160795 s x5 := by
      unfold x5
      refine Touch.foldl ?_ (fun y6 z6 h6 => ?_)
      · assumption
      · refine Touch.ite ?_ ?_
        · assumption
        · exact setv_only.step rfl (by assumption)
    clear_value x5
    extract_lets +onlyGivenNames x7
    extract_lets +onlyGivenNames x8
    have h8 : Touch 176160795 s x8 := by
      unfold x8
      refine Touch.trans (b := x5) ?_ { objects := .inl rfl, waiting := .inl rfl, changeLog := .inl rfl, sessions := .inl rfl, power := .inl rfl, pair := .inl rfl, integrator := .inl rfl }
      assumption
    clear_value x8
    exact release_only.step rfl (by assumption)

theorem modHeld_only {s : State} {v1 v2} : Touch 8 s (@State.modHeld s v1 v2) := by
  have h : Touch 8 s s := Touch.refl
  unfold State.modHeld
  refine Touch.trans (b := s) ?_ { changeLog := .inl rfl }
  assumption

theorem setInsp_only {s : State} {v1} : Touch 65536 s (@State.setInsp s v1) := by
  have h : Touch 65536 s s := Touch.refl
  unfold State.setInsp
  refine Touch.trans (b := s) ?_ { inspection := .inl rfl }
  assumption

theorem setEntry_only {s : State} {v1 v2 v3} : Touch 65536 s (@State.setEntry s v1 v2 v3) := by
  have h : Touch 65536 s s := Touch.refl
  unfold State.setEntry
  extract_lets +onlyGivenNames x1
  clear_value x1
  exact setInsp_only.step rfl (by assumption)

theorem setLink_only {s : State} {v1 v2} : Touch 32768 s (@State.setLink s v1 v2) := by
  have h : Touch 32768 s s := Touch.refl
  unfold State.setLink
  refine Touch.setFire (.inr rfl) (.inl rfl) ?_
  assumption

theorem countMap_only {s : State} {v1} : Touch 1 s (@State.countMap s v1) := by
  have h : Touch 1 s s := Touch.refl
  unfold State.countMap
  extract_lets +onlyGivenNames x1
  clear_value x1
  extract_lets +onlyGivenNames x2
  clear_value x2
  extract_lets +onlyGivenNames x3
  have h3 : Touch 1 s x3 := by
    unfold x3
    exact setn_only.step rfl (by assumption)
  clear_value x3
  extract_lets +onlyGivenNames x4
  have h4 : Touch 1 s x4 := by
    unfold x4
    exact setn_only.step rfl (by assumption)
  clear_value x4
  exact setn_only.step rfl (by assumption)

theorem switchGroup_only {s : State} {v1 v2} : Touch 98353 s (@State.switchGroup s v1 v2) := by
  have h : Touch 98353 s s := Touch.refl
  unfold State.switchGroup
  extract_lets +onlyGivenNames x1
  clear_value x1
  extract_lets +onlyGivenNames x2
  clear_value x2
  extract_lets +onlyGivenNames x3
  clear_value x3
  extract_lets +onlyGivenNames x4
  extract_lets +onlyGivenNames x5
  have h5 : Touch 98353 s x5 := by
    unfold x5
    exact setInsp_only.step rfl (by assumption)
  clear_value x5
  extract_lets +onlyGivenNames x6
  have h6 : Touch 98353 s x6 := by
    unfold x6
    refine Touch.foldl ?_ (fun y7 z7 h7 => ?_)
    · assumption
    · exact setEntry_only.step rfl (by assumption)
  clear_value x6
  extract_lets +onlyGivenNames x8
  have h8 : Touch 98353 s x8 := by
    unfold x8
    refine Touch.foldl ?_ (fun y9 z9 h9 => ?_)
    · assumption
    · exact setLink_only.step rfl (by assumption)
  clear_value x8
  extract_lets +onlyGivenNames x10
  have h10 : Touch 98353 s x10 := by
    unfold x10
    refine Touch.ite ?_ ?_
    · exact setn_only.step rfl (by assumption)
    · assumption
  clear_value x10
  extract_lets +onlyGivenNames x11
  have h11 : Touch 98353 s x11 := by
    unfold x11
    exact seti_only.step rfl (inc64_only.step rfl (by assumption))
  clear_value x11
  extract_lets +onlyGivenNames x12
  have h12 : Touch 98353 s x12 := by
    unfold x12
    exact setn_only.step rfl (by assumption)
  clear_value x12
  extract_lets +onlyGivenNames x13
  have h13 : Touch 98353 s x13 := by
    unfold x13
    exact setn_only.step rfl (by assumption)
  clear_value x13
  extract_lets +onlyGivenNames x14
  have h14 : Touch 98353 s x14 := by
    unfold x14
    split
    · refine Touch.ite ?_ ?_
      · exact setn_only.step rfl (by assumption)
      · assumption
    · assumption
  clear_value x14
  extract_lets +onlyGivenNames x15
  have h15 : Touch 98353 s x15 := by
    unfold x15
    exact countMap_only.step rfl (setn_only.step rfl (by assumption))
  clear_value x15
  refine Touch.ite ?_ ?_
  · exact event_only.step rfl (by assumption)
  · assumption

theorem modAcc_only {s : State} {v1 v2} : Touch 16384 s (@State.modAcc s v1 v2) := by
  have h : Touch 16384 s s := Touch.refl
  unfold State.modAcc
  refine Touch.setFire (.inl rfl) (.inr rfl) ?_
  assumption

theorem modNozzle_only {s : State} {v1 v2} : Touch 16384 s (@State.modNozzle s v1 v2) := by
  have h : Touch 16384 s s := Touch.refl
  unfold State.modNozzle
  refine Touch.setFire (.inl rfl) (.inr rfl) ?_
  assumption

theorem spitDrop_only {s : State} {v1 v2 v3 v4} : Touch 16384 s (@State.spitDrop s v1 v2 v3 v4) := by
  have h : Touch 16384 s s := Touch.refl
  unfold State.spitDrop
  exact modAcc_only.step rfl (modNozzle_only.step rfl (by assumption))

theorem setChan_only {s : State} {v1 v2 v3} : Touch 1 s (@State.setChan s v1 v2 v3) := by
  have h : Touch 1 s s := Touch.refl
  unfold State.setChan
  exact setn_only.step rfl (setn_only.step rfl (by assumption))

theorem refreshPlane_only {s : State} {v1} : Touch 1 s (@State.refreshPlane s v1) := by
  have h : Touch 1 s s := Touch.refl
  unfold State.refreshPlane
  extract_lets +onlyGivenNames x1
  clear_value x1
  extract_lets +onlyGivenNames x2
  clear_value x2
  extract_lets +onlyGivenNames x3
  have h3 : Touch 1 s x3 := by
    unfold x3
    exact setn_only.step rfl (setn_only.step rfl (by assumption))
  clear_value x3
  extract_lets +onlyGivenNames x4
  clear_value x4
  exact setn_only.step rfl (by assumption)

theorem chargeItem_only {s : State} {v1 v2 v3} : Touch 512 s (@State.chargeItem s v1 v2 v3) := by
  have h : Touch 512 s s := Touch.refl
  unfold State.chargeItem
  split
  · assumption
  · refine Touch.ite ?_ ?_
    · assumption
    · extract_lets +onlyGivenNames x1
      clear_value x1
      extract_lets +onlyGivenNames x2
      clear_value x2
      exact modItem_only.step rfl (by assumption)

theorem refreshLimits_only {s : State} {v1} : Touch 1 s (@State.refreshLimits s v1) := by
  have h : Touch 1 s s := Touch.refl
  unfold State.refreshLimits
  extract_lets +onlyGivenNames x1
  clear_value x1
  extract_lets +onlyGivenNames x2
  clear_value x2
  extract_lets +onlyGivenNames x3
  clear_value x3
  exact setn_only.step rfl (setn_only.step rfl (by assumption))

theorem setLinkState_only {s : State} {v1 v2 v3} : Touch 1 s (@State.setLinkState s v1 v2 v3) := by
  have h : Touch 1 s s := Touch.refl
  unfold State.setLinkState
  extract_lets +onlyGivenNames x1
  have h1 : Touch 1 s x1 := by
    unfold x1
    refine Touch.foldl ?_ (fun y2 z2 h2 => ?_)
    · assumption
    · refine Touch.ite ?_ ?_
      · exact setChan_only.step rfl (by assumption)
      · exact setChan_only.step rfl (by assumption)
  clear_value x1
  extract_lets +onlyGivenNames x3
  have h3 : Touch 1 s x3 := by
    unfold x3
    exact setn_only.step rfl (by assumption)
  clear_value x3
  extract_lets +onlyGivenNames x4
  have h4 : Touch 1 s x4 := by
    unfold x4
    refine Touch.ite ?_ ?_
    · exact inc32_only.step rfl (by assumption)
    · assumption
  clear_value x4
  exact refreshPlane_only.step rfl (refreshLimits_only.step rfl (by assumption))

theorem writeTrims_only {s : State} {v1} : Touch 32768 s (@State.writeTrims s v1) := by
  have h : Touch 32768 s s := Touch.refl
  unfold State.writeTrims
  extract_lets +onlyGivenNames x1
  clear_value x1
  refine Touch.ite ?_ ?_
  · assumption
  · extract_lets +onlyGivenNames x2
    clear_value x2
    extract_lets +onlyGivenNames x3
    clear_value x3
    exact setLink_only.step rfl (by assumption)

theorem sendTrims_only {s : State} : Touch 98304 s (@State.sendTrims s) := by
  have h : Touch 98304 s s := Touch.refl
  unfold State.sendTrims
  refine Touch.foldl ?_ (fun y1 z1 h1 => ?_)
  · assumption
  · split
    · assumption
    · refine Touch.ite ?_ ?_
      · assumption
      · extract_lets +onlyGivenNames x2
        clear_value x2
        extract_lets +onlyGivenNames x3
        have h3 : Touch 98304 s x3 := by
          unfold x3
          refine Touch.foldl ?_ (fun y4 z4 h4 => ?_)
          · assumption
          · exact writeTrims_only.step rfl (by assumption)
        clear_value x3
        extract_lets +onlyGivenNames x5
        clear_value x5
        extract_lets +onlyGivenNames x6
        clear_value x6
        exact setInsp_only.step rfl (by assumption)

theorem switchNow_only {s : State} {v1} : Touch 98353 s (@State.switchNow s v1) := by
  have h : Touch 98353 s s := Touch.refl
  unfold State.switchNow
  extract_lets +onlyGivenNames x1
  clear_value x1
  refine Touch.foldl ?_ (fun y2 z2 h2 => ?_)
  · assumption
  · exact switchGroup_only.step rfl (by assumption)

theorem fireDrop_only {s : State} {v1 v2 v3 v4} : Touch 16384 s (@State.fireDrop s v1 v2 v3 v4) := by
  have h : Touch 16384 s s := Touch.refl
  unfold State.fireDrop
  exact modAcc_only.step rfl (modNozzle_only.step rfl (by assumption))

theorem suppressDrop_only {s : State} {v1 v2 v3} : Touch 16384 s (@State.suppressDrop s v1 v2 v3) := by
  have h : Touch 16384 s s := Touch.refl
  unfold State.suppressDrop
  exact modAcc_only.step rfl (modNozzle_only.step rfl (by assumption))

theorem suppressAll_only {s : State} {v1 v2 v3 v4} : Touch 16896 s (@State.suppressAll s v1 v2 v3 v4) := by
  have h : Touch 16896 s s := Touch.refl
  unfold State.suppressAll
  extract_lets +onlyGivenNames x1
  have h1 : Touch 16896 s x1 := by
    unfold x1
    refine Touch.foldl ?_ (fun y2 z2 h2 => ?_)
    · assumption
    · exact suppressDrop_only.step rfl (by assumption)
  clear_value x1
  refine Touch.foldl ?_ (fun y3 z3 h3 => ?_)
  · assumption
  · exact chargeItem_only.step rfl (by assumption)

theorem chanEvent_only {s : State} {v1} : Touch 48 s (@State.chanEvent s v1) := by
  have h : Touch 48 s s := Touch.refl
  unfold State.chanEvent
  exact event_only.step rfl (by assumption)

theorem linkEvent_only {s : State} {v1} : Touch 48 s (@State.linkEvent s v1) := by
  have h : Touch 48 s s := Touch.refl
  unfold State.linkEvent
  refine Touch.foldl ?_ (fun y1 z1 h1 => ?_)
  · assumption
  · exact chanEvent_only.step rfl (by assumption)

theorem followPlane_only {s : State} {v1 v2} : Touch 1 s (@State.followPlane s v1 v2) := by
  have h : Touch 1 s s := Touch.refl
  unfold State.followPlane
  extract_lets +onlyGivenNames x1
  have h1 : Touch 1 s x1 := by
    unfold x1
    refine Touch.foldl ?_ (fun y2 z2 h2 => ?_)
    · assumption
    · extract_lets +onlyGivenNames x3
      clear_value x3
      refine Touch.ite ?_ ?_
      · exact setChan_only.step rfl (by assumption)
      · refine Touch.ite ?_ ?_
        · exact setChan_only.step rfl (by assumption)
        · assumption
  clear_value x1
  refine Touch.foldl ?_ (fun y4 z4 h4 => ?_)
  · assumption
  · extract_lets +onlyGivenNames x5
    clear_value x5
    refine Touch.ite ?_ ?_
    · exact setn_only.step rfl (by assumption)
    · assumption

theorem countWaiting_only {s : State} {v1 v2} : Touch 65537 s (@State.countWaiting s v1 v2) := by
  have h : Touch 65537 s s := Touch.refl
  unfold State.countWaiting
  extract_lets +onlyGivenNames x1
  clear_value x1
  extract_lets +onlyGivenNames x2
  clear_value x2
  extract_lets +onlyGivenNames x3
  extract_lets +onlyGivenNames x4
  have h4 : Touch 65537 s x4 := by
    unfold x4
    exact setInsp_only.step rfl (by assumption)
  clear_value x4
  refine Touch.ite ?_ ?_
  · assumption
  · exact bump_only.step rfl (by assumption)

theorem switchAt_only {s : State} {v1 v2} : Touch 98353 s (@State.switchAt s v1 v2) := by
  have h : Touch 98353 s s := Touch.refl
  unfold State.switchAt
  extract_lets +onlyGivenNames x1
  have h1 : Touch 98353 s x1 := by
    unfold x1
    exact countWaiting_only.step rfl (by assumption)
  clear_value x1
  extract_lets +onlyGivenNames x2
  have h2 : Touch 98353 s x2 := by
    unfold x2
    refine Touch.foldl ?_ (fun y3 z3 h3 => ?_)
    · assumption
    · exact switchGroup_only.step rfl (by assumption)
  clear_value x2
  exact sendTrims_only.step rfl (by assumption)

theorem fetch_only {s : State} {v1 v2 v3} : Touch 176275515 s (@State.fetch s v1 v2 v3) := by
  have h : Touch 176275515 s s := Touch.refl
  unfold State.fetch
  extract_lets +onlyGivenNames x1
  have h1 : Touch 176275515 s x1 := by
    unfold x1
    exact applyLine_only.step rfl (by assumption)
  clear_value x1
  extract_lets +onlyGivenNames x2
  clear_value x2
  extract_lets +onlyGivenNames x3
  have h3 : Touch 176275515 s x3 := by
    unfold x3
    exact setn_only.step rfl (by assumption)
  clear_value x3
  extract_lets +onlyGivenNames x4
  have h4 : Touch 176275515 s x4 := by
    unfold x4
    exact refreshPlane_only.step rfl (followPlane_only.step rfl (by assumption))
  clear_value x4
  extract_lets +onlyGivenNames x5
  have h5 : Touch 176275515 s x5 := by
    unfold x5
    refine Touch.ite ?_ ?_
    · exact switchAt_only.step rfl (by assumption)
    · exact switchNow_only.step rfl (by assumption)
  clear_value x5
  extract_lets +onlyGivenNames x6
  refine Touch.ite ?_ ?_
  · refine Touch.setFire (.inl rfl) (.inl rfl) ?_
    assumption
  · extract_lets +onlyGivenNames x7
    have h7 : Touch 176275515 s x7 := by
      unfold x7
      refine Touch.ite ?_ ?_
      · exact couchBad_only.step rfl (by assumption)
      · assumption
    clear_value x7
    extract_lets +onlyGivenNames x8
    clear_value x8
    extract_lets +onlyGivenNames x9
    have h9 : Touch 176275515 s x9 := by
      unfold x9
      refine Touch.foldl ?_ (fun y10 z10 h10 => ?_)
      · assumption
      · exact modAcc_only.step rfl (by assumption)
    clear_value x9
    extract_lets +onlyGivenNames x11
    have h11 : Touch 176275515 s x11 := by
      unfold x11
      exact setn_only.step rfl (setn_only.step rfl (by assumption))
    clear_value x11
    extract_lets +onlyGivenNames x12
    have h12 : Touch 176275515 s x12 := by
      unfold x12
      exact setn_only.step rfl (by assumption)
    clear_value x12
    extract_lets +onlyGivenNames x13
    have h13 : Touch 176275515 s x13 := by
      unfold x13
      refine Touch.ite ?_ ?_
      · refine Touch.foldl ?_ (fun y14 z14 h14 => ?_)
        · assumption
        · refine Touch.ite ?_ ?_
          · exact inc64_only.step rfl (by assumption)
          · assumption
      · assumption
    clear_value x13
    refine Touch.setFire (.inl rfl) (.inl rfl) ?_
    assumption

theorem setMet_only {s : State} {v1} : Touch 4194304 s (@State.setMet s v1) := by
  have h : Touch 4194304 s s := Touch.refl
  unfold State.setMet
  refine Touch.trans (b := s) ?_ { island := .inl rfl }
  assumption

theorem islandEvent_only {s : State} {v1 v2} : Touch 4194309 s (@State.islandEvent s v1 v2) := by
  have h : Touch 4194309 s s := Touch.refl
  unfold State.islandEvent
  extract_lets +onlyGivenNames x1
  clear_value x1
  extract_lets +onlyGivenNames x2
  have h2 : Touch 4194309 s x2 := by
    unfold x2
    exact setDurable_only.step rfl (by assumption)
  clear_value x2
  extract_lets +onlyGivenNames x3
  clear_value x3
  exact setMet_only.step rfl (by assumption)

theorem setCell_only {s : State} {v1 v2} : Touch 4194304 s (@State.setCell s v1 v2) := by
  have h : Touch 4194304 s s := Touch.refl
  unfold State.setCell
  exact setMet_only.step rfl (by assumption)

theorem takeZero_only {s : State} {v1} : Touch 4299161600 s (@State.takeZero s v1) := by
  have h : Touch 4299161600 s s := Touch.refl
  unfold State.takeZero
  extract_lets +onlyGivenNames x1
  clear_value x1
  extract_lets +onlyGivenNames x2
  have h2 : Touch 4299161600 s x2 := by
    unfold x2
    exact freeNext_only.step rfl (by assumption)
  clear_value x2
  split
  · assumption
  · extract_lets +onlyGivenNames x3
    clear_value x3
    extract_lets +onlyGivenNames x4
    clear_value x4
    refine Touch.ite ?_ ?_
    · exact setCell_only.step rfl (by assumption)
    · assumption

theorem zeroRequest_only {s : State} : Touch 4299161600 s (@State.zeroRequest s) := by
  have h : Touch 4299161600 s s := Touch.refl
  unfold State.zeroRequest
  refine Touch.ite ?_ ?_
  · exact takeZero_only.step rfl (takeZero_only.step rfl (by assumption))
  · assumption

theorem execWeighingWindowEnd_only {s : State} {v0 v1 v2 v3 v4 v5} : OutTouch 4194305 s (@execWeighingWindowEnd v0 v1 v2 v3 v4 v5 s) := by
  have h : Touch 4194305 s s := Touch.refl
  unfold execWeighingWindowEnd
  extract_lets +onlyGivenNames x1
  have h1 : Touch 4194305 s x1 := by
    unfold x1
    exact atTime_only.step rfl (by assumption)
  clear_value x1
  extract_lets +onlyGivenNames x2
  clear_value x2
  refine OutTouch.ite ?_ ?_
  · exact OutTouch.ok (by assumption)
  · extract_lets +onlyGivenNames x3
    clear_value x3
    extract_lets +onlyGivenNames x4
    clear_value x4
    extract_lets +onlyGivenNames x5
    clear_value x5
    extract_lets +onlyGivenNames x6
    clear_value x6
    extract_lets +onlyGivenNames x7
    clear_value x7
    extract_lets +onlyGivenNames x8
    clear_value x8
    extract_lets +onlyGivenNames x9
    clear_value x9
    extract_lets +onlyGivenNames x10
    clear_value x10
    extract_lets +onlyGivenNames x11
    clear_value x11
    extract_lets +onlyGivenNames x12
    clear_value x12
    extract_lets +onlyGivenNames x13
    clear_value x13
    extract_lets +onlyGivenNames x14
    clear_value x14
    extract_lets +onlyGivenNames x15
    clear_value x15
    extract_lets +onlyGivenNames x16
    have h16 : Touch 4194305 s x16 := by
      unfold x16
      exact inc64_only.step rfl (setn_only.step rfl (by assumption))
    clear_value x16
    extract_lets +onlyGivenNames x17
    have h17 : Touch 4194305 s x17 := by
      unfold x17
      exact setCell_only.step rfl (by assumption)
    clear_value x17
    exact OutTouch.ok (setMet_only.step rfl (by assumption))

theorem bindWeighed_only {s : State} {v1 v2} : Touch 4194305 s (@State.bindWeighed s v1 v2) := by
  have h : Touch 4194305 s s := Touch.refl
  unfold State.bindWeighed
  extract_lets +onlyGivenNames x1
  clear_value x1
  extract_lets +onlyGivenNames x2
  extract_lets +onlyGivenNames x3
  have h3 : Touch 4194305 s x3 := by
    unfold x3
    exact setMet_only.step rfl (by assumption)
  clear_value x3
  exact bump_only.step rfl (by assumption)

theorem islandFault_only {s : State} {v1} : Touch 4194305 s (@State.islandFault s v1) := by
  have h : Touch 4194305 s s := Touch.refl
  unfold State.islandFault
  extract_lets +onlyGivenNames x1
  have h1 : Touch 4194305 s x1 := by
    unfold x1
    exact setn_only.step rfl (setn_only.step rfl (by assumption))
  clear_value x1
  exact setCell_only.step rfl (setCell_only.step rfl (by assumption))

theorem execModulatorSilent_only {s : State} {v0 v1} : OutTouch 4194305 s (@execModulatorSilent v0 v1 s) := by
  have h : Touch 4194305 s s := Touch.refl
  unfold execModulatorSilent
  extract_lets +onlyGivenNames x1
  have h1 : Touch 4194305 s x1 := by
    unfold x1
    exact atTime_only.step rfl (by assumption)
  clear_value x1
  refine OutTouch.ok ?_
  refine Touch.ite ?_ ?_
  · exact islandFault_only.step rfl (by assumption)
  · assumption

theorem execIslandWatchdog_only {s : State} {v0} : OutTouch 4194305 s (@execIslandWatchdog v0 s) := by
  have h : Touch 4194305 s s := Touch.refl
  unfold execIslandWatchdog
  extract_lets +onlyGivenNames x1
  have h1 : Touch 4194305 s x1 := by
    unfold x1
    exact atTime_only.step rfl (by assumption)
  clear_value x1
  refine OutTouch.ok ?_
  refine Touch.ite ?_ ?_
  · exact islandFault_only.step rfl (by assumption)
  · assumption

theorem enterSealed_only {s : State} : Touch 4299161605 s (@State.enterSealed s) := by
  have h : Touch 4299161605 s s := Touch.refl
  unfold State.enterSealed
  extract_lets +onlyGivenNames x1
  clear_value x1
  extract_lets +onlyGivenNames x2
  have h2 : Touch 4299161605 s x2 := by
    unfold x2
    exact setDurable_only.step rfl (setn_only.step rfl (by assumption))
  clear_value x2
  extract_lets +onlyGivenNames x3
  clear_value x3
  extract_lets +onlyGivenNames x4
  clear_value x4
  extract_lets +onlyGivenNames x5
  have h5 : Touch 4299161605 s x5 := by
    unfold x5
    exact setCell_only.step rfl (setCell_only.step rfl (by assumption))
  clear_value x5
  exact takeZero_only.step rfl (takeZero_only.step rfl (by assumption))

theorem execSealedRecord_only {s : State} {v0 v1} : OutTouch 4194353 s (@execSealedRecord v0 v1 s) := by
  have h : Touch 4194353 s s := Touch.refl
  unfold execSealedRecord
  extract_lets +onlyGivenNames x1
  have h1 : Touch 4194353 s x1 := by
    unfold x1
    exact atTime_only.step rfl (by assumption)
  clear_value x1
  extract_lets +onlyGivenNames x2
  extract_lets +onlyGivenNames x3
  have h3 : Touch 4194353 s x3 := by
    unfold x3
    exact setMet_only.step rfl (by assumption)
  clear_value x3
  refine OutTouch.ite ?_ ?_
  · exact OutTouch.ok (inc32_only.step rfl (by assumption))
  · extract_lets +onlyGivenNames x4
    clear_value x4
    extract_lets +onlyGivenNames x5
    clear_value x5
    extract_lets +onlyGivenNames x6
    have h6 : Touch 4194353 s x6 := by
      unfold x6
      refine Touch.ite ?_ ?_
      · exact inc32_only.step rfl (by assumption)
      · assumption
    clear_value x6
    extract_lets +onlyGivenNames x7
    extract_lets +onlyGivenNames x8
    have h8 : Touch 4194353 s x8 := by
      unfold x8
      exact setMet_only.step rfl (by assumption)
    clear_value x8
    exact OutTouch.ok (event_only.step rfl (by assumption))

theorem execSealOpened_only {s : State} {v0} : OutTouch 4194309 s (@execSealOpened v0 s) := by
  have h : Touch 4194309 s s := Touch.refl
  unfold execSealOpened
  extract_lets +onlyGivenNames x1
  have h1 : Touch 4194309 s x1 := by
    unfold x1
    exact atTime_only.step rfl (by assumption)
  clear_value x1
  extract_lets +onlyGivenNames x2
  extract_lets +onlyGivenNames x3
  have h3 : Touch 4194309 s x3 := by
    unfold x3
    exact setMet_only.step rfl (by assumption)
  clear_value x3
  extract_lets +onlyGivenNames x4
  have h4 : Touch 4194309 s x4 := by
    unfold x4
    exact setDurable_only.step rfl (by assumption)
  clear_value x4
  extract_lets +onlyGivenNames x5
  have h5 : Touch 4194309 s x5 := by
    unfold x5
    exact islandEvent_only.step rfl (by assumption)
  clear_value x5
  refine OutTouch.ok ?_
  refine Touch.ite ?_ ?_
  · exact setn_only.step rfl (by assumption)
  · assumption

theorem execPdMetroSupplyFault_only {s : State} {v0} : OutTouch 4194305 s (@execPdMetroSupplyFault v0 s) := by
  have h : Touch 4194305 s s := Touch.refl
  unfold execPdMetroSupplyFault
  extract_lets +onlyGivenNames x1
  have h1 : Touch 4194305 s x1 := by
    unfold x1
    exact atTime_only.step rfl (by assumption)
  clear_value x1
  refine OutTouch.ok ?_
  refine Touch.ite ?_ ?_
  · exact islandFault_only.step rfl (by assumption)
  · assumption

theorem execMetPdEdge_only {s : State} {v0 v1} : OutTouch 4194305 s (@execMetPdEdge v0 v1 s) := by
  have h : Touch 4194305 s s := Touch.refl
  unfold execMetPdEdge
  extract_lets +onlyGivenNames x1
  have h1 : Touch 4194305 s x1 := by
    unfold x1
    exact atTime_only.step rfl (by assumption)
  clear_value x1
  refine OutTouch.ite ?_ ?_
  · exact OutTouch.ok (by assumption)
  · refine OutTouch.ite ?_ ?_
    · exact OutTouch.ok (inc32_only.step rfl (by assumption))
    · exact OutTouch.ok (setCell_only.step rfl (by assumption))

theorem execSealClosed_only {s : State} {v0} : OutTouch 4299161605 s (@execSealClosed v0 s) := by
  have h : Touch 4299161605 s s := Touch.refl
  unfold execSealClosed
  extract_lets +onlyGivenNames x1
  have h1 : Touch 4299161605 s x1 := by
    unfold x1
    exact atTime_only.step rfl (by assumption)
  clear_value x1
  extract_lets +onlyGivenNames x2
  extract_lets +onlyGivenNames x3
  have h3 : Touch 4299161605 s x3 := by
    unfold x3
    exact setMet_only.step rfl (by assumption)
  clear_value x3
  refine OutTouch.ok ?_
  refine Touch.ite ?_ ?_
  · exact enterSealed_only.step rfl (by assumption)
  · assumption

theorem execZeroTracking_only {s : State} {v0 v1 v2} : OutTouch 4194304 s (@execZeroTracking v0 v1 v2 s) := by
  have h : Touch 4194304 s s := Touch.refl
  unfold execZeroTracking
  extract_lets +onlyGivenNames x1
  have h1 : Touch 4194304 s x1 := by
    unfold x1
    exact atTime_only.step rfl (by assumption)
  clear_value x1
  extract_lets +onlyGivenNames x2
  clear_value x2
  extract_lets +onlyGivenNames x3
  clear_value x3
  refine OutTouch.ite ?_ ?_
  · exact OutTouch.ok (setCell_only.step rfl (by assumption))
  · exact OutTouch.ok (by assumption)

theorem execIslandBootComplete_only {s : State} {v0 v1 v2} : OutTouch 4299161605 s (@execIslandBootComplete v0 v1 v2 s) := by
  have h : Touch 4299161605 s s := Touch.refl
  unfold execIslandBootComplete
  extract_lets +onlyGivenNames x1
  have h1 : Touch 4299161605 s x1 := by
    unfold x1
    exact atTime_only.step rfl (by assumption)
  clear_value x1
  refine OutTouch.ite ?_ ?_
  · exact OutTouch.ok (by assumption)
  · refine OutTouch.ite ?_ ?_
    · exact OutTouch.ok (islandFault_only.step rfl (by assumption))
    · refine OutTouch.ite ?_ ?_
      · exact OutTouch.ok (islandFault_only.step rfl (by assumption))
      · extract_lets +onlyGivenNames x2
        extract_lets +onlyGivenNames x3
        have h3 : Touch 4299161605 s x3 := by
          unfold x3
          exact setMet_only.step rfl (by assumption)
        clear_value x3
        refine OutTouch.ite ?_ ?_
        · exact OutTouch.ok (enterSealed_only.step rfl (by assumption))
        · exact OutTouch.ok (setMet_only.step rfl (setn_only.step rfl (by assumption)))

theorem take_only {s : State} {v1 v2} : Touch 16 s (@State.take s v1 v2).1 := by
  have h : Touch 16 s s := Touch.refl
  unfold State.take
  extract_lets +onlyGivenNames x1
  clear_value x1
  split
  · extract_lets +onlyGivenNames x2
    clear_value x2
    dsimp only
    exact setSess_only.step rfl (by assumption)
  · dsimp only
    assumption

theorem ptpSelect_only {s : State} : Touch 1 s (@State.ptpSelect s) := by
  have h : Touch 1 s s := Touch.refl
  unfold State.ptpSelect
  extract_lets +onlyGivenNames x1
  clear_value x1
  extract_lets +onlyGivenNames x2
  have h2 : Touch 1 s x2 := by
    unfold x2
    exact setn_only.step rfl (by assumption)
  clear_value x2
  extract_lets +onlyGivenNames x3
  have h3 : Touch 1 s x3 := by
    unfold x3
    refine Touch.ite ?_ ?_
    · assumption
    · refine Touch.ite ?_ ?_
      · exact setn_only.step rfl (by assumption)
      · assumption
  clear_value x3
  split
  · exact seti_only.step rfl (setn_only.step rfl (by assumption))
  · assumption

theorem execPtpSyncTimeout_only {s : State} {v0 v1} : OutTouch 65 s (@execPtpSyncTimeout v0 v1 s) := by
  have h : Touch 65 s s := Touch.refl
  unfold execPtpSyncTimeout
  extract_lets +onlyGivenNames x1
  have h1 : Touch 65 s x1 := by
    unfold x1
    exact atTime_only.step rfl (by assumption)
  clear_value x1
  extract_lets +onlyGivenNames x2
  clear_value x2
  extract_lets +onlyGivenNames x3
  extract_lets +onlyGivenNames x4
  clear_value x4
  extract_lets +onlyGivenNames x5
  have h5 : Touch 65 s x5 := by
    unfold x5
    refine Touch.trans (b := x1) ?_ { objects := .inl rfl, ptp := .inl rfl }
    assumption
  clear_value x5
  refine OutTouch.ite ?_ ?_
  · extract_lets +onlyGivenNames x6
    have h6 : Touch 65 s x6 := by
      unfold x6
      refine Touch.ite ?_ ?_
      · assumption
      · exact setn_only.step rfl (by assumption)
    clear_value x6
    exact OutTouch.ok (ptpSelect_only.step rfl (by assumption))
  · exact OutTouch.ok (by assumption)

theorem respond_only {s : State} {v1 v2 v3 v4} : Touch 16 s (@State.respond s v1 v2 v3 v4) := by
  have h : Touch 16 s s := Touch.refl
  unfold State.respond
  exact send_only.step rfl (by assumption)

theorem openReject_only {s : State} {v1 v2 v3} : Touch 32 s (@State.openReject s v1 v2 v3) := by
  have h : Touch 32 s s := Touch.refl
  unfold State.openReject
  refine Touch.trans (b := s) ?_ { network := .inl rfl }
  assumption

theorem sendNoSeq_only {s : State} {v1} : Touch 48 s (@State.sendNoSeq s v1) := by
  have h : Touch 48 s s := Touch.refl
  unfold State.sendNoSeq
  extract_lets +onlyGivenNames x1
  clear_value x1
  extract_lets +onlyGivenNames x2
  extract_lets +onlyGivenNames x3
  have h3 : Touch 48 s x3 := by
    unfold x3
    refine Touch.trans (b := s) ?_ { sessions := .inl rfl, network := .inl rfl }
    assumption
  clear_value x3
  exact setSess_only.step rfl (by assumption)

theorem reportLimits_only {s : State} {v0 v2} : Touch 48 s (@State.reportLimits v0 s v2) := by
  induction v0 generalizing s with
  | zero => exact Touch.refl
  | succ n ih =>
    unfold State.reportLimits
    exact Touch.ite (ih.step rfl (sendNoSeq_only.step rfl Touch.refl)) Touch.refl

theorem ptpSteer_only {s : State} {v1} : Touch 65 s (@State.ptpSteer s v1) := by
  have h : Touch 65 s s := Touch.refl
  unfold State.ptpSteer
  extract_lets +onlyGivenNames x1
  clear_value x1
  extract_lets +onlyGivenNames x2
  clear_value x2
  extract_lets +onlyGivenNames x3
  clear_value x3
  extract_lets +onlyGivenNames x4
  clear_value x4
  extract_lets +onlyGivenNames x5
  clear_value x5
  extract_lets +onlyGivenNames x6
  clear_value x6
  extract_lets +onlyGivenNames x7
  clear_value x7
  extract_lets +onlyGivenNames x8
  extract_lets +onlyGivenNames x9
  have h9 : Touch 65 s x9 := by
    unfold x9
    refine Touch.trans (b := s) ?_ { objects := .inl rfl, ptp := .inl rfl }
    assumption
  clear_value x9
  exact setn_only.step rfl (seti_only.step rfl (by assumption))

theorem ptpOffset_only {s : State} {v1 v2 v3 v4} : Touch 65 s (@State.ptpOffset s v1 v2 v3 v4) := by
  have h : Touch 65 s s := Touch.refl
  unfold State.ptpOffset
  refine Touch.ite ?_ ?_
  · exact ptpSteer_only.step rfl (by assumption)
  · assumption

theorem execSubscribeEvents_only {s : State} {v0 v1 v2 v3} : OutTouch 16 s (@execSubscribeEvents v0 v1 v2 v3 s) := by
  have h : Touch 16 s s := Touch.refl
  unfold execSubscribeEvents
  extract_lets +onlyGivenNames x1
  have h1 : Touch 16 s x1 := by
    unfold x1
    exact atTime_only.step rfl (by assumption)
  clear_value x1
  extract_lets +onlyGivenNames x2
  have h2 : Touch 16 s x2.1 := by
    unfold x2
    exact take_only.step rfl (by assumption)
  clear_value x2
  refine OutTouch.ite ?_ ?_
  · extract_lets +onlyGivenNames x3
    have h3 : Touch 16 s x3 := by
      unfold x3
      exact modSess_only.step rfl (by assumption)
    clear_value x3
    exact OutTouch.ok (respond_only.step rfl (by assumption))
  · exact OutTouch.ok (by assumption)

theorem execPtpGeneralMessage_only {s : State} {v0 v1 v2} : OutTouch 65 s (@execPtpGeneralMessage v0 v1 v2 s) := by
  have h : Touch 65 s s := Touch.refl
  unfold execPtpGeneralMessage
  extract_lets +onlyGivenNames x1
  have h1 : Touch 65 s x1 := by
    unfold x1
    exact inc64_only.step rfl (atTime_only.step rfl (by assumption))
  clear_value x1
  split
  · refine OutTouch.ite ?_ ?_
    · refine OutTouch.ok ?_
      refine Touch.step ptpSelect_only rfl ?_
      refine Touch.trans (b := x1) ?_ { objects := .inl rfl, ptp := .inl rfl }
      assumption
    · exact OutTouch.ok (by assumption)
  · refine OutTouch.ite ?_ ?_
    · split
      · refine OutTouch.ite ?_ ?_
        · refine OutTouch.ok ?_
          refine Touch.step ptpOffset_only rfl ?_
          refine Touch.trans (b := x1) ?_ { objects := .inl rfl, ptp := .inl rfl }
          assumption
        · exact OutTouch.ok (by assumption)
      · exact OutTouch.ok (by assumption)
    · exact OutTouch.ok (by assumption)

theorem execNetLinkUp_only {s : State} {v0 v1} : OutTouch 1 s (@execNetLinkUp v0 v1 s) := by
  have h : Touch 1 s s := Touch.refl
  unfold execNetLinkUp
  extract_lets +onlyGivenNames x1
  have h1 : Touch 1 s x1 := by
    unfold x1
    exact setb_only.step rfl (atTime_only.step rfl (by assumption))
  clear_value x1
  refine OutTouch.ok ?_
  refine Touch.ite ?_ ?_
  · exact setn_only.step rfl (by assumption)
  · assumption

theorem errorTo_only {s : State} {v1 v2 v3} : Touch 16 s (@State.errorTo s v1 v2 v3) := by
  have h : Touch 16 s s := Touch.refl
  unfold State.errorTo
  refine Touch.ite ?_ ?_
  · exact sendError_only.step rfl (by assumption)
  · assumption

theorem execCreditUpdateDue_only {s : State} {v0 v1} : OutTouch 48 s (@execCreditUpdateDue v0 v1 s) := by
  have h : Touch 48 s s := Touch.refl
  unfold execCreditUpdateDue
  exact OutTouch.ok (reportLimits_only.step rfl (atTime_only.step rfl (by assumption)))

theorem openOn_only {s : State} {v1 v2 v3 v4} : Touch 24 s (@State.openOn s v1 v2 v3 v4) := by
  have h : Touch 24 s s := Touch.refl
  unfold State.openOn
  extract_lets +onlyGivenNames x1
  clear_value x1
  extract_lets +onlyGivenNames x2
  clear_value x2
  extract_lets +onlyGivenNames x3
  clear_value x3
  extract_lets +onlyGivenNames x4
  clear_value x4
  extract_lets +onlyGivenNames x5
  clear_value x5
  extract_lets +onlyGivenNames x6
  clear_value x6
  extract_lets +onlyGivenNames x7
  clear_value x7
  extract_lets +onlyGivenNames x8
  clear_value x8
  extract_lets +onlyGivenNames x9
  clear_value x9
  extract_lets +onlyGivenNames x10
  clear_value x10
  extract_lets +onlyGivenNames x11
  have h11 : Touch 24 s x11 := by
    unfold x11
    exact setSess_only.step rfl (by assumption)
  clear_value x11
  extract_lets +onlyGivenNames x12
  have h12 : Touch 24 s x12 := by
    unfold x12
    exact logKind_only.step rfl (by assumption)
  clear_value x12
  exact pump_only.step rfl (by assumption)

theorem setSfp_only {s : State} {v1 v2 v3} : Touch 33 s (@State.setSfp s v1 v2 v3) := by
  have h : Touch 33 s s := Touch.refl
  unfold State.setSfp
  extract_lets +onlyGivenNames x1
  extract_lets +onlyGivenNames x2
  have h2 : Touch 33 s x2 := by
    unfold x2
    refine Touch.trans (b := s) ?_ { objects := .inl rfl, network := .inl rfl }
    assumption
  clear_value x2
  exact setv_only.step rfl (by assumption)

theorem endSession_only {s : State} {v1 v2} : Touch 24 s (@State.endSession s v1 v2) := by
  have h : Touch 24 s s := Touch.refl
  unfold State.endSession
  extract_lets +onlyGivenNames x1
  clear_value x1
  refine Touch.ite ?_ ?_
  · extract_lets +onlyGivenNames x2
    have h2 : Touch 24 s x2 := by
      unfold x2
      exact logKind_only.step rfl (by assumption)
    clear_value x2
    exact setSess_only.step rfl (by assumption)
  · assumption

theorem takeFields_only {s : State} {v1 v2 v3 v4 v5} : Touch 24 s (@State.takeFields s v1 v2 v3 v4 v5) := by
  have h : Touch 24 s s := Touch.refl
  unfold State.takeFields
  extract_lets +onlyGivenNames x1
  clear_value x1
  extract_lets +onlyGivenNames x2
  clear_value x2
  extract_lets +onlyGivenNames x3
  clear_value x3
  extract_lets +onlyGivenNames x4
  clear_value x4
  extract_lets +onlyGivenNames x5
  clear_value x5
  extract_lets +onlyGivenNames x6
  clear_value x6
  extract_lets +onlyGivenNames x7
  clear_value x7
  extract_lets +onlyGivenNames x8
  clear_value x8
  extract_lets +onlyGivenNames x9
  clear_value x9
  extract_lets +onlyGivenNames x10
  clear_value x10
  refine Touch.ite ?_ ?_
  · exact endSession_only.step rfl (setSess_only.step rfl (by assumption))
  · extract_lets +onlyGivenNames x11
    clear_value x11
    extract_lets +onlyGivenNames x12
    clear_value x12
    extract_lets +onlyGivenNames x13
    clear_value x13
    exact pump_only.step rfl (setSess_only.step rfl (by assumption))

theorem execKlpPacket_only {s : State} {v0 v1 v2 v3} : OutTouch 57 s (@execKlpPacket v0 v1 v2 v3 s) := by
  have h : Touch 57 s s := Touch.refl
  unfold execKlpPacket
  extract_lets +onlyGivenNames x1
  have h1 : Touch 57 s x1 := by
    unfold x1
    exact inc64_only.step rfl (atTime_only.step rfl (by assumption))
  clear_value x1
  extract_lets +onlyGivenNames x2
  clear_value x2
  extract_lets +onlyGivenNames x3
  clear_value x3
  refine OutTouch.ite ?_ ?_
  · exact OutTouch.ok (by assumption)
  · extract_lets +onlyGivenNames x4
    clear_value x4
    extract_lets +onlyGivenNames x5
    have h5 : Touch 57 s x5 := by
      unfold x5
      exact setSess_only.step rfl (by assumption)
    clear_value x5
    extract_lets +onlyGivenNames x6
    have h6 : Touch 57 s x6 := by
      unfold x6
      exact takeFields_only.step rfl (by assumption)
    clear_value x6
    extract_lets +onlyGivenNames x7
    clear_value x7
    refine OutTouch.ite ?_ ?_
    · exact OutTouch.ok (by assumption)
    · refine OutTouch.ite ?_ ?_
      · exact OutTouch.ok (sendError_only.step rfl (by assumption))
      · refine OutTouch.ite ?_ ?_
        · exact OutTouch.ok (sendNoSeq_only.step rfl (inc32_only.step rfl (by assumption)))
        · extract_lets +onlyGivenNames x8
          clear_value x8
          extract_lets +onlyGivenNames x9
          clear_value x9
          refine OutTouch.ite ?_ ?_
          · extract_lets +onlyGivenNames x10
            have h10 : Touch 57 s x10 := by
              unfold x10
              exact setSess_only.step rfl (by assumption)
            clear_value x10
            extract_lets +onlyGivenNames x11
            have h11 : Touch 57 s x11 := by
              unfold x11
              exact sendError_only.step rfl (by assumption)
            clear_value x11
            refine OutTouch.ok ?_
            refine Touch.ite ?_ ?_
            · exact endSession_only.step rfl (by assumption)
            · assumption
          · extract_lets +onlyGivenNames x12
            clear_value x12
            extract_lets +onlyGivenNames x13
            clear_value x13
            extract_lets +onlyGivenNames x14
            clear_value x14
            extract_lets +onlyGivenNames x15
            clear_value x15
            extract_lets +onlyGivenNames x16
            clear_value x16
            extract_lets +onlyGivenNames x17
            have h17 : Touch 57 s x17 := by
              unfold x17
              exact setSess_only.step rfl (by assumption)
            clear_value x17
            refine OutTouch.ok ?_
            refine Touch.ite ?_ ?_
            · exact sendNoSeq_only.step rfl (by assumption)
            · assumption

theorem execSessionTimeout_only {s : State} {v0 v1} : OutTouch 24 s (@execSessionTimeout v0 v1 s) := by
  have h : Touch 24 s s := Touch.refl
  unfold execSessionTimeout
  exact OutTouch.ok (endSession_only.step rfl (atTime_only.step rfl (by assumption)))

theorem execSfpModuleInserted_only {s : State} {v0 v1 v2} : OutTouch 33 s (@execSfpModuleInserted v0 v1 v2 s) := by
  have h : Touch 33 s s := Touch.refl
  unfold execSfpModuleInserted
  exact OutTouch.ok (setSfp_only.step rfl (atTime_only.step rfl (by assumption)))

theorem execEventSend_only {s : State} {v0 v1} : OutTouch 16 s (@execEventSend v0 v1 s) := by
  have h : Touch 16 s s := Touch.refl
  unfold execEventSend
  extract_lets +onlyGivenNames x1
  have h1 : Touch 16 s x1 := by
    unfold x1
    exact atTime_only.step rfl (by assumption)
  clear_value x1
  extract_lets +onlyGivenNames x2
  clear_value x2
  extract_lets +onlyGivenNames x3
  clear_value x3
  refine OutTouch.ite ?_ ?_
  · extract_lets +onlyGivenNames x4
    have h4 : Touch 16 s x4 := by
      unfold x4
      exact setSess_only.step rfl (by assumption)
    clear_value x4
    exact OutTouch.ok (send_only.step rfl (by assumption))
  · exact OutTouch.ok (by assumption)

theorem execPtpEventMessage_only {s : State} {v0 v1 v2 v3 v4 v5 v6 v7} : OutTouch 65 s (@execPtpEventMessage v0 v1 v2 v3 v4 v5 v6 v7 s) := by
  have h : Touch 65 s s := Touch.refl
  unfold execPtpEventMessage
  extract_lets +onlyGivenNames x1
  have h1 : Touch 65 s x1 := by
    unfold x1
    exact inc64_only.step rfl (atTime_only.step rfl (by assumption))
  clear_value x1
  refine OutTouch.ite ?_ ?_
  · split
    · exact OutTouch.ok (ptpOffset_only.step rfl (by assumption))
    · refine OutTouch.ok ?_
      refine Touch.trans (b := x1) ?_ { objects := .inl rfl, ptp := .inl rfl }
      assumption
    · extract_lets +onlyGivenNames x2
      extract_lets +onlyGivenNames x3
      clear_value x3
      extract_lets +onlyGivenNames x4
      have h4 : Touch 65 s x4 := by
        unfold x4
        refine Touch.trans (b := x1) ?_ { objects := .inl rfl, ptp := .inl rfl }
        assumption
      clear_value x4
      refine OutTouch.ok ?_
      refine Touch.ite ?_ ?_
      · exact seti_only.step rfl (by assumption)
      · assumption
  · exact OutTouch.ok (by assumption)

theorem keepStamp_only {s : State} {v1} : Touch 5 s (@State.keepStamp s v1) := by
  have h : Touch 5 s s := Touch.refl
  unfold State.keepStamp
  extract_lets +onlyGivenNames x1
  clear_value x1
  extract_lets +onlyGivenNames x2
  clear_value x2
  exact setDurable_only.step rfl (by assumption)

theorem refuse_only {s : State} {v1} : Touch 32 s (@State.refuse s v1) := by
  have h : Touch 32 s s := Touch.refl
  unfold State.refuse
  extract_lets +onlyGivenNames x1
  clear_value x1
  extract_lets +onlyGivenNames x2
  clear_value x2
  extract_lets +onlyGivenNames x3
  clear_value x3
  refine Touch.trans (b := s) ?_ { network := .inl rfl }
  assumption

theorem execOpen_only {s : State} {v0 v1 v2 v3} : OutTouch 61 s (@execOpen v0 v1 v2 v3 s) := by
  have h : Touch 61 s s := Touch.refl
  unfold execOpen
  extract_lets +onlyGivenNames x1
  have h1 : Touch 61 s x1 := by
    unfold x1
    exact inc64_only.step rfl (atTime_only.step rfl (by assumption))
  clear_value x1
  refine OutTouch.ite ?_ ?_
  · exact OutTouch.ok (by assumption)
  · refine OutTouch.ite ?_ ?_
    · exact OutTouch.ok (openReject_only.step rfl (inc32_only.step rfl (by assumption)))
    · refine OutTouch.ite ?_ ?_
      · exact OutTouch.ok (by assumption)
      · refine OutTouch.ite ?_ ?_
        · exact OutTouch.ok (openReject_only.step rfl (by assumption))
        · refine OutTouch.ite ?_ ?_
          · exact OutTouch.ok (openReject_only.step rfl (by assumption))
          · refine OutTouch.ite ?_ ?_
            · exact OutTouch.ok (openReject_only.step rfl (by assumption))
            · split
              · exact OutTouch.ok (openReject_only.step rfl (by assumption))
              · refine OutTouch.ite ?_ ?_
                · exact OutTouch.ok (openOn_only.step rfl (by assumption))
                · refine OutTouch.ite ?_ ?_
                  · exact OutTouch.ok (openOn_only.step rfl (keepStamp_only.step rfl (by assumption)))
                  · exact OutTouch.ok (openReject_only.step rfl (inc32_only.step rfl (refuse_only.step rfl
                      (by assumption))))

theorem execPauseFrame_only {s : State} {v0 v1} : OutTouch 1 s (@execPauseFrame v0 v1 s) := by
  have h : Touch 1 s s := Touch.refl
  unfold execPauseFrame
  exact OutTouch.ok (inc32_only.step rfl (inc64_only.step rfl (atTime_only.step rfl (by assumption))))

theorem execNetLinkDown_only {s : State} {v0 v1 v2} : OutTouch 49 s (@execNetLinkDown v0 v1 v2 s) := by
  have h : Touch 49 s s := Touch.refl
  unfold execNetLinkDown
  extract_lets +onlyGivenNames x1
  have h1 : Touch 49 s x1 := by
    unfold x1
    exact atTime_only.step rfl (by assumption)
  clear_value x1
  extract_lets +onlyGivenNames x2
  have h2 : Touch 49 s x2 := by
    unfold x2
    exact inc32_only.step rfl (setb_only.step rfl (by assumption))
  clear_value x2
  extract_lets +onlyGivenNames x3
  have h3 : Touch 49 s x3 := by
    unfold x3
    refine Touch.ite ?_ ?_
    · exact setn_only.step rfl (by assumption)
    · assumption
  clear_value x3
  exact OutTouch.ok (event_only.step rfl (by assumption))

theorem execSfpModuleRemoved_only {s : State} {v0 v1} : OutTouch 33 s (@execSfpModuleRemoved v0 v1 s) := by
  have h : Touch 33 s s := Touch.refl
  unfold execSfpModuleRemoved
  exact OutTouch.ok (setSfp_only.step rfl (atTime_only.step rfl (by assumption)))

theorem execRetransmitTimeout_only {s : State} {v0 v1 v2} : OutTouch 24 s (@execRetransmitTimeout v0 v1 v2 s) := by
  have h : Touch 24 s s := Touch.refl
  unfold execRetransmitTimeout
  extract_lets +onlyGivenNames x1
  have h1 : Touch 24 s x1 := by
    unfold x1
    exact atTime_only.step rfl (by assumption)
  clear_value x1
  extract_lets +onlyGivenNames x2
  clear_value x2
  split
  · exact OutTouch.ok (by assumption)
  · refine OutTouch.ite ?_ ?_
    · exact OutTouch.ok (endSession_only.step rfl (by assumption))
    · extract_lets +onlyGivenNames x3
      clear_value x3
      exact OutTouch.ok (setSess_only.step rfl (by assumption))

theorem execAckDue_only {s : State} {v0 v1} : OutTouch 48 s (@execAckDue v0 v1 s) := by
  have h : Touch 48 s s := Touch.refl
  unfold execAckDue
  extract_lets +onlyGivenNames x1
  have h1 : Touch 48 s x1 := by
    unfold x1
    exact atTime_only.step rfl (by assumption)
  clear_value x1
  refine OutTouch.ok ?_
  refine Touch.ite ?_ ?_
  · exact sendNoSeq_only.step rfl (by assumption)
  · assumption

theorem execKeepaliveDue_only {s : State} {v0 v1} : OutTouch 48 s (@execKeepaliveDue v0 v1 s) := by
  have h : Touch 48 s s := Touch.refl
  unfold execKeepaliveDue
  extract_lets +onlyGivenNames x1
  have h1 : Touch 48 s x1 := by
    unfold x1
    exact atTime_only.step rfl (by assumption)
  clear_value x1
  refine OutTouch.ok ?_
  refine Touch.ite ?_ ?_
  · exact sendNoSeq_only.step rfl (by assumption)
  · assumption

theorem execNop_only {s : State} {v0 v1 v2 v3 v4 v5 v6 v7 v8} : OutTouch 25 s (@execNop v0 v1 v2 v3 v4 v5 v6 v7 v8 s) := by
  have h : Touch 25 s s := Touch.refl
  unfold execNop
  extract_lets +onlyGivenNames x1
  have h1 : Touch 25 s x1 := by
    unfold x1
    exact inc64_only.step rfl (atTime_only.step rfl (by assumption))
  clear_value x1
  extract_lets +onlyGivenNames x2
  clear_value x2
  refine OutTouch.ite ?_ ?_
  · exact OutTouch.ok (takeFields_only.step rfl (setSess_only.step rfl (by assumption)))
  · exact OutTouch.ok (by assumption)

theorem execClose_only {s : State} {v0 v1 v2} : OutTouch 24 s (@execClose v0 v1 v2 s) := by
  have h : Touch 24 s s := Touch.refl
  unfold execClose
  extract_lets +onlyGivenNames x1
  have h1 : Touch 24 s x1 := by
    unfold x1
    exact atTime_only.step rfl (by assumption)
  clear_value x1
  extract_lets +onlyGivenNames x2
  have h2 : Touch 24 s x2.1 := by
    unfold x2
    exact take_only.step rfl (by assumption)
  clear_value x2
  refine OutTouch.ite ?_ ?_
  · exact OutTouch.ok (endSession_only.step rfl (by assumption))
  · exact OutTouch.ok (by assumption)

theorem execAuthLockoutExpiry_only {s : State} {v0 v1} : OutTouch 32 s (@execAuthLockoutExpiry v0 v1 s) := by
  have h : Touch 32 s s := Touch.refl
  unfold execAuthLockoutExpiry
  extract_lets +onlyGivenNames x1
  have h1 : Touch 32 s x1 := by
    unfold x1
    exact atTime_only.step rfl (by assumption)
  clear_value x1
  refine OutTouch.ok ?_
  refine Touch.trans (b := x1) ?_ { network := .inl rfl }
  assumption

end Sys2Proof.Machine
end

