-- ==== Sys2Proof/Laws/TouchB.lean ====
section
/-! SUPPORT. Which parts of the state the operations of these files may change, by `Touch`: Lanes, Web, Image,
Firing. -/

set_option Elab.async false

namespace Sys2Proof.Machine

theorem noteLow_only {s : State} {v1 v2} : Touch 256 s (@State.noteLow s v1 v2) := by
  have h : Touch 256 s s := Touch.refl
  unfold State.noteLow
  refine Touch.trans (b := s) ?_ { queues := .inl rfl }
  assumption

theorem queueCheck_only {s : State} {v1} : Touch 304 s (@State.queueCheck s v1) := by
  have h : Touch 304 s s := Touch.refl
  unfold State.queueCheck
  extract_lets +onlyGivenNames x1
  clear_value x1
  extract_lets +onlyGivenNames x2
  have h2 : Touch 304 s x2 := by
    unfold x2
    exact noteLow_only.step rfl (by assumption)
  clear_value x2
  refine Touch.ite ?_ ?_
  · exact event_only.step rfl (by assumption)
  · assumption

theorem setQueue_only {s : State} {v1 v2} : Touch 256 s (@State.setQueue s v1 v2) := by
  have h : Touch 256 s s := Touch.refl
  unfold State.setQueue
  refine Touch.trans (b := s) ?_ { queues := .inl rfl }
  assumption

theorem laneFlush_only {s : State} {v1} : Touch 4401 s (@State.laneFlush s v1) := by
  have h : Touch 4401 s s := Touch.refl
  unfold State.laneFlush
  extract_lets +onlyGivenNames x1
  clear_value x1
  extract_lets +onlyGivenNames x2
  have h2 : Touch 4401 s x2 := by
    unfold x2
    split
    · exact setn_only.step rfl (by assumption)
    · assumption
  clear_value x2
  exact journal_only.step rfl (queueCheck_only.step rfl (bump_only.step rfl (setQueue_only.step rfl
    (by assumption))))

theorem nextRecordSet_only {s : State} {v1 v2} : Touch 4097 s (@State.nextRecordSet s v1 v2) := by
  have h : Touch 4097 s s := Touch.refl
  unfold State.nextRecordSet
  exact journal_only.step rfl (setn_only.step rfl (setn_only.step rfl (by assumption)))

theorem ledgerReset_only {s : State} {v1} : Touch 4097 s (@State.ledgerReset s v1) := by
  have h : Touch 4097 s s := Touch.refl
  unfold State.ledgerReset
  extract_lets +onlyGivenNames x1
  clear_value x1
  extract_lets +onlyGivenNames x2
  have h2 : Touch 4097 s x2 := by
    unfold x2
    refine Touch.foldl ?_ (fun y3 z3 h3 => ?_)
    · assumption
    · exact setn_only.step rfl (by assumption)
  clear_value x2
  extract_lets +onlyGivenNames x4
  have h4 : Touch 4097 s x4 := by
    unfold x4
    exact setn_only.step rfl (setn_only.step rfl (by assumption))
  clear_value x4
  exact journal_only.step rfl (by assumption)

theorem startEngine_only {s : State} {v1} : Touch 8192 s (@State.startEngine s v1) := by
  have h : Touch 8192 s s := Touch.refl
  unfold State.startEngine
  split
  · assumption
  · split
    · assumption
    · refine Touch.trans (b := s) ?_ { compositor := .inl rfl }
      assumption

theorem queueSymbols_only {s : State} {v1} : Touch 8192 s (@State.queueSymbols s v1) := by
  have h : Touch 8192 s s := Touch.refl
  unfold State.queueSymbols
  refine Touch.step startEngine_only rfl ?_
  refine Touch.step startEngine_only rfl ?_
  refine Touch.trans (b := s) ?_ { compositor := .inl rfl }
  assumption

theorem preResolve_only {s : State} {v1} : Touch 8448 s (@State.preResolve s v1) := by
  have h : Touch 8448 s s := Touch.refl
  unfold State.preResolve
  extract_lets +onlyGivenNames x1
  clear_value x1
  extract_lets +onlyGivenNames x2
  clear_value x2
  extract_lets +onlyGivenNames x3
  clear_value x3
  refine Touch.ite ?_ ?_
  · assumption
  · extract_lets +onlyGivenNames x4
    clear_value x4
    extract_lets +onlyGivenNames x5
    clear_value x5
    exact queueSymbols_only.step rfl (setQueue_only.step rfl (by assumption))

theorem counterWritten_only {s : State} {v1} : Touch 4097 s (@State.counterWritten s v1) := by
  have h : Touch 4097 s s := Touch.refl
  unfold State.counterWritten
  exact journal_only.step rfl (setb_only.step rfl (setn_only.step rfl (by assumption)))

theorem composeError_only {s : State} {v1 v2 v3} : Touch 4657 s (@State.composeError s v1 v2 v3) := by
  have h : Touch 4657 s s := Touch.refl
  unfold State.composeError
  extract_lets +onlyGivenNames x1
  have h1 : Touch 4657 s x1 := by
    unfold x1
    exact inc32_only.step rfl (by assumption)
  clear_value x1
  extract_lets +onlyGivenNames x2
  have h2 : Touch 4657 s x2 := by
    unfold x2
    exact setn_only.step rfl (inc32_only.step rfl (by assumption))
  clear_value x2
  extract_lets +onlyGivenNames x3
  have h3 : Touch 4657 s x3 := by
    unfold x3
    exact setn_only.step rfl (setn_only.step rfl (by assumption))
  clear_value x3
  extract_lets +onlyGivenNames x4
  have h4 : Touch 4657 s x4 := by
    unfold x4
    exact modItem_only.step rfl (by assumption)
  clear_value x4
  extract_lets +onlyGivenNames x5
  have h5 : Touch 4657 s x5 := by
    unfold x5
    exact event_only.step rfl (by assumption)
  clear_value x5
  exact dispose_only.step rfl (by assumption)

theorem addItem_only {s : State} {v1} : Touch 512 s (@State.addItem s v1) := by
  have h : Touch 512 s s := Touch.refl
  unfold State.addItem
  exact setItems_only.step rfl (by assumption)

theorem takeHead_only {s : State} {v1 v2 v3} : Touch 8497 s (@State.takeHead s v1 v2 v3) := by
  have h : Touch 8497 s s := Touch.refl
  unfold State.takeHead
  exact preResolve_only.step rfl (queueCheck_only.step rfl (setn_only.step rfl (setQueue_only.step rfl
    (by assumption))))

theorem advanceCounter_only {s : State} {v1} : Touch 1 s (@State.advanceCounter s v1) := by
  have h : Touch 1 s s := Touch.refl
  unfold State.advanceCounter
  extract_lets +onlyGivenNames x1
  clear_value x1
  extract_lets +onlyGivenNames x2
  clear_value x2
  extract_lets +onlyGivenNames x3
  clear_value x3
  extract_lets +onlyGivenNames x4
  clear_value x4
  extract_lets +onlyGivenNames x5
  have h5 : Touch 1 s x5 := by
    unfold x5
    exact inc64_only.step rfl (by assumption)
  clear_value x5
  refine Touch.ite ?_ ?_
  · exact seti_only.step rfl (by assumption)
  · refine Touch.ite ?_ ?_
    · exact seti_only.step rfl (by assumption)
    · exact seti_only.step rfl (setb_only.step rfl (by assumption))

theorem composeBinding_only {s : State} {v1 v2 v3} : Touch 4207153 s (@State.composeBinding s v1 v2 v3) := by
  have h : Touch 4207153 s s := Touch.refl
  unfold State.composeBinding
  split
  · assumption
  · extract_lets +onlyGivenNames x1
    clear_value x1
    split
    · exact composeError_only.step rfl (by assumption)
    · extract_lets +onlyGivenNames x2
      clear_value x2
      split
      · exact composeError_only.step rfl (by assumption)
      · extract_lets +onlyGivenNames x3
        clear_value x3
        extract_lets +onlyGivenNames x4
        have h4 : Touch 4207153 s x4 := by
          unfold x4
          refine Touch.foldl ?_ (fun y5 z5 h5 => ?_)
          · assumption
          · exact advanceCounter_only.step rfl (by assumption)
        clear_value x4
        extract_lets +onlyGivenNames x6
        have h6 : Touch 4207153 s x6 := by
          unfold x6
          exact journal_only.step rfl (by assumption)
        clear_value x6
        split
        · exact composeError_only.step rfl (by assumption)
        · extract_lets +onlyGivenNames x7
          clear_value x7
          extract_lets +onlyGivenNames x8
          clear_value x8
          extract_lets +onlyGivenNames x9
          clear_value x9
          extract_lets +onlyGivenNames x10
          have h10 : Touch 4207153 s x10 := by
            unfold x10
            exact bindWeighed_only.step rfl (by assumption)
          clear_value x10
          extract_lets +onlyGivenNames x11
          clear_value x11
          extract_lets +onlyGivenNames x12
          have h12 : Touch 4207153 s x12 := by
            unfold x12
            exact modItem_only.step rfl (by assumption)
          clear_value x12
          split
          · exact composeError_only.step rfl (by assumption)
          · split
            · exact composeError_only.step rfl (by assumption)
            · refine Touch.ite ?_ ?_
              · exact composeError_only.step rfl (by assumption)
              · extract_lets +onlyGivenNames x13
                clear_value x13
                exact queueSymbols_only.step rfl (by assumption)

theorem setTargets_only {s : State} {v1 v2} : Touch 128 s (@State.setTargets s v1 v2) := by
  have h : Touch 128 s s := Touch.refl
  unfold State.setTargets
  refine Touch.foldl ?_ (fun y1 z1 h1 => ?_)
  · assumption
  · refine Touch.ite ?_ ?_
    · exact setGrid_only.step rfl (by assumption)
    · assumption

theorem bindHead_only {s : State} {v1 v2} : Touch 4207281 s (@State.bindHead s v1 v2) := by
  have h : Touch 4207281 s s := Touch.refl
  unfold State.bindHead
  extract_lets +onlyGivenNames x1
  clear_value x1
  extract_lets +onlyGivenNames x2
  clear_value x2
  split
  · extract_lets +onlyGivenNames x3
    clear_value x3
    exact composeError_only.step rfl (addItem_only.step rfl (by assumption))
  · extract_lets +onlyGivenNames x4
    clear_value x4
    extract_lets +onlyGivenNames x5
    clear_value x5
    extract_lets +onlyGivenNames x6
    clear_value x6
    exact composeBinding_only.step rfl (setTargets_only.step rfl (addItem_only.step rfl (by assumption)))

theorem acceptTrigger_only {s : State} {v1 v2} : Touch 37761969 s (@State.acceptTrigger s v1 v2) := by
  have h : Touch 37761969 s s := Touch.refl
  unfold State.acceptTrigger
  extract_lets +onlyGivenNames x1
  clear_value x1
  extract_lets +onlyGivenNames x2
  have h2 : Touch 37761969 s x2 := by
    unfold x2
    exact inc64_only.step rfl (setn_only.step rfl (by assumption))
  clear_value x2
  extract_lets +onlyGivenNames x3
  clear_value x3
  extract_lets +onlyGivenNames x4
  clear_value x4
  extract_lets +onlyGivenNames x5
  clear_value x5
  extract_lets +onlyGivenNames x6
  clear_value x6
  extract_lets +onlyGivenNames x7
  have h7 : Touch 37761969 s x7 := by
    unfold x7
    split
    · exact dispose_only.step rfl (addItem_only.step rfl (by assumption))
    · extract_lets +onlyGivenNames x8
      clear_value x8
      extract_lets +onlyGivenNames x9
      have h9 : Touch 37761969 s x9 := by
        unfold x9
        exact takeHead_only.step rfl (by assumption)
      clear_value x9
      refine Touch.ite ?_ ?_
      · exact dispose_only.step rfl (addItem_only.step rfl (by assumption))
      · refine Touch.ite ?_ ?_
        · exact dispose_only.step rfl (addItem_only.step rfl (by assumption))
        · split
          · exact dispose_only.step rfl (addItem_only.step rfl (by assumption))
          · refine Touch.ite ?_ ?_
            · exact dispose_only.step rfl (addItem_only.step rfl (by assumption))
            · exact bindHead_only.step rfl (by assumption)
  clear_value x7
  exact mirror_only.step rfl (journal_only.step rfl (by assumption))

theorem acceptRecord_only {s : State} {v1 v2} : Touch 8497 s (@State.acceptRecord s v1 v2) := by
  have h : Touch 8497 s s := Touch.refl
  unfold State.acceptRecord
  extract_lets +onlyGivenNames x1
  have h1 : Touch 8497 s x1 := by
    unfold x1
    exact setQueue_only.step rfl (by assumption)
  clear_value x1
  extract_lets +onlyGivenNames x2
  have h2 : Touch 8497 s x2 := by
    unfold x2
    exact inc64_only.step rfl (setn_only.step rfl (by assumption))
  clear_value x2
  exact preResolve_only.step rfl (queueCheck_only.step rfl (by assumption))

theorem execVerdictTimeout_only {s : State} {v0 v1} : OutTouch 4657 s (@execVerdictTimeout v0 v1 s) := by
  have h : Touch 4657 s s := Touch.refl
  unfold execVerdictTimeout
  extract_lets +onlyGivenNames x1
  have h1 : Touch 4657 s x1 := by
    unfold x1
    exact atTime_only.step rfl (by assumption)
  clear_value x1
  split
  · refine OutTouch.ok ?_
    refine Touch.ite ?_ ?_
    · exact recordVerdict_only.step rfl (by assumption)
    · assumption
  · exact OutTouch.ok (by assumption)

theorem countRefusal_only {s : State} {v1 v2} : Touch 1 s (@State.countRefusal s v1 v2) := by
  have h : Touch 1 s s := Touch.refl
  unfold State.countRefusal
  extract_lets +onlyGivenNames x1
  clear_value x1
  refine Touch.ite ?_ ?_
  · assumption
  · exact setn_only.step rfl (inc32_only.step rfl (by assumption))

theorem execItemPut_only {s : State} {v0 v1 v2} : OutTouch 33562929 s (@execItemPut v0 v1 v2 s) := by
  have h : Touch 33562929 s s := Touch.refl
  unfold execItemPut
  extract_lets +onlyGivenNames x1
  have h1 : Touch 33562929 s x1 := by
    unfold x1
    exact atTime_only.step rfl (by assumption)
  clear_value x1
  extract_lets +onlyGivenNames x2
  have h2 : Touch 33562929 s x2.1 := by
    unfold x2
    exact take_only.step rfl (by assumption)
  clear_value x2
  refine OutTouch.ite ?_ ?_
  · exact OutTouch.ok (by assumption)
  · extract_lets +onlyGivenNames x3
    have h3 : Touch 33562929 s x3 := by
      unfold x3
      assumption
    clear_value x3
    extract_lets +onlyGivenNames x4
    clear_value x4
    extract_lets +onlyGivenNames x5
    clear_value x5
    extract_lets +onlyGivenNames x6
    clear_value x6
    split
    · extract_lets +onlyGivenNames x7
      have h7 : Touch 33562929 s x7 := by
        unfold x7
        exact acceptRecord_only.step rfl (by assumption)
      clear_value x7
      refine OutTouch.ok ?_
      refine Touch.ite ?_ ?_
      · exact answer_only.step rfl (by assumption)
      · exact mirror_only.step rfl (by assumption)
    · extract_lets +onlyGivenNames x8
      have h8 : Touch 33562929 s x8 := by
        unfold x8
        exact countRefusal_only.step rfl (by assumption)
      clear_value x8
      refine OutTouch.ok ?_
      refine Touch.ite ?_ ?_
      · exact send_only.step rfl (by assumption)
      · assumption

theorem execSymbolEncoded_only {s : State} {v0 v1} : OutTouch 8193 s (@execSymbolEncoded v0 v1 s) := by
  have h : Touch 8193 s s := Touch.refl
  unfold execSymbolEncoded
  extract_lets +onlyGivenNames x1
  have h1 : Touch 8193 s x1 := by
    unfold x1
    exact atTime_only.step rfl (by assumption)
  clear_value x1
  split
  · exact OutTouch.ok (by assumption)
  · extract_lets +onlyGivenNames x2
    clear_value x2
    extract_lets +onlyGivenNames x3
    extract_lets +onlyGivenNames x4
    have h4 : Touch 8193 s x4 := by
      unfold x4
      refine Touch.trans (b := x1) ?_ { objects := .inl rfl, compositor := .inl rfl }
      assumption
    clear_value x4
    extract_lets +onlyGivenNames x5
    have h5 : Touch 8193 s x5 := by
      unfold x5
      exact setn_only.step rfl (inc64_only.step rfl (by assumption))
    clear_value x5
    exact OutTouch.ok (startEngine_only.step rfl (by assumption))

theorem advanceTo_only {s : State} {v1} : Touch 128 s (@State.advanceTo s v1) := by
  have h : Touch 128 s s := Touch.refl
  unfold State.advanceTo
  extract_lets +onlyGivenNames x1
  extract_lets +onlyGivenNames x2
  clear_value x2
  extract_lets +onlyGivenNames x3
  clear_value x3
  exact setWeb_only.step rfl (by assumption)

theorem execEdgeOverdue_only {s : State} {v0} : OutTouch 4785 s (@execEdgeOverdue v0 s) := by
  have h : Touch 4785 s s := Touch.refl
  unfold execEdgeOverdue
  extract_lets +onlyGivenNames x1
  have h1 : Touch 4785 s x1 := by
    unfold x1
    exact moveX_only.step rfl (atTime_only.step rfl (by assumption))
  clear_value x1
  refine OutTouch.ite ?_ ?_
  · exact OutTouch.ok (by assumption)
  · refine OutTouch.ite ?_ ?_
    · refine OutTouch.ok ?_
      refine Touch.ite ?_ ?_
      · exact loseTrack_only.step rfl (by assumption)
      · exact coast_only.step rfl (by assumption)
    · exact OutTouch.ok (standstill_only.step rfl (by assumption))

theorem closePassed_only {s : State} : Touch 4657 s (@State.closePassed s) := by
  have h : Touch 4657 s s := Touch.refl
  unfold State.closePassed
  extract_lets +onlyGivenNames x1
  have h1 : Touch 4657 s x1 := by
    unfold x1
    refine Touch.foldl ?_ (fun y2 z2 h2 => ?_)
    · assumption
    · exact endWindow_only.step rfl (by assumption)
  clear_value x1
  refine Touch.foldl ?_ (fun y3 z3 h3 => ?_)
  · assumption
  · exact drain_only.step rfl (by assumption)

theorem passBeam_only {s : State} {v1 v2} : Touch 4657 s (@State.passBeam s v1 v2) := by
  have h : Touch 4657 s s := Touch.refl
  unfold State.passBeam
  exact closePassed_only.step rfl (setItems_only.step rfl (by assumption))

theorem beamIdle_only {s : State} {v1 v2} : Touch 4785 s (@State.beamIdle s v1 v2) := by
  have h : Touch 4785 s s := Touch.refl
  unfold State.beamIdle
  extract_lets +onlyGivenNames x1
  clear_value x1
  extract_lets +onlyGivenNames x2
  clear_value x2
  extract_lets +onlyGivenNames x3
  clear_value x3
  refine Touch.ite ?_ ?_
  · assumption
  · extract_lets +onlyGivenNames x4
    clear_value x4
    extract_lets +onlyGivenNames x5
    clear_value x5
    extract_lets +onlyGivenNames x6
    have h6 : Touch 4785 s x6 := by
      unfold x6
      exact setGrid_only.step rfl (by assumption)
    clear_value x6
    extract_lets +onlyGivenNames x7
    have h7 : Touch 4785 s x7 := by
      unfold x7
      refine Touch.ite ?_ ?_
      · refine Touch.foldl ?_ (fun y8 z8 h8 => ?_)
        · assumption
        · refine Touch.ite ?_ ?_
          · exact dispose_only.step rfl (by assumption)
          · exact dispose_only.step rfl (by assumption)
      · assumption
    clear_value x7
    exact passBeam_only.step rfl (by assumption)

theorem setTrueCount_only {s : State} {v1} : Touch 128 s (@State.setTrueCount s v1) := by
  have h : Touch 128 s s := Touch.refl
  unfold State.setTrueCount
  extract_lets +onlyGivenNames x1
  clear_value x1
  extract_lets +onlyGivenNames x2
  clear_value x2
  extract_lets +onlyGivenNames x3
  have h3 : Touch 128 s x3 := by
    unfold x3
    exact setEnc_only.step rfl (by assumption)
  clear_value x3
  exact setWeb_only.step rfl (by assumption)

theorem skipLines_only {s : State} {v1} : Touch 176276155 s (@State.skipLines s v1) := by
  have h : Touch 176276155 s s := Touch.refl
  unfold State.skipLines
  extract_lets +onlyGivenNames x1
  clear_value x1
  extract_lets +onlyGivenNames x2
  clear_value x2
  refine Touch.ite ?_ ?_
  · assumption
  · extract_lets +onlyGivenNames x3
    have h3 : Touch 176276155 s x3 := by
      unfold x3
      exact setGrid_only.step rfl (by assumption)
    clear_value x3
    extract_lets +onlyGivenNames x4
    have h4 : Touch 176276155 s x4 := by
      unfold x4
      exact setItems_only.step rfl (by assumption)
    clear_value x4
    refine Touch.ite ?_ ?_
    · extract_lets +onlyGivenNames x5
      have h5 : Touch 176276155 s x5 := by
        unfold x5
        exact bump_only.step rfl (seti_only.step rfl (by assumption))
      clear_value x5
      exact fetch_only.step rfl (by assumption)
    · assumption

theorem breakItems_only {s : State} : Touch 4657 s (@State.breakItems s) := by
  have h : Touch 4657 s s := Touch.refl
  unfold State.breakItems
  extract_lets +onlyGivenNames x1
  have h1 : Touch 4657 s x1 := by
    unfold x1
    exact setItems_only.step rfl (by assumption)
  clear_value x1
  extract_lets +onlyGivenNames x2
  have h2 : Touch 4657 s x2 := by
    unfold x2
    exact disposeAll_only.step rfl (by assumption)
  clear_value x2
  exact setItems_only.step rfl (by assumption)

theorem regBreak_only {s : State} {v1 v2} : Touch 176280251 s (@State.regBreak s v1 v2) := by
  have h : Touch 176280251 s s := Touch.refl
  unfold State.regBreak
  extract_lets +onlyGivenNames x1
  have h1 : Touch 176280251 s x1 := by
    unfold x1
    exact setTrueCount_only.step rfl (by assumption)
  clear_value x1
  extract_lets +onlyGivenNames x2
  have h2 : Touch 176280251 s x2 := by
    unfold x2
    exact jumpX_only.step rfl (by assumption)
  clear_value x2
  extract_lets +onlyGivenNames x3
  extract_lets +onlyGivenNames x4
  have h4 : Touch 176280251 s x4 := by
    unfold x4
    exact setWeb_only.step rfl (by assumption)
  clear_value x4
  extract_lets +onlyGivenNames x5
  extract_lets +onlyGivenNames x6
  have h6 : Touch 176280251 s x6 := by
    unfold x6
    exact setWeb_only.step rfl (by assumption)
  clear_value x6
  extract_lets +onlyGivenNames x7
  extract_lets +onlyGivenNames x8
  have h8 : Touch 176280251 s x8 := by
    unfold x8
    refine Touch.ite ?_ ?_
    · refine Touch.foldl ?_ (fun y9 z9 h9 => ?_)
      · assumption
      · exact skipLines_only.step rfl (by assumption)
    · exact setWeb_only.step rfl (by assumption)
  clear_value x8
  exact closePassed_only.step rfl (breakItems_only.step rfl (inc32_only.step rfl (by assumption)))

theorem keepBand_only {s : State} {v1} : Touch 128 s (@State.keepBand s v1) := by
  have h : Touch 128 s s := Touch.refl
  unfold State.keepBand
  refine Touch.ite ?_ ?_
  · exact setWeb_only.step rfl (by assumption)
  · assumption

theorem polygonItem_only {s : State} {v1} : Touch 4657 s (@State.polygonItem s v1) := by
  have h : Touch 4657 s s := Touch.refl
  unfold State.polygonItem
  refine Touch.ite ?_ ?_
  · exact dispose_only.step rfl (by assumption)
  · assumption

theorem abandonBars_only {s : State} {v1} : Touch 65585 s (@State.abandonBars s v1) := by
  have h : Touch 65585 s s := Touch.refl
  unfold State.abandonBars
  extract_lets +onlyGivenNames x1
  clear_value x1
  extract_lets +onlyGivenNames x2
  extract_lets +onlyGivenNames x3
  have h3 : Touch 65585 s x3 := by
    unfold x3
    refine Touch.trans (b := s) ?_ { objects := .inl rfl, sessions := .inl rfl, network := .inl rfl, inspection := .inl rfl }
    assumption
  clear_value x3
  refine Touch.foldl ?_ (fun y4 z4 h4 => ?_)
  · assumption
  · exact event_only.step rfl (inc32_only.step rfl (by assumption))

theorem bindTrigger_only {s : State} {v1 v2} : Touch 37827505 s (@State.bindTrigger s v1 v2) := by
  have h : Touch 37827505 s s := Touch.refl
  unfold State.bindTrigger
  extract_lets +onlyGivenNames x1
  clear_value x1
  extract_lets +onlyGivenNames x2
  have h2 : Touch 37827505 s x2 := by
    unfold x2
    exact acceptTrigger_only.step rfl (by assumption)
  clear_value x2
  split
  · exact polygonItem_only.step rfl (abandonBars_only.step rfl (by assumption))
  · assumption

theorem withVelocity_only {s : State} : Touch 128 s (@State.withVelocity s) := by
  have h : Touch 128 s s := Touch.refl
  unfold State.withVelocity
  extract_lets +onlyGivenNames x1
  split
  · refine Touch.ite ?_ ?_
    · assumption
    · exact setWeb_only.step rfl (by assumption)
  · assumption

theorem pulseCam_only {s : State} {v1} : Touch 129 s (@State.pulseCam s v1).1 := by
  have h : Touch 129 s s := Touch.refl
  unfold State.pulseCam
  extract_lets +onlyGivenNames x1
  clear_value x1
  split
  · dsimp only
    exact inc32_only.step rfl (by assumption)
  · dsimp only
    exact inc64_only.step rfl (setWeb_only.step rfl (by assumption))

theorem idleUnits_only {s : State} : Touch 4785 s (@State.idleUnits s) := by
  have h : Touch 4785 s s := Touch.refl
  unfold State.idleUnits
  exact beamIdle_only.step rfl (beamIdle_only.step rfl (by assumption))

theorem jumpEvent_only {s : State} {v1 v2} : Touch 48 s (@State.jumpEvent s v1 v2) := by
  have h : Touch 48 s s := Touch.refl
  unfold State.jumpEvent
  exact webEvent_only.step rfl (by assumption)

theorem returned_only {s : State} : Touch 176280251 s (@State.returned s) := by
  have h : Touch 176280251 s s := Touch.refl
  unfold State.returned
  extract_lets +onlyGivenNames x1
  clear_value x1
  extract_lets +onlyGivenNames x2
  clear_value x2
  extract_lets +onlyGivenNames x3
  clear_value x3
  extract_lets +onlyGivenNames x4
  clear_value x4
  extract_lets +onlyGivenNames x5
  clear_value x5
  extract_lets +onlyGivenNames x6
  have h6 : Touch 176280251 s x6 := by
    unfold x6
    exact setn_only.step rfl (seti_only.step rfl (by assumption))
  clear_value x6
  extract_lets +onlyGivenNames x7
  clear_value x7
  extract_lets +onlyGivenNames x8
  extract_lets +onlyGivenNames x9
  have h9 : Touch 176280251 s x9 := by
    unfold x9
    exact setWeb_only.step rfl (by assumption)
  clear_value x9
  refine Touch.ite ?_ ?_
  · extract_lets +onlyGivenNames x10
    have h10 : Touch 176280251 s x10 := by
      unfold x10
      exact regBreak_only.step rfl (by assumption)
    clear_value x10
    extract_lets +onlyGivenNames x11
    extract_lets +onlyGivenNames x12
    have h12 : Touch 176280251 s x12 := by
      unfold x12
      refine Touch.ite ?_ ?_
      · exact withVelocity_only.step rfl (setWeb_only.step rfl (by assumption))
      · assumption
    clear_value x12
    exact jumpEvent_only.step rfl (enter_only.step rfl (by assumption))
  · extract_lets +onlyGivenNames x13
    have h13 : Touch 176280251 s x13 := by
      unfold x13
      exact setTrueCount_only.step rfl (by assumption)
    clear_value x13
    extract_lets +onlyGivenNames x14
    extract_lets +onlyGivenNames x15
    have h15 : Touch 176280251 s x15 := by
      unfold x15
      exact setWeb_only.step rfl (by assumption)
    clear_value x15
    extract_lets +onlyGivenNames x16
    have h16 : Touch 176280251 s x16 := by
      unfold x16
      exact withVelocity_only.step rfl (follow_only.step rfl (by assumption))
    clear_value x16
    extract_lets +onlyGivenNames x17
    have h17 : Touch 176280251 s x17 := by
      unfold x17
      exact setItems_only.step rfl (by assumption)
    clear_value x17
    exact jumpEvent_only.step rfl (enter_only.step rfl (by assumption))

theorem returnEdge_only {s : State} : Touch 176280251 s (@State.returnEdge s) := by
  have h : Touch 176280251 s s := Touch.refl
  unfold State.returnEdge
  extract_lets +onlyGivenNames x1
  clear_value x1
  extract_lets +onlyGivenNames x2
  extract_lets +onlyGivenNames x3
  have h3 : Touch 176280251 s x3 := by
    unfold x3
    exact setWeb_only.step rfl (by assumption)
  clear_value x3
  refine Touch.ite ?_ ?_
  · exact returned_only.step rfl (by assumption)
  · assumption

theorem rebase_only {s : State} : Touch 177 s (@State.rebase s) := by
  have h : Touch 177 s s := Touch.refl
  unfold State.rebase
  extract_lets +onlyGivenNames x1
  extract_lets +onlyGivenNames x2
  clear_value x2
  extract_lets +onlyGivenNames x3
  clear_value x3
  extract_lets +onlyGivenNames x4
  clear_value x4
  extract_lets +onlyGivenNames x5
  have h5 : Touch 177 s x5 := by
    unfold x5
    exact setWeb_only.step rfl (by assumption)
  clear_value x5
  exact webEvent_only.step rfl (enter_only.step rfl (withVelocity_only.step rfl (by assumption)))

theorem reacqEdge_only {s : State} : Touch 177 s (@State.reacqEdge s) := by
  have h : Touch 177 s s := Touch.refl
  unfold State.reacqEdge
  extract_lets +onlyGivenNames x1
  clear_value x1
  extract_lets +onlyGivenNames x2
  extract_lets +onlyGivenNames x3
  have h3 : Touch 177 s x3 := by
    unfold x3
    exact setWeb_only.step rfl (by assumption)
  clear_value x3
  extract_lets +onlyGivenNames x4
  have h4 : Touch 177 s x4 := by
    unfold x4
    refine Touch.ite ?_ ?_
    · exact enter_only.step rfl (by assumption)
    · assumption
  clear_value x4
  refine Touch.ite ?_ ?_
  · exact rebase_only.step rfl (by assumption)
  · assumption

theorem newGround_only {s : State} {v1} : Touch 128 s (@State.newGround s v1) := by
  have h : Touch 128 s s := Touch.refl
  unfold State.newGround
  extract_lets +onlyGivenNames x1
  extract_lets +onlyGivenNames x2
  clear_value x2
  extract_lets +onlyGivenNames x3
  clear_value x3
  extract_lets +onlyGivenNames x4
  have h4 : Touch 128 s x4 := by
    unfold x4
    exact setWeb_only.step rfl (by assumption)
  clear_value x4
  exact advanceTo_only.step rfl (withVelocity_only.step rfl (by assumption))

theorem backstep_only {s : State} : Touch 177 s (@State.backstep s) := by
  have h : Touch 177 s s := Touch.refl
  unfold State.backstep
  exact inc32_only.step rfl (enter_only.step rfl (by assumption))

theorem countEdge_only {s : State} {v1} : Touch 4785 s (@State.countEdge s v1) := by
  have h : Touch 4785 s s := Touch.refl
  unfold State.countEdge
  extract_lets +onlyGivenNames x1
  refine Touch.ite ?_ ?_
  · extract_lets +onlyGivenNames x2
    clear_value x2
    extract_lets +onlyGivenNames x3
    have h3 : Touch 4785 s x3 := by
      unfold x3
      exact newGround_only.step rfl (by assumption)
    clear_value x3
    refine Touch.ite ?_ ?_
    · exact webEvent_only.step rfl (enter_only.step rfl (by assumption))
    · refine Touch.ite ?_ ?_
      · exact advise_only.step rfl (by assumption)
      · exact enter_only.step rfl (by assumption)
  · extract_lets +onlyGivenNames x4
    clear_value x4
    refine Touch.ite ?_ ?_
    · refine Touch.ite ?_ ?_
      · assumption
      · exact reverse_only.step rfl (by assumption)
    · refine Touch.ite ?_ ?_
      · refine Touch.ite ?_ ?_
        · exact backstep_only.step rfl (by assumption)
        · assumption
      · assumption

theorem webEdge_only {s : State} {v1} : Touch 176280251 s (@State.webEdge s v1) := by
  have h : Touch 176280251 s s := Touch.refl
  unfold State.webEdge
  extract_lets +onlyGivenNames x1
  clear_value x1
  refine Touch.ite ?_ ?_
  · assumption
  · refine Touch.ite ?_ ?_
    · refine Touch.ite ?_ ?_
      · exact returnEdge_only.step rfl (by assumption)
      · exact setWeb_only.step rfl (by assumption)
    · refine Touch.ite ?_ ?_
      · refine Touch.ite ?_ ?_
        · exact reacqEdge_only.step rfl (by assumption)
        · exact setWeb_only.step rfl (by assumption)
      · exact countEdge_only.step rfl (by assumption)

theorem runEncoderEdge_only {s : State} {v0 v1 v2 v3} : OutTouch 176280251 s (@runEncoderEdge v0 v1 v2 v3 s) := by
  have h : Touch 176280251 s s := Touch.refl
  unfold runEncoderEdge
  extract_lets +onlyGivenNames x1
  have h1 : Touch 176280251 s x1 := by
    unfold x1
    exact atTime_only.step rfl (by assumption)
  clear_value x1
  extract_lets +onlyGivenNames x2
  clear_value x2
  extract_lets +onlyGivenNames x3
  clear_value x3
  extract_lets +onlyGivenNames x4
  clear_value x4
  extract_lets +onlyGivenNames x5
  clear_value x5
  extract_lets +onlyGivenNames x6
  clear_value x6
  extract_lets +onlyGivenNames x7
  clear_value x7
  refine OutTouch.ite ?_ ?_
  · exact OutTouch.ok (setEnc_only.step rfl (by assumption))
  · refine OutTouch.ite ?_ ?_
    · extract_lets +onlyGivenNames x8
      have h8 : Touch 176280251 s x8 := by
        unfold x8
        exact inc32_only.step rfl (setEnc_only.step rfl (by assumption))
      clear_value x8
      extract_lets +onlyGivenNames x9
      have h9 : Touch 176280251 s x9 := by
        unfold x9
        exact setn_only.step rfl (by assumption)
      clear_value x9
      refine OutTouch.ok ?_
      refine Touch.ite ?_ ?_
      · exact trackFault_only.step rfl (moveX_only.step rfl (by assumption))
      · assumption
    · extract_lets +onlyGivenNames x10
      clear_value x10
      extract_lets +onlyGivenNames x11
      clear_value x11
      extract_lets +onlyGivenNames x12
      clear_value x12
      extract_lets +onlyGivenNames x13
      have h13 : Touch 176280251 s x13 := by
        unfold x13
        refine Touch.ite ?_ ?_
        · exact moveX_only.step rfl (by assumption)
        · assumption
      clear_value x13
      extract_lets +onlyGivenNames x14
      clear_value x14
      extract_lets +onlyGivenNames x15
      have h15 : Touch 176280251 s x15 := by
        unfold x15
        refine Touch.ite ?_ ?_
        · exact keepBand_only.step rfl (by assumption)
        · assumption
      clear_value x15
      extract_lets +onlyGivenNames x16
      have h16 : Touch 176280251 s x16 := by
        unfold x16
        exact setEnc_only.step rfl (by assumption)
      clear_value x16
      refine OutTouch.ite ?_ ?_
      · extract_lets +onlyGivenNames x17
        extract_lets +onlyGivenNames x18
        have h18 : Touch 176280251 s x18 := by
          unfold x18
          exact setWeb_only.step rfl (by assumption)
        clear_value x18
        exact OutTouch.ok (idleUnits_only.step rfl (webEdge_only.step rfl (by assumption)))
      · exact OutTouch.ok (by assumption)

theorem shadowStamp_only {s : State} {v1 v2} : Touch 33554433 s (@State.shadowStamp s v1 v2) := by
  have h : Touch 33554433 s s := Touch.refl
  unfold State.shadowStamp
  extract_lets +onlyGivenNames x1
  clear_value x1
  split
  · extract_lets +onlyGivenNames x2
    extract_lets +onlyGivenNames x3
    have h3 : Touch 33554433 s x3 := by
      unfold x3
      refine Touch.trans (b := s) ?_ { objects := .inl rfl, pair := .inl rfl }
      assumption
    clear_value x3
    refine Touch.ite ?_ ?_
    · exact testBit_only.step rfl (by assumption)
    · exact failBit_only.step rfl (inc32_only.step rfl (by assumption))
  · refine Touch.trans (b := s) ?_ { objects := .inl rfl, pair := .inl rfl }
    assumption

theorem laneTrigger_only {s : State} {v1 v2} : Touch 37827505 s (@State.laneTrigger s v1 v2) := by
  have h : Touch 37827505 s s := Touch.refl
  unfold State.laneTrigger
  extract_lets +onlyGivenNames x1
  have h1 : Touch 37827505 s x1 := by
    unfold x1
    exact inc64_only.step rfl (by assumption)
  clear_value x1
  extract_lets +onlyGivenNames x2
  clear_value x2
  refine Touch.ite ?_ ?_
  · exact inc32_only.step rfl (by assumption)
  · refine Touch.ite ?_ ?_
    · exact inc32_only.step rfl (by assumption)
    · extract_lets +onlyGivenNames x3
      extract_lets +onlyGivenNames x4
      have h4 : Touch 37827505 s x4 := by
        unfold x4
        exact setWeb_only.step rfl (by assumption)
      clear_value x4
      extract_lets +onlyGivenNames x5
      have h5 : Touch 37827505 s x5 := by
        unfold x5
        exact setn_only.step rfl (seti_only.step rfl (by assumption))
      clear_value x5
      refine Touch.ite ?_ ?_
      · exact bindTrigger_only.step rfl (by assumption)
      · refine Touch.ite ?_ ?_
        · exact shadowStamp_only.step rfl (by assumption)
        · assumption

theorem pairMark_only {s : State} {v1 v2 v3} : Touch 641 s (@State.pairMark s v1 v2 v3) := by
  have h : Touch 641 s s := Touch.refl
  unfold State.pairMark
  extract_lets +onlyGivenNames x1
  clear_value x1
  extract_lets +onlyGivenNames x2
  clear_value x2
  extract_lets +onlyGivenNames x3
  clear_value x3
  extract_lets +onlyGivenNames x4
  clear_value x4
  extract_lets +onlyGivenNames x5
  have h5 : Touch 641 s x5 := by
    unfold x5
    exact modItem_only.step rfl (by assumption)
  clear_value x5
  extract_lets +onlyGivenNames x6
  extract_lets +onlyGivenNames x7
  have h7 : Touch 641 s x7 := by
    unfold x7
    exact setWeb_only.step rfl (by assumption)
  clear_value x7
  exact seti_only.step rfl (seti_only.step rfl (by assumption))

theorem correctMark_only {s : State} {v1 v2} : Touch 641 s (@State.correctMark s v1 v2) := by
  have h : Touch 641 s s := Touch.refl
  unfold State.correctMark
  extract_lets +onlyGivenNames x1
  clear_value x1
  split
  · exact pairMark_only.step rfl (by assumption)
  · exact inc32_only.step rfl (by assumption)

theorem execLubberMark_only {s : State} {v0 v1 v2} : OutTouch 37827505 s (@execLubberMark v0 v1 v2 s) := by
  have h : Touch 37827505 s s := Touch.refl
  unfold execLubberMark
  extract_lets +onlyGivenNames x1
  have h1 : Touch 37827505 s x1 := by
    unfold x1
    exact moveX_only.step rfl (atTime_only.step rfl (by assumption))
  clear_value x1
  refine OutTouch.ite ?_ ?_
  · exact OutTouch.ok (by assumption)
  · extract_lets +onlyGivenNames x2
    clear_value x2
    refine OutTouch.ite ?_ ?_
    · refine OutTouch.ok ?_
      refine Touch.foldl ?_ (fun y3 z3 h3 => ?_)
      · assumption
      · refine Touch.ite ?_ ?_
        · exact laneTrigger_only.step rfl (by assumption)
        · assumption
    · exact OutTouch.ok (correctMark_only.step rfl (by assumption))

theorem execEncoderLineFaultClear_only {s : State} {v0 v1 v2} : OutTouch 1 s (@execEncoderLineFaultClear v0 v1 v2 s) := by
  have h : Touch 1 s s := Touch.refl
  unfold execEncoderLineFaultClear
  extract_lets +onlyGivenNames x1
  have h1 : Touch 1 s x1 := by
    unfold x1
    exact atTime_only.step rfl (by assumption)
  clear_value x1
  exact OutTouch.ok (setn_only.step rfl (by assumption))

theorem zMismatch_only {s : State} {v1} : Touch 176280251 s (@State.zMismatch s v1) := by
  have h : Touch 176280251 s s := Touch.refl
  unfold State.zMismatch
  extract_lets +onlyGivenNames x1
  clear_value x1
  extract_lets +onlyGivenNames x2
  have h2 : Touch 176280251 s x2 := by
    unfold x2
    exact seti_only.step rfl (by assumption)
  clear_value x2
  refine Touch.ite ?_ ?_
  · extract_lets +onlyGivenNames x3
    clear_value x3
    extract_lets +onlyGivenNames x4
    clear_value x4
    extract_lets +onlyGivenNames x5
    have h5 : Touch 176280251 s x5 := by
      unfold x5
      exact setTrueCount_only.step rfl (by assumption)
    clear_value x5
    extract_lets +onlyGivenNames x6
    extract_lets +onlyGivenNames x7
    have h7 : Touch 176280251 s x7 := by
      unfold x7
      exact setWeb_only.step rfl (by assumption)
    clear_value x7
    exact jumpEvent_only.step rfl (follow_only.step rfl (by assumption))
  · exact jumpEvent_only.step rfl (jumpEvent_only.step rfl (enter_only.step rfl (regBreak_only.step rfl
      (by assumption))))

theorem runZEdge_only {s : State} {v0 v1 v2} : OutTouch 176280251 s (@runZEdge v0 v1 v2 s) := by
  have h : Touch 176280251 s s := Touch.refl
  unfold runZEdge
  extract_lets +onlyGivenNames x1
  have h1 : Touch 176280251 s x1 := by
    unfold x1
    exact atTime_only.step rfl (by assumption)
  clear_value x1
  extract_lets +onlyGivenNames x2
  clear_value x2
  extract_lets +onlyGivenNames x3
  have h3 : Touch 176280251 s x3 := by
    unfold x3
    exact setEnc_only.step rfl (by assumption)
  clear_value x3
  extract_lets +onlyGivenNames x4
  clear_value x4
  refine OutTouch.ite ?_ ?_
  · exact OutTouch.ok (by assumption)
  · extract_lets +onlyGivenNames x5
    have h5 : Touch 176280251 s x5 := by
      unfold x5
      exact moveX_only.step rfl (by assumption)
    clear_value x5
    extract_lets +onlyGivenNames x6
    clear_value x6
    split
    · exact OutTouch.ok (setWeb_only.step rfl (by assumption))
    · extract_lets +onlyGivenNames x7
      clear_value x7
      refine OutTouch.ite ?_ ?_
      · exact OutTouch.ok (by assumption)
      · exact OutTouch.ok (zMismatch_only.step rfl (by assumption))

theorem execDataLateReasonExpiry_only {s : State} {v0} : OutTouch 177 s (@execDataLateReasonExpiry v0 s) := by
  have h : Touch 177 s s := Touch.refl
  unfold execDataLateReasonExpiry
  exact OutTouch.ok (setReason_only.step rfl (moveX_only.step rfl (atTime_only.step rfl (by assumption))))

theorem execEncoderLineFault_only {s : State} {v0 v1 v2} : OutTouch 4785 s (@execEncoderLineFault v0 v1 v2 s) := by
  have h : Touch 4785 s s := Touch.refl
  unfold execEncoderLineFault
  extract_lets +onlyGivenNames x1
  have h1 : Touch 4785 s x1 := by
    unfold x1
    exact atTime_only.step rfl (by assumption)
  clear_value x1
  extract_lets +onlyGivenNames x2
  clear_value x2
  extract_lets +onlyGivenNames x3
  have h3 : Touch 4785 s x3 := by
    unfold x3
    exact setn_only.step rfl (by assumption)
  clear_value x3
  refine OutTouch.ite ?_ ?_
  · exact OutTouch.ok (trackFault_only.step rfl (moveX_only.step rfl (by assumption)))
  · exact OutTouch.ok (by assumption)

theorem execCamPulseEnd_only {s : State} {v0 v1} : OutTouch 128 s (@execCamPulseEnd v0 v1 s) := by
  have h : Touch 128 s s := Touch.refl
  unfold execCamPulseEnd
  extract_lets +onlyGivenNames x1
  have h1 : Touch 128 s x1 := by
    unfold x1
    exact atTime_only.step rfl (by assumption)
  clear_value x1
  extract_lets +onlyGivenNames x2
  clear_value x2
  exact OutTouch.ok (setWeb_only.step rfl (by assumption))

theorem execCoastLimitExceeded_only {s : State} {v0} : OutTouch 4785 s (@execCoastLimitExceeded v0 s) := by
  have h : Touch 4785 s s := Touch.refl
  unfold execCoastLimitExceeded
  extract_lets +onlyGivenNames x1
  have h1 : Touch 4785 s x1 := by
    unfold x1
    exact moveX_only.step rfl (atTime_only.step rfl (by assumption))
  clear_value x1
  refine OutTouch.ite ?_ ?_
  · exact OutTouch.ok (loseTrack_only.step rfl (setn_only.step rfl (by assumption)))
  · exact OutTouch.ok (by assumption)

theorem execTriggerEdge_only {s : State} {v0 v1 v2} : OutTouch 37827505 s (@execTriggerEdge v0 v1 v2 s) := by
  have h : Touch 37827505 s s := Touch.refl
  unfold execTriggerEdge
  extract_lets +onlyGivenNames x1
  have h1 : Touch 37827505 s x1 := by
    unfold x1
    exact moveX_only.step rfl (atTime_only.step rfl (by assumption))
  clear_value x1
  extract_lets +onlyGivenNames x2
  clear_value x2
  refine OutTouch.ite ?_ ?_
  · exact OutTouch.ok (by assumption)
  · exact OutTouch.ok (laneTrigger_only.step rfl (by assumption))

theorem execMarkMissing_only {s : State} {v0 v1 v2} : OutTouch 689 s (@execMarkMissing v0 v1 v2 s) := by
  have h : Touch 689 s s := Touch.refl
  unfold execMarkMissing
  extract_lets +onlyGivenNames x1
  have h1 : Touch 689 s x1 := by
    unfold x1
    exact moveX_only.step rfl (atTime_only.step rfl (by assumption))
  clear_value x1
  split
  · exact OutTouch.ok (by assumption)
  · refine OutTouch.ite ?_ ?_
    · exact OutTouch.ok (by assumption)
    · extract_lets +onlyGivenNames x2
      clear_value x2
      extract_lets +onlyGivenNames x3
      have h3 : Touch 689 s x3 := by
        unfold x3
        exact modItem_only.step rfl (by assumption)
      clear_value x3
      extract_lets +onlyGivenNames x4
      extract_lets +onlyGivenNames x5
      have h5 : Touch 689 s x5 := by
        unfold x5
        exact inc32_only.step rfl (setWeb_only.step rfl (by assumption))
      clear_value x5
      refine OutTouch.ok ?_
      refine Touch.ite ?_ ?_
      · exact webEvent_only.step rfl (by assumption)
      · assumption

theorem execCameraTrigger_only {s : State} {v0 v1 v2} : OutTouch 202417 s (@execCameraTrigger v0 v1 v2 s) := by
  have h : Touch 202417 s s := Touch.refl
  unfold execCameraTrigger
  extract_lets +onlyGivenNames x1
  have h1 : Touch 202417 s x1 := by
    unfold x1
    exact moveX_only.step rfl (atTime_only.step rfl (by assumption))
  clear_value x1
  split
  · exact OutTouch.ok (by assumption)
  · refine OutTouch.ite ?_ ?_
    · exact OutTouch.ok (by assumption)
    · extract_lets +onlyGivenNames x2
      have h2 : Touch 202417 s x2 := by
        unfold x2
        exact modItem_only.step rfl (by assumption)
      clear_value x2
      extract_lets +onlyGivenNames x3
      have h3 : Touch 202417 s x3.1 := by
        unfold x3
        exact pulseCam_only.step rfl (by assumption)
      clear_value x3
      refine OutTouch.ite ?_ ?_
      · exact OutTouch.ok (queueFrame_only.step rfl (by assumption))
      · extract_lets +onlyGivenNames x4
        have h4 : Touch 202417 s x4 := by
          unfold x4
          exact modItem_only.step rfl (by assumption)
        clear_value x4
        exact OutTouch.ok (archLost_only.step rfl (camResult_only.step rfl (by assumption)))

theorem execBarCameraTrigger_only {s : State} {v0 v1 v2} : OutTouch 202417 s (@execBarCameraTrigger v0 v1 v2 s) := by
  have h : Touch 202417 s s := Touch.refl
  unfold execBarCameraTrigger
  extract_lets +onlyGivenNames x1
  have h1 : Touch 202417 s x1 := by
    unfold x1
    exact moveX_only.step rfl (atTime_only.step rfl (by assumption))
  clear_value x1
  split
  · exact OutTouch.ok (by assumption)
  · refine OutTouch.ite ?_ ?_
    · exact OutTouch.ok (by assumption)
    · extract_lets +onlyGivenNames x2
      extract_lets +onlyGivenNames x3
      have h3 : Touch 202417 s x3 := by
        unfold x3
        refine Touch.trans (b := x1) ?_ { objects := .inl rfl, sessions := .inl rfl, network := .inl rfl, web := .inl rfl, items := .inl rfl, results := .inl rfl, journal := .inl rfl, inspection := .inl rfl, cameras := .inl rfl }
        assumption
      clear_value x3
      extract_lets +onlyGivenNames x4
      have h4 : Touch 202417 s x4.1 := by
        unfold x4
        exact pulseCam_only.step rfl (by assumption)
      clear_value x4
      refine OutTouch.ite ?_ ?_
      · exact OutTouch.ok (queueFrame_only.step rfl (by assumption))
      · exact OutTouch.ok (barUnseen_only.step rfl (by assumption))

theorem rejectPulse_only {s : State} {v1 v2 v3 v4} : Touch 2561 s (@State.rejectPulse s v1 v2 v3 v4) := by
  have h : Touch 2561 s s := Touch.refl
  unfold State.rejectPulse
  extract_lets +onlyGivenNames x1
  clear_value x1
  extract_lets +onlyGivenNames x2
  clear_value x2
  extract_lets +onlyGivenNames x3
  have h3 : Touch 2561 s x3 := by
    unfold x3
    exact inc64_only.step rfl (by assumption)
  clear_value x3
  extract_lets +onlyGivenNames x4
  have h4 : Touch 2561 s x4 := by
    unfold x4
    refine Touch.ite ?_ ?_
    · exact inc32_only.step rfl (by assumption)
    · assumption
  clear_value x4
  extract_lets +onlyGivenNames x5
  have h5 : Touch 2561 s x5 := by
    unfold x5
    exact modItem_only.step rfl (by assumption)
  clear_value x5
  extract_lets +onlyGivenNames x6
  clear_value x6
  extract_lets +onlyGivenNames x7
  extract_lets +onlyGivenNames x8
  have h8 : Touch 2561 s x8 := by
    unfold x8
    refine Touch.trans (b := x5) ?_ { objects := .inl rfl, items := .inl rfl, gates := .inl rfl }
    assumption
  clear_value x8
  refine Touch.ite ?_ ?_
  · exact inc64_only.step rfl (by assumption)
  · assumption

theorem execRejectDecision_only {s : State} {v0 v1 v2} : OutTouch 2689 s (@execRejectDecision v0 v1 v2 s) := by
  have h : Touch 2689 s s := Touch.refl
  unfold execRejectDecision
  extract_lets +onlyGivenNames x1
  have h1 : Touch 2689 s x1 := by
    unfold x1
    exact moveX_only.step rfl (atTime_only.step rfl (by assumption))
  clear_value x1
  split
  · exact OutTouch.ok (by assumption)
  · refine OutTouch.ite ?_ ?_
    · exact OutTouch.ok (by assumption)
    · extract_lets +onlyGivenNames x2
      have h2 : Touch 2689 s x2 := by
        unfold x2
        exact modItem_only.step rfl (by assumption)
      clear_value x2
      refine OutTouch.ok ?_
      refine Touch.ite ?_ ?_
      · exact rejectPulse_only.step rfl (by assumption)
      · assumption

theorem execRejPulseEnd_only {s : State} {v0 v1} : OutTouch 2048 s (@execRejPulseEnd v0 v1 s) := by
  have h : Touch 2048 s s := Touch.refl
  unfold execRejPulseEnd
  extract_lets +onlyGivenNames x1
  have h1 : Touch 2048 s x1 := by
    unfold x1
    exact atTime_only.step rfl (by assumption)
  clear_value x1
  extract_lets +onlyGivenNames x2
  clear_value x2
  refine OutTouch.ite ?_ ?_
  · exact OutTouch.ok (by assumption)
  · refine OutTouch.ok ?_
    refine Touch.trans (b := x1) ?_ { gates := .inl rfl }
    assumption

theorem execSpeedAdvHoldExpiry_only {s : State} {v0} : OutTouch 177 s (@execSpeedAdvHoldExpiry v0 s) := by
  have h : Touch 177 s s := Touch.refl
  unfold execSpeedAdvHoldExpiry
  extract_lets +onlyGivenNames x1
  have h1 : Touch 177 s x1 := by
    unfold x1
    exact advise_only.step rfl (moveX_only.step rfl (atTime_only.step rfl (by assumption)))
  clear_value x1
  refine OutTouch.ite ?_ ?_
  · exact OutTouch.ok (setWeb_only.step rfl (by assumption))
  · exact OutTouch.ok (by assumption)

theorem trySend_only {s : State} {v1} : Touch 131072 s (@State.trySend s v1) := by
  have h : Touch 131072 s s := Touch.refl
  unfold State.trySend
  extract_lets +onlyGivenNames x1
  clear_value x1
  split
  · assumption
  · refine Touch.ite ?_ ?_
    · assumption
    · extract_lets +onlyGivenNames x2
      clear_value x2
      refine Touch.ite ?_ ?_
      · exact setCam_only.step rfl (by assumption)
      · assumption

theorem refreshPipes_only {s : State} : Touch 1 s (@State.refreshPipes s) := by
  have h : Touch 1 s s := Touch.refl
  unfold State.refreshPipes
  extract_lets +onlyGivenNames x1
  have h1 : Touch 1 s x1 := by
    unfold x1
    exact setn_only.step rfl (setn_only.step rfl (by assumption))
  clear_value x1
  refine Touch.foldl ?_ (fun y2 z2 h2 => ?_)
  · assumption
  · exact setn_only.step rfl (by assumption)

theorem refreshPort_only {s : State} {v1} : Touch 131073 s (@State.refreshPort s v1) := by
  have h : Touch 131073 s s := Touch.refl
  unfold State.refreshPort
  extract_lets +onlyGivenNames x1
  clear_value x1
  extract_lets +onlyGivenNames x2
  clear_value x2
  extract_lets +onlyGivenNames x3
  clear_value x3
  extract_lets +onlyGivenNames x4
  clear_value x4
  extract_lets +onlyGivenNames x5
  have h5 : Touch 131073 s x5 := by
    unfold x5
    exact setn_only.step rfl (setn_only.step rfl (by assumption))
  clear_value x5
  extract_lets +onlyGivenNames x6
  clear_value x6
  extract_lets +onlyGivenNames x7
  have h7 : Touch 131073 s x7 := by
    unfold x7
    refine Touch.ite ?_ ?_
    · exact setn_only.step rfl (setCam_only.step rfl (by assumption))
    · assumption
  clear_value x7
  exact refreshPipes_only.step rfl (by assumption)

theorem loseAll_only {s : State} {v1} : Touch 202289 s (@State.loseAll s v1) := by
  have h : Touch 202289 s s := Touch.refl
  unfold State.loseAll
  extract_lets +onlyGivenNames x1
  clear_value x1
  extract_lets +onlyGivenNames x2
  clear_value x2
  extract_lets +onlyGivenNames x3
  have h3 : Touch 202289 s x3 := by
    unfold x3
    exact setCam_only.step rfl (by assumption)
  clear_value x3
  refine Touch.foldl ?_ (fun y4 z4 h4 => ?_)
  · assumption
  · exact loseTrigger_only.step rfl (by assumption)

theorem portWritten_only {s : State} {v1} : Touch 202289 s (@State.portWritten s v1) := by
  have h : Touch 202289 s s := Touch.refl
  unfold State.portWritten
  refine Touch.ite ?_ ?_
  · exact trySend_only.step rfl (refreshPort_only.step rfl (by assumption))
  · extract_lets +onlyGivenNames x1
    have h1 : Touch 202289 s x1 := by
      unfold x1
      exact loseAll_only.step rfl (by assumption)
    clear_value x1
    exact trySend_only.step rfl (refreshPort_only.step rfl (setCam_only.step rfl (by assumption)))

theorem csiHeader_only {s : State} {v1 v2 v3 v4} : Touch 1 s (@State.csiHeader s v1 v2 v3 v4).1 := by
  have h : Touch 1 s s := Touch.refl
  unfold State.csiHeader
  split
  · dsimp only
    assumption
  · split
    · dsimp only
      exact inc32_only.step rfl (by assumption)
    · extract_lets +onlyGivenNames x1
      have h1 : Touch 1 s x1 := by
        unfold x1
        refine Touch.ite ?_ ?_
        · exact inc32_only.step rfl (by assumption)
        · assumption
      clear_value x1
      split
      · dsimp only
        exact inc32_only.step rfl (by assumption)
      · dsimp only
        assumption

theorem streamStat_only {s : State} {v1 v2 v3 v4 v5 v6} : Touch 1 s (@State.streamStat s v1 v2 v3 v4 v5 v6) := by
  have h : Touch 1 s s := Touch.refl
  unfold State.streamStat
  refine Touch.ite ?_ ?_
  · assumption
  · extract_lets +onlyGivenNames x1
    clear_value x1
    extract_lets +onlyGivenNames x2
    clear_value x2
    extract_lets +onlyGivenNames x3
    clear_value x3
    extract_lets +onlyGivenNames x4
    clear_value x4
    extract_lets +onlyGivenNames x5
    clear_value x5
    exact setv_only.step rfl (by assumption)

theorem streamInsp_only {s : State} {v1 v2 v3 v4 v5} : Touch 202289 s (@State.streamInsp s v1 v2 v3 v4 v5) := by
  have h : Touch 202289 s s := Touch.refl
  unfold State.streamInsp
  extract_lets +onlyGivenNames x1
  clear_value x1
  extract_lets +onlyGivenNames x2
  clear_value x2
  extract_lets +onlyGivenNames x3
  clear_value x3
  extract_lets +onlyGivenNames x4
  clear_value x4
  refine Touch.ite ?_ ?_
  · assumption
  · refine Touch.ite ?_ ?_
    · refine Touch.ite ?_ ?_
      · exact camResult_only.step rfl (by assumption)
      · exact barUnseen_only.step rfl (by assumption)
    · extract_lets +onlyGivenNames x5
      clear_value x5
      extract_lets +onlyGivenNames x6
      clear_value x6
      extract_lets +onlyGivenNames x7
      clear_value x7
      extract_lets +onlyGivenNames x8
      clear_value x8
      extract_lets +onlyGivenNames x9
      clear_value x9
      extract_lets +onlyGivenNames x10
      clear_value x10
      extract_lets +onlyGivenNames x11
      clear_value x11
      extract_lets +onlyGivenNames x12
      clear_value x12
      exact setv_only.step rfl (inc64_only.step rfl (setCam_only.step rfl (by assumption)))

theorem execSensorWindowTimeout_only {s : State} {v0 v1} : OutTouch 131200 s (@execSensorWindowTimeout v0 v1 s) := by
  have h : Touch 131200 s s := Touch.refl
  unfold execSensorWindowTimeout
  extract_lets +onlyGivenNames x1
  have h1 : Touch 131200 s x1 := by
    unfold x1
    exact moveX_only.step rfl (atTime_only.step rfl (by assumption))
  clear_value x1
  split
  · exact OutTouch.ok (by assumption)
  · refine OutTouch.ite ?_ ?_
    · exact OutTouch.ok (by assumption)
    · exact OutTouch.ok (trySend_only.step rfl (setCam_only.step rfl (by assumption)))

theorem execCsiLongPacket_only {s : State} {v0 v1 v2 v3 v4 v5 v6 v7} : OutTouch 131073 s (@execCsiLongPacket v0 v1 v2 v3 v4 v5 v6 v7 s) := by
  have h : Touch 131073 s s := Touch.refl
  unfold execCsiLongPacket
  extract_lets +onlyGivenNames x1
  have h1 : Touch 131073 s x1 := by
    unfold x1
    exact atTime_only.step rfl (by assumption)
  clear_value x1
  extract_lets +onlyGivenNames x2
  have h2 : Touch 131073 s x2.1 := by
    unfold x2
    exact csiHeader_only.step rfl (by assumption)
  clear_value x2
  refine OutTouch.ite ?_ ?_
  · exact OutTouch.ok (by assumption)
  · extract_lets +onlyGivenNames x3
    have h3 : Touch 131073 s x3 := by
      unfold x3
      refine Touch.ite ?_ ?_
      · assumption
      · exact inc32_only.step rfl (by assumption)
    clear_value x3
    split
    · exact OutTouch.ok (by assumption)
    · extract_lets +onlyGivenNames x4
      clear_value x4
      exact OutTouch.ok (setCam_only.step rfl (by assumption))

theorem streamArch_only {s : State} {v1 v2 v3 v4 v5} : Touch 131073 s (@State.streamArch s v1 v2 v3 v4 v5) := by
  have h : Touch 131073 s s := Touch.refl
  unfold State.streamArch
  refine Touch.ite ?_ ?_
  · assumption
  · extract_lets +onlyGivenNames x1
    clear_value x1
    extract_lets +onlyGivenNames x2
    clear_value x2
    extract_lets +onlyGivenNames x3
    clear_value x3
    extract_lets +onlyGivenNames x4
    clear_value x4
    extract_lets +onlyGivenNames x5
    clear_value x5
    extract_lets +onlyGivenNames x6
    clear_value x6
    extract_lets +onlyGivenNames x7
    clear_value x7
    refine Touch.ite ?_ ?_
    · refine Touch.trans (b := s) ?_ { objects := .inl rfl, cameras := .inl rfl }
      assumption
    · extract_lets +onlyGivenNames x8
      have h8 : Touch 131073 s x8 := by
        unfold x8
        refine Touch.ite ?_ ?_
        · exact inc32_only.step rfl (by assumption)
        · assumption
      clear_value x8
      exact archPart_only.step rfl (by assumption)

theorem streamView_only {s : State} {v1 v2 v3 v4} : Touch 2097153 s (@State.streamView s v1 v2 v3 v4) := by
  have h : Touch 2097153 s s := Touch.refl
  unfold State.streamView
  refine Touch.ite ?_ ?_
  · assumption
  · extract_lets +onlyGivenNames x1
    clear_value x1
    extract_lets +onlyGivenNames x2
    clear_value x2
    extract_lets +onlyGivenNames x3
    clear_value x3
    extract_lets +onlyGivenNames x4
    clear_value x4
    extract_lets +onlyGivenNames x5
    clear_value x5
    extract_lets +onlyGivenNames x6
    clear_value x6
    extract_lets +onlyGivenNames x7
    clear_value x7
    extract_lets +onlyGivenNames x8
    clear_value x8
    extract_lets +onlyGivenNames x9
    clear_value x9
    extract_lets +onlyGivenNames x10
    clear_value x10
    exact inc64_only.step rfl (inc32_only.step rfl (store_only.step rfl (by assumption)))

theorem finishFrame_only {s : State} {v1 v2 v3} : Touch 2299441 s (@State.finishFrame s v1 v2 v3) := by
  have h : Touch 2299441 s s := Touch.refl
  unfold State.finishFrame
  extract_lets +onlyGivenNames x1
  clear_value x1
  extract_lets +onlyGivenNames x2
  clear_value x2
  extract_lets +onlyGivenNames x3
  clear_value x3
  extract_lets +onlyGivenNames x4
  clear_value x4
  extract_lets +onlyGivenNames x5
  clear_value x5
  extract_lets +onlyGivenNames x6
  clear_value x6
  extract_lets +onlyGivenNames x7
  clear_value x7
  extract_lets +onlyGivenNames x8
  clear_value x8
  extract_lets +onlyGivenNames x9
  clear_value x9
  extract_lets +onlyGivenNames x10
  clear_value x10
  extract_lets +onlyGivenNames x11
  clear_value x11
  extract_lets +onlyGivenNames x12
  clear_value x12
  extract_lets +onlyGivenNames x13
  clear_value x13
  extract_lets +onlyGivenNames x14
  clear_value x14
  extract_lets +onlyGivenNames x15
  clear_value x15
  extract_lets +onlyGivenNames x16
  clear_value x16
  extract_lets +onlyGivenNames x17
  have h17 : Touch 2299441 s x17 := by
    unfold x17
    exact setCam_only.step rfl (by assumption)
  clear_value x17
  extract_lets +onlyGivenNames x18
  clear_value x18
  extract_lets +onlyGivenNames x19
  clear_value x19
  extract_lets +onlyGivenNames x20
  have h20 : Touch 2299441 s x20 := by
    unfold x20
    exact streamInsp_only.step rfl (by assumption)
  clear_value x20
  extract_lets +onlyGivenNames x21
  have h21 : Touch 2299441 s x21 := by
    unfold x21
    exact streamView_only.step rfl (by assumption)
  clear_value x21
  extract_lets +onlyGivenNames x22
  have h22 : Touch 2299441 s x22 := by
    unfold x22
    exact streamArch_only.step rfl (by assumption)
  clear_value x22
  extract_lets +onlyGivenNames x23
  have h23 : Touch 2299441 s x23 := by
    unfold x23
    exact streamStat_only.step rfl (by assumption)
  clear_value x23
  refine Touch.ite ?_ ?_
  · exact inc32_only.step rfl (by assumption)
  · assumption

theorem execCamTriggerLost_only {s : State} {v0 v1} : OutTouch 202417 s (@execCamTriggerLost v0 v1 s) := by
  have h : Touch 202417 s s := Touch.refl
  unfold execCamTriggerLost
  extract_lets +onlyGivenNames x1
  have h1 : Touch 202417 s x1 := by
    unfold x1
    exact moveX_only.step rfl (atTime_only.step rfl (by assumption))
  clear_value x1
  split
  · exact OutTouch.ok (by assumption)
  · refine OutTouch.ite ?_ ?_
    · exact OutTouch.ok (by assumption)
    · exact OutTouch.ok (trySend_only.step rfl (loseTrigger_only.step rfl (setCam_only.step rfl
        (by assumption))))

theorem execCsiFrameStart_only {s : State} {v0 v1 v2 v3 v4} : OutTouch 2299569 s (@execCsiFrameStart v0 v1 v2 v3 v4 s) := by
  have h : Touch 2299569 s s := Touch.refl
  unfold execCsiFrameStart
  extract_lets +onlyGivenNames x1
  have h1 : Touch 2299569 s x1 := by
    unfold x1
    exact moveX_only.step rfl (atTime_only.step rfl (by assumption))
  clear_value x1
  extract_lets +onlyGivenNames x2
  have h2 : Touch 2299569 s x2.1 := by
    unfold x2
    exact csiHeader_only.step rfl (by assumption)
  clear_value x2
  refine OutTouch.ite ?_ ?_
  · exact OutTouch.ok (by assumption)
  · extract_lets +onlyGivenNames x3
    have h3 : Touch 2299569 s x3 := by
      unfold x3
      split
      · exact finishFrame_only.step rfl (by assumption)
      · assumption
    clear_value x3
    extract_lets +onlyGivenNames x4
    clear_value x4
    extract_lets +onlyGivenNames x5
    clear_value x5
    extract_lets +onlyGivenNames x6
    clear_value x6
    extract_lets +onlyGivenNames x7
    clear_value x7
    split
    · exact OutTouch.ok (inc32_only.step rfl (setCam_only.step rfl (by assumption)))
    · refine OutTouch.ite ?_ ?_
      · exact OutTouch.ok (inc32_only.step rfl (setCam_only.step rfl (by assumption)))
      · extract_lets +onlyGivenNames x8
        clear_value x8
        extract_lets +onlyGivenNames x9
        clear_value x9
        extract_lets +onlyGivenNames x10
        clear_value x10
        extract_lets +onlyGivenNames x11
        clear_value x11
        extract_lets +onlyGivenNames x12
        clear_value x12
        extract_lets +onlyGivenNames x13
        clear_value x13
        extract_lets +onlyGivenNames x14
        have h14 : Touch 2299569 s x14 := by
          unfold x14
          exact setCam_only.step rfl (by assumption)
        clear_value x14
        extract_lets +onlyGivenNames x15
        have h15 : Touch 2299569 s x15 := by
          unfold x15
          exact inc64_only.step rfl (setn_only.step rfl (by assumption))
        clear_value x15
        refine OutTouch.ok ?_
        refine Touch.ite ?_ ?_
        · exact inc32_only.step rfl (by assumption)
        · assumption

theorem execCsiFrameEnd_only {s : State} {v0 v1 v2 v3} : OutTouch 2299569 s (@execCsiFrameEnd v0 v1 v2 v3 s) := by
  have h : Touch 2299569 s s := Touch.refl
  unfold execCsiFrameEnd
  extract_lets +onlyGivenNames x1
  have h1 : Touch 2299569 s x1 := by
    unfold x1
    exact moveX_only.step rfl (atTime_only.step rfl (by assumption))
  clear_value x1
  extract_lets +onlyGivenNames x2
  have h2 : Touch 2299569 s x2.1 := by
    unfold x2
    exact csiHeader_only.step rfl (by assumption)
  clear_value x2
  refine OutTouch.ite ?_ ?_
  · exact OutTouch.ok (by assumption)
  · split
    · exact OutTouch.ok (by assumption)
    · exact OutTouch.ok (trySend_only.step rfl (finishFrame_only.step rfl (by assumption)))

theorem execFrameForcedEnd_only {s : State} {v0 v1} : OutTouch 2299569 s (@execFrameForcedEnd v0 v1 s) := by
  have h : Touch 2299569 s s := Touch.refl
  unfold execFrameForcedEnd
  extract_lets +onlyGivenNames x1
  have h1 : Touch 2299569 s x1 := by
    unfold x1
    exact moveX_only.step rfl (atTime_only.step rfl (by assumption))
  clear_value x1
  split
  · exact OutTouch.ok (by assumption)
  · refine OutTouch.ite ?_ ?_
    · exact OutTouch.ok (by assumption)
    · exact OutTouch.ok (trySend_only.step rfl (finishFrame_only.step rfl (by assumption)))

theorem execCamResetRelease_only {s : State} {v0 v1} : OutTouch 131072 s (@execCamResetRelease v0 v1 s) := by
  have h : Touch 131072 s s := Touch.refl
  unfold execCamResetRelease
  extract_lets +onlyGivenNames x1
  have h1 : Touch 131072 s x1 := by
    unfold x1
    exact atTime_only.step rfl (by assumption)
  clear_value x1
  refine OutTouch.ite ?_ ?_
  · exact OutTouch.ok (setCam_only.step rfl (by assumption))
  · exact OutTouch.ok (by assumption)

theorem setUnit_only {s : State} {v1 v2} : Touch 262144 s (@State.setUnit s v1 v2) := by
  have h : Touch 262144 s s := Touch.refl
  unfold State.setUnit
  refine Touch.trans (b := s) ?_ { beam := .inl rfl }
  assumption

theorem lookMin_only {s : State} : Touch 1 s (@State.lookMin s) := by
  have h : Touch 1 s s := Touch.refl
  unfold State.lookMin
  refine Touch.foldl ?_ (fun y1 z1 h1 => ?_)
  · assumption
  · refine Touch.ite ?_ ?_
    · exact seti_only.step rfl (by assumption)
    · assumption

theorem rampCheck_only {s : State} : Touch 1 s (@State.rampCheck s) := by
  have h : Touch 1 s s := Touch.refl
  unfold State.rampCheck
  extract_lets +onlyGivenNames x1
  clear_value x1
  exact setb_only.step rfl (by assumption)

theorem lookCheck_only {s : State} : Touch 16561 s (@State.lookCheck s) := by
  have h : Touch 16561 s s := Touch.refl
  unfold State.lookCheck
  extract_lets +onlyGivenNames x1
  clear_value x1
  extract_lets +onlyGivenNames x2
  have h2 : Touch 16561 s x2 := by
    unfold x2
    exact lookMin_only.step rfl (by assumption)
  clear_value x2
  extract_lets +onlyGivenNames x3
  extract_lets +onlyGivenNames x4
  have h4 : Touch 16561 s x4 := by
    unfold x4
    refine Touch.setFire (.inl rfl) (.inr rfl) ?_
    assumption
  clear_value x4
  extract_lets +onlyGivenNames x5
  have h5 : Touch 16561 s x5 := by
    unfold x5
    refine Touch.foldl ?_ (fun y6 z6 h6 => ?_)
    · assumption
    · exact setb_only.step rfl (by assumption)
  clear_value x5
  extract_lets +onlyGivenNames x7
  clear_value x7
  split
  · refine Touch.ite ?_ ?_
    · exact rampCheck_only.step rfl (setReason_only.step rfl (by assumption))
    · assumption
  · refine Touch.ite ?_ ?_
    · assumption
    · exact rampCheck_only.step rfl (event_only.step rfl (setReason_only.step rfl (by assumption)))

theorem identify_only {s : State} {v1} : Touch 32769 s (@State.identify s v1) := by
  have h : Touch 32769 s s := Touch.refl
  unfold State.identify
  exact setLinkState_only.step rfl (setLink_only.step rfl (by assumption))

theorem resetChannel_only {s : State} {v1} : Touch 16385 s (@State.resetChannel s v1) := by
  have h : Touch 16385 s s := Touch.refl
  unfold State.resetChannel
  extract_lets +onlyGivenNames x1
  clear_value x1
  extract_lets +onlyGivenNames x2
  clear_value x2
  extract_lets +onlyGivenNames x3
  extract_lets +onlyGivenNames x4
  have h4 : Touch 16385 s x4 := by
    unfold x4
    refine Touch.setFire (.inl rfl) (.inr rfl) ?_
    assumption
  clear_value x4
  refine Touch.foldl ?_ (fun y5 z5 h5 => ?_)
  · assumption
  · exact setn_only.step rfl (by assumption)

theorem dropCheckpoint_only {s : State} : Touch 8404993 s (@State.dropCheckpoint s) := by
  have h : Touch 8404993 s s := Touch.refl
  unfold State.dropCheckpoint
  extract_lets +onlyGivenNames x1
  clear_value x1
  extract_lets +onlyGivenNames x2
  extract_lets +onlyGivenNames x3
  have h3 : Touch 8404993 s x3 := by
    unfold x3
    refine Touch.setFire (.inl rfl) (.inr rfl) ?_
    assumption
  clear_value x3
  extract_lets +onlyGivenNames x4
  extract_lets +onlyGivenNames x5
  have h5 : Touch 8404993 s x5 := by
    unfold x5
    refine Touch.trans (b := x3) ?_ { objects := .inl rfl, firing := .inl rfl, power := .inl rfl }
    assumption
  clear_value x5
  exact inc64_only.step rfl (setn_only.step rfl (by assumption))

theorem addCount_only {s : State} {v1 v2} : Touch 1 s (@State.addCount s v1 v2) := by
  have h : Touch 1 s s := Touch.refl
  unfold State.addCount
  exact setn_only.step rfl (by assumption)

theorem accumulate_only {s : State} {v1} : Touch 16385 s (@State.accumulate s v1) := by
  have h : Touch 16385 s s := Touch.refl
  unfold State.accumulate
  split
  · assumption
  · extract_lets +onlyGivenNames x1
    clear_value x1
    extract_lets +onlyGivenNames x2
    clear_value x2
    extract_lets +onlyGivenNames x3
    extract_lets +onlyGivenNames x4
    extract_lets +onlyGivenNames x5
    have h5 : Touch 16385 s x5 := by
      unfold x5
      refine Touch.setFire (.inl rfl) (.inr rfl) ?_
      assumption
    clear_value x5
    extract_lets +onlyGivenNames x6
    clear_value x6
    extract_lets +onlyGivenNames x7
    have h7 : Touch 16385 s x7 := by
      unfold x7
      exact addCount_only.step rfl (by assumption)
    clear_value x7
    extract_lets +onlyGivenNames x8
    have h8 : Touch 16385 s x8 := by
      unfold x8
      exact addCount_only.step rfl (by assumption)
    clear_value x8
    extract_lets +onlyGivenNames x9
    have h9 : Touch 16385 s x9 := by
      unfold x9
      exact addCount_only.step rfl (by assumption)
    clear_value x9
    extract_lets +onlyGivenNames x10
    have h10 : Touch 16385 s x10 := by
      unfold x10
      refine Touch.foldl ?_ (fun y11 z11 h11 => ?_)
      · assumption
      · exact addCount_only.step rfl (by assumption)
    clear_value x10
    exact addCount_only.step rfl (addCount_only.step rfl (by assumption))

theorem execGateClosed_only {s : State} {v0 v1} : OutTouch 114865 s (@execGateClosed v0 v1 s) := by
  have h : Touch 114865 s s := Touch.refl
  unfold execGateClosed
  extract_lets +onlyGivenNames x1
  have h1 : Touch 114865 s x1 := by
    unfold x1
    exact moveX_only.step rfl (atTime_only.step rfl (by assumption))
  clear_value x1
  refine OutTouch.ite ?_ ?_
  · exact OutTouch.ok (by assumption)
  · extract_lets +onlyGivenNames x2
    have h2 : Touch 114865 s x2 := by
      unfold x2
      exact inc32_only.step rfl (setb_only.step rfl (by assumption))
    clear_value x2
    extract_lets +onlyGivenNames x3
    have h3 : Touch 114865 s x3 := by
      unfold x3
      exact setn_only.step rfl (by assumption)
    clear_value x3
    extract_lets +onlyGivenNames x4
    extract_lets +onlyGivenNames x5
    have h5 : Touch 114865 s x5 := by
      unfold x5
      refine Touch.setFire (.inl rfl) (.inl rfl) ?_
      assumption
    clear_value x5
    extract_lets +onlyGivenNames x6
    clear_value x6
    extract_lets +onlyGivenNames x7
    have h7 : Touch 114865 s x7 := by
      unfold x7
      refine Touch.foldl ?_ (fun y8 z8 h8 => ?_)
      · assumption
      · exact switchNow_only.step rfl (refreshPlane_only.step rfl (by assumption))
    clear_value x7
    exact OutTouch.ok (event_only.step rfl (by assumption))

theorem countFired_only {s : State} {v1 v2 v3} : Touch 16896 s (@State.countFired s v1 v2 v3) := by
  have h : Touch 16896 s s := Touch.refl
  unfold State.countFired
  extract_lets +onlyGivenNames x1
  clear_value x1
  extract_lets +onlyGivenNames x2
  clear_value x2
  extract_lets +onlyGivenNames x3
  have h3 : Touch 16896 s x3 := by
    unfold x3
    refine Touch.foldl ?_ (fun y4 z4 h4 => ?_)
    · assumption
    · exact fireDrop_only.step rfl (by assumption)
  clear_value x3
  extract_lets +onlyGivenNames x5
  have h5 : Touch 16896 s x5 := by
    unfold x5
    exact suppressAll_only.step rfl (suppressAll_only.step rfl (by assumption))
  clear_value x5
  extract_lets +onlyGivenNames x6
  have h6 : Touch 16896 s x6 := by
    unfold x6
    refine Touch.foldl ?_ (fun y7 z7 h7 => ?_)
    · assumption
    · exact spitDrop_only.step rfl (by assumption)
  clear_value x6
  extract_lets +onlyGivenNames x8
  clear_value x8
  refine Touch.setFire (.inl rfl) (.inr rfl) ?_
  assumption

theorem sendFire_only {s : State} {v1 v2} : Touch 32769 s (@State.sendFire s v1 v2) := by
  have h : Touch 32769 s s := Touch.refl
  unfold State.sendFire
  refine Touch.foldl ?_ (fun y1 z1 h1 => ?_)
  · exact inc64_only.step rfl (by assumption)
  · extract_lets +onlyGivenNames x2
    clear_value x2
    refine Touch.ite ?_ ?_
    · extract_lets +onlyGivenNames x3
      have h3 : Touch 32769 s x3 := by
        unfold x3
        exact inc64_only.step rfl (by assumption)
      clear_value x3
      exact setLink_only.step rfl (by assumption)
    · assumption

theorem fireLine_only {s : State} {v1 v2 v3} : Touch 49665 s (@State.fireLine s v1 v2 v3) := by
  have h : Touch 49665 s s := Touch.refl
  unfold State.fireLine
  extract_lets +onlyGivenNames x1
  clear_value x1
  extract_lets +onlyGivenNames x2
  have h2 : Touch 49665 s x2 := by
    unfold x2
    exact countFired_only.step rfl (sendFire_only.step rfl (by assumption))
  clear_value x2
  exact setItems_only.step rfl (by assumption)

theorem holdLine_only {s : State} {v1 v2 v3} : Touch 21041 s (@State.holdLine s v1 v2 v3) := by
  have h : Touch 21041 s s := Touch.refl
  unfold State.holdLine
  extract_lets +onlyGivenNames x1
  clear_value x1
  extract_lets +onlyGivenNames x2
  have h2 : Touch 21041 s x2 := by
    unfold x2
    exact inc64_only.step rfl (by assumption)
  clear_value x2
  extract_lets +onlyGivenNames x3
  have h3 : Touch 21041 s x3 := by
    unfold x3
    exact suppressAll_only.step rfl (by assumption)
  clear_value x3
  extract_lets +onlyGivenNames x4
  have h4 : Touch 21041 s x4 := by
    unfold x4
    refine Touch.foldl ?_ (fun y5 z5 h5 => ?_)
    · assumption
    · refine Touch.ite ?_ ?_
      · refine Touch.setFire (.inl rfl) (.inr rfl) ?_
        assumption
      · assumption
  clear_value x4
  refine Touch.foldl ?_ (fun y6 z6 h6 => ?_)
  · assumption
  · exact dispose_only.step rfl (by assumption)

theorem lateLine_only {s : State} {v1 v2 v3} : Touch 53937 s (@State.lateLine s v1 v2 v3) := by
  have h : Touch 53937 s s := Touch.refl
  unfold State.lateLine
  extract_lets +onlyGivenNames x1
  have h1 : Touch 53937 s x1 := by
    unfold x1
    exact sendFire_only.step rfl (inc64_only.step rfl (by assumption))
  clear_value x1
  extract_lets +onlyGivenNames x2
  clear_value x2
  extract_lets +onlyGivenNames x3
  extract_lets +onlyGivenNames x4
  have h4 : Touch 53937 s x4 := by
    unfold x4
    refine Touch.setFire (.inl rfl) (.inl rfl) ?_
    assumption
  clear_value x4
  extract_lets +onlyGivenNames x5
  clear_value x5
  extract_lets +onlyGivenNames x6
  have h6 : Touch 53937 s x6 := by
    unfold x6
    refine Touch.foldl ?_ (fun y7 z7 h7 => ?_)
    · assumption
    · exact dispose_only.step rfl (by assumption)
  clear_value x6
  refine Touch.ite ?_ ?_
  · assumption
  · exact rampCheck_only.step rfl (setReason_only.step rfl (by assumption))

theorem resolveLine_only {s : State} {v1 v2 v3} : Touch 53937 s (@State.resolveLine s v1 v2 v3) := by
  have h : Touch 53937 s s := Touch.refl
  unfold State.resolveLine
  extract_lets +onlyGivenNames x1
  clear_value x1
  split
  · assumption
  · refine Touch.ite ?_ ?_
    · assumption
    · refine Touch.ite ?_ ?_
      · refine Touch.ite ?_ ?_
        · refine Touch.setFire (.inl rfl) (.inl rfl) ?_
          assumption
        · assumption
      · refine Touch.ite ?_ ?_
        · exact holdLine_only.step rfl (by assumption)
        · refine Touch.ite ?_ ?_
          · exact lateLine_only.step rfl (by assumption)
          · refine Touch.ite ?_ ?_
            · exact suppressAll_only.step rfl (inc64_only.step rfl (by assumption))
            · exact fireLine_only.step rfl (by assumption)

theorem restoreMap_only {s : State} {v1} : Touch 65537 s (@State.restoreMap s v1) := by
  have h : Touch 65537 s s := Touch.refl
  unfold State.restoreMap
  extract_lets +onlyGivenNames x1
  clear_value x1
  extract_lets +onlyGivenNames x2
  clear_value x2
  extract_lets +onlyGivenNames x3
  clear_value x3
  refine Touch.step countMap_only rfl ?_
  refine Touch.foldl ?_ (fun y4 z4 h4 => ?_)
  · assumption
  · exact setEntry_only.step rfl (by assumption)

theorem execIdentifyTimeout_only {s : State} {v0 v1} : OutTouch 49 s (@execIdentifyTimeout v0 v1 s) := by
  have h : Touch 49 s s := Touch.refl
  unfold execIdentifyTimeout
  extract_lets +onlyGivenNames x1
  have h1 : Touch 49 s x1 := by
    unfold x1
    exact atTime_only.step rfl (by assumption)
  clear_value x1
  refine OutTouch.ite ?_ ?_
  · exact OutTouch.ok (linkEvent_only.step rfl (setLinkState_only.step rfl (by assumption)))
  · exact OutTouch.ok (by assumption)

theorem noteBarSpeed_only {s : State} {v1 v2} : Touch 65536 s (@State.noteBarSpeed s v1 v2) := by
  have h : Touch 65536 s s := Touch.refl
  unfold State.noteBarSpeed
  exact setInsp_only.step rfl (by assumption)

theorem tick_only {s : State} {v1 v2 v3} : Touch 176280251 s (@State.tick s v1 v2 v3) := by
  have h : Touch 176280251 s s := Touch.refl
  unfold State.tick
  extract_lets +onlyGivenNames x1
  clear_value x1
  extract_lets +onlyGivenNames x2
  clear_value x2
  extract_lets +onlyGivenNames x3
  clear_value x3
  extract_lets +onlyGivenNames x4
  have h4 : Touch 176280251 s x4 := by
    unfold x4
    exact setGrid_only.step rfl (by assumption)
  clear_value x4
  extract_lets +onlyGivenNames x5
  have h5 : Touch 176280251 s x5 := by
    unfold x5
    exact seti_only.step rfl (by assumption)
  clear_value x5
  extract_lets +onlyGivenNames x6
  extract_lets +onlyGivenNames x7
  have h7 : Touch 176280251 s x7 := by
    unfold x7
    refine Touch.setFire (.inl rfl) (.inl rfl) ?_
    assumption
  clear_value x7
  extract_lets +onlyGivenNames x8
  have h8 : Touch 176280251 s x8 := by
    unfold x8
    exact setItems_only.step rfl (by assumption)
  clear_value x8
  extract_lets +onlyGivenNames x9
  have h9 : Touch 176280251 s x9 := by
    unfold x9
    exact noteBarSpeed_only.step rfl (by assumption)
  clear_value x9
  extract_lets +onlyGivenNames x10
  have h10 : Touch 176280251 s x10 := by
    unfold x10
    exact closePassed_only.step rfl (resolveLine_only.step rfl (by assumption))
  clear_value x10
  exact advise_only.step rfl (lookCheck_only.step rfl (fetch_only.step rfl (by assumption)))

theorem runLineTick_only {s : State} {v0 v1 v2} : OutTouch 176280251 s (@runLineTick v0 v1 v2 s) := by
  have h : Touch 176280251 s s := Touch.refl
  unfold runLineTick
  extract_lets +onlyGivenNames x1
  have h1 : Touch 176280251 s x1 := by
    unfold x1
    exact moveX_only.step rfl (atTime_only.step rfl (by assumption))
  clear_value x1
  extract_lets +onlyGivenNames x2
  clear_value x2
  refine OutTouch.ite ?_ ?_
  · exact OutTouch.ok (by assumption)
  · exact OutTouch.ok (tick_only.step rfl (by assumption))

theorem execBackFrameBad_only {s : State} {v0 v1} : OutTouch 1 s (@execBackFrameBad v0 v1 s) := by
  have h : Touch 1 s s := Touch.refl
  unfold execBackFrameBad
  exact OutTouch.ok (inc32_only.step rfl (atTime_only.step rfl (by assumption)))

theorem trimsDone_only {s : State} {v1} : Touch 65536 s (@State.trimsDone s v1) := by
  have h : Touch 65536 s s := Touch.refl
  unfold State.trimsDone
  refine Touch.ite ?_ ?_
  · assumption
  · exact setInsp_only.step rfl (by assumption)

theorem preload_only {s : State} {v1} : Touch 65537 s (@State.preload s v1) := by
  have h : Touch 65537 s s := Touch.refl
  unfold State.preload
  extract_lets +onlyGivenNames x1
  clear_value x1
  extract_lets +onlyGivenNames x2
  clear_value x2
  extract_lets +onlyGivenNames x3
  clear_value x3
  extract_lets +onlyGivenNames x4
  clear_value x4
  extract_lets +onlyGivenNames x5
  extract_lets +onlyGivenNames x6
  have h6 : Touch 65537 s x6 := by
    unfold x6
    exact setInsp_only.step rfl (by assumption)
  clear_value x6
  extract_lets +onlyGivenNames x7
  have h7 : Touch 65537 s x7 := by
    unfold x7
    refine Touch.foldl ?_ (fun y8 z8 h8 => ?_)
    · assumption
    · refine Touch.ite ?_ ?_
      · exact setEntry_only.step rfl (by assumption)
      · assumption
  clear_value x7
  exact countMap_only.step rfl (setn_only.step rfl (by assumption))

theorem loadLink_only {s : State} {v1} : Touch 32768 s (@State.loadLink s v1) := by
  have h : Touch 32768 s s := Touch.refl
  unfold State.loadLink
  extract_lets +onlyGivenNames x1
  clear_value x1
  extract_lets +onlyGivenNames x2
  clear_value x2
  extract_lets +onlyGivenNames x3
  clear_value x3
  extract_lets +onlyGivenNames x4
  have h4 : Touch 32768 s x4 := by
    unfold x4
    exact setLink_only.step rfl (by assumption)
  clear_value x4
  extract_lets +onlyGivenNames x5
  have h5 : Touch 32768 s x5 := by
    unfold x5
    exact writeTrims_only.step rfl (by assumption)
  clear_value x5
  exact setLink_only.step rfl (by assumption)

theorem acceptIdentity_only {s : State} {v1 v2} : Touch 98353 s (@State.acceptIdentity s v1 v2) := by
  have h : Touch 98353 s s := Touch.refl
  unfold State.acceptIdentity
  extract_lets +onlyGivenNames x1
  clear_value x1
  extract_lets +onlyGivenNames x2
  clear_value x2
  extract_lets +onlyGivenNames x3
  clear_value x3
  extract_lets +onlyGivenNames x4
  have h4 : Touch 98353 s x4 := by
    unfold x4
    exact setLink_only.step rfl (by assumption)
  clear_value x4
  extract_lets +onlyGivenNames x5
  have h5 : Touch 98353 s x5 := by
    unfold x5
    exact setv_only.step rfl (by assumption)
  clear_value x5
  extract_lets +onlyGivenNames x6
  have h6 : Touch 98353 s x6 := by
    unfold x6
    exact setn_only.step rfl (by assumption)
  clear_value x6
  extract_lets +onlyGivenNames x7
  have h7 : Touch 98353 s x7 := by
    unfold x7
    exact setn_only.step rfl (setn_only.step rfl (by assumption))
  clear_value x7
  extract_lets +onlyGivenNames x8
  have h8 : Touch 98353 s x8 := by
    unfold x8
    exact setLinkState_only.step rfl (setn_only.step rfl (by assumption))
  clear_value x8
  extract_lets +onlyGivenNames x9
  have h9 : Touch 98353 s x9 := by
    unfold x9
    refine Touch.foldl ?_ (fun y10 z10 h10 => ?_)
    · assumption
    · exact chanEvent_only.step rfl (by assumption)
  clear_value x9
  extract_lets +onlyGivenNames x11
  have h11 : Touch 98353 s x11 := by
    unfold x11
    refine Touch.ite ?_ ?_
    · assumption
    · refine Touch.ite ?_ ?_
      · exact restoreMap_only.step rfl (by assumption)
      · exact preload_only.step rfl (by assumption)
  clear_value x11
  extract_lets +onlyGivenNames x12
  have h12 : Touch 98353 s x12 := by
    unfold x12
    exact loadLink_only.step rfl (by assumption)
  clear_value x12
  refine Touch.ite ?_ ?_
  · exact setLinkState_only.step rfl (by assumption)
  · assumption

theorem execBackIdentity_only {s : State} {v0 v1 v2 v3} : OutTouch 98353 s (@execBackIdentity v0 v1 v2 v3 s) := by
  have h : Touch 98353 s s := Touch.refl
  unfold execBackIdentity
  extract_lets +onlyGivenNames x1
  have h1 : Touch 98353 s x1 := by
    unfold x1
    exact atTime_only.step rfl (by assumption)
  clear_value x1
  extract_lets +onlyGivenNames x2
  clear_value x2
  refine OutTouch.ite ?_ ?_
  · exact OutTouch.ok (by assumption)
  · refine OutTouch.ite ?_ ?_
    · exact OutTouch.ok (inc32_only.step rfl (by assumption))
    · extract_lets +onlyGivenNames x3
      clear_value x3
      extract_lets +onlyGivenNames x4
      clear_value x4
      extract_lets +onlyGivenNames x5
      have h5 : Touch 98353 s x5 := by
        unfold x5
        exact setLink_only.step rfl (by assumption)
      clear_value x5
      split
      · exact OutTouch.ok (by assumption)
      · split
        · exact OutTouch.ok (linkEvent_only.step rfl (setLinkState_only.step rfl (setLink_only.step rfl
            (by assumption))))
        · exact OutTouch.ok (acceptIdentity_only.step rfl (by assumption))

theorem unfire_only {s : State} {v1 v2 v3} : Touch 16384 s (@State.unfire s v1 v2 v3) := by
  have h : Touch 16384 s s := Touch.refl
  unfold State.unfire
  exact modAcc_only.step rfl (modNozzle_only.step rfl (by assumption))

theorem rejectLine_only {s : State} {v1 v2 v3 v4 v5} : Touch 16945 s (@State.rejectLine s v1 v2 v3 v4 v5) := by
  have h : Touch 16945 s s := Touch.refl
  unfold State.rejectLine
  extract_lets +onlyGivenNames x1
  clear_value x1
  extract_lets +onlyGivenNames x2
  clear_value x2
  extract_lets +onlyGivenNames x3
  clear_value x3
  extract_lets +onlyGivenNames x4
  have h4 : Touch 16945 s x4 := by
    unfold x4
    refine Touch.foldl ?_ (fun y5 z5 h5 => ?_)
    · assumption
    · exact unfire_only.step rfl (by assumption)
  clear_value x4
  extract_lets +onlyGivenNames x6
  clear_value x6
  extract_lets +onlyGivenNames x7
  extract_lets +onlyGivenNames x8
  have h8 : Touch 16945 s x8 := by
    unfold x8
    refine Touch.setFire (.inl rfl) (.inr rfl) ?_
    assumption
  clear_value x8
  extract_lets +onlyGivenNames x9
  clear_value x9
  extract_lets +onlyGivenNames x10
  have h10 : Touch 16945 s x10 := by
    unfold x10
    refine Touch.foldl ?_ (fun y11 z11 h11 => ?_)
    · assumption
    · exact chargeItem_only.step rfl (by assumption)
  clear_value x10
  extract_lets +onlyGivenNames x12
  clear_value x12
  refine Touch.ite ?_ ?_
  · assumption
  · extract_lets +onlyGivenNames x13
    clear_value x13
    refine Touch.step event_only rfl ?_
    refine Touch.foldl ?_ (fun y14 z14 h14 => ?_)
    · assumption
    · exact inc32_only.step rfl (by assumption)

theorem linkUnknown_only {s : State} {v1} : Touch 49 s (@State.linkUnknown s v1) := by
  have h : Touch 49 s s := Touch.refl
  unfold State.linkUnknown
  refine Touch.step event_only rfl ?_
  refine Touch.foldl ?_ (fun y1 z1 h1 => ?_)
  · assumption
  · exact setn_only.step rfl (by assumption)

theorem checkReports_only {s : State} {v1 v2} : Touch 32817 s (@State.checkReports s v1 v2) := by
  have h : Touch 32817 s s := Touch.refl
  unfold State.checkReports
  extract_lets +onlyGivenNames x1
  clear_value x1
  extract_lets +onlyGivenNames x2
  clear_value x2
  extract_lets +onlyGivenNames x3
  clear_value x3
  extract_lets +onlyGivenNames x4
  clear_value x4
  extract_lets +onlyGivenNames x5
  clear_value x5
  extract_lets +onlyGivenNames x6
  extract_lets +onlyGivenNames x7
  have h7 : Touch 32817 s x7 := by
    unfold x7
    exact setLink_only.step rfl (by assumption)
  clear_value x7
  refine Touch.ite ?_ ?_
  · exact linkUnknown_only.step rfl (by assumption)
  · assumption

theorem slotLoaded_only {s : State} {v1 v2} : Touch 1 s (@State.slotLoaded s v1 v2) := by
  have h : Touch 1 s s := Touch.refl
  unfold State.slotLoaded
  extract_lets +onlyGivenNames x1
  clear_value x1
  exact setn_only.step rfl (by assumption)

theorem execBackReject_only {s : State} {v0 v1 v2 v3 v4} : OutTouch 33604145 s (@execBackReject v0 v1 v2 v3 v4 s) := by
  have h : Touch 33604145 s s := Touch.refl
  unfold execBackReject
  extract_lets +onlyGivenNames x1
  have h1 : Touch 33604145 s x1 := by
    unfold x1
    exact atTime_only.step rfl (by assumption)
  clear_value x1
  extract_lets +onlyGivenNames x2
  clear_value x2
  refine OutTouch.ite ?_ ?_
  · exact OutTouch.ok (by assumption)
  · refine OutTouch.ite ?_ ?_
    · exact OutTouch.ok (inc32_only.step rfl (by assumption))
    · extract_lets +onlyGivenNames x3
      clear_value x3
      extract_lets +onlyGivenNames x4
      have h4 : Touch 33604145 s x4 := by
        unfold x4
        exact setLink_only.step rfl (by assumption)
      clear_value x4
      extract_lets +onlyGivenNames x5
      have h5 : Touch 33604145 s x5 := by
        unfold x5
        exact inc32_only.step rfl (by assumption)
      clear_value x5
      split
      · exact OutTouch.ok (mirror_only.step rfl (rejectLine_only.step rfl (by assumption)))
      · exact OutTouch.ok (mirror_only.step rfl (by assumption))

theorem execLoadWriteTimeout_only {s : State} {v0 v1} : OutTouch 32769 s (@execLoadWriteTimeout v0 v1 s) := by
  have h : Touch 32769 s s := Touch.refl
  unfold execLoadWriteTimeout
  extract_lets +onlyGivenNames x1
  have h1 : Touch 32769 s x1 := by
    unfold x1
    exact atTime_only.step rfl (by assumption)
  clear_value x1
  refine OutTouch.ite ?_ ?_
  · exact OutTouch.ok (setLinkState_only.step rfl (setLink_only.step rfl (by assumption)))
  · exact OutTouch.ok (by assumption)

theorem dropTrims_only {s : State} {v1} : Touch 65536 s (@State.dropTrims s v1) := by
  have h : Touch 65536 s s := Touch.refl
  unfold State.dropTrims
  extract_lets +onlyGivenNames x1
  clear_value x1
  exact setInsp_only.step rfl (by assumption)

theorem execBackAck_only {s : State} {v0 v1 v2 v3} : OutTouch 98305 s (@execBackAck v0 v1 v2 v3 s) := by
  have h : Touch 98305 s s := Touch.refl
  unfold execBackAck
  extract_lets +onlyGivenNames x1
  have h1 : Touch 98305 s x1 := by
    unfold x1
    exact atTime_only.step rfl (by assumption)
  clear_value x1
  extract_lets +onlyGivenNames x2
  clear_value x2
  extract_lets +onlyGivenNames x3
  clear_value x3
  split
  · exact OutTouch.ok (by assumption)
  · extract_lets +onlyGivenNames x4
    have h4 : Touch 98305 s x4 := by
      unfold x4
      exact setLink_only.step rfl (by assumption)
    extract_lets +onlyGivenNames x5
    have h5 : Touch 98305 s x5 := by
      unfold x5
      split
      · refine Touch.ite ?_ ?_
        · exact slotLoaded_only.step rfl (by assumption)
        · assumption
      · refine Touch.ite ?_ ?_
        · exact trimsDone_only.step rfl (by assumption)
        · exact dropTrims_only.step rfl (by assumption)
    refine OutTouch.ite ?_ ?_
    · refine OutTouch.ite ?_ ?_
      · exact OutTouch.ok (setLinkState_only.step rfl (by assumption))
      · exact OutTouch.ok (by assumption)
    · refine OutTouch.ite ?_ ?_
      · exact OutTouch.ok (setLinkState_only.step rfl (setLink_only.step rfl (by assumption)))
      · exact OutTouch.ok (by assumption)

theorem statusCounts_only {s : State} {v1 v2} : Touch 1 s (@State.statusCounts s v1 v2) := by
  have h : Touch 1 s s := Touch.refl
  unfold State.statusCounts
  extract_lets +onlyGivenNames x1
  have h1 : Touch 1 s x1 := by
    unfold x1
    exact setn_only.step rfl (setn_only.step rfl (by assumption))
  clear_value x1
  exact seti_only.step rfl (by assumption)

theorem linkDown_only {s : State} {v1} : Touch 98353 s (@State.linkDown s v1) := by
  have h : Touch 98353 s s := Touch.refl
  unfold State.linkDown
  extract_lets +onlyGivenNames x1
  clear_value x1
  extract_lets +onlyGivenNames x2
  have h2 : Touch 98353 s x2 := by
    unfold x2
    exact setLink_only.step rfl (by assumption)
  clear_value x2
  extract_lets +onlyGivenNames x3
  extract_lets +onlyGivenNames x4
  have h4 : Touch 98353 s x4 := by
    unfold x4
    exact setInsp_only.step rfl (by assumption)
  clear_value x4
  exact linkEvent_only.step rfl (setLinkState_only.step rfl (by assumption))

theorem backStatus_only {s : State} {v1 v2} : Touch 98353 s (@State.backStatus s v1 v2) := by
  have h : Touch 98353 s s := Touch.refl
  unfold State.backStatus
  extract_lets +onlyGivenNames x1
  clear_value x1
  refine Touch.ite ?_ ?_
  · assumption
  · extract_lets +onlyGivenNames x2
    clear_value x2
    extract_lets +onlyGivenNames x3
    have h3 : Touch 98353 s x3 := by
      unfold x3
      exact statusCounts_only.step rfl (by assumption)
    clear_value x3
    extract_lets +onlyGivenNames x4
    have h4 : Touch 98353 s x4 := by
      unfold x4
      refine Touch.ite ?_ ?_
      · exact checkReports_only.step rfl (by assumption)
      · assumption
    clear_value x4
    extract_lets +onlyGivenNames x5
    clear_value x5
    extract_lets +onlyGivenNames x6
    clear_value x6
    extract_lets +onlyGivenNames x7
    have h7 : Touch 98353 s x7 := by
      unfold x7
      refine Touch.ite ?_ ?_
      · exact linkDown_only.step rfl (by assumption)
      · assumption
    clear_value x7
    refine Touch.ite ?_ ?_
    · exact identify_only.step rfl (by assumption)
    · assumption

theorem execBackChannelSilent_only {s : State} {v0 v1} : OutTouch 98353 s (@execBackChannelSilent v0 v1 s) := by
  have h : Touch 98353 s s := Touch.refl
  unfold execBackChannelSilent
  extract_lets +onlyGivenNames x1
  have h1 : Touch 98353 s x1 := by
    unfold x1
    exact atTime_only.step rfl (by assumption)
  clear_value x1
  extract_lets +onlyGivenNames x2
  clear_value x2
  refine OutTouch.ite ?_ ?_
  · exact OutTouch.ok (linkDown_only.step rfl (by assumption))
  · exact OutTouch.ok (by assumption)

theorem ilkHigh_only {s : State} {v1} : Touch 262144 s (@State.ilkHigh s v1) := by
  have h : Touch 262144 s s := Touch.refl
  unfold State.ilkHigh
  refine Touch.ite ?_ ?_
  · assumption
  · extract_lets +onlyGivenNames x1
    clear_value x1
    exact setUnit_only.step rfl (by assumption)

theorem execGateOpened_only {s : State} {v0 v1} : OutTouch 262321 s (@execGateOpened v0 v1 s) := by
  have h : Touch 262321 s s := Touch.refl
  unfold execGateOpened
  extract_lets +onlyGivenNames x1
  have h1 : Touch 262321 s x1 := by
    unfold x1
    exact ilkHigh_only.step rfl (moveX_only.step rfl (atTime_only.step rfl (by assumption)))
  clear_value x1
  refine OutTouch.ite ?_ ?_
  · exact OutTouch.ok (by assumption)
  · extract_lets +onlyGivenNames x2
    have h2 : Touch 262321 s x2 := by
      unfold x2
      exact setn_only.step rfl (setb_only.step rfl (by assumption))
    clear_value x2
    extract_lets +onlyGivenNames x3
    have h3 : Touch 262321 s x3 := by
      unfold x3
      refine Touch.foldl ?_ (fun y4 z4 h4 => ?_)
      · assumption
      · refine Touch.ite ?_ ?_
        · exact refreshPlane_only.step rfl (by assumption)
        · assumption
    clear_value x3
    exact OutTouch.ok (event_only.step rfl (by assumption))

theorem execDropCountAccumulate_only {s : State} {v0 v1} : OutTouch 16385 s (@execDropCountAccumulate v0 v1 s) := by
  have h : Touch 16385 s s := Touch.refl
  unfold execDropCountAccumulate
  exact OutTouch.ok (accumulate_only.step rfl (atTime_only.step rfl (by assumption)))

theorem execDropCheckpoint_only {s : State} {v0 v1} : OutTouch 8404993 s (@execDropCheckpoint v0 v1 s) := by
  have h : Touch 8404993 s s := Touch.refl
  unfold execDropCheckpoint
  extract_lets +onlyGivenNames x1
  have h1 : Touch 8404993 s x1 := by
    unfold x1
    exact atTime_only.step rfl (by assumption)
  clear_value x1
  refine OutTouch.ite ?_ ?_
  · exact OutTouch.ok (inc32_only.step rfl (by assumption))
  · exact OutTouch.ok (dropCheckpoint_only.step rfl (by assumption))

end Sys2Proof.Machine
end

