-- ==== Sys2Proof/Laws/TouchC.lean ====
section
/-! SUPPORT. Which parts of the state the operations of these files may change, by `Touch`: Insp, Beam, Clocks,
Access, Codec, Dma, MemCmds, Motor. -/

set_option Elab.async false

namespace Sys2Proof.Machine

theorem staged_only {s : State} {v1} : Touch 98353 s (@State.staged s v1) := by
  have h : Touch 98353 s s := Touch.refl
  unfold State.staged
  refine Touch.ite ?_ ?_
  · exact sendTrims_only.step rfl (by assumption)
  · exact switchNow_only.step rfl (by assumption)

theorem stage_only {s : State} {v1 v2 v3 v4} : Touch 65537 s (@State.stage s v1 v2 v3 v4) := by
  have h : Touch 65537 s s := Touch.refl
  unfold State.stage
  extract_lets +onlyGivenNames x1
  clear_value x1
  extract_lets +onlyGivenNames x2
  clear_value x2
  extract_lets +onlyGivenNames x3
  clear_value x3
  extract_lets +onlyGivenNames x4
  clear_value x4
  extract_lets +onlyGivenNames x5
  extract_lets +onlyGivenNames x6
  have h6 : Touch 65537 s x6 := by
    unfold x6
    exact setInsp_only.step rfl (by assumption)
  clear_value x6
  exact setn_only.step rfl (by assumption)

theorem mapEntryWrite_only {s : State} {v1} : Touch 98353 s (@State.mapEntryWrite s v1) := by
  have h : Touch 98353 s s := Touch.refl
  unfold State.mapEntryWrite
  extract_lets +onlyGivenNames x1
  clear_value x1
  exact staged_only.step rfl (stage_only.step rfl (by assumption))

theorem mapReset_only {s : State} {v1} : Touch 98353 s (@State.mapReset s v1) := by
  have h : Touch 98353 s s := Touch.refl
  unfold State.mapReset
  extract_lets +onlyGivenNames x1
  clear_value x1
  refine Touch.ite ?_ ?_
  · assumption
  · exact staged_only.step rfl (stage_only.step rfl (by assumption))

theorem logEntry_only {s : State} {v1 v2 v3} : Touch 8 s (@State.logEntry s v1 v2 v3) := by
  have h : Touch 8 s s := Touch.refl
  unfold State.logEntry
  exact logRecord_only.step rfl (by assumption)

theorem detect_only {s : State} {v1 v2 v3 v4 v5} : Touch 65593 s (@State.detect s v1 v2 v3 v4 v5) := by
  have h : Touch 65593 s s := Touch.refl
  unfold State.detect
  extract_lets +onlyGivenNames x1
  have h1 : Touch 65593 s x1 := by
    unfold x1
    exact inc64_only.step rfl (by assumption)
  clear_value x1
  extract_lets +onlyGivenNames x2
  refine Touch.ite ?_ ?_
  · dsimp only [x2]
    exact event_only.step rfl (by assumption)
  · split
    · dsimp only [x2]
      exact event_only.step rfl (by assumption)
    · extract_lets +onlyGivenNames x3
      have h3 : Touch 65593 s x3 := by
        unfold x3
        refine Touch.foldl ?_ (fun y4 z4 h4 => ?_)
        · assumption
        · exact logEntry_only.step rfl (by assumption)
      clear_value x3
      dsimp only [x2]
      exact event_only.step rfl (stage_only.step rfl (by assumption))
    · extract_lets +onlyGivenNames x5
      clear_value x5
      extract_lets +onlyGivenNames x6
      have h6 : Touch 65593 s x6 := by
        unfold x6
        dsimp only [x2]
        exact event_only.step rfl (by assumption)
      clear_value x6
      refine Touch.ite ?_ ?_
      · exact event_only.step rfl (setInsp_only.step rfl (by assumption))
      · assumption

theorem barSeen_only {s : State} {v1 v2} : Touch 65536 s (@State.barSeen s v1 v2) := by
  have h : Touch 65536 s s := Touch.refl
  unfold State.barSeen
  exact setInsp_only.step rfl (by assumption)

theorem lineErrors_only {s : State} {v1 v2 v3} : Touch 4657 s (@State.lineErrors s v1 v2 v3) := by
  have h : Touch 4657 s s := Touch.refl
  unfold State.lineErrors
  refine Touch.foldl ?_ (fun y1 z1 h1 => ?_)
  · assumption
  · refine Touch.ite ?_ ?_
    · exact composeError_only.step rfl (by assumption)
    · assumption

theorem noteStreaks_only {s : State} {v1 v2 v3 v4} : Touch 65537 s (@State.noteStreaks s v1 v2 v3 v4) := by
  have h : Touch 65537 s s := Touch.refl
  unfold State.noteStreaks
  extract_lets +onlyGivenNames x1
  have h1 : Touch 65537 s x1 := by
    unfold x1
    exact bump_only.step rfl (by assumption)
  clear_value x1
  extract_lets +onlyGivenNames x2
  clear_value x2
  refine Touch.ite ?_ ?_
  · assumption
  · refine Touch.foldl ?_ (fun y3 z3 h3 => ?_)
    · assumption
    · refine Touch.ite ?_ ?_
      · exact setInsp_only.step rfl (by assumption)
      · assumption

theorem startBar_only {s : State} {v1 v2} : Touch 65536 s (@State.startBar s v1 v2) := by
  have h : Touch 65536 s s := Touch.refl
  unfold State.startBar
  extract_lets +onlyGivenNames x1
  clear_value x1
  extract_lets +onlyGivenNames x2
  clear_value x2
  refine Touch.ite ?_ ?_
  · assumption
  · extract_lets +onlyGivenNames x3
    clear_value x3
    exact setInsp_only.step rfl (by assumption)

theorem couch_only {s : State} {v1 v2 v3} : Touch 2167345 s (@State.couch s v1 v2 v3) := by
  have h : Touch 2167345 s s := Touch.refl
  unfold State.couch
  extract_lets +onlyGivenNames x1
  have h1 : Touch 2167345 s x1 := by
    unfold x1
    refine Touch.ite ?_ ?_
    · exact startBar_only.step rfl (by assumption)
    · assumption
  clear_value x1
  extract_lets +onlyGivenNames x2
  have h2 : Touch 2167345 s x2 := by
    unfold x2
    exact lineErrors_only.step rfl (by assumption)
  clear_value x2
  extract_lets +onlyGivenNames x3
  clear_value x3
  extract_lets +onlyGivenNames x4
  have h4 : Touch 2167345 s x4 := by
    unfold x4
    split
    · exact store_only.step rfl (by assumption)
    · exact inc64_only.step rfl (by assumption)
  clear_value x4
  extract_lets +onlyGivenNames x5
  have h5 : Touch 2167345 s x5 := by
    unfold x5
    exact store_only.step rfl (by assumption)
  clear_value x5
  extract_lets +onlyGivenNames x6
  have h6 : Touch 2167345 s x6 := by
    unfold x6
    exact inc64_only.step rfl (seti_only.step rfl (by assumption))
  clear_value x6
  extract_lets +onlyGivenNames x7
  have h7 : Touch 2167345 s x7 := by
    unfold x7
    exact bump_only.step rfl (by assumption)
  clear_value x7
  refine Touch.ite ?_ ?_
  · exact inc64_only.step rfl (by assumption)
  · assumption

theorem execLineCouched_only {s : State} {v0 v1 v2} : OutTouch 2192049 s (@execLineCouched v0 v1 v2 s) := by
  have h : Touch 2192049 s s := Touch.refl
  unfold execLineCouched
  extract_lets +onlyGivenNames x1
  have h1 : Touch 2192049 s x1 := by
    unfold x1
    exact moveX_only.step rfl (atTime_only.step rfl (by assumption))
  clear_value x1
  extract_lets +onlyGivenNames x2
  clear_value x2
  extract_lets +onlyGivenNames x3
  clear_value x3
  extract_lets +onlyGivenNames x4
  clear_value x4
  extract_lets +onlyGivenNames x5
  clear_value x5
  refine OutTouch.ite ?_ ?_
  · exact OutTouch.ok (by assumption)
  · extract_lets +onlyGivenNames x6
    have h6 : Touch 2192049 s x6 := by
      unfold x6
      exact couch_only.step rfl (by assumption)
    clear_value x6
    extract_lets +onlyGivenNames x7
    extract_lets +onlyGivenNames x8
    have h8 : Touch 2192049 s x8 := by
      unfold x8
      refine Touch.trans (b := x6) ?_ { objects := .inl rfl, sessions := .inl rfl, network := .inl rfl, web := .inl rfl, items := .inl rfl, journal := .inl rfl, compositor := .inl rfl, firing := .inl rfl, inspection := .inl rfl, memory := .inl rfl }
      assumption
    clear_value x8
    exact OutTouch.ok (lookCheck_only.step rfl (by assumption))

theorem noteClass_only {s : State} {v1 v2 v3 v4 v5} : Touch 65593 s (@State.noteClass s v1 v2 v3 v4 v5) := by
  have h : Touch 65593 s s := Touch.refl
  unfold State.noteClass
  extract_lets +onlyGivenNames x1
  clear_value x1
  refine Touch.ite ?_ ?_
  · exact setInsp_only.step rfl (by assumption)
  · extract_lets +onlyGivenNames x2
    clear_value x2
    refine Touch.ite ?_ ?_
    · exact detect_only.step rfl (setInsp_only.step rfl (by assumption))
    · exact setInsp_only.step rfl (by assumption)

theorem evalSegment_only {s : State} {v1 v2 v3 v4} : Touch 65593 s (@State.evalSegment s v1 v2 v3 v4) := by
  have h : Touch 65593 s s := Touch.refl
  unfold State.evalSegment
  refine Touch.ite ?_ ?_
  · assumption
  · extract_lets +onlyGivenNames x1
    clear_value x1
    extract_lets +onlyGivenNames x2
    clear_value x2
    extract_lets +onlyGivenNames x3
    clear_value x3
    refine Touch.foldl ?_ (fun y4 z4 h4 => ?_)
    · assumption
    · exact noteClass_only.step rfl (by assumption)

theorem execBarEvaluated_only {s : State} {v0 v1 v2 v3} : OutTouch 65593 s (@execBarEvaluated v0 v1 v2 v3 s) := by
  have h : Touch 65593 s s := Touch.refl
  unfold execBarEvaluated
  extract_lets +onlyGivenNames x1
  have h1 : Touch 65593 s x1 := by
    unfold x1
    exact atTime_only.step rfl (by assumption)
  clear_value x1
  split
  · exact OutTouch.ok (by assumption)
  · split
    · exact OutTouch.ok (by assumption)
    · refine OutTouch.ite ?_ ?_
      · exact OutTouch.ok (by assumption)
      · extract_lets +onlyGivenNames x2
        clear_value x2
        extract_lets +onlyGivenNames x3
        have h3 : Touch 65593 s x3 := by
          unfold x3
          refine Touch.foldl ?_ (fun y4 z4 h4 => ?_)
          · assumption
          · exact evalSegment_only.step rfl (by assumption)
        clear_value x3
        extract_lets +onlyGivenNames x5
        have h5 : Touch 65593 s x5 := by
          unfold x5
          exact inc64_only.step rfl (inc64_only.step rfl (by assumption))
        clear_value x5
        exact OutTouch.ok (barSeen_only.step rfl (by assumption))

theorem execInspectionComplete_only {s : State} {v0 v1 v2 v3} : OutTouch 71217 s (@execInspectionComplete v0 v1 v2 v3 s) := by
  have h : Touch 71217 s s := Touch.refl
  unfold execInspectionComplete
  extract_lets +onlyGivenNames x1
  have h1 : Touch 71217 s x1 := by
    unfold x1
    exact atTime_only.step rfl (by assumption)
  clear_value x1
  split
  · exact OutTouch.ok (by assumption)
  · refine OutTouch.ite ?_ ?_
    · exact OutTouch.ok (by assumption)
    · split
      · exact OutTouch.ok (inc32_only.step rfl (by assumption))
      · refine OutTouch.ite ?_ ?_
        · exact OutTouch.ok (inc32_only.step rfl (by assumption))
        · extract_lets +onlyGivenNames x2
          clear_value x2
          extract_lets +onlyGivenNames x3
          have h3 : Touch 71217 s x3 := by
            unfold x3
            refine Touch.ite ?_ ?_
            · exact inc32_only.step rfl (by assumption)
            · exact noteStreaks_only.step rfl (inc64_only.step rfl (by assumption))
          clear_value x3
          exact OutTouch.ok (camResult_only.step rfl (by assumption))

theorem execStagingComplete_only {s : State} {v0 v1} : OutTouch 98353 s (@execStagingComplete v0 v1 s) := by
  have h : Touch 98353 s s := Touch.refl
  unfold execStagingComplete
  extract_lets +onlyGivenNames x1
  have h1 : Touch 98353 s x1 := by
    unfold x1
    exact atTime_only.step rfl (by assumption)
  clear_value x1
  extract_lets +onlyGivenNames x2
  extract_lets +onlyGivenNames x3
  have h3 : Touch 98353 s x3 := by
    unfold x3
    exact setInsp_only.step rfl (by assumption)
  clear_value x3
  exact OutTouch.ok (staged_only.step rfl (by assumption))

theorem execMapSaved_only {s : State} {v0 v1} : OutTouch 65537 s (@execMapSaved v0 v1 s) := by
  have h : Touch 65537 s s := Touch.refl
  unfold execMapSaved
  extract_lets +onlyGivenNames x1
  have h1 : Touch 65537 s x1 := by
    unfold x1
    exact atTime_only.step rfl (by assumption)
  clear_value x1
  extract_lets +onlyGivenNames x2
  clear_value x2
  extract_lets +onlyGivenNames x3
  extract_lets +onlyGivenNames x4
  have h4 : Touch 65537 s x4 := by
    unfold x4
    exact setInsp_only.step rfl (by assumption)
  clear_value x4
  exact OutTouch.ok (setn_only.step rfl (by assumption))

theorem countPixels_only {s : State} {v1 v2 v3 v4} : Touch 262145 s (@State.countPixels s v1 v2 v3 v4) := by
  have h : Touch 262145 s s := Touch.refl
  unfold State.countPixels
  refine Touch.ite ?_ ?_
  · extract_lets +onlyGivenNames x1
    have h1 : Touch 262145 s x1 := by
      unfold x1
      exact bump_only.step rfl (by assumption)
    clear_value x1
    refine Touch.ite ?_ ?_
    · exact bump_only.step rfl (by assumption)
    · exact bump_only.step rfl (by assumption)
  · refine Touch.ite ?_ ?_
    · refine Touch.trans (b := s) ?_ { objects := .inl rfl, beam := .inl rfl }
      assumption
    · assumption

theorem chargeScan_only {s : State} {v1 v2 v3} : Touch 512 s (@State.chargeScan s v1 v2 v3) := by
  have h : Touch 512 s s := Touch.refl
  unfold State.chargeScan
  refine Touch.foldl ?_ (fun y1 z1 h1 => ?_)
  · assumption
  · exact chargeItem_only.step rfl (by assumption)

theorem settleScan_only {s : State} {v1 v2} : Touch 262657 s (@State.settleScan s v1 v2) := by
  have h : Touch 262657 s s := Touch.refl
  unfold State.settleScan
  extract_lets +onlyGivenNames x1
  clear_value x1
  split
  · assumption
  · extract_lets +onlyGivenNames x2
    clear_value x2
    extract_lets +onlyGivenNames x3
    clear_value x3
    extract_lets +onlyGivenNames x4
    have h4 : Touch 262657 s x4 := by
      unfold x4
      exact setUnit_only.step rfl (by assumption)
    clear_value x4
    refine Touch.ite ?_ ?_
    · assumption
    · extract_lets +onlyGivenNames x5
      have h5 : Touch 262657 s x5 := by
        unfold x5
        exact countPixels_only.step rfl (by assumption)
      clear_value x5
      refine Touch.ite ?_ ?_
      · exact chargeScan_only.step rfl (by assumption)
      · assumption

theorem unitEnter_only {s : State} {v1 v2 v3} : Touch 262193 s (@State.unitEnter s v1 v2 v3) := by
  have h : Touch 262193 s s := Touch.refl
  unfold State.unitEnter
  extract_lets +onlyGivenNames x1
  clear_value x1
  extract_lets +onlyGivenNames x2
  have h2 : Touch 262193 s x2 := by
    unfold x2
    exact setUnit_only.step rfl (by assumption)
  clear_value x2
  extract_lets +onlyGivenNames x3
  have h3 : Touch 262193 s x3 := by
    unfold x3
    exact setn_only.step rfl (setn_only.step rfl (by assumption))
  clear_value x3
  exact event_only.step rfl (by assumption)

theorem unitSafe_only {s : State} {v1} : Touch 262705 s (@State.unitSafe s v1) := by
  have h : Touch 262705 s s := Touch.refl
  unfold State.unitSafe
  refine Touch.ite ?_ ?_
  · assumption
  · extract_lets +onlyGivenNames x1
    have h1 : Touch 262705 s x1 := by
      unfold x1
      exact settleScan_only.step rfl (by assumption)
    clear_value x1
    exact unitEnter_only.step rfl (setUnit_only.step rfl (by assumption))

theorem unitWait_only {s : State} {v1} : Touch 262193 s (@State.unitWait s v1) := by
  have h : Touch 262193 s s := Touch.refl
  unfold State.unitWait
  extract_lets +onlyGivenNames x1
  have h1 : Touch 262193 s x1 := by
    unfold x1
    exact unitEnter_only.step rfl (by assumption)
  clear_value x1
  refine Touch.ite ?_ ?_
  · exact unitEnter_only.step rfl (by assumption)
  · assumption

theorem unitConfigured_only {s : State} {v1 v2} : Touch 262705 s (@State.unitConfigured s v1 v2) := by
  have h : Touch 262705 s s := Touch.refl
  unfold State.unitConfigured
  extract_lets +onlyGivenNames x1
  clear_value x1
  refine Touch.ite ?_ ?_
  · refine Touch.ite ?_ ?_
    · assumption
    · extract_lets +onlyGivenNames x2
      have h2 : Touch 262705 s x2 := by
        unfold x2
        exact settleScan_only.step rfl (by assumption)
      clear_value x2
      exact unitEnter_only.step rfl (setUnit_only.step rfl (by assumption))
  · refine Touch.ite ?_ ?_
    · exact unitWait_only.step rfl (by assumption)
    · refine Touch.ite ?_ ?_
      · exact unitWait_only.step rfl (by assumption)
      · assumption

theorem beamReset_only {s : State} {v1} : Touch 1 s (@State.beamReset s v1) := by
  have h : Touch 1 s s := Touch.refl
  unfold State.beamReset
  refine Touch.foldl ?_ (fun y1 z1 h1 => ?_)
  · assumption
  · exact setn_only.step rfl (by assumption)

theorem unlock_only {s : State} {v1 v2} : Touch 266801 s (@State.unlock s v1 v2) := by
  have h : Touch 266801 s s := Touch.refl
  unfold State.unlock
  extract_lets +onlyGivenNames x1
  clear_value x1
  extract_lets +onlyGivenNames x2
  have h2 : Touch 266801 s x2 := by
    unfold x2
    exact setUnit_only.step rfl (by assumption)
  clear_value x2
  refine Touch.ite ?_ ?_
  · assumption
  · extract_lets +onlyGivenNames x3
    have h3 : Touch 266801 s x3 := by
      unfold x3
      exact settleScan_only.step rfl (by assumption)
    clear_value x3
    extract_lets +onlyGivenNames x4
    clear_value x4
    extract_lets +onlyGivenNames x5
    have h5 : Touch 266801 s x5 := by
      unfold x5
      exact setUnit_only.step rfl (by assumption)
    clear_value x5
    extract_lets +onlyGivenNames x6
    have h6 : Touch 266801 s x6 := by
      unfold x6
      exact inc32_only.step rfl (unitEnter_only.step rfl (by assumption))
    clear_value x6
    refine Touch.ite ?_ ?_
    · exact disposeAll_only.step rfl (by assumption)
    · assumption

theorem pixelClockLost_only {s : State} : Touch 266801 s (@State.pixelClockLost s) := by
  have h : Touch 266801 s s := Touch.refl
  unfold State.pixelClockLost
  exact unlock_only.step rfl (unlock_only.step rfl (by assumption))

theorem endScan_only {s : State} {v1} : Touch 266801 s (@State.endScan s v1) := by
  have h : Touch 266801 s s := Touch.refl
  unfold State.endScan
  split
  · exact passBeam_only.step rfl (settleScan_only.step rfl (by assumption))
  · assumption

theorem noteBd_only {s : State} {v1 v2} : Touch 262145 s (@State.noteBd s v1 v2) := by
  have h : Touch 262145 s s := Touch.refl
  unfold State.noteBd
  extract_lets +onlyGivenNames x1
  clear_value x1
  extract_lets +onlyGivenNames x2
  clear_value x2
  extract_lets +onlyGivenNames x3
  have h3 : Touch 262145 s x3 := by
    unfold x3
    exact setUnit_only.step rfl (by assumption)
  clear_value x3
  exact setn_only.step rfl (by assumption)

theorem skipScan_only {s : State} {v1 v2} : Touch 513 s (@State.skipScan s v1 v2) := by
  have h : Touch 513 s s := Touch.refl
  unfold State.skipScan
  extract_lets +onlyGivenNames x1
  clear_value x1
  extract_lets +onlyGivenNames x2
  clear_value x2
  extract_lets +onlyGivenNames x3
  clear_value x3
  extract_lets +onlyGivenNames x4
  have h4 : Touch 513 s x4 := by
    unfold x4
    refine Touch.ite ?_ ?_
    · exact bump_only.step rfl (bump_only.step rfl (by assumption))
    · assumption
  clear_value x4
  exact chargeScan_only.step rfl (inc64_only.step rfl (by assumption))

theorem selectLine_only {s : State} {v1} : Touch 283313 s (@State.selectLine s v1) := by
  have h : Touch 283313 s s := Touch.refl
  unfold State.selectLine
  extract_lets +onlyGivenNames x1
  clear_value x1
  extract_lets +onlyGivenNames x2
  clear_value x2
  extract_lets +onlyGivenNames x3
  clear_value x3
  extract_lets +onlyGivenNames x4
  clear_value x4
  refine Touch.ite ?_ ?_
  · exact inc64_only.step rfl (setUnit_only.step rfl (by assumption))
  · extract_lets +onlyGivenNames x5
    clear_value x5
    extract_lets +onlyGivenNames x6
    have h6 : Touch 283313 s x6 := by
      unfold x6
      refine Touch.foldl ?_ (fun y7 z7 h7 => ?_)
      · assumption
      · exact skipScan_only.step rfl (by assumption)
    clear_value x6
    extract_lets +onlyGivenNames x8
    have h8 : Touch 283313 s x8 := by
      unfold x8
      refine Touch.ite ?_ ?_
      · assumption
      · exact event_only.step rfl (by assumption)
    clear_value x8
    extract_lets +onlyGivenNames x9
    clear_value x9
    extract_lets +onlyGivenNames x10
    clear_value x10
    extract_lets +onlyGivenNames x11
    clear_value x11
    extract_lets +onlyGivenNames x12
    clear_value x12
    extract_lets +onlyGivenNames x13
    clear_value x13
    extract_lets +onlyGivenNames x14
    clear_value x14
    extract_lets +onlyGivenNames x15
    have h15 : Touch 283313 s x15 := by
      unfold x15
      exact setGrid_only.step rfl (by assumption)
    clear_value x15
    extract_lets +onlyGivenNames x16
    clear_value x16
    extract_lets +onlyGivenNames x17
    have h17 : Touch 283313 s x17 := by
      unfold x17
      exact setUnit_only.step rfl (by assumption)
    clear_value x17
    extract_lets +onlyGivenNames x18
    have h18 : Touch 283313 s x18 := by
      unfold x18
      exact setn_only.step rfl (by assumption)
    clear_value x18
    extract_lets +onlyGivenNames x19
    have h19 : Touch 283313 s x19 := by
      unfold x19
      exact setItems_only.step rfl (by assumption)
    clear_value x19
    extract_lets +onlyGivenNames x20
    have h20 : Touch 283313 s x20 := by
      unfold x20
      refine Touch.foldl ?_ (fun y21 z21 h21 => ?_)
      · assumption
      · refine Touch.ite ?_ ?_
        · refine Touch.setFire (.inl rfl) (.inr rfl) ?_
          assumption
        · assumption
    clear_value x20
    extract_lets +onlyGivenNames x22
    have h22 : Touch 283313 s x22 := by
      unfold x22
      refine Touch.ite ?_ ?_
      · refine Touch.foldl ?_ (fun y23 z23 h23 => ?_)
        · assumption
        · exact dispose_only.step rfl (by assumption)
      · assumption
    clear_value x22
    refine Touch.ite ?_ ?_
    · extract_lets +onlyGivenNames x24
      clear_value x24
      extract_lets +onlyGivenNames x25
      have h25 : Touch 283313 s x25 := by
        unfold x25
        refine Touch.foldl ?_ (fun y26 z26 h26 => ?_)
        · assumption
        · exact dispose_only.step rfl (by assumption)
      clear_value x25
      refine Touch.ite ?_ ?_
      · assumption
      · exact rampCheck_only.step rfl (setReason_only.step rfl (by assumption))
    · assumption

theorem beginScan_only {s : State} {v1 v2} : Touch 262657 s (@State.beginScan s v1 v2) := by
  have h : Touch 262657 s s := Touch.refl
  unfold State.beginScan
  extract_lets +onlyGivenNames x1
  clear_value x1
  split
  · assumption
  · extract_lets +onlyGivenNames x2
    clear_value x2
    extract_lets +onlyGivenNames x3
    have h3 : Touch 262657 s x3 := by
      unfold x3
      exact setUnit_only.step rfl (by assumption)
    clear_value x3
    extract_lets +onlyGivenNames x4
    have h4 : Touch 262657 s x4 := by
      unfold x4
      exact inc64_only.step rfl (by assumption)
    clear_value x4
    refine Touch.ite ?_ ?_
    · assumption
    · extract_lets +onlyGivenNames x5
      clear_value x5
      exact setItems_only.step rfl (by assumption)

theorem bdEmitting_only {s : State} {v1 v2} : Touch 283313 s (@State.bdEmitting s v1 v2) := by
  have h : Touch 283313 s s := Touch.refl
  unfold State.bdEmitting
  refine Touch.ite ?_ ?_
  · exact unlock_only.step rfl (by assumption)
  · exact advise_only.step rfl (lookCheck_only.step rfl (selectLine_only.step rfl (beginScan_only.step rfl
      (by assumption))))

theorem bdWaiting_only {s : State} {v1} : Touch 266929 s (@State.bdWaiting s v1) := by
  have h : Touch 266929 s s := Touch.refl
  unfold State.bdWaiting
  extract_lets +onlyGivenNames x1
  have h1 : Touch 266929 s x1 := by
    unfold x1
    exact beamIdle_only.step rfl (by assumption)
  clear_value x1
  extract_lets +onlyGivenNames x2
  have h2 : Touch 266929 s x2 := by
    unfold x2
    refine Touch.ite ?_ ?_
    · exact unitEnter_only.step rfl (by assumption)
    · assumption
  clear_value x2
  refine Touch.ite ?_ ?_
  · exact advise_only.step rfl (unitEnter_only.step rfl (by assumption))
  · assumption

theorem runBdEdge_only {s : State} {v0 v1 v2 v3} : OutTouch 176444091 s (@runBdEdge v0 v1 v2 v3 s) := by
  have h : Touch 176444091 s s := Touch.refl
  unfold runBdEdge
  extract_lets +onlyGivenNames x1
  have h1 : Touch 176444091 s x1 := by
    unfold x1
    exact moveX_only.step rfl (atTime_only.step rfl (by assumption))
  clear_value x1
  extract_lets +onlyGivenNames x2
  clear_value x2
  refine OutTouch.ite ?_ ?_
  · exact OutTouch.ok (by assumption)
  · extract_lets +onlyGivenNames x3
    clear_value x3
    extract_lets +onlyGivenNames x4
    clear_value x4
    extract_lets +onlyGivenNames x5
    have h5 : Touch 176444091 s x5 := by
      unfold x5
      exact noteBd_only.step rfl (endScan_only.step rfl (by assumption))
    clear_value x5
    extract_lets +onlyGivenNames x6
    have h6 : Touch 176444091 s x6 := by
      unfold x6
      exact unitConfigured_only.step rfl (applyLine_only.step rfl (by assumption))
    clear_value x6
    refine OutTouch.ok ?_
    refine Touch.ite ?_ ?_
    · exact bdEmitting_only.step rfl (by assumption)
    · exact bdWaiting_only.step rfl (by assumption)

theorem execLaserIlkLow_only {s : State} {v0 v1} : OutTouch 262657 s (@execLaserIlkLow v0 v1 s) := by
  have h : Touch 262657 s s := Touch.refl
  unfold execLaserIlkLow
  extract_lets +onlyGivenNames x1
  have h1 : Touch 262657 s x1 := by
    unfold x1
    exact atTime_only.step rfl (by assumption)
  clear_value x1
  extract_lets +onlyGivenNames x2
  clear_value x2
  extract_lets +onlyGivenNames x3
  have h3 : Touch 262657 s x3 := by
    unfold x3
    exact settleScan_only.step rfl (by assumption)
  clear_value x3
  exact OutTouch.ok (setUnit_only.step rfl (by assumption))

theorem execBdTimeout_only {s : State} {v0 v1} : OutTouch 266929 s (@execBdTimeout v0 v1 s) := by
  have h : Touch 266929 s s := Touch.refl
  unfold execBdTimeout
  extract_lets +onlyGivenNames x1
  have h1 : Touch 266929 s x1 := by
    unfold x1
    exact moveX_only.step rfl (atTime_only.step rfl (by assumption))
  clear_value x1
  extract_lets +onlyGivenNames x2
  clear_value x2
  split
  · extract_lets +onlyGivenNames x3
    clear_value x3
    refine OutTouch.ite ?_ ?_
    · exact OutTouch.ok (by assumption)
    · extract_lets +onlyGivenNames x4
      have h4 : Touch 266929 s x4 := by
        unfold x4
        exact unlock_only.step rfl (by assumption)
      clear_value x4
      exact OutTouch.ok (beamIdle_only.step rfl (setUnit_only.step rfl (by assumption)))
  · exact OutTouch.ok (beamIdle_only.step rfl (by assumption))

theorem setPll_only {s : State} {v1 v2} : Touch 268435456 s (@State.setPll s v1 v2) := by
  have h : Touch 268435456 s s := Touch.refl
  unfold State.setPll
  refine Touch.trans (b := s) ?_ { plls := .inl rfl }
  assumption

theorem tune_only {s : State} {v1 v2} : Touch 268435457 s (@State.tune s v1 v2) := by
  have h : Touch 268435457 s s := Touch.refl
  unfold State.tune
  extract_lets +onlyGivenNames x1
  clear_value x1
  extract_lets +onlyGivenNames x2
  clear_value x2
  extract_lets +onlyGivenNames x3
  clear_value x3
  extract_lets +onlyGivenNames x4
  have h4 : Touch 268435457 s x4 := by
    unfold x4
    exact setn_only.step rfl (setn_only.step rfl (by assumption))
  clear_value x4
  extract_lets +onlyGivenNames x5
  have h5 : Touch 268435457 s x5 := by
    unfold x5
    exact setn_only.step rfl (by assumption)
  clear_value x5
  extract_lets +onlyGivenNames x6
  clear_value x6
  extract_lets +onlyGivenNames x7
  have h7 : Touch 268435457 s x7 := by
    unfold x7
    exact seti_only.step rfl (by assumption)
  clear_value x7
  extract_lets +onlyGivenNames x8
  have h8 : Touch 268435457 s x8 := by
    unfold x8
    exact seti_only.step rfl (by assumption)
  clear_value x8
  exact setPll_only.step rfl (by assumption)

theorem relock_only {s : State} {v1} : Touch 268702257 s (@State.relock s v1) := by
  have h : Touch 268702257 s s := Touch.refl
  unfold State.relock
  extract_lets +onlyGivenNames x1
  clear_value x1
  extract_lets +onlyGivenNames x2
  clear_value x2
  extract_lets +onlyGivenNames x3
  clear_value x3
  extract_lets +onlyGivenNames x4
  have h4 : Touch 268702257 s x4 := by
    unfold x4
    exact setPll_only.step rfl (by assumption)
  clear_value x4
  extract_lets +onlyGivenNames x5
  have h5 : Touch 268702257 s x5 := by
    unfold x5
    exact setn_only.step rfl (tune_only.step rfl (by assumption))
  clear_value x5
  refine Touch.ite ?_ ?_
  · exact pixelClockLost_only.step rfl (by assumption)
  · assumption

theorem pllDone_only {s : State} {v1} : Touch 176160792 s (@State.pllDone s v1) := by
  have h : Touch 176160792 s s := Touch.refl
  unfold State.pllDone
  extract_lets +onlyGivenNames x1
  extract_lets +onlyGivenNames x2
  have h2 : Touch 176160792 s x2 := by
    unfold x2
    refine Touch.trans (b := s) ?_ { changeLog := .inl rfl, sessions := .inl rfl, power := .inl rfl, pair := .inl rfl, integrator := .inl rfl }
    assumption
  clear_value x2
  exact release_only.step rfl (by assumption)

theorem glide_only {s : State} {v1 v2} : Touch 444596249 s (@State.glide s v1 v2) := by
  have h : Touch 444596249 s s := Touch.refl
  unfold State.glide
  extract_lets +onlyGivenNames x1
  have h1 : Touch 444596249 s x1 := by
    unfold x1
    refine Touch.ite ?_ ?_
    · exact pllDone_only.step rfl (by assumption)
    · assumption
  clear_value x1
  exact setn_only.step rfl (setPll_only.step rfl (by assumption))

theorem stopWalk_only {s : State} {v1} : Touch 4294967297 s (@State.stopWalk s v1) := by
  have h : Touch 4294967297 s s := Touch.refl
  unfold State.stopWalk
  refine Touch.ite ?_ ?_
  · assumption
  · extract_lets +onlyGivenNames x1
    clear_value x1
    extract_lets +onlyGivenNames x2
    clear_value x2
    extract_lets +onlyGivenNames x3
    have h3 : Touch 4294967297 s x3 := by
      unfold x3
      exact setn_only.step rfl (by assumption)
    clear_value x3
    extract_lets +onlyGivenNames x4
    have h4 : Touch 4294967297 s x4 := by
      unfold x4
      exact freeNext_only.step rfl (by assumption)
    clear_value x4
    exact freeNext_only.step rfl (setn_only.step rfl (by assumption))

theorem holdover_only {s : State} {v1} : Touch 4563402753 s (@State.holdover s v1) := by
  have h : Touch 4563402753 s s := Touch.refl
  unfold State.holdover
  extract_lets +onlyGivenNames x1
  have h1 : Touch 4563402753 s x1 := by
    unfold x1
    exact stopWalk_only.step rfl (by assumption)
  clear_value x1
  exact setn_only.step rfl (setPll_only.step rfl (by assumption))

theorem pllLost_only {s : State} {v1} : Touch 4563669553 s (@State.pllLost s v1) := by
  have h : Touch 4563669553 s s := Touch.refl
  unfold State.pllLost
  refine Touch.ite ?_ ?_
  · exact relock_only.step rfl (by assumption)
  · exact holdover_only.step rfl (by assumption)

theorem execPllLockLoss_only {s : State} {v0 v1} : OutTouch 4563669553 s (@execPllLockLoss v0 v1 s) := by
  have h : Touch 4563669553 s s := Touch.refl
  unfold execPllLockLoss
  extract_lets +onlyGivenNames x1
  have h1 : Touch 4563669553 s x1 := by
    unfold x1
    exact atTime_only.step rfl (by assumption)
  clear_value x1
  refine OutTouch.ite ?_ ?_
  · exact OutTouch.ok (pllLost_only.step rfl (inc32_only.step rfl (by assumption)))
  · exact OutTouch.ok (by assumption)

theorem relocked_only {s : State} {v1} : Touch 444596249 s (@State.relocked s v1) := by
  have h : Touch 444596249 s s := Touch.refl
  unfold State.relocked
  extract_lets +onlyGivenNames x1
  clear_value x1
  extract_lets +onlyGivenNames x2
  have h2 : Touch 444596249 s x2 := by
    unfold x2
    exact setPll_only.step rfl (by assumption)
  clear_value x2
  extract_lets +onlyGivenNames x3
  have h3 : Touch 444596249 s x3 := by
    unfold x3
    exact setn_only.step rfl (setn_only.step rfl (by assumption))
  clear_value x3
  exact pllDone_only.step rfl (by assumption)

theorem execCrystalFault_only {s : State} {v0 v1} : OutTouch 4563402753 s (@execCrystalFault v0 v1 s) := by
  have h : Touch 4563402753 s s := Touch.refl
  unfold execCrystalFault
  extract_lets +onlyGivenNames x1
  have h1 : Touch 4563402753 s x1 := by
    unfold x1
    exact atTime_only.step rfl (by assumption)
  clear_value x1
  extract_lets +onlyGivenNames x2
  have h2 : Touch 4563402753 s x2 := by
    unfold x2
    exact setb_only.step rfl (setn_only.step rfl (by assumption))
  clear_value x2
  refine OutTouch.ok ?_
  refine Touch.foldl ?_ (fun y3 z3 h3 => ?_)
  · assumption
  · refine Touch.ite ?_ ?_
    · exact holdover_only.step rfl (by assumption)
    · assumption

theorem runPllGlideDone_only {s : State} {v0 v1} : OutTouch 444596249 s (@runPllGlideDone v0 v1 s) := by
  have h : Touch 444596249 s s := Touch.refl
  unfold runPllGlideDone
  extract_lets +onlyGivenNames x1
  have h1 : Touch 444596249 s x1 := by
    unfold x1
    exact atTime_only.step rfl (by assumption)
  clear_value x1
  refine OutTouch.ite ?_ ?_
  · exact OutTouch.ok (pllDone_only.step rfl (setn_only.step rfl (tune_only.step rfl (by assumption))))
  · exact OutTouch.ok (by assumption)

theorem execClockRangeFault_only {s : State} {v0 v1} : OutTouch 4563669553 s (@execClockRangeFault v0 v1 s) := by
  have h : Touch 4563669553 s s := Touch.refl
  unfold execClockRangeFault
  extract_lets +onlyGivenNames x1
  have h1 : Touch 4563669553 s x1 := by
    unfold x1
    exact atTime_only.step rfl (by assumption)
  clear_value x1
  extract_lets +onlyGivenNames x2
  clear_value x2
  refine OutTouch.ite ?_ ?_
  · exact OutTouch.ok (by assumption)
  · extract_lets +onlyGivenNames x3
    have h3 : Touch 4563669553 s x3 := by
      unfold x3
      exact inc32_only.step rfl (by assumption)
    clear_value x3
    refine OutTouch.ok ?_
    refine Touch.ite ?_ ?_
    · exact pllLost_only.step rfl (by assumption)
    · assumption

theorem put?_only {s : State} {v1 v2} : Touch 2097152 s (@State.put? s v1 v2) := by
  have h : Touch 2097152 s s := Touch.refl
  unfold State.put?
  split
  · exact store_only.step rfl (by assumption)
  · assumption
  · assumption
  · assumption
  · assumption

theorem fetched_only {s : State} {v1 v2} : Touch 4294967296 s (@State.fetched s v1 v2) := by
  have h : Touch 4294967296 s s := Touch.refl
  unfold State.fetched
  split
  · refine Touch.trans (b := s) ?_ { free := .inl rfl }
    assumption
  · assumption
  · assumption
  · assumption
  · assumption

theorem noteRefused_only {s : State} {v1} : Touch 1 s (@State.noteRefused s v1) := by
  have h : Touch 1 s s := Touch.refl
  unfold State.noteRefused
  refine Touch.ite ?_ ?_
  · exact inc32_only.step rfl (by assumption)
  · assumption

theorem runJob_only {s : State} {v1 v2 v3} : Touch 4297064449 s (@State.runJob s v1 v2 v3).1 := by
  have h : Touch 4297064449 s s := Touch.refl
  unfold State.runJob
  split
  · dsimp only
    assumption
  · extract_lets +onlyGivenNames x1
    clear_value x1
    extract_lets +onlyGivenNames x2
    clear_value x2
    extract_lets +onlyGivenNames x3
    clear_value x3
    extract_lets +onlyGivenNames x4
    clear_value x4
    extract_lets +onlyGivenNames x5
    clear_value x5
    extract_lets +onlyGivenNames x6
    clear_value x6
    extract_lets +onlyGivenNames x7
    clear_value x7
    extract_lets +onlyGivenNames x8
    clear_value x8
    extract_lets +onlyGivenNames x9
    have h9 : Touch 4297064449 s x9 := by
      unfold x9
      refine Touch.step put?_only rfl ?_
      exact fetched_only.step rfl (by assumption)
    clear_value x9
    extract_lets +onlyGivenNames x10
    have h10 : Touch 4297064449 s x10 := by
      unfold x10
      refine Touch.ite ?_ ?_
      · exact inc32_only.step rfl (by assumption)
      · assumption
    clear_value x10
    dsimp only
    assumption

theorem setCodec_only {s : State} {v1 v2} : Touch 524288 s (@State.setCodec s v1 v2) := by
  have h : Touch 524288 s s := Touch.refl
  unfold State.setCodec
  refine Touch.trans (b := s) ?_ { codec := .inl rfl }
  assumption

theorem setCodecQ_only {s : State} {v1 v2 v3} : Touch 524288 s (@State.setCodecQ s v1 v2 v3) := by
  have h : Touch 524288 s s := Touch.refl
  unfold State.setCodecQ
  extract_lets +onlyGivenNames x1
  clear_value x1
  exact setCodec_only.step rfl (by assumption)

theorem codecCount_only {s : State} {v1 v2 v3} : Touch 1 s (@State.codecCount s v1 v2 v3) := by
  have h : Touch 1 s s := Touch.refl
  unfold State.codecCount
  extract_lets +onlyGivenNames x1
  have h1 : Touch 1 s x1 := by
    unfold x1
    exact bump_only.step rfl (bump_only.step rfl (inc64_only.step rfl (by assumption)))
  clear_value x1
  extract_lets +onlyGivenNames x2
  have h2 : Touch 1 s x2 := by
    unfold x2
    refine Touch.ite ?_ ?_
    · exact setn_only.step rfl (inc32_only.step rfl (by assumption))
    · assumption
  clear_value x2
  refine Touch.ite ?_ ?_
  · exact setn_only.step rfl (by assumption)
  · assumption

theorem complete_only {s : State} {v1 v2 v3 v4} : Touch 2621441 s (@State.complete s v1 v2 v3 v4) := by
  have h : Touch 2621441 s s := Touch.refl
  unfold State.complete
  extract_lets +onlyGivenNames x1
  clear_value x1
  extract_lets +onlyGivenNames x2
  clear_value x2
  extract_lets +onlyGivenNames x3
  have h3 : Touch 2621441 s x3 := by
    unfold x3
    refine Touch.step put?_only rfl ?_
    assumption
  clear_value x3
  extract_lets +onlyGivenNames x4
  have h4 : Touch 2621441 s x4 := by
    unfold x4
    exact setCodecQ_only.step rfl (by assumption)
  clear_value x4
  exact codecCount_only.step rfl (by assumption)

theorem abortRest_only {s : State} {v1 v2 v3} : Touch 2621441 s (@State.abortRest s v1 v2 v3) := by
  induction v3 generalizing s with
  | zero => exact Touch.refl
  | succ n ih => exact ih.step rfl (complete_only.step rfl (setCodecQ_only.step rfl Touch.refl))

theorem startCodec_only {s : State} {v1} : Touch 4295491585 s (@State.startCodec s v1) := by
  have h : Touch 4295491585 s s := Touch.refl
  unfold State.startCodec
  extract_lets +onlyGivenNames x1
  clear_value x1
  extract_lets +onlyGivenNames x2
  clear_value x2
  extract_lets +onlyGivenNames x3
  clear_value x3
  refine Touch.ite ?_ ?_
  · assumption
  · extract_lets +onlyGivenNames x4
    clear_value x4
    extract_lets +onlyGivenNames x5
    clear_value x5
    extract_lets +onlyGivenNames x6
    clear_value x6
    extract_lets +onlyGivenNames x7
    have h7 : Touch 4295491585 s x7 := by
      unfold x7
      refine Touch.ite ?_ ?_
      · exact freeNext_only.step rfl (by assumption)
      · assumption
    clear_value x7
    extract_lets +onlyGivenNames x8
    clear_value x8
    extract_lets +onlyGivenNames x9
    clear_value x9
    extract_lets +onlyGivenNames x10
    clear_value x10
    extract_lets +onlyGivenNames x11
    clear_value x11
    extract_lets +onlyGivenNames x12
    have h12 : Touch 4295491585 s x12 := by
      unfold x12
      exact setCodecQ_only.step rfl (fetched_only.step rfl (noteRefused_only.step rfl (by assumption)))
    clear_value x12
    exact setCodec_only.step rfl (by assumption)

theorem abortQueue_only {s : State} {v1 v2 v3} : Touch 4297588737 s (@State.abortQueue s v1 v2 v3) := by
  have h : Touch 4297588737 s s := Touch.refl
  unfold State.abortQueue
  extract_lets +onlyGivenNames x1
  have h1 : Touch 4297588737 s x1 := by
    unfold x1
    split
    · refine Touch.ite ?_ ?_
      · extract_lets +onlyGivenNames x2
        have h2 : Touch 4297588737 s x2.1 := by
          unfold x2
          exact runJob_only.step rfl (by assumption)
        clear_value x2
        exact complete_only.step rfl (setCodec_only.step rfl (by assumption))
      · assumption
    · assumption
  clear_value x1
  extract_lets +onlyGivenNames x3
  have h3 : Touch 4297588737 s x3 := by
    unfold x3
    exact abortRest_only.step rfl (by assumption)
  clear_value x3
  exact startCodec_only.step rfl (setCodecQ_only.step rfl (by assumption))

theorem codecReset_only {s : State} {v1} : Touch 1 s (@State.codecReset s v1) := by
  have h : Touch 1 s s := Touch.refl
  unfold State.codecReset
  refine Touch.foldl ?_ (fun y1 z1 h1 => ?_)
  · assumption
  · exact setn_only.step rfl (by assumption)

theorem endArchive_only {s : State} {v1} : Touch 131073 s (@State.endArchive s v1) := by
  have h : Touch 131073 s s := Touch.refl
  unfold State.endArchive
  split
  · assumption
  · extract_lets +onlyGivenNames x1
    clear_value x1
    extract_lets +onlyGivenNames x2
    clear_value x2
    extract_lets +onlyGivenNames x3
    clear_value x3
    extract_lets +onlyGivenNames x4
    clear_value x4
    extract_lets +onlyGivenNames x5
    clear_value x5
    extract_lets +onlyGivenNames x6
    extract_lets +onlyGivenNames x7
    have h7 : Touch 131073 s x7 := by
      unfold x7
      refine Touch.trans (b := s) ?_ { objects := .inl rfl, cameras := .inl rfl }
      assumption
    clear_value x7
    refine Touch.ite ?_ ?_
    · extract_lets +onlyGivenNames x8
      have h8 : Touch 131073 s x8 := by
        unfold x8
        exact inc32_only.step rfl (codecCount_only.step rfl (by assumption))
      clear_value x8
      exact archPart_only.step rfl (by assumption)
    · extract_lets +onlyGivenNames x9
      have h9 : Touch 131073 s x9 := by
        unfold x9
        exact inc64_only.step rfl (codecCount_only.step rfl (by assumption))
      clear_value x9
      exact archPart_only.step rfl (by assumption)

theorem codecReg_only {s : State} {v1 v2 v3 v4} : Touch 524288 s (@State.codecReg s v1 v2 v3 v4) := by
  have h : Touch 524288 s s := Touch.refl
  unfold State.codecReg
  extract_lets +onlyGivenNames x1
  clear_value x1
  extract_lets +onlyGivenNames x2
  refine Touch.ite ?_ ?_
  · dsimp only [x2]
    exact setCodecQ_only.step rfl (by assumption)
  · refine Touch.ite ?_ ?_
    · assumption
    · refine Touch.ite ?_ ?_
      · dsimp only [x2]
        exact setCodecQ_only.step rfl (by assumption)
      · refine Touch.ite ?_ ?_
        · dsimp only [x2]
          exact setCodecQ_only.step rfl (by assumption)
        · refine Touch.ite ?_ ?_
          · dsimp only [x2]
            exact setCodecQ_only.step rfl (by assumption)
          · assumption

theorem execCodecAbort_only {s : State} {v0 v1 v2 v3} : OutTouch 4297588737 s (@execCodecAbort v0 v1 v2 v3 s) := by
  have h : Touch 4297588737 s s := Touch.refl
  unfold execCodecAbort
  exact OutTouch.ok (abortQueue_only.step rfl (atTime_only.step rfl (by assumption)))

theorem saveCtx_only {s : State} {v1 v2} : Touch 2621440 s (@State.saveCtx s v1 v2) := by
  have h : Touch 2621440 s s := Touch.refl
  unfold State.saveCtx
  refine Touch.ite ?_ ?_
  · assumption
  · split
    · extract_lets +onlyGivenNames x1
      clear_value x1
      extract_lets +onlyGivenNames x2
      have h2 : Touch 2621440 s x2 := by
        unfold x2
        exact store_only.step rfl (by assumption)
      clear_value x2
      refine Touch.trans (b := x2) ?_ { codec := .inl rfl, memory := .inl rfl }
      assumption
    · assumption
    · assumption
    · assumption
    · assumption

theorem endJob_only {s : State} {v1 v2 v3 v4} : Touch 4297588737 s (@State.endJob s v1 v2 v3 v4) := by
  have h : Touch 4297588737 s s := Touch.refl
  unfold State.endJob
  extract_lets +onlyGivenNames x1
  clear_value x1
  extract_lets +onlyGivenNames x2
  have h2 : Touch 4297588737 s x2 := by
    unfold x2
    exact setCodec_only.step rfl (by assumption)
  clear_value x2
  extract_lets +onlyGivenNames x3
  have h3 : Touch 4297588737 s x3 := by
    unfold x3
    refine Touch.ite ?_ ?_
    · exact saveCtx_only.step rfl (by assumption)
    · assumption
  clear_value x3
  exact startCodec_only.step rfl (complete_only.step rfl (by assumption))

theorem execCodecDoorbell_only {s : State} {v0 v1 v2 v3} : OutTouch 4295491585 s (@execCodecDoorbell v0 v1 v2 v3 s) := by
  have h : Touch 4295491585 s s := Touch.refl
  unfold execCodecDoorbell
  extract_lets +onlyGivenNames x1
  have h1 : Touch 4295491585 s x1 := by
    unfold x1
    exact atTime_only.step rfl (by assumption)
  clear_value x1
  extract_lets +onlyGivenNames x2
  clear_value x2
  refine OutTouch.ite ?_ ?_
  · exact OutTouch.ok (inc32_only.step rfl (by assumption))
  · exact OutTouch.ok (startCodec_only.step rfl (setCodecQ_only.step rfl (by assumption)))

theorem execCodecBusTimeout_only {s : State} {v0 v1 v2} : OutTouch 4297588737 s (@execCodecBusTimeout v0 v1 v2 s) := by
  have h : Touch 4297588737 s s := Touch.refl
  unfold execCodecBusTimeout
  extract_lets +onlyGivenNames x1
  have h1 : Touch 4297588737 s x1 := by
    unfold x1
    exact atTime_only.step rfl (by assumption)
  clear_value x1
  split
  · exact OutTouch.ok (by assumption)
  · extract_lets +onlyGivenNames x2
    have h2 : Touch 4297588737 s x2.1 := by
      unfold x2
      exact runJob_only.step rfl (by assumption)
    clear_value x2
    exact OutTouch.ok (endJob_only.step rfl (by assumption))

theorem execCodecQueueEnable_only {s : State} {v0 v1 v2 v3} : OutTouch 4295491585 s (@execCodecQueueEnable v0 v1 v2 v3 s) := by
  have h : Touch 4295491585 s s := Touch.refl
  unfold execCodecQueueEnable
  extract_lets +onlyGivenNames x1
  have h1 : Touch 4295491585 s x1 := by
    unfold x1
    exact atTime_only.step rfl (by assumption)
  clear_value x1
  exact OutTouch.ok (startCodec_only.step rfl (setCodecQ_only.step rfl (by assumption)))

theorem endLayer_only {s : State} {v1 v2 v3} : Touch 4657 s (@State.endLayer s v1 v2 v3) := by
  have h : Touch 4657 s s := Touch.refl
  unfold State.endLayer
  split
  · assumption
  · split
    · assumption
    · extract_lets +onlyGivenNames x1
      clear_value x1
      extract_lets +onlyGivenNames x2
      clear_value x2
      refine Touch.ite ?_ ?_
      · assumption
      · extract_lets +onlyGivenNames x3
        clear_value x3
        extract_lets +onlyGivenNames x4
        clear_value x4
        extract_lets +onlyGivenNames x5
        clear_value x5
        extract_lets +onlyGivenNames x6
        clear_value x6
        extract_lets +onlyGivenNames x7
        clear_value x7
        extract_lets +onlyGivenNames x8
        have h8 : Touch 4657 s x8 := by
          unfold x8
          exact modItem_only.step rfl (by assumption)
        clear_value x8
        extract_lets +onlyGivenNames x9
        have h9 : Touch 4657 s x9 := by
          unfold x9
          exact codecCount_only.step rfl (by assumption)
        clear_value x9
        refine Touch.ite ?_ ?_
        · assumption
        · exact composeError_only.step rfl (by assumption)

theorem execCodecJobEnd_only {s : State} {v0 v1 v2 v3 v4 v5 v6} : OutTouch 4297724465 s (@execCodecJobEnd v0 v1 v2 v3 v4 v5 v6 s) := by
  have h : Touch 4297724465 s s := Touch.refl
  unfold execCodecJobEnd
  extract_lets +onlyGivenNames x1
  have h1 : Touch 4297724465 s x1 := by
    unfold x1
    exact atTime_only.step rfl (by assumption)
  clear_value x1
  extract_lets +onlyGivenNames x2
  refine OutTouch.ite ?_ ?_
  · refine OutTouch.ite ?_ ?_
    · exact OutTouch.ok (endLayer_only.step rfl (by assumption))
    · exact OutTouch.ok (by assumption)
  · refine OutTouch.ite ?_ ?_
    · refine OutTouch.ite ?_ ?_
      · refine OutTouch.ok ?_
        refine Touch.step endArchive_only rfl ?_
        dsimp only [x2]
        exact bump_only.step rfl (by assumption)
      · exact OutTouch.ok (by assumption)
    · split
      · exact OutTouch.ok (by assumption)
      · refine OutTouch.ite ?_ ?_
        · exact OutTouch.ok (by assumption)
        · extract_lets +onlyGivenNames x3
          have h3 : Touch 4297724465 s x3.1 := by
            unfold x3
            exact runJob_only.step rfl (by assumption)
          clear_value x3
          extract_lets +onlyGivenNames x4
          clear_value x4
          refine OutTouch.ok ?_
          refine Touch.step endJob_only rfl ?_
          dsimp only [x2]
          exact bump_only.step rfl (by assumption)

theorem setDma_only {s : State} {v1 v2} : Touch 1048577 s (@State.setDma s v1 v2) := by
  have h : Touch 1048577 s s := Touch.refl
  unfold State.setDma
  refine Touch.step setn_only rfl ?_
  refine Touch.trans (b := s) ?_ { objects := .inl rfl, dma := .inl rfl }
  assumption

theorem dmaReset_only {s : State} {v1} : Touch 1 s (@State.dmaReset s v1) := by
  have h : Touch 1 s s := Touch.refl
  unfold State.dmaReset
  refine Touch.foldl ?_ (fun y1 z1 h1 => ?_)
  · assumption
  · exact setn_only.step rfl (by assumption)

theorem runDesc_only {s : State} {v1 v2 v3 v4} : Touch 4297064449 s (@State.runDesc s v1 v2 v3 v4).1 := by
  have h : Touch 4297064449 s s := Touch.refl
  unfold State.runDesc
  extract_lets +onlyGivenNames x1
  clear_value x1
  extract_lets +onlyGivenNames x2
  clear_value x2
  extract_lets +onlyGivenNames x3
  clear_value x3
  extract_lets +onlyGivenNames x4
  clear_value x4
  extract_lets +onlyGivenNames x5
  clear_value x5
  extract_lets +onlyGivenNames x6
  clear_value x6
  extract_lets +onlyGivenNames x7
  clear_value x7
  split
  · extract_lets +onlyGivenNames x8
    clear_value x8
    extract_lets +onlyGivenNames x9
    clear_value x9
    extract_lets +onlyGivenNames x10
    have h10 : Touch 4297064449 s x10 := by
      unfold x10
      refine Touch.step put?_only rfl ?_
      assumption
    clear_value x10
    split
    · extract_lets +onlyGivenNames x11
      clear_value x11
      dsimp only
      exact noteRefused_only.step rfl (by assumption)
    · dsimp only
      assumption
  · extract_lets +onlyGivenNames x12
    clear_value x12
    extract_lets +onlyGivenNames x13
    clear_value x13
    extract_lets +onlyGivenNames x14
    clear_value x14
    extract_lets +onlyGivenNames x15
    clear_value x15
    extract_lets +onlyGivenNames x16
    clear_value x16
    extract_lets +onlyGivenNames x17
    have h17 : Touch 4297064449 s x17 := by
      unfold x17
      exact fetched_only.step rfl (by assumption)
    clear_value x17
    split
    · extract_lets +onlyGivenNames x18
      have h18 : Touch 4297064449 s x18 := by
        unfold x18
        refine Touch.step put?_only rfl ?_
        assumption
      clear_value x18
      split
      · dsimp only
        exact noteRefused_only.step rfl (by assumption)
      · dsimp only
        assumption
    · extract_lets +onlyGivenNames x19
      clear_value x19
      extract_lets +onlyGivenNames x20
      have h20 : Touch 4297064449 s x20 := by
        unfold x20
        exact fetched_only.step rfl (by assumption)
      clear_value x20
      extract_lets +onlyGivenNames x21
      clear_value x21
      split
      · dsimp only
        assumption
      · split
        · dsimp only
          exact noteRefused_only.step rfl (by assumption)
        · dsimp only
          assumption

theorem runChain_only {s : State} {v0 v1 v3} : Touch 4298113025 s (@State.runChain v0 v1 s v3).1 := by
  induction v1 generalizing s v3 with
  | zero => exact Touch.refl
  | succ n ih =>
    unfold State.runChain
    extract_lets +onlyGivenNames x integ
    split
    · exact Touch.refl
    · extract_lets +onlyGivenNames p
      split
      · exact noteRefused_only.step rfl Touch.refl
      · extract_lets +onlyGivenNames b t
        have ht : Touch 4298113025 s t := fetched_only.step rfl Touch.refl
        clear_value t
        split
        · exact ht
        · extract_lets +onlyGivenNames x1 x2 r y
          have hr : Touch 4298113025 s r.1 := runDesc_only.step rfl (setDma_only.step rfl ht)
          clear_value r
          split
          · exact setDma_only.step rfl hr
          · extract_lets +onlyGivenNames flags y1
            split
            · exact ih.step rfl (setDma_only.step rfl hr)
            · exact setDma_only.step rfl hr

theorem endChain_only {s : State} {v1 v2 v3 v4 v5} : Touch 1048577 s (@State.endChain s v1 v2 v3 v4 v5) := by
  have h : Touch 1048577 s s := Touch.refl
  unfold State.endChain
  extract_lets +onlyGivenNames x1
  clear_value x1
  extract_lets +onlyGivenNames x2
  have h2 : Touch 1048577 s x2 := by
    unfold x2
    exact setDma_only.step rfl (by assumption)
  clear_value x2
  extract_lets +onlyGivenNames x3
  have h3 : Touch 1048577 s x3 := by
    unfold x3
    exact bump_only.step rfl (bump_only.step rfl (inc64_only.step rfl (by assumption)))
  clear_value x3
  extract_lets +onlyGivenNames x4
  have h4 : Touch 1048577 s x4 := by
    unfold x4
    refine Touch.ite ?_ ?_
    · exact inc32_only.step rfl (by assumption)
    · assumption
  clear_value x4
  extract_lets +onlyGivenNames x5
  have h5 : Touch 1048577 s x5 := by
    unfold x5
    refine Touch.ite ?_ ?_
    · exact setn_only.step rfl (by assumption)
    · assumption
  clear_value x5
  refine Touch.ite ?_ ?_
  · exact setn_only.step rfl (by assumption)
  · assumption

theorem finishChain_only {s : State} {v1 v2 v3 v4} : Touch 4298113025 s (@State.finishChain s v1 v2 v3 v4) := by
  have h : Touch 4298113025 s s := Touch.refl
  unfold State.finishChain
  extract_lets +onlyGivenNames x1
  clear_value x1
  extract_lets +onlyGivenNames x2
  have h2 : Touch 4298113025 s x2.1 := by
    unfold x2
    exact runChain_only.step rfl (by assumption)
  clear_value x2
  extract_lets +onlyGivenNames x3
  clear_value x3
  exact endChain_only.step rfl (by assumption)

theorem execDmaDrainEnd_only {s : State} {v0 v1} : OutTouch 4298113073 s (@execDmaDrainEnd v0 v1 s) := by
  have h : Touch 4298113073 s s := Touch.refl
  unfold execDmaDrainEnd
  extract_lets +onlyGivenNames x1
  have h1 : Touch 4298113073 s x1 := by
    unfold x1
    exact atTime_only.step rfl (by assumption)
  clear_value x1
  split
  · exact OutTouch.ok (by assumption)
  · extract_lets +onlyGivenNames x2
    clear_value x2
    extract_lets +onlyGivenNames x3
    have h3 : Touch 4298113073 s x3 := by
      unfold x3
      refine Touch.foldl ?_ (fun y4 z4 h4 => ?_)
      · assumption
      · exact finishChain_only.step rfl (by assumption)
    clear_value x3
    extract_lets +onlyGivenNames x5
    extract_lets +onlyGivenNames x6
    have h6 : Touch 4298113073 s x6 := by
      unfold x6
      refine Touch.trans (b := x3) ?_ { objects := .inl rfl, sessions := .inl rfl, network := .inl rfl, dma := .inl rfl, memory := .inl rfl, free := .inl rfl }
      assumption
    clear_value x6
    extract_lets +onlyGivenNames x7
    have h7 : Touch 4298113073 s x7 := by
      unfold x7
      exact setn_only.step rfl (setn_only.step rfl (setb_only.step rfl (by assumption)))
    clear_value x7
    extract_lets +onlyGivenNames x8
    have h8 : Touch 4298113073 s x8 := by
      unfold x8
      exact inc32_only.step rfl (setn_only.step rfl (by assumption))
    clear_value x8
    exact OutTouch.ok (event_only.step rfl (by assumption))

theorem dmaIgnore_only {s : State} {v1 v2} : Touch 1048577 s (@State.dmaIgnore s v1 v2) := by
  have h : Touch 1048577 s s := Touch.refl
  unfold State.dmaIgnore
  extract_lets +onlyGivenNames x1
  clear_value x1
  exact bump_only.step rfl (setDma_only.step rfl (by assumption))

theorem execDmaResume_only {s : State} {v0 v1} : OutTouch 1048577 s (@execDmaResume v0 v1 s) := by
  have h : Touch 1048577 s s := Touch.refl
  unfold execDmaResume
  extract_lets +onlyGivenNames x1
  have h1 : Touch 1048577 s x1 := by
    unfold x1
    exact atTime_only.step rfl (by assumption)
  clear_value x1
  extract_lets +onlyGivenNames x2
  clear_value x2
  refine OutTouch.ite ?_ ?_
  · exact OutTouch.ok (dmaIgnore_only.step rfl (by assumption))
  · exact OutTouch.ok (setDma_only.step rfl (by assumption))

theorem execDmaStopRequest_only {s : State} {v0 v1} : OutTouch 1048577 s (@execDmaStopRequest v0 v1 s) := by
  have h : Touch 1048577 s s := Touch.refl
  unfold execDmaStopRequest
  extract_lets +onlyGivenNames x1
  have h1 : Touch 1048577 s x1 := by
    unfold x1
    exact atTime_only.step rfl (by assumption)
  clear_value x1
  extract_lets +onlyGivenNames x2
  clear_value x2
  refine OutTouch.ite ?_ ?_
  · exact OutTouch.ok (setDma_only.step rfl (by assumption))
  · exact OutTouch.ok (by assumption)

theorem execDmaChainEnd_only {s : State} {v0 v1 v2 v3} : OutTouch 4298113025 s (@execDmaChainEnd v0 v1 v2 v3 s) := by
  have h : Touch 4298113025 s s := Touch.refl
  unfold execDmaChainEnd
  extract_lets +onlyGivenNames x1
  have h1 : Touch 4298113025 s x1 := by
    unfold x1
    exact atTime_only.step rfl (by assumption)
  clear_value x1
  extract_lets +onlyGivenNames x2
  clear_value x2
  refine OutTouch.ite ?_ ?_
  · exact OutTouch.ok (by assumption)
  · refine OutTouch.ite ?_ ?_
    · exact OutTouch.ok (finishChain_only.step rfl (by assumption))
    · exact OutTouch.ok (finishChain_only.step rfl (by assumption))

theorem execDmaBusTimeout_only {s : State} {v0 v1 v2} : OutTouch 1048576 s (@execDmaBusTimeout v0 v1 v2 s) := by
  have h : Touch 1048576 s s := Touch.refl
  unfold execDmaBusTimeout
  extract_lets +onlyGivenNames x1
  have h1 : Touch 1048576 s x1 := by
    unfold x1
    exact atTime_only.step rfl (by assumption)
  clear_value x1
  refine OutTouch.ite ?_ ?_
  · exact OutTouch.ok (by assumption)
  · refine OutTouch.ok ?_
    refine Touch.trans (b := x1) ?_ { dma := .inl rfl }
    assumption

theorem execDmaStart_only {s : State} {v0 v1} : OutTouch 1048577 s (@execDmaStart v0 v1 s) := by
  have h : Touch 1048577 s s := Touch.refl
  unfold execDmaStart
  extract_lets +onlyGivenNames x1
  have h1 : Touch 1048577 s x1 := by
    unfold x1
    exact atTime_only.step rfl (by assumption)
  clear_value x1
  extract_lets +onlyGivenNames x2
  clear_value x2
  refine OutTouch.ite ?_ ?_
  · exact OutTouch.ok (dmaIgnore_only.step rfl (by assumption))
  · exact OutTouch.ok (setDma_only.step rfl (by assumption))

theorem dmaReg_only {s : State} {v1 v2 v3} : Touch 1048577 s (@State.dmaReg s v1 v2 v3) := by
  have h : Touch 1048577 s s := Touch.refl
  unfold State.dmaReg
  extract_lets +onlyGivenNames x1
  clear_value x1
  refine Touch.ite ?_ ?_
  · exact setDma_only.step rfl (by assumption)
  · refine Touch.ite ?_ ?_
    · refine Touch.ite ?_ ?_
      · exact dmaIgnore_only.step rfl (by assumption)
      · exact setDma_only.step rfl (by assumption)
    · refine Touch.ite ?_ ?_
      · exact dmaIgnore_only.step rfl (by assumption)
      · assumption

theorem execDmaStatusRead_only {s : State} {v0 v1 v2 v3 v4 v5 v6} : OutTouch 1048577 s (@execDmaStatusRead v0 v1 v2 v3 v4 v5 v6 s) := by
  have h : Touch 1048577 s s := Touch.refl
  unfold execDmaStatusRead
  extract_lets +onlyGivenNames x1
  have h1 : Touch 1048577 s x1 := by
    unfold x1
    exact atTime_only.step rfl (by assumption)
  clear_value x1
  extract_lets +onlyGivenNames x2
  clear_value x2
  extract_lets +onlyGivenNames x3
  clear_value x3
  exact OutTouch.ok (setDma_only.step rfl (by assumption))

theorem freezeClear_only {s : State} : Touch 5 s (@State.freezeClear s) := by
  have h : Touch 5 s s := Touch.refl
  unfold State.freezeClear
  extract_lets +onlyGivenNames x1
  extract_lets +onlyGivenNames x2
  have h2 : Touch 5 s x2 := by
    unfold x2
    refine Touch.foldl ?_ (fun y3 z3 h3 => ?_)
    · assumption
    · dsimp only [x1]
      exact setDurable_only.step rfl (by assumption)
  clear_value x2
  exact setDurable_only.step rfl (by assumption)

theorem updateCut_only {s : State} : Touch 67108881 s (@State.updateCut s) := by
  have h : Touch 67108881 s s := Touch.refl
  unfold State.updateCut
  split
  · assumption
  · extract_lets +onlyGivenNames x1
    extract_lets +onlyGivenNames x2
    have h2 : Touch 67108881 s x2 := by
      unfold x2
      refine Touch.trans (b := s) ?_ { objects := .inl rfl, sessions := .inl rfl, firmware := .inl rfl }
      assumption
    clear_value x2
    extract_lets +onlyGivenNames x3
    have h3 : Touch 67108881 s x3 := by
      unfold x3
      exact setn_only.step rfl (setn_only.step rfl (by assumption))
    clear_value x3
    exact sendIn_only.step rfl (by assumption)

theorem snapshot_only {s : State} {v1 v2} : Touch 5 s (@State.snapshot s v1 v2) := by
  have h : Touch 5 s s := Touch.refl
  unfold State.snapshot
  extract_lets +onlyGivenNames x1
  clear_value x1
  refine Touch.foldl ?_ (fun y2 z2 h2 => ?_)
  · assumption
  · exact setDurable_only.step rfl (by assumption)

theorem execDramFrozen_only {s : State} {v0 v1} : OutTouch 67113653 s (@execDramFrozen v0 v1 s) := by
  have h : Touch 67113653 s s := Touch.refl
  unfold execDramFrozen
  extract_lets +onlyGivenNames x1
  have h1 : Touch 67113653 s x1 := by
    unfold x1
    exact moveX_only.step rfl (atTime_only.step rfl (by assumption))
  clear_value x1
  refine OutTouch.ite ?_ ?_
  · exact OutTouch.ok (by assumption)
  · extract_lets +onlyGivenNames x2
    clear_value x2
    extract_lets +onlyGivenNames x3
    clear_value x3
    extract_lets +onlyGivenNames x4
    have h4 : Touch 67113653 s x4 := by
      unfold x4
      exact inc32_only.step rfl (setn_only.step rfl (by assumption))
    clear_value x4
    extract_lets +onlyGivenNames x5
    have h5 : Touch 67113653 s x5 := by
      unfold x5
      exact updateCut_only.step rfl (disposeAll_only.step rfl (by assumption))
    clear_value x5
    exact OutTouch.ok (event_only.step rfl (snapshot_only.step rfl (by assumption)))

theorem execCouchInitDone_only {s : State} {v0} : OutTouch 2097153 s (@execCouchInitDone v0 s) := by
  have h : Touch 2097153 s s := Touch.refl
  unfold execCouchInitDone
  extract_lets +onlyGivenNames x1
  have h1 : Touch 2097153 s x1 := by
    unfold x1
    exact atTime_only.step rfl (by assumption)
  clear_value x1
  extract_lets +onlyGivenNames x2
  extract_lets +onlyGivenNames x3
  have h3 : Touch 2097153 s x3 := by
    unfold x3
    refine Touch.trans (b := x1) ?_ { objects := .inl rfl, memory := .inl rfl }
    assumption
  clear_value x3
  exact OutTouch.ok (setb_only.step rfl (by assumption))

theorem execDramRefresh_only {s : State} {v0 v1} : OutTouch 1 s (@execDramRefresh v0 v1 s) := by
  have h : Touch 1 s s := Touch.refl
  unfold execDramRefresh
  extract_lets +onlyGivenNames x1
  have h1 : Touch 1 s x1 := by
    unfold x1
    exact atTime_only.step rfl (by assumption)
  clear_value x1
  refine OutTouch.ite ?_ ?_
  · exact OutTouch.ok (setn_only.step rfl (by assumption))
  · exact OutTouch.ok (by assumption)

theorem execDramRetrain_only {s : State} {v0} : OutTouch 0 s (@execDramRetrain v0 s) := by
  have h : Touch 0 s s := Touch.refl
  unfold execDramRetrain
  exact OutTouch.ok (atTime_only.step rfl (by assumption))

theorem execCouchScrubWriteback_only {s : State} {v0 v1 v2} : OutTouch 1 s (@execCouchScrubWriteback v0 v1 v2 s) := by
  have h : Touch 1 s s := Touch.refl
  unfold execCouchScrubWriteback
  extract_lets +onlyGivenNames x1
  have h1 : Touch 1 s x1 := by
    unfold x1
    exact atTime_only.step rfl (by assumption)
  clear_value x1
  exact OutTouch.ok (setn_only.step rfl (setn_only.step rfl (inc64_only.step rfl (by assumption))))

theorem execMr4Poll_only {s : State} {v0 v1} : OutTouch 1 s (@execMr4Poll v0 v1 s) := by
  have h : Touch 1 s s := Touch.refl
  unfold execMr4Poll
  extract_lets +onlyGivenNames x1
  have h1 : Touch 1 s x1 := by
    unfold x1
    exact atTime_only.step rfl (by assumption)
  clear_value x1
  refine OutTouch.ite ?_ ?_
  · exact OutTouch.ok (setn_only.step rfl (by assumption))
  · exact OutTouch.ok (by assumption)

theorem execPatrolScrub_only {s : State} {v0 v1 v2} : OutTouch 1 s (@execPatrolScrub v0 v1 v2 s) := by
  have h : Touch 1 s s := Touch.refl
  unfold execPatrolScrub
  extract_lets +onlyGivenNames x1
  have h1 : Touch 1 s x1 := by
    unfold x1
    exact atTime_only.step rfl (by assumption)
  clear_value x1
  refine OutTouch.ite ?_ ?_
  · exact OutTouch.ok (by assumption)
  · extract_lets +onlyGivenNames x2
    have h2 : Touch 1 s x2 := by
      unfold x2
      refine Touch.ite ?_ ?_
      · exact inc64_only.step rfl (by assumption)
      · assumption
    clear_value x2
    refine OutTouch.ok ?_
    refine Touch.ite ?_ ?_
    · exact inc32_only.step rfl (by assumption)
    · assumption

theorem execRegisterWrite_only {s : State} {v0 v1} : OutTouch 135790593 s (@execRegisterWrite v0 v1 s) := by
  have h : Touch 135790593 s s := Touch.refl
  unfold execRegisterWrite
  extract_lets +onlyGivenNames x1
  have h1 : Touch 135790593 s x1 := by
    unfold x1
    exact atTime_only.step rfl (by assumption)
  clear_value x1
  split
  · exact OutTouch.ok (dmaReg_only.step rfl (by assumption))
  · exact OutTouch.ok (codecReg_only.step rfl (by assumption))
  · refine OutTouch.ok ?_
    refine Touch.trans (b := x1) ?_ { objects := .inl rfl, codec := .inl rfl, dma := .inl rfl, integrator := .inl rfl }
    assumption

theorem setAxis_only {s : State} {v1 v2} : Touch 536870912 s (@State.setAxis s v1 v2) := by
  have h : Touch 536870912 s s := Touch.refl
  unfold State.setAxis
  refine Touch.trans (b := s) ?_ { axes := .inl rfl }
  assumption

theorem axisItems_only {s : State} {v1} : Touch 4657 s (@State.axisItems s v1) := by
  have h : Touch 4657 s s := Touch.refl
  unfold State.axisItems
  refine Touch.ite ?_ ?_
  · assumption
  · extract_lets +onlyGivenNames x1
    clear_value x1
    exact disposeAll_only.step rfl (by assumption)

theorem axisEnter_only {s : State} {v1 v2 v3} : Touch 536875569 s (@State.axisEnter s v1 v2 v3) := by
  have h : Touch 536875569 s s := Touch.refl
  unfold State.axisEnter
  extract_lets +onlyGivenNames x1
  clear_value x1
  extract_lets +onlyGivenNames x2
  clear_value x2
  extract_lets +onlyGivenNames x3
  have h3 : Touch 536875569 s x3 := by
    unfold x3
    exact setAxis_only.step rfl (by assumption)
  clear_value x3
  extract_lets +onlyGivenNames x4
  have h4 : Touch 536875569 s x4 := by
    unfold x4
    exact setn_only.step rfl (setn_only.step rfl (by assumption))
  clear_value x4
  extract_lets +onlyGivenNames x5
  have h5 : Touch 536875569 s x5 := by
    unfold x5
    exact event_only.step rfl (by assumption)
  clear_value x5
  refine Touch.ite ?_ ?_
  · exact axisItems_only.step rfl (by assumption)
  · assumption

theorem axisSafe_only {s : State} {v1} : Touch 536875569 s (@State.axisSafe s v1) := by
  have h : Touch 536875569 s s := Touch.refl
  unfold State.axisSafe
  refine Touch.ite ?_ ?_
  · assumption
  · exact axisEnter_only.step rfl (by assumption)

theorem axisSense_only {s : State} {v1} : Touch 536875569 s (@State.axisSense s v1) := by
  have h : Touch 536875569 s s := Touch.refl
  unfold State.axisSense
  exact setn_only.step rfl (axisEnter_only.step rfl (by assumption))

theorem axisOff_only {s : State} {v1} : Touch 536875569 s (@State.axisOff s v1) := by
  have h : Touch 536875569 s s := Touch.refl
  unfold State.axisOff
  extract_lets +onlyGivenNames x1
  have h1 : Touch 536875569 s x1 := by
    unfold x1
    exact axisEnter_only.step rfl (by assumption)
  clear_value x1
  extract_lets +onlyGivenNames x2
  clear_value x2
  extract_lets +onlyGivenNames x3
  have h3 : Touch 536875569 s x3 := by
    unfold x3
    exact setAxis_only.step rfl (by assumption)
  clear_value x3
  refine Touch.ite ?_ ?_
  · exact axisSense_only.step rfl (by assumption)
  · assumption

theorem axisEnabled_only {s : State} {v1} : Touch 536875569 s (@State.axisEnabled s v1) := by
  have h : Touch 536875569 s s := Touch.refl
  unfold State.axisEnabled
  extract_lets +onlyGivenNames x1
  clear_value x1
  refine Touch.ite ?_ ?_
  · refine Touch.ite ?_ ?_
    · exact axisSense_only.step rfl (setAxis_only.step rfl (by assumption))
    · assumption
  · refine Touch.ite ?_ ?_
    · exact axisEnter_only.step rfl (by assumption)
    · refine Touch.ite ?_ ?_
      · assumption
      · exact axisOff_only.step rfl (by assumption)

theorem focBoundary_only {s : State} {v1 v2} : Touch 536875569 s (@State.focBoundary s v1 v2) := by
  have h : Touch 536875569 s s := Touch.refl
  unfold State.focBoundary
  extract_lets +onlyGivenNames x1
  clear_value x1
  extract_lets +onlyGivenNames x2
  clear_value x2
  extract_lets +onlyGivenNames x3
  clear_value x3
  extract_lets +onlyGivenNames x4
  have h4 : Touch 536875569 s x4 := by
    unfold x4
    exact setAxis_only.step rfl (by assumption)
  clear_value x4
  refine Touch.ite ?_ ?_
  · extract_lets +onlyGivenNames x5
    have h5 : Touch 536875569 s x5 := by
      unfold x5
      exact inc32_only.step rfl (by assumption)
    clear_value x5
    refine Touch.ite ?_ ?_
    · exact axisEnter_only.step rfl (by assumption)
    · assumption
  · assumption

theorem execDriverFault_only {s : State} {v0 v1} : OutTouch 536875569 s (@execDriverFault v0 v1 s) := by
  have h : Touch 536875569 s s := Touch.refl
  unfold execDriverFault
  extract_lets +onlyGivenNames x1
  have h1 : Touch 536875569 s x1 := by
    unfold x1
    exact atTime_only.step rfl (by assumption)
  clear_value x1
  extract_lets +onlyGivenNames x2
  clear_value x2
  refine OutTouch.ite ?_ ?_
  · exact OutTouch.ok (setAxis_only.step rfl (by assumption))
  · exact OutTouch.ok (axisEnter_only.step rfl (by assumption))

theorem ainSample_only {s : State} {v1 v2} : Touch 1 s (@State.ainSample s v1 v2) := by
  have h : Touch 1 s s := Touch.refl
  unfold State.ainSample
  exact setn_only.step rfl (setn_only.step rfl (setn_only.step rfl (by assumption)))

theorem axisStart_only {s : State} {v1} : Touch 536875569 s (@State.axisStart s v1) := by
  have h : Touch 536875569 s s := Touch.refl
  unfold State.axisStart
  extract_lets +onlyGivenNames x1
  have h1 : Touch 536875569 s x1 := by
    unfold x1
    exact axisEnter_only.step rfl (by assumption)
  clear_value x1
  exact setAxis_only.step rfl (by assumption)

theorem axisBrake_only {s : State} {v1 v2} : Touch 536875569 s (@State.axisBrake s v1 v2) := by
  have h : Touch 536875569 s s := Touch.refl
  unfold State.axisBrake
  extract_lets +onlyGivenNames x1
  have h1 : Touch 536875569 s x1 := by
    unfold x1
    exact axisEnter_only.step rfl (by assumption)
  clear_value x1
  exact setAxis_only.step rfl (by assumption)

theorem controlStep_only {s : State} {v1 v2} : Touch 4831838209 s (@State.controlStep s v1 v2) := by
  have h : Touch 4831838209 s s := Touch.refl
  unfold State.controlStep
  extract_lets +onlyGivenNames x1
  clear_value x1
  extract_lets +onlyGivenNames x2
  clear_value x2
  extract_lets +onlyGivenNames x3
  clear_value x3
  extract_lets +onlyGivenNames x4
  clear_value x4
  extract_lets +onlyGivenNames x5
  clear_value x5
  extract_lets +onlyGivenNames x6
  have h6 : Touch 4831838209 s x6 := by
    unfold x6
    refine Touch.ite ?_ ?_
    · exact setn_only.step rfl (by assumption)
    · assumption
  clear_value x6
  extract_lets +onlyGivenNames x7
  clear_value x7
  extract_lets +onlyGivenNames x8
  clear_value x8
  exact setAxis_only.step rfl (freeNext_only.step rfl (by assumption))

theorem execRecatchDelayExpiry_only {s : State} {v0 v1} : OutTouch 536875569 s (@execRecatchDelayExpiry v0 v1 s) := by
  have h : Touch 536875569 s s := Touch.refl
  unfold execRecatchDelayExpiry
  extract_lets +onlyGivenNames x1
  have h1 : Touch 536875569 s x1 := by
    unfold x1
    exact atTime_only.step rfl (by assumption)
  clear_value x1
  refine OutTouch.ite ?_ ?_
  · exact OutTouch.ok (axisSense_only.step rfl (by assumption))
  · exact OutTouch.ok (by assumption)

theorem modulate_only {s : State} {v1 v2 v3} : Touch 536870913 s (@State.modulate s v1 v2 v3) := by
  have h : Touch 536870913 s s := Touch.refl
  unfold State.modulate
  extract_lets +onlyGivenNames x1
  clear_value x1
  extract_lets +onlyGivenNames x2
  clear_value x2
  extract_lets +onlyGivenNames x3
  clear_value x3
  extract_lets +onlyGivenNames x4
  clear_value x4
  extract_lets +onlyGivenNames x5
  clear_value x5
  extract_lets +onlyGivenNames x6
  clear_value x6
  extract_lets +onlyGivenNames x7
  clear_value x7
  extract_lets +onlyGivenNames x8
  clear_value x8
  extract_lets +onlyGivenNames x9
  clear_value x9
  extract_lets +onlyGivenNames x10
  have h10 : Touch 536870913 s x10 := by
    unfold x10
    exact setn_only.step rfl (setn_only.step rfl (by assumption))
  clear_value x10
  exact setAxis_only.step rfl (by assumption)

theorem axisRun_only {s : State} {v1} : Touch 536875569 s (@State.axisRun s v1) := by
  have h : Touch 536875569 s s := Touch.refl
  unfold State.axisRun
  extract_lets +onlyGivenNames x1
  clear_value x1
  extract_lets +onlyGivenNames x2
  have h2 : Touch 536875569 s x2 := by
    unfold x2
    exact axisEnter_only.step rfl (by assumption)
  clear_value x2
  exact setAxis_only.step rfl (by assumption)

theorem execPwmPeriodBoundary_only {s : State} {v0 v1 v2 v3 v4 v5} : OutTouch 536875569 s (@execPwmPeriodBoundary v0 v1 v2 v3 v4 v5 s) := by
  have h : Touch 536875569 s s := Touch.refl
  unfold execPwmPeriodBoundary
  extract_lets +onlyGivenNames x1
  have h1 : Touch 536875569 s x1 := by
    unfold x1
    exact atTime_only.step rfl (by assumption)
  clear_value x1
  extract_lets +onlyGivenNames x2
  clear_value x2
  extract_lets +onlyGivenNames x3
  clear_value x3
  extract_lets +onlyGivenNames x4
  have h4 : Touch 536875569 s x4 := by
    unfold x4
    exact ainSample_only.step rfl (by assumption)
  clear_value x4
  extract_lets +onlyGivenNames x5
  have h5 : Touch 536875569 s x5 := by
    unfold x5
    exact seti_only.step rfl (by assumption)
  clear_value x5
  refine OutTouch.ite ?_ ?_
  · exact OutTouch.ok (setAxis_only.step rfl (by assumption))
  · refine OutTouch.ite ?_ ?_
    · exact OutTouch.ok (focBoundary_only.step rfl (by assumption))
    · exact OutTouch.ok (by assumption)

theorem currentStep_only {s : State} {v1 v2 v3 v4} : Touch 4831838209 s (@State.currentStep s v1 v2 v3 v4) := by
  have h : Touch 4831838209 s s := Touch.refl
  unfold State.currentStep
  extract_lets +onlyGivenNames x1
  clear_value x1
  extract_lets +onlyGivenNames x2
  clear_value x2
  exact modulate_only.step rfl (freeNext_only.step rfl (by assumption))

theorem handover_only {s : State} {v1 v2} : Touch 536875569 s (@State.handover s v1 v2) := by
  have h : Touch 536875569 s s := Touch.refl
  unfold State.handover
  extract_lets +onlyGivenNames x1
  clear_value x1
  extract_lets +onlyGivenNames x2
  clear_value x2
  extract_lets +onlyGivenNames x3
  clear_value x3
  refine Touch.ite ?_ ?_
  · refine Touch.ite ?_ ?_
    · assumption
    · extract_lets +onlyGivenNames x4
      clear_value x4
      exact axisRun_only.step rfl (setAxis_only.step rfl (by assumption))
  · refine Touch.ite ?_ ?_
    · exact axisRun_only.step rfl (by assumption)
    · assumption

theorem evalKe_only {s : State} {v1 v2} : Touch 536870913 s (@State.evalKe s v1 v2) := by
  have h : Touch 536870913 s s := Touch.refl
  unfold State.evalKe
  refine Touch.ite ?_ ?_
  · extract_lets +onlyGivenNames x1
    have h1 : Touch 536870913 s x1 := by
      unfold x1
      exact setn_only.step rfl (by assumption)
    clear_value x1
    extract_lets +onlyGivenNames x2
    clear_value x2
    exact setAxis_only.step rfl (by assumption)
  · exact setAxis_only.step rfl (by assumption)

theorem observe_only {s : State} {v1 v2} : Touch 536870912 s (@State.observe s v1 v2) := by
  have h : Touch 536870912 s s := Touch.refl
  unfold State.observe
  extract_lets +onlyGivenNames x1
  clear_value x1
  extract_lets +onlyGivenNames x2
  clear_value x2
  exact setAxis_only.step rfl (by assumption)

theorem observerLoss_only {s : State} {v1} : Touch 536875569 s (@State.observerLoss s v1) := by
  have h : Touch 536875569 s s := Touch.refl
  unfold State.observerLoss
  extract_lets +onlyGivenNames x1
  have h1 : Touch 536875569 s x1 := by
    unfold x1
    exact inc32_only.step rfl (by assumption)
  clear_value x1
  extract_lets +onlyGivenNames x2
  clear_value x2
  refine Touch.ite ?_ ?_
  · exact axisBrake_only.step rfl (by assumption)
  · exact event_only.step rfl (axisEnter_only.step rfl (setn_only.step rfl (by assumption)))

theorem focDecide_only {s : State} {v1 v2} : Touch 536875569 s (@State.focDecide s v1 v2) := by
  have h : Touch 536875569 s s := Touch.refl
  unfold State.focDecide
  extract_lets +onlyGivenNames x1
  clear_value x1
  refine Touch.ite ?_ ?_
  · exact handover_only.step rfl (by assumption)
  · refine Touch.ite ?_ ?_
    · refine Touch.ite ?_ ?_
      · assumption
      · exact axisOff_only.step rfl (by assumption)
    · extract_lets +onlyGivenNames x2
      have h2 : Touch 536875569 s x2 := by
        unfold x2
        exact evalKe_only.step rfl (observe_only.step rfl (by assumption))
      clear_value x2
      extract_lets +onlyGivenNames x3
      have h3 : Touch 536875569 s x3 := by
        unfold x3
        refine Touch.ite ?_ ?_
        · exact setn_only.step rfl (by assumption)
        · assumption
      clear_value x3
      refine Touch.ite ?_ ?_
      · exact observerLoss_only.step rfl (by assumption)
      · assumption

theorem keBrake_only {s : State} {v1} : Touch 536875569 s (@State.keBrake s v1) := by
  have h : Touch 536875569 s s := Touch.refl
  unfold State.keBrake
  exact event_only.step rfl (axisBrake_only.step rfl (by assumption))

theorem execKeAbnormal_only {s : State} {v0 v1} : OutTouch 536875569 s (@execKeAbnormal v0 v1 s) := by
  have h : Touch 536875569 s s := Touch.refl
  unfold execKeAbnormal
  extract_lets +onlyGivenNames x1
  have h1 : Touch 536875569 s x1 := by
    unfold x1
    exact atTime_only.step rfl (by assumption)
  clear_value x1
  split
  · refine OutTouch.ite ?_ ?_
    · exact OutTouch.ok (keBrake_only.step rfl (by assumption))
    · exact OutTouch.ok (by assumption)
  · exact OutTouch.ok (by assumption)

theorem phaseAmps_only {s : State} {v1} : Touch 4831838209 s (@State.phaseAmps s v1).1 := by
  unfold State.phaseAmps
  extract_lets +onlyGivenNames x
  split
  extract_lets +onlyGivenNames n
  split
  · exact setAxis_only.step rfl Touch.refl
  · split
    · exact setAxis_only.step rfl Touch.refl
    · split
      · exact setAxis_only.step rfl Touch.refl
      · split
        · exact setAxis_only.step rfl Touch.refl
        · exact setAxis_only.step rfl (inc64_only.step rfl { free := .inl rfl })

theorem execFocStep_only {s : State} {v0 v1 v2} : OutTouch 4831842865 s (@execFocStep v0 v1 v2 s) := by
  have h : Touch 4831842865 s s := Touch.refl
  unfold execFocStep
  extract_lets +onlyGivenNames x1
  have h1 : Touch 4831842865 s x1 := by
    unfold x1
    exact atTime_only.step rfl (by assumption)
  clear_value x1
  extract_lets +onlyGivenNames x2
  clear_value x2
  refine OutTouch.ite ?_ ?_
  · exact OutTouch.ok (setn_only.step rfl (seti_only.step rfl (by assumption)))
  · refine OutTouch.ite ?_ ?_
    · exact OutTouch.ok (by assumption)
    · extract_lets +onlyGivenNames x3
      have h3 : Touch 4831842865 s x3.1 := by
        unfold x3
        exact phaseAmps_only.step rfl (by assumption)
      clear_value x3
      extract_lets +onlyGivenNames x4
      have h4 : Touch 4831842865 s x4 := by
        unfold x4
        assumption
      clear_value x4
      extract_lets +onlyGivenNames x5
      clear_value x5
      extract_lets +onlyGivenNames x6
      clear_value x6
      extract_lets +onlyGivenNames x7
      have h7 : Touch 4831842865 s x7 := by
        unfold x7
        exact setn_only.step rfl (seti_only.step rfl (seti_only.step rfl (by assumption)))
      clear_value x7
      extract_lets +onlyGivenNames x8
      have h8 : Touch 4831842865 s x8 := by
        unfold x8
        exact setn_only.step rfl (seti_only.step rfl (by assumption))
      clear_value x8
      exact OutTouch.ok (focDecide_only.step rfl (currentStep_only.step rfl (controlStep_only.step rfl
        (by assumption))))

theorem execSensingComplete_only {s : State} {v0 v1 v2 v3} : OutTouch 536875569 s (@execSensingComplete v0 v1 v2 v3 s) := by
  have h : Touch 536875569 s s := Touch.refl
  unfold execSensingComplete
  extract_lets +onlyGivenNames x1
  have h1 : Touch 536875569 s x1 := by
    unfold x1
    exact atTime_only.step rfl (by assumption)
  clear_value x1
  refine OutTouch.ite ?_ ?_
  · exact OutTouch.ok (by assumption)
  · extract_lets +onlyGivenNames x2
    have h2 : Touch 536875569 s x2 := by
      unfold x2
      exact seti_only.step rfl (by assumption)
    clear_value x2
    extract_lets +onlyGivenNames x3
    clear_value x3
    refine OutTouch.ite ?_ ?_
    · exact OutTouch.ok (axisStart_only.step rfl (by assumption))
    · refine OutTouch.ite ?_ ?_
      · extract_lets +onlyGivenNames x4
        have h4 : Touch 536875569 s x4 := by
          unfold x4
          exact setn_only.step rfl (by assumption)
        clear_value x4
        refine OutTouch.ite ?_ ?_
        · exact OutTouch.ok (keBrake_only.step rfl (by assumption))
        · extract_lets +onlyGivenNames x5
          have h5 : Touch 536875569 s x5 := by
            unfold x5
            exact setn_only.step rfl (axisEnter_only.step rfl (by assumption))
          clear_value x5
          exact OutTouch.ok (setAxis_only.step rfl (by assumption))
      · exact OutTouch.ok (axisBrake_only.step rfl (by assumption))

theorem execBrakeHoldDone_only {s : State} {v0 v1} : OutTouch 536875569 s (@execBrakeHoldDone v0 v1 s) := by
  have h : Touch 536875569 s s := Touch.refl
  unfold execBrakeHoldDone
  extract_lets +onlyGivenNames x1
  have h1 : Touch 536875569 s x1 := by
    unfold x1
    exact atTime_only.step rfl (by assumption)
  clear_value x1
  refine OutTouch.ite ?_ ?_
  · exact OutTouch.ok (by assumption)
  · extract_lets +onlyGivenNames x2
    clear_value x2
    refine OutTouch.ok ?_
    refine Touch.ite ?_ ?_
    · exact axisStart_only.step rfl (by assumption)
    · exact axisEnter_only.step rfl (by assumption)

theorem execBrakeTimeout_only {s : State} {v0 v1} : OutTouch 536875569 s (@execBrakeTimeout v0 v1 s) := by
  have h : Touch 536875569 s s := Touch.refl
  unfold execBrakeTimeout
  extract_lets +onlyGivenNames x1
  have h1 : Touch 536875569 s x1 := by
    unfold x1
    exact atTime_only.step rfl (by assumption)
  clear_value x1
  refine OutTouch.ite ?_ ?_
  · exact OutTouch.ok (axisEnter_only.step rfl (by assumption))
  · exact OutTouch.ok (by assumption)

theorem execStartTimeout_only {s : State} {v0 v1} : OutTouch 536875569 s (@execStartTimeout v0 v1 s) := by
  have h : Touch 536875569 s s := Touch.refl
  unfold execStartTimeout
  extract_lets +onlyGivenNames x1
  have h1 : Touch 536875569 s x1 := by
    unfold x1
    exact atTime_only.step rfl (by assumption)
  clear_value x1
  refine OutTouch.ite ?_ ?_
  · exact OutTouch.ok (axisEnter_only.step rfl (by assumption))
  · exact OutTouch.ok (by assumption)

end Sys2Proof.Machine
end

