-- ==== Sys2Proof/Laws/TouchD.lean ====
section
/-! SUPPORT. Which parts of the state the operations of these files may change, by `Touch`: Loops, Rails,
SafeState, Thermal, Power, Faults. -/

set_option Elab.async false

namespace Sys2Proof.Machine

theorem setLoop_only {s : State} {v1 v2} : Touch 1073741824 s (@State.setLoop s v1 v2) := by
  have h : Touch 1073741824 s s := Touch.refl
  unfold State.setLoop
  refine Touch.trans (b := s) ?_ { loops := .inl rfl }
  assumption

theorem fit28_only {s : State} {v1} : Touch 4294967296 s (@State.fit28 s v1).1 := by
  have h : Touch 4294967296 s s := Touch.refl
  unfold State.fit28
  split
  · dsimp only
    assumption
  · dsimp only
    exact freeNext_only.step rfl (by assumption)

theorem putOutput_only {s : State} {v1 v2} : Touch 5368709121 s (@State.putOutput s v1 v2) := by
  have h : Touch 5368709121 s s := Touch.refl
  unfold State.putOutput
  extract_lets +onlyGivenNames x1
  clear_value x1
  extract_lets +onlyGivenNames x2
  have h2 : Touch 5368709121 s x2 := by
    unfold x2
    exact setLoop_only.step rfl (by assumption)
  clear_value x2
  refine Touch.ite ?_ ?_
  · extract_lets +onlyGivenNames x3
    have h3 : Touch 5368709121 s x3.1 := by
      unfold x3
      exact fit28_only.step rfl (by assumption)
    clear_value x3
    exact seti_only.step rfl (by assumption)
  · exact seti_only.step rfl (by assumption)

theorem loopSafe_only {s : State} {v1} : Touch 5368709121 s (@State.loopSafe s v1) := by
  have h : Touch 5368709121 s s := Touch.refl
  unfold State.loopSafe
  refine Touch.ite ?_ ?_
  · assumption
  · exact putOutput_only.step rfl (setn_only.step rfl (by assumption))

theorem setOwner_only {s : State} {v1 v2} : Touch 1 s (@State.setOwner s v1 v2) := by
  have h : Touch 1 s s := Touch.refl
  unfold State.setOwner
  extract_lets +onlyGivenNames x1
  clear_value x1
  refine Touch.ite ?_ ?_
  · exact setn_only.step rfl (by assumption)
  · assumption

theorem loopStart_only {s : State} {v1} : Touch 5368709121 s (@State.loopStart s v1) := by
  have h : Touch 5368709121 s s := Touch.refl
  unfold State.loopStart
  extract_lets +onlyGivenNames x1
  clear_value x1
  extract_lets +onlyGivenNames x2
  have h2 : Touch 5368709121 s x2 := by
    unfold x2
    exact setLoop_only.step rfl (by assumption)
  clear_value x2
  extract_lets +onlyGivenNames x3
  have h3 : Touch 5368709121 s x3 := by
    unfold x3
    exact setn_only.step rfl (setn_only.step rfl (by assumption))
  clear_value x3
  exact setOwner_only.step rfl (putOutput_only.step rfl (by assumption))

theorem loopStop_only {s : State} {v1} : Touch 1 s (@State.loopStop s v1) := by
  have h : Touch 1 s s := Touch.refl
  unfold State.loopStop
  exact setOwner_only.step rfl (setn_only.step rfl (setn_only.step rfl (by assumption)))

theorem loopEnabled_only {s : State} {v1} : Touch 5368709121 s (@State.loopEnabled s v1) := by
  have h : Touch 5368709121 s s := Touch.refl
  unfold State.loopEnabled
  extract_lets +onlyGivenNames x1
  clear_value x1
  refine Touch.ite ?_ ?_
  · refine Touch.ite ?_ ?_
    · assumption
    · refine Touch.ite ?_ ?_
      · exact setn_only.step rfl (by assumption)
      · exact loopStart_only.step rfl (by assumption)
  · refine Touch.ite ?_ ?_
    · exact loopStop_only.step rfl (by assumption)
    · assumption

theorem loopFault_only {s : State} {v1 v2} : Touch 5368709169 s (@State.loopFault s v1 v2) := by
  have h : Touch 5368709169 s s := Touch.refl
  unfold State.loopFault
  extract_lets +onlyGivenNames x1
  have h1 : Touch 5368709169 s x1 := by
    unfold x1
    exact setn_only.step rfl (setn_only.step rfl (by assumption))
  clear_value x1
  exact event_only.step rfl (putOutput_only.step rfl (by assumption))

theorem loopMiss_only {s : State} {v1} : Touch 5368709169 s (@State.loopMiss s v1) := by
  have h : Touch 5368709169 s s := Touch.refl
  unfold State.loopMiss
  extract_lets +onlyGivenNames x1
  clear_value x1
  extract_lets +onlyGivenNames x2
  have h2 : Touch 5368709169 s x2 := by
    unfold x2
    exact inc32_only.step rfl (setLoop_only.step rfl (by assumption))
  clear_value x2
  extract_lets +onlyGivenNames x3
  clear_value x3
  refine Touch.ite ?_ ?_
  · exact loopFault_only.step rfl (by assumption)
  · assumption

theorem pulseValue_only {s : State} {v1 v2 v3} : Touch 4294967297 s (@State.pulseValue s v1 v2 v3) := by
  have h : Touch 4294967297 s s := Touch.refl
  unfold State.pulseValue
  refine Touch.ite ?_ ?_
  · assumption
  · extract_lets +onlyGivenNames x1
    have h1 : Touch 4294967297 s x1 := by
      unfold x1
      exact setn_only.step rfl (by assumption)
    clear_value x1
    extract_lets +onlyGivenNames x2
    clear_value x2
    extract_lets +onlyGivenNames x3
    have h3 : Touch 4294967297 s x3.1 := by
      unfold x3
      exact fit28_only.step rfl (by assumption)
    clear_value x3
    exact seti_only.step rfl (by assumption)

theorem execPulseTimeout_only {s : State} {v0 v1} : OutTouch 2147483649 s (@execPulseTimeout v0 v1 s) := by
  have h : Touch 2147483649 s s := Touch.refl
  unfold execPulseTimeout
  extract_lets +onlyGivenNames x1
  have h1 : Touch 2147483649 s x1 := by
    unfold x1
    exact atTime_only.step rfl (by assumption)
  clear_value x1
  extract_lets +onlyGivenNames x2
  clear_value x2
  extract_lets +onlyGivenNames x3
  clear_value x3
  refine OutTouch.ite ?_ ?_
  · extract_lets +onlyGivenNames x4
    extract_lets +onlyGivenNames x5
    have h5 : Touch 2147483649 s x5 := by
      unfold x5
      refine Touch.trans (b := x1) ?_ { objects := .inl rfl, sensors := .inl rfl }
      assumption
    clear_value x5
    exact OutTouch.ok (setn_only.step rfl (setn_only.step rfl (setn_only.step rfl (by assumption))))
  · exact OutTouch.ok (by assumption)

theorem takePv_only {s : State} {v1 v2} : Touch 1 s (@State.takePv s v1 v2).1 := by
  have h : Touch 1 s s := Touch.refl
  unfold State.takePv
  extract_lets +onlyGivenNames x1
  clear_value x1
  split
  · dsimp only
    exact ainSample_only.step rfl (by assumption)
  · dsimp only
    assumption

theorem round28_only {s : State} {v1} : Touch 4294967296 s (@State.round28 s v1).1 := by
  have h : Touch 4294967296 s s := Touch.refl
  unfold State.round28
  exact fit28_only.step rfl (by assumption)

theorem takeSp_only {s : State} {v1 v2} : Touch 4294967297 s (@State.takeSp s v1 v2).1 := by
  have h : Touch 4294967297 s s := Touch.refl
  unfold State.takeSp
  extract_lets +onlyGivenNames x1
  clear_value x1
  extract_lets +onlyGivenNames x2
  clear_value x2
  extract_lets +onlyGivenNames x3
  clear_value x3
  split
  · exact round28_only.step rfl (ainSample_only.step rfl (by assumption))
  · split
    · exact round28_only.step rfl (by assumption)
    · dsimp only
      assumption

theorem loopStep_only {s : State} {v1 v2 v3} : Touch 5368709121 s (@State.loopStep s v1 v2 v3) := by
  have h : Touch 5368709121 s s := Touch.refl
  unfold State.loopStep
  extract_lets +onlyGivenNames x1
  have h1 : Touch 5368709121 s x1.1 := by
    unfold x1
    exact takePv_only.step rfl (by assumption)
  clear_value x1
  extract_lets +onlyGivenNames x2
  have h2 : Touch 5368709121 s x2.1 := by
    unfold x2
    exact takeSp_only.step rfl (by assumption)
  clear_value x2
  extract_lets +onlyGivenNames x3
  have h3 : Touch 5368709121 s x3 := by
    unfold x3
    assumption
  clear_value x3
  extract_lets +onlyGivenNames x4
  clear_value x4
  extract_lets +onlyGivenNames x5
  have h5 : Touch 5368709121 s x5.1 := by
    unfold x5
    exact fit28_only.step rfl (by assumption)
  clear_value x5
  extract_lets +onlyGivenNames x6
  have h6 : Touch 5368709121 s x6 := by
    unfold x6
    assumption
  clear_value x6
  extract_lets +onlyGivenNames x7
  have h7 : Touch 5368709121 s x7.1 := by
    unfold x7
    exact round28_only.step rfl (by assumption)
  clear_value x7
  extract_lets +onlyGivenNames x8
  have h8 : Touch 5368709121 s x8 := by
    unfold x8
    assumption
  clear_value x8
  extract_lets +onlyGivenNames x9
  clear_value x9
  extract_lets +onlyGivenNames x10
  clear_value x10
  extract_lets +onlyGivenNames x11
  have h11 : Touch 5368709121 s x11 := by
    unfold x11
    exact setLoop_only.step rfl (by assumption)
  clear_value x11
  extract_lets +onlyGivenNames x12
  have h12 : Touch 5368709121 s x12 := by
    unfold x12
    exact seti_only.step rfl (seti_only.step rfl (by assumption))
  clear_value x12
  exact inc64_only.step rfl (putOutput_only.step rfl (by assumption))

theorem execLoopSampleTick_only {s : State} {v0 v1 v2 v3 v4 v5 v6} : OutTouch 5368709169 s (@execLoopSampleTick v0 v1 v2 v3 v4 v5 v6 s) := by
  have h : Touch 5368709169 s s := Touch.refl
  unfold execLoopSampleTick
  extract_lets +onlyGivenNames x1
  have h1 : Touch 5368709169 s x1 := by
    unfold x1
    exact atTime_only.step rfl (by assumption)
  clear_value x1
  extract_lets +onlyGivenNames x2
  clear_value x2
  refine OutTouch.ite ?_ ?_
  · exact OutTouch.ok (by assumption)
  · refine OutTouch.ite ?_ ?_
    · exact OutTouch.ok (loopFault_only.step rfl (by assumption))
    · extract_lets +onlyGivenNames x3
      have h3 : Touch 5368709169 s x3 := by
        unfold x3
        exact setn_only.step rfl (by assumption)
      clear_value x3
      refine OutTouch.ite ?_ ?_
      · exact OutTouch.ok (loopMiss_only.step rfl (by assumption))
      · exact OutTouch.ok (setn_only.step rfl (loopStep_only.step rfl (by assumption)))

theorem execPulseInEdge_only {s : State} {v0 v1 v2} : OutTouch 6442450945 s (@execPulseInEdge v0 v1 v2 s) := by
  have h : Touch 6442450945 s s := Touch.refl
  unfold execPulseInEdge
  extract_lets +onlyGivenNames x1
  have h1 : Touch 6442450945 s x1 := by
    unfold x1
    exact atTime_only.step rfl (by assumption)
  clear_value x1
  extract_lets +onlyGivenNames x2
  clear_value x2
  extract_lets +onlyGivenNames x3
  extract_lets +onlyGivenNames x4
  have h4 : Touch 6442450945 s x4 := by
    unfold x4
    refine Touch.trans (b := x1) ?_ { objects := .inl rfl, sensors := .inl rfl, free := .inl rfl }
    assumption
  clear_value x4
  split
  · exact OutTouch.ok (by assumption)
  · exact OutTouch.ok (setn_only.step rfl (pulseValue_only.step rfl (by assumption)))

theorem setPower_only {s : State} {v1} : Touch 8388608 s (@State.setPower s v1) := by
  have h : Touch 8388608 s s := Touch.refl
  unfold State.setPower
  refine Touch.trans (b := s) ?_ { power := .inl rfl }
  assumption

theorem seqUnlatch_only {s : State} : Touch 8388609 s (@State.seqUnlatch s) := by
  have h : Touch 8388609 s s := Touch.refl
  unfold State.seqUnlatch
  extract_lets +onlyGivenNames x1
  have h1 : Touch 8388609 s x1 := by
    unfold x1
    exact setn_only.step rfl (setn_only.step rfl (setb_only.step rfl (by assumption)))
  clear_value x1
  exact setPower_only.step rfl (by assumption)

theorem beginStep_only {s : State} {v1 v2} : Touch 8388609 s (@State.beginStep s v1 v2) := by
  have h : Touch 8388609 s s := Touch.refl
  unfold State.beginStep
  exact setPower_only.step rfl (setn_only.step rfl (by assumption))

theorem endSteps_only {s : State} : Touch 8388609 s (@State.endSteps s) := by
  have h : Touch 8388609 s s := Touch.refl
  unfold State.endSteps
  exact beginStep_only.step rfl (by assumption)

theorem restart_only {s : State} {v1} : Touch 4290772991 s (@State.restart s v1) := by
  unfold State.restart
  refine setn_only.step rfl ?_
  exact { objects := .inl rfl, waiting := .inl rfl, durable := .inl rfl, changeLog := .inl rfl, sessions := .inl rfl, network := .inl rfl, ptp := .inl rfl, web := .inl rfl, queues := .inl rfl, items := .inl rfl, results := .inl rfl, gates := .inl rfl, journal := .inl rfl, compositor := .inl rfl, firing := .inl rfl, links := .inl rfl, inspection := .inl rfl, cameras := .inl rfl, beam := .inl rfl, codec := .inl rfl, dma := .inl rfl, memory := .inl rfl, power := .inl rfl, faults := .inl rfl, pair := .inl rfl, firmware := .inl rfl, integrator := .inl rfl, plls := .inl rfl, axes := .inl rfl, loops := .inl rfl, sensors := .inl rfl }

theorem powerEnter_only {s : State} {v1 v2} : Touch 49 s (@State.powerEnter s v1 v2) := by
  have h : Touch 49 s s := Touch.refl
  unfold State.powerEnter
  exact event_only.step rfl (setn_only.step rfl (setn_only.step rfl (by assumption)))

theorem allDown_only {s : State} : Touch 4290772991 s (@State.allDown s) := by
  have h : Touch 4290772991 s s := Touch.refl
  unfold State.allDown
  extract_lets +onlyGivenNames x1
  have h1 : Touch 4290772991 s x1 := by
    unfold x1
    exact endSteps_only.step rfl (by assumption)
  clear_value x1
  refine Touch.ite ?_ ?_
  · assumption
  · extract_lets +onlyGivenNames x2
    have h2 : Touch 4290772991 s x2 := by
      unfold x2
      exact setn_only.step rfl (by assumption)
    clear_value x2
    extract_lets +onlyGivenNames x3
    clear_value x3
    extract_lets +onlyGivenNames x4
    have h4 : Touch 4290772991 s x4 := by
      unfold x4
      exact restart_only.step rfl (by assumption)
    clear_value x4
    refine Touch.ite ?_ ?_
    · exact powerEnter_only.step rfl (by assumption)
    · exact powerEnter_only.step rfl (by assumption)

theorem nextDown_only {s : State} : Touch 4290772991 s (@State.nextDown s) := by
  have h : Touch 4290772991 s s := Touch.refl
  unfold State.nextDown
  extract_lets +onlyGivenNames x1
  clear_value x1
  split
  · exact allDown_only.step rfl (by assumption)
  · extract_lets +onlyGivenNames x2
    clear_value x2
    exact beginStep_only.step rfl (by assumption)

theorem domainsOff_only {s : State} : Touch 1 s (@State.domainsOff s) := by
  have h : Touch 1 s s := Touch.refl
  unfold State.domainsOff
  refine Touch.foldl ?_ (fun y1 z1 h1 => ?_)
  · assumption
  · exact setn_only.step rfl (by assumption)

theorem powerDown_only {s : State} {v1} : Touch 4290772991 s (@State.powerDown s v1) := by
  have h : Touch 4290772991 s s := Touch.refl
  unfold State.powerDown
  exact nextDown_only.step rfl (domainsOff_only.step rfl (powerEnter_only.step rfl (by assumption)))

theorem domainOn_only {s : State} {v1} : Touch 1 s (@State.domainOn s v1) := by
  have h : Touch 1 s s := Touch.refl
  unfold State.domainOn
  refine Touch.ite ?_ ?_
  · assumption
  · exact inc32_only.step rfl (setn_only.step rfl (by assumption))

theorem domainReset_only {s : State} {v1} : Touch 539131904 s (@State.domainReset s v1) := by
  have h : Touch 539131904 s s := Touch.refl
  unfold State.domainReset
  refine Touch.ite ?_ ?_
  · refine Touch.setFire (.inr rfl) (.inl rfl) ?_
    assumption
  · refine Touch.ite ?_ ?_
    · refine Touch.trans (b := s) ?_ { links := .inl rfl, cameras := .inl rfl, memory := .inl rfl, axes := .inl rfl }
      assumption
    · refine Touch.ite ?_ ?_
      · refine Touch.trans (b := s) ?_ { links := .inl rfl, cameras := .inl rfl, memory := .inl rfl, axes := .inl rfl }
        assumption
      · refine Touch.ite ?_ ?_
        · refine Touch.trans (b := s) ?_ { links := .inl rfl, cameras := .inl rfl, memory := .inl rfl, axes := .inl rfl }
          assumption
        · assumption

theorem domainOff_only {s : State} {v1} : Touch 539131905 s (@State.domainOff s v1) := by
  have h : Touch 539131905 s s := Touch.refl
  unfold State.domainOff
  exact setn_only.step rfl (domainReset_only.step rfl (by assumption))

theorem domainsOn_only {s : State} {v1} : Touch 1 s (@State.domainsOn s v1) := by
  have h : Touch 1 s s := Touch.refl
  unfold State.domainsOn
  refine Touch.foldl ?_ (fun y1 z1 h1 => ?_)
  · assumption
  · refine Touch.ite ?_ ?_
    · exact domainOn_only.step rfl (by assumption)
    · assumption

theorem channelDone_only {s : State} {v1} : Touch 4290772991 s (@State.channelDone s v1) := by
  have h : Touch 4290772991 s s := Touch.refl
  unfold State.channelDone
  extract_lets +onlyGivenNames x1
  clear_value x1
  extract_lets +onlyGivenNames x2
  extract_lets +onlyGivenNames x3
  have h3 : Touch 4290772991 s x3 := by
    unfold x3
    exact setPower_only.step rfl (by assumption)
  clear_value x3
  refine Touch.ite ?_ ?_
  · exact nextDown_only.step rfl (by assumption)
  · assumption

theorem setSeqState_only {s : State} {v1 v2} : Touch 1 s (@State.setSeqState s v1 v2) := by
  have h : Touch 1 s s := Touch.refl
  unfold State.setSeqState
  exact setn_only.step rfl (by assumption)

theorem execSeqChannelDown_only {s : State} {v0 v1 v2} : OutTouch 4290772991 s (@execSeqChannelDown v0 v1 v2 s) := by
  have h : Touch 4290772991 s s := Touch.refl
  unfold execSeqChannelDown
  extract_lets +onlyGivenNames x1
  have h1 : Touch 4290772991 s x1 := by
    unfold x1
    exact atTime_only.step rfl (by assumption)
  clear_value x1
  refine OutTouch.ite ?_ ?_
  · exact OutTouch.ok (by assumption)
  · exact OutTouch.ok (channelDone_only.step rfl (setn_only.step rfl (setSeqState_only.step rfl
      (by assumption))))

theorem seqLatch_only {s : State} {v1 v2} : Touch 1 s (@State.seqLatch s v1 v2) := by
  have h : Touch 1 s s := Touch.refl
  unfold State.seqLatch
  exact setn_only.step rfl (setn_only.step rfl (setb_only.step rfl (by assumption)))

theorem setSeq_only {s : State} {v1 v2} : Touch 8388608 s (@State.setSeq s v1 v2) := by
  have h : Touch 8388608 s s := Touch.refl
  unfold State.setSeq
  exact setPower_only.step rfl (by assumption)

theorem execSeqDisableDelayExpiry_only {s : State} {v0 v1} : OutTouch 8388609 s (@execSeqDisableDelayExpiry v0 v1 s) := by
  have h : Touch 8388609 s s := Touch.refl
  unfold execSeqDisableDelayExpiry
  extract_lets +onlyGivenNames x1
  have h1 : Touch 8388609 s x1 := by
    unfold x1
    exact atTime_only.step rfl (by assumption)
  clear_value x1
  refine OutTouch.ite ?_ ?_
  · exact OutTouch.ok (by assumption)
  · extract_lets +onlyGivenNames x2
    clear_value x2
    extract_lets +onlyGivenNames x3
    have h3 : Touch 8388609 s x3 := by
      unfold x3
      exact setSeq_only.step rfl (by assumption)
    clear_value x3
    exact OutTouch.ok (setSeqState_only.step rfl (by assumption))

theorem execMarginRampStep_only {s : State} {v0 v1} : OutTouch 1 s (@execMarginRampStep v0 v1 s) := by
  have h : Touch 1 s s := Touch.refl
  unfold execMarginRampStep
  extract_lets +onlyGivenNames x1
  have h1 : Touch 1 s x1 := by
    unfold x1
    exact atTime_only.step rfl (by assumption)
  clear_value x1
  exact OutTouch.ok (seti_only.step rfl (by assumption))

theorem railFault_only {s : State} {v1 v2} : Touch 49 s (@State.railFault s v1 v2) := by
  have h : Touch 49 s s := Touch.refl
  unfold State.railFault
  extract_lets +onlyGivenNames x1
  have h1 : Touch 49 s x1 := by
    unfold x1
    exact inc32_only.step rfl (setSeqState_only.step rfl (by assumption))
  clear_value x1
  exact event_only.step rfl (by assumption)

theorem execSeqDownTimeout_only {s : State} {v0} : OutTouch 4290772991 s (@execSeqDownTimeout v0 s) := by
  have h : Touch 4290772991 s s := Touch.refl
  unfold execSeqDownTimeout
  extract_lets +onlyGivenNames x1
  have h1 : Touch 4290772991 s x1 := by
    unfold x1
    exact atTime_only.step rfl (by assumption)
  clear_value x1
  extract_lets +onlyGivenNames x2
  clear_value x2
  refine OutTouch.ok ?_
  refine Touch.foldl ?_ (fun y3 z3 h3 => ?_)
  · assumption
  · exact channelDone_only.step rfl (railFault_only.step rfl (by assumption))

theorem pairOutputs_only {s : State} : Touch 50331648 s (@State.pairOutputs s) := by
  have h : Touch 50331648 s s := Touch.refl
  unfold State.pairOutputs
  extract_lets +onlyGivenNames x1
  clear_value x1
  extract_lets +onlyGivenNames x2
  clear_value x2
  refine Touch.setFault (.inl rfl) (.inl rfl) ?_
  assumption

theorem releaseMirror_only {s : State} : Touch 33554448 s (@State.releaseMirror s) := by
  have h : Touch 33554448 s s := Touch.refl
  unfold State.releaseMirror
  extract_lets +onlyGivenNames x1
  clear_value x1
  extract_lets +onlyGivenNames x2
  extract_lets +onlyGivenNames x3
  have h3 : Touch 33554448 s x3 := by
    unfold x3
    refine Touch.setFault (.inr rfl) (.inl rfl) ?_
    assumption
  clear_value x3
  refine Touch.foldl ?_ (fun y4 z4 h4 => ?_)
  · assumption
  · exact sendIn_only.step rfl (by assumption)

theorem pairEnter_only {s : State} {v1 v2} : Touch 50331697 s (@State.pairEnter s v1 v2) := by
  have h : Touch 50331697 s s := Touch.refl
  unfold State.pairEnter
  extract_lets +onlyGivenNames x1
  have h1 : Touch 50331697 s x1 := by
    unfold x1
    exact pairOutputs_only.step rfl (setn_only.step rfl (setn_only.step rfl (by assumption)))
  clear_value x1
  extract_lets +onlyGivenNames x2
  have h2 : Touch 50331697 s x2 := by
    unfold x2
    exact event_only.step rfl (by assumption)
  clear_value x2
  refine Touch.ite ?_ ?_
  · exact releaseMirror_only.step rfl (by assumption)
  · assumption

theorem beat_only {s : State} {v1} : Touch 33554432 s (@State.beat s v1) := by
  have h : Touch 33554432 s s := Touch.refl
  unfold State.beat
  refine Touch.setFault (.inr rfl) (.inl rfl) ?_
  assumption

theorem relinquish_only {s : State} : Touch 50331697 s (@State.relinquish s) := by
  have h : Touch 50331697 s s := Touch.refl
  unfold State.relinquish
  refine Touch.ite ?_ ?_
  · exact pairEnter_only.step rfl (beat_only.step rfl (by assumption))
  · assumption

theorem renewFaultN_only {s : State} : Touch 1 s (@State.renewFaultN s) := by
  have h : Touch 1 s s := Touch.refl
  unfold State.renewFaultN
  exact setb_only.step rfl (by assumption)

theorem linkSafe_only {s : State} {v1} : Touch 32769 s (@State.linkSafe s v1) := by
  have h : Touch 32769 s s := Touch.refl
  unfold State.linkSafe
  extract_lets +onlyGivenNames x1
  clear_value x1
  extract_lets +onlyGivenNames x2
  have h2 : Touch 32769 s x2 := by
    unfold x2
    exact setLink_only.step rfl (by assumption)
  clear_value x2
  refine Touch.step setn_only rfl ?_
  refine Touch.foldl ?_ (fun y3 z3 h3 => ?_)
  · assumption
  · exact setChan_only.step rfl (by assumption)

theorem safeParts_only {s : State} : Touch 8585740287 s (@State.safeParts s) := by
  have h : Touch 8585740287 s s := Touch.refl
  unfold State.safeParts
  extract_lets +onlyGivenNames x1
  have h1 : Touch 8585740287 s x1 := by
    unfold x1
    refine Touch.foldl ?_ (fun y2 z2 h2 => ?_)
    · assumption
    · exact linkSafe_only.step rfl (by assumption)
  clear_value x1
  extract_lets +onlyGivenNames x3
  have h3 : Touch 8585740287 s x3 := by
    unfold x3
    refine Touch.foldl ?_ (fun y4 z4 h4 => ?_)
    · assumption
    · exact refreshPlane_only.step rfl (by assumption)
  clear_value x3
  extract_lets +onlyGivenNames x5
  have h5 : Touch 8585740287 s x5 := by
    unfold x5
    exact unitSafe_only.step rfl (unitSafe_only.step rfl (by assumption))
  clear_value x5
  extract_lets +onlyGivenNames x6
  have h6 : Touch 8585740287 s x6 := by
    unfold x6
    refine Touch.foldl ?_ (fun y7 z7 h7 => ?_)
    · assumption
    · exact axisSafe_only.step rfl (by assumption)
  clear_value x6
  extract_lets +onlyGivenNames x8
  have h8 : Touch 8585740287 s x8 := by
    unfold x8
    refine Touch.foldl ?_ (fun y9 z9 h9 => ?_)
    · assumption
    · exact loopSafe_only.step rfl (by assumption)
  clear_value x8
  refine Touch.ite ?_ ?_
  · exact nextDown_only.step rfl (by assumption)
  · assumption

theorem safeEnter_only {s : State} {v1 v2} : Touch 8585740287 s (@State.safeEnter s v1 v2) := by
  have h : Touch 8585740287 s s := Touch.refl
  unfold State.safeEnter
  refine Touch.ite ?_ ?_
  · assumption
  · extract_lets +onlyGivenNames x1
    have h1 : Touch 8585740287 s x1 := by
      unfold x1
      exact relinquish_only.step rfl (by assumption)
    clear_value x1
    extract_lets +onlyGivenNames x2
    have h2 : Touch 8585740287 s x2 := by
      unfold x2
      exact setn_only.step rfl (by assumption)
    clear_value x2
    extract_lets +onlyGivenNames x3
    have h3 : Touch 8585740287 s x3 := by
      unfold x3
      exact setn_only.step rfl (setn_only.step rfl (by assumption))
    clear_value x3
    extract_lets +onlyGivenNames x4
    have h4 : Touch 8585740287 s x4 := by
      unfold x4
      exact event_only.step rfl (inc32_only.step rfl (by assumption))
    clear_value x4
    extract_lets +onlyGivenNames x5
    have h5 : Touch 8585740287 s x5 := by
      unfold x5
      refine Touch.ite ?_ ?_
      · exact disposeAll_only.step rfl (by assumption)
      · assumption
    clear_value x5
    exact renewFaultN_only.step rfl (safeParts_only.step rfl (by assumption))

theorem deviceWrite_only {s : State} {v1 v2} : Touch 9 s (@State.deviceWrite s v1 v2) := by
  have h : Touch 9 s s := Touch.refl
  unfold State.deviceWrite
  split
  · assumption
  · exact setv_only.step rfl (logObj_only.step rfl (by assumption))

theorem linkUnsafe_only {s : State} {v1} : Touch 1 s (@State.linkUnsafe s v1) := by
  have h : Touch 1 s s := Touch.refl
  unfold State.linkUnsafe
  extract_lets +onlyGivenNames x1
  clear_value x1
  refine Touch.step setn_only rfl ?_
  refine Touch.foldl ?_ (fun y2 z2 h2 => ?_)
  · assumption
  · exact setChan_only.step rfl (by assumption)

theorem safeDone_only {s : State} : Touch 545526329 s (@State.safeDone s) := by
  have h : Touch 545526329 s s := Touch.refl
  unfold State.safeDone
  extract_lets +onlyGivenNames x1
  clear_value x1
  extract_lets +onlyGivenNames x2
  have h2 : Touch 545526329 s x2 := by
    unfold x2
    exact setn_only.step rfl (setn_only.step rfl (by assumption))
  clear_value x2
  extract_lets +onlyGivenNames x3
  extract_lets +onlyGivenNames x4
  have h4 : Touch 545526329 s x4 := by
    unfold x4
    exact setPower_only.step rfl (by assumption)
  clear_value x4
  extract_lets +onlyGivenNames x5
  have h5 : Touch 545526329 s x5 := by
    unfold x5
    refine Touch.foldl ?_ (fun y6 z6 h6 => ?_)
    · assumption
    · exact deviceWrite_only.step rfl (by assumption)
  clear_value x5
  extract_lets +onlyGivenNames x7
  have h7 : Touch 545526329 s x7 := by
    unfold x7
    refine Touch.foldl ?_ (fun y8 z8 h8 => ?_)
    · assumption
    · exact linkUnsafe_only.step rfl (by assumption)
  clear_value x7
  extract_lets +onlyGivenNames x9
  have h9 : Touch 545526329 s x9 := by
    unfold x9
    refine Touch.foldl ?_ (fun y10 z10 h10 => ?_)
    · assumption
    · exact refreshPlane_only.step rfl (setn_only.step rfl (by assumption))
  clear_value x9
  extract_lets +onlyGivenNames x11
  have h11 : Touch 545526329 s x11 := by
    unfold x11
    exact unitEnter_only.step rfl (unitEnter_only.step rfl (by assumption))
  clear_value x11
  extract_lets +onlyGivenNames x12
  have h12 : Touch 545526329 s x12 := by
    unfold x12
    refine Touch.foldl ?_ (fun y13 z13 h13 => ?_)
    · assumption
    · exact axisOff_only.step rfl (by assumption)
  clear_value x12
  extract_lets +onlyGivenNames x14
  have h14 : Touch 545526329 s x14 := by
    unfold x14
    refine Touch.foldl ?_ (fun y15 z15 h15 => ?_)
    · assumption
    · exact loopStop_only.step rfl (by assumption)
  clear_value x14
  exact renewFaultN_only.step rfl (event_only.step rfl (by assumption))

theorem safeUpFrom_only {s : State} {v1} : Touch 545526329 s (@State.safeUpFrom s v1) := by
  have h : Touch 545526329 s s := Touch.refl
  unfold State.safeUpFrom
  split
  · exact beginStep_only.step rfl (by assumption)
  · exact safeDone_only.step rfl (endSteps_only.step rfl (by assumption))

theorem safeLeave_only {s : State} : Touch 545526329 s (@State.safeLeave s) := by
  have h : Touch 545526329 s s := Touch.refl
  unfold State.safeLeave
  refine Touch.ite ?_ ?_
  · exact safeUpFrom_only.step rfl (setPower_only.step rfl (by assumption))
  · assumption

theorem setSource_only {s : State} {v1 v2} : Touch 16777216 s (@State.setSource s v1 v2) := by
  have h : Touch 16777216 s s := Touch.refl
  unfold State.setSource
  refine Touch.setFault (.inl rfl) (.inr rfl) ?_
  assumption

theorem setSensor_only {s : State} {v1 v2} : Touch 2147483648 s (@State.setSensor s v1 v2) := by
  have h : Touch 2147483648 s s := Touch.refl
  unfold State.setSensor
  refine Touch.trans (b := s) ?_ { sensors := .inl rfl }
  assumption

theorem setLimits_only {s : State} {v1 v2} : Touch 1 s (@State.setLimits s v1 v2) := by
  have h : Touch 1 s s := Touch.refl
  unfold State.setLimits
  refine Touch.ite ?_ ?_
  · exact setn_only.step rfl (setn_only.step rfl (by assumption))
  · extract_lets +onlyGivenNames x1
    have h1 : Touch 1 s x1 := by
      unfold x1
      exact setn_only.step rfl (by assumption)
    clear_value x1
    exact setn_only.step rfl (setn_only.step rfl (by assumption))

theorem renewTarget_only {s : State} {v1 v2} : Touch 2147483697 s (@State.renewTarget s v1 v2) := by
  have h : Touch 2147483697 s s := Touch.refl
  unfold State.renewTarget
  extract_lets +onlyGivenNames x1
  clear_value x1
  extract_lets +onlyGivenNames x2
  clear_value x2
  extract_lets +onlyGivenNames x3
  clear_value x3
  extract_lets +onlyGivenNames x4
  extract_lets +onlyGivenNames x5
  have h5 : Touch 2147483697 s x5 := by
    unfold x5
    refine Touch.trans (b := s) ?_ { objects := .inl rfl, sessions := .inl rfl, network := .inl rfl, sensors := .inl rfl }
    assumption
  clear_value x5
  extract_lets +onlyGivenNames x6
  have h6 : Touch 2147483697 s x6 := by
    unfold x6
    exact setLimits_only.step rfl (by assumption)
  clear_value x6
  refine Touch.ite ?_ ?_
  · assumption
  · exact event_only.step rfl (by assumption)

theorem setStatus_only {s : State} {v1 v2} : Touch 1 s (@State.setStatus s v1 v2) := by
  have h : Touch 1 s s := Touch.refl
  unfold State.setStatus
  refine Touch.ite ?_ ?_
  · exact setn_only.step rfl (by assumption)
  · exact setn_only.step rfl (by assumption)

theorem goodSample_only {s : State} {v1 v2} : Touch 2147483649 s (@State.goodSample s v1 v2) := by
  have h : Touch 2147483649 s s := Touch.refl
  unfold State.goodSample
  extract_lets +onlyGivenNames x1
  clear_value x1
  extract_lets +onlyGivenNames x2
  clear_value x2
  extract_lets +onlyGivenNames x3
  have h3 : Touch 2147483649 s x3 := by
    unfold x3
    refine Touch.ite ?_ ?_
    · exact seti_only.step rfl (by assumption)
    · exact seti_only.step rfl (by assumption)
  clear_value x3
  extract_lets +onlyGivenNames x4
  clear_value x4
  extract_lets +onlyGivenNames x5
  clear_value x5
  extract_lets +onlyGivenNames x6
  have h6 : Touch 2147483649 s x6 := by
    unfold x6
    exact setSensor_only.step rfl (by assumption)
  clear_value x6
  refine Touch.ite ?_ ?_
  · exact setStatus_only.step rfl (by assumption)
  · assumption

theorem badSample_only {s : State} {v1 v2} : Touch 2147483697 s (@State.badSample s v1 v2) := by
  have h : Touch 2147483697 s s := Touch.refl
  unfold State.badSample
  extract_lets +onlyGivenNames x1
  clear_value x1
  extract_lets +onlyGivenNames x2
  clear_value x2
  extract_lets +onlyGivenNames x3
  have h3 : Touch 2147483697 s x3 := by
    unfold x3
    exact setSensor_only.step rfl (by assumption)
  clear_value x3
  refine Touch.ite ?_ ?_
  · assumption
  · exact event_only.step rfl (setStatus_only.step rfl (by assumption))

theorem promote_only {s : State} {v1} : Touch 1 s (@State.promote s v1) := by
  have h : Touch 1 s s := Touch.refl
  unfold State.promote
  refine Touch.ite ?_ ?_
  · assumption
  · extract_lets +onlyGivenNames x1
    clear_value x1
    extract_lets +onlyGivenNames x2
    clear_value x2
    refine Touch.ite ?_ ?_
    · exact setb_only.step rfl (by assumption)
    · refine Touch.ite ?_ ?_
      · exact setb_only.step rfl (by assumption)
      · assumption

theorem renewR_only {s : State} {v1} : Touch 2147483649 s (@State.renewR s v1) := by
  have h : Touch 2147483649 s s := Touch.refl
  unfold State.renewR
  extract_lets +onlyGivenNames x1
  clear_value x1
  extract_lets +onlyGivenNames x2
  clear_value x2
  extract_lets +onlyGivenNames x3
  have h3 : Touch 2147483649 s x3 := by
    unfold x3
    exact setSensor_only.step rfl (by assumption)
  clear_value x3
  refine Touch.ite ?_ ?_
  · exact setn_only.step rfl (by assumption)
  · exact setn_only.step rfl (by assumption)

theorem shutdownCheck_only {s : State} {v1} : Touch 8585740287 s (@State.shutdownCheck s v1) := by
  have h : Touch 8585740287 s s := Touch.refl
  unfold State.shutdownCheck
  refine Touch.ite ?_ ?_
  · assumption
  · extract_lets +onlyGivenNames x1
    have h1 : Touch 8585740287 s x1 := by
      unfold x1
      exact setn_only.step rfl (setb_only.step rfl (by assumption))
    clear_value x1
    extract_lets +onlyGivenNames x2
    have h2 : Touch 8585740287 s x2 := by
      unfold x2
      exact seti_only.step rfl (by assumption)
    clear_value x2
    exact event_only.step rfl (safeEnter_only.step rfl (by assumption))

theorem measured_only {s : State} {v1 v2 v3} : Touch 8585740287 s (@State.measured s v1 v2 v3) := by
  have h : Touch 8585740287 s s := Touch.refl
  unfold State.measured
  extract_lets +onlyGivenNames x1
  have h1 : Touch 8585740287 s x1 := by
    unfold x1
    split
    · exact goodSample_only.step rfl (by assumption)
    · exact badSample_only.step rfl (by assumption)
  clear_value x1
  extract_lets +onlyGivenNames x2
  have h2 : Touch 8585740287 s x2 := by
    unfold x2
    exact promote_only.step rfl (renewR_only.step rfl (by assumption))
  clear_value x2
  extract_lets +onlyGivenNames x3
  have h3 : Touch 8585740287 s x3 := by
    unfold x3
    refine Touch.foldl ?_ (fun y4 z4 h4 => ?_)
    · assumption
    · exact renewTarget_only.step rfl (by assumption)
  clear_value x3
  exact shutdownCheck_only.step rfl (by assumption)

theorem tsRound_only {s : State} {v1 v2} : Touch 8585740287 s (@State.tsRound s v1 v2) := by
  have h : Touch 8585740287 s s := Touch.refl
  unfold State.tsRound
  refine Touch.foldl ?_ (fun y1 z1 h1 => ?_)
  · assumption
  · extract_lets +onlyGivenNames x2
    clear_value x2
    exact measured_only.step rfl (by assumption)

theorem execSlowAdcRound_only {s : State} {v0 v1 v2 v3} : OutTouch 8585740287 s (@execSlowAdcRound v0 v1 v2 v3 s) := by
  have h : Touch 8585740287 s s := Touch.refl
  unfold execSlowAdcRound
  extract_lets +onlyGivenNames x1
  have h1 : Touch 8585740287 s x1 := by
    unfold x1
    exact atTime_only.step rfl (by assumption)
  clear_value x1
  extract_lets +onlyGivenNames x2
  have h2 : Touch 8585740287 s x2 := by
    unfold x2
    refine Touch.foldl ?_ (fun y3 z3 h3 => ?_)
    · assumption
    · exact ainSample_only.step rfl (by assumption)
  clear_value x2
  extract_lets +onlyGivenNames x4
  have h4 : Touch 8585740287 s x4 := by
    unfold x4
    exact tsRound_only.step rfl (by assumption)
  clear_value x4
  refine OutTouch.ok ?_
  refine Touch.ite ?_ ?_
  · exact inc32_only.step rfl (by assumption)
  · assumption

theorem execFastAdcRound_only {s : State} {v0 v1 v2} : OutTouch 8585740287 s (@execFastAdcRound v0 v1 v2 s) := by
  have h : Touch 8585740287 s s := Touch.refl
  unfold execFastAdcRound
  extract_lets +onlyGivenNames x1
  have h1 : Touch 8585740287 s x1 := by
    unfold x1
    exact tsRound_only.step rfl (atTime_only.step rfl (by assumption))
  clear_value x1
  refine OutTouch.ok ?_
  refine Touch.ite ?_ ?_
  · exact inc32_only.step rfl (by assumption)
  · assumption

theorem execTdSample_only {s : State} {v0 v1 v2 v3} : OutTouch 8585740287 s (@execTdSample v0 v1 v2 v3 s) := by
  have h : Touch 8585740287 s s := Touch.refl
  unfold execTdSample
  extract_lets +onlyGivenNames x1
  have h1 : Touch 8585740287 s x1 := by
    unfold x1
    exact atTime_only.step rfl (by assumption)
  clear_value x1
  extract_lets +onlyGivenNames x2
  clear_value x2
  exact OutTouch.ok (measured_only.step rfl (by assumption))

theorem journalProgram_only {s : State} : Touch 4294971393 s (@State.journalProgram s) := by
  have h : Touch 4294971393 s s := Touch.refl
  unfold State.journalProgram
  refine Touch.ite ?_ ?_
  · assumption
  · extract_lets +onlyGivenNames x1
    extract_lets +onlyGivenNames x2
    have h2 : Touch 4294971393 s x2 := by
      unfold x2
      refine Touch.trans (b := s) ?_ { objects := .inl rfl, journal := .inl rfl, free := .inl rfl }
      assumption
    clear_value x2
    exact freeNext_only.step rfl (setn_only.step rfl (by assumption))

theorem execHoldupJournalProgrammed_only {s : State} {v0} : OutTouch 4294971393 s (@execHoldupJournalProgrammed v0 s) := by
  have h : Touch 4294971393 s s := Touch.refl
  unfold execHoldupJournalProgrammed
  extract_lets +onlyGivenNames x1
  have h1 : Touch 4294971393 s x1 := by
    unfold x1
    exact atTime_only.step rfl (by assumption)
  clear_value x1
  refine OutTouch.ok ?_
  refine Touch.ite ?_ ?_
  · exact journalProgram_only.step rfl (by assumption)
  · assumption

theorem decideStop_only {s : State} {v1 v2} : Touch 8388608 s (@State.decideStop s v1 v2) := by
  have h : Touch 8388608 s s := Touch.refl
  unfold State.decideStop
  split
  · assumption
  · exact setPower_only.step rfl (by assumption)

theorem holdupStart_only {s : State} : Touch 8388609 s (@State.holdupStart s) := by
  have h : Touch 8388609 s s := Touch.refl
  unfold State.holdupStart
  split
  · assumption
  · extract_lets +onlyGivenNames x1
    have h1 : Touch 8388609 s x1 := by
      unfold x1
      exact setn_only.step rfl (by assumption)
    clear_value x1
    refine Touch.ite ?_ ?_
    · exact setPower_only.step rfl (by assumption)
    · exact setPower_only.step rfl (by assumption)

theorem resetSequence_only {s : State} {v1} : Touch 8585740287 s (@State.resetSequence s v1) := by
  have h : Touch 8585740287 s s := Touch.refl
  unfold State.resetSequence
  refine Touch.ite ?_ ?_
  · assumption
  · extract_lets +onlyGivenNames x1
    clear_value x1
    extract_lets +onlyGivenNames x2
    have h2 : Touch 8585740287 s x2 := by
      unfold x2
      exact safeEnter_only.step rfl (by assumption)
    clear_value x2
    extract_lets +onlyGivenNames x3
    have h3 : Touch 8585740287 s x3 := by
      unfold x3
      refine Touch.ite ?_ ?_
      · exact disposeAll_only.step rfl (by assumption)
      · assumption
    clear_value x3
    extract_lets +onlyGivenNames x4
    have h4 : Touch 8585740287 s x4 := by
      unfold x4
      exact decideStop_only.step rfl (holdupStart_only.step rfl (by assumption))
    clear_value x4
    extract_lets +onlyGivenNames x5
    have h5 : Touch 8585740287 s x5 := by
      unfold x5
      exact setb_only.step rfl (by assumption)
    clear_value x5
    exact setPower_only.step rfl (by assumption)

theorem settleFlash_only {s : State} : Touch 4303376393 s (@State.settleFlash s) := by
  have h : Touch 4303376393 s s := Touch.refl
  unfold State.settleFlash
  extract_lets +onlyGivenNames x1
  have h1 : Touch 4303376393 s x1 := by
    unfold x1
    exact logFlash_only.step rfl (journalProgram_only.step rfl (by assumption))
  clear_value x1
  extract_lets +onlyGivenNames x2
  extract_lets +onlyGivenNames x3
  have h3 : Touch 4303376393 s x3 := by
    unfold x3
    refine Touch.trans (b := x1) ?_ { objects := .inl rfl, changeLog := .inl rfl, journal := .inl rfl, firing := .inl rfl, power := .inl rfl, free := .inl rfl }
    assumption
  clear_value x3
  refine Touch.step dropCheckpoint_only rfl ?_
  refine Touch.foldl ?_ (fun y4 z4 h4 => ?_)
  · assumption
  · exact accumulate_only.step rfl (by assumption)

theorem orderlyDown_only {s : State} {v1} : Touch 8585740287 s (@State.orderlyDown s v1) := by
  have h : Touch 8585740287 s s := Touch.refl
  unfold State.orderlyDown
  exact powerDown_only.step rfl (settleFlash_only.step rfl (by assumption))

theorem offRequest_only {s : State} : Touch 8585740287 s (@State.offRequest s) := by
  have h : Touch 8585740287 s s := Touch.refl
  unfold State.offRequest
  refine Touch.ite ?_ ?_
  · exact setPower_only.step rfl (by assumption)
  · refine Touch.ite ?_ ?_
    · exact orderlyDown_only.step rfl (safeEnter_only.step rfl (by assumption))
    · assumption

theorem faultClear_only {s : State} : Touch 8585740287 s (@State.faultClear s) := by
  have h : Touch 8585740287 s s := Touch.refl
  unfold State.faultClear
  refine Touch.ite ?_ ?_
  · assumption
  · extract_lets +onlyGivenNames x1
    have h1 : Touch 8585740287 s x1 := by
      unfold x1
      exact seqUnlatch_only.step rfl (by assumption)
    clear_value x1
    exact orderlyDown_only.step rfl (setPower_only.step rfl (by assumption))

theorem bootValues_only {s : State} : Touch 1 s (@State.bootValues s) := by
  have h : Touch 1 s s := Touch.refl
  unfold State.bootValues
  refine Touch.ite ?_ ?_
  · refine Touch.trans (b := s) ?_ { objects := .inl rfl }
    assumption
  · refine Touch.foldl ?_ (fun y1 z1 h1 => ?_)
    · assumption
    · exact setv_only.step rfl (by assumption)

theorem bootStart_only {s : State} : Touch 268702257 s (@State.bootStart s) := by
  have h : Touch 268702257 s s := Touch.refl
  unfold State.bootStart
  extract_lets +onlyGivenNames x1
  have h1 : Touch 268702257 s x1 := by
    unfold x1
    exact setn_only.step rfl (setn_only.step rfl (bootValues_only.step rfl (by assumption)))
  clear_value x1
  exact relock_only.step rfl (renewFaultN_only.step rfl (by assumption))

theorem upDone_only {s : State} : Touch 277090865 s (@State.upDone s) := by
  have h : Touch 277090865 s s := Touch.refl
  unfold State.upDone
  extract_lets +onlyGivenNames x1
  have h1 : Touch 277090865 s x1 := by
    unfold x1
    exact endSteps_only.step rfl (by assumption)
  clear_value x1
  refine Touch.ite ?_ ?_
  · exact bootStart_only.step rfl (domainsOn_only.step rfl (powerEnter_only.step rfl (by assumption)))
  · refine Touch.ite ?_ ?_
    · exact domainOn_only.step rfl (by assumption)
    · assumption

theorem upFrom_only {s : State} {v1} : Touch 277090865 s (@State.upFrom s v1) := by
  have h : Touch 277090865 s s := Touch.refl
  unfold State.upFrom
  split
  · exact beginStep_only.step rfl (by assumption)
  · exact upDone_only.step rfl (by assumption)

theorem stepDone_only {s : State} : Touch 8585740287 s (@State.stepDone s) := by
  have h : Touch 8585740287 s s := Touch.refl
  unfold State.stepDone
  extract_lets +onlyGivenNames x1
  clear_value x1
  refine Touch.ite ?_ ?_
  · exact orderlyDown_only.step rfl (setPower_only.step rfl (by assumption))
  · refine Touch.ite ?_ ?_
    · exact safeUpFrom_only.step rfl (by assumption)
    · exact upFrom_only.step rfl (by assumption)

theorem execSupplyGlitch_only {s : State} {v0} : OutTouch 1 s (@execSupplyGlitch v0 s) := by
  have h : Touch 1 s s := Touch.refl
  unfold execSupplyGlitch
  exact OutTouch.ok (inc32_only.step rfl (atTime_only.step rfl (by assumption)))

theorem renewSlots_only {s : State} : Touch 1 s (@State.renewSlots s) := by
  have h : Touch 1 s s := Touch.refl
  unfold State.renewSlots
  exact setn_only.step rfl (by assumption)

theorem writeBody_only {s : State} : Touch 8388609 s (@State.writeBody s) := by
  have h : Touch 8388609 s s := Touch.refl
  unfold State.writeBody
  split
  · refine Touch.ite ?_ ?_
    · assumption
    · exact renewSlots_only.step rfl (setPower_only.step rfl (by assumption))
  · assumption

theorem supplyWarning_only {s : State} : Touch 75497521 s (@State.supplyWarning s) := by
  have h : Touch 75497521 s s := Touch.refl
  unfold State.supplyWarning
  extract_lets +onlyGivenNames x1
  have h1 : Touch 75497521 s x1 := by
    unfold x1
    exact holdupStart_only.step rfl (by assumption)
  clear_value x1
  extract_lets +onlyGivenNames x2
  have h2 : Touch 75497521 s x2 := by
    unfold x2
    exact inc32_only.step rfl (setb_only.step rfl (by assumption))
  clear_value x2
  exact updateCut_only.step rfl (event_only.step rfl (by assumption))

theorem mainAt_only {s : State} {v1} : Touch 1 s (@State.mainAt s v1) := by
  have h : Touch 1 s s := Touch.refl
  unfold State.mainAt
  exact setn_only.step rfl (by assumption)

theorem outrankNow_only {s : State} : Touch 4657 s (@State.outrankNow s) := by
  have h : Touch 4657 s s := Touch.refl
  unfold State.outrankNow
  refine Touch.foldl ?_ (fun y1 z1 h1 => ?_)
  · assumption
  · exact dispose_only.step rfl (by assumption)

theorem powerStop_only {s : State} : Touch 8585740287 s (@State.powerStop s) := by
  have h : Touch 8585740287 s s := Touch.refl
  unfold State.powerStop
  extract_lets +onlyGivenNames x1
  have h1 : Touch 8585740287 s x1 := by
    unfold x1
    refine Touch.ite ?_ ?_
    · exact supplyWarning_only.step rfl (by assumption)
    · assumption
  clear_value x1
  extract_lets +onlyGivenNames x2
  clear_value x2
  extract_lets +onlyGivenNames x3
  clear_value x3
  extract_lets +onlyGivenNames x4
  have h4 : Touch 8585740287 s x4 := by
    unfold x4
    exact decideStop_only.step rfl (by assumption)
  clear_value x4
  extract_lets +onlyGivenNames x5
  extract_lets +onlyGivenNames x6
  have h6 : Touch 8585740287 s x6 := by
    unfold x6
    exact setPower_only.step rfl (by assumption)
  clear_value x6
  extract_lets +onlyGivenNames x7
  have h7 : Touch 8585740287 s x7 := by
    unfold x7
    exact setb_only.step rfl (by assumption)
  clear_value x7
  extract_lets +onlyGivenNames x8
  have h8 : Touch 8585740287 s x8 := by
    unfold x8
    exact safeEnter_only.step rfl (by assumption)
  clear_value x8
  extract_lets +onlyGivenNames x9
  have h9 : Touch 8585740287 s x9 := by
    unfold x9
    refine Touch.ite ?_ ?_
    · exact outrankNow_only.step rfl (by assumption)
    · assumption
  clear_value x9
  exact endSteps_only.step rfl (domainsOff_only.step rfl (powerEnter_only.step rfl (by assumption)))

theorem execPowerStop_only {s : State} {v0 v1} : OutTouch 8585740287 s (@execPowerStop v0 v1 s) := by
  have h : Touch 8585740287 s s := Touch.refl
  unfold execPowerStop
  extract_lets +onlyGivenNames x1
  have h1 : Touch 8585740287 s x1 := by
    unfold x1
    exact mainAt_only.step rfl (atTime_only.step rfl (by assumption))
  clear_value x1
  refine OutTouch.ite ?_ ?_
  · exact OutTouch.ok (by assumption)
  · exact OutTouch.ok (powerStop_only.step rfl (by assumption))

theorem toDefault_only {s : State} {v1} : Touch 9 s (@State.toDefault s v1) := by
  have h : Touch 9 s s := Touch.refl
  unfold State.toDefault
  extract_lets +onlyGivenNames x1
  have h1 : Touch 9 s x1 := by
    unfold x1
    exact logObj_only.step rfl (by assumption)
  clear_value x1
  refine Touch.trans (b := x1) ?_ { objects := .inl rfl, changeLog := .inl rfl }
  assumption

theorem applyPend_only {s : State} {v1} : Touch 11 s (@State.applyPend s v1) := by
  have h : Touch 11 s s := Touch.refl
  unfold State.applyPend
  extract_lets +onlyGivenNames x1
  extract_lets +onlyGivenNames x2
  have h2 : Touch 11 s x2 := by
    unfold x2
    refine Touch.trans (b := s) ?_ { objects := .inl rfl, waiting := .inl rfl, changeLog := .inl rfl }
    assumption
  clear_value x2
  extract_lets +onlyGivenNames x3
  clear_value x3
  exact setv_only.step rfl (logObj_only.step rfl (by assumption))

theorem loadSeq_only {s : State} : Touch 15 s (@State.loadSeq s) := by
  have h : Touch 15 s s := Touch.refl
  unfold State.loadSeq
  extract_lets +onlyGivenNames x1
  clear_value x1
  refine Touch.ite ?_ ?_
  · refine Touch.foldl ?_ (fun y2 z2 h2 => ?_)
    · refine Touch.trans (b := s) ?_ { objects := .inl rfl, waiting := .inl rfl, durable := .inl rfl, changeLog := .inl rfl }
      assumption
    · exact toDefault_only.step rfl (by assumption)
  · refine Touch.foldl ?_ (fun y3 z3 h3 => ?_)
    · assumption
    · exact applyPend_only.step rfl (by assumption)

theorem writeStop_only {s : State} : Touch 8388609 s (@State.writeStop s) := by
  have h : Touch 8388609 s s := Touch.refl
  unfold State.writeStop
  split
  · extract_lets +onlyGivenNames x1
    clear_value x1
    exact setn_only.step rfl (setPower_only.step rfl (by assumption))
  · assumption

theorem resetNow_only {s : State} : Touch 4290772991 s (@State.resetNow s) := by
  have h : Touch 4290772991 s s := Touch.refl
  unfold State.resetNow
  exact bootStart_only.step rfl (restart_only.step rfl (by assumption))

theorem execHoldupStopProgrammed_only {s : State} {v0} : OutTouch 8585740287 s (@execHoldupStopProgrammed v0 s) := by
  have h : Touch 8585740287 s s := Touch.refl
  unfold execHoldupStopProgrammed
  extract_lets +onlyGivenNames x1
  have h1 : Touch 8585740287 s x1 := by
    unfold x1
    exact atTime_only.step rfl (by assumption)
  clear_value x1
  split
  · exact OutTouch.ok (by assumption)
  · extract_lets +onlyGivenNames x2
    clear_value x2
    refine OutTouch.ite ?_ ?_
    · exact OutTouch.ok (by assumption)
    · extract_lets +onlyGivenNames x3
      have h3 : Touch 8585740287 s x3 := by
        unfold x3
        exact writeStop_only.step rfl (writeBody_only.step rfl (journalProgram_only.step rfl (by assumption)))
      clear_value x3
      extract_lets +onlyGivenNames x4
      have h4 : Touch 8585740287 s x4 := by
        unfold x4
        exact setn_only.step rfl (by assumption)
      clear_value x4
      extract_lets +onlyGivenNames x5
      extract_lets +onlyGivenNames x6
      have h6 : Touch 8585740287 s x6 := by
        unfold x6
        exact setPower_only.step rfl (by assumption)
      clear_value x6
      split
      · exact OutTouch.ok (by assumption)
      · refine OutTouch.ok ?_
        refine Touch.ite ?_ ?_
        · exact nextDown_only.step rfl (by assumption)
        · exact resetNow_only.step rfl (by assumption)

theorem powerUp_only {s : State} {v1} : Touch 277090879 s (@State.powerUp s v1) := by
  have h : Touch 277090879 s s := Touch.refl
  unfold State.powerUp
  extract_lets +onlyGivenNames x1
  extract_lets +onlyGivenNames x2
  have h2 : Touch 277090879 s x2 := by
    unfold x2
    exact setPower_only.step rfl (by assumption)
  clear_value x2
  extract_lets +onlyGivenNames x3
  have h3 : Touch 277090879 s x3 := by
    unfold x3
    exact loadSeq_only.step rfl (domainOn_only.step rfl (domainOn_only.step rfl (powerEnter_only.step rfl
      (by assumption))))
  clear_value x3
  exact upFrom_only.step rfl (setn_only.step rfl (by assumption))

theorem railLost_only {s : State} {v1 v2} : Touch 8585740287 s (@State.railLost s v1 v2) := by
  have h : Touch 8585740287 s s := Touch.refl
  unfold State.railLost
  exact orderlyDown_only.step rfl (setPower_only.step rfl (railFault_only.step rfl (seqLatch_only.step rfl
    (safeEnter_only.step rfl (by assumption)))))

theorem execSupplyWarningCleared_only {s : State} {v0 v1} : OutTouch 8388661 s (@execSupplyWarningCleared v0 v1 s) := by
  have h : Touch 8388661 s s := Touch.refl
  unfold execSupplyWarningCleared
  extract_lets +onlyGivenNames x1
  have h1 : Touch 8388661 s x1 := by
    unfold x1
    exact mainAt_only.step rfl (atTime_only.step rfl (by assumption))
  clear_value x1
  refine OutTouch.ite ?_ ?_
  · exact OutTouch.ok (by assumption)
  · extract_lets +onlyGivenNames x2
    have h2 : Touch 8388661 s x2 := by
      unfold x2
      exact decideStop_only.step rfl (setb_only.step rfl (by assumption))
    clear_value x2
    extract_lets +onlyGivenNames x3
    have h3 : Touch 8388661 s x3 := by
      unfold x3
      exact setDurable_only.step rfl (by assumption)
    clear_value x3
    exact OutTouch.ok (event_only.step rfl (by assumption))

theorem serviceLost_only {s : State} {v1} : Touch 8585740287 s (@State.serviceLost s v1) := by
  have h : Touch 8585740287 s s := Touch.refl
  unfold State.serviceLost
  extract_lets +onlyGivenNames x1
  have h1 : Touch 8585740287 s x1 := by
    unfold x1
    exact railFault_only.step rfl (seqLatch_only.step rfl (by assumption))
  clear_value x1
  exact orderlyDown_only.step rfl (setPower_only.step rfl (by assumption))

theorem execSeqWindowLost_only {s : State} {v0 v1 v2 v3} : OutTouch 8585740287 s (@execSeqWindowLost v0 v1 v2 v3 s) := by
  have h : Touch 8585740287 s s := Touch.refl
  unfold execSeqWindowLost
  extract_lets +onlyGivenNames x1
  have h1 : Touch 8585740287 s x1 := by
    unfold x1
    exact setn_only.step rfl (mainAt_only.step rfl (atTime_only.step rfl (by assumption)))
  clear_value x1
  refine OutTouch.ite ?_ ?_
  · exact OutTouch.ok (by assumption)
  · refine OutTouch.ite ?_ ?_
    · exact OutTouch.ok (powerStop_only.step rfl (by assumption))
    · refine OutTouch.ite ?_ ?_
      · exact OutTouch.ok (railLost_only.step rfl (by assumption))
      · refine OutTouch.ite ?_ ?_
        · exact OutTouch.ok (serviceLost_only.step rfl (by assumption))
        · exact OutTouch.ok (by assumption)

theorem execWakeOffRequest_only {s : State} {v0} : OutTouch 8585740287 s (@execWakeOffRequest v0 s) := by
  have h : Touch 8585740287 s s := Touch.refl
  unfold execWakeOffRequest
  extract_lets +onlyGivenNames x1
  have h1 : Touch 8585740287 s x1 := by
    unfold x1
    exact atTime_only.step rfl (by assumption)
  clear_value x1
  refine OutTouch.ite ?_ ?_
  · exact OutTouch.ok (by assumption)
  · exact OutTouch.ok (offRequest_only.step rfl (by assumption))

theorem serviceUp_only {s : State} : Touch 277090879 s (@State.serviceUp s) := by
  have h : Touch 277090879 s s := Touch.refl
  unfold State.serviceUp
  extract_lets +onlyGivenNames x1
  extract_lets +onlyGivenNames x2
  have h2 : Touch 277090879 s x2 := by
    unfold x2
    exact setPower_only.step rfl (by assumption)
  clear_value x2
  exact upFrom_only.step rfl (loadSeq_only.step rfl (domainOn_only.step rfl (domainOn_only.step rfl
    (powerEnter_only.step rfl (by assumption)))))

theorem execMainInputQualified_only {s : State} {v0 v1} : OutTouch 277090879 s (@execMainInputQualified v0 v1 s) := by
  have h : Touch 277090879 s s := Touch.refl
  unfold execMainInputQualified
  extract_lets +onlyGivenNames x1
  have h1 : Touch 277090879 s x1 := by
    unfold x1
    exact mainAt_only.step rfl (atTime_only.step rfl (by assumption))
  clear_value x1
  refine OutTouch.ite ?_ ?_
  · exact OutTouch.ok (powerUp_only.step rfl (by assumption))
  · exact OutTouch.ok (by assumption)

theorem railsDrop_only {s : State} : Touch 8388609 s (@State.railsDrop s) := by
  have h : Touch 8388609 s s := Touch.refl
  unfold State.railsDrop
  refine Touch.foldl ?_ (fun y1 z1 h1 => ?_)
  · assumption
  · exact setSeqState_only.step rfl (setSeq_only.step rfl (by assumption))

theorem execHoldUpExhausted_only {s : State} {v0} : OutTouch 4290772991 s (@execHoldUpExhausted v0 s) := by
  have h : Touch 4290772991 s s := Touch.refl
  unfold execHoldUpExhausted
  extract_lets +onlyGivenNames x1
  have h1 : Touch 4290772991 s x1 := by
    unfold x1
    exact atTime_only.step rfl (by assumption)
  clear_value x1
  refine OutTouch.ite ?_ ?_
  · exact OutTouch.ok (nextDown_only.step rfl (railsDrop_only.step rfl (domainsOff_only.step rfl
      (powerEnter_only.step rfl (by assumption)))))
  · refine OutTouch.ite ?_ ?_
    · exact OutTouch.ok (nextDown_only.step rfl (railsDrop_only.step rfl (by assumption)))
    · exact OutTouch.ok (by assumption)

theorem execMinOffTimeExpiry_only {s : State} {v0 v1} : OutTouch 277090879 s (@execMinOffTimeExpiry v0 v1 s) := by
  have h : Touch 277090879 s s := Touch.refl
  unfold execMinOffTimeExpiry
  extract_lets +onlyGivenNames x1
  have h1 : Touch 277090879 s x1 := by
    unfold x1
    exact mainAt_only.step rfl (atTime_only.step rfl (by assumption))
  clear_value x1
  refine OutTouch.ite ?_ ?_
  · exact OutTouch.ok (by assumption)
  · refine OutTouch.ite ?_ ?_
    · exact OutTouch.ok (serviceUp_only.step rfl (by assumption))
    · extract_lets +onlyGivenNames x2
      clear_value x2
      extract_lets +onlyGivenNames x3
      clear_value x3
      refine OutTouch.ite ?_ ?_
      · exact OutTouch.ok (powerEnter_only.step rfl (by assumption))
      · refine OutTouch.ite ?_ ?_
        · exact OutTouch.ok (powerUp_only.step rfl (by assumption))
        · exact OutTouch.ok (powerEnter_only.step rfl (setPower_only.step rfl (by assumption)))

theorem execWakeOnRequest_only {s : State} {v0 v1} : OutTouch 277090879 s (@execWakeOnRequest v0 v1 s) := by
  have h : Touch 277090879 s s := Touch.refl
  unfold execWakeOnRequest
  extract_lets +onlyGivenNames x1
  have h1 : Touch 277090879 s x1 := by
    unfold x1
    exact mainAt_only.step rfl (atTime_only.step rfl (by assumption))
  clear_value x1
  extract_lets +onlyGivenNames x2
  clear_value x2
  extract_lets +onlyGivenNames x3
  extract_lets +onlyGivenNames x4
  have h4 : Touch 277090879 s x4 := by
    unfold x4
    exact setPower_only.step rfl (by assumption)
  clear_value x4
  refine OutTouch.ite ?_ ?_
  · refine OutTouch.ok ?_
    refine Touch.ite ?_ ?_
    · exact powerUp_only.step rfl (by assumption)
    · assumption
  · refine OutTouch.ite ?_ ?_
    · exact OutTouch.ok (by assumption)
    · exact OutTouch.ok (by assumption)

theorem execSeqEnableDelayExpiry_only {s : State} {v0 v1} : OutTouch 8388609 s (@execSeqEnableDelayExpiry v0 v1 s) := by
  have h : Touch 8388609 s s := Touch.refl
  unfold execSeqEnableDelayExpiry
  extract_lets +onlyGivenNames x1
  have h1 : Touch 8388609 s x1 := by
    unfold x1
    exact atTime_only.step rfl (by assumption)
  clear_value x1
  refine OutTouch.ite ?_ ?_
  · exact OutTouch.ok (by assumption)
  · exact OutTouch.ok (setSeqState_only.step rfl (setSeq_only.step rfl (by assumption)))

theorem execHoldupBodyProgrammed_only {s : State} {v0} : OutTouch 8388609 s (@execHoldupBodyProgrammed v0 s) := by
  have h : Touch 8388609 s s := Touch.refl
  unfold execHoldupBodyProgrammed
  exact OutTouch.ok (writeBody_only.step rfl (atTime_only.step rfl (by assumption)))

theorem execResetDeadline_only {s : State} {v0} : OutTouch 4290772991 s (@execResetDeadline v0 s) := by
  have h : Touch 4290772991 s s := Touch.refl
  unfold execResetDeadline
  extract_lets +onlyGivenNames x1
  have h1 : Touch 4290772991 s x1 := by
    unfold x1
    exact atTime_only.step rfl (by assumption)
  clear_value x1
  split
  · refine OutTouch.ok ?_
    refine Touch.ite ?_ ?_
    · exact resetNow_only.step rfl (by assumption)
    · assumption
  · exact OutTouch.ok (by assumption)

theorem execSeqChannelSettled_only {s : State} {v0 v1 v2} : OutTouch 8585740287 s (@execSeqChannelSettled v0 v1 v2 s) := by
  have h : Touch 8585740287 s s := Touch.refl
  unfold execSeqChannelSettled
  extract_lets +onlyGivenNames x1
  have h1 : Touch 8585740287 s x1 := by
    unfold x1
    exact atTime_only.step rfl (by assumption)
  clear_value x1
  refine OutTouch.ite ?_ ?_
  · exact OutTouch.ok (by assumption)
  · extract_lets +onlyGivenNames x2
    have h2 : Touch 8585740287 s x2 := by
      unfold x2
      exact setSeqState_only.step rfl (setSeq_only.step rfl (by assumption))
    clear_value x2
    extract_lets +onlyGivenNames x3
    have h3 : Touch 8585740287 s x3 := by
      unfold x3
      exact setn_only.step rfl (by assumption)
    clear_value x3
    extract_lets +onlyGivenNames x4
    clear_value x4
    extract_lets +onlyGivenNames x5
    extract_lets +onlyGivenNames x6
    have h6 : Touch 8585740287 s x6 := by
      unfold x6
      exact setPower_only.step rfl (by assumption)
    clear_value x6
    refine OutTouch.ok ?_
    refine Touch.ite ?_ ?_
    · exact stepDone_only.step rfl (by assumption)
    · assumption

theorem execSeqUpTimeout_only {s : State} {v0 v1} : OutTouch 8585740287 s (@execSeqUpTimeout v0 v1 s) := by
  have h : Touch 8585740287 s s := Touch.refl
  unfold execSeqUpTimeout
  extract_lets +onlyGivenNames x1
  have h1 : Touch 8585740287 s x1 := by
    unfold x1
    exact atTime_only.step rfl (by assumption)
  clear_value x1
  refine OutTouch.ite ?_ ?_
  · exact OutTouch.ok (by assumption)
  · refine OutTouch.ite ?_ ?_
    · exact OutTouch.ok (serviceLost_only.step rfl (by assumption))
    · refine OutTouch.ite ?_ ?_
      · exact OutTouch.ok (railLost_only.step rfl (by assumption))
      · extract_lets +onlyGivenNames x2
        extract_lets +onlyGivenNames x3
        have h3 : Touch 8585740287 s x3 := by
          unfold x3
          exact setPower_only.step rfl (railFault_only.step rfl (seqLatch_only.step rfl (by assumption)))
        clear_value x3
        exact OutTouch.ok (orderlyDown_only.step rfl (by assumption))

theorem execSupplyWarning_only {s : State} {v0 v1} : OutTouch 75497521 s (@execSupplyWarning v0 v1 s) := by
  have h : Touch 75497521 s s := Touch.refl
  unfold execSupplyWarning
  extract_lets +onlyGivenNames x1
  have h1 : Touch 75497521 s x1 := by
    unfold x1
    exact mainAt_only.step rfl (atTime_only.step rfl (by assumption))
  clear_value x1
  refine OutTouch.ite ?_ ?_
  · exact OutTouch.ok (by assumption)
  · exact OutTouch.ok (supplyWarning_only.step rfl (by assumption))

theorem execMainSupplyPowerOn_only {s : State} {v0 v1 v2} : OutTouch 8589934591 s (@execMainSupplyPowerOn v0 v1 v2 s) := by
  have h : Touch 8589934591 s s := Touch.refl
  unfold execMainSupplyPowerOn
  extract_lets +onlyGivenNames x1
  have h1 : Touch 8589934591 s x1 := by
    unfold x1
    exact atTime_only.step rfl (by assumption)
  clear_value x1
  extract_lets +onlyGivenNames x2
  have h2 : Touch 8589934591 s x2 := by
    unfold x2
    exact restart_only.step rfl (railsDrop_only.step rfl (by assumption))
  clear_value x2
  extract_lets +onlyGivenNames x3
  extract_lets +onlyGivenNames x4
  have h4 : Touch 8589934591 s x4 := by
    unfold x4
    exact setPower_only.step rfl (by assumption)
  clear_value x4
  extract_lets +onlyGivenNames x5
  have h5 : Touch 8589934591 s x5 := by
    unfold x5
    exact mainAt_only.step rfl (setn_only.step rfl (setb_only.step rfl (seqUnlatch_only.step rfl
      (by assumption))))
  clear_value x5
  extract_lets +onlyGivenNames x6
  have h6 : Touch 8589934591 s x6 := by
    unfold x6
    refine Touch.foldl ?_ (fun y7 z7 h7 => ?_)
    · assumption
    · exact setn_only.step rfl (setn_only.step rfl (by assumption))
  clear_value x6
  extract_lets +onlyGivenNames x8
  have h8 : Touch 8589934591 s x8 := by
    unfold x8
    exact setb_only.step rfl (by assumption)
  clear_value x8
  extract_lets +onlyGivenNames x9
  extract_lets +onlyGivenNames x10
  clear_value x10
  extract_lets +onlyGivenNames x11
  extract_lets +onlyGivenNames x12
  have h12 : Touch 8589934591 s x12 := by
    unfold x12
    refine Touch.ite ?_ ?_
    · refine Touch.trans (b := x8) ?_ { objects := .inl rfl, waiting := .inl rfl, durable := .inl rfl, changeLog := .inl rfl, sessions := .inl rfl, network := .inl rfl, ptp := .inl rfl, web := .inl rfl, queues := .inl rfl, items := .inl rfl, results := .inl rfl, gates := .inl rfl, journal := .inl rfl, compositor := .inl rfl, firing := .inl rfl, links := .inl rfl, inspection := .inl rfl, cameras := .inl rfl, beam := .inl rfl, codec := .inl rfl, dma := .inl rfl, memory := .inl rfl, island := .inl rfl, power := .inl rfl, faults := .inl rfl, pair := .inl rfl, firmware := .inl rfl, integrator := .inl rfl, plls := .inl rfl, axes := .inl rfl, loops := .inl rfl, sensors := .inl rfl, free := .inl rfl }
      assumption
    · assumption
  clear_value x12
  extract_lets +onlyGivenNames x13
  have h13 : Touch 8589934591 s x13 := by
    unfold x13
    exact domainOn_only.step rfl (powerEnter_only.step rfl (by assumption))
  clear_value x13
  extract_lets +onlyGivenNames x14
  clear_value x14
  refine OutTouch.ite ?_ ?_
  · exact OutTouch.ok (by assumption)
  · refine OutTouch.ite ?_ ?_
    · exact OutTouch.ok (powerUp_only.step rfl (by assumption))
    · exact OutTouch.ok (setPower_only.step rfl (by assumption))

theorem execJournalProgram_only {s : State} {v0} : OutTouch 4294971393 s (@execJournalProgram v0 s) := by
  have h : Touch 4294971393 s s := Touch.refl
  unfold execJournalProgram
  exact OutTouch.ok (journalProgram_only.step rfl (atTime_only.step rfl (by assumption)))

theorem execStateCheckpoint_only {s : State} {v0} : OutTouch 4096 s (@execStateCheckpoint v0 s) := by
  have h : Touch 4096 s s := Touch.refl
  unfold execStateCheckpoint
  extract_lets +onlyGivenNames x1
  have h1 : Touch 4096 s x1 := by
    unfold x1
    exact atTime_only.step rfl (by assumption)
  clear_value x1
  refine OutTouch.ite ?_ ?_
  · exact OutTouch.ok (by assumption)
  · refine OutTouch.ok ?_
    refine Touch.trans (b := x1) ?_ { journal := .inl rfl }
    assumption

theorem execHoldupSectorErased_only {s : State} {v0} : OutTouch 8388609 s (@execHoldupSectorErased v0 s) := by
  have h : Touch 8388609 s s := Touch.refl
  unfold execHoldupSectorErased
  extract_lets +onlyGivenNames x1
  have h1 : Touch 8388609 s x1 := by
    unfold x1
    exact atTime_only.step rfl (by assumption)
  clear_value x1
  refine OutTouch.ite ?_ ?_
  · exact OutTouch.ok (by assumption)
  · exact OutTouch.ok (renewSlots_only.step rfl (setPower_only.step rfl (by assumption)))

theorem renewGroup_only {s : State} {v1} : Touch 1 s (@State.renewGroup s v1) := by
  have h : Touch 1 s s := Touch.refl
  unfold State.renewGroup
  extract_lets +onlyGivenNames x1
  have h1 : Touch 1 s x1 := by
    unfold x1
    exact setn_only.step rfl (by assumption)
  clear_value x1
  extract_lets +onlyGivenNames x2
  have h2 : Touch 1 s x2 := by
    unfold x2
    exact setn_only.step rfl (by assumption)
  clear_value x2
  exact setn_only.step rfl (by assumption)

theorem clearSticky_only {s : State} {v1} : Touch 16777217 s (@State.clearSticky s v1) := by
  have h : Touch 16777217 s s := Touch.refl
  unfold State.clearSticky
  extract_lets +onlyGivenNames x1
  clear_value x1
  refine Touch.ite ?_ ?_
  · exact renewGroup_only.step rfl (setSource_only.step rfl (by assumption))
  · assumption

theorem clearFault_only {s : State} {v1} : Touch 16777217 s (@State.clearFault s v1) := by
  have h : Touch 16777217 s s := Touch.refl
  unfold State.clearFault
  refine Touch.ite ?_ ?_
  · exact renewFaultN_only.step rfl (clearSticky_only.step rfl (by assumption))
  · refine Touch.ite ?_ ?_
    · refine Touch.step renewFaultN_only rfl ?_
      refine Touch.foldl ?_ (fun y1 z1 h1 => ?_)
      · assumption
      · exact clearSticky_only.step rfl (by assumption)
    · assumption

theorem startQuiet_only {s : State} {v1} : Touch 16777217 s (@State.startQuiet s v1) := by
  have h : Touch 16777217 s s := Touch.refl
  unfold State.startQuiet
  extract_lets +onlyGivenNames x1
  have h1 : Touch 16777217 s x1 := by
    unfold x1
    exact renewGroup_only.step rfl (by assumption)
  clear_value x1
  refine Touch.ite ?_ ?_
  · refine Touch.setFault (.inl rfl) (.inr rfl) ?_
    assumption
  · assumption

theorem raiseSource_only {s : State} {v1 v2} : Touch 8585740287 s (@State.raiseSource s v1 v2) := by
  have h : Touch 8585740287 s s := Touch.refl
  unfold State.raiseSource
  extract_lets +onlyGivenNames x1
  clear_value x1
  extract_lets +onlyGivenNames x2
  clear_value x2
  extract_lets +onlyGivenNames x3
  have h3 : Touch 8585740287 s x3 := by
    unfold x3
    exact setSource_only.step rfl (by assumption)
  clear_value x3
  extract_lets +onlyGivenNames x4
  extract_lets +onlyGivenNames x5
  have h5 : Touch 8585740287 s x5 := by
    unfold x5
    refine Touch.setFault (.inl rfl) (.inl rfl) ?_
    assumption
  clear_value x5
  extract_lets +onlyGivenNames x6
  have h6 : Touch 8585740287 s x6 := by
    unfold x6
    exact renewGroup_only.step rfl (setn_only.step rfl (by assumption))
  clear_value x6
  extract_lets +onlyGivenNames x7
  clear_value x7
  extract_lets +onlyGivenNames x8
  have h8 : Touch 8585740287 s x8 := by
    unfold x8
    refine Touch.ite ?_ ?_
    · exact safeEnter_only.step rfl (by assumption)
    · assumption
  clear_value x8
  extract_lets +onlyGivenNames x9
  have h9 : Touch 8585740287 s x9 := by
    unfold x9
    refine Touch.ite ?_ ?_
    · exact relinquish_only.step rfl (by assumption)
    · assumption
  clear_value x9
  extract_lets +onlyGivenNames x10
  have h10 : Touch 8585740287 s x10 := by
    unfold x10
    refine Touch.ite ?_ ?_
    · exact event_only.step rfl (by assumption)
    · assumption
  clear_value x10
  extract_lets +onlyGivenNames x11
  extract_lets +onlyGivenNames x12
  have h12 : Touch 8585740287 s x12 := by
    unfold x12
    refine Touch.ite ?_ ?_
    · refine Touch.setFault (.inl rfl) (.inl rfl) ?_
      assumption
    · assumption
  clear_value x12
  exact renewFaultN_only.step rfl (by assumption)

theorem inject_only {s : State} {v1 v2} : Touch 8585740287 s (@State.inject s v1 v2) := by
  have h : Touch 8585740287 s s := Touch.refl
  unfold State.inject
  extract_lets +onlyGivenNames x1
  clear_value x1
  refine Touch.ite ?_ ?_
  · assumption
  · refine Touch.ite ?_ ?_
    · extract_lets +onlyGivenNames x2
      have h2 : Touch 8585740287 s x2 := by
        unfold x2
        exact setn_only.step rfl (by assumption)
      clear_value x2
      refine Touch.ite ?_ ?_
      · exact renewFaultN_only.step rfl (startQuiet_only.step rfl (setSource_only.step rfl (by assumption)))
      · assumption
    · extract_lets +onlyGivenNames x3
      have h3 : Touch 8585740287 s x3 := by
        unfold x3
        exact event_only.step rfl (setn_only.step rfl (by assumption))
      clear_value x3
      refine Touch.ite ?_ ?_
      · assumption
      · exact raiseSource_only.step rfl (by assumption)

theorem writeActions_only {s : State} {v1} : Touch 16777217 s (@State.writeActions s v1) := by
  have h : Touch 16777217 s s := Touch.refl
  unfold State.writeActions
  refine Touch.step renewFaultN_only rfl ?_
  refine Touch.setFault (.inl rfl) (.inr rfl) ?_
  assumption

theorem sourceOn_only {s : State} {v1 v2} : Touch 8585740287 s (@State.sourceOn s v1 v2) := by
  have h : Touch 8585740287 s s := Touch.refl
  unfold State.sourceOn
  extract_lets +onlyGivenNames x1
  clear_value x1
  extract_lets +onlyGivenNames x2
  clear_value x2
  refine Touch.ite ?_ ?_
  · assumption
  · extract_lets +onlyGivenNames x3
    have h3 : Touch 8585740287 s x3 := by
      unfold x3
      refine Touch.ite ?_ ?_
      · exact inc32_only.step rfl (by assumption)
      · assumption
    clear_value x3
    extract_lets +onlyGivenNames x4
    have h4 : Touch 8585740287 s x4 := by
      unfold x4
      exact setSource_only.step rfl (by assumption)
    clear_value x4
    refine Touch.ite ?_ ?_
    · exact raiseSource_only.step rfl (by assumption)
    · refine Touch.ite ?_ ?_
      · assumption
      · exact setSource_only.step rfl (by assumption)

theorem execNetrefFault_only {s : State} {v0 v1} : OutTouch 8585740287 s (@execNetrefFault v0 v1 s) := by
  have h : Touch 8585740287 s s := Touch.refl
  unfold execNetrefFault
  extract_lets +onlyGivenNames x1
  have h1 : Touch 8585740287 s x1 := by
    unfold x1
    exact setn_only.step rfl (atTime_only.step rfl (by assumption))
  clear_value x1
  exact OutTouch.ok (sourceOn_only.step rfl (by assumption))

theorem recoverSticky_only {s : State} {v1} : Touch 16777217 s (@State.recoverSticky s v1) := by
  have h : Touch 16777217 s s := Touch.refl
  unfold State.recoverSticky
  refine Touch.foldl ?_ (fun y1 z1 h1 => ?_)
  · assumption
  · refine Touch.ite ?_ ?_
    · exact clearSticky_only.step rfl (by assumption)
    · assumption

theorem execCollectorSelfFault_only {s : State} {v0} : OutTouch 8585740287 s (@execCollectorSelfFault v0 s) := by
  have h : Touch 8585740287 s s := Touch.refl
  unfold execCollectorSelfFault
  extract_lets +onlyGivenNames x1
  have h1 : Touch 8585740287 s x1 := by
    unfold x1
    exact safeEnter_only.step rfl (atTime_only.step rfl (by assumption))
  clear_value x1
  exact OutTouch.ok (renewFaultN_only.step rfl (setn_only.step rfl (by assumption)))

theorem execGroupRecovered_only {s : State} {v0 v1} : OutTouch 562303545 s (@execGroupRecovered v0 v1 s) := by
  have h : Touch 562303545 s s := Touch.refl
  unfold execGroupRecovered
  extract_lets +onlyGivenNames x1
  have h1 : Touch 562303545 s x1 := by
    unfold x1
    exact atTime_only.step rfl (by assumption)
  clear_value x1
  refine OutTouch.ite ?_ ?_
  · exact OutTouch.ok (by assumption)
  · extract_lets +onlyGivenNames x2
    extract_lets +onlyGivenNames x3
    have h3 : Touch 562303545 s x3 := by
      unfold x3
      refine Touch.step recoverSticky_only rfl ?_
      refine Touch.setFault (.inl rfl) (.inr rfl) ?_
      assumption
    clear_value x3
    extract_lets +onlyGivenNames x4
    clear_value x4
    extract_lets +onlyGivenNames x5
    have h5 : Touch 562303545 s x5 := by
      unfold x5
      exact event_only.step rfl (setn_only.step rfl (by assumption))
    clear_value x5
    extract_lets +onlyGivenNames x6
    have h6 : Touch 562303545 s x6 := by
      unfold x6
      exact renewFaultN_only.step rfl (by assumption)
    clear_value x6
    refine OutTouch.ite ?_ ?_
    · exact OutTouch.ok (safeLeave_only.step rfl (by assumption))
    · exact OutTouch.ok (by assumption)

theorem execFaultSourceActive_only {s : State} {v0 v1 v2} : OutTouch 8585740287 s (@execFaultSourceActive v0 v1 v2 s) := by
  have h : Touch 8585740287 s s := Touch.refl
  unfold execFaultSourceActive
  extract_lets +onlyGivenNames x1
  have h1 : Touch 8585740287 s x1 := by
    unfold x1
    exact atTime_only.step rfl (by assumption)
  clear_value x1
  refine OutTouch.ite ?_ ?_
  · exact OutTouch.ok (by assumption)
  · exact OutTouch.ok (sourceOn_only.step rfl (by assumption))

theorem execFaultSourceInactive_only {s : State} {v0 v1} : OutTouch 16777217 s (@execFaultSourceInactive v0 v1 s) := by
  have h : Touch 16777217 s s := Touch.refl
  unfold execFaultSourceInactive
  extract_lets +onlyGivenNames x1
  have h1 : Touch 16777217 s x1 := by
    unfold x1
    exact atTime_only.step rfl (by assumption)
  clear_value x1
  extract_lets +onlyGivenNames x2
  clear_value x2
  refine OutTouch.ite ?_ ?_
  · exact OutTouch.ok (by assumption)
  · extract_lets +onlyGivenNames x3
    have h3 : Touch 16777217 s x3 := by
      unfold x3
      exact setSource_only.step rfl (by assumption)
    clear_value x3
    exact OutTouch.ok (renewFaultN_only.step rfl (startQuiet_only.step rfl (by assumption)))

theorem execFaultNPulseEnd_only {s : State} {v0} : OutTouch 1 s (@execFaultNPulseEnd v0 s) := by
  have h : Touch 1 s s := Touch.refl
  unfold execFaultNPulseEnd
  exact OutTouch.ok (renewFaultN_only.step rfl (atTime_only.step rfl (by assumption)))

theorem execFaultSelfTestTurn_only {s : State} {v0 v1} : OutTouch 8585740287 s (@execFaultSelfTestTurn v0 v1 s) := by
  have h : Touch 8585740287 s s := Touch.refl
  unfold execFaultSelfTestTurn
  extract_lets +onlyGivenNames x1
  have h1 : Touch 8585740287 s x1 := by
    unfold x1
    exact atTime_only.step rfl (by assumption)
  clear_value x1
  extract_lets +onlyGivenNames x2
  clear_value x2
  extract_lets +onlyGivenNames x3
  clear_value x3
  refine OutTouch.ok ?_
  refine Touch.step inject_only rfl ?_
  refine Touch.setFault (.inl rfl) (.inl rfl) ?_
  assumption

end Sys2Proof.Machine
end

