-- ==== Sys2Proof/Laws/TouchE.lean ====
section
/-! SUPPORT. Which parts of the state the operations of these files may change, by `Touch`: Pair, Mgmt, OdRead,
Effects, Accept, Requests, Boot. -/

set_option Elab.async false

namespace Sys2Proof.Machine

theorem ackMirror_only {s : State} {v1} : Touch 33554448 s (@State.ackMirror s v1) := by
  have h : Touch 33554448 s s := Touch.refl
  unfold State.ackMirror
  extract_lets +onlyGivenNames x1
  clear_value x1
  extract_lets +onlyGivenNames x2
  clear_value x2
  extract_lets +onlyGivenNames x3
  extract_lets +onlyGivenNames x4
  have h4 : Touch 33554448 s x4 := by
    unfold x4
    refine Touch.setFault (.inr rfl) (.inl rfl) ?_
    assumption
  clear_value x4
  refine Touch.foldl ?_ (fun y5 z5 h5 => ?_)
  · assumption
  · exact sendIn_only.step rfl (by assumption)

theorem execMirrorLaneLockLost_only {s : State} {v0 v1} : OutTouch 8585740287 s (@execMirrorLaneLockLost v0 v1 s) := by
  have h : Touch 8585740287 s s := Touch.refl
  unfold execMirrorLaneLockLost
  extract_lets +onlyGivenNames x1
  have h1 : Touch 8585740287 s x1 := by
    unfold x1
    exact atTime_only.step rfl (by assumption)
  clear_value x1
  extract_lets +onlyGivenNames x2
  extract_lets +onlyGivenNames x3
  have h3 : Touch 8585740287 s x3 := by
    unfold x3
    refine Touch.setFault (.inl rfl) (.inl rfl) ?_
    assumption
  clear_value x3
  exact OutTouch.ok (sourceOn_only.step rfl (failBit_only.step rfl (by assumption)))

theorem forget_only {s : State} : Touch 768 s (@State.forget s) := by
  have h : Touch 768 s s := Touch.refl
  unfold State.forget
  refine Touch.foldl ?_ (fun y1 z1 h1 => ?_)
  · exact setItems_only.step rfl (by assumption)
  · exact setQueue_only.step rfl (by assumption)

theorem takeRole_only {s : State} : Touch 50331697 s (@State.takeRole s) := by
  have h : Touch 50331697 s s := Touch.refl
  unfold State.takeRole
  exact pairEnter_only.step rfl (setn_only.step rfl (by assumption))

theorem seekBeat_only {s : State} {v1} : Touch 50332465 s (@State.seekBeat s v1) := by
  have h : Touch 50332465 s s := Touch.refl
  unfold State.seekBeat
  refine Touch.ite ?_ ?_
  · exact setn_only.step rfl (by assumption)
  · refine Touch.ite ?_ ?_
    · exact pairEnter_only.step rfl (forget_only.step rfl (failBit_only.step rfl (setn_only.step rfl
        (by assumption))))
    · extract_lets +onlyGivenNames x1
      clear_value x1
      refine Touch.ite ?_ ?_
      · exact takeRole_only.step rfl (by assumption)
      · assumption

theorem loopsHeld_only {s : State} {v1 v2} : Touch 1 s (@State.loopsHeld s v1 v2) := by
  have h : Touch 1 s s := Touch.refl
  unfold State.loopsHeld
  refine Touch.foldl ?_ (fun y1 z1 h1 => ?_)
  · assumption
  · refine Touch.ite ?_ ?_
    · exact setn_only.step rfl (by assumption)
    · assumption

theorem takeover_only {s : State} {v1} : Touch 50331697 s (@State.takeover s v1) := by
  have h : Touch 50331697 s s := Touch.refl
  unfold State.takeover
  extract_lets +onlyGivenNames x1
  extract_lets +onlyGivenNames x2
  have h2 : Touch 50331697 s x2 := by
    unfold x2
    refine Touch.setFault (.inl rfl) (.inl rfl) ?_
    assumption
  clear_value x2
  extract_lets +onlyGivenNames x3
  have h3 : Touch 50331697 s x3 := by
    unfold x3
    exact event_only.step rfl (by assumption)
  clear_value x3
  exact loopsHeld_only.step rfl (pairEnter_only.step rfl (by assumption))

theorem partnerLost_only {s : State} {v1} : Touch 50331697 s (@State.partnerLost s v1) := by
  have h : Touch 50331697 s s := Touch.refl
  unfold State.partnerLost
  refine Touch.ite ?_ ?_
  · exact takeover_only.step rfl (by assumption)
  · refine Touch.ite ?_ ?_
    · exact pairEnter_only.step rfl (by assumption)
    · refine Touch.ite ?_ ?_
      · exact pairEnter_only.step rfl (by assumption)
      · assumption

theorem testEncoder_only {s : State} {v1} : Touch 33554433 s (@State.testEncoder s v1) := by
  have h : Touch 33554433 s s := Touch.refl
  unfold State.testEncoder
  extract_lets +onlyGivenNames x1
  clear_value x1
  extract_lets +onlyGivenNames x2
  have h2 : Touch 33554433 s x2 := by
    unfold x2
    exact seti_only.step rfl (by assumption)
  clear_value x2
  refine Touch.ite ?_ ?_
  · extract_lets +onlyGivenNames x3
    clear_value x3
    extract_lets +onlyGivenNames x4
    extract_lets +onlyGivenNames x5
    have h5 : Touch 33554433 s x5 := by
      unfold x5
      refine Touch.setFault (.inr rfl) (.inl rfl) ?_
      assumption
    clear_value x5
    refine Touch.ite ?_ ?_
    · exact failBit_only.step rfl (by assumption)
    · assumption
  · refine Touch.step testBit_only rfl ?_
    refine Touch.setFault (.inr rfl) (.inl rfl) ?_
    assumption

theorem beatTests_only {s : State} {v1} : Touch 33554433 s (@State.beatTests s v1) := by
  have h : Touch 33554433 s s := Touch.refl
  unfold State.beatTests
  extract_lets +onlyGivenNames x1
  have h1 : Touch 33554433 s x1 := by
    unfold x1
    exact testBit_only.step rfl (testBit_only.step rfl (by assumption))
  clear_value x1
  extract_lets +onlyGivenNames x2
  have h2 : Touch 33554433 s x2 := by
    unfold x2
    refine Touch.ite ?_ ?_
    · exact testEncoder_only.step rfl (by assumption)
    · assumption
  clear_value x2
  exact testBit_only.step rfl (testBit_only.step rfl (by assumption))

theorem coverShadow_only {s : State} {v1} : Touch 279041 s (@State.coverShadow s v1) := by
  have h : Touch 279041 s s := Touch.refl
  unfold State.coverShadow
  extract_lets +onlyGivenNames x1
  clear_value x1
  extract_lets +onlyGivenNames x2
  clear_value x2
  extract_lets +onlyGivenNames x3
  clear_value x3
  extract_lets +onlyGivenNames x4
  extract_lets +onlyGivenNames x5
  have h5 : Touch 279041 s x5 := by
    unfold x5
    refine Touch.setFire (.inl rfl) (.inr rfl) ?_
    assumption
  clear_value x5
  extract_lets +onlyGivenNames x6
  extract_lets +onlyGivenNames x7
  have h7 : Touch 279041 s x7 := by
    unfold x7
    refine Touch.trans (b := x5) ?_ { objects := .inl rfl, items := .inl rfl, firing := .inl rfl, beam := .inl rfl }
    assumption
  clear_value x7
  extract_lets +onlyGivenNames x8
  have h8 : Touch 279041 s x8 := by
    unfold x8
    refine Touch.foldl ?_ (fun y9 z9 h9 => ?_)
    · assumption
    · exact countFired_only.step rfl (by assumption)
  clear_value x8
  refine Touch.foldl ?_ (fun y10 z10 h10 => ?_)
  · assumption
  · extract_lets +onlyGivenNames x11
    have h11 : Touch 279041 s x11 := by
      unfold x11
      exact bump_only.step rfl (by assumption)
    clear_value x11
    refine Touch.ite ?_ ?_
    · exact bump_only.step rfl (by assumption)
    · exact bump_only.step rfl (by assumption)

theorem beatState_only {s : State} {v1} : Touch 50332465 s (@State.beatState s v1) := by
  have h : Touch 50332465 s s := Touch.refl
  unfold State.beatState
  extract_lets +onlyGivenNames x1
  clear_value x1
  refine Touch.ite ?_ ?_
  · exact seekBeat_only.step rfl (by assumption)
  · refine Touch.ite ?_ ?_
    · exact pairEnter_only.step rfl (by assumption)
    · refine Touch.ite ?_ ?_
      · exact pairEnter_only.step rfl (by assumption)
      · assumption

theorem execHeartbeatReceived_only {s : State} {v0 v1} : OutTouch 50610993 s (@execHeartbeatReceived v0 v1 s) := by
  have h : Touch 50610993 s s := Touch.refl
  unfold execHeartbeatReceived
  extract_lets +onlyGivenNames x1
  have h1 : Touch 50610993 s x1 := by
    unfold x1
    exact atTime_only.step rfl (by assumption)
  clear_value x1
  refine OutTouch.ite ?_ ?_
  · exact OutTouch.ok (by assumption)
  · extract_lets +onlyGivenNames x2
    extract_lets +onlyGivenNames x3
    have h3 : Touch 50610993 s x3 := by
      unfold x3
      refine Touch.setFault (.inl rfl) (.inl rfl) ?_
      assumption
    clear_value x3
    extract_lets +onlyGivenNames x4
    have h4 : Touch 50610993 s x4 := by
      unfold x4
      exact setv_only.step rfl (by assumption)
    clear_value x4
    extract_lets +onlyGivenNames x5
    have h5 : Touch 50610993 s x5 := by
      unfold x5
      exact beatTests_only.step rfl (ackMirror_only.step rfl (by assumption))
    clear_value x5
    extract_lets +onlyGivenNames x6
    have h6 : Touch 50610993 s x6 := by
      unfold x6
      refine Touch.ite ?_ ?_
      · exact coverShadow_only.step rfl (by assumption)
      · assumption
    clear_value x6
    exact OutTouch.ok (beatState_only.step rfl (by assumption))

theorem testLink_only {s : State} {v1 v2 v3} : Touch 33554433 s (@State.testLink s v1 v2 v3) := by
  have h : Touch 33554433 s s := Touch.refl
  unfold State.testLink
  refine Touch.ite ?_ ?_
  · assumption
  · extract_lets +onlyGivenNames x1
    clear_value x1
    extract_lets +onlyGivenNames x2
    clear_value x2
    extract_lets +onlyGivenNames x3
    have h3 : Touch 33554433 s x3 := by
      unfold x3
      exact testBit_only.step rfl (setn_only.step rfl (by assumption))
    clear_value x3
    exact testBit_only.step rfl (by assumption)

theorem execPartnerLossTimeout_only {s : State} {v0} : OutTouch 50331697 s (@execPartnerLossTimeout v0 s) := by
  have h : Touch 50331697 s s := Touch.refl
  unfold execPartnerLossTimeout
  exact OutTouch.ok (partnerLost_only.step rfl (atTime_only.step rfl (by assumption)))

theorem execPairSeekTimeout_only {s : State} {v0} : OutTouch 50331697 s (@execPairSeekTimeout v0 s) := by
  have h : Touch 50331697 s s := Touch.refl
  unfold execPairSeekTimeout
  extract_lets +onlyGivenNames x1
  have h1 : Touch 50331697 s x1 := by
    unfold x1
    exact atTime_only.step rfl (by assumption)
  clear_value x1
  refine OutTouch.ite ?_ ?_
  · exact OutTouch.ok (takeRole_only.step rfl (by assumption))
  · exact OutTouch.ok (by assumption)

theorem execPairFenceInHigh_only {s : State} {v0} : OutTouch 50331697 s (@execPairFenceInHigh v0 s) := by
  have h : Touch 50331697 s s := Touch.refl
  unfold execPairFenceInHigh
  extract_lets +onlyGivenNames x1
  have h1 : Touch 50331697 s x1 := by
    unfold x1
    exact atTime_only.step rfl (by assumption)
  clear_value x1
  extract_lets +onlyGivenNames x2
  extract_lets +onlyGivenNames x3
  have h3 : Touch 50331697 s x3 := by
    unfold x3
    refine Touch.step pairOutputs_only rfl ?_
    refine Touch.setFault (.inl rfl) (.inl rfl) ?_
    assumption
  clear_value x3
  refine OutTouch.ite ?_ ?_
  · exact OutTouch.ok (pairEnter_only.step rfl (by assumption))
  · exact OutTouch.ok (by assumption)

theorem superseded_only {s : State} {v1 v2} : Touch 50364465 s (@State.superseded s v1 v2) := by
  have h : Touch 50364465 s s := Touch.refl
  unfold State.superseded
  extract_lets +onlyGivenNames x1
  clear_value x1
  extract_lets +onlyGivenNames x2
  clear_value x2
  extract_lets +onlyGivenNames x3
  clear_value x3
  extract_lets +onlyGivenNames x4
  have h4 : Touch 50364465 s x4 := by
    unfold x4
    exact setLink_only.step rfl (by assumption)
  clear_value x4
  refine Touch.ite ?_ ?_
  · exact pairEnter_only.step rfl (by assumption)
  · assumption

theorem execBackStatus_only {s : State} {v0 v1 v2} : OutTouch 50430001 s (@execBackStatus v0 v1 v2 s) := by
  have h : Touch 50430001 s s := Touch.refl
  unfold execBackStatus
  extract_lets +onlyGivenNames x1
  have h1 : Touch 50430001 s x1 := by
    unfold x1
    exact atTime_only.step rfl (by assumption)
  clear_value x1
  extract_lets +onlyGivenNames x2
  clear_value x2
  refine OutTouch.ite ?_ ?_
  · exact OutTouch.ok (by assumption)
  · extract_lets +onlyGivenNames x3
    clear_value x3
    extract_lets +onlyGivenNames x4
    have h4 : Touch 50430001 s x4 := by
      unfold x4
      exact testLink_only.step rfl (backStatus_only.step rfl (by assumption))
    clear_value x4
    refine OutTouch.ok ?_
    refine Touch.step mirror_only rfl ?_
    refine Touch.ite ?_ ?_
    · exact setLink_only.step rfl (by assumption)
    · exact superseded_only.step rfl (by assumption)

theorem gapLines_only {s : State} : Touch 278528 s (@State.gapLines s) := by
  have h : Touch 278528 s s := Touch.refl
  unfold State.gapLines
  extract_lets +onlyGivenNames x1
  extract_lets +onlyGivenNames x2
  have h2 : Touch 278528 s x2 := by
    unfold x2
    refine Touch.setFire (.inl rfl) (.inr rfl) ?_
    assumption
  clear_value x2
  refine Touch.trans (b := x2) ?_ { firing := .inl rfl, beam := .inl rfl }
  assumption

theorem gapFrames_only {s : State} : Touch 5681 s (@State.gapFrames s) := by
  have h : Touch 5681 s s := Touch.refl
  unfold State.gapFrames
  refine Touch.foldl ?_ (fun y1 z1 h1 => ?_)
  · assumption
  · refine Touch.foldl ?_ (fun y2 z2 h2 => ?_)
    · assumption
    · exact camResult_only.step rfl (modItem_only.step rfl (by assumption))

theorem takeoverDone_only {s : State} : Touch 54884273 s (@State.takeoverDone s) := by
  have h : Touch 54884273 s s := Touch.refl
  unfold State.takeoverDone
  extract_lets +onlyGivenNames x1
  clear_value x1
  extract_lets +onlyGivenNames x2
  clear_value x2
  extract_lets +onlyGivenNames x3
  clear_value x3
  extract_lets +onlyGivenNames x4
  clear_value x4
  extract_lets +onlyGivenNames x5
  have h5 : Touch 54884273 s x5 := by
    unfold x5
    exact setn_only.step rfl (by assumption)
  clear_value x5
  extract_lets +onlyGivenNames x6
  have h6 : Touch 54884273 s x6 := by
    unfold x6
    exact loopsHeld_only.step rfl (pairEnter_only.step rfl (by assumption))
  clear_value x6
  extract_lets +onlyGivenNames x7
  have h7 : Touch 54884273 s x7 := by
    unfold x7
    exact gapLines_only.step rfl (by assumption)
  clear_value x7
  extract_lets +onlyGivenNames x8
  have h8 : Touch 54884273 s x8 := by
    unfold x8
    refine Touch.foldl ?_ (fun y9 z9 h9 => ?_)
    · assumption
    · exact dispose_only.step rfl (by assumption)
  clear_value x8
  extract_lets +onlyGivenNames x10
  extract_lets +onlyGivenNames x11
  have h11 : Touch 54884273 s x11 := by
    unfold x11
    refine Touch.setFault (.inl rfl) (.inl rfl) ?_
    assumption
  clear_value x11
  extract_lets +onlyGivenNames x12
  have h12 : Touch 54884273 s x12 := by
    unfold x12
    refine Touch.foldl ?_ (fun y13 z13 h13 => ?_)
    · assumption
    · exact bindTrigger_only.step rfl (by assumption)
  clear_value x12
  extract_lets +onlyGivenNames x14
  have h14 : Touch 54884273 s x14 := by
    unfold x14
    exact gapFrames_only.step rfl (by assumption)
  clear_value x14
  extract_lets +onlyGivenNames x15
  have h15 : Touch 54884273 s x15 := by
    unfold x15
    exact setn_only.step rfl (inc32_only.step rfl (by assumption))
  clear_value x15
  extract_lets +onlyGivenNames x16
  have h16 : Touch 54884273 s x16 := by
    unfold x16
    exact setn_only.step rfl (setn_only.step rfl (by assumption))
  clear_value x16
  exact event_only.step rfl (by assumption)

theorem execHeartbeatSend_only {s : State} {v0} : OutTouch 50331697 s (@execHeartbeatSend v0 s) := by
  have h : Touch 50331697 s s := Touch.refl
  unfold execHeartbeatSend
  extract_lets +onlyGivenNames x1
  have h1 : Touch 50331697 s x1 := by
    unfold x1
    exact atTime_only.step rfl (by assumption)
  clear_value x1
  refine OutTouch.ite ?_ ?_
  · exact OutTouch.ok (by assumption)
  · extract_lets +onlyGivenNames x2
    have h2 : Touch 50331697 s x2 := by
      unfold x2
      exact beat_only.step rfl (by assumption)
    clear_value x2
    refine OutTouch.ite ?_ ?_
    · exact OutTouch.ok (pairEnter_only.step rfl (by assumption))
    · exact OutTouch.ok (by assumption)

theorem execRelinquishReceived_only {s : State} {v0 v1} : OutTouch 50610737 s (@execRelinquishReceived v0 v1 s) := by
  have h : Touch 50610737 s s := Touch.refl
  unfold execRelinquishReceived
  extract_lets +onlyGivenNames x1
  have h1 : Touch 50610737 s x1 := by
    unfold x1
    exact atTime_only.step rfl (by assumption)
  clear_value x1
  refine OutTouch.ite ?_ ?_
  · exact OutTouch.ok (by assumption)
  · extract_lets +onlyGivenNames x2
    extract_lets +onlyGivenNames x3
    have h3 : Touch 50610737 s x3 := by
      unfold x3
      refine Touch.setFault (.inl rfl) (.inl rfl) ?_
      assumption
    clear_value x3
    extract_lets +onlyGivenNames x4
    have h4 : Touch 50610737 s x4 := by
      unfold x4
      exact ackMirror_only.step rfl (by assumption)
    clear_value x4
    extract_lets +onlyGivenNames x5
    have h5 : Touch 50610737 s x5 := by
      unfold x5
      refine Touch.ite ?_ ?_
      · exact coverShadow_only.step rfl (by assumption)
      · assumption
    clear_value x5
    exact OutTouch.ok (partnerLost_only.step rfl (by assumption))

theorem execTakeoverComplete_only {s : State} {v0} : OutTouch 54884273 s (@execTakeoverComplete v0 s) := by
  have h : Touch 54884273 s s := Touch.refl
  unfold execTakeoverComplete
  extract_lets +onlyGivenNames x1
  have h1 : Touch 54884273 s x1 := by
    unfold x1
    exact moveX_only.step rfl (atTime_only.step rfl (by assumption))
  clear_value x1
  refine OutTouch.ite ?_ ?_
  · exact OutTouch.ok (takeoverDone_only.step rfl (by assumption))
  · exact OutTouch.ok (by assumption)

theorem execPairFenceInLow_only {s : State} {v0} : OutTouch 50331697 s (@execPairFenceInLow v0 s) := by
  have h : Touch 50331697 s s := Touch.refl
  unfold execPairFenceInLow
  extract_lets +onlyGivenNames x1
  have h1 : Touch 50331697 s x1 := by
    unfold x1
    exact atTime_only.step rfl (by assumption)
  clear_value x1
  extract_lets +onlyGivenNames x2
  extract_lets +onlyGivenNames x3
  have h3 : Touch 50331697 s x3 := by
    unfold x3
    refine Touch.setFault (.inl rfl) (.inl rfl) ?_
    assumption
  clear_value x3
  refine OutTouch.ite ?_ ?_
  · exact OutTouch.ok (pairOutputs_only.step rfl (by assumption))
  · exact OutTouch.ok (pairEnter_only.step rfl (by assumption))

theorem rebaseTo_only {s : State} {v1 v2} : Touch 128 s (@State.rebaseTo s v1 v2) := by
  have h : Touch 128 s s := Touch.refl
  unfold State.rebaseTo
  extract_lets +onlyGivenNames x1
  clear_value x1
  extract_lets +onlyGivenNames x2
  have h2 : Touch 128 s x2 := by
    unfold x2
    exact setEnc_only.step rfl (by assumption)
  clear_value x2
  exact setWeb_only.step rfl (by assumption)

theorem execSyncComplete_only {s : State} {v0} : OutTouch 50331825 s (@execSyncComplete v0 s) := by
  have h : Touch 50331825 s s := Touch.refl
  unfold execSyncComplete
  extract_lets +onlyGivenNames x1
  have h1 : Touch 50331825 s x1 := by
    unfold x1
    exact atTime_only.step rfl (by assumption)
  clear_value x1
  refine OutTouch.ite ?_ ?_
  · exact OutTouch.ok (by assumption)
  · extract_lets +onlyGivenNames x2
    have h2 : Touch 50331825 s x2 := by
      unfold x2
      exact setn_only.step rfl (by assumption)
    clear_value x2
    extract_lets +onlyGivenNames x3
    have h3 : Touch 50331825 s x3 := by
      unfold x3
      exact renewReady_only.step rfl (setn_only.step rfl (by assumption))
    clear_value x3
    refine OutTouch.ite ?_ ?_
    · exact OutTouch.ok (by assumption)
    · extract_lets +onlyGivenNames x4
      have h4 : Touch 50331825 s x4 := by
        unfold x4
        exact rebaseTo_only.step rfl (by assumption)
      clear_value x4
      extract_lets +onlyGivenNames x5
      extract_lets +onlyGivenNames x6
      have h6 : Touch 50331825 s x6 := by
        unfold x6
        refine Touch.setFault (.inl rfl) (.inl rfl) ?_
        exact setn_only.step rfl (by assumption)
      clear_value x6
      exact OutTouch.ok (pairEnter_only.step rfl (by assumption))

theorem execMirrorLaneLockRegained_only {s : State} {v0 v1} : OutTouch 33554433 s (@execMirrorLaneLockRegained v0 v1 s) := by
  have h : Touch 33554433 s s := Touch.refl
  unfold execMirrorLaneLockRegained
  extract_lets +onlyGivenNames x1
  have h1 : Touch 33554433 s x1 := by
    unfold x1
    exact atTime_only.step rfl (by assumption)
  clear_value x1
  refine OutTouch.ok ?_
  refine Touch.step renewReady_only rfl ?_
  refine Touch.setFault (.inr rfl) (.inl rfl) ?_
  assumption

theorem execTriggerCounterpartTimeout_only {s : State} {v0} : OutTouch 33554433 s (@execTriggerCounterpartTimeout v0 s) := by
  have h : Touch 33554433 s s := Touch.refl
  unfold execTriggerCounterpartTimeout
  extract_lets +onlyGivenNames x1
  have h1 : Touch 33554433 s x1 := by
    unfold x1
    exact atTime_only.step rfl (by assumption)
  clear_value x1
  split
  · exact OutTouch.ok (by assumption)
  · extract_lets +onlyGivenNames x2
    extract_lets +onlyGivenNames x3
    have h3 : Touch 33554433 s x3 := by
      unfold x3
      refine Touch.step inc32_only rfl ?_
      refine Touch.setFault (.inr rfl) (.inl rfl) ?_
      assumption
    clear_value x3
    exact OutTouch.ok (failBit_only.step rfl (by assumption))

theorem renewUpdate_only {s : State} : Touch 1 s (@State.renewUpdate s) := by
  have h : Touch 1 s s := Touch.refl
  unfold State.renewUpdate
  extract_lets +onlyGivenNames x1
  clear_value x1
  refine Touch.foldl ?_ (fun y2 z2 h2 => ?_)
  · assumption
  · exact setn_only.step rfl (by assumption)

theorem writeDir_only {s : State} {v1} : Touch 67108865 s (@State.writeDir s v1) := by
  have h : Touch 67108865 s s := Touch.refl
  unfold State.writeDir
  extract_lets +onlyGivenNames x1
  clear_value x1
  extract_lets +onlyGivenNames x2
  clear_value x2
  refine Touch.step renewUpdate_only rfl ?_
  refine Touch.setMgmt (.inl rfl) (.inr rfl) ?_
  assumption

theorem confirm_only {s : State} : Touch 67108865 s (@State.confirm s) := by
  have h : Touch 67108865 s s := Touch.refl
  unfold State.confirm
  extract_lets +onlyGivenNames x1
  clear_value x1
  extract_lets +onlyGivenNames x2
  clear_value x2
  refine Touch.ite ?_ ?_
  · assumption
  · extract_lets +onlyGivenNames x3
    clear_value x3
    extract_lets +onlyGivenNames x4
    clear_value x4
    extract_lets +onlyGivenNames x5
    have h5 : Touch 67108865 s x5 := by
      unfold x5
      exact writeDir_only.step rfl (by assumption)
    clear_value x5
    refine Touch.step renewUpdate_only rfl ?_
    refine Touch.setMgmt (.inl rfl) (.inr rfl) ?_
    assumption

theorem integEnter_only {s : State} {v1 v2} : Touch 1 s (@State.integEnter s v1 v2) := by
  have h : Touch 1 s s := Touch.refl
  unfold State.integEnter
  exact setn_only.step rfl (setn_only.step rfl (by assumption))

theorem integStart_only {s : State} : Touch 1 s (@State.integStart s) := by
  have h : Touch 1 s s := Touch.refl
  unfold State.integStart
  refine Touch.ite ?_ ?_
  · assumption
  · exact integEnter_only.step rfl (by assumption)

theorem coreReset_only {s : State} : Touch 4432855041 s (@State.coreReset s) := by
  have h1 : Touch 4432855041 s ((List.range 8).foldl (fun a c =>
      if (a.dma (c + 8)).state = 1 then a.setDma (c + 8) { a.dma (c + 8) with stopReq := true } else a) s) :=
    Touch.foldl Touch.refl fun _ _ h => Touch.ite (setDma_only.step rfl h) h
  have h2 : ∀ {t}, Touch 4432855041 s t →
      Touch 4432855041 s ((List.range 4).foldl (fun a i => (a.abortQueue i 1 a.freeVal).freeNext) t) := fun h =>
    Touch.foldl h fun _ _ h => freeNext_only.step rfl (abortQueue_only.step rfl h)
  have h3 : ∀ {t : State}, Touch 4432855041 s t → Touch 4432855041 s (t.setMgmt
      { t.mgmt with declared := [], scBusy := false, scReady := false, timerIrq := false, timerCmp := 0, locals := [] }) :=
    fun h => Touch.setMgmt (.inr rfl) (.inl rfl) h
  unfold State.coreReset
  exact setn_only.step rfl (h3 (h2 h1))

theorem integStop_only {s : State} : Touch 4432855041 s (@State.integStop s) := by
  have h : Touch 4432855041 s s := Touch.refl
  unfold State.integStop
  exact integEnter_only.step rfl (coreReset_only.step rfl (by assumption))

theorem integRun_only {s : State} {v1} : Touch 4432855041 s (@State.integRun s v1) := by
  have h : Touch 4432855041 s s := Touch.refl
  unfold State.integRun
  refine Touch.ite ?_ ?_
  · exact integStart_only.step rfl (by assumption)
  · exact integStop_only.step rfl (by assumption)

theorem updateFail_only {s : State} {v1 v2} : Touch 67108881 s (@State.updateFail s v1 v2) := by
  have h : Touch 67108881 s s := Touch.refl
  unfold State.updateFail
  extract_lets +onlyGivenNames x1
  extract_lets +onlyGivenNames x2
  have h2 : Touch 67108881 s x2 := by
    unfold x2
    refine Touch.setMgmt (.inl rfl) (.inr rfl) ?_
    assumption
  clear_value x2
  extract_lets +onlyGivenNames x3
  have h3 : Touch 67108881 s x3 := by
    unfold x3
    exact setn_only.step rfl (setn_only.step rfl (by assumption))
  clear_value x3
  exact sendIn_only.step rfl (by assumption)

theorem updateStart_only {s : State} {v1} : Touch 67108881 s (@State.updateStart s v1) := by
  have h : Touch 67108881 s s := Touch.refl
  unfold State.updateStart
  extract_lets +onlyGivenNames x1
  clear_value x1
  refine Touch.ite ?_ ?_
  · exact updateFail_only.step rfl (by assumption)
  · refine Touch.ite ?_ ?_
    · exact updateFail_only.step rfl (by assumption)
    · extract_lets +onlyGivenNames x2
      extract_lets +onlyGivenNames x3
      have h3 : Touch 67108881 s x3 := by
        unfold x3
        refine Touch.setMgmt (.inl rfl) (.inr rfl) ?_
        assumption
      clear_value x3
      extract_lets +onlyGivenNames x4
      have h4 : Touch 67108881 s x4 := by
        unfold x4
        exact setn_only.step rfl (setn_only.step rfl (by assumption))
      clear_value x4
      extract_lets +onlyGivenNames x5
      have h5 : Touch 67108881 s x5 := by
        unfold x5
        exact setn_only.step rfl (by assumption)
      clear_value x5
      exact writeDir_only.step rfl (by assumption)

theorem execIntegImageLoaded_only {s : State} {v0} : OutTouch 136314881 s (@execIntegImageLoaded v0 s) := by
  have h : Touch 136314881 s s := Touch.refl
  unfold execIntegImageLoaded
  extract_lets +onlyGivenNames x1
  have h1 : Touch 136314881 s x1 := by
    unfold x1
    exact atTime_only.step rfl (by assumption)
  clear_value x1
  refine OutTouch.ite ?_ ?_
  · exact OutTouch.ok (by assumption)
  · extract_lets +onlyGivenNames x2
    clear_value x2
    refine OutTouch.ite ?_ ?_
    · exact OutTouch.ok (integEnter_only.step rfl (by assumption))
    · extract_lets +onlyGivenNames x3
      clear_value x3
      extract_lets +onlyGivenNames x4
      have h4 : Touch 136314881 s x4 := by
        unfold x4
        refine Touch.step put?_only rfl ?_
        assumption
      clear_value x4
      extract_lets +onlyGivenNames x5
      have h5 : Touch 136314881 s x5 := by
        unfold x5
        exact setn_only.step rfl (by assumption)
      clear_value x5
      refine OutTouch.ok ?_
      refine Touch.step integEnter_only rfl ?_
      refine Touch.setMgmt (.inr rfl) (.inl rfl) ?_
      assumption

theorem execScRespRead_only {s : State} {v0} : OutTouch 134217728 s (@execScRespRead v0 s) := by
  have h : Touch 134217728 s s := Touch.refl
  unfold execScRespRead
  extract_lets +onlyGivenNames x1
  have h1 : Touch 134217728 s x1 := by
    unfold x1
    exact atTime_only.step rfl (by assumption)
  clear_value x1
  refine OutTouch.ok ?_
  refine Touch.setMgmt (.inr rfl) (.inl rfl) ?_
  assumption

theorem execAutoConfirmExpiry_only {s : State} {v0} : OutTouch 67108865 s (@execAutoConfirmExpiry v0 s) := by
  have h : Touch 67108865 s s := Touch.refl
  unfold execAutoConfirmExpiry
  extract_lets +onlyGivenNames x1
  have h1 : Touch 67108865 s x1 := by
    unfold x1
    exact atTime_only.step rfl (by assumption)
  clear_value x1
  refine OutTouch.ite ?_ ?_
  · exact OutTouch.ok (confirm_only.step rfl (by assumption))
  · exact OutTouch.ok (by assumption)

theorem execWatchdogExpiry_only {s : State} {v0 v1} : OutTouch 8585740287 s (@execWatchdogExpiry v0 v1 s) := by
  have h : Touch 8585740287 s s := Touch.refl
  unfold execWatchdogExpiry
  extract_lets +onlyGivenNames x1
  have h1 : Touch 8585740287 s x1 := by
    unfold x1
    exact atTime_only.step rfl (by assumption)
  clear_value x1
  refine OutTouch.ite ?_ ?_
  · exact OutTouch.ok (resetSequence_only.step rfl (sourceOn_only.step rfl (by assumption)))
  · exact OutTouch.ok (by assumption)

theorem execWdtKick_only {s : State} {v0 v1} : OutTouch 134217728 s (@execWdtKick v0 v1 s) := by
  have h : Touch 134217728 s s := Touch.refl
  unfold execWdtKick
  extract_lets +onlyGivenNames x1
  have h1 : Touch 134217728 s x1 := by
    unfold x1
    exact atTime_only.step rfl (by assumption)
  clear_value x1
  refine OutTouch.ite ?_ ?_
  · refine OutTouch.ok ?_
    refine Touch.setMgmt (.inr rfl) (.inl rfl) ?_
    assumption
  · exact OutTouch.ok (by assumption)

theorem execFirmwareImageWritten_only {s : State} {v0 v1} : OutTouch 4290772991 s (@execFirmwareImageWritten v0 v1 s) := by
  have h : Touch 4290772991 s s := Touch.refl
  unfold execFirmwareImageWritten
  extract_lets +onlyGivenNames x1
  have h1 : Touch 4290772991 s x1 := by
    unfold x1
    exact atTime_only.step rfl (by assumption)
  clear_value x1
  split
  · exact OutTouch.ok (by assumption)
  · refine OutTouch.ite ?_ ?_
    · exact OutTouch.ok (updateFail_only.step rfl (by assumption))
    · extract_lets +onlyGivenNames x2
      clear_value x2
      extract_lets +onlyGivenNames x3
      extract_lets +onlyGivenNames x4
      have h4 : Touch 4290772991 s x4 := by
        unfold x4
        refine Touch.setMgmt (.inl rfl) (.inl rfl) ?_
        assumption
      clear_value x4
      extract_lets +onlyGivenNames x5
      clear_value x5
      extract_lets +onlyGivenNames x6
      clear_value x6
      extract_lets +onlyGivenNames x7
      have h7 : Touch 4290772991 s x7 := by
        unfold x7
        exact writeDir_only.step rfl (by assumption)
      clear_value x7
      extract_lets +onlyGivenNames x8
      have h8 : Touch 4290772991 s x8 := by
        unfold x8
        exact setn_only.step rfl (setn_only.step rfl (by assumption))
      clear_value x8
      extract_lets +onlyGivenNames x9
      have h9 : Touch 4290772991 s x9 := by
        unfold x9
        refine Touch.ite ?_ ?_
        · exact modSess_only.step rfl (by assumption)
        · assumption
      clear_value x9
      extract_lets +onlyGivenNames x10
      have h10 : Touch 4290772991 s x10 := by
        unfold x10
        exact sendIn_only.step rfl (by assumption)
      clear_value x10
      refine OutTouch.ok ?_
      refine Touch.ite ?_ ?_
      · exact bootStart_only.step rfl (restart_only.step rfl (by assumption))
      · assumption

theorem execIntegWatchdogExpiry_only {s : State} {v0} : OutTouch 8585740287 s (@execIntegWatchdogExpiry v0 s) := by
  have h : Touch 8585740287 s s := Touch.refl
  unfold execIntegWatchdogExpiry
  extract_lets +onlyGivenNames x1
  have h1 : Touch 8585740287 s x1 := by
    unfold x1
    exact atTime_only.step rfl (by assumption)
  clear_value x1
  extract_lets +onlyGivenNames x2
  clear_value x2
  refine OutTouch.ite ?_ ?_
  · exact OutTouch.ok (by assumption)
  · exact OutTouch.ok (integEnter_only.step rfl (coreReset_only.step rfl (sourceOn_only.step rfl
      (by assumption))))

theorem execIntegRestartDelayExpiry_only {s : State} {v0} : OutTouch 1 s (@execIntegRestartDelayExpiry v0 s) := by
  have h : Touch 1 s s := Touch.refl
  unfold execIntegRestartDelayExpiry
  extract_lets +onlyGivenNames x1
  have h1 : Touch 1 s x1 := by
    unfold x1
    exact atTime_only.step rfl (by assumption)
  clear_value x1
  refine OutTouch.ite ?_ ?_
  · exact OutTouch.ok (integStart_only.step rfl (inc32_only.step rfl (by assumption)))
  · exact OutTouch.ok (by assumption)

theorem execIntegTimerInterrupt_only {s : State} {v0} : OutTouch 134217728 s (@execIntegTimerInterrupt v0 s) := by
  have h : Touch 134217728 s s := Touch.refl
  unfold execIntegTimerInterrupt
  extract_lets +onlyGivenNames x1
  have h1 : Touch 134217728 s x1 := by
    unfold x1
    exact atTime_only.step rfl (by assumption)
  clear_value x1
  refine OutTouch.ite ?_ ?_
  · refine OutTouch.ok ?_
    refine Touch.setMgmt (.inr rfl) (.inl rfl) ?_
    assumption
  · exact OutTouch.ok (by assumption)

theorem setLocal_only {s : State} {v1 v2 v3} : Touch 134217744 s (@State.setLocal s v1 v2 v3) := by
  have h : Touch 134217744 s s := Touch.refl
  unfold State.setLocal
  refine Touch.ite ?_ ?_
  · exact modSess_only.step rfl (by assumption)
  · refine Touch.setMgmt (.inr rfl) (.inl rfl) ?_
    assumption

theorem readOne_only {s : State} {v1 v2 v3 v4} : Touch 4294967296 s (@State.readOne s v1 v2 v3 v4).1 := by
  have h : Touch 4294967296 s s := Touch.refl
  unfold State.readOne
  extract_lets +onlyGivenNames x1
  clear_value x1
  split
  · dsimp only
    assumption
  · split
    · dsimp only
      assumption
    · extract_lets +onlyGivenNames x2
      clear_value x2
      dsimp only
      refine Touch.ite ?_ ?_
      · exact freeNext_only.step rfl (by assumption)
      · assumption

theorem logRelease_only {s : State} {v1 v2} : Touch 8 s (@State.logRelease s v1 v2) := by
  have h : Touch 8 s s := Touch.refl
  unfold State.logRelease
  extract_lets +onlyGivenNames x1
  extract_lets +onlyGivenNames x2
  have h2 : Touch 8 s x2 := by
    unfold x2
    refine Touch.trans (b := s) ?_ { changeLog := .inl rfl }
    assumption
  clear_value x2
  exact logKind_only.step rfl (by assumption)

theorem trackerStart_only {s : State} : Touch 278705 s (@State.trackerStart s) := by
  have h : Touch 278705 s s := Touch.refl
  unfold State.trackerStart
  extract_lets +onlyGivenNames x1
  clear_value x1
  extract_lets +onlyGivenNames x2
  extract_lets +onlyGivenNames x3
  have h3 : Touch 278705 s x3 := by
    unfold x3
    exact setWeb_only.step rfl (by assumption)
  clear_value x3
  extract_lets +onlyGivenNames x4
  have h4 : Touch 278705 s x4 := by
    unfold x4
    refine Touch.foldl ?_ (fun y5 z5 h5 => ?_)
    · assumption
    · extract_lets +onlyGivenNames x6
      clear_value x6
      extract_lets +onlyGivenNames x7
      clear_value x7
      extract_lets +onlyGivenNames x8
      have h8 : Touch 278705 s x8 := by
        unfold x8
        exact setGrid_only.step rfl (by assumption)
      clear_value x8
      extract_lets +onlyGivenNames x9
      have h9 : Touch 278705 s x9 := by
        unfold x9
        exact seti_only.step rfl (by assumption)
      clear_value x9
      refine Touch.ite ?_ ?_
      · exact seti_only.step rfl (by assumption)
      · assumption
  clear_value x4
  extract_lets +onlyGivenNames x10
  extract_lets +onlyGivenNames x11
  have h11 : Touch 278705 s x11 := by
    unfold x11
    refine Touch.setFire (.inl rfl) (.inr rfl) ?_
    assumption
  clear_value x11
  extract_lets +onlyGivenNames x12
  have h12 : Touch 278705 s x12 := by
    unfold x12
    refine Touch.foldl ?_ (fun y13 z13 h13 => ?_)
    · assumption
    · exact setUnit_only.step rfl (by assumption)
  clear_value x12
  exact enter_only.step rfl (by assumption)

theorem trackerCheck_only {s : State} : Touch 278705 s (@State.trackerCheck s) := by
  have h : Touch 278705 s s := Touch.refl
  unfold State.trackerCheck
  refine Touch.ite ?_ ?_
  · refine Touch.ite ?_ ?_
    · exact trackerStart_only.step rfl (by assumption)
    · assumption
  · refine Touch.ite ?_ ?_
    · exact enter_only.step rfl (by assumption)
    · assumption

theorem encoderSet_only {s : State} {v1 v2 v3 v4} : Touch 278705 s (@State.encoderSet s v1 v2 v3 v4) := by
  have h : Touch 278705 s s := Touch.refl
  unfold State.encoderSet
  extract_lets +onlyGivenNames x1
  clear_value x1
  extract_lets +onlyGivenNames x2
  have h2 : Touch 278705 s x2 := by
    unfold x2
    refine Touch.ite ?_ ?_
    · exact setEnc_only.step rfl (by assumption)
    · assumption
  clear_value x2
  extract_lets +onlyGivenNames x3
  have h3 : Touch 278705 s x3 := by
    unfold x3
    refine Touch.ite ?_ ?_
    · exact setn_only.step rfl (setn_only.step rfl (by assumption))
    · assumption
  clear_value x3
  extract_lets +onlyGivenNames x4
  clear_value x4
  extract_lets +onlyGivenNames x5
  have h5 : Touch 278705 s x5 := by
    unfold x5
    exact setEnc_only.step rfl (by assumption)
  clear_value x5
  exact trackerCheck_only.step rfl (by assumption)

theorem planesSet_only {s : State} {v1} : Touch 16561 s (@State.planesSet s v1) := by
  have h : Touch 16561 s s := Touch.refl
  unfold State.planesSet
  refine Touch.step advise_only rfl ?_
  refine Touch.step lookCheck_only rfl ?_
  refine Touch.foldl ?_ (fun y1 z1 h1 => ?_)
  · assumption
  · exact refreshPlane_only.step rfl (by assumption)

theorem planeSet_only {s : State} {v1} : Touch 49329 s (@State.planeSet s v1) := by
  have h : Touch 49329 s s := Touch.refl
  unfold State.planeSet
  extract_lets +onlyGivenNames x1
  have h1 : Touch 49329 s x1 := by
    unfold x1
    exact planesSet_only.step rfl (by assumption)
  clear_value x1
  refine Touch.foldl ?_ (fun y2 z2 h2 => ?_)
  · assumption
  · refine Touch.ite ?_ ?_
    · exact identify_only.step rfl (by assumption)
    · assumption

theorem laneSet_only {s : State} {v1 v2 v3} : Touch 20913 s (@State.laneSet s v1 v2 v3) := by
  have h : Touch 20913 s s := Touch.refl
  unfold State.laneSet
  refine Touch.ite ?_ ?_
  · refine Touch.ite ?_ ?_
    · exact laneFlush_only.step rfl (by assumption)
    · assumption
  · refine Touch.ite ?_ ?_
    · exact nextRecordSet_only.step rfl (by assumption)
    · exact planesSet_only.step rfl (noteLow_only.step rfl (by assumption))

theorem printSet_only {s : State} {v1 v2 v3} : Touch 324017 s (@State.printSet s v1 v2 v3) := by
  have h : Touch 324017 s s := Touch.refl
  unfold State.printSet
  extract_lets +onlyGivenNames x1
  clear_value x1
  extract_lets +onlyGivenNames x2
  clear_value x2
  refine Touch.ite ?_ ?_
  · exact encoderSet_only.step rfl (by assumption)
  · refine Touch.ite ?_ ?_
    · exact trackerCheck_only.step rfl (by assumption)
    · refine Touch.ite ?_ ?_
      · exact planeSet_only.step rfl (by assumption)
      · refine Touch.ite ?_ ?_
        · exact advise_only.step rfl (by assumption)
        · refine Touch.ite ?_ ?_
          · exact laneSet_only.step rfl (by assumption)
          · refine Touch.ite ?_ ?_
            · refine Touch.ite ?_ ?_
              · exact ledgerReset_only.step rfl (by assumption)
              · assumption
            · refine Touch.ite ?_ ?_
              · refine Touch.foldl ?_ (fun y3 z3 h3 => ?_)
                · assumption
                · exact preResolve_only.step rfl (by assumption)
              · refine Touch.ite ?_ ?_
                · extract_lets +onlyGivenNames x4
                  clear_value x4
                  extract_lets +onlyGivenNames x5
                  have h5 : Touch 324017 s x5 := by
                    unfold x5
                    refine Touch.ite ?_ ?_
                    · exact setn_only.step rfl (by assumption)
                    · assumption
                  clear_value x5
                  exact lookCheck_only.step rfl (by assumption)
                · refine Touch.ite ?_ ?_
                  · exact deleteRes_only.step rfl (by assumption)
                  · refine Touch.ite ?_ ?_
                    · refine Touch.ite ?_ ?_
                      · assumption
                      · exact deleteRes_only.step rfl (by assumption)
                    · refine Touch.ite ?_ ?_
                      · refine Touch.ite ?_ ?_
                        · exact counterWritten_only.step rfl (by assumption)
                        · assumption
                      · assumption

theorem gateSet_only {s : State} {v1} : Touch 16561 s (@State.gateSet s v1) := by
  have h : Touch 16561 s s := Touch.refl
  unfold State.gateSet
  extract_lets +onlyGivenNames x1
  have h1 : Touch 16561 s x1 := by
    unfold x1
    refine Touch.ite ?_ ?_
    · exact setn_only.step rfl (setb_only.step rfl (by assumption))
    · assumption
  clear_value x1
  exact planesSet_only.step rfl (by assumption)

theorem linkSet_only {s : State} {v1} : Touch 32769 s (@State.linkSet s v1) := by
  have h : Touch 32769 s s := Touch.refl
  unfold State.linkSet
  refine Touch.ite ?_ ?_
  · refine Touch.ite ?_ ?_
    · exact setn_only.step rfl (setLinkState_only.step rfl (by assumption))
    · assumption
  · exact setLinkState_only.step rfl (setLink_only.step rfl (by assumption))

theorem waveSet_only {s : State} {v1} : Touch 49329 s (@State.waveSet s v1) := by
  have h : Touch 49329 s s := Touch.refl
  unfold State.waveSet
  extract_lets +onlyGivenNames x1
  clear_value x1
  extract_lets +onlyGivenNames x2
  clear_value x2
  extract_lets +onlyGivenNames x3
  have h3 : Touch 49329 s x3 := by
    unfold x3
    exact setn_only.step rfl (by assumption)
  clear_value x3
  extract_lets +onlyGivenNames x4
  have h4 : Touch 49329 s x4 := by
    unfold x4
    refine Touch.foldl ?_ (fun y5 z5 h5 => ?_)
    · assumption
    · extract_lets +onlyGivenNames x6
      clear_value x6
      extract_lets +onlyGivenNames x7
      clear_value x7
      refine Touch.ite ?_ ?_
      · exact setLink_only.step rfl (by assumption)
      · exact setLink_only.step rfl (by assumption)
  clear_value x4
  exact planeSet_only.step rfl (by assumption)

theorem fireSet_only {s : State} {v1 v2} : Touch 49329 s (@State.fireSet s v1 v2) := by
  have h : Touch 49329 s s := Touch.refl
  unfold State.fireSet
  extract_lets +onlyGivenNames x1
  clear_value x1
  refine Touch.ite ?_ ?_
  · exact planeSet_only.step rfl (by assumption)
  · refine Touch.ite ?_ ?_
    · exact gateSet_only.step rfl (by assumption)
    · refine Touch.ite ?_ ?_
      · refine Touch.ite ?_ ?_
        · exact resetChannel_only.step rfl (by assumption)
        · assumption
      · refine Touch.ite ?_ ?_
        · exact planesSet_only.step rfl (by assumption)
        · refine Touch.ite ?_ ?_
          · refine Touch.ite ?_ ?_
            · exact linkSet_only.step rfl (by assumption)
            · exact planesSet_only.step rfl (by assumption)
          · refine Touch.ite ?_ ?_
            · exact waveSet_only.step rfl (by assumption)
            · assumption

theorem sensorRead_only {s : State} {v1 v2 v3} : Touch 4295098369 s (@State.sensorRead s v1 v2 v3) := by
  have h : Touch 4295098369 s s := Touch.refl
  unfold State.sensorRead
  extract_lets +onlyGivenNames x1
  clear_value x1
  extract_lets +onlyGivenNames x2
  clear_value x2
  extract_lets +onlyGivenNames x3
  have h3 : Touch 4295098369 s x3 := by
    unfold x3
    refine Touch.ite ?_ ?_
    · exact freeNext_only.step rfl (by assumption)
    · assumption
  clear_value x3
  extract_lets +onlyGivenNames x4
  clear_value x4
  exact setn_only.step rfl (setCam_only.step rfl (by assumption))

theorem driveSet_only {s : State} {v1 v2 v3} : Touch 5906093745 s (@State.driveSet s v1 v2 v3) := by
  have h : Touch 5906093745 s s := Touch.refl
  unfold State.driveSet
  extract_lets +onlyGivenNames x1
  clear_value x1
  extract_lets +onlyGivenNames x2
  clear_value x2
  refine Touch.ite ?_ ?_
  · exact mapEntryWrite_only.step rfl (by assumption)
  · refine Touch.ite ?_ ?_
    · refine Touch.ite ?_ ?_
      · exact mapReset_only.step rfl (by assumption)
      · assumption
    · refine Touch.ite ?_ ?_
      · refine Touch.ite ?_ ?_
        · exact portWritten_only.step rfl (by assumption)
        · exact refreshPort_only.step rfl (by assumption)
      · refine Touch.ite ?_ ?_
        · refine Touch.ite ?_ ?_
          · exact sensorRead_only.step rfl (by assumption)
          · assumption
        · refine Touch.ite ?_ ?_
          · exact refreshPort_only.step rfl (by assumption)
          · refine Touch.ite ?_ ?_
            · assumption
            · refine Touch.ite ?_ ?_
              · exact advise_only.step rfl (lookCheck_only.step rfl (unitConfigured_only.step rfl
                  (by assumption)))
              · refine Touch.ite ?_ ?_
                · refine Touch.ite ?_ ?_
                  · exact beamReset_only.step rfl (by assumption)
                  · assumption
                · refine Touch.ite ?_ ?_
                  · refine Touch.ite ?_ ?_
                    · exact axisEnabled_only.step rfl (by assumption)
                    · assumption
                  · refine Touch.ite ?_ ?_
                    · refine Touch.ite ?_ ?_
                      · exact loopEnabled_only.step rfl (by assumption)
                      · assumption
                    · assumption

theorem faultSet_only {s : State} {v1 v2 v3} : Touch 8585740287 s (@State.faultSet s v1 v2 v3) := by
  have h : Touch 8585740287 s s := Touch.refl
  unfold State.faultSet
  extract_lets +onlyGivenNames x1
  clear_value x1
  extract_lets +onlyGivenNames x2
  clear_value x2
  refine Touch.ite ?_ ?_
  · refine Touch.ite ?_ ?_
    · exact safeLeave_only.step rfl (by assumption)
    · assumption
  · refine Touch.ite ?_ ?_
    · exact renewFaultN_only.step rfl (by assumption)
    · refine Touch.ite ?_ ?_
      · exact clearFault_only.step rfl (by assumption)
      · refine Touch.ite ?_ ?_
        · split
          · exact inject_only.step rfl (by assumption)
          · exact freeNext_only.step rfl (inject_only.step rfl (by assumption))
        · refine Touch.ite ?_ ?_
          · exact writeActions_only.step rfl (by assumption)
          · refine Touch.ite ?_ ?_
            · refine Touch.ite ?_ ?_
              · exact setn_only.step rfl (by assumption)
              · assumption
            · refine Touch.ite ?_ ?_
              · refine Touch.ite ?_ ?_
                · exact relinquish_only.step rfl (by assumption)
                · assumption
              · assumption

theorem pixSet_only {s : State} : Touch 444863033 s (@State.pixSet s) := by
  have h : Touch 444863033 s s := Touch.refl
  unfold State.pixSet
  refine Touch.ite ?_ ?_
  · refine Touch.ite ?_ ?_
    · exact relock_only.step rfl (by assumption)
    · assumption
  · extract_lets +onlyGivenNames x1
    clear_value x1
    extract_lets +onlyGivenNames x2
    have h2 : Touch 444863033 s x2 := by
      unfold x2
      exact setn_only.step rfl (setPll_only.step rfl (by assumption))
    clear_value x2
    exact pllDone_only.step rfl (pixelClockLost_only.step rfl (by assumption))

theorem powerSet_only {s : State} {v1 v2} : Touch 8585740287 s (@State.powerSet s v1 v2) := by
  have h : Touch 8585740287 s s := Touch.refl
  unfold State.powerSet
  extract_lets +onlyGivenNames x1
  clear_value x1
  extract_lets +onlyGivenNames x2
  clear_value x2
  refine Touch.ite ?_ ?_
  · refine Touch.ite ?_ ?_
    · exact offRequest_only.step rfl (by assumption)
    · assumption
  · refine Touch.ite ?_ ?_
    · refine Touch.ite ?_ ?_
      · exact faultClear_only.step rfl (by assumption)
      · assumption
    · refine Touch.ite ?_ ?_
      · refine Touch.ite ?_ ?_
        · assumption
        · refine Touch.ite ?_ ?_
          · exact domainOn_only.step rfl (by assumption)
          · exact domainOff_only.step rfl (by assumption)
      · refine Touch.ite ?_ ?_
        · exact pixSet_only.step rfl (by assumption)
        · refine Touch.ite ?_ ?_
          · refine Touch.ite ?_ ?_
            · exact freezeClear_only.step rfl (by assumption)
            · assumption
          · refine Touch.ite ?_ ?_
            · refine Touch.ite ?_ ?_
              · exact setb_only.step rfl (by assumption)
              · assumption
            · refine Touch.ite ?_ ?_
              · extract_lets +onlyGivenNames x3
                clear_value x3
                refine Touch.ite ?_ ?_
                · refine Touch.ite ?_ ?_
                  · exact dmaReset_only.step rfl (by assumption)
                  · assumption
                · exact setDma_only.step rfl (by assumption)
              · refine Touch.ite ?_ ?_
                · refine Touch.ite ?_ ?_
                  · exact codecReset_only.step rfl (by assumption)
                  · assumption
                · assumption

theorem writeEffect_only {s : State} {v1 v2 v3 v4 v5} : Touch 8589934591 s (@State.writeEffect s v1 v2 v3 v4 v5) := by
  have h : Touch 8589934591 s s := Touch.refl
  unfold State.writeEffect
  extract_lets +onlyGivenNames x1
  clear_value x1
  refine Touch.ite ?_ ?_
  · refine Touch.ite ?_ ?_
    · exact logRelease_only.step rfl (by assumption)
    · refine Touch.ite ?_ ?_
      · refine Touch.ite ?_ ?_
        · exact confirm_only.step rfl (by assumption)
        · assumption
      · refine Touch.ite ?_ ?_
        · exact integRun_only.step rfl (by assumption)
        · assumption
  · refine Touch.ite ?_ ?_
    · exact printSet_only.step rfl (by assumption)
    · refine Touch.ite ?_ ?_
      · exact fireSet_only.step rfl (by assumption)
      · refine Touch.ite ?_ ?_
        · exact driveSet_only.step rfl (by assumption)
        · refine Touch.ite ?_ ?_
          · exact faultSet_only.step rfl (by assumption)
          · refine Touch.ite ?_ ?_
            · exact powerSet_only.step rfl (by assumption)
            · refine Touch.ite ?_ ?_
              · refine Touch.ite ?_ ?_
                · exact zeroRequest_only.step rfl (by assumption)
                · assumption
              · assumption

theorem armSet_only {s : State} {v1 v2 v3 v4} : Touch 131073 s (@State.armSet s v1 v2 v3 v4) := by
  have h : Touch 131073 s s := Touch.refl
  unfold State.armSet
  extract_lets +onlyGivenNames x1
  clear_value x1
  extract_lets +onlyGivenNames x2
  clear_value x2
  extract_lets +onlyGivenNames x3
  have h3 : Touch 131073 s x3 := by
    unfold x3
    exact setCam_only.step rfl (by assumption)
  clear_value x3
  exact setn_only.step rfl (by assumption)

theorem toRing_only {s : State} {v1} : Touch 8 s (@State.toRing s v1) := by
  unfold State.toRing
  extract_lets +onlyGivenNames l
  generalize List.drop _ _ = d
  extract_lets +onlyGivenNames x t
  have h : Touch 8 s t := { changeLog := .inl rfl }
  clear_value t
  split
  · exact h.trans { changeLog := .inl rfl }
  · exact h

theorem placeLocal_only {s : State} {v1 v2} : Touch 134217744 s (@State.placeLocal s v1 v2) := by
  have h : Touch 134217744 s s := Touch.refl
  unfold State.placeLocal
  refine Touch.ite ?_ ?_
  · exact modSess_only.step rfl (by assumption)
  · exact setLocal_only.step rfl (by assumption)

theorem armNow_only {s : State} {v1 v2} : Touch 131073 s (@State.armNow s v1 v2) := by
  have h : Touch 131073 s s := Touch.refl
  unfold State.armNow
  refine Touch.foldl ?_ (fun y1 z1 h1 => ?_)
  · assumption
  · extract_lets +onlyGivenNames x2
    clear_value x2
    refine Touch.ite ?_ ?_
    · assumption
    · extract_lets +onlyGivenNames x3
      clear_value x3
      extract_lets +onlyGivenNames x4
      clear_value x4
      extract_lets +onlyGivenNames x5
      clear_value x5
      extract_lets +onlyGivenNames x6
      have h6 : Touch 131073 s x6 := by
        unfold x6
        exact setCam_only.step rfl (by assumption)
      clear_value x6
      extract_lets +onlyGivenNames x7
      clear_value x7
      extract_lets +onlyGivenNames x8
      have h8 : Touch 131073 s x8 := by
        unfold x8
        split
        · exact setCam_only.step rfl (by assumption)
        · assumption
      clear_value x8
      exact armSet_only.step rfl (by assumption)

theorem place_only {s : State} {v1 v2 v3 v4} : Touch 3 s (@State.place s v1 v2 v3 v4) := by
  have h : Touch 3 s s := Touch.refl
  unfold State.place
  extract_lets +onlyGivenNames x1
  clear_value x1
  split
  · refine Touch.trans (b := s) ?_ { objects := .inl rfl, waiting := .inl rfl }
    assumption
  · refine Touch.trans (b := s) ?_ { objects := .inl rfl, waiting := .inl rfl }
    assumption
  · extract_lets +onlyGivenNames x2
    extract_lets +onlyGivenNames x3
    have h3 : Touch 3 s x3 := by
      unfold x3
      refine Touch.trans (b := s) ?_ { objects := .inl rfl, waiting := .inl rfl }
      assumption
    clear_value x3
    refine Touch.ite ?_ ?_
    · assumption
    · exact setv_only.step rfl (by assumption)

theorem entryEffect_only {s : State} {v1 v2 v3 v4 v5} : Touch 8589934591 s (@State.entryEffect s v1 v2 v3 v4 v5) := by
  have h : Touch 8589934591 s s := Touch.refl
  unfold State.entryEffect
  split
  · exact writeEffect_only.step rfl (by assumption)
  · refine Touch.ite ?_ ?_
    · exact refreshPort_only.step rfl (by assumption)
    · assumption
  · exact glide_only.step rfl (by assumption)
  · exact relock_only.step rfl (by assumption)
  · assumption
  · assumption

theorem accept_only {s : State} {v1 v2 v3 v4 v5 v6} : Touch 8589934591 s (@State.accept s v1 v2 v3 v4 v5 v6) := by
  have h : Touch 8589934591 s s := Touch.refl
  unfold State.accept
  extract_lets +onlyGivenNames x1
  clear_value x1
  extract_lets +onlyGivenNames x2
  clear_value x2
  extract_lets +onlyGivenNames x3
  clear_value x3
  extract_lets +onlyGivenNames x4
  clear_value x4
  extract_lets +onlyGivenNames x5
  clear_value x5
  extract_lets +onlyGivenNames x6
  clear_value x6
  extract_lets +onlyGivenNames x7
  clear_value x7
  extract_lets +onlyGivenNames x8
  clear_value x8
  extract_lets +onlyGivenNames x9
  clear_value x9
  extract_lets +onlyGivenNames x10
  clear_value x10
  extract_lets +onlyGivenNames x11
  clear_value x11
  extract_lets +onlyGivenNames x12
  extract_lets +onlyGivenNames x13
  have h13 : Touch 8589934591 s x13 := by
    unfold x13
    refine Touch.trans (b := s) ?_ { objects := .inl rfl, waiting := .inl rfl, durable := .inl rfl, changeLog := .inl rfl, sessions := .inl rfl, network := .inl rfl, ptp := .inl rfl, web := .inl rfl, queues := .inl rfl, items := .inl rfl, results := .inl rfl, gates := .inl rfl, journal := .inl rfl, compositor := .inl rfl, firing := .inl rfl, links := .inl rfl, inspection := .inl rfl, cameras := .inl rfl, beam := .inl rfl, codec := .inl rfl, dma := .inl rfl, memory := .inl rfl, island := .inl rfl, power := .inl rfl, faults := .inl rfl, pair := .inl rfl, firmware := .inl rfl, integrator := .inl rfl, plls := .inl rfl, axes := .inl rfl, loops := .inl rfl, sensors := .inl rfl, free := .inl rfl }
    assumption
  clear_value x13
  extract_lets +onlyGivenNames x14
  have h14 : Touch 8589934591 s x14 := by
    unfold x14
    refine Touch.ite ?_ ?_
    · exact program_only.step rfl (by assumption)
    · refine Touch.ite ?_ ?_
      · assumption
      · exact toRing_only.step rfl (by assumption)
  clear_value x14
  extract_lets +onlyGivenNames x15
  clear_value x15
  extract_lets +onlyGivenNames x16
  have h16 : Touch 8589934591 s x16 := by
    unfold x16
    refine Touch.ite ?_ ?_
    · assumption
    · exact islandEvent_only.step rfl (by assumption)
  clear_value x16
  extract_lets +onlyGivenNames x17
  have h17 : Touch 8589934591 s x17 := by
    unfold x17
    refine Touch.foldl ?_ (fun y18 z18 h18 => ?_)
    · assumption
    · exact placeLocal_only.step rfl (by assumption)
  clear_value x17
  extract_lets +onlyGivenNames x19
  have h19 : Touch 8589934591 s x19 := by
    unfold x19
    exact armNow_only.step rfl (by assumption)
  clear_value x19
  extract_lets +onlyGivenNames x20
  have h20 : Touch 8589934591 s x20 := by
    unfold x20
    refine Touch.foldl ?_ (fun y21 z21 h21 => ?_)
    · assumption
    · exact place_only.step rfl (by assumption)
  clear_value x20
  extract_lets +onlyGivenNames x22
  have h22 : Touch 8589934591 s x22 := by
    unfold x22
    refine Touch.foldl ?_ (fun y23 z23 h23 => ?_)
    · assumption
    · exact entryEffect_only.step rfl (by assumption)
  clear_value x22
  exact release_only.step rfl (by assumption)

theorem at_only {s : State} {v1} : Touch 128 s (@State.at s v1) := by
  have h : Touch 128 s s := Touch.refl
  unfold State.at
  exact moveX_only.step rfl (atTime_only.step rfl (by assumption))

theorem runReset_only {s : State} : Touch 8585740287 s (@State.runReset s) := by
  have h : Touch 8585740287 s s := Touch.refl
  unfold State.runReset
  refine Touch.ite ?_ ?_
  · refine Touch.step resetSequence_only rfl ?_
    refine Touch.trans (b := s) ?_ { objects := .inl rfl, waiting := .inl rfl, durable := .inl rfl, changeLog := .inl rfl, sessions := .inl rfl, network := .inl rfl, ptp := .inl rfl, web := .inl rfl, queues := .inl rfl, items := .inl rfl, results := .inl rfl, gates := .inl rfl, journal := .inl rfl, compositor := .inl rfl, firing := .inl rfl, links := .inl rfl, inspection := .inl rfl, cameras := .inl rfl, beam := .inl rfl, codec := .inl rfl, dma := .inl rfl, memory := .inl rfl, power := .inl rfl, faults := .inl rfl, pair := .inl rfl, firmware := .inl rfl, integrator := .inl rfl, plls := .inl rfl, axes := .inl rfl, loops := .inl rfl, sensors := .inl rfl, free := .inl rfl }
    assumption
  · assumption

/-- A command that ends with the reset sequence it may have asked for. -/
theorem finish_only {m : Nat} {a : State} {o : Host.Outcome State Fault Refusal} (hm : 8585740287 &&& m = 8585740287)
    (h : OutTouch m a o) : OutTouch m a (finish o) := by
  intro u hu
  cases o with
  | next s => injection hu with hu; exact hu ▸ runReset_only.step hm (h s rfl)
  | fault x => cases hu
  | refused x => cases hu

theorem letIn_only {s : State} {v1 v2 v3 v4} : Touch 8589934591 s (@State.letIn s v1 v2 v3 v4) := by
  have h : Touch 8589934591 s s := Touch.refl
  unfold State.letIn
  refine Touch.ite ?_ ?_
  · refine Touch.trans (b := s) ?_ { objects := .inl rfl, waiting := .inl rfl, durable := .inl rfl, changeLog := .inl rfl, sessions := .inl rfl, network := .inl rfl, ptp := .inl rfl, web := .inl rfl, queues := .inl rfl, items := .inl rfl, results := .inl rfl, gates := .inl rfl, journal := .inl rfl, compositor := .inl rfl, firing := .inl rfl, links := .inl rfl, inspection := .inl rfl, cameras := .inl rfl, beam := .inl rfl, codec := .inl rfl, dma := .inl rfl, memory := .inl rfl, island := .inl rfl, power := .inl rfl, faults := .inl rfl, pair := .inl rfl, firmware := .inl rfl, integrator := .inl rfl, plls := .inl rfl, axes := .inl rfl, loops := .inl rfl, sensors := .inl rfl, free := .inl rfl }
    assumption
  · exact accept_only.step rfl (by assumption)

theorem rejectWrite_only {s : State} {v1 v2 v3} : Touch 167772176 s (@State.rejectWrite s v1 v2 v3) := by
  have h : Touch 167772176 s s := Touch.refl
  unfold State.rejectWrite
  split
  · assumption
  · refine Touch.trans (b := s) ?_ { sessions := .inl rfl, pair := .inl rfl, integrator := .inl rfl }
    assumption
  · exact sendIn_only.step rfl (by assumption)
  · exact sendIn_only.step rfl (by assumption)
  · exact integAnswer_only.step rfl (by assumption)

theorem showServe_only {s : State} : Touch 134217728 s (@State.showServe s) := by
  have h : Touch 134217728 s s := Touch.refl
  unfold State.showServe
  split
  · assumption
  · refine Touch.setMgmt (.inr rfl) (.inl rfl) ?_
    assumption

theorem pushServe_only {s : State} {v1} : Touch 134217728 s (@State.pushServe s v1) := by
  have h : Touch 134217728 s s := Touch.refl
  unfold State.pushServe
  refine Touch.step showServe_only rfl ?_
  refine Touch.setMgmt (.inr rfl) (.inl rfl) ?_
  assumption

theorem awaitSet_only {s : State} {v1 v2 v3} : Touch 131072 s (@State.awaitSet s v1 v2 v3) := by
  have h : Touch 131072 s s := Touch.refl
  unfold State.awaitSet
  extract_lets +onlyGivenNames x1
  clear_value x1
  extract_lets +onlyGivenNames x2
  clear_value x2
  extract_lets +onlyGivenNames x3
  clear_value x3
  extract_lets +onlyGivenNames x4
  clear_value x4
  exact trySend_only.step rfl (setCam_only.step rfl (by assumption))

theorem sendLists_only {s : State} {v1 v2 v3} : Touch 8589934591 s (@State.sendLists s v1 v2 v3) := by
  have h : Touch 8589934591 s s := Touch.refl
  unfold State.sendLists
  extract_lets +onlyGivenNames x1
  clear_value x1
  refine Touch.ite ?_ ?_
  · exact letIn_only.step rfl (by assumption)
  · extract_lets +onlyGivenNames x2
    clear_value x2
    extract_lets +onlyGivenNames x3
    extract_lets +onlyGivenNames x4
    have h4 : Touch 8589934591 s x4 := by
      unfold x4
      refine Touch.trans (b := s) ?_ { objects := .inl rfl, waiting := .inl rfl, durable := .inl rfl, changeLog := .inl rfl, sessions := .inl rfl, network := .inl rfl, ptp := .inl rfl, web := .inl rfl, queues := .inl rfl, items := .inl rfl, results := .inl rfl, gates := .inl rfl, journal := .inl rfl, compositor := .inl rfl, firing := .inl rfl, links := .inl rfl, inspection := .inl rfl, cameras := .inl rfl, beam := .inl rfl, codec := .inl rfl, dma := .inl rfl, memory := .inl rfl, island := .inl rfl, power := .inl rfl, faults := .inl rfl, pair := .inl rfl, firmware := .inl rfl, integrator := .inl rfl, plls := .inl rfl, axes := .inl rfl, loops := .inl rfl, sensors := .inl rfl, free := .inl rfl }
      assumption
    clear_value x4
    refine Touch.foldl ?_ (fun y5 z5 h5 => ?_)
    · assumption
    · exact awaitSet_only.step rfl (by assumption)

theorem process_only {s : State} {v1 v2 v3} : Touch 8589934591 s (@State.process s v1 v2 v3) := by
  have h : Touch 8589934591 s s := Touch.refl
  unfold State.process
  split
  · exact rejectWrite_only.step rfl (by assumption)
  · split
    · exact pushServe_only.step rfl (by assumption)
    · exact runReset_only.step rfl (sendLists_only.step rfl (by assumption))

theorem writeOne_only {s : State} {v1 v2 v3 v4} : Touch 8589934591 s (@State.writeOne s v1 v2 v3 v4) := by
  have h : Touch 8589934591 s s := Touch.refl
  unfold State.writeOne
  extract_lets +onlyGivenNames x1
  have h1 : Touch 8589934591 s x1.1 := by
    unfold x1
    exact take_only.step rfl (by assumption)
  clear_value x1
  refine Touch.ite ?_ ?_
  · exact process_only.step rfl (by assumption)
  · assumption

theorem writeKey_only {s : State} {v1 v2 v3 v4 v5} : Touch 8589934591 s (@State.writeKey s v1 v2 v3 v4 v5) := by
  have h : Touch 8589934591 s s := Touch.refl
  unfold State.writeKey
  split
  · assumption
  · exact writeOne_only.step rfl (by assumption)

theorem readDone_only {s : State} {v1 v2 v3 v4} : Touch 134217744 s (@State.readDone s v1 v2 v3 v4) := by
  have h : Touch 134217744 s s := Touch.refl
  unfold State.readDone
  extract_lets +onlyGivenNames x1
  clear_value x1
  refine Touch.ite ?_ ?_
  · exact sendIn_only.step rfl (by assumption)
  · refine Touch.ite ?_ ?_
    · exact integAnswer_only.step rfl (by assumption)
    · exact integAnswer_only.step rfl (by assumption)

theorem readGo_only {s : State} {v1 v2 v3 v4 v5} : Touch 4429185040 s (@State.readGo s v1 v2 v3 v4 v5) := by
  induction v5 generalizing s v4 with
  | nil => exact readDone_only.step rfl Touch.refl
  | cons o rest ih =>
    unfold State.readGo
    split
    · split
      · exact ih
      · exact pushServe_only.step rfl Touch.refl
    · exact ih.step rfl (readOne_only.step rfl Touch.refl)

theorem serveAnswer_only {s : State} {v1 v2} : Touch 8589934591 s (@State.serveAnswer s v1 v2) := by
  have h : Touch 8589934591 s s := Touch.refl
  unfold State.serveAnswer
  split
  · assumption
  · extract_lets +onlyGivenNames x1
    extract_lets +onlyGivenNames x2
    have h2 : Touch 8589934591 s x2 := by
      unfold x2
      refine Touch.step showServe_only rfl ?_
      refine Touch.setMgmt (.inl rfl) (.inl rfl) ?_
      assumption
    clear_value x2
    split
    · split
      · assumption
      · exact readGo_only.step rfl (by assumption)
    · refine Touch.ite ?_ ?_
      · exact process_only.step rfl (by assumption)
      · exact rejectWrite_only.step rfl (by assumption)

theorem programDone_only {s : State} : Touch 192938013 s (@State.programDone s) := by
  have h : Touch 192938013 s s := Touch.refl
  unfold State.programDone
  split
  · assumption
  · extract_lets +onlyGivenNames x1
    extract_lets +onlyGivenNames x2
    have h2 : Touch 192938013 s x2 := by
      unfold x2
      refine Touch.trans (b := s) ?_ { objects := .inl rfl, durable := .inl rfl, changeLog := .inl rfl, sessions := .inl rfl, power := .inl rfl, faults := .inl rfl, pair := .inl rfl, integrator := .inl rfl }
      assumption
    clear_value x2
    extract_lets +onlyGivenNames x3
    have h3 : Touch 192938013 s x3 := by
      unfold x3
      refine Touch.foldl ?_ (fun y4 z4 h4 => ?_)
      · assumption
      · refine Touch.ite ?_ ?_
        · refine Touch.trans (b := y4) ?_ { objects := .inl rfl, durable := .inl rfl, changeLog := .inl rfl, sessions := .inl rfl, power := .inl rfl, faults := .inl rfl, pair := .inl rfl, integrator := .inl rfl }
          assumption
        · refine Touch.trans (b := y4) ?_ { objects := .inl rfl, durable := .inl rfl, changeLog := .inl rfl, sessions := .inl rfl, power := .inl rfl, faults := .inl rfl, pair := .inl rfl, integrator := .inl rfl }
          assumption
    clear_value x3
    extract_lets +onlyGivenNames x5
    have h5 : Touch 192938013 s x5 := by
      unfold x5
      refine Touch.foldl ?_ (fun y6 z6 h6 => ?_)
      · assumption
      · refine Touch.trans (b := y6) ?_ { objects := .inl rfl, durable := .inl rfl, changeLog := .inl rfl, sessions := .inl rfl, power := .inl rfl, faults := .inl rfl, pair := .inl rfl, integrator := .inl rfl }
        assumption
    clear_value x5
    extract_lets +onlyGivenNames x7
    have h7 : Touch 192938013 s x7 := by
      unfold x7
      exact logFlash_only.step rfl (by assumption)
    clear_value x7
    split
    · assumption
    · exact release_only.step rfl (modHeld_only.step rfl (by assumption))

theorem execFlashProgramComplete_only {s : State} {v0} : OutTouch 8585740287 s (@execFlashProgramComplete v0 s) := by
  have h : Touch 8585740287 s s := Touch.refl
  unfold execFlashProgramComplete
  exact OutTouch.ok (runReset_only.step rfl (programDone_only.step rfl (at_only.step rfl (by assumption))))

theorem execPendingValueApplied_only {s : State} {v0 v1 v2} : OutTouch 8589934591 s (@execPendingValueApplied v0 v1 v2 s) := by
  have h : Touch 8589934591 s s := Touch.refl
  unfold execPendingValueApplied
  extract_lets +onlyGivenNames x1
  have h1 : Touch 8589934591 s x1 := by
    unfold x1
    exact at_only.step rfl (by assumption)
  clear_value x1
  extract_lets +onlyGivenNames x2
  clear_value x2
  split
  · exact OutTouch.ok (by assumption)
  · refine OutTouch.ite ?_ ?_
    · extract_lets +onlyGivenNames x3
      clear_value x3
      exact OutTouch.ok (runReset_only.step rfl (writeEffect_only.step rfl (applyPend_only.step rfl
        (by assumption))))
    · exact OutTouch.ok (by assumption)

theorem execWrite_only {s : State} {v0 v1 v2 v3} : OutTouch 8589934591 s (@execWrite v0 v1 v2 v3 s) := by
  have h : Touch 8589934591 s s := Touch.refl
  unfold execWrite
  exact OutTouch.ok (writeOne_only.step rfl (at_only.step rfl (by assumption)))

theorem execBatch_only {s : State} {v0 v1 v2 v3} : OutTouch 8589934591 s (@execBatch v0 v1 v2 v3 s) := by
  have h : Touch 8589934591 s s := Touch.refl
  unfold execBatch
  extract_lets +onlyGivenNames x1
  have h1 : Touch 8589934591 s x1.1 := by
    unfold x1
    exact take_only.step rfl (at_only.step rfl (by assumption))
  clear_value x1
  refine OutTouch.ite ?_ ?_
  · exact OutTouch.ok (process_only.step rfl (by assumption))
  · exact OutTouch.ok (by assumption)

theorem execRead_only {s : State} {v0 v1 v2 v3} : OutTouch 4429185168 s (@execRead v0 v1 v2 v3 s) := by
  have h : Touch 4429185168 s s := Touch.refl
  unfold execRead
  extract_lets +onlyGivenNames x1
  have h1 : Touch 4429185168 s x1.1 := by
    unfold x1
    exact take_only.step rfl (at_only.step rfl (by assumption))
  clear_value x1
  refine OutTouch.ite ?_ ?_
  · exact OutTouch.ok (by assumption)
  · refine OutTouch.ite ?_ ?_
    · exact OutTouch.ok (errorTo_only.step rfl (by assumption))
    · exact OutTouch.ok (readGo_only.step rfl (by assumption))

theorem execChangeLogFlush_only {s : State} {v0} : OutTouch 8 s (@execChangeLogFlush v0 s) := by
  have h : Touch 8 s s := Touch.refl
  unfold execChangeLogFlush
  extract_lets +onlyGivenNames x1
  have h1 : Touch 8 s x1 := by
    unfold x1
    exact atTime_only.step rfl (by assumption)
  clear_value x1
  refine OutTouch.ite ?_ ?_
  · refine OutTouch.ok ?_
    refine Touch.trans (b := x1) ?_ { changeLog := .inl rfl }
    assumption
  · exact OutTouch.ok (by assumption)

theorem execChangeLogFlushDone_only {s : State} {v0} : OutTouch 8589934591 s (@execChangeLogFlushDone v0 s) := by
  have h : Touch 8589934591 s s := Touch.refl
  unfold execChangeLogFlushDone
  extract_lets +onlyGivenNames x1
  have h1 : Touch 8589934591 s x1 := by
    unfold x1
    exact at_only.step rfl (by assumption)
  clear_value x1
  split
  · exact OutTouch.ok (by assumption)
  · extract_lets +onlyGivenNames x2
    clear_value x2
    extract_lets +onlyGivenNames x3
    clear_value x3
    extract_lets +onlyGivenNames x4
    extract_lets +onlyGivenNames x5
    have h5 : Touch 8589934591 s x5 := by
      unfold x5
      refine Touch.trans (b := x1) ?_ { objects := .inl rfl, waiting := .inl rfl, durable := .inl rfl, changeLog := .inl rfl, sessions := .inl rfl, network := .inl rfl, ptp := .inl rfl, web := .inl rfl, queues := .inl rfl, items := .inl rfl, results := .inl rfl, gates := .inl rfl, journal := .inl rfl, compositor := .inl rfl, firing := .inl rfl, links := .inl rfl, inspection := .inl rfl, cameras := .inl rfl, beam := .inl rfl, codec := .inl rfl, dma := .inl rfl, memory := .inl rfl, island := .inl rfl, power := .inl rfl, faults := .inl rfl, pair := .inl rfl, firmware := .inl rfl, integrator := .inl rfl, plls := .inl rfl, axes := .inl rfl, loops := .inl rfl, sensors := .inl rfl, free := .inl rfl }
      assumption
    clear_value x5
    extract_lets +onlyGivenNames x6
    have h6 : Touch 8589934591 s x6 := by
      unfold x6
      exact inc64_only.step rfl (logFlash_only.step rfl (by assumption))
    clear_value x6
    refine OutTouch.ok ?_
    refine Touch.foldl ?_ (fun y7 z7 h7 => ?_)
    · assumption
    · exact process_only.step rfl (by assumption)

theorem unseenAtBoot_only {s : State} : Touch 4657 s (@State.unseenAtBoot s) := by
  have h : Touch 4657 s s := Touch.refl
  unfold State.unseenAtBoot
  refine Touch.foldl ?_ (fun y1 z1 h1 => ?_)
  · assumption
  · exact recordVerdict_only.step rfl (by assumption)

theorem closeAtBoot_only {s : State} {v1 v2} : Touch 4657 s (@State.closeAtBoot s v1 v2) := by
  have h : Touch 4657 s s := Touch.refl
  unfold State.closeAtBoot
  split
  · assumption
  · extract_lets +onlyGivenNames x1
    clear_value x1
    extract_lets +onlyGivenNames x2
    clear_value x2
    extract_lets +onlyGivenNames x3
    have h3 : Touch 4657 s x3 := by
      unfold x3
      exact inc64_only.step rfl (modItem_only.step rfl (by assumption))
    clear_value x3
    extract_lets +onlyGivenNames x4
    have h4 : Touch 4657 s x4 := by
      unfold x4
      exact journal_only.step rfl (inc64_only.step rfl (by assumption))
    clear_value x4
    exact event_only.step rfl (event_only.step rfl (by assumption))

theorem resumeDrops_only {s : State} {v1} : Touch 16385 s (@State.resumeDrops s v1) := by
  have h : Touch 16385 s s := Touch.refl
  unfold State.resumeDrops
  extract_lets +onlyGivenNames x1
  have h1 : Touch 16385 s x1 := by
    unfold x1
    refine Touch.foldl ?_ (fun y2 z2 h2 => ?_)
    · assumption
    · exact setv_only.step rfl (by assumption)
  clear_value x1
  extract_lets +onlyGivenNames x3
  extract_lets +onlyGivenNames x4
  clear_value x4
  extract_lets +onlyGivenNames x5
  have h5 : Touch 16385 s x5 := by
    unfold x5
    refine Touch.setFire (.inl rfl) (.inr rfl) ?_
    assumption
  clear_value x5
  extract_lets +onlyGivenNames x6
  have h6 : Touch 16385 s x6 := by
    unfold x6
    exact setn_only.step rfl (by assumption)
  clear_value x6
  refine Touch.foldl ?_ (fun y7 z7 h7 => ?_)
  · assumption
  · refine Touch.ite ?_ ?_
    · assumption
    · exact setn_only.step rfl (by assumption)

theorem fromRecord_only {s : State} {v1} : Touch 21041 s (@State.fromRecord s v1) := by
  have h : Touch 21041 s s := Touch.refl
  unfold State.fromRecord
  extract_lets +onlyGivenNames x1
  have h1 : Touch 21041 s x1 := by
    unfold x1
    refine Touch.step unseenAtBoot_only rfl ?_
    refine Touch.foldl ?_ (fun y2 z2 h2 => ?_)
    · assumption
    · exact closeAtBoot_only.step rfl (by assumption)
  clear_value x1
  extract_lets +onlyGivenNames x3
  have h3 : Touch 21041 s x3 := by
    unfold x3
    exact setn_only.step rfl (setn_only.step rfl (by assumption))
  clear_value x3
  extract_lets +onlyGivenNames x4
  have h4 : Touch 21041 s x4 := by
    unfold x4
    exact setn_only.step rfl (by assumption)
  clear_value x4
  exact resumeDrops_only.step rfl (setn_only.step rfl (by assumption))

theorem countersUnknown_only {s : State} : Touch 1 s (@State.countersUnknown s) := by
  have h : Touch 1 s s := Touch.refl
  unfold State.countersUnknown
  refine Touch.foldl ?_ (fun y1 z1 h1 => ?_)
  · assumption
  · exact setn_only.step rfl (by assumption)

theorem bootLocked_only {s : State} {v1} : Touch 268702257 s (@State.bootLocked s v1) := by
  have h : Touch 268702257 s s := Touch.refl
  unfold State.bootLocked
  refine Touch.ite ?_ ?_
  · assumption
  · refine Touch.ite ?_ ?_
    · refine Touch.ite ?_ ?_
      · exact relock_only.step rfl (by assumption)
      · assumption
    · refine Touch.ite ?_ ?_
      · exact setn_only.step rfl (by assumption)
      · assumption

theorem execPllLockAcquired_only {s : State} {v0 v1} : OutTouch 8585740287 s (@execPllLockAcquired v0 v1 s) := by
  have h : Touch 8585740287 s s := Touch.refl
  unfold execPllLockAcquired
  extract_lets +onlyGivenNames x1
  have h1 : Touch 8585740287 s x1 := by
    unfold x1
    exact atTime_only.step rfl (by assumption)
  clear_value x1
  refine OutTouch.ite ?_ ?_
  · exact OutTouch.ok (runReset_only.step rfl (bootLocked_only.step rfl (relocked_only.step rfl
      (by assumption))))
  · exact OutTouch.ok (by assumption)

theorem logDefault_only {s : State} {v1} : Touch 8 s (@State.logDefault s v1) := by
  have h : Touch 8 s s := Touch.refl
  unfold State.logDefault
  exact logObj_only.step rfl (by assumption)

theorem execLineTick_only {s : State} {v0 v1 v2} : OutTouch 8585740287 s (@execLineTick v0 v1 v2 s) := by
  have h : Touch 8585740287 s s := Touch.refl
  unfold execLineTick
  refine finish_only rfl ?_
  exact runLineTick_only.step rfl (by assumption)

theorem restoreTail_only {s : State} : Touch 9 s (@State.restoreTail s) := by
  have h : Touch 9 s s := Touch.refl
  unfold State.restoreTail
  split
  · assumption
  · refine Touch.ite ?_ ?_
    · extract_lets +onlyGivenNames x1
      clear_value x1
      extract_lets +onlyGivenNames x2
      have h2 : Touch 9 s x2 := by
        unfold x2
        refine Touch.foldl ?_ (fun y3 z3 h3 => ?_)
        · assumption
        · exact logFlash_only.step rfl (by assumption)
      clear_value x2
      exact setn_only.step rfl (by assumption)
    · assumption

theorem bootSlot_only {s : State} {v1} : Touch 67108865 s (@State.bootSlot s v1).1 := by
  have h : Touch 67108865 s s := Touch.refl
  unfold State.bootSlot
  extract_lets +onlyGivenNames x1
  clear_value x1
  extract_lets +onlyGivenNames x2
  clear_value x2
  split
  · extract_lets +onlyGivenNames x3
    have h3 : Touch 67108865 s x3 := by
      unfold x3
      exact setn_only.step rfl (setn_only.step rfl (by assumption))
    clear_value x3
    dsimp only
    exact setn_only.step rfl (by assumption)
  · dsimp only
    exact setn_only.step rfl (writeDir_only.step rfl (by assumption))

theorem bootConfirmed_only {s : State} {v0} : Touch 67108865 s (@State.bootConfirmed v0 s).1 := by
  induction v0 generalizing s with
  | zero => exact Touch.refl
  | succ n ih =>
    unfold State.bootConfirmed
    split
    · exact Touch.refl
    · extract_lets +onlyGivenNames r
      split
      · exact bootSlot_only.step rfl Touch.refl
      · exact ih.step rfl (bootSlot_only.step rfl Touch.refl)

theorem selectSlot_only {s : State} : Touch 67108865 s (@State.selectSlot s).1 := by
  have h : Touch 67108865 s s := Touch.refl
  unfold State.selectSlot
  extract_lets +onlyGivenNames x1
  clear_value x1
  split
  · split
    · extract_lets +onlyGivenNames x2
      have h2 : Touch 67108865 s x2 := by
        unfold x2
        exact writeDir_only.step rfl (by assumption)
      clear_value x2
      extract_lets +onlyGivenNames x3
      have h3 : Touch 67108865 s x3.1 := by
        unfold x3
        exact bootSlot_only.step rfl (by assumption)
      clear_value x3
      split
      · dsimp only
        assumption
      · exact bootConfirmed_only.step rfl (by assumption)
    · exact bootConfirmed_only.step rfl (writeDir_only.step rfl (by assumption))
  · exact bootConfirmed_only.step rfl (by assumption)

theorem startBlocks_only {s : State} : Touch 513713 s (@State.startBlocks s) := by
  have h : Touch 513713 s s := Touch.refl
  unfold State.startBlocks
  extract_lets +onlyGivenNames x1
  have h1 : Touch 513713 s x1 := by
    unfold x1
    refine Touch.foldl ?_ (fun y2 z2 h2 => ?_)
    · assumption
    · refine Touch.ite ?_ ?_
      · exact linkSet_only.step rfl (by assumption)
      · assumption
  clear_value x1
  extract_lets +onlyGivenNames x3
  have h3 : Touch 513713 s x3 := by
    unfold x3
    refine Touch.foldl ?_ (fun y4 z4 h4 => ?_)
    · assumption
    · refine Touch.ite ?_ ?_
      · exact portWritten_only.step rfl (by assumption)
      · assumption
  clear_value x3
  extract_lets +onlyGivenNames x5
  have h5 : Touch 513713 s x5 := by
    unfold x5
    exact trackerCheck_only.step rfl (unitConfigured_only.step rfl (unitConfigured_only.step rfl
      (by assumption)))
  clear_value x5
  exact planesSet_only.step rfl (by assumption)

theorem newBoot_only {s : State} : Touch 8388617 s (@State.newBoot s) := by
  have h : Touch 8388617 s s := Touch.refl
  unfold State.newBoot
  extract_lets +onlyGivenNames x1
  clear_value x1
  extract_lets +onlyGivenNames x2
  have h2 : Touch 8388617 s x2 := by
    unfold x2
    exact setn_only.step rfl (by assumption)
  clear_value x2
  exact logKind_only.step rfl (setPower_only.step rfl (by assumption))

theorem recordValues_only {s : State} : Touch 15 s (@State.recordValues s) := by
  have h : Touch 15 s s := Touch.refl
  unfold State.recordValues
  extract_lets +onlyGivenNames x1
  clear_value x1
  extract_lets +onlyGivenNames x2
  clear_value x2
  extract_lets +onlyGivenNames x3
  extract_lets +onlyGivenNames x4
  have h4 : Touch 15 s x4 := by
    unfold x4
    refine Touch.trans (b := s) ?_ { objects := .inl rfl, waiting := .inl rfl, durable := .inl rfl, changeLog := .inl rfl }
    assumption
  clear_value x4
  refine Touch.ite ?_ ?_
  · extract_lets +onlyGivenNames x5
    clear_value x5
    extract_lets +onlyGivenNames x6
    clear_value x6
    refine Touch.foldl ?_ (fun y7 z7 h7 => ?_)
    · assumption
    · exact logDefault_only.step rfl (by assumption)
  · refine Touch.foldl ?_ (fun y8 z8 h8 => ?_)
    · assumption
    · exact setv_only.step rfl (logObj_only.step rfl (by assumption))

theorem rebuildCounts_only {s : State} : Touch 1 s (@State.rebuildCounts s) := by
  have h : Touch 1 s s := Touch.refl
  unfold State.rebuildCounts
  extract_lets +onlyGivenNames x1
  have h1 : Touch 1 s x1 := by
    unfold x1
    refine Touch.foldl ?_ (fun y2 z2 h2 => ?_)
    · assumption
    · exact setv_only.step rfl (by assumption)
  clear_value x1
  refine Touch.foldl ?_ (fun y3 z3 h3 => ?_)
  · assumption
  · refine Touch.foldl ?_ (fun y4 z4 h4 => ?_)
    · assumption
    · exact setv_only.step rfl (by assumption)

theorem leapSequence_only {s : State} : Touch 1 s (@State.leapSequence s) := by
  have h : Touch 1 s s := Touch.refl
  unfold State.leapSequence
  extract_lets +onlyGivenNames x1
  clear_value x1
  exact setn_only.step rfl (by assumption)

theorem withoutRecord_only {s : State} : Touch 16945 s (@State.withoutRecord s) := by
  have h : Touch 16945 s s := Touch.refl
  unfold State.withoutRecord
  extract_lets +onlyGivenNames x1
  clear_value x1
  extract_lets +onlyGivenNames x2
  have h2 : Touch 16945 s x2 := by
    unfold x2
    exact setItems_only.step rfl (by assumption)
  clear_value x2
  extract_lets +onlyGivenNames x3
  have h3 : Touch 16945 s x3 := by
    unfold x3
    refine Touch.foldl ?_ (fun y4 z4 h4 => ?_)
    · assumption
    · exact setn_only.step rfl (by assumption)
  clear_value x3
  extract_lets +onlyGivenNames x5
  have h5 : Touch 16945 s x5 := by
    unfold x5
    exact leapSequence_only.step rfl (countersUnknown_only.step rfl (resumeDrops_only.step rfl
      (setn_only.step rfl (by assumption))))
  clear_value x5
  exact event_only.step rfl (by assumption)

theorem nextRecords_only {s : State} : Touch 1 s (@State.nextRecords s) := by
  have h : Touch 1 s s := Touch.refl
  unfold State.nextRecords
  refine Touch.foldl ?_ (fun y1 z1 h1 => ?_)
  · assumption
  · exact setn_only.step rfl (by assumption)

theorem holdupBoot_only {s : State} : Touch 21041 s (@State.holdupBoot s) := by
  have h : Touch 21041 s s := Touch.refl
  unfold State.holdupBoot
  extract_lets +onlyGivenNames x1
  have h1 : Touch 21041 s x1 := by
    unfold x1
    exact rebuildCounts_only.step rfl (setItems_only.step rfl (by assumption))
  clear_value x1
  extract_lets +onlyGivenNames x2
  have h2 : Touch 21041 s x2 := by
    unfold x2
    split
    · refine Touch.ite ?_ ?_
      · exact fromRecord_only.step rfl (by assumption)
      · refine Touch.ite ?_ ?_
        · exact withoutRecord_only.step rfl (by assumption)
        · exact resumeDrops_only.step rfl (unseenAtBoot_only.step rfl (by assumption))
    · refine Touch.ite ?_ ?_
      · exact withoutRecord_only.step rfl (by assumption)
      · exact resumeDrops_only.step rfl (unseenAtBoot_only.step rfl (by assumption))
  clear_value x2
  exact renewSlots_only.step rfl (nextRecords_only.step rfl (by assumption))

theorem firmwareInit_only {s : State} : Touch 59233983 s (@State.firmwareInit s) := by
  have h : Touch 59233983 s s := Touch.refl
  unfold State.firmwareInit
  extract_lets +onlyGivenNames x1
  have h1 : Touch 59233983 s x1 := by
    unfold x1
    exact startBlocks_only.step rfl (newBoot_only.step rfl (recordValues_only.step rfl
      (restoreTail_only.step rfl (holdupBoot_only.step rfl (by assumption)))))
  clear_value x1
  extract_lets +onlyGivenNames x2
  have h2 : Touch 59233983 s x2 := by
    unfold x2
    refine Touch.ite ?_ ?_
    · exact integStart_only.step rfl (by assumption)
    · assumption
  clear_value x2
  extract_lets +onlyGivenNames x3
  have h3 : Touch 59233983 s x3 := by
    unfold x3
    refine Touch.ite ?_ ?_
    · exact pairEnter_only.step rfl (by assumption)
    · assumption
  clear_value x3
  extract_lets +onlyGivenNames x4
  have h4 : Touch 59233983 s x4 := by
    unfold x4
    exact setn_only.step rfl (by assumption)
  clear_value x4
  exact setn_only.step rfl (by assumption)

theorem bootImage_only {s : State} : Touch 126342847 s (@State.bootImage s) := by
  have h : Touch 126342847 s s := Touch.refl
  unfold State.bootImage
  extract_lets +onlyGivenNames x1
  clear_value x1
  extract_lets +onlyGivenNames x2
  have h2 : Touch 126342847 s x2 := by
    unfold x2
    exact renewUpdate_only.step rfl (setn_only.step rfl (by assumption))
  clear_value x2
  extract_lets +onlyGivenNames x3
  have h3 : Touch 126342847 s x3.1 := by
    unfold x3
    exact selectSlot_only.step rfl (by assumption)
  clear_value x3
  split
  · extract_lets +onlyGivenNames x4
    have h4 : Touch 126342847 s x4 := by
      unfold x4
      exact setn_only.step rfl (by assumption)
    clear_value x4
    refine Touch.step renewFaultN_only rfl ?_
    refine Touch.setMgmt (.inl rfl) (.inr rfl) ?_
    assumption
  · extract_lets +onlyGivenNames x5
    have h5 : Touch 126342847 s x5 := by
      unfold x5
      refine Touch.ite ?_ ?_
      · exact setDurable_only.step rfl (by assumption)
      · assumption
    clear_value x5
    exact firmwareInit_only.step rfl (renewFaultN_only.step rfl (by assumption))

theorem execDramTrainingDone_only {s : State} {v0 v1 v2} : OutTouch 126342847 s (@execDramTrainingDone v0 v1 v2 s) := by
  have h : Touch 126342847 s s := Touch.refl
  unfold execDramTrainingDone
  extract_lets +onlyGivenNames x1
  have h1 : Touch 126342847 s x1 := by
    unfold x1
    exact atTime_only.step rfl (by assumption)
  clear_value x1
  refine OutTouch.ite ?_ ?_
  · exact OutTouch.ok (by assumption)
  · refine OutTouch.ite ?_ ?_
    · exact OutTouch.ok (renewFaultN_only.step rfl (setn_only.step rfl (setn_only.step rfl (by assumption))))
    · extract_lets +onlyGivenNames x2
      clear_value x2
      extract_lets +onlyGivenNames x3
      have h3 : Touch 126342847 s x3 := by
        unfold x3
        exact setn_only.step rfl (setn_only.step rfl (by assumption))
      clear_value x3
      extract_lets +onlyGivenNames x4
      have h4 : Touch 126342847 s x4 := by
        unfold x4
        exact setn_only.step rfl (by assumption)
      clear_value x4
      extract_lets +onlyGivenNames x5
      have h5 : Touch 126342847 s x5 := by
        unfold x5
        exact setn_only.step rfl (by assumption)
      clear_value x5
      exact OutTouch.ok (bootImage_only.step rfl (setn_only.step rfl (by assumption)))

theorem execEncoderEdge_only {s : State} {v0 v1 v2 v3} : OutTouch 8585740287 s (@execEncoderEdge v0 v1 v2 v3 s) := by
  have h : Touch 8585740287 s s := Touch.refl
  unfold execEncoderEdge
  refine finish_only rfl ?_
  exact runEncoderEdge_only.step rfl (by assumption)

theorem execZEdge_only {s : State} {v0 v1 v2} : OutTouch 8585740287 s (@execZEdge v0 v1 v2 s) := by
  have h : Touch 8585740287 s s := Touch.refl
  unfold execZEdge
  refine finish_only rfl ?_
  exact runZEdge_only.step rfl (by assumption)

theorem execPllGlideDone_only {s : State} {v0 v1} : OutTouch 8585740287 s (@execPllGlideDone v0 v1 s) := by
  have h : Touch 8585740287 s s := Touch.refl
  unfold execPllGlideDone
  refine finish_only rfl ?_
  exact runPllGlideDone_only.step rfl (by assumption)

theorem execBdEdge_only {s : State} {v0 v1 v2 v3} : OutTouch 8585740287 s (@execBdEdge v0 v1 v2 v3 s) := by
  have h : Touch 8585740287 s s := Touch.refl
  unfold execBdEdge
  refine finish_only rfl ?_
  exact runBdEdge_only.step rfl (by assumption)

end Sys2Proof.Machine
end

