-- ==== Sys2Proof/Laws/TouchF.lean ====
section
/-! SUPPORT. Which parts of the state the operations of these files may change, by `Touch`: CamWrites, Bulk,
Commands, Mirror, Serve. -/

set_option Elab.async false

namespace Sys2Proof.Machine

theorem listSent_only {s : State} {v1 v2} : Touch 8589934591 s (@State.listSent s v1 v2) := by
  have h : Touch 8589934591 s s := Touch.refl
  unfold State.listSent
  split
  · assumption
  · extract_lets +onlyGivenNames x1
    clear_value x1
    refine Touch.ite ?_ ?_
    · extract_lets +onlyGivenNames x2
      extract_lets +onlyGivenNames x3
      have h3 : Touch 8589934591 s x3 := by
        unfold x3
        refine Touch.trans (b := s) ?_ { objects := .inl rfl, waiting := .inl rfl, durable := .inl rfl, changeLog := .inl rfl, sessions := .inl rfl, network := .inl rfl, ptp := .inl rfl, web := .inl rfl, queues := .inl rfl, items := .inl rfl, results := .inl rfl, gates := .inl rfl, journal := .inl rfl, compositor := .inl rfl, firing := .inl rfl, links := .inl rfl, inspection := .inl rfl, cameras := .inl rfl, beam := .inl rfl, codec := .inl rfl, dma := .inl rfl, memory := .inl rfl, island := .inl rfl, power := .inl rfl, faults := .inl rfl, pair := .inl rfl, firmware := .inl rfl, integrator := .inl rfl, plls := .inl rfl, axes := .inl rfl, loops := .inl rfl, sensors := .inl rfl, free := .inl rfl }
        assumption
      clear_value x3
      exact letIn_only.step rfl (by assumption)
    · refine Touch.trans (b := s) ?_ { objects := .inl rfl, waiting := .inl rfl, durable := .inl rfl, changeLog := .inl rfl, sessions := .inl rfl, network := .inl rfl, ptp := .inl rfl, web := .inl rfl, queues := .inl rfl, items := .inl rfl, results := .inl rfl, gates := .inl rfl, journal := .inl rfl, compositor := .inl rfl, firing := .inl rfl, links := .inl rfl, inspection := .inl rfl, cameras := .inl rfl, beam := .inl rfl, codec := .inl rfl, dma := .inl rfl, memory := .inl rfl, island := .inl rfl, power := .inl rfl, faults := .inl rfl, pair := .inl rfl, firmware := .inl rfl, integrator := .inl rfl, plls := .inl rfl, axes := .inl rfl, loops := .inl rfl, sensors := .inl rfl, free := .inl rfl }
      assumption

theorem execSettingsSetArmed_only {s : State} {v0 v1} : OutTouch 8589934591 s (@execSettingsSetArmed v0 v1 s) := by
  have h : Touch 8589934591 s s := Touch.refl
  unfold execSettingsSetArmed
  extract_lets +onlyGivenNames x1
  have h1 : Touch 8589934591 s x1 := by
    unfold x1
    exact at_only.step rfl (by assumption)
  clear_value x1
  extract_lets +onlyGivenNames x2
  clear_value x2
  split
  · exact OutTouch.ok (by assumption)
  · refine OutTouch.ite ?_ ?_
    · exact OutTouch.ok (by assumption)
    · extract_lets +onlyGivenNames x3
      clear_value x3
      extract_lets +onlyGivenNames x4
      have h4 : Touch 8589934591 s x4 := by
        unfold x4
        exact setCam_only.step rfl (by assumption)
      clear_value x4
      extract_lets +onlyGivenNames x5
      have h5 : Touch 8589934591 s x5 := by
        unfold x5
        exact setn_only.step rfl (armSet_only.step rfl (by assumption))
      clear_value x5
      refine OutTouch.ok ?_
      refine Touch.step runReset_only rfl ?_
      refine Touch.foldl ?_ (fun y6 z6 h6 => ?_)
      · assumption
      · exact listSent_only.step rfl (by assumption)

theorem diverge_only {s : State} {v1} : Touch 1 s (@State.diverge s v1) := by
  have h : Touch 1 s s := Touch.refl
  unfold State.diverge
  exact setn_only.step rfl (by assumption)

theorem leaveWait_only {s : State} {v1 v2} : Touch 131073 s (@State.leaveWait s v1 v2) := by
  have h : Touch 131073 s s := Touch.refl
  unfold State.leaveWait
  extract_lets +onlyGivenNames x1
  clear_value x1
  split
  · assumption
  · refine Touch.ite ?_ ?_
    · assumption
    · extract_lets +onlyGivenNames x2
      clear_value x2
      extract_lets +onlyGivenNames x3
      have h3 : Touch 131073 s x3 := by
        unfold x3
        refine Touch.ite ?_ ?_
        · exact diverge_only.step rfl (by assumption)
        · assumption
      clear_value x3
      refine Touch.ite ?_ ?_
      · exact setCam_only.step rfl (by assumption)
      · extract_lets +onlyGivenNames x4
        clear_value x4
        exact trySend_only.step rfl (setCam_only.step rfl (by assumption))

theorem rearm_only {s : State} {v1} : Touch 131073 s (@State.rearm s v1) := by
  have h : Touch 131073 s s := Touch.refl
  unfold State.rearm
  extract_lets +onlyGivenNames x1
  clear_value x1
  extract_lets +onlyGivenNames x2
  clear_value x2
  exact diverge_only.step rfl (armSet_only.step rfl (setCam_only.step rfl (by assumption)))

theorem failList_only {s : State} {v1 v2} : Touch 167903249 s (@State.failList s v1 v2) := by
  have h : Touch 167903249 s s := Touch.refl
  unfold State.failList
  split
  · assumption
  · extract_lets +onlyGivenNames x1
    have h1 : Touch 167903249 s x1 := by
      unfold x1
      refine Touch.foldl ?_ (fun y2 z2 h2 => ?_)
      · assumption
      · refine Touch.ite ?_ ?_
        · assumption
        · exact leaveWait_only.step rfl (by assumption)
    clear_value x1
    extract_lets +onlyGivenNames x3
    have h3 : Touch 167903249 s x3 := by
      unfold x3
      refine Touch.foldl ?_ (fun y4 z4 h4 => ?_)
      · assumption
      · exact rearm_only.step rfl (by assumption)
    clear_value x3
    extract_lets +onlyGivenNames x5
    extract_lets +onlyGivenNames x6
    have h6 : Touch 167903249 s x6 := by
      unfold x6
      refine Touch.trans (b := x3) ?_ { objects := .inl rfl, sessions := .inl rfl, cameras := .inl rfl, pair := .inl rfl, integrator := .inl rfl }
      assumption
    clear_value x6
    extract_lets +onlyGivenNames x7
    clear_value x7
    exact rejectWrite_only.step rfl (by assumption)

theorem listFailed_only {s : State} {v1} : Touch 167903249 s (@State.listFailed s v1) := by
  have h : Touch 167903249 s s := Touch.refl
  unfold State.listFailed
  extract_lets +onlyGivenNames x1
  clear_value x1
  split
  · assumption
  · refine Touch.ite ?_ ?_
    · assumption
    · extract_lets +onlyGivenNames x2
      have h2 : Touch 167903249 s x2 := by
        unfold x2
        exact inc32_only.step rfl (diverge_only.step rfl (setCam_only.step rfl (by assumption)))
      clear_value x2
      refine Touch.foldl ?_ (fun y3 z3 h3 => ?_)
      · assumption
      · exact failList_only.step rfl (by assumption)

theorem execI2cReadReg_only {s : State} {v0 v1 v2 v3 v4 v5} : OutTouch 8589934591 s (@execI2cReadReg v0 v1 v2 v3 v4 v5 s) := by
  have h : Touch 8589934591 s s := Touch.refl
  unfold execI2cReadReg
  exact OutTouch.ok (writeKey_only.step rfl (at_only.step rfl (by assumption)))

theorem execI2cStretchTimeout_only {s : State} {v0 v1} : OutTouch 167903377 s (@execI2cStretchTimeout v0 v1 s) := by
  have h : Touch 167903377 s s := Touch.refl
  unfold execI2cStretchTimeout
  exact OutTouch.ok (listFailed_only.step rfl (at_only.step rfl (by assumption)))

theorem execI2cNack_only {s : State} {v0 v1} : OutTouch 167903377 s (@execI2cNack v0 v1 s) := by
  have h : Touch 167903377 s s := Touch.refl
  unfold execI2cNack
  exact OutTouch.ok (listFailed_only.step rfl (at_only.step rfl (by assumption)))

theorem bulkAnswer_only {s : State} {v1 v2 v3 v4 v5 v6} : Touch 16 s (@State.bulkAnswer s v1 v2 v3 v4 v5 v6) := by
  have h : Touch 16 s s := Touch.refl
  unfold State.bulkAnswer
  exact sendIn_only.step rfl (by assumption)

theorem setWindow_only {s : State} {v1 v2 v3} : Touch 16 s (@State.setWindow s v1 v2 v3) := by
  have h : Touch 16 s s := Touch.refl
  unfold State.setWindow
  exact modSess_only.step rfl (by assumption)

theorem commitImage_only {s : State} {v1 v2 v3 v4 v5} : Touch 33562897 s (@State.commitImage s v1 v2 v3 v4 v5) := by
  have h : Touch 33562897 s s := Touch.refl
  unfold State.commitImage
  extract_lets +onlyGivenNames x1
  have h1 : Touch 33562897 s x1.1 := by
    unfold x1
    exact commitRes_only.step rfl (by assumption)
  clear_value x1
  refine Touch.ite ?_ ?_
  · extract_lets +onlyGivenNames x2
    have h2 : Touch 33562897 s x2 := by
      unfold x2
      refine Touch.foldl ?_ (fun y3 z3 h3 => ?_)
      · exact setWindow_only.step rfl (by assumption)
      · exact preResolve_only.step rfl (by assumption)
    clear_value x2
    refine Touch.ite ?_ ?_
    · exact answer_only.step rfl (by assumption)
    · exact mirror_only.step rfl (by assumption)
  · exact bulkAnswer_only.step rfl (by assumption)

theorem handOver_only {s : State} {v1 v2 v3 v4 v5} : Touch 100671761 s (@State.handOver s v1 v2 v3 v4 v5) := by
  have h : Touch 100671761 s s := Touch.refl
  unfold State.handOver
  refine Touch.ite ?_ ?_
  · refine Touch.ite ?_ ?_
    · exact bulkAnswer_only.step rfl (by assumption)
    · exact updateStart_only.step rfl (by assumption)
  · refine Touch.ite ?_ ?_
    · extract_lets +onlyGivenNames x1
      extract_lets +onlyGivenNames x2
      have h2 : Touch 100671761 s x2 := by
        unfold x2
        refine Touch.step setWindow_only rfl ?_
        refine Touch.setMgmt (.inl rfl) (.inr rfl) ?_
        assumption
      clear_value x2
      exact bulkAnswer_only.step rfl (by assumption)
    · exact commitImage_only.step rfl (by assumption)

theorem execBulkCommit_only {s : State} {v0 v1 v2 v3} : OutTouch 100671761 s (@execBulkCommit v0 v1 v2 v3 s) := by
  have h : Touch 100671761 s s := Touch.refl
  unfold execBulkCommit
  extract_lets +onlyGivenNames x1
  have h1 : Touch 100671761 s x1.1 := by
    unfold x1
    exact take_only.step rfl (atTime_only.step rfl (by assumption))
  clear_value x1
  extract_lets +onlyGivenNames x2
  have h2 : Touch 100671761 s x2 := by
    unfold x2
    assumption
  clear_value x2
  refine OutTouch.ite ?_ ?_
  · exact OutTouch.ok (by assumption)
  · split
    · exact OutTouch.ok (bulkAnswer_only.step rfl (by assumption))
    · extract_lets +onlyGivenNames x3
      clear_value x3
      refine OutTouch.ite ?_ ?_
      · exact OutTouch.ok (bulkAnswer_only.step rfl (by assumption))
      · refine OutTouch.ite ?_ ?_
        · exact OutTouch.ok (bulkAnswer_only.step rfl (by assumption))
        · exact OutTouch.ok (handOver_only.step rfl (by assumption))

theorem execSubscribeCyclic_only {s : State} {v0 v1 v2 v3 v4 v5} : OutTouch 16 s (@execSubscribeCyclic v0 v1 v2 v3 v4 v5 s) := by
  have h : Touch 16 s s := Touch.refl
  unfold execSubscribeCyclic
  extract_lets +onlyGivenNames x1
  have h1 : Touch 16 s x1.1 := by
    unfold x1
    exact take_only.step rfl (atTime_only.step rfl (by assumption))
  clear_value x1
  extract_lets +onlyGivenNames x2
  have h2 : Touch 16 s x2 := by
    unfold x2
    assumption
  clear_value x2
  refine OutTouch.ite ?_ ?_
  · exact OutTouch.ok (by assumption)
  · extract_lets +onlyGivenNames x3
    extract_lets +onlyGivenNames x4
    clear_value x4
    refine OutTouch.ite ?_ ?_
    · exact OutTouch.ok (respond_only.step rfl (by assumption))
    · extract_lets +onlyGivenNames x5
      clear_value x5
      extract_lets +onlyGivenNames x6
      have h6 : Touch 16 s x6 := by
        unfold x6
        exact modSess_only.step rfl (by assumption)
      clear_value x6
      exact OutTouch.ok (respond_only.step rfl (by assumption))

theorem sample_only {s : State} {v1 v2 v3} : Touch 4294967296 s (@State.sample s v1 v2 v3).1 := by
  induction v3 generalizing s with
  | nil => exact Touch.refl
  | cons o os ih =>
    unfold State.sample
    refine ih.step rfl ?_
    split
    · exact Touch.refl
    · exact readOne_only.step rfl Touch.refl

theorem execCyclicPeriod_only {s : State} {v0 v1 v2} : OutTouch 4294967440 s (@execCyclicPeriod v0 v1 v2 s) := by
  have h : Touch 4294967440 s s := Touch.refl
  unfold execCyclicPeriod
  extract_lets +onlyGivenNames x1
  have h1 : Touch 4294967440 s x1 := by
    unfold x1
    exact at_only.step rfl (by assumption)
  clear_value x1
  extract_lets +onlyGivenNames x2
  clear_value x2
  split
  · exact OutTouch.ok (by assumption)
  · extract_lets +onlyGivenNames x3
    clear_value x3
    extract_lets +onlyGivenNames x4
    have h4 : Touch 4294967440 s x4.1 := by
      unfold x4
      exact sample_only.step rfl (by assumption)
    clear_value x4
    extract_lets +onlyGivenNames x5
    clear_value x5
    extract_lets +onlyGivenNames x6
    clear_value x6
    extract_lets +onlyGivenNames x7
    have h7 : Touch 4294967440 s x7 := by
      unfold x7
      exact modSess_only.step rfl (by assumption)
    clear_value x7
    refine OutTouch.ok ?_
    refine Touch.ite ?_ ?_
    · exact send_only.step rfl (by assumption)
    · assumption

theorem execBulkWrite_only {s : State} {v0 v1 v2 v3 v4} : OutTouch 16 s (@execBulkWrite v0 v1 v2 v3 v4 s) := by
  have h : Touch 16 s s := Touch.refl
  unfold execBulkWrite
  extract_lets +onlyGivenNames x1
  have h1 : Touch 16 s x1.1 := by
    unfold x1
    exact take_only.step rfl (atTime_only.step rfl (by assumption))
  clear_value x1
  extract_lets +onlyGivenNames x2
  have h2 : Touch 16 s x2 := by
    unfold x2
    assumption
  clear_value x2
  refine OutTouch.ite ?_ ?_
  · exact OutTouch.ok (by assumption)
  · split
    · refine OutTouch.ite ?_ ?_
      · exact OutTouch.ok (errorTo_only.step rfl (by assumption))
      · exact OutTouch.ok (setWindow_only.step rfl (by assumption))
    · exact OutTouch.ok (errorTo_only.step rfl (by assumption))

theorem endRead_only {s : State} {v1 v2 v3} : Touch 131089 s (@State.endRead s v1 v2 v3) := by
  have h : Touch 131089 s s := Touch.refl
  unfold State.endRead
  extract_lets +onlyGivenNames x1
  have h1 : Touch 131089 s x1 := by
    unfold x1
    exact setWindow_only.step rfl (by assumption)
  clear_value x1
  extract_lets +onlyGivenNames x2
  extract_lets +onlyGivenNames x3
  have h3 : Touch 131089 s x3 := by
    unfold x3
    refine Touch.ite ?_ ?_
    · refine Touch.step archCounts_only rfl ?_
      refine Touch.trans (b := x1) ?_ { objects := .inl rfl, sessions := .inl rfl, cameras := .inl rfl }
      assumption
    · assumption
  clear_value x3
  exact send_only.step rfl (by assumption)

theorem execBulkDataSend_only {s : State} {v0 v1 v2} : OutTouch 131089 s (@execBulkDataSend v0 v1 v2 s) := by
  have h : Touch 131089 s s := Touch.refl
  unfold execBulkDataSend
  extract_lets +onlyGivenNames x1
  have h1 : Touch 131089 s x1 := by
    unfold x1
    exact atTime_only.step rfl (by assumption)
  clear_value x1
  split
  · exact OutTouch.ok (by assumption)
  · extract_lets +onlyGivenNames x2
    clear_value x2
    extract_lets +onlyGivenNames x3
    clear_value x3
    refine OutTouch.ite ?_ ?_
    · exact OutTouch.ok (by assumption)
    · refine OutTouch.ite ?_ ?_
      · exact OutTouch.ok (endRead_only.step rfl (by assumption))
      · extract_lets +onlyGivenNames x4
        clear_value x4
        refine OutTouch.ite ?_ ?_
        · exact OutTouch.ok (by assumption)
        · extract_lets +onlyGivenNames x5
          clear_value x5
          extract_lets +onlyGivenNames x6
          have h6 : Touch 131089 s x6 := by
            unfold x6
            exact send_only.step rfl (setWindow_only.step rfl (by assumption))
          clear_value x6
          refine OutTouch.ok ?_
          refine Touch.ite ?_ ?_
          · exact endRead_only.step rfl (by assumption)
          · assumption

theorem execBulkAbort_only {s : State} {v0 v1 v2 v3} : OutTouch 16 s (@execBulkAbort v0 v1 v2 v3 s) := by
  have h : Touch 16 s s := Touch.refl
  unfold execBulkAbort
  extract_lets +onlyGivenNames x1
  have h1 : Touch 16 s x1.1 := by
    unfold x1
    exact take_only.step rfl (atTime_only.step rfl (by assumption))
  clear_value x1
  extract_lets +onlyGivenNames x2
  have h2 : Touch 16 s x2 := by
    unfold x2
    assumption
  clear_value x2
  refine OutTouch.ite ?_ ?_
  · exact OutTouch.ok (by assumption)
  · refine OutTouch.ite ?_ ?_
    · exact OutTouch.ok (bulkAnswer_only.step rfl (by assumption))
    · exact OutTouch.ok (bulkAnswer_only.step rfl (setWindow_only.step rfl (by assumption)))

theorem execBulkOpen_only {s : State} {v0 v1 v2 v3 v4 v5 v6 v7 v8} : OutTouch 16 s (@execBulkOpen v0 v1 v2 v3 v4 v5 v6 v7 v8 s) := by
  have h : Touch 16 s s := Touch.refl
  unfold execBulkOpen
  extract_lets +onlyGivenNames x1
  have h1 : Touch 16 s x1.1 := by
    unfold x1
    exact take_only.step rfl (atTime_only.step rfl (by assumption))
  clear_value x1
  extract_lets +onlyGivenNames x2
  have h2 : Touch 16 s x2 := by
    unfold x2
    assumption
  clear_value x2
  refine OutTouch.ite ?_ ?_
  · exact OutTouch.ok (by assumption)
  · extract_lets +onlyGivenNames x3
    clear_value x3
    refine OutTouch.ite ?_ ?_
    · exact OutTouch.ok (bulkAnswer_only.step rfl (by assumption))
    · extract_lets +onlyGivenNames x4
      clear_value x4
      extract_lets +onlyGivenNames x5
      clear_value x5
      exact OutTouch.ok (bulkAnswer_only.step rfl (setWindow_only.step rfl (by assumption)))

theorem writeNat_only {s : State} {v1 v2 v3 v4} : Touch 8589934591 s (@State.writeNat s v1 v2 v3 v4) := by
  have h : Touch 8589934591 s s := Touch.refl
  unfold State.writeNat
  exact writeKey_only.step rfl (by assumption)

theorem execMouldDelete_only {s : State} {v0 v1 v2 v3} : OutTouch 8589934591 s (@execMouldDelete v0 v1 v2 v3 s) := by
  have h : Touch 8589934591 s s := Touch.refl
  unfold execMouldDelete
  exact OutTouch.ok (writeNat_only.step rfl (at_only.step rfl (by assumption)))

theorem writeBool_only {s : State} {v1 v2 v3 v4} : Touch 8589934591 s (@State.writeBool s v1 v2 v3 v4) := by
  have h : Touch 8589934591 s s := Touch.refl
  unfold State.writeBool
  exact writeKey_only.step rfl (by assumption)

theorem execSeqFaultClear_only {s : State} {v0 v1 v2 v3} : OutTouch 8589934591 s (@execSeqFaultClear v0 v1 v2 v3 s) := by
  have h : Touch 8589934591 s s := Touch.refl
  unfold execSeqFaultClear
  exact OutTouch.ok (writeBool_only.step rfl (at_only.step rfl (by assumption)))

theorem execFaultInject_only {s : State} {v0 v1 v2 v3 v4} : OutTouch 8589934591 s (@execFaultInject v0 v1 v2 v3 v4 s) := by
  have h : Touch 8589934591 s s := Touch.refl
  unfold execFaultInject
  exact OutTouch.ok (writeKey_only.step rfl (at_only.step rfl (by assumption)))

theorem execLoopEnable_only {s : State} {v0 v1 v2 v3 v4} : OutTouch 8589934591 s (@execLoopEnable v0 v1 v2 v3 v4 s) := by
  have h : Touch 8589934591 s s := Touch.refl
  unfold execLoopEnable
  exact OutTouch.ok (writeBool_only.step rfl (at_only.step rfl (by assumption)))

theorem execRecoveryCountReset_only {s : State} {v0 v1 v2 v3 v4} : OutTouch 8589934591 s (@execRecoveryCountReset v0 v1 v2 v3 v4 s) := by
  have h : Touch 8589934591 s s := Touch.refl
  unfold execRecoveryCountReset
  exact OutTouch.ok (writeBool_only.step rfl (at_only.step rfl (by assumption)))

theorem execLookAheadMinClear_only {s : State} {v0 v1 v2 v3 v4} : OutTouch 8589934591 s (@execLookAheadMinClear v0 v1 v2 v3 v4 s) := by
  have h : Touch 8589934591 s s := Touch.refl
  unfold execLookAheadMinClear
  exact OutTouch.ok (writeBool_only.step rfl (at_only.step rfl (by assumption)))

theorem execChangeLogRelease_only {s : State} {v0 v1 v2 v3} : OutTouch 8589934591 s (@execChangeLogRelease v0 v1 v2 v3 s) := by
  have h : Touch 8589934591 s s := Touch.refl
  unfold execChangeLogRelease
  exact OutTouch.ok (writeNat_only.step rfl (at_only.step rfl (by assumption)))

theorem execPowerOffRequest_only {s : State} {v0 v1 v2 v3} : OutTouch 8589934591 s (@execPowerOffRequest v0 v1 v2 v3 s) := by
  have h : Touch 8589934591 s s := Touch.refl
  unfold execPowerOffRequest
  exact OutTouch.ok (writeBool_only.step rfl (at_only.step rfl (by assumption)))

theorem execBeamCountsReset_only {s : State} {v0 v1 v2 v3 v4} : OutTouch 8589934591 s (@execBeamCountsReset v0 v1 v2 v3 v4 s) := by
  have h : Touch 8589934591 s s := Touch.refl
  unfold execBeamCountsReset
  exact OutTouch.ok (writeBool_only.step rfl (at_only.step rfl (by assumption)))

theorem execLaneFlush_only {s : State} {v0 v1 v2 v3 v4} : OutTouch 8589934591 s (@execLaneFlush v0 v1 v2 v3 v4 s) := by
  have h : Touch 8589934591 s s := Touch.refl
  unfold execLaneFlush
  exact OutTouch.ok (writeBool_only.step rfl (at_only.step rfl (by assumption)))

theorem execNextRecordSet_only {s : State} {v0 v1 v2 v3 v4} : OutTouch 8589934591 s (@execNextRecordSet v0 v1 v2 v3 v4 s) := by
  have h : Touch 8589934591 s s := Touch.refl
  unfold execNextRecordSet
  exact OutTouch.ok (writeNat_only.step rfl (at_only.step rfl (by assumption)))

theorem execLedgerReset_only {s : State} {v0 v1 v2 v3 v4} : OutTouch 8589934591 s (@execLedgerReset v0 v1 v2 v3 v4 s) := by
  have h : Touch 8589934591 s s := Touch.refl
  unfold execLedgerReset
  exact OutTouch.ok (writeBool_only.step rfl (at_only.step rfl (by assumption)))

theorem execDmaCountsReset_only {s : State} {v0 v1 v2 v3 v4} : OutTouch 8589934591 s (@execDmaCountsReset v0 v1 v2 v3 v4 s) := by
  have h : Touch 8589934591 s s := Touch.refl
  unfold execDmaCountsReset
  exact OutTouch.ok (writeBool_only.step rfl (at_only.step rfl (by assumption)))

theorem execZeroRequest_only {s : State} {v0 v1 v2 v3} : OutTouch 8589934591 s (@execZeroRequest v0 v1 v2 v3 s) := by
  have h : Touch 8589934591 s s := Touch.refl
  unfold execZeroRequest
  exact OutTouch.ok (writeBool_only.step rfl (at_only.step rfl (by assumption)))

theorem execSelfRole_only {s : State} {v0 v1 v2 v3} : OutTouch 8589934591 s (@execSelfRole v0 v1 v2 v3 s) := by
  have h : Touch 8589934591 s s := Touch.refl
  unfold execSelfRole
  exact OutTouch.ok (writeNat_only.step rfl (at_only.step rfl (by assumption)))

theorem execMapResetLearned_only {s : State} {v0 v1 v2 v3} : OutTouch 8589934591 s (@execMapResetLearned v0 v1 v2 v3 s) := by
  have h : Touch 8589934591 s s := Touch.refl
  unfold execMapResetLearned
  exact OutTouch.ok (writeNat_only.step rfl (at_only.step rfl (by assumption)))

theorem execFaultClear_only {s : State} {v0 v1 v2 v3} : OutTouch 8589934591 s (@execFaultClear v0 v1 v2 v3 s) := by
  have h : Touch 8589934591 s s := Touch.refl
  unfold execFaultClear
  exact OutTouch.ok (writeNat_only.step rfl (at_only.step rfl (by assumption)))

theorem execUpdateActivate_only {s : State} {v0 v1 v2 v3} : OutTouch 8589934591 s (@execUpdateActivate v0 v1 v2 v3 s) := by
  have h : Touch 8589934591 s s := Touch.refl
  unfold execUpdateActivate
  exact OutTouch.ok (writeBool_only.step rfl (at_only.step rfl (by assumption)))

theorem execAxisEnable_only {s : State} {v0 v1 v2 v3 v4} : OutTouch 8589934591 s (@execAxisEnable v0 v1 v2 v3 v4 s) := by
  have h : Touch 8589934591 s s := Touch.refl
  unfold execAxisEnable
  exact OutTouch.ok (writeBool_only.step rfl (at_only.step rfl (by assumption)))

theorem execUpdateConfirm_only {s : State} {v0 v1 v2 v3} : OutTouch 8589934591 s (@execUpdateConfirm v0 v1 v2 v3 s) := by
  have h : Touch 8589934591 s s := Touch.refl
  unfold execUpdateConfirm
  exact OutTouch.ok (writeBool_only.step rfl (at_only.step rfl (by assumption)))

theorem execResetRequest_only {s : State} {v0 v1 v2 v3} : OutTouch 8589934591 s (@execResetRequest v0 v1 v2 v3 s) := by
  have h : Touch 8589934591 s s := Touch.refl
  unfold execResetRequest
  exact OutTouch.ok (writeBool_only.step rfl (at_only.step rfl (by assumption)))

theorem execGlyphSetDelete_only {s : State} {v0 v1 v2 v3} : OutTouch 8589934591 s (@execGlyphSetDelete v0 v1 v2 v3 s) := by
  have h : Touch 8589934591 s s := Touch.refl
  unfold execGlyphSetDelete
  exact OutTouch.ok (writeNat_only.step rfl (at_only.step rfl (by assumption)))

theorem execCounterValueWrite_only {s : State} {v0 v1 v2 v3 v4} : OutTouch 8589934591 s (@execCounterValueWrite v0 v1 v2 v3 v4 s) := by
  have h : Touch 8589934591 s s := Touch.refl
  unfold execCounterValueWrite
  exact OutTouch.ok (writeNat_only.step rfl (at_only.step rfl (by assumption)))

theorem execCodecCountsReset_only {s : State} {v0 v1 v2 v3 v4} : OutTouch 8589934591 s (@execCodecCountsReset v0 v1 v2 v3 v4 s) := by
  have h : Touch 8589934591 s s := Touch.refl
  unfold execCodecCountsReset
  exact OutTouch.ok (writeBool_only.step rfl (at_only.step rfl (by assumption)))

theorem execFreezeClear_only {s : State} {v0 v1 v2 v3} : OutTouch 8589934591 s (@execFreezeClear v0 v1 v2 v3 s) := by
  have h : Touch 8589934591 s s := Touch.refl
  unfold execFreezeClear
  exact OutTouch.ok (writeBool_only.step rfl (at_only.step rfl (by assumption)))

theorem execBusErrorClear_only {s : State} {v0 v1 v2 v3} : OutTouch 8589934591 s (@execBusErrorClear v0 v1 v2 v3 s) := by
  have h : Touch 8589934591 s s := Touch.refl
  unfold execBusErrorClear
  exact OutTouch.ok (writeBool_only.step rfl (at_only.step rfl (by assumption)))

theorem execWaveSlotWrite_only {s : State} {v0 v1 v2 v3 v4} : OutTouch 8589934591 s (@execWaveSlotWrite v0 v1 v2 v3 v4 s) := by
  have h : Touch 8589934591 s s := Touch.refl
  unfold execWaveSlotWrite
  exact OutTouch.ok (writeKey_only.step rfl (at_only.step rfl (by assumption)))

theorem execDropCountsReset_only {s : State} {v0 v1 v2 v3 v4} : OutTouch 8589934591 s (@execDropCountsReset v0 v1 v2 v3 v4 s) := by
  have h : Touch 8589934591 s s := Touch.refl
  unfold execDropCountsReset
  exact OutTouch.ok (writeBool_only.step rfl (at_only.step rfl (by assumption)))

theorem execMapEntryWrite_only {s : State} {v0 v1 v2 v3} : OutTouch 8589934591 s (@execMapEntryWrite v0 v1 v2 v3 s) := by
  have h : Touch 8589934591 s s := Touch.refl
  unfold execMapEntryWrite
  exact OutTouch.ok (writeNat_only.step rfl (at_only.step rfl (by assumption)))

theorem execActionWrite_only {s : State} {v0 v1 v2 v3} : OutTouch 8589934591 s (@execActionWrite v0 v1 v2 v3 s) := by
  have h : Touch 8589934591 s s := Touch.refl
  unfold execActionWrite
  exact OutTouch.ok (writeNat_only.step rfl (at_only.step rfl (by assumption)))

theorem execSafeStateExit_only {s : State} {v0 v1 v2 v3} : OutTouch 8589934591 s (@execSafeStateExit v0 v1 v2 v3 s) := by
  have h : Touch 8589934591 s s := Touch.refl
  unfold execSafeStateExit
  exact OutTouch.ok (writeBool_only.step rfl (at_only.step rfl (by assumption)))

theorem execPairSwitchoverRequest_only {s : State} {v0 v1 v2 v3} : OutTouch 8589934591 s (@execPairSwitchoverRequest v0 v1 v2 v3 s) := by
  have h : Touch 8589934591 s s := Touch.refl
  unfold execPairSwitchoverRequest
  exact OutTouch.ok (writeBool_only.step rfl (at_only.step rfl (by assumption)))

theorem execIntegRun_only {s : State} {v0 v1 v2 v3} : OutTouch 8589934591 s (@execIntegRun v0 v1 v2 v3 s) := by
  have h : Touch 8589934591 s s := Touch.refl
  unfold execIntegRun
  exact OutTouch.ok (writeBool_only.step rfl (at_only.step rfl (by assumption)))

theorem matchBinding_only {s : State} {v1 v2 v3 v4} : Touch 33554433 s (@State.matchBinding s v1 v2 v3 v4) := by
  have h : Touch 33554433 s s := Touch.refl
  unfold State.matchBinding
  refine Touch.ite ?_ ?_
  · assumption
  · extract_lets +onlyGivenNames x1
    extract_lets +onlyGivenNames x2
    have h2 : Touch 33554433 s x2 := by
      unfold x2
      refine Touch.trans (b := s) ?_ { objects := .inl rfl, pair := .inl rfl }
      assumption
    clear_value x2
    split
    · refine Touch.trans (b := x2) ?_ { objects := .inl rfl, pair := .inl rfl }
      assumption
    · extract_lets +onlyGivenNames x3
      extract_lets +onlyGivenNames x4
      have h4 : Touch 33554433 s x4 := by
        unfold x4
        refine Touch.trans (b := x2) ?_ { objects := .inl rfl, pair := .inl rfl }
        assumption
      clear_value x4
      refine Touch.ite ?_ ?_
      · exact testBit_only.step rfl (by assumption)
      · exact failBit_only.step rfl (inc32_only.step rfl (by assumption))

theorem mirrorWrite_only {s : State} {v1} : Touch 8589934591 s (@State.mirrorWrite s v1) := by
  have h : Touch 8589934591 s s := Touch.refl
  unfold State.mirrorWrite
  split
  · assumption
  · refine Touch.ite ?_ ?_
    · assumption
    · extract_lets +onlyGivenNames x1
      clear_value x1
      extract_lets +onlyGivenNames x2
      extract_lets +onlyGivenNames x3
      have h3 : Touch 8589934591 s x3 := by
        unfold x3
        refine Touch.trans (b := s) ?_ { objects := .inl rfl, waiting := .inl rfl, durable := .inl rfl, changeLog := .inl rfl, sessions := .inl rfl, network := .inl rfl, ptp := .inl rfl, web := .inl rfl, queues := .inl rfl, items := .inl rfl, results := .inl rfl, gates := .inl rfl, journal := .inl rfl, compositor := .inl rfl, firing := .inl rfl, links := .inl rfl, inspection := .inl rfl, cameras := .inl rfl, beam := .inl rfl, codec := .inl rfl, dma := .inl rfl, memory := .inl rfl, island := .inl rfl, power := .inl rfl, faults := .inl rfl, pair := .inl rfl, firmware := .inl rfl, integrator := .inl rfl, plls := .inl rfl, axes := .inl rfl, loops := .inl rfl, sensors := .inl rfl, free := .inl rfl }
        assumption
      clear_value x3
      exact sendLists_only.step rfl (by assumption)

theorem mirrorValue_only {s : State} {v1} : Touch 1 s (@State.mirrorValue s v1) := by
  have h : Touch 1 s s := Touch.refl
  unfold State.mirrorValue
  split
  · assumption
  · refine Touch.ite ?_ ?_
    · assumption
    · exact setv_only.step rfl (by assumption)

theorem mirrorBinding_only {s : State} {v1 v2 v3 v4} : Touch 37827505 s (@State.mirrorBinding s v1 v2 v3 v4) := by
  have h : Touch 37827505 s s := Touch.refl
  unfold State.mirrorBinding
  extract_lets +onlyGivenNames x1
  have h1 : Touch 37827505 s x1 := by
    unfold x1
    exact inc64_only.step rfl (setn_only.step rfl (by assumption))
  clear_value x1
  extract_lets +onlyGivenNames x2
  clear_value x2
  extract_lets +onlyGivenNames x3
  have h3 : Touch 37827505 s x3 := by
    unfold x3
    split
    · exact addItem_only.step rfl (by assumption)
    · extract_lets +onlyGivenNames x4
      have h4 : Touch 37827505 s x4 := by
        unfold x4
        exact takeHead_only.step rfl (by assumption)
      clear_value x4
      split
      · exact addItem_only.step rfl (by assumption)
      · exact bindHead_only.step rfl (by assumption)
  clear_value x3
  extract_lets +onlyGivenNames x5
  have h5 : Touch 37827505 s x5 := by
    unfold x5
    exact journal_only.step rfl (by assumption)
  clear_value x5
  extract_lets +onlyGivenNames x6
  have h6 : Touch 37827505 s x6 := by
    unfold x6
    split
    · exact polygonItem_only.step rfl (abandonBars_only.step rfl (by assumption))
    · assumption
  clear_value x6
  exact matchBinding_only.step rfl (by assumption)

theorem mirrorReject_only {s : State} {v1 v2 v3 v4} : Touch 49713 s (@State.mirrorReject s v1 v2 v3 v4) := by
  have h : Touch 49713 s s := Touch.refl
  unfold State.mirrorReject
  extract_lets +onlyGivenNames x1
  clear_value x1
  extract_lets +onlyGivenNames x2
  have h2 : Touch 49713 s x2 := by
    unfold x2
    exact setLink_only.step rfl (by assumption)
  clear_value x2
  split
  · exact rejectLine_only.step rfl (by assumption)
  · assumption

theorem mirrorRes_only {s : State} {v1 v2 v3} : Touch 8449 s (@State.mirrorRes s v1 v2 v3) := by
  have h : Touch 8449 s s := Touch.refl
  unfold State.mirrorRes
  extract_lets +onlyGivenNames x1
  have h1 : Touch 8449 s x1.1 := by
    unfold x1
    exact commitRes_only.step rfl (by assumption)
  clear_value x1
  refine Touch.ite ?_ ?_
  · refine Touch.foldl ?_ (fun y2 z2 h2 => ?_)
    · assumption
    · exact preResolve_only.step rfl (by assumption)
  · assumption

theorem mirrorLedger_only {s : State} {v1} : Touch 4608 s (@State.mirrorLedger s v1) := by
  have h : Touch 4608 s s := Touch.refl
  unfold State.mirrorLedger
  extract_lets +onlyGivenNames x1
  clear_value x1
  extract_lets +onlyGivenNames x2
  have h2 : Touch 4608 s x2 := by
    unfold x2
    split
    · exact modItem_only.step rfl (by assumption)
    · exact addItem_only.step rfl (by assumption)
  clear_value x2
  exact journal_only.step rfl (by assumption)

theorem mirrorApply_only {s : State} {v1} : Touch 8589934591 s (@State.mirrorApply s v1) := by
  have h : Touch 8589934591 s s := Touch.refl
  unfold State.mirrorApply
  split
  · exact mirrorWrite_only.step rfl (by assumption)
  · exact mirrorRes_only.step rfl (by assumption)
  · split
    · exact acceptRecord_only.step rfl (by assumption)
    · assumption
  · exact mirrorBinding_only.step rfl (by assumption)
  · exact mirrorLedger_only.step rfl (by assumption)
  · refine Touch.foldl ?_ (fun y1 z1 h1 => ?_)
    · assumption
    · exact mirrorValue_only.step rfl (by assumption)
  · exact staged_only.step rfl (stage_only.step rfl (by assumption))
  · exact mirrorReject_only.step rfl (by assumption)
  · exact checkReports_only.step rfl (by assumption)
  · exact setLoop_only.step rfl (by assumption)
  · exact setAxis_only.step rfl (by assumption)

theorem execMirrorFrameReceived_only {s : State} {v0 v1 v2} : OutTouch 8589934591 s (@execMirrorFrameReceived v0 v1 v2 s) := by
  have h : Touch 8589934591 s s := Touch.refl
  unfold execMirrorFrameReceived
  extract_lets +onlyGivenNames x1
  have h1 : Touch 8589934591 s x1 := by
    unfold x1
    exact at_only.step rfl (by assumption)
  clear_value x1
  refine OutTouch.ite ?_ ?_
  · exact OutTouch.ok (by assumption)
  · extract_lets +onlyGivenNames x2
    clear_value x2
    extract_lets +onlyGivenNames x3
    extract_lets +onlyGivenNames x4
    have h4 : Touch 8589934591 s x4 := by
      unfold x4
      refine Touch.setFault (.inl rfl) (.inl rfl) ?_
      assumption
    clear_value x4
    exact OutTouch.ok (runReset_only.step rfl (mirrorApply_only.step rfl (by assumption)))

theorem execServeDoorbell_only {s : State} {v0 v1} : OutTouch 8589934591 s (@execServeDoorbell v0 v1 s) := by
  have h : Touch 8589934591 s s := Touch.refl
  unfold execServeDoorbell
  extract_lets +onlyGivenNames x1
  have h1 : Touch 8589934591 s x1 := by
    unfold x1
    exact at_only.step rfl (by assumption)
  clear_value x1
  extract_lets +onlyGivenNames x2
  clear_value x2
  extract_lets +onlyGivenNames x3
  extract_lets +onlyGivenNames x4
  have h4 : Touch 8589934591 s x4 := by
    unfold x4
    refine Touch.setMgmt (.inl rfl) (.inl rfl) ?_
    assumption
  clear_value x4
  exact OutTouch.ok (runReset_only.step rfl (serveAnswer_only.step rfl (by assumption)))

theorem scSubmit_only {s : State} {v1 v2 v3} : Touch 134217728 s (@State.scSubmit s v1 v2 v3) := by
  have h : Touch 134217728 s s := Touch.refl
  unfold State.scSubmit
  refine Touch.setMgmt (.inr rfl) (.inl rfl) ?_
  assumption

theorem execEventPush_only {s : State} {v0 v1 v2 v3} : OutTouch 4429185200 s (@execEventPush v0 v1 v2 v3 s) := by
  have h : Touch 4429185200 s s := Touch.refl
  unfold execEventPush
  extract_lets +onlyGivenNames x1
  have h1 : Touch 4429185200 s x1 := by
    unfold x1
    exact at_only.step rfl (by assumption)
  clear_value x1
  refine OutTouch.ite ?_ ?_
  · exact OutTouch.ok (by assumption)
  · extract_lets +onlyGivenNames x2
    have h2 : Touch 4429185200 s x2 := by
      unfold x2
      exact freeNext_only.step rfl (scSubmit_only.step rfl (by assumption))
    clear_value x2
    refine OutTouch.ite ?_ ?_
    · exact OutTouch.ok (integAnswer_only.step rfl (by assumption))
    · refine OutTouch.ite ?_ ?_
      · exact OutTouch.ok (integAnswer_only.step rfl (by assumption))
      · exact OutTouch.ok (integAnswer_only.step rfl (event_only.step rfl (by assumption)))

theorem execOdRead_only {s : State} {v0 v1 v2} : OutTouch 4429185168 s (@execOdRead v0 v1 v2 s) := by
  have h : Touch 4429185168 s s := Touch.refl
  unfold execOdRead
  extract_lets +onlyGivenNames x1
  have h1 : Touch 4429185168 s x1 := by
    unfold x1
    exact at_only.step rfl (by assumption)
  clear_value x1
  refine OutTouch.ite ?_ ?_
  · exact OutTouch.ok (by assumption)
  · extract_lets +onlyGivenNames x2
    have h2 : Touch 4429185168 s x2 := by
      unfold x2
      exact scSubmit_only.step rfl (by assumption)
    clear_value x2
    refine OutTouch.ite ?_ ?_
    · exact OutTouch.ok (integAnswer_only.step rfl (by assumption))
    · exact OutTouch.ok (readGo_only.step rfl (by assumption))

theorem execOdWrite_only {s : State} {v0 v1 v2} : OutTouch 8589934591 s (@execOdWrite v0 v1 v2 s) := by
  have h : Touch 8589934591 s s := Touch.refl
  unfold execOdWrite
  extract_lets +onlyGivenNames x1
  have h1 : Touch 8589934591 s x1 := by
    unfold x1
    exact at_only.step rfl (by assumption)
  clear_value x1
  refine OutTouch.ite ?_ ?_
  · exact OutTouch.ok (by assumption)
  · extract_lets +onlyGivenNames x2
    have h2 : Touch 8589934591 s x2 := by
      unfold x2
      exact scSubmit_only.step rfl (by assumption)
    clear_value x2
    exact OutTouch.ok (process_only.step rfl (by assumption))

theorem declare_only {s : State} {v1} : Touch 134217729 s (@State.declare s v1) := by
  have h : Touch 134217729 s s := Touch.refl
  unfold State.declare
  extract_lets +onlyGivenNames x1
  clear_value x1
  refine Touch.step setn_only rfl ?_
  refine Touch.setMgmt (.inr rfl) (.inl rfl) ?_
  assumption

theorem execDeclare_only {s : State} {v0 v1 v2} : OutTouch 4429185153 s (@execDeclare v0 v1 v2 s) := by
  have h : Touch 4429185153 s s := Touch.refl
  unfold execDeclare
  extract_lets +onlyGivenNames x1
  have h1 : Touch 4429185153 s x1 := by
    unfold x1
    exact at_only.step rfl (by assumption)
  clear_value x1
  refine OutTouch.ite ?_ ?_
  · exact OutTouch.ok (by assumption)
  · extract_lets +onlyGivenNames x2
    have h2 : Touch 4429185153 s x2 := by
      unfold x2
      exact freeNext_only.step rfl (scSubmit_only.step rfl (by assumption))
    clear_value x2
    split
    · exact OutTouch.ok (integAnswer_only.step rfl (by assumption))
    · extract_lets +onlyGivenNames x3
      clear_value x3
      refine OutTouch.ite ?_ ?_
      · exact OutTouch.ok (integAnswer_only.step rfl (by assumption))
      · refine OutTouch.ite ?_ ?_
        · exact OutTouch.ok (integAnswer_only.step rfl (by assumption))
        · exact OutTouch.ok (integAnswer_only.step rfl (declare_only.step rfl (by assumption)))

theorem execServeTimeout_only {s : State} {v0} : OutTouch 8589934591 s (@execServeTimeout v0 s) := by
  have h : Touch 8589934591 s s := Touch.refl
  unfold execServeTimeout
  exact OutTouch.ok (runReset_only.step rfl (serveAnswer_only.step rfl (at_only.step rfl (by assumption))))

end Sys2Proof.Machine
end

