-- ==== Sys2Proof/WellFormed.lean ====
section
/-! DEFINITION. Well-formed commands: each operand fits the field that carries it. -/

namespace Sys2Proof

/-- `n` fits in `b` bits. -/
def fitsBits (b n : Nat) : Bool := decide (n < 2 ^ b)

/-- `i` fits in `b` bits, two's complement. -/
def fitsInt (b : Nat) (i : Int) : Bool :=
  decide (-(2 ^ (b - 1) : Nat) ≤ i) && decide (i < (2 ^ (b - 1) : Nat))

/-- An index and subindex pair fits its fields (R147). -/
def objFits (o : Nat × Nat) : Bool := fitsBits 16 o.1 && fitsBits 8 o.2

/-- A write entry fits its fields (R147). -/
def WEntry.fits (e : WEntry) : Bool :=
  fitsBits 16 e.idx && fitsBits 8 e.sub && decide (e.val.length < 65536)

/-- A general message fits its fields. -/
def PtpGeneral.fits : PtpGeneral → Bool
  | .announce a => fitsBits 8 a.prio1 && fitsBits 8 a.clockClass && fitsBits 8 a.accuracy &&
      fitsBits 16 a.variance && fitsBits 8 a.prio2 && fitsBits 64 a.identity &&
      fitsBits 16 a.steps && fitsInt 16 a.utcOffset && fitsBits 8 a.domain
  | .followUp domain seqId _ _ => fitsBits 8 domain && fitsBits 16 seqId

/-- An OPEN payload fits its fields (R141). -/
def OpenReq.fits (o : OpenReq) : Bool :=
  fitsBits 32 o.nonce && fitsBits 16 o.node && fitsBits 8 o.reqSession && fitsBits 8 o.role &&
  fitsBits 16 o.maxPayload && fitsBits 32 o.oldAck && fitsBits 32 o.grantCtrl &&
  fitsBits 32 o.grantItem && fitsBits 32 o.grantBulk && fitsBits 32 o.grantEvent &&
  decide (o.credential.length ≤ 1024)

/-- A STATUS body fits its fields (R388). -/
def HeadStatus.fits (h : HeadStatus) : Bool :=
  fitsBits 32 h.firesDone && fitsBits 32 h.rejectsSent && fitsBits 32 h.codeErrors &&
  fitsBits 16 h.headBoot && fitsBits 16 h.epoch && fitsBits 8 h.input && fitsBits 8 h.flags &&
  fitsInt 16 h.temperature

/-- An item finding fits the fields of its result (R451). -/
def ItemFinding.fits (f : ItemFinding) : Bool :=
  fitsInt 32 f.dx && fitsInt 32 f.dy && fitsInt 16 f.rot && decide (f.score ≤ 100) &&
  decide (f.area ≤ 1000) && decide (f.streaks.length < 65536) &&
  f.fields.all (fun x => fitsBits 8 x.field && fitsBits 8 x.grade && decide (x.mismatch ≤ 1000))

/-- A dash finding names a column of a plane. -/
def DashFinding.fits (d : DashFinding) : Bool := decide (d.col < 49152)

/-- A freeze record fits. -/
def FreezeInfo.fits (f : FreezeInfo) : Bool :=
  fitsBits 64 f.address && fitsBits 1 f.channel && fitsBits 4 f.bank && fitsBits 32 f.row &&
  fitsBits 16 f.column && fitsBits 16 f.syndrome && fitsBits 8 f.requester && fitsBits 16 f.depth

/-- A register write fits. -/
def RegWrite.fits : RegWrite → Bool
  | .dma _ off v => fitsBits 8 off && fitsBits 64 v
  | .codec _ _ off v => fitsBits 8 off && fitsBits 64 v
  | .timerCmp v => fitsBits 64 v


/-- An estimate fits the objects that report it (R581). -/
def FocEstimate.fits (e : FocEstimate) : Bool :=
  fitsBits 16 e.angle && fitsInt 32 e.speed && fitsBits 8 e.residual && fitsBits 32 e.ke

/-- The fields of a heartbeat fit the layout of R692. -/
def Heartbeat.fits (h : Heartbeat) : Bool :=
  decide (h.state ≤ 7) && fitsBits 16 h.epoch && fitsBits 16 h.major && fitsBits 32 h.sent &&
  fitsBits 32 h.received && fitsBits 64 h.time && fitsInt 64 h.webPos && fitsInt 64 h.hwm &&
  decide (h.fired.length = 6) && h.fired.all (fitsBits 32) && fitsBits 32 h.faults && fitsBits 32 h.health &&
  fitsBits 8 h.priority && fitsBits 48 h.mac && decide (h.serial.length ≤ 16)

/-- The parts of a mirror frame fit the fields of what they mirror. -/
def MirrorMsg.fits (m : MirrorMsg) : Bool :=
  match m with
  | .write e => e.fits
  | .resource g n _ => if g then decide (n < 32) else decide (n < 1024)
  | .record d => decide (d.length ≤ 16384)
  | .binding _ x t _ q _ => fitsInt 64 x && fitsBits 64 t && fitsBits 32 q
  | .ledger d => d.length = 56
  | .values l => l.all (fun p => fitsBits 24 p.1)
  | .mapEntry _ c e => fitsBits 16 c && fitsBits 32 e
  | .reject _ l c b => fitsBits 32 l && fitsBits 8 c && fitsBits 4 b
  | .status _ st => st.fits
  | .loop _ e y o => decide (e.length = 3) && decide (y.length = 3) && e.all (fitsInt 32) && y.all (fitsInt 32) &&
    fitsInt 32 o
  | .axis _ u v w r q => fitsBits 32 u && fitsBits 32 v && fitsBits 32 w && fitsInt 64 r && fitsInt 32 q

/-- The attributes of a declared object fit the fields of R161 and SC_REQ. -/
def DeclareMsg.fits (d : DeclareMsg) : Bool :=
  fitsBits 16 d.idx && fitsBits 8 d.sub && fitsBits 8 d.ty && fitsBits 16 d.len && fitsBits 8 d.frac &&
  fitsBits 8 d.rd && fitsBits 8 d.wr && decide (d.lo.length + d.hi.length + d.dflt.length ≤ 128) &&
  decide (d.name.length ≤ 64) && decide (d.unit.length ≤ 32)

/-- Every operand of a command fits the field that carries it. -/
def Instr.wf (i : Instr) : Bool :=
  match i with
  | .encoderEdge _ _ _ _ => true
  | .zEdge _ _ _ => true
  | .encoderLineFault _ _ _ => true
  | .encoderLineFaultClear _ _ _ => true
  | .edgeOverdue _ => true
  | .coastLimitExceeded _ => true
  | .lineTick _ _ _ => true
  | .triggerEdge _ _ _ => true
  | .lubberMark _ _ _ => true
  | .markMissing _ _ q => fitsBits 32 q
  | .cameraTrigger _ _ q => fitsBits 32 q
  | .barCameraTrigger _ _ _ => true
  | .camPulseEnd _ _ => true
  | .rejectDecision _ _ q => fitsBits 32 q
  | .rejPulseEnd _ _ => true
  | .speedAdvHoldExpiry _ => true
  | .dataLateReasonExpiry _ => true
  | .pllLockAcquired _ _ => true
  | .pllGlideDone _ _ => true
  | .pllLockLoss _ _ => true
  | .clockRangeFault _ _ => true
  | .crystalFault _ _ => true
  | .netLinkDown _ _ _ => true
  | .netLinkUp _ _ => true
  | .sfpModuleInserted _ _ ident => decide (ident.length ≤ 32)
  | .sfpModuleRemoved _ _ => true
  | .pauseFrame _ _ => true
  | .ptpEventMessage _ _ _ domain seqId _ _ _ => fitsBits 8 domain && fitsBits 16 seqId
  | .ptpSyncTimeout _ _ => true
  | .klpPacket _ _ addr data => fitsBits 128 addr && decide (data.length ≤ 9022)
  | .retransmitTimeout _ _ seq => fitsBits 32 seq
  | .ackDue _ _ => true
  | .creditUpdateDue _ _ => true
  | .keepaliveDue _ _ => true
  | .sessionTimeout _ _ => true
  | .nop _ _ _ addr epoch ack sack limit cls =>
    fitsBits 128 addr && fitsBits 8 epoch && fitsBits 32 ack && fitsBits 64 sack && fitsBits 32 limit && fitsBits 2 cls
  | .open _ _ addr o => fitsBits 128 addr && o.fits
  | .close _ _ req => fitsBits 32 req
  | .read _ _ req objs =>
    fitsBits 32 req && objs.all objFits && decide (objs.length < 256)
  | .write _ _ req e => fitsBits 32 req && e.fits
  | .batch _ _ req es =>
    fitsBits 32 req && es.all WEntry.fits && decide (es.length < 256)
  | .itemPut _ _ data => decide (data.length ≤ 65536)
  | .bulkOpen _ _ req window dir kind target length crc =>
    fitsBits 32 req && fitsBits 8 window && fitsBits 8 dir && fitsBits 16 kind && fitsBits 32 target && fitsBits 64 length && fitsBits 32 crc
  | .bulkWrite _ _ window offset data =>
    fitsBits 8 window && fitsBits 64 offset && decide (data.length ≤ 16384)
  | .bulkCommit _ _ req window => fitsBits 32 req && fitsBits 8 window
  | .bulkAbort _ _ req window => fitsBits 32 req && fitsBits 8 window
  | .bulkDataSend _ _ _ => true
  | .subscribeEvents _ _ req mask => fitsBits 32 req && fitsBits 256 mask
  | .subscribeCyclic _ _ req slot periodUs objs =>
    fitsBits 32 req && fitsBits 8 slot && fitsBits 32 periodUs && objs.all objFits && decide (objs.length < 256)
  | .eventSend _ _ => true
  | .cyclicPeriod _ _ _ => true
  | .authLockoutExpiry _ addr => fitsBits 128 addr
  | .pendingValueApplied _ idx sub => fitsBits 16 idx && fitsBits 8 sub
  | .changeLogFlush _ => true
  | .changeLogFlushDone _ => true
  | .changeLogRelease _ _ req n => fitsBits 32 req && fitsBits 64 n
  | .selfRole _ _ req role => fitsBits 32 req && fitsBits 8 role
  | .resetRequest _ _ req _ => fitsBits 32 req
  | .resetDeadline _ => true
  | .laneFlush _ _ req _ _ => fitsBits 32 req
  | .nextRecordSet _ _ req _ n => fitsBits 32 req && fitsBits 32 n
  | .ledgerReset _ _ req _ _ => fitsBits 32 req
  | .verdictTimeout _ q => fitsBits 32 q
  | .mouldDelete _ _ req n => fitsBits 32 req && fitsBits 16 n
  | .glyphSetDelete _ _ req n => fitsBits 32 req && fitsBits 8 n
  | .counterValueWrite _ _ req _ n => fitsBits 32 req && fitsBits 64 n
  | .symbolEncoded _ _ => true
  | .lineCouched _ _ _ => true
  | .lookAheadMinClear _ _ req _ _ => fitsBits 32 req
  | .codecDoorbell _ _ _ v => fitsBits 32 v
  | .codecQueueEnable _ _ _ _ => true
  | .codecAbort _ _ _ _ => true
  | .codecJobEnd _ _ _ item _ susp _ => fitsBits 32 item && fitsBits 32 susp
  | .codecBusTimeout _ _ _ => true
  | .codecCountsReset _ _ req _ _ => fitsBits 32 req
  | .couchInitDone _ => true
  | .couchScrubWriteback _ offset requester => fitsBits 25 offset && fitsBits 8 requester
  | .dramTrainingDone _ _ _ => true
  | .dramRetrain _ => true
  | .dramRefresh _ postponed => decide (postponed ≤ 8)
  | .mr4Poll _ codes => codes.all (fitsBits 5)
  | .patrolScrub _ _ _ => true
  | .dramFrozen _ f => f.fits
  | .freezeClear _ _ req _ => fitsBits 32 req
  | .dmaStart _ _ => true
  | .dmaResume _ _ => true
  | .dmaStopRequest _ _ => true
  | .dmaStatusRead _ _ _ cur bytes total descs =>
    fitsBits 64 cur && fitsBits 64 bytes && fitsBits 64 total && fitsBits 32 descs
  | .dmaChainEnd _ _ _ _ => true
  | .dmaBusTimeout _ _ addr => fitsBits 64 addr
  | .dmaDrainEnd _ done => decide (done.length ≤ 16)
  | .busErrorClear _ _ req _ => fitsBits 32 req
  | .dmaCountsReset _ _ req _ _ => fitsBits 32 req
  | .registerWrite _ r => r.fits
  | .backStatus _ _ st => st.fits
  | .backReject _ _ line cause blocks =>
    fitsBits 32 line && fitsBits 8 cause && fitsBits 8 blocks
  | .backIdentity _ _ offset data => fitsBits 16 offset && decide (data.length < 65536)
  | .backAck _ _ seq _ => fitsBits 32 seq
  | .backFrameBad _ _ => true
  | .backChannelSilent _ _ => true
  | .identifyTimeout _ _ => true
  | .loadWriteTimeout _ _ => true
  | .gateClosed _ _ => true
  | .gateOpened _ _ => true
  | .waveSlotWrite _ _ req _ data => fitsBits 32 req && decide (data.length ≤ 128)
  | .dropCountAccumulate _ _ => true
  | .dropCheckpoint _ _ => true
  | .dropCountsReset _ _ req _ _ => fitsBits 32 req
  | .inspectionComplete _ _ frame f => fitsBits 32 frame && f.fits
  | .barEvaluated _ _ frame ds => fitsBits 32 frame && ds.all DashFinding.fits
  | .stagingComplete _ _ => true
  | .mapSaved _ _ => true
  | .mapEntryWrite _ _ req n => fitsBits 32 req && fitsBits 64 n
  | .mapResetLearned _ _ req n => fitsBits 32 req && fitsBits 8 n
  | .csiFrameStart _ _ vc num _ => fitsBits 2 vc && fitsBits 16 num
  | .csiLongPacket _ _ vc dt data _ _ _ =>
    fitsBits 2 vc && fitsBits 6 dt && decide (data.length < 65536)
  | .csiFrameEnd _ _ vc _ => fitsBits 2 vc
  | .frameForcedEnd _ _ => true
  | .camTriggerLost _ _ => true
  | .settingsSetArmed _ _ => true
  | .sensorWindowTimeout _ _ => true
  | .i2cNack _ _ => true
  | .i2cStretchTimeout _ _ => true
  | .i2cReadReg _ _ req _ reg answer =>
    fitsBits 32 req && fitsBits 16 reg && fitsBits 16 answer
  | .camResetRelease _ _ => true
  | .bdEdge _ _ _ _ => true
  | .bdTimeout _ _ => true
  | .laserIlkLow _ _ => true
  | .beamCountsReset _ _ req _ _ => fitsBits 32 req
  | .pwmPeriodBoundary _ _ iu iv iw bus =>
    fitsInt 32 iu && fitsInt 32 iv && fitsInt 32 iw && fitsBits 12 bus
  | .focStep _ _ e => e.fits
  | .driverFault _ _ => true
  | .sensingComplete _ _ _ e => e.fits
  | .keAbnormal _ _ => true
  | .brakeHoldDone _ _ => true
  | .brakeTimeout _ _ => true
  | .startTimeout _ _ => true
  | .recatchDelayExpiry _ _ => true
  | .axisEnable _ _ req _ _ => fitsBits 32 req
  | .loopSampleTick _ _ pvCode spCode _ latency wait =>
    fitsBits 12 pvCode && fitsBits 12 spCode && fitsBits 32 latency && fitsBits 32 wait
  | .loopEnable _ _ req _ _ => fitsBits 32 req
  | .slowAdcRound _ ain ts _ =>
    ain.all (fun p => decide (p.1 < 32) && fitsBits 12 p.2) && ts.all (fun p => decide (p.1 < 16))
  | .fastAdcRound _ ts _ => ts.all (fun p => decide (p.1 < 16))
  | .tdSample _ _ temp _ => fitsInt 16 temp
  | .pulseInEdge _ _ _ => true
  | .pulseTimeout _ _ => true
  | .metPdEdge _ _ => true
  | .weighingWindowEnd _ _ _ _ _ _ => true
  | .sealedRecord _ data => decide (data.length ≤ 65536)
  | .sealOpened _ => true
  | .sealClosed _ => true
  | .zeroRequest _ _ req _ => fitsBits 32 req
  | .zeroTracking _ _ _ => true
  | .islandBootComplete _ _ _ => true
  | .modulatorSilent _ _ => true
  | .islandWatchdog _ => true
  | .wakeOnRequest _ mv => fitsBits 32 mv
  | .wakeOffRequest _ => true
  | .powerOffRequest _ _ req _ => fitsBits 32 req
  | .seqEnableDelayExpiry _ _ => true
  | .seqChannelSettled _ _ mv => fitsBits 16 mv
  | .seqUpTimeout _ _ => true
  | .seqDisableDelayExpiry _ _ => true
  | .seqChannelDown _ _ mv => fitsBits 16 mv
  | .seqDownTimeout _ => true
  | .seqWindowLost _ _ mv main => fitsBits 16 mv && fitsBits 32 main
  | .seqFaultClear _ _ req _ => fitsBits 32 req
  | .minOffTimeExpiry _ mv => fitsBits 32 mv
  | .marginRampStep _ _ => true
  | .supplyWarning _ mv => fitsBits 32 mv
  | .powerStop _ mv => fitsBits 32 mv
  | .supplyWarningCleared _ mv => fitsBits 32 mv
  | .mainSupplyPowerOn _ mv _ => fitsBits 32 mv
  | .journalProgram _ => true
  | .stateCheckpoint _ => true
  | .holdupJournalProgrammed _ => true
  | .holdupBodyProgrammed _ => true
  | .holdupStopProgrammed _ => true
  | .holdupSectorErased _ => true
  | .faultSourceActive _ _ _ => true
  | .faultSourceInactive _ _ => true
  | .faultNPulseEnd _ => true
  | .faultClear _ _ req n => fitsBits 32 req && fitsBits 16 n
  | .faultInject _ _ req n _ => fitsBits 32 req && fitsBits 16 n
  | .faultSelfTestTurn _ _ => true
  | .actionWrite _ _ req n => fitsBits 32 req && fitsBits 32 n
  | .collectorSelfFault _ => true
  | .groupRecovered _ _ => true
  | .recoveryCountReset _ _ req _ _ => fitsBits 32 req
  | .safeStateExit _ _ req _ => fitsBits 32 req
  | .heartbeatSend _ => true
  | .heartbeatReceived _ h => h.fits
  | .mirrorFrameReceived _ m lag => m.fits && fitsBits 32 lag
  | .relinquishReceived _ h => h.fits
  | .partnerLossTimeout _ => true
  | .takeoverComplete _ => true
  | .pairFenceInLow _ => true
  | .pairFenceInHigh _ => true
  | .pairSeekTimeout _ => true
  | .syncComplete _ => true
  | .pairSwitchoverRequest _ _ req _ => fitsBits 32 req
  | .watchdogExpiry _ _ => true
  | .firmwareImageWritten _ _ => true
  | .updateConfirm _ _ req _ => fitsBits 32 req
  | .autoConfirmExpiry _ => true
  | .updateActivate _ _ req _ => fitsBits 32 req
  | .integRun _ _ req _ => fitsBits 32 req
  | .odRead _ req objs =>
    fitsBits 32 req && objs.all objFits && decide (objs.length ≤ 61)
  | .odWrite _ req e =>
    fitsBits 32 req && e.fits && decide (e.val.length ≤ 240)
  | .declare _ req d => fitsBits 32 req && d.fits
  | .eventPush _ req code data =>
    fitsBits 32 req && fitsBits 16 code && decide (data.length ≤ 240)
  | .scRespRead _ => true
  | .serveDoorbell _ resp => decide (resp.length ≤ 256)
  | .serveTimeout _ => true
  | .wdtKick _ v => fitsBits 32 v
  | .integWatchdogExpiry _ => true
  | .integRestartDelayExpiry _ => true
  | .integTimerInterrupt _ => true
  | .flashProgramComplete _ => true
  | .integImageLoaded _ => true
  | .pdMetroSupplyFault _ => true
  | .mirrorLaneLockLost _ _ => true
  | .mirrorLaneLockRegained _ _ => true
  | .triggerCounterpartTimeout _ => true
  | .supplyGlitch _ => true
  | .mainInputQualified _ mv => fitsBits 32 mv
  | .holdUpExhausted _ => true
  | .netrefFault _ _ => true
  | .ptpGeneralMessage _ _ msg => msg.fits

end Sys2Proof
end

