-- ==== Sys2Proof/Tests/Slice0.lean ====
section
/-! SUPPORT. Tests: ill-formed commands that the check refuses, small commands checked against the spec's own examples
and tables, and, for each statement with hypotheses, states and operands that meet them. -/

namespace Sys2Proof.Tests

open Sys2Proof.Machine

/-- A well-formed OPEN payload. -/
def okOpen : OpenReq := ⟨1, 1, 255, 0, 1400, false, 0, 0, 0, 0, 0, []⟩
/-- A well-formed write entry. -/
def okEntry : WEntry := ⟨0x1000, 1, []⟩
/-- A well-formed STATUS. -/
def okStatus : HeadStatus := ⟨0, 0, 0, 0, 0, 0, 0, 0⟩
/-- A well-formed finding. -/
def okFinding : ItemFinding := ⟨true, 0, 0, 0, 0, [], 0, []⟩
/-- A well-formed freeze record. -/
def okFreeze : FreezeInfo := ⟨0, 0, 0, 0, 0, 0, 0, 0⟩
/-- A well-formed heartbeat. -/
def okBeat : Heartbeat := ⟨0, 0, 0, 0, 0, 0, 0, 0, [0, 0, 0, 0, 0, 0], 0, 0, 0, 0, []⟩
/-- A well-formed declaration. -/
def okDeclare : DeclareMsg := ⟨0x8000, 1, 1, 1, 0, 0, 0, [], [], [], [], []⟩

/-- Ill-formed operands of markMissing to batch are refused by the check, one for each field. -/
theorem test_ill_formed_1 : ([.markMissing 0 0 (2 ^ 32),
    .cameraTrigger 0 0 (2 ^ 32),
    .rejectDecision 0 0 (2 ^ 32),
    .sfpModuleInserted 0 0 (List.replicate 33 0),
    .ptpEventMessage 0 0 .syncOneStep (2 ^ 8) 0 0 0 0,
    .ptpEventMessage 0 0 .syncOneStep 0 (2 ^ 16) 0 0 0,
    .klpPacket 0 0 (2 ^ 128) [],
    .klpPacket 0 0 0 (List.replicate 9023 0),
    .retransmitTimeout 0 0 (2 ^ 32),
    .nop 0 0 0 (2 ^ 128) 0 0 0 0 0,
    .nop 0 0 0 0 (2 ^ 8) 0 0 0 0,
    .nop 0 0 0 0 0 (2 ^ 32) 0 0 0,
    .nop 0 0 0 0 0 0 (2 ^ 64) 0 0,
    .nop 0 0 0 0 0 0 0 (2 ^ 32) 0,
    .nop 0 0 0 0 0 0 0 0 (2 ^ 2),
    .open 0 0 (2 ^ 128) okOpen,
    .open 0 0 0 ({ okOpen with nonce := 2 ^ 32 }),
    .open 0 0 0 ({ okOpen with credential := List.replicate 1025 0 }),
    .close 0 0 (2 ^ 32),
    .read 0 0 (2 ^ 32) [],
    .read 0 0 0 [(65536, 0)],
    .read 0 0 0 [(0, 256)],
    .read 0 0 0 (List.replicate 256 (0, 0)),
    .write 0 0 (2 ^ 32) okEntry,
    .write 0 0 0 ⟨0, 0, List.replicate 65536 0⟩,
    .write 0 0 0 ⟨65536, 0, []⟩,
    .write 0 0 0 ⟨0, 256, []⟩,
    .batch 0 0 (2 ^ 32) [],
    .batch 0 0 0 [⟨0, 256, []⟩],
    .batch 0 0 0 (List.replicate 256 okEntry)] : List Instr).all (fun i => !i.wf) = true := by decide +kernel

/-- Ill-formed operands of itemPut to selfRole are refused by the check, one for each field. -/
theorem test_ill_formed_2 : ([.itemPut 0 0 (List.replicate 65537 0),
    .bulkOpen 0 0 (2 ^ 32) 0 0 0 0 0 0,
    .bulkOpen 0 0 0 (2 ^ 8) 0 0 0 0 0,
    .bulkOpen 0 0 0 0 (2 ^ 8) 0 0 0 0,
    .bulkOpen 0 0 0 0 0 (2 ^ 16) 0 0 0,
    .bulkOpen 0 0 0 0 0 0 (2 ^ 32) 0 0,
    .bulkOpen 0 0 0 0 0 0 0 (2 ^ 64) 0,
    .bulkOpen 0 0 0 0 0 0 0 0 (2 ^ 32),
    .bulkWrite 0 0 (2 ^ 8) 0 [],
    .bulkWrite 0 0 0 (2 ^ 64) [],
    .bulkWrite 0 0 0 0 (List.replicate 16385 0),
    .bulkCommit 0 0 (2 ^ 32) 0,
    .bulkCommit 0 0 0 (2 ^ 8),
    .bulkAbort 0 0 (2 ^ 32) 0,
    .bulkAbort 0 0 0 (2 ^ 8),
    .subscribeEvents 0 0 (2 ^ 32) 0,
    .subscribeEvents 0 0 0 (2 ^ 256),
    .subscribeCyclic 0 0 (2 ^ 32) 0 0 [],
    .subscribeCyclic 0 0 0 (2 ^ 8) 0 [],
    .subscribeCyclic 0 0 0 0 (2 ^ 32) [],
    .subscribeCyclic 0 0 0 0 0 [(65536, 0)],
    .subscribeCyclic 0 0 0 0 0 [(0, 256)],
    .subscribeCyclic 0 0 0 0 0 (List.replicate 256 (0, 0)),
    .authLockoutExpiry 0 (2 ^ 128),
    .pendingValueApplied 0 (2 ^ 16) 0,
    .pendingValueApplied 0 0 (2 ^ 8),
    .changeLogRelease 0 0 (2 ^ 32) 0,
    .changeLogRelease 0 0 0 (2 ^ 64),
    .selfRole 0 0 (2 ^ 32) 0,
    .selfRole 0 0 0 (2 ^ 8)] : List Instr).all (fun i => !i.wf) = true := by decide +kernel

/-- Ill-formed operands of resetRequest to dmaDrainEnd are refused by the check, one for each field. -/
theorem test_ill_formed_3 : ([.resetRequest 0 0 (2 ^ 32) true,
    .laneFlush 0 0 (2 ^ 32) 0 true,
    .nextRecordSet 0 0 (2 ^ 32) 0 0,
    .nextRecordSet 0 0 0 0 (2 ^ 32),
    .ledgerReset 0 0 (2 ^ 32) 0 true,
    .verdictTimeout 0 (2 ^ 32),
    .mouldDelete 0 0 (2 ^ 32) 0,
    .mouldDelete 0 0 0 (2 ^ 16),
    .glyphSetDelete 0 0 (2 ^ 32) 0,
    .glyphSetDelete 0 0 0 (2 ^ 8),
    .counterValueWrite 0 0 (2 ^ 32) 0 0,
    .counterValueWrite 0 0 0 0 (2 ^ 64),
    .lookAheadMinClear 0 0 (2 ^ 32) 0 true,
    .codecDoorbell 0 0 0 (2 ^ 32),
    .codecJobEnd 0 0 0 (2 ^ 32) 0 0 none,
    .codecJobEnd 0 0 0 0 0 (2 ^ 32) none,
    .codecCountsReset 0 0 (2 ^ 32) 0 true,
    .couchScrubWriteback 0 (2 ^ 25) 0,
    .couchScrubWriteback 0 0 (2 ^ 8),
    .dramRefresh 0 9,
    .mr4Poll 0 [32],
    .dramFrozen 0 ({ okFreeze with channel := 2 }),
    .dramFrozen 0 ({ okFreeze with bank := 16 }),
    .freezeClear 0 0 (2 ^ 32) true,
    .dmaStatusRead 0 0 0 (2 ^ 64) 0 0 0,
    .dmaStatusRead 0 0 0 0 (2 ^ 64) 0 0,
    .dmaStatusRead 0 0 0 0 0 (2 ^ 64) 0,
    .dmaStatusRead 0 0 0 0 0 0 (2 ^ 32),
    .dmaBusTimeout 0 0 (2 ^ 64),
    .dmaDrainEnd 0 (List.replicate 17 0)] : List Instr).all (fun i => !i.wf) = true := by decide +kernel

/-- Ill-formed operands of busErrorClear to csiLongPacket are refused by the check, one for each field. -/
theorem test_ill_formed_4 : ([.busErrorClear 0 0 (2 ^ 32) true,
    .dmaCountsReset 0 0 (2 ^ 32) 0 true,
    .registerWrite 0 (.dma 0 256 0),
    .registerWrite 0 (.codec 0 0 0 (2 ^ 64)),
    .registerWrite 0 (.timerCmp (2 ^ 64)),
    .backStatus 0 0 ({ okStatus with headBoot := 65536 }),
    .backStatus 0 0 ({ okStatus with temperature := -32769 }),
    .backReject 0 0 (2 ^ 32) 0 0,
    .backReject 0 0 0 (2 ^ 8) 0,
    .backReject 0 0 0 0 (2 ^ 8),
    .backIdentity 0 0 (2 ^ 16) [],
    .backIdentity 0 0 0 (List.replicate 65536 0),
    .backAck 0 0 (2 ^ 32) true,
    .waveSlotWrite 0 0 (2 ^ 32) 0 [],
    .waveSlotWrite 0 0 0 0 (List.replicate 129 0),
    .dropCountsReset 0 0 (2 ^ 32) 0 true,
    .inspectionComplete 0 0 (2 ^ 32) okFinding,
    .inspectionComplete 0 0 0 ({ okFinding with score := 101 }),
    .inspectionComplete 0 0 0 ({ okFinding with rot := 2 ^ 15 }),
    .barEvaluated 0 0 (2 ^ 32) [],
    .barEvaluated 0 0 0 [⟨49152, 0, 0, 0⟩],
    .mapEntryWrite 0 0 (2 ^ 32) 0,
    .mapEntryWrite 0 0 0 (2 ^ 64),
    .mapResetLearned 0 0 (2 ^ 32) 0,
    .mapResetLearned 0 0 0 (2 ^ 8),
    .csiFrameStart 0 0 (2 ^ 2) 0 0,
    .csiFrameStart 0 0 0 (2 ^ 16) 0,
    .csiLongPacket 0 0 (2 ^ 2) 0 [] 0 true true,
    .csiLongPacket 0 0 0 (2 ^ 6) [] 0 true true,
    .csiLongPacket 0 0 0 0 (List.replicate 65536 0) 0 true true] : List Instr).all (fun i => !i.wf) = true := by decide +kernel

/-- Ill-formed operands of csiFrameEnd to powerOffRequest are refused by the check, one for each field. -/
theorem test_ill_formed_5 : ([.csiFrameEnd 0 0 (2 ^ 2) 0,
    .i2cReadReg 0 0 (2 ^ 32) 0 0 0,
    .i2cReadReg 0 0 0 0 (2 ^ 16) 0,
    .i2cReadReg 0 0 0 0 0 (2 ^ 16),
    .beamCountsReset 0 0 (2 ^ 32) 0 true,
    .pwmPeriodBoundary 0 0 (2 ^ 31) 0 0 0,
    .pwmPeriodBoundary 0 0 0 (2 ^ 31) 0 0,
    .pwmPeriodBoundary 0 0 0 0 (2 ^ 31) 0,
    .pwmPeriodBoundary 0 0 0 0 0 (2 ^ 12),
    .focStep 0 0 ⟨65536, 0, 0, 0⟩,
    .focStep 0 0 ⟨0, 2 ^ 31, 0, 0⟩,
    .focStep 0 0 ⟨0, 0, 256, 0⟩,
    .sensingComplete 0 0 true ⟨65536, 0, 0, 0⟩,
    .sensingComplete 0 0 true ⟨0, 2 ^ 31, 0, 0⟩,
    .sensingComplete 0 0 true ⟨0, 0, 256, 0⟩,
    .axisEnable 0 0 (2 ^ 32) 0 true,
    .loopSampleTick 0 0 (2 ^ 12) 0 true 0 0,
    .loopSampleTick 0 0 0 (2 ^ 12) true 0 0,
    .loopSampleTick 0 0 0 0 true (2 ^ 32) 0,
    .loopSampleTick 0 0 0 0 true 0 (2 ^ 32),
    .loopEnable 0 0 (2 ^ 32) 0 true,
    .slowAdcRound 0 [(32, 0)] [] true,
    .slowAdcRound 0 [(0, 4096)] [] true,
    .slowAdcRound 0 [] [(16, ⟨0, 0⟩)] true,
    .fastAdcRound 0 [(16, ⟨0, 0⟩)] true,
    .tdSample 0 0 (2 ^ 15) true,
    .sealedRecord 0 (List.replicate 65537 0),
    .zeroRequest 0 0 (2 ^ 32) true,
    .wakeOnRequest 0 (2 ^ 32),
    .powerOffRequest 0 0 (2 ^ 32) true] : List Instr).all (fun i => !i.wf) = true := by decide +kernel

/-- Ill-formed operands of seqChannelSettled to mirrorFrameReceived are refused by the check, one for each field. -/
theorem test_ill_formed_6 : ([.seqChannelSettled 0 0 (2 ^ 16),
    .seqChannelDown 0 0 (2 ^ 16),
    .seqWindowLost 0 0 (2 ^ 16) 0,
    .seqWindowLost 0 0 0 (2 ^ 32),
    .seqFaultClear 0 0 (2 ^ 32) true,
    .minOffTimeExpiry 0 (2 ^ 32),
    .supplyWarning 0 (2 ^ 32),
    .powerStop 0 (2 ^ 32),
    .supplyWarningCleared 0 (2 ^ 32),
    .mainSupplyPowerOn 0 (2 ^ 32) true,
    .faultClear 0 0 (2 ^ 32) 0,
    .faultClear 0 0 0 (2 ^ 16),
    .faultInject 0 0 (2 ^ 32) 0 true,
    .faultInject 0 0 0 (2 ^ 16) true,
    .actionWrite 0 0 (2 ^ 32) 0,
    .actionWrite 0 0 0 (2 ^ 32),
    .recoveryCountReset 0 0 (2 ^ 32) 0 true,
    .safeStateExit 0 0 (2 ^ 32) true,
    .heartbeatReceived 0 ({ okBeat with state := 8 }),
    .heartbeatReceived 0 ({ okBeat with fired := [] }),
    .heartbeatReceived 0 ({ okBeat with mac := 2 ^ 48 }),
    .mirrorFrameReceived 0 (.resource true 32 []) 0,
    .mirrorFrameReceived 0 (.record (List.replicate 16385 0)) 0,
    .mirrorFrameReceived 0 (.ledger []) 0,
    .mirrorFrameReceived 0 (.mapEntry 0 65536 0) 0,
    .mirrorFrameReceived 0 (.reject 0 0 256 0) 0,
    .mirrorFrameReceived 0 (.loop 0 [] [] 0) 0,
    .mirrorFrameReceived 0 (.values [(2 ^ 24, 0)]) 0,
    .mirrorFrameReceived 0 (.write ⟨65536, 0, []⟩) 0,
    .mirrorFrameReceived 0 (.status 0 { okStatus with flags := 256 }) 0,
    .mirrorFrameReceived 0 (.axis 0 (2 ^ 32) 0 0 0 0) 0,
    .mirrorFrameReceived 0 (.binding 0 (2 ^ 63) 0 false 0 none) 0,
    .mirrorFrameReceived 0 (.values []) (2 ^ 32)] : List Instr).all (fun i => !i.wf) = true := by decide +kernel

/-- Ill-formed operands of relinquishReceived to ptpGeneralMessage are refused by the check, one for each field. -/
theorem test_ill_formed_7 : ([.relinquishReceived 0 ({ okBeat with state := 8 }),
    .relinquishReceived 0 ({ okBeat with fired := [] }),
    .relinquishReceived 0 ({ okBeat with mac := 2 ^ 48 }),
    .pairSwitchoverRequest 0 0 (2 ^ 32) true,
    .updateConfirm 0 0 (2 ^ 32) true,
    .updateActivate 0 0 (2 ^ 32) true,
    .integRun 0 0 (2 ^ 32) true,
    .odRead 0 (2 ^ 32) [],
    .odRead 0 0 [(65536, 0)],
    .odRead 0 0 [(0, 256)],
    .odRead 0 0 (List.replicate 62 (0, 0)),
    .odWrite 0 (2 ^ 32) okEntry,
    .odWrite 0 0 ⟨0, 0, List.replicate 65536 0⟩,
    .odWrite 0 0 ⟨65536, 0, []⟩,
    .odWrite 0 0 ⟨0, 256, []⟩,
    .odWrite 0 0 ⟨0, 0, List.replicate 241 0⟩,
    .declare 0 (2 ^ 32) okDeclare,
    .declare 0 0 ({ okDeclare with idx := 65536 }),
    .declare 0 0 ({ okDeclare with name := List.replicate 65 0 }),
    .eventPush 0 (2 ^ 32) 0 [],
    .eventPush 0 0 (2 ^ 16) [],
    .eventPush 0 0 0 (List.replicate 241 0),
    .serveDoorbell 0 (List.replicate 257 0),
    .wdtKick 0 (2 ^ 32),
    .mainInputQualified 0 (2 ^ 32),
    .ptpGeneralMessage 0 0 (.followUp 256 0 0 0),
    .ptpGeneralMessage 0 0 (.announce ⟨256, 0, 0, 0, 0, 0, 0, 0, 0⟩)] : List Instr).all (fun i => !i.wf) = true := by decide +kernel

/-- The same commands with operands in range are well formed. -/
theorem test_well_formed : ([.markMissing 0 0 0,
    .cameraTrigger 0 0 0,
    .rejectDecision 0 0 0,
    .sfpModuleInserted 0 0 [],
    .ptpEventMessage 0 0 .syncOneStep 0 0 0 0 0,
    .klpPacket 0 0 0 [],
    .retransmitTimeout 0 0 0,
    .nop 0 0 0 0 0 0 0 0 0,
    .open 0 0 0 okOpen,
    .close 0 0 0,
    .read 0 0 0 [],
    .write 0 0 0 okEntry,
    .batch 0 0 0 [],
    .itemPut 0 0 [],
    .bulkOpen 0 0 0 0 0 0 0 0 0,
    .bulkWrite 0 0 0 0 [],
    .bulkCommit 0 0 0 0,
    .bulkAbort 0 0 0 0,
    .subscribeEvents 0 0 0 0,
    .subscribeCyclic 0 0 0 0 0 [],
    .authLockoutExpiry 0 0,
    .pendingValueApplied 0 0 0,
    .changeLogRelease 0 0 0 0,
    .selfRole 0 0 0 0,
    .resetRequest 0 0 0 true,
    .laneFlush 0 0 0 0 true,
    .nextRecordSet 0 0 0 0 0,
    .ledgerReset 0 0 0 0 true,
    .verdictTimeout 0 0,
    .mouldDelete 0 0 0 0,
    .glyphSetDelete 0 0 0 0,
    .counterValueWrite 0 0 0 0 0,
    .lookAheadMinClear 0 0 0 0 true,
    .codecDoorbell 0 0 0 0,
    .codecJobEnd 0 0 0 0 0 0 none,
    .codecCountsReset 0 0 0 0 true,
    .couchScrubWriteback 0 0 0,
    .dramRefresh 0 0,
    .mr4Poll 0 [],
    .dramFrozen 0 okFreeze,
    .freezeClear 0 0 0 true,
    .dmaStatusRead 0 0 0 0 0 0 0,
    .dmaBusTimeout 0 0 0,
    .dmaDrainEnd 0 [],
    .busErrorClear 0 0 0 true,
    .dmaCountsReset 0 0 0 0 true,
    .registerWrite 0 (.timerCmp 0),
    .backStatus 0 0 okStatus,
    .backReject 0 0 0 0 0,
    .backIdentity 0 0 0 [],
    .backAck 0 0 0 true,
    .waveSlotWrite 0 0 0 0 [],
    .dropCountsReset 0 0 0 0 true,
    .inspectionComplete 0 0 0 okFinding,
    .barEvaluated 0 0 0 [],
    .mapEntryWrite 0 0 0 0,
    .mapResetLearned 0 0 0 0,
    .csiFrameStart 0 0 0 0 0,
    .csiLongPacket 0 0 0 0 [] 0 true true,
    .csiFrameEnd 0 0 0 0,
    .i2cReadReg 0 0 0 0 0 0,
    .beamCountsReset 0 0 0 0 true,
    .pwmPeriodBoundary 0 0 0 0 0 0,
    .focStep 0 0 ⟨0, 0, 0, 0⟩,
    .sensingComplete 0 0 true ⟨0, 0, 0, 0⟩,
    .axisEnable 0 0 0 0 true,
    .loopSampleTick 0 0 0 0 true 0 0,
    .loopEnable 0 0 0 0 true,
    .slowAdcRound 0 [] [] true,
    .fastAdcRound 0 [] true,
    .tdSample 0 0 0 true,
    .sealedRecord 0 [],
    .zeroRequest 0 0 0 true,
    .wakeOnRequest 0 0,
    .powerOffRequest 0 0 0 true,
    .seqChannelSettled 0 0 0,
    .seqChannelDown 0 0 0,
    .seqWindowLost 0 0 0 0,
    .seqFaultClear 0 0 0 true,
    .minOffTimeExpiry 0 0,
    .supplyWarning 0 0,
    .powerStop 0 0,
    .supplyWarningCleared 0 0,
    .mainSupplyPowerOn 0 0 true,
    .faultClear 0 0 0 0,
    .faultInject 0 0 0 0 true,
    .actionWrite 0 0 0 0,
    .recoveryCountReset 0 0 0 0 true,
    .safeStateExit 0 0 0 true,
    .heartbeatReceived 0 okBeat,
    .relinquishReceived 0 okBeat,
    .pairSwitchoverRequest 0 0 0 true,
    .updateConfirm 0 0 0 true,
    .updateActivate 0 0 0 true,
    .integRun 0 0 0 true,
    .odRead 0 0 [],
    .odWrite 0 0 okEntry,
    .declare 0 0 okDeclare,
    .eventPush 0 0 0 [],
    .serveDoorbell 0 [],
    .wdtKick 0 0,
    .mainInputQualified 0 0,
    .ptpGeneralMessage 0 0 (.followUp 0 0 0 0)] : List Instr).all Instr.wf = true := by decide +kernel

end Sys2Proof.Tests
end

namespace Sys2Proof.Machine

/-! ### The role chain (R8) -/

/-- Among OBS to VND a role has the rights of those at or below it. -/
theorem roleHolds_of_chain {held need : Nat} (hh : held ≤ 4) (hn : need ≤ 4) :
    roleHolds held need = decide (need ≤ held) := by
  have h255 : ¬ (need = 255 ∨ held = 255) := by omega
  have hn5 : need ≠ 5 := by omega
  have hh5 : held ≠ 5 := by omega
  simp [roleHolds, h255, hn5, hh5, hh]

/-- Settles O22: on the five roles of the chain `roleHolds` is the order of their numbers. -/
theorem roleChain : Obligations.RoleChain := by
  intro held need
  rw [roleHolds_of_chain (Nat.le_of_lt_succ held.isLt) (Nat.le_of_lt_succ need.isLt), decide_eq_true_iff]

/-! ### Serial arithmetic (R760) -/

theorem serialGt_iff (n a b : Nat) :
    serialGt n a b = true ↔ 1 ≤ serialDist n a b ∧ serialDist n a b ≤ 2 ^ (n - 1) - 1 := by
  simp [serialGt, serialDist]

theorem serialDist_of_lt {n b : Nat} (a : Nat) (hb : b < 2 ^ n) : serialDist n a b = (a + 2 ^ n - b) % 2 ^ n := by
  rw [serialDist, Nat.mod_eq_of_lt hb]

theorem serialDist_of_le {n a b : Nat} (ha : a < 2 ^ n) (h : b ≤ a) : serialDist n a b = a - b := by
  rw [serialDist_of_lt a (Nat.lt_of_le_of_lt h ha), show a + 2 ^ n - b = a - b + 2 ^ n by omega,
    Nat.add_mod_right, Nat.mod_eq_of_lt (by omega)]

theorem serialDist_of_gt {n a b : Nat} (hb : b < 2 ^ n) (h : a < b) : serialDist n a b = a + 2 ^ n - b := by
  rw [serialDist_of_lt a hb, Nat.mod_eq_of_lt (by omega)]

/-- The two distances between different values add up to a full turn. -/
theorem serialDist_add_swap {n a b : Nat} (ha : a < 2 ^ n) (hb : b < 2 ^ n) (h : a ≠ b) :
    serialDist n a b + serialDist n b a = 2 ^ n := by
  rcases Nat.lt_or_gt_of_ne h with h | h
  · rw [serialDist_of_gt hb h, serialDist_of_le hb (Nat.le_of_lt h)]
    omega
  · rw [serialDist_of_le ha (Nat.le_of_lt h), serialDist_of_gt ha h]
    omega

/-- Less-than by the same distance as greater-than: the far half of the turn. -/
theorem serialGt_swap_iff {n a b : Nat} (hn : 1 ≤ n) (ha : a < 2 ^ n) (hb : b < 2 ^ n) :
    serialGt n b a = true ↔ 2 ^ (n - 1) + 1 ≤ serialDist n a b := by
  have hpos : 0 < 2 ^ (n - 1) := Nat.two_pow_pos _
  have hturn : 2 ^ n = 2 * 2 ^ (n - 1) := by rw [← Nat.pow_succ', Nat.succ_eq_add_one, Nat.sub_add_cancel hn]
  rw [serialGt_iff]
  by_cases h : a = b
  · subst h
    rw [serialDist_of_le ha (Nat.le_refl a)]
    omega
  · have hsum := serialDist_add_swap ha hb h
    have hlt : serialDist n a b < 2 ^ n := Nat.mod_lt _ (Nat.two_pow_pos n)
    omega

/-- Settles O28: greater and less are the near and the far half of the turn, and half a turn is in neither. -/
theorem serialOrder : Obligations.SerialOrder := by
  intro n a b hn ha hb
  have hgt := serialGt_iff n a b
  have hlt := serialGt_swap_iff hn ha hb
  have hpos : 0 < 2 ^ (n - 1) := Nat.two_pow_pos _
  rw [← serialDist_of_lt a hb]
  refine ⟨hgt, hlt, fun hhalf => ⟨?_, ?_⟩⟩
  · rw [Bool.eq_false_iff, ne_eq, hgt]
    omega
  · rw [Bool.eq_false_iff, ne_eq, hlt]
    omega

end Sys2Proof.Machine

namespace Sys2Proof.Machine

/-! ### A WRITE on its way to acceptance (R165, R185, R500, R731) -/

theorem exec_write (t : Nat) (se : Fin 8) (req : Nat) (e : WEntry) (s : State) :
    exec (.write t se req e) s = .next ((s.at t).writeOne se req e Aux.none) := rfl

/-- Taking up a request moves the clock, the web position and the receive buffer of its session, and nothing else. -/
theorem take_at_rest (s : State) (t i m : Nat) :
    ∃ n w x, ((s.at t).take i m).1 = { s with now := n, web := w, net := x } := by
  unfold State.take
  dsimp only
  split
  · exact ⟨_, _, _, rfl⟩
  · exact ⟨_, _, s.net, rfl⟩

@[simp] theorem take_at_ov (s : State) (t i m j : Nat) : ((s.at t).take i m).1.ov j = s.ov j := by
  obtain ⟨n, w, x, h⟩ := take_at_rest s t i m
  rw [h]
  rfl

@[simp] theorem take_at_log (s : State) (t i m : Nat) : ((s.at t).take i m).1.log = s.log := by
  obtain ⟨n, w, x, h⟩ := take_at_rest s t i m
  rw [h]

theorem odKey_div_mod (k : Nat) : odKey (k / 256) (k % 256) = k := Nat.div_add_mod' k 256

theorem nextServed_single {s : State} {e : WEntry} (k : Taken) (req : Nat)
    (h : s.declaredAt (odKey e.idx e.sub) = none) : s.nextServed (k.single req e) 0 = none := by
  simp [State.nextServed, Taken.single, State.isServed, h]

/-- The sensor list of a camera belongs to its settings set. -/
theorem camFrameKey_sensor_writes {c : Nat} (hc : c < 4) :
    camFrameKey c (Od.camera_sensor.sensor_writes c) = true := by
  match c, hc with
  | 0, _ => rfl
  | 1, _ => rfl
  | 2, _ => rfl
  | 3, _ => rfl

theorem needsList_single_of_not_camFrame (s : State) {c : Nat} {x : Checked} (hc : c < 4)
    (h : camFrameKey c x.key = false) : s.needsList c [x] = false := by
  have hk : x.key ≠ Od.camera_sensor.sensor_writes c := by
    intro e
    rw [e, camFrameKey_sensor_writes hc] at h
    exact Bool.noConfusion h
  simp [State.needsList, hk]

/-- A write that reaches no settings set has no sensor list to wait for (R500). -/
theorem sendLists_single_of_not_camFrame (s : State) (d : Deferred) {x : Checked} (aux : Aux)
    (h : ∀ c, camFrameKey c x.key = false) : s.sendLists d [x] aux = s.letIn d [x] aux [] := by
  have hneed : (List.range 4).filter (fun c => s.needsList c [x]) = [] := by
    rw [List.filter_eq_nil_iff]
    intro c hc
    rw [needsList_single_of_not_camFrame s (List.mem_range.mp hc) (h c)]
    decide
  simp only [State.sendLists, hneed, List.isEmpty_nil, if_true]

/-- With room in the RAM ring a write is accepted at once (R185). -/
theorem letIn_of_room {s : State} (d : Deferred) (cs : List Checked) (aux : Aux) (done : List Nat)
    (h : s.log.unflushed < 32) : s.letIn d cs aux done = s.accept d.who d.isBatch d.reply cs aux done :=
  if_neg fun hw => absurd hw.2 (Nat.not_le_of_lt h)

/-! ### The acceptance of one entry that takes effect at once (R148, R175 to R185) -/

/-- One change number is used, and the response is held. -/
def State.holdAnswer (s : State) (h : Held) : State :=
  { s with log := { s.log with
    nextNum := s.log.nextNum + 1, nextHeld := s.log.nextHeld + 1, held := s.log.held ++ [h] } }

/-- The record of one write is made under the next change number: it goes into a flash program, which the held response
waits for, or into the RAM ring. -/
def State.recordOne (s : State) (w : Writer) (h : Held) (c : Checked) : State :=
  let r := s.writeRec w s.log.nextNum 0 c
  if c.durable then
    (s.holdAnswer h).program ⟨some s.log.nextHeld, flashVals [(c, .now)], flashPends w [(c, .now)], [r]⟩
  else (s.holdAnswer h).toRing [r]

/-- A write of a sealed object is an event of the island (R625). -/
def State.sealEvent (s : State) (w : Writer) (c : Checked) (old : OVal) : State :=
  if c.row.per = 2 then s.islandEvent w.node [(c.key, old, c.val)] else s

/-- The state of one accepted entry before the effect the owner gives its value. -/
def State.acceptOne (s : State) (w : Writer) (h : Held) (c : Checked) : State :=
  ((s.recordOne w h c).sealEvent w c (s.ov c.key)).place w s.log.nextHeld c .now

theorem foldl_of_fixed {α β : Type} {f : α → β → α} (h : ∀ a b, f a b = a) (a : α) (l : List β) : l.foldl f a = a := by
  induction l with
  | nil => rfl
  | cons b l ih => rw [List.foldl_cons, h, ih]

theorem armNow_of_not_camFrame (s : State) {x : Checked} (done : List Nat) (h : ∀ c, camFrameKey c x.key = false) :
    s.armNow [x] done = s := by
  have hnone (c : Nat) : (camEntries c [x]).isEmpty = true := by
    rw [camEntries, List.filter_cons_of_neg (by rw [h c]; decide), List.filter_nil]
    rfl
  exact foldl_of_fixed (fun a c => if_pos (.inl (hnone c))) s (List.range 4)

theorem writeRecs_single (s : State) (w : Writer) (c : Checked) :
    s.writeRecs w false [c] = [s.writeRec w s.log.nextNum 0 c] := rfl

/-- An entry alone that applies now reaches no settings set and no session-local object, so its acceptance is the
record, the event of a sealed object, the value, its effect, and the answers then due. -/
theorem accept_single_now {s : State} (w : Writer) (reply : Reply) {c : Checked} (aux : Aux) (done : List Nat)
    (hper : c.row.per ≠ 3) (hnow : s.whenOf c = .now) (hcam : ∀ i, camFrameKey i c.key = false) :
    ∃ h : Held, s.accept w false reply [c] aux done =
      ((s.acceptOne w h c).writeEffect w c.key (s.ov c.key) c.val aux).release := by
  refine ⟨⟨s.log.nextHeld, reply, s.log.nextNum, c.durable, ringBits [.now], 0, pllBits [.now],
    asksReset [c]⟩, ?_⟩
  by_cases hp2 : c.row.per = 2 <;>
    simp [State.accept, State.acceptOne, State.recordOne, State.holdAnswer, State.sealEvent, hper, hnow, hp2,
      writeRecs_single, armNow_of_not_camFrame _ _ hcam, State.entryEffect]

/-! #### What the record leaves in the Change Log -/

/-- Records that enter the RAM ring change the ring, the count of unflushed ones, and whether a flush runs. -/
theorem toRing_rest (s : State) (rs : List LogRec) :
    ∃ f, s.toRing rs = { s with log := { s.log with
      ring := (s.log.ring ++ rs).drop (s.log.ring.length + rs.length - 256)
      unflushed := s.log.unflushed + rs.length
      flushing := f } } := by
  unfold State.toRing
  dsimp only
  rw [List.length_append]
  split
  · exact ⟨_, rfl⟩
  · exact ⟨s.log.flushing, rfl⟩

/-- Recording a write changes the Change Log alone. -/
theorem recordOne_rest (s : State) (w : Writer) (h : Held) (c : Checked) :
    ∃ l, s.recordOne w h c = { s with log := l } := by
  unfold State.recordOne
  dsimp only
  split
  · exact ⟨_, rfl⟩
  · obtain ⟨f, hf⟩ := toRing_rest (s.holdAnswer h) [s.writeRec w s.log.nextNum 0 c]
    exact ⟨_, hf⟩

theorem recordOne_nextNum (s : State) (w : Writer) (h : Held) (c : Checked) :
    (s.recordOne w h c).log.nextNum = s.log.nextNum + 1 := by
  unfold State.recordOne
  dsimp only
  split
  · rfl
  · obtain ⟨f, hf⟩ := toRing_rest (s.holdAnswer h) [s.writeRec w s.log.nextNum 0 c]
    rw [hf]
    rfl

theorem recordOne_program {s : State} {w : Writer} {h : Held} {c : Checked} (hd : c.durable = true) :
    (s.recordOne w h c).log.program = s.log.program ++ [⟨some s.log.nextHeld, flashVals [(c, .now)],
      flashPends w [(c, .now)], [s.writeRec w s.log.nextNum 0 c]⟩] := by
  simp only [State.recordOne, hd, if_true, State.program, State.holdAnswer]

theorem recordOne_ring {s : State} {w : Writer} {h : Held} {c : Checked} (hd : c.durable = false) :
    (s.recordOne w h c).log.program = s.log.program ∧
    (s.recordOne w h c).log.unflushed = s.log.unflushed + 1 ∧
    (s.recordOne w h c).log.ring =
      (s.log.ring ++ [s.writeRec w s.log.nextNum 0 c]).drop (s.log.ring.length + 1 - 256) := by
  obtain ⟨f, hf⟩ := toRing_rest (s.holdAnswer h) [s.writeRec w s.log.nextNum 0 c]
  have hrec : s.recordOne w h c = (s.holdAnswer h).toRing [s.writeRec w s.log.nextNum 0 c] := by
    simp [State.recordOne, hd]
  rw [hrec, hf]
  exact ⟨rfl, rfl, by dsimp only [State.holdAnswer, List.length_singleton]⟩

/-! #### What the island's event changes -/

theorem sealEvent_of_not_sealed {s : State} {w : Writer} {c : Checked} {old : OVal} (h : c.row.per ≠ 2) :
    s.sealEvent w c old = s := if_neg h

/-- An event of the island changes its counter, the durable copy of it, and the audit records. -/
theorem sealEvent_rest (s : State) (w : Writer) (c : Checked) (old : OVal) :
    ∃ v f m, s.sealEvent w c old = { s with od := { s.od with vals := v, flash := f }, met := m } := by
  unfold State.sealEvent
  split
  · exact ⟨_, _, _, rfl⟩
  · exact ⟨s.od.vals, s.od.flash, s.met, rfl⟩

theorem sealEvent_ov_ne (s : State) (w : Writer) (c : Checked) (old : OVal) {j : Nat}
    (h : j ≠ Od.island_identity.event_counter) : (s.sealEvent w c old).ov j = s.ov j := by
  unfold State.sealEvent
  split
  · exact s.ov_setv_ne _ h
  · rfl

/-! #### Where the value goes -/

/-- A value in effect at once is in the object store, unless the object is a command; a pending one is dropped. -/
theorem place_now (s : State) (w : Writer) (held : Nat) {c : Checked} (hk : c.key < 0x800000) :
    s.place w held c .now = { s with od := { s.od with
      vals := if c.row.cmd = true then s.od.vals else kvSet s.od.vals c.key c.val
      pend := s.od.pend.filter (fun p => p.key ≠ c.key) } } := by
  have hidx : ¬ 0x8000 ≤ c.key / 256 := by omega
  cases hcmd : c.row.cmd <;> simp [State.place, hcmd, hidx, State.setv]

theorem place_now_ov (s : State) (w : Writer) (held : Nat) {c : Checked} (hk : c.key < 0x800000) (j : Nat) :
    (s.place w held c .now).ov j = if j = c.key ∧ c.row.cmd = false then c.val else s.ov j := by
  rw [place_now s w held hk]
  cases hcmd : c.row.cmd
  · simp only [Bool.false_eq_true, if_false, and_true]
    exact s.ov_setv c.key j c.val
  · simp [State.ov]

/-! #### The accepted entry -/

section
variable (s : State) (w : Writer) (h : Held) {c : Checked}

/-- Before the owner's effect, an accepted entry has changed the objects, the Change Log and the island. -/
theorem acceptOne_rest (hk : c.key < 0x800000) :
    ∃ o m, s.acceptOne w h c = { s with od := o, met := m, log := (s.recordOne w h c).log } := by
  obtain ⟨l, hl⟩ := recordOne_rest s w h c
  obtain ⟨v, f, m, hm⟩ := sealEvent_rest (s.recordOne w h c) w c (s.ov c.key)
  exact ⟨_, _, by rw [State.acceptOne, place_now _ _ _ hk, hm, hl]⟩

theorem recordOne_ov (j : Nat) : (s.recordOne w h c).ov j = s.ov j := by
  obtain ⟨l, hl⟩ := recordOne_rest s w h c
  rw [hl]
  rfl

theorem acceptOne_ov_same (hk : c.key < 0x800000) (hcmd : c.row.cmd = false) :
    (s.acceptOne w h c).ov c.key = c.val := by
  simp [State.acceptOne, place_now_ov _ _ _ hk, hcmd]

theorem acceptOne_ov_ne (hk : c.key < 0x800000) {j : Nat} (hj : j ≠ c.key)
    (he : j ≠ Od.island_identity.event_counter) : (s.acceptOne w h c).ov j = s.ov j := by
  rw [State.acceptOne, place_now_ov _ _ _ hk, if_neg (fun e => hj e.1), sealEvent_ov_ne _ _ _ _ he, recordOne_ov]

/-- Only a sealed object makes an event of the island. -/
theorem acceptOne_ov_of_not_sealed (hk : c.key < 0x800000) (hper : c.row.per ≠ 2) (j : Nat) :
    (s.acceptOne w h c).ov j = if j = c.key ∧ c.row.cmd = false then c.val else s.ov j := by
  rw [State.acceptOne, place_now_ov _ _ _ hk, sealEvent_of_not_sealed hper, recordOne_ov]

end

/-! ### The accepted WRITE -/

/-- What `takesWrite` says, taken apart: the request is live, the integrator core does not serve its object, the RAM
ring has room, and the checks answer its one entry, which is not session-local. -/
theorem takesWrite_iff {s : State} {t se req k : Nat} {v : OVal} {row : OdRow} (hrow : odRow k = some row) :
    s.takesWrite t se req k v = true ↔
      ((s.at t).take se 0x12).2.live = true ∧ ((s.at t).take se 0x12).1.declaredAt k = none ∧
      ((s.at t).take se 0x12).1.log.unflushed < 32 ∧ row.per ≠ 3 ∧
      ((s.at t).take se 0x12).1.checkWrite (((s.at t).take se 0x12).2.single req (entryOf row k v)) =
        .ok [⟨k, row, v, encodeVal row.ty v⟩] := by
  simp only [State.takesWrite, hrow]
  split <;> simp_all [and_assoc]

/-- A WRITE that is taken and applies now goes through acceptance to its effect and its answer. -/
theorem writeOne_of_accepted {a : State} {se req : Nat} {e : WEntry} {c : Checked} (aux : Aux)
    (hlive : (a.take se 0x12).2.live = true)
    (hcheck : (a.take se 0x12).1.checkWrite ((a.take se 0x12).2.single req e) = .ok [c])
    (hserve : (a.take se 0x12).1.declaredAt (odKey e.idx e.sub) = none) (hroom : (a.take se 0x12).1.log.unflushed < 32)
    (hper : c.row.per ≠ 3) (hnow : (a.take se 0x12).1.whenOf c = .now) (hcam : ∀ i, camFrameKey i c.key = false) :
    ∃ h : Held, a.writeOne se req e aux =
      ((((a.take se 0x12).1.acceptOne (a.take se 0x12).2.who h c).writeEffect (a.take se 0x12).2.who c.key
        ((a.take se 0x12).1.ov c.key) c.val aux).release).runReset := by
  obtain ⟨h, hacc⟩ := accept_single_now (a.take se 0x12).2.who ((a.take se 0x12).2.single req e).reply aux [] hper
    hnow hcam
  refine ⟨h, ?_⟩
  rw [← hacc]
  simp only [State.writeOne, hlive, if_true, State.process, hcheck, nextServed_single _ _ hserve,
    sendLists_single_of_not_camFrame _ _ _ hcam, letIn_of_room _ _ _ _ hroom]
  rfl

/-- Settles O18: the accepted entry has its value, its record and nothing else before the owner's effect. -/
theorem writeTakesEffect : Obligations.WriteTakesEffect := by
  intro t se req k v row s hrow htakes hk w c hnow hcam
  obtain ⟨hlive, hserve, hroom, hper, hcheck⟩ := (takesWrite_iff hrow).mp htakes
  obtain ⟨h, hexec⟩ := writeOne_of_accepted (c := c) Aux.none hlive hcheck (by rwa [entryOf, odKey_div_mod]) hroom
    hper hnow hcam
  obtain ⟨n, x, y, ha⟩ := take_at_rest s t se 0x12
  have hov := take_at_ov s t se 0x12
  have hlog := take_at_log s t se 0x12
  rw [hov] at hexec
  generalize ((s.at t).take se 0x12).1 = a at *
  obtain ⟨o, m, hrest⟩ := acceptOne_rest a w h (c := c) hk
  have hrec : (a.acceptOne w h c).log = (a.recordOne w h c).log := by rw [hrest]
  refine ⟨a.acceptOne w h c, _, exec_write t se req _ s, hexec, fun hcmd => acceptOne_ov_same a w h hk hcmd,
    fun j hj he => (acceptOne_ov_ne a w h hk hj he).trans (hov j), fun hper2 => ?_, ?_, fun hd => ?_, fun hd => ?_,
    by rw [hrest, ha], by rw [hrest, ha], by rw [hrest, ha]⟩
  · rw [acceptOne_ov_of_not_sealed a w h hk hper2, hov]
    exact ite_congr (propext (and_congr_left fun _ => eq_comm)) (fun _ => rfl) (fun _ => rfl)
  · rw [hrec, recordOne_nextNum, hlog]
  · rw [hrec, recordOne_program hd, hlog]
    exact ⟨_, rfl, rfl, _, rfl, rfl, rfl, rfl, rfl⟩
  · obtain ⟨hprog, hunfl, hring⟩ := recordOne_ring (s := a) (w := w) (h := h) hd
    rw [hlog] at hprog hunfl hring
    rw [hrec]
    exact ⟨hprog, hunfl, _, hring, rfl, rfl, rfl, rfl⟩

/-! #### A state that meets the premises -/

theorem camFrameKey_of_app_ne {k : Nat} {row : OdRow} (hrow : odRow k = some row) (happ : row.app ≠ 3) (c : Nat) :
    camFrameKey c k = false := by
  simp [camFrameKey, hrow, happ]

/-- The device after reset with a session of role VND on slot 0. -/
def vndOpen : State := State.reset.setSess 0 { Sess.free with isOpen := true, role := 4 }

theorem odRow_coast_limit_isSome : (odRow Od.tracker_config.coast_limit_um).isSome = true := by decide +kernel

/-- A WRITE of `coast_limit_um` on that session meets every premise of `WriteTakesEffect`. -/
theorem writeTakesEffect_premises_met :
    ∃ row : OdRow, odRow Od.tracker_config.coast_limit_um = some row ∧
      vndOpen.takesWrite 0 0 7 Od.tracker_config.coast_limit_um (.int 5) = true ∧
      ((vndOpen.at 0).take 0 0x12).1.whenOf
        ⟨Od.tracker_config.coast_limit_um, row, .int 5, encodeVal row.ty (.int 5)⟩ = .now ∧
      ∀ c, camFrameKey c Od.tracker_config.coast_limit_um = false := by
  have hrow := (Option.some_get odRow_coast_limit_isSome).symm
  exact ⟨(odRow Od.tracker_config.coast_limit_um).get odRow_coast_limit_isSome, hrow, by decide +kernel,
    by decide +kernel, camFrameKey_of_app_ne hrow (by decide +kernel)⟩

end Sys2Proof.Machine

namespace Sys2Proof.Machine

/-! ### The state right after reset (R175) -/

/-- After reset every object reads as the dictionary gives it. -/
@[simp] theorem State.reset_ov (k : Nat) : State.reset.ov k = odDefault k := rfl

@[simp] theorem State.reset_source (n : Nat) : State.reset.source n = ⟨0, 0, false, 0⟩ := rfl

theorem getD_toList_replicate {α : Type} (n i : Nat) (x : α) : (Vector.replicate n x).toList.getD i x = x := by
  rw [Vector.toList_replicate, List.getD_eq_getElem?_getD, List.getElem?_replicate]
  split
  · rfl
  · rfl

@[simp] theorem State.reset_sess (i : Nat) : State.reset.sess i = Sess.free := getD_toList_replicate 8 i Sess.free

@[simp] theorem State.reset_queue (l : Nat) : State.reset.queue l = [] := getD_toList_replicate 8 l []

theorem odDefault_power_state : odDefault Od.power_control.power_state = .int 0 := by decide +kernel

theorem odDefault_pll_state : ∀ p : Fin 4, odDefault (Od.pll.pll_state p) = .int 0 := by decide +kernel

theorem odDefault_tracker_state : odDefault Od.tracker_status.tracker_state = .int 0 := by decide +kernel

theorem odDefault_axis_state : ∀ a : Fin 6, odDefault (Od.axis_status.axis_state a) = .int 0 := by decide +kernel

theorem odDefault_pair_state : odDefault Od.pair_status.pair_state = .int 0 := by decide +kernel

/-- An object whose default is 0 reads 0 after reset. -/
theorem State.reset_on_eq_zero {k : Nat} (h : odDefault k = .int 0) : State.reset.on k = 0 := by
  rw [State.on, State.reset_ov, h]
  rfl

/-- Settles O3: the state objects read their default 0, and what no object holds starts empty. -/
theorem resetState : Obligations.ResetState := by
  have hsess (i : Fin 8) : (State.reset.sess i).isOpen = false := congrArg Sess.isOpen (State.reset_sess i)
  have hsource (n : Fin 256) : (State.reset.source n).active = false := congrArg Source.active (State.reset_source n)
  exact ⟨rfl, State.reset_on_eq_zero odDefault_power_state,
    fun p => State.reset_on_eq_zero (odDefault_pll_state p), hsess, rfl, fun l => State.reset_queue l, rfl, rfl, rfl,
    State.reset_on_eq_zero odDefault_tracker_state, fun a => State.reset_on_eq_zero (odDefault_axis_state a),
    State.reset_on_eq_zero odDefault_pair_state, hsource, rfl⟩

end Sys2Proof.Machine

namespace Sys2Proof.Machine

/-! ### The time-outs of the speed advice (R67) -/

theorem exec_dataLateReasonExpiry (t : Nat) (s : State) :
    exec (.dataLateReasonExpiry t) s = .next (((s.atTime t).moveX).setReason 4 false) := rfl

/-- The position moves, the objects do not. -/
@[simp] theorem State.moveX_ov (s : State) (k : Nat) : s.moveX.ov k = s.ov k := rfl

@[simp] theorem State.moveX_on (s : State) (k : Nat) : s.moveX.on k = s.on k := rfl

/-- The reasons with bit `b` set to `v`, before the advice is taken afresh. -/
def State.markReason (s : State) (b : Nat) (v : Bool) : State :=
  s.setn Od.speed_advice.speed_adv_reasons (withBit (s.on Od.speed_advice.speed_adv_reasons) b v)

theorem setReason_eq_advise_markReason (s : State) (b : Nat) (v : Bool) :
    s.setReason b v = (s.markReason b v).advise := rfl

theorem markReason_reasons (s : State) (b : Nat) (v : Bool) :
    (s.markReason b v).on Od.speed_advice.speed_adv_reasons =
      withBit (s.on Od.speed_advice.speed_adv_reasons) b v := State.on_setn_same _ _ _

theorem markReason_ov_ne (s : State) (b : Nat) (v : Bool) {k : Nat} (h : k ≠ Od.speed_advice.speed_adv_reasons) :
    (s.markReason b v).ov k = s.ov k := s.ov_setn_ne _ h

/-- No enabled reason of SPEED_ADV is active (R67). -/
def State.reasonsClear (s : State) : Prop :=
  (s.on Od.speed_advice.speed_adv_reasons &&& s.on Od.speed_advice.speed_adv_reason_enable) = 0

/-- With no enabled reason in the advice taken afresh, the end of the hold time lowers SPEED_ADV. -/
theorem exec_speedAdvHoldExpiry_of_clear {t : Nat} {s a : State} (ha : ((s.atTime t).moveX).advise = a)
    (h : a.reasonsClear) : exec (.speedAdvHoldExpiry t) s = .next (a.setWeb { a.web with speedAdv := false }) := by
  subst ha
  exact if_pos h

/-- With an enabled reason the end of the hold time leaves the advice taken afresh as it is. -/
theorem exec_speedAdvHoldExpiry_of_not_clear {t : Nat} {s a : State} (ha : ((s.atTime t).moveX).advise = a)
    (h : ¬ a.reasonsClear) : exec (.speedAdvHoldExpiry t) s = .next a := by
  subst ha
  exact if_neg h

/-- Settles O10: the end of the hold time touches the level of SPEED_ADV alone, and the other time-out marks bit 4 as
clear and advises. -/
theorem speedAdviceAct : Obligations.SpeedAdviceAct := by
  refine ⟨?hold, ?dataLate⟩
  case hold =>
    intro t s a
    by_cases h : a.reasonsClear
    · exact ⟨_, exec_speedAdvHoldExpiry_of_clear rfl h, a.setWeb_ov _, (if_pos h).symm⟩
    · exact ⟨a, exec_speedAdvHoldExpiry_of_not_clear rfl h, fun _ => rfl, (if_neg h).symm⟩
  case dataLate =>
    intro t s
    refine ⟨((s.atTime t).moveX).markReason 4 false, _, exec_dataLateReasonExpiry t s,
      setReason_eq_advise_markReason _ _ _, ?_, fun k hk => ?_⟩
    · rw [markReason_reasons, State.moveX_on, State.atTime_on]
    · rw [markReason_ov_ne _ _ _ hk, State.moveX_ov, State.ov_atTime]

end Sys2Proof.Machine

namespace Sys2Proof.Machine

/-! ### The synthesizers (R98, R107 to R114)

A synthesizer is the pair of its working registers `State.pll` and its status objects, of which `pll_state` is one. -/

/-- Two objects of one synthesizer have different keys when their subindexes differ; `p` stays symbolic. -/
theorem pllKey_ne {a b p : Nat} (h : a ≠ b) : a + 256 * p ≠ b + 256 * p := fun e => h (Nat.add_right_cancel e)

/-- Objects of two synthesizers have different keys when their subindexes share the base index. -/
theorem pllKey_ne_of_ne {a b p q : Nat} (h : p ≠ q) (hbase : a / 256 = b / 256) : a + 256 * p ≠ b + 256 * q := by
  omega

/-- A key below the base of a table is none of its keys. -/
theorem ne_pllKey_of_lt {j a p : Nat} (h : j < a) : j ≠ a + 256 * p := by omega

@[simp] theorem State.setn_pll (s : State) (k n p : Nat) : (s.setn k n).pll p = s.pll p := rfl

@[simp] theorem State.freeNext_pll (s : State) (p : Nat) : s.freeNext.pll p = s.pll p := rfl

@[simp] theorem State.atTime_pllState (s : State) (t p : Nat) : (s.atTime t).pllState p = s.pllState p := rfl

@[simp] theorem State.pllState_setn_same (s : State) (p n : Nat) : (s.setn (Od.pll.pll_state p) n).pllState p = n :=
  s.on_setn_same _ n

/-! #### Tuning (R98) -/

/-- Tuning shows N and F of the target with `f_PFD`, the error and the spur offset, and takes up the target. -/
theorem State.tune_eq (s : State) (p target : Nat) : ∃ error spur : Int, s.tune p target =
    (((((s.setn (Od.pll.pll_pfd_hz p) (pfdOf (s.pll p).source (s.pll p).mode)).setn
      (Od.pll.pll_n_int p) (nAndF target (pfdOf (s.pll p).source (s.pll p).mode)).1).setn
      (Od.pll.pll_fraction p) (nAndF target (pfdOf (s.pll p).source (s.pll p).mode)).2).seti
      (Od.pll.pll_vco_error_ppb p) error).seti (Od.pll.pll_spur_offset_khz p) spur).setPll p
      { s.pll p with target := target } := ⟨_, _, rfl⟩

/-- Tuning writes the objects from `pll_n_int` to `pll_spur_offset_khz` and no other. -/
theorem State.tune_ov_ne (s : State) (p target : Nat) {j : Nat} (hpfd : j ≠ Od.pll.pll_pfd_hz p)
    (hn : j ≠ Od.pll.pll_n_int p) (hf : j ≠ Od.pll.pll_fraction p) (herror : j ≠ Od.pll.pll_vco_error_ppb p)
    (hspur : j ≠ Od.pll.pll_spur_offset_khz p) : (s.tune p target).ov j = s.ov j := by
  obtain ⟨error, spur, h⟩ := s.tune_eq p target
  rw [h, State.setPll_ov, State.ov_seti_ne _ _ hspur, State.ov_seti_ne _ _ herror, State.ov_setn_ne _ _ hf,
    State.ov_setn_ne _ _ hn, State.ov_setn_ne _ _ hpfd]

theorem State.tune_n_int (s : State) (p target : Nat) :
    (s.tune p target).on (Od.pll.pll_n_int p) = (nAndF target (pfdOf (s.pll p).source (s.pll p).mode)).1 := by
  obtain ⟨error, spur, h⟩ := s.tune_eq p target
  rw [h, State.setPll_on, State.on_seti_ne _ _ (pllKey_ne (by decide)), State.on_seti_ne _ _ (pllKey_ne (by decide)),
    State.on_setn_ne _ _ (pllKey_ne (by decide)), State.on_setn_same]

theorem State.tune_fraction (s : State) (p target : Nat) :
    (s.tune p target).on (Od.pll.pll_fraction p) = (nAndF target (pfdOf (s.pll p).source (s.pll p).mode)).2 := by
  obtain ⟨error, spur, h⟩ := s.tune_eq p target
  rw [h, State.setPll_on, State.on_seti_ne _ _ (pllKey_ne (by decide)), State.on_seti_ne _ _ (pllKey_ne (by decide)),
    State.on_setn_same]

theorem State.tune_pll_same (s : State) {p : Nat} (target : Nat) (hp : p < 4) :
    (s.tune p target).pll p = { s.pll p with target := target } := by
  obtain ⟨error, spur, h⟩ := s.tune_eq p target
  rw [h, State.setPll_pll_same _ _ _ hp]

/-! #### Lock reached (R107, R111, R112, R114) -/

/-- The synthesizer is LOCKED with its outputs ungated and its anchor at the frequency reached; the writes that wait for
it are not answered yet. -/
def State.anchored (s : State) (p : Nat) : State :=
  ((s.setPll p { s.pll p with lockedAt := some (s.now - 50000), gated := false }).setn (Od.pll.pll_state p) 2).setn
    (Od.pll.pll_anchor_hz p) (s.vcoHz p)

/-- N and F as they stand are the frequency; lock and gating change neither. -/
theorem relocked_eq_pllDone_anchored (s : State) (p : Nat) : s.relocked p = (s.anchored p).pllDone p := rfl

theorem anchored_pllState (s : State) (p : Nat) : (s.anchored p).pllState p = 2 := by
  rw [State.anchored, State.pllState, State.on_setn_ne _ _ (pllKey_ne (by decide)), State.on_setn_same]

theorem anchored_ungated (s : State) {p : Nat} (hp : p < 4) : ((s.anchored p).pll p).gated = false := by
  simp [State.anchored, hp]

theorem anchored_anchor (s : State) (p : Nat) : (s.anchored p).on (Od.pll.pll_anchor_hz p) = s.vcoHz p :=
  State.on_setn_same _ _ _

theorem anchored_ov_ne (s : State) (p : Nat) {k : Nat} (hstate : k ≠ Od.pll.pll_state p)
    (hanchor : k ≠ Od.pll.pll_anchor_hz p) : (s.anchored p).ov k = s.ov k := by
  simp [State.anchored, hstate, hanchor]

theorem exec_pllLockAcquired_of_acquiring (t : Nat) (p : Fin 4) {s : State} (h : s.pllState p = 1) :
    exec (.pllLockAcquired t p) s = .next (((((s.atTime t).anchored p).pllDone p).bootLocked p).runReset) := by
  rw [← relocked_eq_pllDone_anchored]
  exact if_pos h

theorem exec_pllLockAcquired_of_not_acquiring (t : Nat) (p : Fin 4) {s : State} (h : s.pllState p ≠ 1) :
    exec (.pllLockAcquired t p) s = .next (s.atTime t) := if_neg h

/-- The glide is over: N and F are those of its target, and the synthesizer is LOCKED. -/
def State.glided (s : State) (p : Nat) : State := (s.tune p (s.pll p).target).setn (Od.pll.pll_state p) 2

theorem glided_n_int (s : State) (p : Nat) : (s.glided p).on (Od.pll.pll_n_int p) =
    (nAndF (s.pll p).target (pfdOf (s.pll p).source (s.pll p).mode)).1 := by
  rw [State.glided, State.on_setn_ne _ _ (pllKey_ne (by decide)), State.tune_n_int]

theorem glided_fraction (s : State) (p : Nat) : (s.glided p).on (Od.pll.pll_fraction p) =
    (nAndF (s.pll p).target (pfdOf (s.pll p).source (s.pll p).mode)).2 := by
  rw [State.glided, State.on_setn_ne _ _ (pllKey_ne (by decide)), State.tune_fraction]

theorem exec_pllGlideDone_of_gliding (t : Nat) (p : Fin 4) {s : State} (h : s.pllState p = 3) :
    exec (.pllGlideDone t p) s = .next ((((s.atTime t).glided p).pllDone p).runReset) :=
  congrArg finish (if_pos h : runPllGlideDone t p s = ok (((s.atTime t).glided p).pllDone p))

/-! #### Holdover (R109) -/

@[simp] theorem State.stopWalk_pll (s : State) (p q : Nat) : (s.stopWalk p).pll q = s.pll q := by
  unfold State.stopWalk
  split
  · rfl
  · rfl

/-- Stopping a walk leaves N and F anywhere on it, and no other object changes. -/
theorem State.stopWalk_ov_ne (s : State) (p : Nat) {j : Nat} (hn : j ≠ Od.pll.pll_n_int p)
    (hf : j ≠ Od.pll.pll_fraction p) : (s.stopWalk p).ov j = s.ov j := by
  unfold State.stopWalk
  split
  · rfl
  · simp [hn, hf]

theorem State.holdover_pllState_same (s : State) (p : Nat) : (s.holdover p).pllState p = 4 :=
  State.pllState_setn_same _ p 4

theorem State.holdover_ov_ne (s : State) (p : Nat) {j : Nat} (hstate : j ≠ Od.pll.pll_state p)
    (hn : j ≠ Od.pll.pll_n_int p) (hf : j ≠ Od.pll.pll_fraction p) : (s.holdover p).ov j = s.ov j := by
  simp only [State.holdover, State.ov_setn_ne _ _ hstate, State.setPll_ov, s.stopWalk_ov_ne p hn hf]

theorem State.holdover_pll_same (s : State) {p : Nat} (hp : p < 4) :
    (s.holdover p).pll p = { s.pll p with lockedAt := none } := by
  simp [State.holdover, hp]

theorem State.holdover_pll_ne (s : State) {p q : Nat} (h : q ≠ p) : (s.holdover p).pll q = s.pll q := by
  simp [State.holdover, State.setPll_pll_ne _ _ _ h]

/-- HOLDOVER freezes the tuning: no synthesizer changes its source. -/
theorem State.holdover_source (s : State) {p : Nat} (hp : p < 4) (q : Nat) :
    ((s.holdover p).pll q).source = (s.pll q).source := by
  by_cases h : q = p
  · rw [h, s.holdover_pll_same hp]
  · rw [s.holdover_pll_ne h]

theorem State.holdover_pllState (s : State) (p q : Nat) :
    (s.holdover p).pllState q = if q = p then 4 else s.pllState q := by
  split
  case isTrue h => rw [h, s.holdover_pllState_same]
  case isFalse h =>
    exact State.on_of_ov (s.holdover_ov_ne p (pllKey_ne_of_ne h rfl) (pllKey_ne_of_ne h rfl) (pllKey_ne_of_ne h rfl))

/-! #### Loss of lock and range faults (R107 to R110) -/

/-- Source and mode are chosen afresh, the outputs are gated and the loop is retuned to the target. -/
def State.retuned (s : State) (p : Nat) : State :=
  (s.setPll p { s.pll p with
    source := s.on (Od.pll.pll_ref_source p),
    mode := s.relockMode p (s.on (Od.pll.pll_ref_source p)) (s.on (Od.pll.pll_vco_target_hz p)),
    lockedAt := none, gated := true }).tune p (s.on (Od.pll.pll_vco_target_hz p))

theorem retuned_gated (s : State) {p : Nat} (hp : p < 4) : ((s.retuned p).pll p).gated = true := by
  rw [State.retuned, State.tune_pll_same _ _ hp, State.setPll_pll_same _ _ _ hp]

theorem retuned_lock_loss_count (s : State) (p : Nat) :
    (s.retuned p).on (Od.pll.pll_lock_loss_count p) = s.on (Od.pll.pll_lock_loss_count p) :=
  State.on_of_ov (State.tune_ov_ne _ _ _ (pllKey_ne (by decide)) (pllKey_ne (by decide)) (pllKey_ne (by decide))
    (pllKey_ne (by decide)) (pllKey_ne (by decide)))

/-- A relock has begun; the Beam Engine is not told yet. -/
def State.relockBegun (s : State) (p : Nat) : State := (s.retuned p).setn (Od.pll.pll_state p) 1

theorem pllLost_pix (s : State) : s.pllLost 3 = (s.relockBegun 3).pixelClockLost := rfl

theorem pllLost_of_ne_pix (s : State) {p : Nat} (h : p ≠ 3) : s.pllLost p = s.holdover p := if_neg h

theorem relockBegun_gated (s : State) {p : Nat} (hp : p < 4) : ((s.relockBegun p).pll p).gated = true := by
  rw [State.relockBegun, State.setn_pll, retuned_gated s hp]

/-- A relock does not touch the count of losses. -/
theorem relockBegun_lock_loss_count (s : State) (p : Nat) :
    (s.relockBegun p).on (Od.pll.pll_lock_loss_count p) = s.on (Od.pll.pll_lock_loss_count p) :=
  (State.on_setn_ne _ _ (pllKey_ne (by decide))).trans (retuned_lock_loss_count s p)

theorem exec_pllLockLoss_of_running (t : Nat) (p : Fin 4) {s : State} (h : s.pllState p = 2 ∨ s.pllState p = 3) :
    exec (.pllLockLoss t p) s = .next (((s.atTime t).inc32 (Od.pll.pll_lock_loss_count p)).pllLost p) := if_pos h

/-- Counting a range fault changes no synthesizer's state. -/
theorem pllState_inc32_range_fault (s : State) (out : Fin 32) :
    (s.inc32 (Od.clock_out.out_range_fault_count out)).pllState (out.val / 8) = s.pllState (out.val / 8) :=
  State.on_inc32_ne _ (by unfold Od.pll.pll_state Od.clock_out.out_range_fault_count; omega)

theorem exec_clockRangeFault_of_running (t : Nat) (out : Fin 32) {s a : State}
    (ha : (s.atTime t).inc32 (Od.clock_out.out_range_fault_count out) = a)
    (hen : s.ob (Od.clock_out.out_enable out) = true) (hgate : (s.pll (out.val / 8)).gated = false)
    (hrun : s.pllState (out.val / 8) ≠ 0) :
    exec (.clockRangeFault t out) s = .next
      (if s.pllState (out.val / 8) = 2 ∨ s.pllState (out.val / 8) = 3 then a.pllLost (out.val / 8) else a) := by
  have hstate : a.pllState (out.val / 8) = s.pllState (out.val / 8) := by
    rw [← ha, pllState_inc32_range_fault, State.atTime_pllState]
  have hmonitored : ¬ (s.ob (Od.clock_out.out_enable out) = false ∨ (s.pll (out.val / 8)).gated = true ∨
      s.pllState (out.val / 8) = 0) := by simp [hen, hgate, hrun]
  subst ha
  rw [← hstate]
  exact if_neg hmonitored

/-! #### A fault of the crystal or of the network reference (R108, R109, R675) -/

/-- What the loss of the crystal does to synthesizer `p`. -/
def State.crystalLost (s : State) (p : Nat) : State :=
  if (s.pll p).source = 0 ∧ s.pllState p ≠ 0 ∧ s.pllState p ≠ 4 then s.holdover p else s

/-- The objects of the crystal's own status, with the fallback oscillator in use. -/
def State.onFallback (s : State) (absent : Bool) : State :=
  (s.setn Od.clock_sources.xtal_status (if absent then 1 else 2)).setb Od.clock_sources.fallback_active true

theorem exec_crystalFault (t : Nat) (absent : Bool) (s : State) :
    exec (.crystalFault t absent) s =
      .next ((List.range 4).foldl State.crystalLost ((s.atTime t).onFallback absent)) := rfl

theorem exec_netrefFault (t : Nat) (absent : Bool) (s : State) :
    exec (.netrefFault t absent) s =
      .next (((s.atTime t).setn Od.clock_sources.netref_status (if absent then 1 else 2)).sourceOn 5 false) := rfl

theorem onFallback_pllState (s : State) (absent : Bool) (p : Nat) :
    (s.onFallback absent).pllState p = s.pllState p := by
  unfold State.onFallback State.pllState
  rw [State.on_setb_ne _ _ (ne_pllKey_of_lt (by decide)).symm, State.on_setn_ne _ _ (ne_pllKey_of_lt (by decide)).symm]

theorem crystalLost_source (s : State) {p : Nat} (hp : p < 4) (q : Nat) :
    ((s.crystalLost p).pll q).source = (s.pll q).source := by
  unfold State.crystalLost
  split
  · exact s.holdover_source hp q
  · rfl

theorem crystalLost_pllState (s : State) (p q : Nat) : (s.crystalLost p).pllState q =
    if q = p ∧ (s.pll q).source = 0 ∧ s.pllState q ≠ 0 then 4 else s.pllState q := by
  unfold State.crystalLost
  split
  · rw [s.holdover_pllState]
    grind
  · grind

theorem State.crystalLost_ov_ne (s : State) (p : Nat) {j : Nat} (h : j < 0x681000) :
    (s.crystalLost p).ov j = s.ov j := by
  unfold State.crystalLost
  split
  · exact s.holdover_ov_ne p (ne_pllKey_of_lt (by omega)) (ne_pllKey_of_lt (by omega)) (ne_pllKey_of_lt (by omega))
  · rfl

theorem foldl_crystalLost_ov_ne (ps : List Nat) (s : State) {j : Nat} (h : j < 0x681000) :
    (ps.foldl State.crystalLost s).ov j = s.ov j := by
  induction ps generalizing s with
  | nil => rfl
  | cons p ps ih => rw [List.foldl_cons, ih, s.crystalLost_ov_ne p h]

/-- Of the synthesizers `ps`, those that run from the crystal come to HOLDOVER, and no other changes its state. A
synthesizer in HOLDOVER stays there, so a second visit would change nothing. -/
theorem foldl_crystalLost_pllState (ps : List Nat) (hps : ∀ p ∈ ps, p < 4) (s : State) (q : Nat) :
    (ps.foldl State.crystalLost s).pllState q =
      if q ∈ ps ∧ (s.pll q).source = 0 ∧ s.pllState q ≠ 0 then 4 else s.pllState q := by
  induction ps generalizing s with
  | nil => simp
  | cons p ps ih =>
    obtain ⟨hp, hps⟩ := List.forall_mem_cons.mp hps
    rw [List.foldl_cons, ih hps, crystalLost_source s hp, crystalLost_pllState]
    grind

/-! #### What the clock events do -/

/-- Settles O11: lock and the end of a glide answer from the state with the new status, a loss is counted before
HOLDOVER or the relock of PLL_PIX, and a crystal fault takes each synthesizer that runs from the crystal in turn.
The two counts wrap as assumption log 9 says. -/
theorem clocksAct : Obligations.ClocksAct := by
  refine ⟨?acquired, ?notAcquiring, ?glideDone, ?lockLoss, ?rangeFault, ?crystal, ?netref⟩
  case acquired =>
    intro t p s h
    exact ⟨(s.atTime t).anchored p, _, exec_pllLockAcquired_of_acquiring t p h, anchored_pllState _ _,
      anchored_ungated _ p.isLt, anchored_anchor _ _, fun _ hstate hanchor => anchored_ov_ne _ _ hstate hanchor, rfl⟩
  case notAcquiring =>
    intro t p s h
    exact exec_pllLockAcquired_of_not_acquiring t p h
  case glideDone =>
    intro t p s h
    exact ⟨(s.atTime t).glided p, _, exec_pllGlideDone_of_gliding t p h, State.pllState_setn_same _ _ _,
      glided_n_int _ _, glided_fraction _ _, rfl⟩
  case lockLoss =>
    intro t p s h
    have hcount : ((s.atTime t).inc32 (Od.pll.pll_lock_loss_count p)).on (Od.pll.pll_lock_loss_count p) =
        (s.on (Od.pll.pll_lock_loss_count p) + 1) % 2 ^ 32 := State.on_inc32_same _ _
    refine ⟨_, exec_pllLockLoss_of_running t p h, fun hp => ?notPix, fun hp => ?pix⟩
    case notPix =>
      rw [pllLost_of_ne_pix _ (Fin.val_ne_of_ne hp)]
      refine ⟨State.holdover_pllState_same _ _, by rw [State.holdover_pll_same _ p.isLt], ?_⟩
      rw [State.on_of_ov (State.holdover_ov_ne _ _ (pllKey_ne (by decide)) (pllKey_ne (by decide))
        (pllKey_ne (by decide))), hcount]
    case pix =>
      have hpix : p.val = 3 := congrArg Fin.val hp
      rw [hpix] at hcount ⊢
      exact ⟨_, pllLost_pix _, State.pllState_setn_same _ 3 1, relockBegun_gated _ (by decide),
        (relockBegun_lock_loss_count _ 3).trans hcount⟩
  case rangeFault =>
    intro t out s hen hgate hrun
    exact ⟨(s.atTime t).inc32 (Od.clock_out.out_range_fault_count out), _,
      exec_clockRangeFault_of_running t out rfl hen hgate hrun, State.on_inc32_same _ _,
      fun _ hk => (s.atTime t).ov_inc32_ne hk, rfl⟩
  case crystal =>
    intro t absent s
    refine ⟨_, exec_crystalFault t absent s, ?_, ?_, fun p => ?_⟩
    · rw [State.on_of_ov (foldl_crystalLost_ov_ne _ _ (by decide)), State.onFallback, State.on_setb_ne _ _ (by decide),
        State.on_setn_same]
    · rw [State.ob_of_ov (foldl_crystalLost_ov_ne _ _ (by decide)), State.onFallback, State.ob_setb_same]
    · rw [foldl_crystalLost_pllState _ (fun _ => List.mem_range.mp), onFallback_pllState, State.atTime_pllState]
      exact ite_congr (propext (and_iff_right (List.mem_range.mpr p.isLt))) (fun _ => rfl) (fun _ => rfl)
  case netref =>
    intro t absent s
    exact ⟨(s.atTime t).setn Od.clock_sources.netref_status (if absent then 1 else 2), _, exec_netrefFault t absent s,
      State.on_setn_same _ _ _, fun _ hk => (s.atTime t).ov_setn_ne _ hk, rfl⟩

/-! #### States that meet the premises -/

/-- The device after reset with PLL_SYS in state `n`, its outputs ungated and CORE enabled. -/
def sysClocked (n : Nat) : State :=
  ((State.reset.setPll 0 ⟨0, 1, some 0, false, 6000000000⟩).setn (Od.pll.pll_state 0) n).setb
    (Od.clock_out.out_enable 0) true

/-- ACQUIRING, LOCKED and GLIDING, each with an output that the clock monitor measures, meet every premise of
`ClocksAct`. -/
theorem clocksAct_premises_met (n : Nat) : (sysClocked n).pllState 0 = n ∧
    (sysClocked n).ob (Od.clock_out.out_enable 0) = true ∧ ((sysClocked n).pll 0).gated = false ∧
    ((sysClocked n).pll 0).source = 0 := by
  refine ⟨?_, State.ob_setb_same _ _ _, rfl, rfl⟩
  unfold sysClocked State.pllState
  rw [State.on_setb_ne _ _ (by decide), State.on_setn_same]

end Sys2Proof.Machine

namespace Sys2Proof.Machine

/-! ### The network ports (R119, R120, R158, R193, R194) -/

theorem State.obytes_of_ov {a b : State} {k : Nat} (h : b.ov k = a.ov k) : b.obytes k = a.obytes k := by
  unfold State.obytes
  rw [h]

@[simp] theorem State.obytes_setv_same (s : State) (k : Nat) (v : OVal) : (s.setv k v).obytes k = v.toBytes := by
  rw [State.obytes, State.ov_setv_same]

/-- A key of a table of port objects differs from a key of another subindex. -/
theorem portKey_ne {a b p : Nat} (h : a % 256 ≠ b % 256) : a + 256 * p ≠ b := by omega

/-- An event goes to the queues of the sessions and changes no object. -/
@[simp] theorem State.event_ov (s : State) (code : Nat) (data : List Byte) (k : Nat) :
    (s.event code data).ov k = s.ov k := rfl

/-- The objects of a port whose link is lost, the loss counted (R158, R193). -/
def State.linkLost (s : State) (port : Nat) : State :=
  (s.setb (Od.net_port.link_up port) false).inc32 (Od.net_port.link_losses port)

/-- The link of a port of the pair is shown in `pair_status` (R194). -/
def State.showLink (s : State) (port : Nat) (up : Bool) : State :=
  if port < 2 then s.setn Od.redundancy.pair_status (withBit (s.on Od.redundancy.pair_status) port up) else s

theorem exec_netLinkDown (t : Nat) (port : Fin 3) (los : Bool) (s : State) : exec (.netLinkDown t port los) s =
    .next ((((s.atTime t).linkLost port).showLink port false).event Config.netLinkEvent (leBytes 1 port)) := rfl

theorem exec_netLinkUp (t : Nat) (port : Fin 3) (s : State) : exec (.netLinkUp t port) s =
    .next (((s.atTime t).setb (Od.net_port.link_up port) true).showLink port true) := rfl

theorem exec_sfpModuleInserted (t : Nat) (port : Fin 2) (ident : List Byte) (s : State) :
    exec (.sfpModuleInserted t port ident) s = .next ((s.atTime t).setSfp port true (ident.take 32)) := rfl

theorem exec_sfpModuleRemoved (t : Nat) (port : Fin 2) (s : State) :
    exec (.sfpModuleRemoved t port) s = .next ((s.atTime t).setSfp port false []) := rfl

theorem exec_pauseFrame (t : Nat) (port : Fin 3) (s : State) : exec (.pauseFrame t port) s =
    .next (((s.atTime t).inc64 (Od.net_port.rx_frames port)).inc32 (Od.net_port.pause_frames port)) := rfl

theorem linkLost_link_up (s : State) (port : Nat) : (s.linkLost port).ob (Od.net_port.link_up port) = false := by
  rw [State.linkLost, State.ob_inc32_ne _ (pllKey_ne (by decide)), State.ob_setb_same]

theorem linkLost_link_losses (s : State) (port : Nat) : (s.linkLost port).on (Od.net_port.link_losses port) =
    (s.on (Od.net_port.link_losses port) + 1) % 2 ^ 32 := by
  rw [State.linkLost, State.on_inc32_same, State.on_setb_ne _ _ (pllKey_ne (by decide))]

theorem linkLost_ov_ne (s : State) (port : Nat) {k : Nat} (hup : k ≠ Od.net_port.link_up port)
    (hlost : k ≠ Od.net_port.link_losses port) : (s.linkLost port).ov k = s.ov k := by
  rw [State.linkLost, State.ov_inc32_ne _ hlost, State.ov_setb_ne _ _ hup]

theorem showLink_ov_ne (s : State) (port : Nat) (up : Bool) {k : Nat} (h : k ≠ Od.redundancy.pair_status) :
    (s.showLink port up).ov k = s.ov k := by
  unfold State.showLink
  split
  · exact s.ov_setn_ne _ h
  · rfl

theorem showLink_pair_status (s : State) {port : Nat} (up : Bool) (h : port < 2) :
    (s.showLink port up).on Od.redundancy.pair_status =
      withBit (s.on Od.redundancy.pair_status) port up := by
  rw [State.showLink, if_pos h, State.on_setn_same]

theorem setSfp_sfp (s : State) (port : Fin 2) (m : Bool) (ident : List Byte) :
    (s.setSfp port m ident).net.sfp[port] = m := by
  simp [State.setSfp]

theorem setSfp_txDisable (s : State) (port : Fin 2) (m : Bool) (ident : List Byte) :
    (s.setSfp port m ident).net.txDisable[port] = !m := by
  simp [State.setSfp]

theorem setSfp_module_identity (s : State) (port : Fin 2) (m : Bool) (ident : List Byte) :
    (s.setSfp port m ident).obytes (Od.net_port.module_identity port) = ident :=
  State.obytes_setv_same _ _ _

theorem setSfp_ov_ne (s : State) (port : Fin 2) (m : Bool) (ident : List Byte) {k : Nat}
    (h : k ≠ Od.net_port.module_identity port) : (s.setSfp port m ident).ov k = s.ov k :=
  State.ov_setv_ne _ _ h

/-- Settles O9: a loss and a return of link change the objects of the port and its bit of `pair_status`, a module its
identity and the transmitter, a PAUSE frame two counts. The counts wrap as assumption log 9 says. -/
theorem portsAct : Obligations.PortsAct := by
  refine ⟨?linkDown, ?linkUp, ?inserted, ?removed, ?pause⟩
  case linkDown =>
    intro t port los s
    refine ⟨_, exec_netLinkDown t port los s, ?_, ?_, fun hp => ?_, fun k hup hlost hpair => ?_⟩
    · rw [State.ob_of_ov (State.event_ov _ _ _ _), State.ob_of_ov (showLink_ov_ne _ _ _ (portKey_ne (by decide))),
        linkLost_link_up]
    · rw [State.on_of_ov (State.event_ov _ _ _ _), State.on_of_ov (showLink_ov_ne _ _ _ (portKey_ne (by decide))),
        linkLost_link_losses, State.atTime_on]
    · rw [State.on_of_ov (State.event_ov _ _ _ _), showLink_pair_status _ _ hp,
        State.on_of_ov (linkLost_ov_ne _ _ (portKey_ne (by decide)).symm (portKey_ne (by decide)).symm),
        State.atTime_on]
    · rw [State.event_ov, showLink_ov_ne _ _ _ hpair, linkLost_ov_ne _ _ hup hlost, State.ov_atTime]
  case linkUp =>
    intro t port s
    refine ⟨_, exec_netLinkUp t port s, ?_, fun hp => ?_, fun k hup hpair => ?_⟩
    · rw [State.ob_of_ov (showLink_ov_ne _ _ _ (portKey_ne (by decide))), State.ob_setb_same]
    · rw [showLink_pair_status _ _ hp, State.on_setb_ne _ _ (portKey_ne (by decide)).symm, State.atTime_on]
    · rw [showLink_ov_ne _ _ _ hpair, State.ov_setb_ne _ _ hup, State.ov_atTime]
  case inserted =>
    intro t port ident s
    exact ⟨_, exec_sfpModuleInserted t port ident s, setSfp_sfp _ _ _ _, setSfp_txDisable _ _ _ _,
      setSfp_module_identity _ _ _ _, fun _ hk => setSfp_ov_ne _ _ _ _ hk⟩
  case removed =>
    intro t port s
    exact ⟨_, exec_sfpModuleRemoved t port s, setSfp_sfp _ _ _ _, setSfp_txDisable _ _ _ _,
      setSfp_module_identity _ _ _ _, fun _ hk => setSfp_ov_ne _ _ _ _ hk⟩
  case pause =>
    intro t port s
    refine ⟨_, exec_pauseFrame t port s, ?_, ?_, rfl, rfl, fun k hrx hpause => ?_⟩
    · rw [State.on_inc32_ne _ (pllKey_ne (by decide)), State.on_inc64_same, State.atTime_on]
    · rw [State.on_inc32_same, State.on_inc64_ne _ (pllKey_ne (by decide)), State.atTime_on]
    · rw [State.ov_inc32_ne _ hpause, State.ov_inc64_ne _ hrx, State.ov_atTime]

end Sys2Proof.Machine

namespace Sys2Proof.Machine

/-! ### What an operation on one session leaves (R127 to R146)

Each operation of the transport works on one slot: the laws say that the others stay as they are, and that the objects
do. -/

@[simp] theorem State.atTime_sess (s : State) (t i : Nat) : (s.atTime t).sess i = s.sess i := rfl

@[simp] theorem State.inc64_sess (s : State) (k i : Nat) : (s.inc64 k).sess i = s.sess i := rfl

@[simp] theorem State.logKind_sess (s : State) (kind : Nat) (w : Writer) (new : List Byte) (i : Nat) :
    (s.logKind kind w new).sess i = s.sess i := rfl

theorem pump_sess_ne (s : State) {i j : Nat} (h : j ≠ i) : (s.pump i).sess j = s.sess j := by
  unfold State.pump
  dsimp only
  split
  · exact s.setSess_sess_ne i _ h
  · rfl

@[simp] theorem pump_ov (s : State) (i k : Nat) : (s.pump i).ov k = s.ov k := pump_only.ov rfl k

theorem send_sess_ne (s : State) {i j : Nat} (cls mtype : Nat) (body : List Byte) (h : j ≠ i) :
    (s.send i cls mtype body).sess j = s.sess j := by
  unfold State.send
  split
  · rw [pump_sess_ne _ h, State.modSess, State.setSess_sess_ne _ _ _ h]
  · rfl

theorem sendError_sess_ne (s : State) {i j : Nat} (code mtype seq : Nat) (h : j ≠ i) :
    (s.sendError i code mtype seq).sess j = s.sess j := send_sess_ne s 0 _ _ h

/-- A NOSEQ packet goes out: its header is on the wire, and the slot notes the sending. -/
theorem sendNoSeq_sess_same (s : State) {i : Nat} (h : i < 8) :
    (s.sendNoSeq i).sess i = (s.sess i).noteSent s.now := State.setSess_sess_same _ _ _ h

theorem sendNoSeq_sess_ne (s : State) {i j : Nat} (h : j ≠ i) : (s.sendNoSeq i).sess j = s.sess j :=
  State.setSess_sess_ne _ _ _ h

@[simp] theorem sendNoSeq_ov (s : State) (i k : Nat) : (s.sendNoSeq i).ov k = s.ov k := rfl

theorem sendNoSeq_lastNoSeq (s : State) (i : Nat) :
    (s.sendNoSeq i).net.lastNoSeq = some (i, klpHeader i (s.sess i) 0x10 0 0 (s.sess i).txNext) := rfl

/-! #### The end of a session (R146) -/

/-- What an ended session leaves in its slot: who held it, for the epoch rule of R144, and the messages delivered. -/
def Sess.ended (x : Sess) : Sess :=
  { Sess.free with node := x.node, epoch := x.epoch, used := x.used, inbox := x.inbox }

/-- The end of an open session is a record of kind SESSION_END under the next change number; its slot is free. -/
theorem endSession_of_open {s : State} {i : Nat} (code : Nat) (h : (s.sess i).isOpen = true) : s.endSession i code =
    (s.logKind 4 (s.writerOf i (((s.sess i).addrs.headD (4, 0)).1)) (leBytes 1 code)).setSess i (s.sess i).ended :=
  if_pos h

theorem endSession_sess_same {s : State} {i : Nat} (code : Nat) (hi : i < 8) (h : (s.sess i).isOpen = true) :
    (s.endSession i code).sess i = (s.sess i).ended := by
  rw [endSession_of_open code h, State.setSess_sess_same _ _ _ hi]

theorem endSession_sess_ne (s : State) {i j : Nat} (code : Nat) (h : j ≠ i) :
    (s.endSession i code).sess j = s.sess j := by
  unfold State.endSession
  dsimp only
  split
  · rw [State.setSess_sess_ne _ _ _ h, State.logKind_sess]
  · rfl

@[simp] theorem endSession_ov (s : State) (i code k : Nat) : (s.endSession i code).ov k = s.ov k :=
  endSession_only.ov rfl k

/-- The record of a session that begins or ends stands alone in a flash program of its own (R181, R183, R185). -/
theorem logKind_program (s : State) (kind : Nat) (w : Writer) (new : List Byte) :
    (s.logKind kind w new).log.nextNum = s.log.nextNum + 1 ∧
    ∃ r : LogRec, (s.logKind kind w new).log.program = s.log.program ++ [⟨none, [], [], [r]⟩] ∧
      r.num = s.log.nextNum ∧ r.kind = kind ∧ r.sess = w.sess ∧ r.role = w.role ∧ r.new = new :=
  ⟨rfl, _, rfl, rfl, rfl, rfl, rfl, rfl⟩

theorem endSession_log {s : State} {i : Nat} (code : Nat) (h : (s.sess i).isOpen = true) :
    (s.endSession i code).log.nextNum = s.log.nextNum + 1 ∧
    ∃ r : LogRec, (s.endSession i code).log.program = s.log.program ++ [⟨none, [], [], [r]⟩] ∧
      r.num = s.log.nextNum ∧ r.kind = 4 ∧ r.sess = i ∧ r.new = leBytes 1 code := by
  rw [endSession_of_open code h]
  obtain ⟨hnum, r, hprogram, hr, hkind, hslot, -, hnew⟩ :=
    logKind_program s 4 (s.writerOf i ((s.sess i).addrs.headD (4, 0)).1) (leBytes 1 code)
  exact ⟨hnum, r, hprogram, hr, hkind, hslot, hnew⟩

/-! #### The ack, sack and credit fields (R132, R135, R138) -/

/-- After its fields are taken, a session goes on sending, or ends at the limit of retransmissions. -/
theorem takeFields_cases (s : State) (i ack sack limit cls : Nat) :
    ∃ x, s.takeFields i ack sack limit cls = (s.setSess i x).pump i ∨
      s.takeFields i ack sack limit cls = (s.setSess i x).endSession i errTimeout := by
  unfold State.takeFields
  extract_lets
  split
  · exact ⟨_, .inr rfl⟩
  · exact ⟨_, .inl rfl⟩

theorem takeFields_sess_ne (s : State) {i j : Nat} (ack sack limit cls : Nat) (h : j ≠ i) :
    (s.takeFields i ack sack limit cls).sess j = s.sess j := by
  obtain ⟨x, hx | hx⟩ := takeFields_cases s i ack sack limit cls
  · rw [hx, pump_sess_ne _ h, State.setSess_sess_ne _ _ _ h]
  · rw [hx, endSession_sess_ne _ _ h, State.setSess_sess_ne _ _ _ h]

@[simp] theorem takeFields_ov (s : State) (i ack sack limit cls k : Nat) :
    (s.takeFields i ack sack limit cls).ov k = s.ov k := takeFields_only.ov rfl k

end Sys2Proof.Machine

namespace Sys2Proof.Machine

/-! ### The time-outs of the transport (R135, R138, R145, R146) -/

theorem exec_retransmitTimeout (t : Nat) (se : Fin 8) (seq : Nat) (s : State) :
    exec (.retransmitTimeout t se seq) s = execRetransmitTimeout t se seq s := rfl

theorem exec_creditUpdateDue (t : Nat) (se : Fin 8) (s : State) :
    exec (.creditUpdateDue t se) s = .next ((s.atTime t).reportLimits 4 se) := rfl

theorem exec_sessionTimeout (t : Nat) (se : Fin 8) (s : State) :
    exec (.sessionTimeout t se) s = .next ((s.atTime t).endSession se errTimeout) := rfl

/-- The session with its packet `seq` sent again at `t` (R135). -/
def Sess.resent (x : Sess) (seq t : Nat) : Sess :=
  ({ x with
    unacked := x.unacked.map (fun q => if q.seq = seq then q.again t (min 8000 (2 * q.rtoUs)) false else q),
    retransmissions := (x.retransmissions + 1) % 2 ^ 32 } : Sess).noteSent t

section
variable {t : Nat} {se : Fin 8} {seq : Nat} {p : TxPkt} {s : State}
  (hp : (s.sess se).unacked.find? (fun p => decide (p.seq = seq) && !p.sacked) = some p)
include hp

/-- Below the limit of retransmissions an awaited packet goes out again. -/
theorem exec_retransmitTimeout_of_below (h : p.retx < s.on Od.klp_config.klp_retx_limit) :
    exec (.retransmitTimeout t se seq) s =
      .next ((s.atTime t).setSess se ((s.sess se).resent seq (s.atTime t).now)) := by
  rw [exec_retransmitTimeout]
  simp only [execRetransmitTimeout, State.atTime_sess, hp]
  exact if_neg (Nat.not_le_of_lt h)

/-- At the limit the session ends. -/
theorem exec_retransmitTimeout_of_limit (h : s.on Od.klp_config.klp_retx_limit ≤ p.retx) :
    exec (.retransmitTimeout t se seq) s = .next ((s.atTime t).endSession se errTimeout) := by
  rw [exec_retransmitTimeout]
  simp only [execRetransmitTimeout, State.atTime_sess, hp]
  exact if_pos h

end

/-! #### Reporting the limits in turn (R138) -/

/-- All limits are reported save at most those of the next `n` classes in turn. -/
def Sess.reportedBut (n : Nat) (x : Sess) : Prop :=
  x.reportTurn < 4 ∧ ∀ c (hc : c < 4), n ≤ (c + 4 - x.reportTurn) % 4 → x.reported[c] = x.granted[c]

/-- Before any report each of the four classes may be behind. -/
theorem reportedBut_four {x : Sess} (h : x.reportTurn < 4) : x.reportedBut 4 :=
  ⟨h, fun c _ hn => absurd (Nat.mod_lt (c + 4 - x.reportTurn) (by decide : 4 > 0)) (Nat.not_lt_of_le hn)⟩

theorem reported_eq_granted {x : Sess} (h : x.reportedBut 0) : x.reported = x.granted :=
  Vector.ext fun c hc => h.2 c hc (Nat.zero_le _)

/-- A packet reports the limit of the class whose turn it is. -/
theorem noteSent_reportedBut {x : Sess} {n : Nat} (t : Nat) (h : x.reportedBut (n + 1)) :
    (x.noteSent t).reportedBut n := by
  obtain ⟨hturn, hrest⟩ := h
  refine ⟨Nat.mod_lt _ (by decide), fun c hc hn => ?_⟩
  simp only [Sess.noteSent] at hn ⊢
  by_cases hcls : x.reportTurn = c
  · subst hcls
    simp [hc]
  · rw [Vector.getElem_setIfInBounds_ne _ hcls]
    exact hrest c hc (by omega)

/-- As many packets as there are classes left to report bring the peer up to date. -/
theorem reportLimits_sess (n : Nat) (s : State) {i : Nat} (hi : i < 8) (hopen : (s.sess i).isOpen = true)
    (h : (s.sess i).reportedBut n) : ((s.reportLimits n i).sess i).granted = (s.sess i).granted ∧
      ((s.reportLimits n i).sess i).reported = (s.sess i).granted := by
  induction n generalizing s with
  | zero => exact ⟨rfl, reported_eq_granted h⟩
  | succ n ih =>
    unfold State.reportLimits
    dsimp only
    split
    case isTrue =>
      have hsent := sendNoSeq_sess_same s hi
      have hgranted : ((s.sendNoSeq i).sess i).granted = (s.sess i).granted := by rw [hsent]; rfl
      rw [← hgranted]
      refine ih _ ?_ ?_
      · rw [hsent]
        exact hopen
      · rw [hsent]
        exact noteSent_reportedBut _ h
    case isFalse hall =>
      refine ⟨rfl, Eq.symm (Classical.not_not.mp fun hne => hall ?_)⟩
      rw [hopen, decide_eq_true hne, Bool.and_true]

theorem reportLimits_sess_ne (n : Nat) (s : State) {i j : Nat} (h : j ≠ i) :
    (s.reportLimits n i).sess j = s.sess j := by
  induction n generalizing s with
  | zero => rfl
  | succ n ih =>
    unfold State.reportLimits
    dsimp only
    split
    · rw [ih, sendNoSeq_sess_ne _ h]
    · rfl

@[simp] theorem reportLimits_ov (s : State) (n i k : Nat) : (s.reportLimits n i).ov k = s.ov k :=
  reportLimits_only.ov rfl k

/-- Settles O14: a retransmission changes its packet and its session, four packets report the limits of the four
classes, and the end of a session is its record and a free slot. Retransmissions wrap as assumption log 9 says. -/
theorem klpTimeoutsAct : Obligations.KlpTimeoutsAct := by
  refine ⟨?below, ?limit, ?credit, ?timeout⟩
  case below =>
    intro t se seq p s hp hretx
    have hsess := (s.atTime t).setSess_sess_same se ((s.sess se).resent seq (s.atTime t).now) se.isLt
    refine ⟨_, exec_retransmitTimeout_of_below hp hretx, by rw [hsess]; rfl, by rw [hsess]; rfl, by rw [hsess]; rfl,
      fun j hj => ?_, fun k => rfl⟩
    exact (s.atTime t).setSess_sess_ne se _ (Fin.val_ne_of_ne hj)
  case limit =>
    intro t se seq p s hp hretx
    exact exec_retransmitTimeout_of_limit hp hretx
  case credit =>
    intro t se s hopen hturn
    obtain ⟨hgranted, hreported⟩ := reportLimits_sess 4 (s.atTime t) se.isLt hopen (reportedBut_four hturn)
    exact ⟨_, exec_creditUpdateDue t se s, hgranted, hreported,
      fun j hj => reportLimits_sess_ne 4 _ (Fin.val_ne_of_ne hj), fun k => reportLimits_ov _ _ _ _⟩
  case timeout =>
    intro t se s hopen
    have hsess := endSession_sess_same (s := s.atTime t) errTimeout se.isLt hopen
    obtain ⟨hnum, hrec⟩ := endSession_log (s := s.atTime t) errTimeout hopen
    exact ⟨_, exec_sessionTimeout t se s, by rw [hsess]; rfl, by rw [hsess]; rfl, by rw [hsess]; rfl,
      by rw [hsess]; rfl, hnum, hrec, fun j hj => endSession_sess_ne _ _ (Fin.val_ne_of_ne hj),
      fun k => endSession_ov _ _ _ _⟩

/-! #### States that meet the premises -/

/-- The device after reset with a packet on slot 0 that has been sent again `n` times and is awaited still. -/
def awaitingAck (n : Nat) : State := State.reset.setSess 0 { Sess.free with
  isOpen := true, unacked := [⟨0, 0, false, 0x11, [], 0, n, 1000, false, false⟩] }

theorem odDefault_klp_retx_limit : odDefault Od.klp_config.klp_retx_limit = .int 16 := by decide +kernel

/-- Any count of retransmissions is met, those below the default limit and those at it, on a session that is open. -/
theorem klpTimeoutsAct_premises_met (n : Nat) :
    (∃ p, ((awaitingAck n).sess 0).unacked.find? (fun p => decide (p.seq = 0) && !p.sacked) = some p ∧ p.retx = n) ∧
    (awaitingAck n).on Od.klp_config.klp_retx_limit = 16 ∧ ((awaitingAck n).sess 0).isOpen = true ∧
    ((awaitingAck n).sess 0).reportTurn < 4 := by
  have hlimit : (awaitingAck n).on Od.klp_config.klp_retx_limit = 16 := by
    rw [State.on, awaitingAck, State.setSess_ov, State.reset_ov, odDefault_klp_retx_limit]
    rfl
  exact ⟨⟨_, rfl, rfl⟩, hlimit, rfl, Nat.zero_lt_succ 3⟩

end Sys2Proof.Machine

namespace Sys2Proof.Machine

/-! ### Packets and acknowledgements (R127 to R139, R145) -/

theorem eq_of_next {o : Host.Outcome State Fault Refusal} {a b : State} (ha : o = .next a) (hb : o = .next b) :
    a = b := Host.Outcome.next.inj (ha.symm.trans hb)

theorem serialDist_self (n a : Nat) : serialDist n a a = 0 := by
  have h : a + 2 ^ n - a % 2 ^ n = 2 ^ n * (a / 2 ^ n + 1) := by
    have hdiv := Nat.div_add_mod a (2 ^ n)
    rw [Nat.mul_succ]
    omega
  rw [serialDist, h, Nat.mul_mod_right]

/-- A frame has come in at a port and is counted (R193); the count wraps as assumption log 9 says. -/
abbrev State.frameIn (s : State) (t port : Nat) : State := (s.atTime t).inc64 (Od.net_port.rx_frames port)

theorem frameIn_ov_ne (s : State) (t : Nat) {port k : Nat} (h : k ≠ Od.net_port.rx_frames port) :
    (s.frameIn t port).ov k = s.ov k := (s.atTime t).ov_inc64_ne h

theorem frameIn_knownPort (s : State) (t p port addr : Nat) (x : Sess) :
    (s.frameIn t p).knownPort x port addr = s.knownPort x port addr := by
  have hmode : (s.frameIn t p).on Od.redundancy.redundancy_mode = s.on Od.redundancy.redundancy_mode :=
    State.on_of_ov (frameIn_ov_ne s t (portKey_ne (by decide)).symm)
  unfold State.knownPort
  rw [hmode]

/-- A packet fails the checks of its header: its form, its session and epoch, or the port it came in at. -/
def State.refusesPacket (s : State) (port addr : Nat) (data : List Byte) : Prop :=
  let h := parseKlp data
  data.length < 32 ∨ h.magic ≠ 0x4C4B ∨ h.version ≠ 1 ∨ 8 ≤ h.sess ∨ (s.sess h.sess).isOpen = false ∨
    h.epoch ≠ (s.sess h.sess).epoch ∨ h.len ≠ data.length - 32 ∨ s.knownPort (s.sess h.sess) port addr = false

/-- The packet a header announces, as the receiver keeps it. -/
def KlpHeader.packet (h : KlpHeader) (port : Nat) (payload : List Byte) : RxPkt :=
  { seq := h.seq, cls := h.cls, more := h.more, mtype := h.mtype, port := port, payload := payload }

/-- The session that has taken a packet within its credit: what is in sequence is delivered, and an acknowledgement is
due. -/
def Sess.accepted (x : Sess) (p : RxPkt) : Sess :=
  let y := { x with rxHeld := insertRx x.rxNext p x.rxHeld }
  { y.deliver y.rxHeld.length with ackDue := true }

/-- The session is in the state its peer's ack, sack and credit fields leave. -/
def State.heard (s : State) (t port addr : Nat) (h : KlpHeader) : State :=
  ((s.frameIn t port).setSess h.sess ((s.sess h.sess).learn port addr)).takeFields h.sess h.ack h.sack h.limit
    h.limitCls

/-- What becomes of a packet after its fields are taken (R129 to R137). -/
def State.receive (m : State) (port : Nat) (data : List Byte) : Host.Outcome State Fault Refusal :=
  let h := parseKlp data
  let i := h.sess
  let x := m.sess i
  if h.noseq ∨ x.isOpen = false then ok m
  else if clsToDevice h.mtype ≠ some h.cls then ok (m.sendError i errClass h.mtype h.seq)
  else if 64 < serialDist 32 h.seq x.rxNext ∨ x.rxHeld.any (fun p => p.seq = h.seq) then
    ok ((m.inc32 (Od.net_port.duplicates_discarded port)).sendNoSeq i)
  else if x.granted.toList.getD h.cls 0 < x.consumed.toList.getD h.cls 0 +
      ((x.rxHeld.filter (fun p => p.cls = h.cls)).map (fun p => creditsOf p.payload.length)).sum + creditsOf h.len then
    let s := (m.setSess i { x with creditBreaks := x.creditBreaks + 1 }).sendError i errCredit h.mtype h.seq
    ok (if 16 ≤ x.creditBreaks + 1 then s.endSession i errCredit else s)
  else
    let s := m.setSess i (x.accepted (h.packet port (data.drop 32)))
    ok (if decide (h.seq ≠ x.rxNext) || !x.rxHeld.isEmpty then s.sendNoSeq i else s)

section
variable {s : State} {addr : Nat} {data : List Byte} (t : Nat) (port : Fin 3)

/-- What a header is refused for does not lie in the count of frames. -/
theorem refusesPacket_frameIn :
    (s.frameIn t port).refusesPacket port addr data ↔ s.refusesPacket port addr data := by
  simp only [State.refusesPacket, frameIn_knownPort, State.inc64_sess, State.atTime_sess]

theorem exec_klpPacket_of_refused (h : s.refusesPacket port addr data) :
    exec (.klpPacket t port addr data) s = .next (s.frameIn t port) := if_pos ((refusesPacket_frameIn t port).mpr h)

theorem exec_klpPacket_of_valid (h : ¬ s.refusesPacket port addr data) :
    exec (.klpPacket t port addr data) s = (s.heard t port addr (parseKlp data)).receive port data :=
  if_neg (mt (refusesPacket_frameIn t port).mp h)

end

theorem heard_sess_ne (s : State) (t port addr : Nat) {h : KlpHeader} {j : Nat} (hj : j ≠ h.sess) :
    (s.heard t port addr h).sess j = s.sess j := by
  rw [State.heard, takeFields_sess_ne _ _ _ _ _ hj, State.setSess_sess_ne _ _ _ hj]
  rfl

theorem heard_ov_ne (s : State) (t : Nat) {port k : Nat} (addr : Nat) (h : KlpHeader)
    (hk : k ≠ Od.net_port.rx_frames port) : (s.heard t port addr h).ov k = s.ov k := by
  rw [State.heard, takeFields_ov, State.setSess_ov, frameIn_ov_ne s t hk]

/-! #### One packet after its fields are taken -/

section
variable {m : State} {port : Nat} {data : List Byte}

/-- Whatever becomes of a packet, the sessions it does not name stay as they are. -/
theorem receive_sess_ne (m : State) (port : Nat) (data : List Byte) :
    ∃ u, m.receive port data = .next u ∧ ∀ j, j ≠ (parseKlp data).sess → u.sess j = m.sess j := by
  unfold State.receive
  extract_lets h i x beyond next
  split
  case isTrue => exact ⟨_, rfl, fun _ _ => rfl⟩
  case isFalse =>
    split
    case isTrue => exact ⟨_, rfl, fun j hj => sendError_sess_ne m _ _ _ hj⟩
    case isFalse =>
      split
      case isTrue => exact ⟨_, rfl, fun j hj => sendNoSeq_sess_ne _ hj⟩
      case isFalse =>
        split
        case isTrue =>
          have hbeyond (j : Nat) (hj : j ≠ i) : beyond.sess j = m.sess j := by
            rw [sendError_sess_ne _ _ _ _ hj, State.setSess_sess_ne _ _ _ hj]
          refine ⟨_, rfl, fun j hj => ?_⟩
          split
          · rw [endSession_sess_ne _ _ hj, hbeyond j hj]
          · exact hbeyond j hj
        case isFalse =>
          have hnext (j : Nat) (hj : j ≠ i) : next.sess j = m.sess j := State.setSess_sess_ne _ _ _ hj
          refine ⟨_, rfl, fun j hj => ?_⟩
          split
          · rw [sendNoSeq_sess_ne _ hj, hnext j hj]
          · exact hnext j hj

theorem receive_of_noseq_or_closed
    (h : (parseKlp data).noseq = true ∨ (m.sess (parseKlp data).sess).isOpen = false) :
    m.receive port data = .next m := if_pos h

variable (hseq : (parseKlp data).noseq = false) (hopen : (m.sess (parseKlp data).sess).isOpen = true)
include hseq hopen

theorem sequenced_of_open : ¬ ((parseKlp data).noseq = true ∨ (m.sess (parseKlp data).sess).isOpen = false) := by
  rw [hseq, hopen]
  decide

theorem receive_of_wrong_class (h : clsToDevice (parseKlp data).mtype ≠ some (parseKlp data).cls) :
    m.receive port data =
      .next (m.sendError (parseKlp data).sess errClass (parseKlp data).mtype (parseKlp data).seq) :=
  (if_neg (sequenced_of_open hseq hopen)).trans (if_pos h)

variable (hcls : clsToDevice (parseKlp data).mtype = some (parseKlp data).cls)
include hcls

theorem receive_of_duplicate
    (h : 64 < serialDist 32 (parseKlp data).seq (m.sess (parseKlp data).sess).rxNext ∨
      (m.sess (parseKlp data).sess).rxHeld.any (fun p => p.seq = (parseKlp data).seq) = true) :
    m.receive port data =
      .next ((m.inc32 (Od.net_port.duplicates_discarded port)).sendNoSeq (parseKlp data).sess) :=
  (if_neg (sequenced_of_open hseq hopen)).trans ((if_neg (not_not_intro hcls)).trans (if_pos h))

/-- The packet in sequence with nothing held above it is taken, and its acknowledgement may wait. -/
theorem receive_of_next {x : Sess} (hx : m.sess (parseKlp data).sess = x) (hnext : (parseKlp data).seq = x.rxNext)
    (hheld : x.rxHeld = [])
    (hcredit : x.consumed.toList.getD (parseKlp data).cls 0 +
      ((x.rxHeld.filter (fun p => p.cls = (parseKlp data).cls)).map (fun p => creditsOf p.payload.length)).sum +
      creditsOf (parseKlp data).len ≤ x.granted.toList.getD (parseKlp data).cls 0) :
    m.receive port data = .next (m.setSess (parseKlp data).sess
      (x.accepted ((parseKlp data).packet port (data.drop 32)))) := by
  subst hx
  have hwindow : ¬ (64 < serialDist 32 (parseKlp data).seq (m.sess (parseKlp data).sess).rxNext ∨
      (m.sess (parseKlp data).sess).rxHeld.any (fun p => p.seq = (parseKlp data).seq) = true) := by
    rw [hnext, serialDist_self, hheld]
    simp
  have hnotAtOnce : ¬ ((decide ((parseKlp data).seq ≠ (m.sess (parseKlp data).sess).rxNext) ||
      !(m.sess (parseKlp data).sess).rxHeld.isEmpty) = true) := by
    rw [hheld, ← hnext]
    simp
  refine (if_neg (sequenced_of_open hseq hopen)).trans ((if_neg (not_not_intro hcls)).trans
    ((if_neg hwindow).trans ((if_neg (Nat.not_lt_of_le hcredit)).trans ?_)))
  exact congrArg Host.Outcome.next (if_neg hnotAtOnce)

end

/-- A discarded copy is counted and acknowledged at once: the session has nothing new, and no acknowledgement is due. -/
theorem duplicate_noted (m : State) (port : Nat) {i : Nat} (hi : i < 8) :
    let u := (m.inc32 (Od.net_port.duplicates_discarded port)).sendNoSeq i
    u.on (Od.net_port.duplicates_discarded port) = (m.on (Od.net_port.duplicates_discarded port) + 1) % 2 ^ 32 ∧
    (u.sess i).rxNext = (m.sess i).rxNext ∧ (u.sess i).inbox = (m.sess i).inbox ∧ (u.sess i).ackDue = false := by
  intro u
  have hsent : u.sess i = (m.sess i).noteSent m.now := sendNoSeq_sess_same _ hi
  rw [hsent]
  exact ⟨(State.on_of_ov (sendNoSeq_ov _ _ _)).trans (State.on_inc32_same _ _), rfl, rfl, rfl⟩

/-- The packet in sequence moves the ack and its class's credits on; a message that it holds alone is delivered. -/
theorem accepted_of_next {x : Sess} {p : RxPkt} (hnext : p.seq = x.rxNext) (hheld : x.rxHeld = []) :
    ∃ fr inb, x.accepted p = { x with
        rxHeld := [], rxNext := (x.rxNext + 1) % 2 ^ 32, frags := fr, inbox := inb, ackDue := true,
        consumed := addAt x.consumed p.cls (creditsOf p.payload.length) } ∧
      (p.more = false → x.frags = [] → p.payload.length ≤ 16384 → inb = x.inbox ++ [⟨p.cls, p.mtype, p.seq,
        creditsOf p.payload.length, p.port, x.role, x.node, x.epoch, p.payload⟩]) := by
  simp only [Sess.accepted, hheld, insertRx, List.length_singleton, Sess.deliver, hnext, if_true]
  cases hmore : p.more
  case true => exact ⟨_, _, rfl, fun h => Bool.noConfusion h⟩
  case false =>
    simp only [Bool.false_eq_true, if_false]
    split
    case isTrue =>
      refine ⟨_, _, rfl, fun _ hfrags _ => ?_⟩
      simp [hfrags]
    case isFalse hlong =>
      refine ⟨_, _, rfl, fun _ hfrags hlen => absurd ?_ hlong⟩
      simpa [hfrags] using hlen

/-! #### NOP and the NOSEQ packets the device sends (R129, R134, R145) -/

theorem exec_nop_of_client {t : Nat} {se : Fin 8} {port : Fin 3} {addr epoch : Nat} {s : State}
    (ack sack limit cls : Nat) (hopen : (s.sess se).isOpen = true) (hepoch : (s.sess se).epoch = epoch)
    (hport : s.knownPort (s.sess se) port addr = true) :
    exec (.nop t se port addr epoch ack sack limit cls) s = .next (((s.frameIn t port).setSess se
      ((s.sess se).learn port addr)).takeFields se ack sack limit cls) :=
  if_pos ⟨hopen, hepoch, (frameIn_knownPort s t port port addr (s.sess se)).trans hport⟩

theorem exec_ackDue_of_due (t : Nat) {se : Fin 8} {s : State} (hopen : (s.sess se).isOpen = true)
    (hdue : (s.sess se).ackDue = true) : exec (.ackDue t se) s = .next ((s.atTime t).sendNoSeq se) := by
  refine congrArg Host.Outcome.next (if_pos ?_)
  rw [State.atTime_sess, hopen, hdue, Bool.and_true]

theorem exec_keepaliveDue_of_open (t : Nat) {se : Fin 8} {s : State} (hopen : (s.sess se).isOpen = true) :
    exec (.keepaliveDue t se) s = .next ((s.atTime t).sendNoSeq se) :=
  congrArg Host.Outcome.next (if_pos hopen)

/-- Settles O13: a refused packet is counted and no more, and one that passes is heard and then received; the counts
wrap as assumption log 9 says. -/
theorem klpPacketsAct : Obligations.KlpPacketsAct := by
  refine ⟨?refused, ?valid, ?nop, ?ackDue, ?keepalive⟩
  case refused =>
    intro t port addr data s h hbad
    exact ⟨_, exec_klpPacket_of_refused t port hbad, rfl, State.on_inc64_same _ _, fun k hk => frameIn_ov_ne s t hk⟩
  case valid =>
    intro t port addr data s h i m x held hlen hmagic hversion hi hopen hepoch hpay hport
    have hvalid : ¬ s.refusesPacket port addr data := by
      rintro (h | h | h | h | h | h | h | h)
      · exact Nat.not_lt_of_le hlen h
      · exact h hmagic
      · exact h hversion
      · exact Nat.not_lt_of_le h hi
      · exact Bool.noConfusion (hopen.symm.trans h)
      · exact h hepoch
      · exact h hpay
      · exact Bool.noConfusion (hport.symm.trans h)
    have hexec : exec (.klpPacket t port addr data) s = m.receive port data := exec_klpPacket_of_valid t port hvalid
    have hheard (j : Nat) (hj : j ≠ i) : m.sess j = s.sess j := heard_sess_ne s t port addr hj
    have hcount : m.on (Od.net_port.duplicates_discarded port) = s.on (Od.net_port.duplicates_discarded port) :=
      State.on_of_ov (heard_ov_ne s t addr h (pllKey_ne (by decide)))
    clear_value m
    obtain ⟨u, hu, hother⟩ := receive_sess_ne m port data
    refine ⟨u, hexec.trans hu, fun j hj => (hother j hj).trans (hheard j hj), fun hend => ?noseq,
      fun hseq hx hcls => ?wrongClass, fun hseq hx hcls hdup => ?duplicate,
      fun hseq hx hcls hnext hheld hcredit => ?inSequence⟩
    case noseq => exact eq_of_next hu (receive_of_noseq_or_closed hend)
    case wrongClass => exact eq_of_next hu (receive_of_wrong_class hseq hx hcls)
    case duplicate =>
      rw [eq_of_next hu (receive_of_duplicate hseq hx hcls hdup), ← hcount]
      exact duplicate_noted m port hi
    case inSequence =>
      obtain ⟨fr, inb, hacc, hinb⟩ := accepted_of_next (p := h.packet port (data.drop 32)) hnext hheld
      rw [eq_of_next hu (receive_of_next hseq hx hcls rfl hnext hheld hcredit), State.setSess_sess_same _ _ _ hi, hacc]
      exact ⟨rfl, rfl, rfl, hinb⟩
  case nop =>
    intro t se port addr epoch ack sack limit cls s hopen hepoch hport
    refine ⟨_, exec_nop_of_client ack sack limit cls hopen hepoch hport, rfl, fun j hj => ?_⟩
    rw [takeFields_sess_ne _ _ _ _ _ (Fin.val_ne_of_ne hj), State.setSess_sess_ne _ _ _ (Fin.val_ne_of_ne hj)]
    rfl
  case ackDue =>
    intro t se s hopen hdue
    have hsent := sendNoSeq_sess_same (s.atTime t) se.isLt
    exact ⟨_, exec_ackDue_of_due t hopen hdue, by rw [hsent]; rfl, by rw [hsent]; rfl, sendNoSeq_lastNoSeq _ _,
      fun j hj => sendNoSeq_sess_ne _ (Fin.val_ne_of_ne hj), fun k => sendNoSeq_ov _ _ _⟩
  case keepalive =>
    intro t se s hopen
    have hsent := sendNoSeq_sess_same (s.atTime t) se.isLt
    exact ⟨_, exec_keepaliveDue_of_open t hopen, by rw [hsent]; rfl, sendNoSeq_lastNoSeq _ _,
      fun j hj => sendNoSeq_sess_ne _ (Fin.val_ne_of_ne hj), fun k => sendNoSeq_ov _ _ _⟩

/-! #### A state and packets that meet the premises -/

/-- The device after reset with the session of a client known at port 0 on slot 0. -/
def clientOpen : State := State.reset.setSess 0 { Sess.free with
  isOpen := true, addrs := [(0, 7)], granted := Vector.mk #[256, 4096, 16384, 0] rfl }

/-- A packet of that client: class CTRL, no payload. -/
def clientPacket (mtype seq : Nat) : List Byte := klpHeader 0 Sess.free 0 mtype 0 seq

/-- Three packets of type `p.1` and sequence `p.2` are valid on an open session with credit to spare: the first is the
next one, the second lies outside the window, and the third has a type of another class. -/
theorem klpPacketsAct_premises_met : clsToDevice 0x10 = some 0 ∧ 64 < serialDist 32 100 0 ∧ clsToDevice 0x20 ≠ some 0 ∧
    ∀ p ∈ [(0x10, 0), (0x10, 100), (0x20, 0)],
    let h := parseKlp (clientPacket p.1 p.2)
    let x := (clientOpen.heard 0 0 7 h).sess 0
    (clientPacket p.1 p.2).length = 32 ∧ h.magic = 0x4C4B ∧ h.version = 1 ∧ h.sess = 0 ∧
      h.epoch = (clientOpen.sess 0).epoch ∧ h.len = 0 ∧ clientOpen.knownPort (clientOpen.sess 0) 0 7 = true ∧
      h.noseq = false ∧ h.cls = 0 ∧ h.mtype = p.1 ∧ h.seq = p.2 ∧ x.isOpen = true ∧ x.rxNext = 0 ∧
      x.rxHeld = [] ∧ x.frags = [] ∧ x.granted.toList.getD 0 0 = 256 ∧ x.consumed.toList.getD 0 0 = 0 := by
  decide +kernel

end Sys2Proof.Machine

namespace Sys2Proof.Machine

/-! ### Little-endian fields (R4) -/

theorem leNat_leBytes (w n : Nat) : leNat (leBytes w n) = n % 256 ^ w := by
  induction w generalizing n with
  | zero => rw [Nat.pow_zero, Nat.mod_one]; rfl
  | succ w ih =>
    rw [leBytes, leNat, ih, byteOf, BitVec.toNat_ofNat, Nat.pow_succ' (m := 256)]
    exact Nat.mod_mul.symm

theorem length_leBytes (w n : Nat) : (leBytes w n).length = w := by
  induction w generalizing n with
  | zero => rfl
  | succ w ih => rw [leBytes, List.length_cons, ih]

theorem leAt_leBytes_append (w n : Nat) (b : List Byte) : leAt (leBytes w n ++ b) 0 w = n % 256 ^ w := by
  rw [leAt, slice, List.drop_zero, List.take_left' (length_leBytes w n), leNat_leBytes]

theorem leAt_append_right {a : List Byte} {off : Nat} (b : List Byte) (len : Nat) (h : a.length = off) :
    leAt (a ++ b) off len = leAt b 0 len := by
  rw [leAt, slice, List.drop_left' h]
  rfl

/-! ### OPEN (R140 to R144, R169 to R171) -/

theorem frameIn_obytes_ne (s : State) (t : Nat) {port k : Nat} (h : k ≠ Od.net_port.rx_frames port) :
    (s.frameIn t port).obytes k = s.obytes k := State.obytes_of_ov (frameIn_ov_ne s t h)

theorem frameIn_auth_failures (s : State) (t port : Nat) :
    (s.frameIn t port).on Od.role_keys.auth_failures = s.on Od.role_keys.auth_failures :=
  State.on_of_ov (frameIn_ov_ne s t (portKey_ne (by decide)).symm)

/-- The role that an OPEN asks for is given: it needs no credential, or its credential verifies (R169 to R171). -/
def State.givesRole (s : State) (o : OpenReq) : Bool :=
  s.roleFree o.role || (s.credOk o && (decide (o.role ≠ 5) || s.islandPresent))

theorem frameIn_roleKey (s : State) (t port role : Nat) : (s.frameIn t port).roleKey role = s.roleKey role := by
  have hkey (k : Nat) (hk : Od.net_port.rx_frames 0 % 256 ≠ k % 256) : (s.frameIn t port).obytes k = s.obytes k :=
    frameIn_obytes_ne s t (portKey_ne hk).symm
  simp only [State.roleKey, hkey Od.role_keys.key_opr (by decide), hkey Od.role_keys.key_eng (by decide),
    hkey Od.role_keys.key_svc (by decide)]

/-- Keys, stamps, the serial number and the features do not lie in the count of frames. -/
theorem frameIn_givesRole (s : State) (t port : Nat) (o : OpenReq) :
    (s.frameIn t port).givesRole o = s.givesRole o := by
  have hserial : (s.frameIn t port).obytes Od.device_identity.serial_number =
      s.obytes Od.device_identity.serial_number := frameIn_obytes_ne s t (portKey_ne (by decide)).symm
  have hstamps : (s.frameIn t port).obytes Od.role_keys.last_stamps = s.obytes Od.role_keys.last_stamps :=
    frameIn_obytes_ne s t (portKey_ne (by decide)).symm
  have hfeatures : (s.frameIn t port).on Od.device_identity.features = s.on Od.device_identity.features :=
    State.on_of_ov (frameIn_ov_ne s t (portKey_ne (by decide)).symm)
  simp only [State.givesRole, State.roleFree, State.credOk, State.islandPresent, frameIn_roleKey, hserial, hstamps,
    hfeatures]

/-! #### Answers -/

/-- The answer to a rejected OPEN begins with its nonce and the code (R142). -/
theorem openReject_answer (s : State) (addr : Nat) (o : OpenReq) (code : Nat) :
    ∃ b, (s.openReject addr o code).net.lastReject = some (addr, b) ∧ leAt b 0 4 = o.nonce % 2 ^ 32 ∧
      leAt b 4 1 = code % 256 := by
  refine ⟨_, rfl, ?_, ?_⟩ <;> simp only [State.openAckBody, List.append_assoc]
  · exact leAt_leBytes_append 4 o.nonce _
  · rw [leAt_append_right _ _ (length_leBytes 4 o.nonce)]
    exact leAt_leBytes_append 1 code _

/-- A slot given: the session an OPEN leaves in it, before what waits is sent again. -/
structure Sess.OpenedBy (y : Sess) (s : State) (port addr : Nat) (o : OpenReq) (i : Nat) : Prop where
  isOpen : y.isOpen = true
  node : y.node = o.node
  role : y.role = o.role
  nonce : y.nonce = o.nonce
  openFrom : y.openFrom = addr
  addrs : y.addrs = [(port, addr)]
  epoch : y.epoch = if (s.sess i).used then ((s.sess i).epoch + 1) % 256 else 0
  maxPayload : y.maxPayload = min o.maxPayload (s.on Od.klp_config.klp_max_payload)
  rxNext : y.rxNext = 0

/-- The slot `i` holds `y`, and its session is in the Change Log. -/
def State.enterSess (s : State) (port i : Nat) (y : Sess) : State :=
  (s.setSess i y).logKind 3 ((s.setSess i y).writerOf i port) []

/-- A first OPEN and a restart leave the same session save for its subscriptions and events (R143). -/
theorem openOn_eq (s : State) (port addr : Nat) (o : OpenReq) (i : Nat) :
    ∃ y : Sess, s.openOn port addr o i = (s.enterSess port i y).pump i ∧ y.OpenedBy s port addr o i := by
  unfold State.openOn
  extract_lets x epoch again maxp ack resend grants free first y opened logged
  refine ⟨y, rfl, ?_⟩
  have hfirst : first.OpenedBy s port addr o i := ⟨rfl, rfl, rfl, rfl, rfl, rfl, rfl, rfl, rfl⟩
  unfold y
  split
  · exact { hfirst with }
  · exact hfirst

theorem enterSess_sess_same (s : State) {i : Nat} (port : Nat) (y : Sess) (hi : i < 8) :
    (s.enterSess port i y).sess i = y := s.setSess_sess_same i y hi

theorem enterSess_sess_ne (s : State) {i j : Nat} (port : Nat) (y : Sess) (h : j ≠ i) :
    (s.enterSess port i y).sess j = s.sess j := s.setSess_sess_ne i y h

theorem enterSess_ov (s : State) (port i : Nat) (y : Sess) (k : Nat) : (s.enterSess port i y).ov k = s.ov k := rfl

/-- The record of a session that begins names its slot and role (R183). -/
theorem enterSess_log (s : State) {i : Nat} (port : Nat) (y : Sess) (hi : i < 8) :
    (s.enterSess port i y).log.nextNum = s.log.nextNum + 1 ∧
    ∃ r : LogRec, (s.enterSess port i y).log.program = s.log.program ++ [⟨none, [], [], [r]⟩] ∧
      r.num = s.log.nextNum ∧ r.kind = 3 ∧ r.sess = i ∧ r.role = y.role := by
  obtain ⟨hnum, r, hprogram, hr, hkind, hslot, hrole, -⟩ :=
    logKind_program (s.setSess i y) 3 ((s.setSess i y).writerOf i port) []
  refine ⟨hnum, r, hprogram, hr, hkind, hslot, hrole.trans ?_⟩
  exact congrArg Sess.role (s.setSess_sess_same i y hi)

theorem keepStamp_ov_ne (s : State) (o : OpenReq) {k : Nat} (h : k ≠ Od.role_keys.last_stamps) :
    (s.keepStamp o).ov k = s.ov k := s.ov_setv_ne _ h

/-! #### The checks of an OPEN -/

/-- The checks of a new OPEN, from the form of its credential to the role (R141, R169 to R171), in the order of
assumption log 112. -/
def State.judgeOpen (m : State) (port addr : Nat) (o : OpenReq) : Host.Outcome State Fault Refusal :=
  if o.credential.length ≠ 0 ∧ o.credential.length ≠ 40 then ok (m.openReject addr o errMalformed)
  else if 5 < o.role ∨ (8 ≤ o.reqSession ∧ o.reqSession ≠ 255) then ok (m.openReject addr o errRange)
  else if m.mgmt.recovery ∧ o.role ≠ 3 ∧ o.role ≠ 4 then ok (m.openReject addr o errAuth)
  else
    match m.openSlot o with
    | none => ok (m.openReject addr o errSessionsFull)
    | some i =>
      if m.roleFree o.role then ok (m.openOn port addr o i)
      else if m.credOk o && (decide (o.role ≠ 5) || m.islandPresent) then ok ((m.keepStamp o).openOn port addr o i)
      else ok (((m.refuse addr).inc32 Od.role_keys.auth_failures).openReject addr o errAuth)

section
variable {s : State} {addr : Nat} (t : Nat) (port : Fin 3) (o : OpenReq)

/-- In recovery an OPEN that does not come in at NETM is counted and no more (R726). -/
theorem exec_open_of_recovery (hrec : s.mgmt.recovery = true) (hport : port ≠ 2) :
    exec (.open t port addr o) s = .next (s.frameIn t port) := if_pos ⟨hrec, Fin.val_ne_of_ne hport⟩

variable (hrec : s.mgmt.recovery = false)
include hrec

theorem not_recovery_only {p : Prop} : ¬ (s.mgmt.recovery = true ∧ p) :=
  fun h => Bool.noConfusion (hrec.symm.trans h.1)

theorem exec_open_of_locked (hlock : (s.atTime t).locked addr = true) : exec (.open t port addr o) s =
    .next (((s.frameIn t port).inc32 Od.role_keys.auth_failures).openReject addr o errAuth) :=
  (if_neg (not_recovery_only hrec)).trans (if_pos hlock)

/-- An OPEN that repeats no accepted one, from an address that is not locked out, is judged. -/
theorem exec_open_of_new (hlock : (s.atTime t).locked addr = false)
    (hnew : ∀ i, i < 8 → ¬ ((s.sess i).isOpen = true ∧ (s.sess i).openFrom = addr ∧ (s.sess i).nonce = o.nonce)) :
    exec (.open t port addr o) s = (s.frameIn t port).judgeOpen port addr o := by
  have hrepeat : ¬ ((List.range 8).any (fun i => (s.sess i).isOpen && decide ((s.sess i).openFrom = addr) &&
      decide ((s.sess i).nonce = o.nonce)) = true) := by
    rw [List.any_eq_true]
    rintro ⟨i, hi, h⟩
    exact hnew i (List.mem_range.mp hi) (by simpa [and_assoc] using h)
  exact (if_neg (not_recovery_only hrec)).trans ((if_neg (Bool.eq_false_iff.mp hlock)).trans (if_neg hrepeat))

/-- Outside of recovery a slot is one of the eight. -/
theorem openSlot_lt {i : Nat} (h : s.openSlot o = some i) : i < 8 := by
  unfold State.openSlot at h
  rw [hrec] at h
  simp only [Bool.false_eq_true, if_false] at h
  split at h
  case isTrue hslot =>
    split at h
    · rwa [← Option.some.inj h]
    · cases h
  case isFalse => exact List.mem_range.mp (List.mem_of_find?_eq_some h)

/-- A credential of a wrong length, a role or a slot out of range, or no slot to give: the code answered is that of the
first that applies. -/
theorem judgeOpen_of_rejected
    (h : (o.credential.length ≠ 0 ∧ o.credential.length ≠ 40) ∨ 5 < o.role ∨
      (8 ≤ o.reqSession ∧ o.reqSession ≠ 255) ∨ s.openSlot o = none) :
    s.judgeOpen port addr o = .next (s.openReject addr o
      (if o.credential.length ≠ 0 ∧ o.credential.length ≠ 40 then errMalformed
      else if 5 < o.role ∨ (8 ≤ o.reqSession ∧ o.reqSession ≠ 255) then errRange else errSessionsFull)) := by
  unfold State.judgeOpen
  split
  case isTrue => rfl
  case isFalse hcred =>
    split
    case isTrue => rfl
    case isFalse hrange =>
      have hslot : s.openSlot o = none :=
        ((h.resolve_left hcred).resolve_left fun hrole => hrange (.inl hrole)).resolve_left
          fun hreq => hrange (.inr hreq)
      rw [if_neg (not_recovery_only hrec), hslot]
      rfl

variable {o} (hcred : o.credential.length = 0 ∨ o.credential.length = 40) (hrole : o.role ≤ 5)
  (hreq : o.reqSession < 8 ∨ o.reqSession = 255) {i : Nat} (hslot : s.openSlot o = some i)
include hcred hrole hreq hslot

/-- With a slot to give, the role decides. -/
theorem judgeOpen_of_slot : s.judgeOpen port addr o =
    if s.roleFree o.role then ok (s.openOn port addr o i)
    else if s.credOk o && (decide (o.role ≠ 5) || s.islandPresent) then ok ((s.keepStamp o).openOn port addr o i)
    else ok (((s.refuse addr).inc32 Od.role_keys.auth_failures).openReject addr o errAuth) := by
  have hform : ¬ (o.credential.length ≠ 0 ∧ o.credential.length ≠ 40) := fun hbad => hcred.elim hbad.1 hbad.2
  have hrange : ¬ (5 < o.role ∨ (8 ≤ o.reqSession ∧ o.reqSession ≠ 255)) := by omega
  rw [State.judgeOpen, if_neg hform, if_neg hrange, if_neg (not_recovery_only hrec), hslot]

/-- A role that is given opens the slot; the stamp of a credential that was needed is kept. -/
theorem judgeOpen_of_given (h : s.givesRole o = true) :
    ∃ b, (b = s ∨ b = s.keepStamp o) ∧ s.judgeOpen port addr o = .next (b.openOn port addr o i) := by
  rw [judgeOpen_of_slot port hrec hcred hrole hreq hslot]
  split
  case isTrue => exact ⟨s, .inl rfl, rfl⟩
  case isFalse hfree =>
    refine ⟨s.keepStamp o, .inr rfl, if_pos ?_⟩
    rwa [State.givesRole, Bool.eq_false_iff.mpr hfree, Bool.false_or] at h

theorem judgeOpen_of_not_given (h : s.givesRole o = false) : s.judgeOpen port addr o =
    .next (((s.refuse addr).inc32 Od.role_keys.auth_failures).openReject addr o errAuth) := by
  obtain ⟨hfree, hcredential⟩ := Bool.or_eq_false_iff.mp h
  rw [judgeOpen_of_slot port hrec hcred hrole hreq hslot, hfree, hcredential]
  rfl

end

/-! ### CLOSE and the end of a lockout (R145, R146, R171) -/

theorem take_of_inbox_nil {s : State} {i : Nat} (mtype : Nat) (h : (s.sess i).inbox = []) : s.take i mtype =
    (s, ⟨(s.sess i).isOpen, ⟨((s.sess i).addrs.headD (2, 0)).1, i, (s.sess i).role, (s.sess i).node,
      (s.sess i).epoch⟩, (s.sess i).rxNext⟩) := by
  simp only [State.take, h, takeType]

theorem exec_close_of_inbox_nil (t : Nat) {se : Fin 8} (req : Nat) {s : State} (h : (s.sess se).inbox = []) :
    exec (.close t se req) s = .next ((s.atTime t).endSession se errOk) := by
  have htake := take_of_inbox_nil (s := s.atTime t) 0x03 h
  change execClose t se req s = _
  simp only [execClose, htake, if_true]
  rfl

theorem exec_authLockoutExpiry (t addr : Nat) (s : State) : exec (.authLockoutExpiry t addr) s =
    .next { s.atTime t with net := { s.net with lockouts := s.net.lockouts.filter (fun l => l.addr ≠ addr) } } := rfl

theorem findLock_of_absent {addr : Nat} {ls : List Lockout} (h : ∀ l ∈ ls, l.addr ≠ addr) :
    findLock addr ls = ⟨addr, [], none⟩ := by
  induction ls with
  | nil => rfl
  | cons l ls ih =>
    rw [findLock, if_neg (h l List.mem_cons_self)]
    exact ih fun x hx => h x (List.mem_cons_of_mem l hx)

theorem not_locked_of_absent {s : State} {addr : Nat} (h : ∀ l ∈ s.net.lockouts, l.addr ≠ addr) :
    s.locked addr = false := by
  rw [State.locked, findLock_of_absent h]

/-- Settles O15: a rejected OPEN is an answer and no session, a given one is the session entered in its slot and in the
Change Log, and CLOSE is the end of a session. Refusals wrap as assumption log 9 says. -/
theorem sessionsAct : Obligations.SessionsAct := by
  refine ⟨?locked, ?rejected, ?given, ?notGiven, ?recovery, ?close, ?lockout⟩
  case locked =>
    intro t port addr o s hrec hlock
    obtain ⟨b, hb, hnonce, hcode⟩ :=
      openReject_answer ((s.frameIn t port).inc32 Od.role_keys.auth_failures) addr o errAuth
    refine ⟨_, exec_open_of_locked t port o hrec hlock, rfl, ?_, b, hb, hnonce, hcode⟩
    rw [← frameIn_auth_failures s t port]
    exact State.on_inc32_same _ _
  case rejected =>
    intro t port addr o s hrec hlock hnew hbad
    have hjudge := judgeOpen_of_rejected (s := s.frameIn t port) (addr := addr) port o hrec hbad
    obtain ⟨b, hb, -, hcode⟩ := openReject_answer (s.frameIn t port) addr o
      (if o.credential.length ≠ 0 ∧ o.credential.length ≠ 40 then errMalformed
      else if 5 < o.role ∨ (8 ≤ o.reqSession ∧ o.reqSession ≠ 255) then errRange else errSessionsFull)
    refine ⟨_, (exec_open_of_new t port o hrec hlock hnew).trans hjudge, rfl, b, hb, hcode.trans (Nat.mod_eq_of_lt ?_)⟩
    split
    · decide
    · split <;> decide
  case given =>
    intro t port addr o i s hrec hlock hnew hcred hrole hreq hslot hgive
    have hi : i < 8 := openSlot_lt o hrec hslot
    obtain ⟨b, hb, hjudge⟩ := judgeOpen_of_given (s := s.frameIn t port) (addr := addr) port hrec hcred hrole hreq hslot
      ((frameIn_givesRole s t port o).trans hgive)
    obtain ⟨y, hon, hy⟩ := openOn_eq b port addr o i
    have hsess (j : Nat) : b.sess j = s.sess j := by rcases hb with rfl | rfl <;> rfl
    have hlog : b.log = s.log := by rcases hb with rfl | rfl <;> rfl
    have hov (k : Nat) (hrx : k ≠ Od.net_port.rx_frames port) (hstamp : k ≠ Od.role_keys.last_stamps) :
        b.ov k = s.ov k := by
      rcases hb with rfl | rfl
      · exact frameIn_ov_ne s t hrx
      · exact (keepStamp_ov_ne _ o hstamp).trans (frameIn_ov_ne s t hrx)
    have hmax := State.on_of_ov (hov Od.klp_config.klp_max_payload (portKey_ne (by decide)).symm (by decide))
    have hepoch := hy.epoch
    have hpayload := hy.maxPayload
    obtain ⟨hnum, r, hprogram, hr, hkind, hrslot, hrrole⟩ := enterSess_log b port y hi
    rw [hlog] at hnum hprogram hr
    rw [hsess] at hepoch
    rw [hmax] at hpayload
    refine ⟨b.enterSess port i y, _, (exec_open_of_new t port o hrec hlock hnew).trans hjudge, hon, ?_⟩
    rw [enterSess_sess_same b port y hi, hon]
    refine ⟨hy.isOpen, hy.node, hy.role, hy.nonce, hy.openFrom, hy.addrs, hepoch, hpayload, hy.rxNext, hnum,
      ⟨r, hprogram, hr, hkind, hrslot, hrrole.trans hy.role⟩, fun j hj => ?_, fun k hrx hstamp => ?_⟩
    · rw [pump_sess_ne _ hj, enterSess_sess_ne _ _ _ hj, hsess]
    · rw [pump_ov, enterSess_ov, hov k hrx hstamp]
  case notGiven =>
    intro t port addr o i s hrec hlock hnew hcred hrole hreq hslot hgive
    have hjudge := judgeOpen_of_not_given (s := s.frameIn t port) (addr := addr) port hrec hcred hrole hreq hslot
      ((frameIn_givesRole s t port o).trans hgive)
    obtain ⟨b, hb, -, hcode⟩ :=
      openReject_answer (((s.frameIn t port).refuse addr).inc32 Od.role_keys.auth_failures) addr o errAuth
    refine ⟨_, (exec_open_of_new t port o hrec hlock hnew).trans hjudge, rfl, ?_, b, hb, hcode⟩
    rw [← frameIn_auth_failures s t port]
    exact State.on_inc32_same _ _
  case recovery =>
    intro t port addr o s hrec hport
    exact ⟨_, exec_open_of_recovery t port o hrec hport, rfl, State.on_inc64_same _ _⟩
  case close =>
    intro t se req s hopen hinbox
    have hsess := endSession_sess_same (s := s.atTime t) errOk se.isLt hopen
    obtain ⟨hnum, r, hprogram, -, hkind, hslot, hnew⟩ := endSession_log (s := s.atTime t) errOk hopen
    exact ⟨_, exec_close_of_inbox_nil t req hinbox, by rw [hsess]; rfl, by rw [hsess]; rfl, hnum,
      ⟨r, hprogram, hkind, hslot, hnew⟩, fun j hj => endSession_sess_ne _ _ (Fin.val_ne_of_ne hj),
      fun k => endSession_ov _ _ _ _⟩
  case lockout =>
    intro t addr s
    have hmem (l : Lockout) :
        l ∈ s.net.lockouts.filter (fun l => l.addr ≠ addr) ↔ l ∈ s.net.lockouts ∧ l.addr ≠ addr := by
      rw [List.mem_filter, decide_eq_true_iff]
    exact ⟨_, exec_authLockoutExpiry t addr s, not_locked_of_absent fun l hl => ((hmem l).mp hl).2, hmem, rfl,
      fun k => rfl⟩

/-! #### States and requests that meet the premises -/

/-- An OPEN that asks for a role and any slot, with no credential. -/
def openAs (role : Nat) : OpenReq :=
  { node := 1, role := role, reqSession := 255, maxPayload := 1408, nonce := 9, oldAck := 0, restart := false,
    grantCtrl := 256, grantItem := 0, grantBulk := 0, grantEvent := 256, credential := [] }

/-- The device after reset gives OBS to anyone and VND to no one without a credential, on slot 0; MET is the highest
role, and an address is locked out while its entry says so. -/
theorem sessionsAct_premises_met : State.reset.mgmt.recovery = false ∧ (State.reset.atTime 0).locked 7 = false ∧
    (∀ i, (State.reset.sess i).isOpen = false) ∧ State.reset.openSlot (openAs 0) = some 0 ∧
    State.reset.givesRole (openAs 0) = true ∧ State.reset.openSlot (openAs 4) = some 0 ∧
    State.reset.givesRole (openAs 4) = false ∧ 5 < (openAs 6).role ∧
    ({ State.reset with net := { NetSt.reset with lockouts := [⟨7, [], some 1⟩] } } : State).locked 7 = true :=
  ⟨rfl, rfl, fun i => congrArg Sess.isOpen (State.reset_sess i), by decide +kernel, by decide +kernel,
    by decide +kernel, by decide +kernel, by decide, rfl⟩

end Sys2Proof.Machine

namespace Sys2Proof.Machine

/-! ### READ (R147, R164, R731) -/

/-- Taking up a request leaves the management subsystem and the integrator core as they are. -/
theorem take_at_mgmt (s : State) (t i m : Nat) : ((s.at t).take i m).1.mgmt = s.mgmt := by
  obtain ⟨n, w, x, h⟩ := take_at_rest s t i m
  rw [h]

theorem take_who_sess (s : State) (i m : Nat) : (s.take i m).2.who.sess = i := by
  unfold State.take
  dsimp only
  split
  · rfl
  · rfl

theorem declaredAt_of_mgmt {a b : State} (h : b.mgmt = a.mgmt) (k : Nat) : b.declaredAt k = a.declaredAt k := by
  rw [State.declaredAt, State.declaredAt, h]

/-- With no object declared the integrator core serves none. -/
theorem declaredAt_of_nil {s : State} (h : s.mgmt.declared = []) (k : Nat) : s.declaredAt k = none := by
  rw [State.declaredAt, h]
  rfl

section
variable {t : Nat} {se : Fin 8} {objs : List (Nat × Nat)} {s : State} (req : Nat)
  (hlive : ((s.at t).take se 0x10).2.live = true)
include hlive

theorem exec_read_of_bad_count (h : objs.length = 0 ∨ 64 < objs.length) : exec (.read t se req objs) s =
    .next (((s.at t).take se 0x10).1.errorTo ((s.at t).take se 0x10).2 errMalformed 0x10) :=
  (if_neg (ne_false_of_eq_true hlive)).trans (if_pos h)

theorem exec_read_of_count (h0 : objs.length ≠ 0) (h64 : objs.length ≤ 64) : exec (.read t se req objs) s =
    .next (((s.at t).take se 0x10).1.readGo ((s.at t).take se 0x10).2.who req objs.length [] objs) :=
  (if_neg (ne_false_of_eq_true hlive)).trans (if_neg (not_or.mpr ⟨h0, Nat.not_lt_of_le h64⟩))

end

/-! #### Objects that the device itself holds -/

/-- Reading an object may take a free value and changes nothing else. -/
theorem readOne_rest (s : State) (se role idx sub : Nat) :
    (s.readOne se role idx sub).1 = s ∨ (s.readOne se role idx sub).1 = s.freeNext := by
  unfold State.readOne
  dsimp only
  split
  · exact .inl rfl
  · split
    · exact .inl rfl
    · dsimp only
      split
      · exact .inr rfl
      · exact .inl rfl

theorem readOne_mgmt (s : State) (se role idx sub : Nat) : (s.readOne se role idx sub).1.mgmt = s.mgmt := by
  rcases readOne_rest s se role idx sub with h | h
  · rw [h]
  · rw [h, State.freeNext_mgmt]

/-- One object is read: the state it leaves, and its entry after those before it. -/
def readNext (se role : Nat) (p : State × List Byte) (o : Nat × Nat) : State × List Byte :=
  let q := p.1.readOne se role o.1 o.2
  (q.1, p.2 ++ q.2)

/-- The objects read in the order asked for. -/
def State.readAll (s : State) (se role : Nat) (objs : List (Nat × Nat)) (done : List Byte) : State × List Byte :=
  objs.foldl (readNext se role) (s, done)

theorem readAll_cons (s : State) (se role : Nat) (o : Nat × Nat) (objs : List (Nat × Nat)) (done : List Byte) :
    s.readAll se role (o :: objs) done =
      (s.readOne se role o.1 o.2).1.readAll se role objs (done ++ (s.readOne se role o.1 o.2).2) := rfl

theorem readAll_ov (s : State) (se role : Nat) (objs : List (Nat × Nat)) (done : List Byte) (k : Nat) :
    (s.readAll se role objs done).1.ov k = s.ov k := by
  induction objs generalizing s done with
  | nil => rfl
  | cons o objs ih => rw [readAll_cons, ih, readOne_only.ov rfl k]

/-- A READ that meets no served object reads every one. -/
theorem readGo_of_undeclared {s : State} (w : Writer) (req count : Nat) (done : List Byte) (objs : List (Nat × Nat))
    (h : s.mgmt.declared = []) : s.readGo w req count done objs =
      (s.readAll w.sess w.role objs done).1.readDone w req count (s.readAll w.sess w.role objs done).2 := by
  induction objs generalizing s done with
  | nil => rfl
  | cons o objs ih =>
    rw [State.readGo, declaredAt_of_nil h, readAll_cons]
    exact ih _ (by rw [readOne_mgmt, h])

/-- A session is answered with READ_RESP. -/
theorem readDone_of_session (s : State) {w : Writer} {i : Nat} (req count : Nat) (body : List Byte) (h : w.sess = i)
    (hi : i < 8) : s.readDone w req count body =
      s.sendIn i w.epoch 0 0x11 (leBytes 4 req ++ (leBytes 1 count ++ [0, 0, 0] ++ body)) := by
  subst h
  exact if_pos hi

@[simp] theorem sendIn_ov (s : State) (i e cls mtype : Nat) (body : List Byte) (k : Nat) :
    (s.sendIn i e cls mtype body).ov k = s.ov k := sendIn_only.ov rfl k

@[simp] theorem errorTo_ov (s : State) (k : Taken) (code mtype j : Nat) : (s.errorTo k code mtype).ov j = s.ov j :=
  errorTo_only.ov rfl j

/-! #### Objects that the integrator core serves -/

theorem showServe_serves (s : State) : s.showServe.mgmt.serves = s.mgmt.serves := by
  unfold State.showServe
  split
  · rfl
  · rfl

theorem pushServe_serves (s : State) (j : ServeJob) : (s.pushServe j).mgmt.serves = s.mgmt.serves ++ [j] :=
  showServe_serves _

@[simp] theorem pushServe_ov (s : State) (j : ServeJob) (k : Nat) : (s.pushServe j).ov k = s.ov k :=
  pushServe_only.ov rfl k

/-- A readable object that is served makes the READ wait. -/
theorem readGo_of_served {s : State} {w : Writer} {o : Nat × Nat} {d : Declared} (req count : Nat) (done : List Byte)
    (objs : List (Nat × Nat)) (hd : s.declaredAt (odKey o.1 o.2) = some d) (hrd : d.rd ≠ 255)
    (hread : mayRead w.role d.row = true) :
    s.readGo w req count done (o :: objs) = s.pushServe ⟨w, req, count, done, o :: objs, none, 0⟩ := by
  have hopen : ¬ (d.rd = 255 ∨ mayRead w.role d.row = false) :=
    not_or.mpr ⟨hrd, ne_false_of_eq_true hread⟩
  rw [State.readGo, hd]
  exact if_neg hopen

/-- Settles O16: a READ is answered with ERROR, with the entries of its objects in order, or by a job of the integrator
core that holds what is left to read. -/
theorem readActs : Obligations.ReadActs := by
  refine ⟨?badCount, ?held, ?served⟩
  case badCount =>
    intro t se req objs s r hlive hcount
    refine ⟨_, exec_read_of_bad_count req hlive hcount, rfl, fun k => ?_⟩
    rw [errorTo_ov, take_at_ov]
  case held =>
    intro t se req objs s r hlive h0 h64 hdeclared
    have hnone : r.1.mgmt.declared = [] := (congrArg MgmtSt.declared (take_at_mgmt s t se 0x10)).trans hdeclared
    have hgo := (readGo_of_undeclared r.2.who req objs.length [] objs hnone).trans
      (readDone_of_session _ req objs.length _ (take_who_sess _ _ _) se.isLt)
    refine ⟨_, exec_read_of_count req hlive h0 h64, hgo, fun k => ?_⟩
    rw [hgo, sendIn_ov, readAll_ov, take_at_ov]
  case served =>
    intro t se req o objs d s r hlive hlen hd hrd hread
    have hgo := readGo_of_served req (o :: objs).length [] objs
      ((declaredAt_of_mgmt (take_at_mgmt s t se 0x10) _).trans hd) hrd hread
    refine ⟨_, exec_read_of_count req hlive (Nat.succ_ne_zero _) hlen, ?_, fun k => ?_⟩
    · rw [hgo, pushServe_serves, take_at_mgmt]
      rfl
    · rw [hgo, pushServe_ov, take_at_ov]

/-! #### States that meet the premises -/

/-- An object of the integrator core that OBS may read. -/
def servedObject : Declared := ⟨0x8000, 1, .u8, 0, 255, none, none, [], [], []⟩

/-- The device after reset with the session of role VND on slot 0, where the integrator core serves an object. -/
def vndServed : State := { vndOpen with mgmt := { MgmtSt.reset with declared := [servedObject] } }

/-- A READ on that session is live, with no object declared and with one that it may read. -/
theorem readActs_premises_met : ((vndOpen.at 0).take 0 0x10).2.live = true ∧ vndOpen.mgmt.declared = [] ∧
    ((vndServed.at 0).take 0 0x10).2.live = true ∧ vndServed.declaredAt (odKey 0x8000 1) = some servedObject ∧
    servedObject.rd ≠ 255 ∧ mayRead ((vndServed.at 0).take 0 0x10).2.who.role servedObject.row = true :=
  ⟨by decide +kernel, rfl, by decide +kernel, by decide +kernel, by decide, by decide +kernel⟩

end Sys2Proof.Machine

namespace Sys2Proof.Machine

/-! ### What every step keeps (R160, R181, R346, R660, R720) -/

theorem keysRise_iff (l : List (Nat × OVal)) : keysRise l = true ↔ KeysRise l := by
  rw [keysRise, decide_eq_true_iff, List.pairwise_map]
  rfl

/-- The canonical forms, in the terms of what every operation keeps. -/
theorem State.canonical_iff (s : State) : s.canonical ↔ s.od.wf ∧ Memory.wf s.mem = true := by
  rw [State.canonical, OdSt.wf, keysRise_iff, keysRise_iff, and_assoc]

theorem Keeps.canonical {a b : State} (h : Keeps a b) (ha : a.canonical) : b.canonical := by
  rw [State.canonical_iff] at ha ⊢
  exact ⟨h.od ha.1, h.mem ha.2⟩

theorem step_of_idle {s : State} (h : s.pending = []) : step s = .next s := by
  rw [step, h]

theorem step_of_front {s : State} {c : Instr} {rest : List Instr} (h : s.pending = c :: rest) :
    step s = exec c { s with pending := rest } := by
  rw [step, h]

/-- The state with the front of its queue taken off, as a step hands it to the command. -/
def State.dropFront (s : State) : State := { s with pending := s.pending.drop 1 }

/-- A step keeps, of the state with the front of the queue taken off, what every command keeps. -/
theorem step_keeps {s u : State} (h : step s = .next u) : Keeps s.dropFront u := by
  cases hq : s.pending with
  | nil =>
    rw [step_of_idle hq] at h
    obtain rfl : s = u := Host.Outcome.next.inj h
    have hidle : s.dropFront = s := by
      rw [State.dropFront, hq]
      exact congrArg (fun q => { s with pending := q }) hq.symm
    rw [hidle]
    exact Keeps.refl s
  | cons c rest =>
    have hfront : s.dropFront = { s with pending := rest } := by
      rw [State.dropFront, hq, List.drop_one, List.tail_cons]
    rw [step_of_front hq, ← hfront] at h
    exact exec_keeps (Keeps.refl _) u h

/-- Settles O4: the lists of objects and the one list of memory cells (assumption log 13) are empty after reset. -/
theorem canonicalAtReset : Obligations.CanonicalAtReset := ⟨rfl, rfl, rfl⟩

/-- Settles O23: taking the front off the queue leaves objects and memory alone, and every command keeps the forms in
which the model holds them (assumption log 12 and 13). -/
theorem stepKeepsCanonical : Obligations.StepKeepsCanonical := by
  intro s u hs h
  have hfront : s.dropFront.canonical := hs
  exact (step_keeps h).canonical hfront

/-- Settles O24: every command keeps the order of the numbers (R181, R660, R720), and the queue it is run with. A clock
that does not run back and numbered free values are the model's choice (assumption log 1 and 3). -/
theorem numbersNeverReturn : Obligations.NumbersNeverReturn := by
  intro s u h
  have hk := step_keeps h
  exact ⟨hk.nextNum, hk.jrn, hk.fuses, hk.now, hk.freeCtr, hk.queue⟩

/-! #### A state that meets the premises -/

/-- The session of role VND on slot 0, with two objects in the store, bytes in memory, and a WRITE of `coast_limit_um`
at the front of a queue of two. -/
def vndWriting : State :=
  { ((vndOpen.setn Od.tracker_status.backstep_count 3).setn Od.pair_status.pair_state 0).store 0x100 [1, 2] with
    pending := [.write 0 0 7 ⟨Od.tracker_config.coast_limit_um / 256, Od.tracker_config.coast_limit_um % 256,
      leBytes 4 5⟩, .changeLogFlush 9] }

/-- The WRITE runs from a canonical state that is not empty, and a change number and an object more are in the next. -/
theorem stepKeepsCanonical_premises_met :
    vndWriting.canonical ∧ vndWriting.od.vals.length = 2 ∧ vndWriting.mem.cells.length = 2 ∧
    vndWriting.log.nextNum = 1 ∧ ∃ u, step vndWriting = .next u ∧ u.log.nextNum = 2 ∧ u.od.vals.length = 3 ∧
      u.pending = [.changeLogFlush 9] :=
  ⟨⟨by decide +kernel, rfl, by decide +kernel⟩, by decide +kernel, by decide +kernel, rfl, _, rfl, by decide +kernel,
    by decide +kernel, by decide +kernel⟩

end Sys2Proof.Machine

namespace Sys2Proof.Machine

/-! ### A WRITE or BATCH that fails a check (R147, R148, R165, R177, R178) -/

/-- An operation that touches none of the parts that objects are held in leaves the whole object store. -/
theorem Touch.od {m : Nat} {a b : State} (h : Touch m a b) (hobjects : m.testBit 0 = false)
    (hwaiting : m.testBit 1 = false) (hdurable : m.testBit 2 = false) : b.od = a.od := by
  have hvals := h.objects_same hobjects
  obtain ⟨hpend, hline⟩ := Prod.mk.inj (h.waiting_same hwaiting)
  obtain ⟨hflash, hkept⟩ := Prod.mk.inj (h.durable_same hdurable)
  calc b.od = ⟨b.od.vals, b.od.pend, b.od.line, b.od.flash, b.od.kept⟩ := rfl
    _ = a.od := by rw [hvals, hpend, hline, hflash, hkept]

theorem take_at_od (s : State) (t i m : Nat) : ((s.at t).take i m).1.od = s.od := by
  obtain ⟨n, w, x, h⟩ := take_at_rest s t i m
  rw [h]

theorem take_at_mem (s : State) (t i m : Nat) : ((s.at t).take i m).1.mem = s.mem := by
  obtain ⟨n, w, x, h⟩ := take_at_rest s t i m
  rw [h]

/-- A request taken up and answered on its session leaves the Change Log, the objects and the memory. -/
theorem sendIn_take_at_same (s : State) (t i m j e cls mtype : Nat) (body : List Byte) :
    (((s.at t).take i m).1.sendIn j e cls mtype body).log = s.log ∧
    (((s.at t).take i m).1.sendIn j e cls mtype body).od = s.od ∧
    (((s.at t).take i m).1.sendIn j e cls mtype body).mem = s.mem :=
  ⟨(sendIn_only.changeLog_same rfl).trans (take_at_log s t i m),
    (sendIn_only.od rfl rfl rfl).trans (take_at_od s t i m),
    (sendIn_only.memory_same rfl).trans (take_at_mem s t i m)⟩

/-- A failing check answers the request and stops it there. -/
theorem process_of_error {s : State} {d : Deferred} {p : Nat × Nat} (aux : Aux) (i : Nat)
    (h : s.checkWrite d = .error p) : s.process d aux i = s.rejectWrite d.reply p.1 p.2 := by
  rw [State.process, h]

/-- The batch that a taken BATCH asks for, answered on the slot `se`. -/
def Taken.batch (k : Taken) (se req : Nat) (es : List WEntry) : Deferred :=
  ⟨k.who, true, es, .batch se k.who.epoch req es.length (es.any (fun e => mirroredIdx e.idx))⟩

theorem exec_batch (t : Nat) (se : Fin 8) (req : Nat) (es : List WEntry) (s : State) :
    exec (.batch t se req es) s = if ((s.at t).take se 0x14).2.live = true then
      ok (((s.at t).take se 0x14).1.process (((s.at t).take se 0x14).2.batch se req es) Aux.none 0)
    else ok ((s.at t).take se 0x14).1 := rfl

section
variable {t : Nat} {se : Fin 8} {req status pos : Nat} {s : State}

theorem exec_write_of_error {e : WEntry} (hlive : ((s.at t).take se 0x12).2.live = true)
    (hcheck : ((s.at t).take se 0x12).1.checkWrite (((s.at t).take se 0x12).2.single req e) = .error (status, pos)) :
    exec (.write t se req e) s = .next (((s.at t).take se 0x12).1.sendIn se ((s.at t).take se 0x12).2.who.epoch 0 0x13
      (writeResp req e.idx e.sub status 0)) := by
  rw [exec_write, State.writeOne, if_pos hlive, process_of_error _ _ hcheck, Taken.single, State.rejectWrite,
    take_who_sess]

theorem exec_batch_of_error {es : List WEntry} (hlive : ((s.at t).take se 0x14).2.live = true)
    (hcheck : ((s.at t).take se 0x14).1.checkWrite (((s.at t).take se 0x14).2.batch se req es) = .error (status, pos)) :
    exec (.batch t se req es) s = .next (((s.at t).take se 0x14).1.sendIn se ((s.at t).take se 0x14).2.who.epoch 0 0x15
      (batchResp req es.length status pos 0)) := by
  rw [exec_batch, if_pos hlive, process_of_error _ _ hcheck, Taken.batch, State.rejectWrite, ok]

end

/-- Settles O17: a request that fails a check is answered with its status and goes no further. -/
theorem refusedWritesChangeNothing : Obligations.RefusedWritesChangeNothing := by
  refine ⟨?write, ?batch⟩
  case write =>
    intro t se req e status pos s r hlive hcheck
    exact ⟨_, exec_write_of_error hlive hcheck, rfl, sendIn_take_at_same ..⟩
  case batch =>
    intro t se req es status pos s r d hlive hcheck
    exact ⟨_, exec_batch_of_error hlive hcheck, rfl, sendIn_take_at_same ..⟩

/-! #### Requests that meet the premises -/

/-- The status and the position of a check that failed. -/
def refusalOf {α : Type} : Except (Nat × Nat) α → Option (Nat × Nat)
  | .error p => some p
  | .ok _ => none

theorem eq_error_of_refusalOf {α : Type} {x : Except (Nat × Nat) α} {p : Nat × Nat} (h : refusalOf x = some p) :
    x = .error p := by
  cases x with
  | error q => exact congrArg Except.error (Option.some.inj h)
  | ok a => cases h

/-- On a session of role VND a WRITE of an object that does not exist, a BATCH of no entry (assumption log 42), and one
whose second entry names no object. -/
theorem refusedWritesChangeNothing_premises_met :
    ((vndOpen.at 0).take 0 0x12).2.live = true ∧
    ((vndOpen.at 0).take 0 0x12).1.checkWrite (((vndOpen.at 0).take 0 0x12).2.single 7 ⟨0x0FFF, 1, [0]⟩) =
      .error (errNoObject, 0) ∧
    ((vndOpen.at 0).take 0 0x14).2.live = true ∧
    ((vndOpen.at 0).take 0 0x14).1.checkWrite (((vndOpen.at 0).take 0 0x14).2.batch 0 7 []) =
      .error (errMalformed, 0xFFFF) ∧
    ((vndOpen.at 0).take 0 0x14).1.checkWrite (((vndOpen.at 0).take 0 0x14).2.batch 0 7
      [⟨Od.tracker_config.coast_limit_um / 256, Od.tracker_config.coast_limit_um % 256, leBytes 4 5⟩,
        ⟨0x0FFF, 1, [0]⟩]) = .error (errNoObject, 1) :=
  ⟨by decide +kernel, eq_error_of_refusalOf (by decide +kernel), by decide +kernel,
    eq_error_of_refusalOf (by decide +kernel), eq_error_of_refusalOf (by decide +kernel)⟩

end Sys2Proof.Machine

namespace Sys2Proof.Machine

/-! ### A WRITE of a plain object up to its effect (R11, R148, R165, R176) -/

/-- Taking up a request changes the session slots alone. -/
theorem take_sessions (s : State) (i m : Nat) :
    ∃ x, (s.take i m).1 = { s with net := { s.net with sess := x } } := by
  unfold State.take
  dsimp only
  split
  · exact ⟨_, rfl⟩
  · exact ⟨s.net.sess, rfl⟩

/-- The value of the object applies at once in every state (R11), its write is no event of the island, and it is a
command exactly if `cmd` says so. The synthesizers and the clock outputs, from 16#6800 on, apply by their state. -/
def appliesAtOnce (k : Nat) (cmd : Bool) : Bool :=
  decide (k < 0x680000) &&
    (odRow k).any (fun r => decide (r.per ≠ 2) && (decide (r.app = 0) || decide (r.app = 2)) && decide (r.cmd = cmd))

theorem appliesAtOnce_iff {k : Nat} {cmd : Bool} : appliesAtOnce k cmd = true ↔
    k < 0x680000 ∧ ∃ row, odRow k = some row ∧ row.per ≠ 2 ∧ (row.app = 0 ∨ row.app = 2) ∧ row.cmd = cmd := by
  simp [appliesAtOnce, Option.any_eq_true, and_assoc]

theorem whenOf_now_of_app (s : State) {c : Checked} (hk : c.key < 0x680000) (happ : c.row.app = 0 ∨ c.row.app = 2) :
    s.whenOf c = .now := by
  have hsys : c.key ≠ Od.pll.pll_vco_target_hz 0 := Nat.ne_of_lt (Nat.lt_of_lt_of_le hk (by decide))
  have hpix : c.key ≠ Od.pll.pll_vco_target_hz 3 := Nat.ne_of_lt (Nat.lt_of_lt_of_le hk (by decide))
  have hout : ¬ 0x6820 ≤ c.key / 256 := by omega
  rcases happ with happ | happ <;> simp [State.whenOf, hsys, hpix, hout, happ]

/-- `b` is `a` with a WRITE of the object `k` accepted and its effect still to come: the object has the value unless it
is a command, no other object has changed, and beside the objects only the Change Log, the island's audit records and
the session slots may differ. -/
structure State.Accepts (a b : State) (k : Nat) (v : OVal) (cmd : Bool) : Prop where
  rest : ∃ o l m x, b = { a with od := o, log := l, met := m, net := { a.net with sess := x } }
  ov : ∀ j, b.ov j = if j = k ∧ cmd = false then v else a.ov j

section
variable {a b : State} {k : Nat} {v : OVal} {cmd : Bool}

theorem State.Accepts.lane (h : a.Accepts b k v cmd) : b.lane = a.lane := by
  obtain ⟨o, l, m, x, rfl⟩ := h.rest
  rfl

theorem State.Accepts.comp (h : a.Accepts b k v cmd) : b.comp = a.comp := by
  obtain ⟨o, l, m, x, rfl⟩ := h.rest
  rfl

theorem State.Accepts.now (h : a.Accepts b k v cmd) : b.now = a.now := by
  obtain ⟨o, l, m, x, rfl⟩ := h.rest
  rfl

theorem State.Accepts.time (h : a.Accepts b k v cmd) : b.time = a.time := by
  obtain ⟨o, l, m, x, rfl⟩ := h.rest
  rfl

theorem State.Accepts.web (h : a.Accepts b k v cmd) : b.web = a.web := by
  obtain ⟨o, l, m, x, rfl⟩ := h.rest
  rfl

theorem State.Accepts.queue (h : a.Accepts b k v cmd) (l : Nat) : b.queue l = a.queue l := by
  rw [State.queue, h.lane, State.queue]

theorem State.Accepts.inFlightOf (h : a.Accepts b k v cmd) (l : Nat) : b.inFlightOf l = a.inFlightOf l := by
  rw [State.inFlightOf, h.lane, State.inFlightOf]

/-- The object of a write that is no command has the value. -/
theorem State.Accepts.ov_same (h : a.Accepts b k v false) : b.ov k = v := by
  rw [h.ov, if_pos ⟨rfl, rfl⟩]

/-- The WRITE of a command changes no object before its effect (R162). -/
theorem State.Accepts.ov_of_cmd (h : a.Accepts b k v true) (j : Nat) : b.ov j = a.ov j := by
  rw [h.ov, if_neg (fun e => Bool.noConfusion e.2)]

theorem State.Accepts.lookAhead (h : a.Accepts b k v true) (r : Nat) : b.lookAhead r = a.lookAhead r := by
  have hoi (j : Nat) : b.oi j = a.oi j := State.oi_of_ov (h.ov_of_cmd j)
  have hgrid : b.grid r = a.grid r := by rw [State.grid, h.web, State.grid]
  rw [State.lookAhead, State.lineIndex, hoi, hoi, hgrid, State.lookAhead, State.lineIndex]

end

/-- A write that passes its checks, of an object whose value applies at once, is accepted, has the effect its owner
gives the value, and is then answered. -/
theorem writeKey_of_taken {s : State} {t se req k : Nat} {v : OVal} {cmd : Bool} (hk : appliesAtOnce k cmd = true)
    (htakes : s.takesWrite t se req k v = true) :
    ∃ (w : Writer) (b : State), (s.at t).writeKey se req k v Aux.none =
      ((b.writeEffect w k (s.ov k) v Aux.none).release).runReset ∧ (s.at t).Accepts b k v cmd := by
  obtain ⟨hlt, row, hrow, hper, happ, hcmd⟩ := appliesAtOnce_iff.mp hk
  obtain ⟨hlive, hserve, hroom, hlocal, hcheck⟩ := (takesWrite_iff hrow).mp htakes
  have hcam := camFrameKey_of_app_ne hrow (by omega)
  obtain ⟨h, hexec⟩ := writeOne_of_accepted (c := ⟨k, row, v, encodeVal row.ty v⟩) Aux.none hlive hcheck
    (by rwa [entryOf, odKey_div_mod]) hroom hlocal (whenOf_now_of_app _ hlt happ) hcam
  rw [take_at_ov] at hexec
  refine ⟨_, _, by rw [State.writeKey, hrow]; exact hexec, ?_, fun j => ?_⟩
  · obtain ⟨o, m, hrest⟩ := acceptOne_rest ((s.at t).take se 0x12).1 ((s.at t).take se 0x12).2.who h
      (c := ⟨k, row, v, encodeVal row.ty v⟩) (Nat.lt_trans hlt (by decide))
    obtain ⟨x, htake⟩ := take_sessions (s.at t) se 0x12
    exact ⟨_, _, _, x, by rw [hrest, htake]⟩
  · rw [acceptOne_ov_of_not_sealed _ _ _ (Nat.lt_trans hlt (by decide)) hper, hcmd, take_at_ov]
    rfl

/-! ### The objects of the item side that are written -/

theorem lane_flush_applies : ∀ l : Fin 8, appliesAtOnce (Od.lane_config.lane_flush l) true = true := by decide +kernel

theorem next_record_set_applies : ∀ l : Fin 8, appliesAtOnce (Od.lane_config.next_record_set l) false = true := by
  decide +kernel

theorem ledger_reset_applies : ∀ l : Fin 8, appliesAtOnce (Od.ledger.ledger_reset l) true = true := by decide +kernel

theorem counter_value_applies : ∀ c : Fin 64, appliesAtOnce (Od.counter.counter_value c) false = true := by
  decide +kernel

theorem mould_delete_applies : appliesAtOnce Od.mould_control.mould_delete true = true := by decide +kernel

theorem glyph_set_delete_applies : appliesAtOnce Od.glyph_control.glyph_set_delete true = true := by decide +kernel

theorem look_ahead_min_clear_applies : ∀ r : Fin 6,
    appliesAtOnce (Od.compose_ring.look_ahead_min_clear r) true = true := by decide +kernel

/-! #### Which effect each has -/

/-- The index of a member of a family, whose keys lie an index apart. -/
theorem familyKey_index (n sub i : Nat) (h : sub < 256) : (256 * n + sub + 256 * i) / 256 = n + i := by omega

/-- An object of another index is another object. -/
theorem ne_of_index {k j n : Nat} (hj : j / 256 = n) (hk : k / 256 ≠ n) : k ≠ j := fun e => hk (e ▸ hj)

section
variable (s : State) {k i : Nat} (old v : OVal)

/-- Objects of 16#3400 to 16#3407 (R208, R210). -/
theorem printSet_lane (hi : k / 256 = 0x3400 + i) (h : i < 8) : s.printSet k old v = s.laneSet i k v := by
  simp (disch := omega) only [State.printSet, hi, if_neg, if_pos, Nat.add_sub_cancel_left]

/-- Objects of 16#3420 to 16#3427 (R225). -/
theorem printSet_ledger (hi : k / 256 = 0x3420 + i) (h : i < 8) :
    s.printSet k old v = if v.toInt.toNat = 1 then s.ledgerReset i else s := by
  simp (disch := omega) only [State.printSet, hi, if_neg, if_pos, Nat.add_sub_cancel_left]

/-- Objects of 16#3810 to 16#3815 (R283). -/
theorem printSet_ring (hi : k / 256 = 0x3810 + i) (h : i < 6) : s.printSet k old v =
    (if k = Od.compose_ring.look_ahead_min_clear i ∧ v.toInt.toNat = 1 then
      s.setn (Od.compose_ring.look_ahead_min i) (s.lookAhead i).toNat else s).lookCheck := by
  have hdepth : k ≠ Od.compositor_config.pre_resolve_depth := ne_of_index (n := 0x3800) rfl (by omega)
  simp (disch := omega) only [State.printSet, hi, hdepth, if_neg, if_pos, if_false, Nat.add_sub_cancel_left]

/-- Objects of 16#3840 to 16#387F (R250). -/
theorem printSet_counter (hi : k / 256 = 0x3840 + i) (h : i < 64) :
    s.printSet k old v = if k = Od.counter.counter_value i then s.counterWritten i else s := by
  have hdepth : k ≠ Od.compositor_config.pre_resolve_depth := ne_of_index (n := 0x3800) rfl (by omega)
  have hmould : k ≠ Od.mould_control.mould_delete := ne_of_index (n := 0x3821) rfl (by omega)
  have hglyph : k ≠ Od.glyph_control.glyph_set_delete := ne_of_index (n := 0x3831) rfl (by omega)
  simp (disch := omega) only [State.printSet, hi, hdepth, hmould, hglyph, if_neg, if_pos, if_false,
    Nat.add_sub_cancel_left]

end

section
variable (s : State) (w : Writer) (old : OVal) (aux : Aux)

theorem writeEffect_print {k : Nat} (v : OVal) (h1 : 0x3000 ≤ k / 256) (h2 : k / 256 < 0x4000) :
    s.writeEffect w k old v aux = s.printSet k old v := by
  simp (disch := omega) only [State.writeEffect, if_neg, if_pos]

theorem writeEffect_lane_flush (l : Fin 8) :
    s.writeEffect w (Od.lane_config.lane_flush l) old (.int 1) aux = s.laneFlush l := by
  have hi : Od.lane_config.lane_flush l / 256 = 0x3400 + l := familyKey_index 0x3400 6 l (by decide)
  rw [writeEffect_print s w old aux _ (by omega) (by omega), printSet_lane s old _ hi l.isLt, State.laneSet, if_pos rfl,
    if_pos rfl]

theorem writeEffect_next_record_set (l : Fin 8) (n : Nat) :
    s.writeEffect w (Od.lane_config.next_record_set l) old (.int n) aux = s.nextRecordSet l n := by
  have hi : Od.lane_config.next_record_set l / 256 = 0x3400 + l := familyKey_index 0x3400 7 l (by decide)
  have hne : Od.lane_config.next_record_set l ≠ Od.lane_config.lane_flush l :=
    fun e => absurd (Nat.add_right_cancel e) (by decide)
  rw [writeEffect_print s w old aux _ (by omega) (by omega), printSet_lane s old _ hi l.isLt, State.laneSet, if_neg hne,
    if_pos rfl]
  rfl

theorem writeEffect_ledger_reset (l : Fin 8) :
    s.writeEffect w (Od.ledger.ledger_reset l) old (.int 1) aux = s.ledgerReset l := by
  have hi : Od.ledger.ledger_reset l / 256 = 0x3420 + l := familyKey_index 0x3420 4 l (by decide)
  rw [writeEffect_print s w old aux _ (by omega) (by omega), printSet_ledger s old _ hi l.isLt]
  exact if_pos rfl

theorem writeEffect_counter_value (c : Fin 64) (v : OVal) :
    s.writeEffect w (Od.counter.counter_value c) old v aux = s.counterWritten c := by
  have hi : Od.counter.counter_value c / 256 = 0x3840 + c := familyKey_index 0x3840 1 c (by decide)
  rw [writeEffect_print s w old aux _ (by omega) (by omega), printSet_counter s old _ hi c.isLt, if_pos rfl]

theorem writeEffect_mould_delete (n : Nat) :
    s.writeEffect w Od.mould_control.mould_delete old (.int n) aux = s.deleteRes false n := rfl

/-- A write of the value 255 has no effect: it names no glyph set (R237). -/
theorem writeEffect_glyph_set_delete {n : Nat} (h : n ≠ 255) :
    s.writeEffect w Od.glyph_control.glyph_set_delete old (.int n) aux = s.deleteRes true n := if_neg h

theorem writeEffect_look_ahead_min_clear (r : Fin 6) :
    s.writeEffect w (Od.compose_ring.look_ahead_min_clear r) old (.int 1) aux =
      (s.setn (Od.compose_ring.look_ahead_min r) (s.lookAhead r).toNat).lookCheck := by
  have hi : Od.compose_ring.look_ahead_min_clear r / 256 = 0x3810 + r := familyKey_index 0x3810 5 r (by decide)
  rw [writeEffect_print s w old aux _ (by omega) (by omega), printSet_ring s old _ hi r.isLt, if_pos ⟨rfl, rfl⟩]

end

/-! ### What the effects are -/

theorem journal_ov (s : State) (ks : List Nat) (q k : Nat) : (s.journal ks q).ov k = s.ov k := rfl

/-! #### lane_flush (R210) -/

/-- The check of a lane's depth notes whether it is low, and may push an event; the queues stay. -/
theorem queueCheck_queue (s : State) (l j : Nat) : (s.queueCheck l).queue j = s.queue j := by
  unfold State.queueCheck
  dsimp only
  split
  · rfl
  · rfl

/-- The queue of a lane is emptied and its records are counted, after the mark of consumed records is set. -/
def State.discardQueue (s : State) (l : Nat) : State :=
  (((s.setQueue l []).bump (Od.lane_status.records_flushed l) 32 (s.queue l).length).queueCheck l).journal
    [Od.lane_status.consumed_mark l] 0

theorem laneFlush_of_last {s : State} {l : Nat} {r : ItemRec} (h : (s.queue l).getLast? = some r) :
    s.laneFlush l = (s.setn (Od.lane_status.consumed_mark l) r.num).discardQueue l := by
  simp only [State.laneFlush, h]
  rfl

theorem laneFlush_of_empty {s : State} {l : Nat} (h : (s.queue l).getLast? = none) :
    s.laneFlush l = s.discardQueue l := by
  simp only [State.laneFlush, h]
  rfl

/-- A flush discards the queue after it has set the mark of consumed records to the last record, if there is one. -/
theorem laneFlush_discards (s : State) (l : Nat) :
    ∃ m : State, s.laneFlush l = m.discardQueue l ∧ m.lane = s.lane ∧
      (∀ k, k ≠ Od.lane_status.consumed_mark l → m.ov k = s.ov k) ∧
      ∀ r, (s.queue l).getLast? = some r → m.on (Od.lane_status.consumed_mark l) = r.num := by
  cases hlast : (s.queue l).getLast? with
  | none => exact ⟨s, laneFlush_of_empty hlast, rfl, fun _ _ => rfl, fun r h => by cases h⟩
  | some r =>
    refine ⟨_, laneFlush_of_last hlast, rfl, fun k hk => s.ov_setn_ne _ hk, fun r' h => ?_⟩
    cases h
    exact s.on_setn_same _ _

theorem discardQueue_queue_same (s : State) {l : Nat} (h : l < 8) : (s.discardQueue l).queue l = [] :=
  (queueCheck_queue _ l l).trans (s.setQueue_queue_same l [] h)

theorem discardQueue_queue_ne (s : State) {l j : Nat} (h : j ≠ l) : (s.discardQueue l).queue j = s.queue j :=
  (queueCheck_queue _ l j).trans (s.setQueue_queue_ne l [] h)

theorem discardQueue_items (s : State) (l : Nat) : (s.discardQueue l).lane.items = s.lane.items :=
  queueCheck_only.items_same rfl

theorem discardQueue_ov (s : State) (l k : Nat) : (s.discardQueue l).ov k =
    (s.bump (Od.lane_status.records_flushed l) 32 (s.queue l).length).ov k :=
  queueCheck_only.ov rfl k

theorem laneFlush_queue_same (s : State) {l : Nat} (h : l < 8) : (s.laneFlush l).queue l = [] := by
  obtain ⟨m, hm, -⟩ := laneFlush_discards s l
  rw [hm, discardQueue_queue_same m h]

theorem laneFlush_queue_ne (s : State) {l j : Nat} (h : j ≠ l) : (s.laneFlush l).queue j = s.queue j := by
  obtain ⟨m, hm, hlane, -⟩ := laneFlush_discards s l
  rw [hm, discardQueue_queue_ne m h, State.queue, hlane, State.queue]

theorem laneFlush_items (s : State) (l : Nat) : (s.laneFlush l).lane.items = s.lane.items := by
  obtain ⟨m, hm, hlane, -⟩ := laneFlush_discards s l
  rw [hm, discardQueue_items, hlane]

theorem laneFlush_records_flushed (s : State) (l : Nat) : (s.laneFlush l).on (Od.lane_status.records_flushed l) =
    (s.on (Od.lane_status.records_flushed l) + (s.queue l).length) % 2 ^ 32 := by
  obtain ⟨m, hm, hlane, hov, -⟩ := laneFlush_discards s l
  have hqueue : m.queue l = s.queue l := by rw [State.queue, hlane, State.queue]
  rw [hm, State.on_of_ov (discardQueue_ov m l _), State.on_bump_same, hqueue,
    State.on_of_ov (hov _ (pllKey_ne (by decide)))]

theorem laneFlush_consumed_mark {s : State} {l : Nat} {r : ItemRec} (h : (s.queue l).getLast? = some r) :
    (s.laneFlush l).on (Od.lane_status.consumed_mark l) = r.num := by
  obtain ⟨m, hm, -, -, hlast⟩ := laneFlush_discards s l
  rw [hm, State.on_of_ov (discardQueue_ov m l _), State.on_bump_ne _ _ _ (pllKey_ne (by decide)), hlast r h]

/-! #### next_record_set (R208) -/

theorem nextRecordSet_next_record (s : State) (l n : Nat) :
    (s.nextRecordSet l n).on (Od.lane_status.next_record l) = n :=
  (State.on_setn_ne _ _ (pllKey_ne (by decide))).trans (s.on_setn_same _ n)

theorem nextRecordSet_consumed_mark (s : State) (l n : Nat) :
    (s.nextRecordSet l n).on (Od.lane_status.consumed_mark l) = n - 1 := State.on_setn_same _ _ _

/-! #### ledger_reset (R225) -/

theorem foldl_setn_zero_rest (ks : List Nat) (s : State) :
    ∃ vals, ks.foldl (fun a k => a.setn k 0) s = { s with od := { s.od with vals := vals } } := by
  induction ks generalizing s with
  | nil => exact ⟨s.od.vals, rfl⟩
  | cons k ks ih =>
    obtain ⟨vals, h⟩ := ih (s.setn k 0)
    exact ⟨vals, h⟩

theorem foldl_setn_zero_on {ks : List Nat} {k : Nat} (s : State) (h : k ∈ ks ∨ s.on k = 0) :
    (ks.foldl (fun a k => a.setn k 0) s).on k = 0 := by
  induction ks generalizing s with
  | nil => simpa using h
  | cons j ks ih =>
    refine ih _ ?_
    by_cases hkj : k = j
    · exact .inr (hkj ▸ s.on_setn_same k 0)
    · rw [State.on_setn_ne _ _ hkj]
      exact h.imp_left (List.mem_of_ne_of_mem hkj)

/-- What a ledger counts, and its validity: the objects that a reset zeroes. -/
def ledgerCounts (l : Nat) : List Nat :=
  (List.range 10).map (fun d => dispKey l d) ++ [verdictKey l 1, verdictKey l 2, verdictKey l 3,
    Od.ledger.rejects_issued l, Od.ledger.ledger_validity l]

theorem dispKey_mem_ledgerCounts (l : Nat) (d : Fin 10) : dispKey l d ∈ ledgerCounts l :=
  List.mem_append_left _ (List.mem_map.mpr ⟨d, List.mem_range.mpr d.isLt, rfl⟩)

theorem ne_of_mem_ledgerCounts {k l : Nat} (h : k ∈ ledgerCounts l) :
    k ≠ Od.ledger.triggers_accepted l ∧ k ≠ Od.ledger.last_reset_time l := by
  simp only [ledgerCounts, dispKey, verdictKey, Od.ledger.count_marked, Od.ledger.verdict_pending,
    Od.ledger.rejects_issued, Od.ledger.ledger_validity, List.mem_append, List.mem_map, List.mem_range, List.mem_cons,
    List.not_mem_nil, or_false] at h
  simp only [Od.ledger.triggers_accepted, Od.ledger.last_reset_time]
  rcases h with ⟨d, hd, rfl⟩ | h
  · omega
  · omega

/-- The state with the ledger's counts at 0, before the items in flight and the time are noted. -/
def State.ledgerZeroed (s : State) (l : Nat) : State := (ledgerCounts l).foldl (fun a k => a.setn k 0) s

theorem ledgerReset_eq (s : State) (l : Nat) : s.ledgerReset l =
    (((s.ledgerZeroed l).setn (Od.ledger.triggers_accepted l) ((s.ledgerZeroed l).inFlightOf l)).setn
      (Od.ledger.last_reset_time l) (s.ledgerZeroed l).time).journal
      (Od.ledger.triggers_accepted l :: Od.ledger.last_reset_time l :: ledgerCounts l) 0 := rfl

theorem ledgerReset_count {s : State} {l k : Nat} (h : k ∈ ledgerCounts l) : (s.ledgerReset l).on k = 0 := by
  obtain ⟨htrig, htime⟩ := ne_of_mem_ledgerCounts h
  rw [ledgerReset_eq, State.on_of_ov (journal_ov ..), State.on_setn_ne _ _ htime, State.on_setn_ne _ _ htrig,
    State.ledgerZeroed, foldl_setn_zero_on s (.inl h)]

theorem ledgerReset_triggers_accepted (s : State) (l : Nat) :
    (s.ledgerReset l).on (Od.ledger.triggers_accepted l) = s.inFlightOf l := by
  obtain ⟨vals, h⟩ := foldl_setn_zero_rest (ledgerCounts l) s
  rw [ledgerReset_eq, State.on_of_ov (journal_ov ..), State.on_setn_ne _ _ (pllKey_ne (by decide)), State.on_setn_same,
    State.ledgerZeroed, h]
  rfl

theorem ledgerReset_last_reset_time (s : State) (l : Nat) :
    (s.ledgerReset l).on (Od.ledger.last_reset_time l) = s.time := by
  obtain ⟨vals, h⟩ := foldl_setn_zero_rest (ledgerCounts l) s
  rw [ledgerReset_eq, State.on_of_ov (journal_ov ..), State.on_setn_same, State.ledgerZeroed, h]
  rfl

theorem ledgerReset_lane (s : State) (l : Nat) : (s.ledgerReset l).lane = s.lane := by
  obtain ⟨vals, h⟩ := foldl_setn_zero_rest (ledgerCounts l) s
  rw [ledgerReset_eq, State.ledgerZeroed, h]
  rfl

/-! #### counter_value (R250) -/

theorem counterWritten_ov (s : State) (c k : Nat) : (s.counterWritten c).ov k =
    ((s.setn (Od.counter.counter_validity c) 0).setb (Od.counter.counter_exhausted c) false).ov k := rfl

theorem counterWritten_counter_value (s : State) (c : Nat) :
    (s.counterWritten c).on (Od.counter.counter_value c) = s.on (Od.counter.counter_value c) := by
  rw [State.on_of_ov (counterWritten_ov s c _), State.on_setb_ne _ _ (pllKey_ne (by decide)),
    State.on_setn_ne _ _ (pllKey_ne (by decide))]

theorem counterWritten_counter_validity (s : State) (c : Nat) :
    (s.counterWritten c).on (Od.counter.counter_validity c) = 0 := by
  rw [State.on_of_ov (counterWritten_ov s c _), State.on_setb_ne _ _ (pllKey_ne (by decide)), State.on_setn_same]

theorem counterWritten_counter_exhausted (s : State) (c : Nat) :
    (s.counterWritten c).ob (Od.counter.counter_exhausted c) = false := by
  rw [State.ob_of_ov (counterWritten_ov s c _), State.ob_setb_same]

/-! #### mould_delete and glyph_set_delete (R237) -/

/-- The state with the current version of a resource ended, before the versions that nothing uses are freed. -/
def State.endVersion (s : State) (glyph : Bool) (num : Nat) : State :=
  { s with comp := if glyph then { s.comp with glyphs := verEnd s.comp.glyphs num (s.now / 4) }
    else { s.comp with moulds := verEnd s.comp.moulds num (s.now / 4) } }

theorem endVersion_moulds (s : State) (num : Nat) :
    (s.endVersion false num).comp.moulds = verEnd s.comp.moulds num (s.now / 4) := rfl

theorem endVersion_false_glyphs (s : State) (num : Nat) : (s.endVersion false num).comp.glyphs = s.comp.glyphs := rfl

theorem endVersion_glyphs (s : State) (num : Nat) :
    (s.endVersion true num).comp.glyphs = verEnd s.comp.glyphs num (s.now / 4) := rfl

theorem endVersion_true_moulds (s : State) (num : Nat) : (s.endVersion true num).comp.moulds = s.comp.moulds := rfl

theorem deleteRes_eq (s : State) (glyph : Bool) (num : Nat) :
    s.deleteRes glyph num = (s.endVersion glyph num).freeVersions := rfl

/-! ### The item side -/

/-- Settles O19: what the effect reads stands as it was before the WRITE, but for the written object, so each clause is
what the effect of its object does. That `records_flushed` wraps is assumption log 9, and when a version is freed is
log 60. -/
theorem itemWritesAct : Obligations.ItemWritesAct := by
  refine ⟨?flush, ?nextRecord, ?ledger, ?counter, ?mould, ?glyphSet, ?lookAhead⟩
  case flush =>
    intro t se req l s h
    obtain ⟨w, b, hexec, hb⟩ := writeKey_of_taken (lane_flush_applies l) h
    rw [writeEffect_lane_flush] at hexec
    refine ⟨b.laneFlush l, _, congrArg ok hexec, rfl, laneFlush_queue_same b l.isLt, ?_, fun r hr => ?_,
      fun j hj => ?_, ?_⟩
    · rw [laneFlush_records_flushed, State.on_of_ov (hb.ov_of_cmd _), hb.queue]
      rfl
    · exact laneFlush_consumed_mark ((congrArg List.getLast? (hb.queue l)).trans hr)
    · exact (laneFlush_queue_ne b (fun e => hj (Fin.ext e))).trans (hb.queue j)
    · rw [laneFlush_items, hb.lane]
      rfl
  case nextRecord =>
    intro t se req l n s h
    obtain ⟨w, b, hexec, hb⟩ := writeKey_of_taken (next_record_set_applies l) h
    rw [writeEffect_next_record_set] at hexec
    exact ⟨b.nextRecordSet l n, _, congrArg ok hexec, rfl, nextRecordSet_next_record b l n,
      nextRecordSet_consumed_mark b l n, hb.lane⟩
  case ledger =>
    intro t se req l s h
    obtain ⟨w, b, hexec, hb⟩ := writeKey_of_taken (ledger_reset_applies l) h
    rw [writeEffect_ledger_reset] at hexec
    refine ⟨b.ledgerReset l, _, congrArg ok hexec, rfl, fun d => ledgerReset_count (dispKey_mem_ledgerCounts l d),
      ledgerReset_count (by simp [ledgerCounts]), ledgerReset_count (by simp [ledgerCounts]),
      ledgerReset_count (by simp [ledgerCounts]), ledgerReset_count (by simp [ledgerCounts]),
      ledgerReset_count (by simp [ledgerCounts]), ?_, ?_, ?_⟩
    · exact (ledgerReset_triggers_accepted b l).trans (hb.inFlightOf l)
    · exact (ledgerReset_last_reset_time b l).trans hb.time
    · exact (ledgerReset_lane b l).trans hb.lane
  case counter =>
    intro t se req c n s h
    obtain ⟨w, b, hexec, hb⟩ := writeKey_of_taken (counter_value_applies c) h
    rw [writeEffect_counter_value] at hexec
    refine ⟨b.counterWritten c, _, congrArg ok hexec, rfl, ?_, counterWritten_counter_validity b c,
      counterWritten_counter_exhausted b c, hb.lane⟩
    rw [counterWritten_counter_value, State.on, hb.ov_same]
    rfl
  case mould =>
    intro t se req n s h
    obtain ⟨w, b, hexec, hb⟩ := writeKey_of_taken mould_delete_applies h
    rw [writeEffect_mould_delete] at hexec
    refine ⟨b.endVersion false n, _, _, congrArg ok hexec, rfl, deleteRes_eq b false n, ?_, ?_⟩
    · rw [endVersion_moulds, hb.comp, hb.now]
      rfl
    · rw [endVersion_false_glyphs, hb.comp]
      rfl
  case glyphSet =>
    intro t se req n s hn h
    obtain ⟨w, b, hexec, hb⟩ := writeKey_of_taken glyph_set_delete_applies h
    rw [writeEffect_glyph_set_delete _ _ _ _ hn] at hexec
    refine ⟨b.endVersion true n, _, _, congrArg ok hexec, rfl, deleteRes_eq b true n, ?_, ?_⟩
    · rw [endVersion_glyphs, hb.comp, hb.now]
      rfl
    · rw [endVersion_true_moulds, hb.comp]
      rfl
  case lookAhead =>
    intro t se req r s h
    obtain ⟨w, b, hexec, hb⟩ := writeKey_of_taken (look_ahead_min_clear_applies r) h
    rw [writeEffect_look_ahead_min_clear] at hexec
    exact ⟨_, _, _, congrArg ok hexec, rfl, rfl, by rw [State.on_setn_same, hb.lookAhead]⟩

/-! #### States that meet the premises -/

/-- The session of role VND on slot 0, with a record queued on lane 2, a mould and a glyph set of number 9, and an
exhausted counter. -/
def vndPrinting : State :=
  { (vndOpen.setQueue 2 [⟨7, false, 9, 0, [], false⟩]).setb (Od.counter.counter_exhausted 2) true with
    comp := { vndOpen.comp with moulds := [⟨0, 9, [], 0, none, 0⟩], glyphs := [⟨1, 9, [], 0, none, 0⟩] } }

/-- On that session the flush of lane 2, a next record of the empty lane 3, and the other five writes pass their
checks. -/
theorem itemWritesAct_premises_met :
    (vndPrinting.queue 2).length = 1 ∧
    vndPrinting.takesWrite 4 0 7 (Od.lane_config.lane_flush 2) (.int 1) = true ∧
    vndPrinting.takesWrite 4 0 7 (Od.lane_config.next_record_set 3) (.int 9) = true ∧
    vndPrinting.takesWrite 4 0 7 (Od.ledger.ledger_reset 2) (.int 1) = true ∧
    vndPrinting.ob (Od.counter.counter_exhausted 2) = true ∧
    vndPrinting.takesWrite 4 0 7 (Od.counter.counter_value 2) (.int 9) = true ∧
    verNow vndPrinting.comp.moulds 9 ≠ none ∧
    vndPrinting.takesWrite 4 0 7 Od.mould_control.mould_delete (.int 9) = true ∧
    verNow vndPrinting.comp.glyphs 9 ≠ none ∧
    vndPrinting.takesWrite 4 0 7 Od.glyph_control.glyph_set_delete (.int 9) = true ∧
    vndPrinting.takesWrite 4 0 7 (Od.compose_ring.look_ahead_min_clear 2) (.int 1) = true :=
  ⟨by decide, by decide +kernel, by decide +kernel, by decide +kernel, by decide +kernel, by decide +kernel,
    by decide +kernel, by decide +kernel, by decide +kernel, by decide +kernel, by decide +kernel⟩

end Sys2Proof.Machine

namespace Sys2Proof.Machine

/-! ### The objects that clear counts -/

theorem codec_counts_reset_applies : ∀ i : Fin 4, appliesAtOnce (Od.codec_instance.counts_reset i) true = true := by
  decide +kernel

theorem dma_counts_reset_applies : ∀ c : Fin 16, appliesAtOnce (Od.dma_channel.counts_reset c) true = true := by
  decide +kernel

theorem freeze_clear_applies : appliesAtOnce Od.dram_freeze_snapshot.freeze_clear true = true := by decide +kernel

theorem bus_error_clear_applies : appliesAtOnce Od.dma_engine.bus_error_clear true = true := by decide +kernel

theorem firing_counts_reset_applies : ∀ ch : Fin 192,
    appliesAtOnce (Od.firing_channel.counts_reset ch) true = true := by decide +kernel

theorem beam_counts_reset_applies : ∀ b : Fin 2, appliesAtOnce (Od.beam_unit_status.counts_reset b) true = true := by
  decide +kernel

theorem recovery_count_reset_applies : ∀ g : Fin 8,
    appliesAtOnce (Od.fault_group.recovery_count_reset g) true = true := by decide +kernel

/-! #### The units that an accepted WRITE leaves to its effect -/

section
variable {a b : State} {k : Nat} {v : OVal} {cmd : Bool}

theorem State.Accepts.mover (h : a.Accepts b k v cmd) : b.mover = a.mover := by
  obtain ⟨o, l, m, x, rfl⟩ := h.rest
  rfl

theorem State.Accepts.mem (h : a.Accepts b k v cmd) : b.mem = a.mem := by
  obtain ⟨o, l, m, x, rfl⟩ := h.rest
  rfl

theorem State.Accepts.fire (h : a.Accepts b k v cmd) : b.fire = a.fire := by
  obtain ⟨o, l, m, x, rfl⟩ := h.rest
  rfl

theorem State.Accepts.beam (h : a.Accepts b k v cmd) : b.beam = a.beam := by
  obtain ⟨o, l, m, x, rfl⟩ := h.rest
  rfl

theorem State.Accepts.fault (h : a.Accepts b k v cmd) : b.fault = a.fault := by
  obtain ⟨o, l, m, x, rfl⟩ := h.rest
  rfl

end

/-! #### Which effect each has -/

section
variable (s : State) {k i : Nat} (v : OVal)

/-- Objects of 16#4040 to 16#40FF (R428). -/
theorem fireSet_channel (hi : k / 256 = 0x4040 + i) (h : i < 192) :
    s.fireSet k v = if v = .int 1 then s.resetChannel i else s := by
  simp (disch := omega) only [State.fireSet, hi, if_neg, if_pos, Nat.add_sub_cancel_left]

/-- Objects of 16#5010 and 16#5011 (R548). -/
theorem driveSet_beam_status (aux : Aux) (hi : k / 256 = 0x5010 + i) (h : i < 2) :
    s.driveSet k v aux = if v.toInt.toNat = 1 then s.beamReset i else s := by
  have hentry : k ≠ Od.map_write.map_entry_write := ne_of_index (n := 0x4851) rfl (by omega)
  have hlearned : k ≠ Od.map_reset.map_reset_learned := ne_of_index (n := 0x4852) rfl (by omega)
  simp (disch := omega) only [State.driveSet, hi, hentry, hlearned, if_neg, if_pos, if_false, Nat.add_sub_cancel_left]

/-- Objects of 16#6010 to 16#6017 (R684). -/
theorem faultSet_group (aux : Aux) (hi : k / 256 = 0x6010 + i) (h : i < 8) : s.faultSet k v aux =
    if k = Od.fault_group.recovery_count_reset i ∧ v.toInt.toNat = 1 then
      s.setn (Od.fault_group.recovery_count i) 0 else s := by
  have hexit : k ≠ Od.fault_collector.safe_state_exit := ne_of_index (n := 0x6000) rfl (by omega)
  have hmode : k ≠ Od.fault_collector.fault_n_mode := ne_of_index (n := 0x6000) rfl (by omega)
  have hdrive : k ≠ Od.fault_collector.fault_n_drive := ne_of_index (n := 0x6000) rfl (by omega)
  have hclear : k ≠ Od.fault_control.fault_clear := ne_of_index (n := 0x6001) rfl (by omega)
  have hinject : k ≠ Od.fault_control.fault_inject := ne_of_index (n := 0x6001) rfl (by omega)
  have haction : k ≠ Od.fault_control.action_write := ne_of_index (n := 0x6001) rfl (by omega)
  simp (disch := omega) only [State.faultSet, hi, hexit, hmode, hdrive, hclear, hinject, haction, or_self, if_neg,
    if_pos, if_false, Nat.add_sub_cancel_left]

/-- Past the named commands of the system side, from 16#6510 on, the DMA channels and the Codec instances are left. -/
theorem powerSet_mover (hlo : 0x6510 ≤ k / 256) (hhi : k / 256 < 0x6800) : s.powerSet k v =
    if k / 256 ≤ 0x651F then
      (if k = Od.dma_channel.counts_reset (k / 256 - 0x6510) then
        (if v = .int 1 then s.dmaReset (k / 256 - 0x6510) else s)
      else s.setDma (k / 256 - 0x6510) { s.dma (k / 256 - 0x6510) with budget := v.toInt.toNat })
    else if 0x6600 ≤ k / 256 ∧ k / 256 ≤ 0x6603 then (if v = .int 1 then s.codecReset (k / 256 - 0x6600) else s)
    else s := by
  have hoff : k ≠ Od.power_control.power_off_request := ne_of_index (n := 0x5C00) rfl (by omega)
  have hseq : k ≠ Od.power_control.seq_fault_clear := ne_of_index (n := 0x5C00) rfl (by omega)
  have hpix : k ≠ Od.pll.pll_enable 3 := ne_of_index (n := 0x6813) rfl (by omega)
  have hfreeze : k ≠ Od.dram_freeze_snapshot.freeze_clear := ne_of_index (n := 0x6412) rfl (by omega)
  have hbus : k ≠ Od.dma_engine.bus_error_clear := ne_of_index (n := 0x6500) rfl (by omega)
  have hdomain : ¬ (0x5C40 ≤ k / 256 ∧ k / 256 ≤ 0x5C4D) := by omega
  simp only [State.powerSet, hoff, hseq, hdomain, hpix, hfreeze, hbus, if_false, hlo, true_and, decide_eq_true_iff]

end

section
variable (s : State) (w : Writer) (old : OVal) (aux : Aux)

/-- Objects of 16#6400 to 16#6FFF belong to power, clocks, and memory movers. -/
theorem writeEffect_power {k : Nat} (v : OVal) (h1 : 0x6400 ≤ k / 256) (h2 : k / 256 < 0x7000) :
    s.writeEffect w k old v aux = s.powerSet k v := by
  simp (disch := omega) only [State.writeEffect, if_neg, if_pos]

theorem writeEffect_codec_counts_reset (i : Fin 4) :
    s.writeEffect w (Od.codec_instance.counts_reset i) old (.int 1) aux = s.codecReset i := by
  have hi : Od.codec_instance.counts_reset i / 256 = 0x6600 + i := familyKey_index 0x6600 5 i (by decide)
  rw [writeEffect_power s w old aux _ (by omega) (by omega), powerSet_mover s _ (by omega) (by omega), hi,
    if_neg (by omega), if_pos (by omega), if_pos rfl, Nat.add_sub_cancel_left]

theorem writeEffect_dma_counts_reset (c : Fin 16) :
    s.writeEffect w (Od.dma_channel.counts_reset c) old (.int 1) aux = s.dmaReset c := by
  have hi : Od.dma_channel.counts_reset c / 256 = 0x6510 + c := familyKey_index 0x6510 7 c (by decide)
  rw [writeEffect_power s w old aux _ (by omega) (by omega), powerSet_mover s _ (by omega) (by omega), hi,
    if_pos (by omega), Nat.add_sub_cancel_left, if_pos rfl, if_pos rfl]

theorem writeEffect_freeze_clear :
    s.writeEffect w Od.dram_freeze_snapshot.freeze_clear old (.int 1) aux = s.freezeClear := rfl

theorem writeEffect_bus_error_clear : s.writeEffect w Od.dma_engine.bus_error_clear old (.int 1) aux =
    s.setb Od.dma_engine.bus_error_active false := rfl

theorem writeEffect_firing_counts_reset (ch : Fin 192) :
    s.writeEffect w (Od.firing_channel.counts_reset ch) old (.int 1) aux = s.resetChannel ch := by
  have hi : Od.firing_channel.counts_reset ch / 256 = 0x4040 + ch := familyKey_index 0x4040 15 ch (by decide)
  rw [State.writeEffect, if_neg (by omega), if_neg (by omega), if_pos (by omega), fireSet_channel s _ hi ch.isLt,
    if_pos rfl]

theorem writeEffect_beam_counts_reset (b : Fin 2) :
    s.writeEffect w (Od.beam_unit_status.counts_reset b) old (.int 1) aux = s.beamReset b := by
  have hi : Od.beam_unit_status.counts_reset b / 256 = 0x5010 + b := familyKey_index 0x5010 13 b (by decide)
  rw [State.writeEffect, if_neg (by omega), if_neg (by omega), if_neg (by omega), if_pos (by omega),
    driveSet_beam_status s _ aux hi b.isLt]
  exact if_pos rfl

theorem writeEffect_recovery_count_reset (g : Fin 8) :
    s.writeEffect w (Od.fault_group.recovery_count_reset g) old (.int 1) aux =
      s.setn (Od.fault_group.recovery_count g) 0 := by
  have hi : Od.fault_group.recovery_count_reset g / 256 = 0x6010 + g := familyKey_index 0x6010 5 g (by decide)
  rw [State.writeEffect, if_neg (by omega), if_neg (by omega), if_neg (by omega), if_neg (by omega),
    if_pos (by omega), faultSet_group s _ aux hi g.isLt, if_pos ⟨rfl, rfl⟩]

end

/-! ### What the effects are -/

/-- The state with the objects of a list at 0. -/
def State.zeroAll (s : State) (ks : List Nat) : State := ks.foldl (fun a k => a.setn k 0) s

theorem zeroAll_on {ks : List Nat} {k : Nat} (s : State) (h : k ∈ ks) : (s.zeroAll ks).on k = 0 :=
  foldl_setn_zero_on s (.inl h)

theorem zeroAll_mover (s : State) (ks : List Nat) : (s.zeroAll ks).mover = s.mover := by
  obtain ⟨vals, h⟩ := foldl_setn_zero_rest ks s
  rw [State.zeroAll, h]

theorem zeroAll_fire (s : State) (ks : List Nat) : (s.zeroAll ks).fire = s.fire := by
  obtain ⟨vals, h⟩ := foldl_setn_zero_rest ks s
  rw [State.zeroAll, h]

theorem zeroAll_beam (s : State) (ks : List Nat) : (s.zeroAll ks).beam = s.beam := by
  obtain ⟨vals, h⟩ := foldl_setn_zero_rest ks s
  rw [State.zeroAll, h]

/-! #### counts_reset of an instance, of a channel and of a unit (R317, R374, R548) -/

theorem codecReset_eq (s : State) (i : Nat) : s.codecReset i = s.zeroAll [Od.codec_instance.jobs_done i,
    Od.codec_instance.bytes_consumed i, Od.codec_instance.bytes_produced i, Od.codec_instance.errors i,
    Od.codec_instance.suspensions i, Od.codec_instance.count_validity i] := rfl

theorem dmaReset_eq (s : State) (c : Nat) : s.dmaReset c = s.zeroAll [Od.dma_channel.chains_ended c,
    Od.dma_channel.descriptors_done c, Od.dma_channel.bytes_moved c, Od.dma_channel.budget_stops c,
    Od.dma_channel.doorbell_errors c, Od.dma_channel.count_validity c] := rfl

theorem beamReset_eq (s : State) (b : Nat) : s.beamReset b = s.zeroAll [Od.beam_unit_status.scans_emitted b,
    Od.beam_unit_status.scans_blank b, Od.beam_unit_status.lines_skipped b, Od.beam_unit_status.pixels_demanded b,
    Od.beam_unit_status.pixels_emitted b, Od.beam_unit_status.supp_gated b, Od.beam_unit_status.supp_tick_ceiling b,
    Od.beam_unit_status.count_validity b] := rfl

/-! #### freeze_clear (R345, R352) -/

theorem setDurable_ov (s : State) (k j : Nat) (v : OVal) : (s.setDurable k v).ov j = (s.setv k v).ov j := rfl

theorem setDurable_on_same (s : State) (k n : Nat) : (s.setDurable k (.int n)).on k = n :=
  (State.on_of_ov (setDurable_ov s k k _)).trans (s.on_setn_same k n)

theorem setDurable_on_ne (s : State) {k j : Nat} (v : OVal) (h : j ≠ k) : (s.setDurable k v).on j = s.on j :=
  (State.on_of_ov (setDurable_ov s k j v)).trans (s.on_setv_ne v h)

theorem setDurable_flash_same (s : State) (k : Nat) (v : OVal) : kvGet (s.setDurable k v).od.flash k = some v :=
  kvGet_kvSet_same _ k v

theorem foldl_setDurable_zero_on {ks : List Nat} {k : Nat} (s : State) (h : k ∈ ks ∨ s.on k = 0) :
    (ks.foldl (fun a k => a.setDurable k (.int 0)) s).on k = 0 := by
  induction ks generalizing s with
  | nil => simpa using h
  | cons j ks ih =>
    refine ih _ ?_
    by_cases hkj : k = j
    · exact .inr (hkj ▸ setDurable_on_same s k 0)
    · rw [setDurable_on_ne _ _ hkj]
      exact h.imp_left (List.mem_of_ne_of_mem hkj)

/-- What the snapshot holds beside the requester, whose value of none is not 0. -/
def freezeFields : List Nat :=
  [Od.dram_freeze_snapshot.freeze_valid, Od.dram_freeze_snapshot.freeze_time,
    Od.dram_freeze_snapshot.freeze_boot_id, Od.dram_freeze_snapshot.freeze_address,
    Od.dram_freeze_snapshot.freeze_channel, Od.dram_freeze_snapshot.freeze_bank,
    Od.dram_freeze_snapshot.freeze_row, Od.dram_freeze_snapshot.freeze_column,
    Od.dram_freeze_snapshot.freeze_syndrome, Od.dram_freeze_snapshot.freeze_queue_depth,
    Od.dram_freeze_snapshot.freeze_items_closed]

theorem freezeClear_eq (s : State) : s.freezeClear =
    (freezeFields.foldl (fun a k => a.setDurable k (.int 0)) s).setDurable
      Od.dram_freeze_snapshot.freeze_requester (.int 0xFF) := rfl

theorem freezeClear_field {s : State} {k : Nat} (h : k ∈ freezeFields) : s.freezeClear.on k = 0 := by
  have hne : k ≠ Od.dram_freeze_snapshot.freeze_requester := ne_of_mem_of_not_mem h (by decide)
  rw [freezeClear_eq, setDurable_on_ne _ _ hne, foldl_setDurable_zero_on s (.inl h)]

theorem freezeClear_requester (s : State) : s.freezeClear.on Od.dram_freeze_snapshot.freeze_requester = 0xFF :=
  setDurable_on_same _ _ 0xFF

theorem freezeClear_requester_flash (s : State) :
    kvGet s.freezeClear.od.flash Od.dram_freeze_snapshot.freeze_requester = some (.int 0xFF) :=
  setDurable_flash_same ..

/-! #### counts_reset of a firing channel (R428) -/

/-- The nozzle with the key `k` belongs to the firing channel `ch` (R375). -/
def nozzleOf (ch k : Nat) : Bool := k / 65536 = ch / 48 && chanOf (ch / 48) (k % 65536) = ch

theorem nozzleOf_iff {ch k : Nat} :
    nozzleOf ch k = true ↔ k / 65536 = ch / 48 ∧ chanOf (ch / 48) (k % 65536) = ch := by
  simp [nozzleOf]

/-- An entry of the nozzle table with its counters at 0 if it belongs to the channel. -/
def zeroNozzle (ch : Nat) (q : Nat × Nozzle) : Nat × Nozzle :=
  if nozzleOf ch q.1 then (q.1, { q.2 with fired := 0, supp := 0, newFired := 0, newSupp := 0 }) else q

theorem zeroNozzle_key (ch : Nat) (q : Nat × Nozzle) : (zeroNozzle ch q).1 = q.1 := by
  unfold zeroNozzle
  split
  · rfl
  · rfl

theorem zeroNozzle_of_mine {ch : Nat} {q : Nat × Nozzle} (h : nozzleOf ch q.1 = true) :
    (zeroNozzle ch q).2.fired = 0 ∧ (zeroNozzle ch q).2.supp = 0 := by
  rw [zeroNozzle, if_pos h]
  exact ⟨rfl, rfl⟩

theorem zeroNozzle_of_other {ch : Nat} {q : Nat × Nozzle} (h : ¬ nozzleOf ch q.1 = true) : zeroNozzle ch q = q :=
  if_neg h

theorem resetChannel_eq (s : State) (ch : Nat) : s.resetChannel ch =
    (s.setFire { s.fire with acc := kvDel s.fire.acc ch, nozzles := s.fire.nozzles.map (zeroNozzle ch) }).zeroAll
      (chanKeys ch) := rfl

theorem resetChannel_nozzles (s : State) (ch : Nat) :
    (s.resetChannel ch).fire.nozzles = s.fire.nozzles.map (zeroNozzle ch) := by
  rw [resetChannel_eq, zeroAll_fire]
  rfl

theorem resetChannel_count (s : State) (ch : Nat) (i : Fin 12) :
    (s.resetChannel ch).on (Od.firing_channel.drops_demanded ch + i) = 0 := by
  have hmem : Od.firing_channel.drops_demanded ch + i ∈ chanKeys ch :=
    List.mem_map.mpr ⟨i, List.mem_range.mpr i.isLt, rfl⟩
  rw [resetChannel_eq, zeroAll_on _ hmem]

theorem resetChannel_nozzle_zero {s : State} {ch : Nat} {q : Nat × Nozzle}
    (hq : q ∈ (s.resetChannel ch).fire.nozzles) (h : nozzleOf ch q.1 = true) : q.2.fired = 0 ∧ q.2.supp = 0 := by
  rw [resetChannel_nozzles] at hq
  obtain ⟨r, -, rfl⟩ := List.mem_map.mp hq
  rw [zeroNozzle_key] at h
  exact zeroNozzle_of_mine h

theorem resetChannel_nozzle_other {s : State} {ch : Nat} {q : Nat × Nozzle} (hq : q ∈ s.fire.nozzles)
    (h : ¬ nozzleOf ch q.1 = true) : q ∈ (s.resetChannel ch).fire.nozzles := by
  rw [resetChannel_nozzles]
  exact List.mem_map.mpr ⟨q, hq, zeroNozzle_of_other h⟩

/-! ### The writes that clear counts -/

/-- Settles O20: the WRITE of a command leaves every object and unit to its effect, so each clause is what the effect
of its object does. -/
theorem countWritesAct : Obligations.CountWritesAct := by
  refine ⟨?codec, ?dma, ?freeze, ?busError, ?firing, ?beam, ?recovery⟩
  case codec =>
    intro t se req i s h
    obtain ⟨w, b, hexec, hb⟩ := writeKey_of_taken (codec_counts_reset_applies i) h
    rw [writeEffect_codec_counts_reset, codecReset_eq] at hexec
    exact ⟨_, _, congrArg ok hexec, rfl, fun k hk => zeroAll_on b hk,
      congrArg MoverSt.codec ((zeroAll_mover b _).trans hb.mover)⟩
  case dma =>
    intro t se req c s h
    obtain ⟨w, b, hexec, hb⟩ := writeKey_of_taken (dma_counts_reset_applies c) h
    rw [writeEffect_dma_counts_reset, dmaReset_eq] at hexec
    exact ⟨_, _, congrArg ok hexec, rfl, fun k hk => zeroAll_on b hk, (zeroAll_mover b _).trans hb.mover⟩
  case freeze =>
    intro t se req s h
    obtain ⟨w, b, hexec, hb⟩ := writeKey_of_taken freeze_clear_applies h
    rw [writeEffect_freeze_clear] at hexec
    exact ⟨b.freezeClear, _, congrArg ok hexec, rfl, freezeClear_field (by decide), freezeClear_field (by decide),
      freezeClear_requester b, freezeClear_requester_flash b, (freezeClear_only.memory_same rfl).trans hb.mem⟩
  case busError =>
    intro t se req s h
    obtain ⟨w, b, hexec, hb⟩ := writeKey_of_taken bus_error_clear_applies h
    rw [writeEffect_bus_error_clear] at hexec
    exact ⟨_, _, congrArg ok hexec, rfl, b.ob_setb_same _ false,
      fun k hk => (b.ov_setb_ne false hk).trans (hb.ov_of_cmd k), hb.mover⟩
  case firing =>
    intro t se req ch s h
    obtain ⟨w, b, hexec, hb⟩ := writeKey_of_taken (firing_counts_reset_applies ch) h
    rw [writeEffect_firing_counts_reset] at hexec
    refine ⟨b.resetChannel ch, _, congrArg ok hexec, rfl, resetChannel_count b ch,
      fun q hq hplane hchan => resetChannel_nozzle_zero hq (nozzleOf_iff.mpr ⟨hplane, hchan⟩),
      fun q hq hother => resetChannel_nozzle_other ?_ (fun hmine => hother (nozzleOf_iff.mp hmine))⟩
    rw [hb.fire]
    exact hq
  case beam =>
    intro t se req u s h
    obtain ⟨w, b, hexec, hb⟩ := writeKey_of_taken (beam_counts_reset_applies u) h
    rw [writeEffect_beam_counts_reset, beamReset_eq] at hexec
    exact ⟨_, _, congrArg ok hexec, rfl, fun k hk => zeroAll_on b hk, (zeroAll_beam b _).trans hb.beam⟩
  case recovery =>
    intro t se req g s h
    obtain ⟨w, b, hexec, hb⟩ := writeKey_of_taken (recovery_count_reset_applies g) h
    rw [writeEffect_recovery_count_reset] at hexec
    exact ⟨_, _, congrArg ok hexec, rfl, b.on_setn_same _ 0,
      fun k hk => (b.ov_setn_ne 0 hk).trans (hb.ov_of_cmd k), hb.fault⟩

/-! #### States that meet the premises -/

/-- The session of role VND on slot 0 of a device that has counted: a Codec job, a DMA chain, a scan, a demanded drop
with its nozzle, and a recovery; a DRAM freeze and a bus error stand. -/
def vndCounted : State :=
  let s := [Od.codec_instance.jobs_done 2, Od.dma_channel.chains_ended 9, Od.beam_unit_status.scans_emitted 1,
    Od.firing_channel.drops_demanded 50, Od.fault_group.recovery_count 3, Od.dram_freeze_snapshot.freeze_valid,
    Od.dma_engine.bus_error_active].foldl (fun a k => a.setn k 1) vndOpen
  s.setFire { s.fire with nozzles := [(nozKey 1 2048, { Nozzle.fresh with supp := 1 })] }

/-- On that session the seven writes pass their checks, and each finds something to clear. -/
theorem countWritesAct_premises_met :
    vndCounted.on (Od.codec_instance.jobs_done 2) = 1 ∧
    vndCounted.takesWrite 4 0 7 (Od.codec_instance.counts_reset 2) (.int 1) = true ∧
    vndCounted.on (Od.dma_channel.chains_ended 9) = 1 ∧
    vndCounted.takesWrite 4 0 7 (Od.dma_channel.counts_reset 9) (.int 1) = true ∧
    vndCounted.on Od.dram_freeze_snapshot.freeze_valid = 1 ∧
    vndCounted.takesWrite 4 0 7 Od.dram_freeze_snapshot.freeze_clear (.int 1) = true ∧
    vndCounted.ob Od.dma_engine.bus_error_active = true ∧
    vndCounted.takesWrite 4 0 7 Od.dma_engine.bus_error_clear (.int 1) = true ∧
    (∃ q ∈ vndCounted.fire.nozzles, nozzleOf 50 q.1 = true ∧ q.2.supp = 1) ∧
    vndCounted.takesWrite 4 0 7 (Od.firing_channel.counts_reset 50) (.int 1) = true ∧
    vndCounted.on (Od.beam_unit_status.scans_emitted 1) = 1 ∧
    vndCounted.takesWrite 4 0 7 (Od.beam_unit_status.counts_reset 1) (.int 1) = true ∧
    vndCounted.on (Od.fault_group.recovery_count 3) = 1 ∧
    vndCounted.takesWrite 4 0 7 (Od.fault_group.recovery_count_reset 3) (.int 1) = true :=
  ⟨by decide +kernel, by decide +kernel, by decide +kernel, by decide +kernel, by decide +kernel, by decide +kernel,
    by decide +kernel, by decide +kernel, by decide +kernel, by decide +kernel, by decide +kernel, by decide +kernel,
    by decide +kernel, by decide +kernel⟩

end Sys2Proof.Machine

namespace Sys2Proof.Machine

/-! ### Store and load of memory (R346)

Bytes are stored and loaded in the order of their addresses; the order of a value's bytes (R4) is fixed where the value
is turned into bytes. -/

@[simp] theorem load_store_same (s : State) (a : Nat) (bs : List Byte) : (s.store a bs).load a bs.length = bs :=
  memRange_memPut_same s.mem.cells a bs

theorem byteAt_store_of_outside (s : State) {a b : Nat} {bs : List Byte} (h : b < a ∨ a + bs.length ≤ b) :
    (s.store a bs).byteAt b = s.byteAt b := by
  have hout : ¬ (a ≤ b ∧ b < a + bs.length) := by omega
  rw [State.byteAt_store, if_neg hout]

theorem store_mem_wf {s : State} (h : Memory.wf s.mem = true) (a : Nat) (bs : List Byte) :
    Memory.wf (s.store a bs).mem = true :=
  (store_keeps (Keeps.refl s)).mem h

/-- Settles O27: a byte read after a store is the byte stored there or the byte of before, and the cells below, in and
above the stored range stay in rising order. -/
theorem storedBytesReadBack : Obligations.StoredBytesReadBack := by
  intro s a bs
  refine ⟨load_store_same s a bs, ?outside, ?canonical⟩
  case outside =>
    intro b hb
    exact byteAt_store_of_outside s hb
  case canonical =>
    intro h
    exact store_mem_wf h a bs

/-! #### A state that meets the premise -/

/-- The device after reset with three bytes stored. -/
def threeBytes : State := State.reset.store 0x100 [1, 2, 3]

/-- Memory is canonical and lists three cells; a store of a zero and of a new byte over the last two leaves the first,
and the address of the zero is listed no more. -/
theorem storedBytesReadBack_premises_met :
    Memory.wf threeBytes.mem = true ∧ threeBytes.mem.cells.length = 3 ∧
    (threeBytes.store 0x101 [0, 7]).load 0x100 4 = [1, 0, 7, 0] ∧
    (threeBytes.store 0x101 [0, 7]).mem.cells = [(0x100, 1), (0x102, 7)] :=
  ⟨by decide, by decide, by decide, by decide⟩

end Sys2Proof.Machine

namespace Sys2Proof.Machine

/-! ### The writes of the firing and camera side (R411, R462, R474, R484, R521) -/

/-- `writeKey_of_taken` with what the world answers to the effect, as a sensor answers a read of its register. -/
theorem writeKey_of_taken_with {s : State} {t se req k : Nat} {v : OVal} {cmd : Bool} (aux : Aux)
    (hk : appliesAtOnce k cmd = true) (htakes : s.takesWrite t se req k v = true) :
    ∃ (w : Writer) (b : State), (s.at t).writeKey se req k v aux =
      ((b.writeEffect w k (s.ov k) v aux).release).runReset ∧ (s.at t).Accepts b k v cmd := by
  obtain ⟨hlt, row, hrow, hper, happ, hcmd⟩ := appliesAtOnce_iff.mp hk
  obtain ⟨hlive, hserve, hroom, hlocal, hcheck⟩ := (takesWrite_iff hrow).mp htakes
  have hlt' : k < 0x800000 := Nat.lt_trans hlt (by decide)
  obtain ⟨h, hexec⟩ := writeOne_of_accepted (c := ⟨k, row, v, encodeVal row.ty v⟩) aux hlive hcheck
    (by rwa [entryOf, odKey_div_mod]) hroom hlocal (whenOf_now_of_app _ hlt happ)
    (camFrameKey_of_app_ne hrow (by omega))
  rw [take_at_ov] at hexec
  refine ⟨_, _, by rw [State.writeKey, hrow]; exact hexec, ?rest, fun j => ?ov⟩
  case rest =>
    obtain ⟨o, m, hrest⟩ := acceptOne_rest ((s.at t).take se 0x12).1 ((s.at t).take se 0x12).2.who h
      (c := ⟨k, row, v, encodeVal row.ty v⟩) hlt'
    obtain ⟨x, htake⟩ := take_sessions (s.at t) se 0x12
    exact ⟨_, _, _, x, by rw [hrest, htake]⟩
  case ov =>
    rw [acceptOne_ov_of_not_sealed _ _ _ hlt' hper, hcmd, take_at_ov]
    rfl

theorem map_entry_write_applies : appliesAtOnce Od.map_write.map_entry_write false = true := by decide +kernel

theorem map_reset_learned_applies : appliesAtOnce Od.map_reset.map_reset_learned true = true := by decide +kernel

theorem wave_data_applies : ∀ j : Fin 64, appliesAtOnce (Od.waveform_slot.wave_data j) false = true := by
  decide +kernel

theorem i2c_read_reg_applies : ∀ c : Fin 4, appliesAtOnce (Od.camera_sensor.i2c_read_reg c) false = true := by
  decide +kernel

/-! #### What an accepted WRITE leaves of maps and links -/

section
variable {a b : State} {k : Nat} {v : OVal} {cmd : Bool}

theorem State.Accepts.insp (h : a.Accepts b k v cmd) : b.insp = a.insp := by
  obtain ⟨o, l, m, x, rfl⟩ := h.rest
  rfl

/-- No object but the written one has changed. -/
theorem State.Accepts.ov_ne (h : a.Accepts b k v cmd) {j : Nat} (hj : j ≠ k) : b.ov j = a.ov j := by
  rw [h.ov, if_neg (fun e => hj e.1)]

theorem State.Accepts.planeMap (h : a.Accepts b k v cmd) (p : Nat) : b.planeMap p = a.planeMap p := by
  rw [State.planeMap, h.insp, State.planeMap]

theorem State.Accepts.link (h : a.Accepts b k v cmd) (i : Nat) : b.link i = a.link i := by
  rw [State.link, h.fire, State.link]

theorem State.Accepts.preloadEntry (h : a.Accepts b k v true) (p c : Nat) :
    b.preloadEntry p c = a.preloadEntry p c := by
  simp only [State.preloadEntry, State.idf, h.link, State.on_of_ov (h.ov_of_cmd _)]

end

/-! #### Which effect each has -/

section
variable (s : State) (w : Writer) (old : OVal) (aux : Aux)

/-- Objects of 16#4500 to 16#453F (R411). -/
theorem fireSet_waveform {k i : Nat} (v : OVal) (hi : k / 256 = 0x4500 + i) (h : i < 64) :
    s.fireSet k v = s.waveSet i := by
  simp (disch := omega) only [State.fireSet, hi, if_neg, if_pos, Nat.add_sub_cancel_left]

/-- Objects of 16#4C20 to 16#4C23 outside the settings sets (R521). -/
theorem driveSet_sensor {k i : Nat} (v : OVal) (hi : k / 256 = 0x4C20 + i) (h : i < 4) : s.driveSet k v aux =
    if k = Od.camera_sensor.i2c_read_reg i then s.sensorRead i v.toInt.toNat aux else s := by
  have hentry : k ≠ Od.map_write.map_entry_write := ne_of_index (n := 0x4851) rfl (by omega)
  have hlearned : k ≠ Od.map_reset.map_reset_learned := ne_of_index (n := 0x4852) rfl (by omega)
  simp (disch := omega) only [State.driveSet, hi, hentry, hlearned, if_neg, if_pos, if_false, Nat.add_sub_cancel_left]

theorem writeEffect_map_entry_write (n : Nat) :
    s.writeEffect w Od.map_write.map_entry_write old (.int n) aux = s.mapEntryWrite n := rfl

/-- A value from 0 to 3 names a plane (R474, R485). -/
theorem writeEffect_map_reset_learned (p : Fin 4) :
    s.writeEffect w Od.map_reset.map_reset_learned old (.int p) aux = s.mapReset p := if_pos p.isLt

theorem writeEffect_wave_data (j : Fin 64) (v : OVal) :
    s.writeEffect w (Od.waveform_slot.wave_data j) old v aux = s.waveSet j := by
  have hi : Od.waveform_slot.wave_data j / 256 = 0x4500 + j := familyKey_index 0x4500 1 j (by decide)
  rw [State.writeEffect, if_neg (by omega), if_neg (by omega), if_pos (by omega), fireSet_waveform s v hi j.isLt]

theorem writeEffect_i2c_read_reg (c : Fin 4) (reg : Nat) :
    s.writeEffect w (Od.camera_sensor.i2c_read_reg c) old (.int reg) aux = s.sensorRead c reg aux := by
  have hi : Od.camera_sensor.i2c_read_reg c / 256 = 0x4C20 + c := familyKey_index 0x4C20 9 c (by decide)
  rw [State.writeEffect, if_neg (by omega), if_neg (by omega), if_neg (by omega), if_pos (by omega),
    driveSet_sensor s aux _ hi c.isLt, if_pos rfl]
  rfl

end

/-! ### What the effects are -/

/-! #### map_entry_write and map_reset_learned (R462, R474, R484) -/

theorem mapEntryWrite_eq (s : State) (n : Nat) : s.mapEntryWrite n =
    (s.stage (field n 17 16) [(n % 65536, n / 2 ^ 32)] true none).staged (field n 17 16) := rfl

/-- The preload entry of a column, or the identity where no identity block is held, if its entry `q` is learned and
not locked (R474). -/
def State.relearn (s : State) (p : Nat) (q : Nat × Nat) : Option (Nat × Nat) :=
  if bitAt q.2 14 && !bitAt q.2 15 then
    some (q.1, if (s.link (linkOf p (q.1 / 1024))).block.isEmpty then mapIdentity else s.preloadEntry p q.1)
  else none

theorem mapReset_eq (s : State) (p : Nat) : s.mapReset p =
    if ((s.planeMap p).filterMap (s.relearn p)).isEmpty then s
    else (s.stage p ((s.planeMap p).filterMap (s.relearn p)) true none).staged p := rfl

theorem State.Accepts.relearn {a b : State} {k : Nat} {v : OVal} (h : a.Accepts b k v true) (p : Nat) :
    b.relearn p = a.relearn p := by
  funext q
  rw [State.relearn, h.link, h.preloadEntry, State.relearn]

/-! #### wave_data (R411) -/

/-- The written slot `slot` of a plane goes to its link `k`: the head holds the slot no more, and if the link loads or
is loaded a WAVE_WRITE waits on it. -/
def State.sendWave (s : State) (slot k : Nat) : State :=
  let x := { s.link k with slots := (s.link k).slots.filter (fun i => i ≠ slot) }
  if 4 ≤ s.linkState k ∧ s.linkState k ≤ 6 then
    s.setLink k { x with waiting := x.waiting ++ [⟨x.ctlSeq, some slot, 0, 0, 0⟩], ctlSeq := (x.ctlSeq + 1) % 2 ^ 32 }
  else s.setLink k x

theorem sendWave_setLink (s : State) (slot k : Nat) : ∃ x, s.sendWave slot k = s.setLink k x := by
  unfold State.sendWave
  dsimp only
  split
  · exact ⟨_, rfl⟩
  · exact ⟨_, rfl⟩

theorem sendWave_ov (s : State) (slot k j : Nat) : (s.sendWave slot k).ov j = s.ov j := by
  obtain ⟨x, h⟩ := sendWave_setLink s slot k
  rw [h, State.setLink_ov]

theorem sendWave_link_ne (s : State) (slot : Nat) {k j : Nat} (h : j ≠ k) :
    (s.sendWave slot k).link j = s.link j := by
  obtain ⟨x, hx⟩ := sendWave_setLink s slot k
  rw [hx, State.setLink_link_ne _ _ _ h]

theorem sendWave_waiting_same {s : State} {slot k : Nat} (hk : k < 48)
    (hload : 4 ≤ s.linkState k ∧ s.linkState k ≤ 6) : ((s.sendWave slot k).link k).waiting =
      (s.link k).waiting ++ [⟨(s.link k).ctlSeq, some slot, 0, 0, 0⟩] := by
  rw [State.sendWave, if_pos hload, State.setLink_link_same _ _ _ hk]

/-- The written slot goes to each link of a list in turn. -/
def State.sendWaves (s : State) (slot : Nat) (ks : List Nat) : State := ks.foldl (fun a k => a.sendWave slot k) s

theorem sendWaves_ov (s : State) (slot : Nat) (ks : List Nat) (j : Nat) : (s.sendWaves slot ks).ov j = s.ov j := by
  induction ks generalizing s with
  | nil => rfl
  | cons k ks ih => exact (ih (s.sendWave slot k)).trans (sendWave_ov s slot k j)

theorem sendWaves_link_of_not_mem {ks : List Nat} {j : Nat} (s : State) (slot : Nat) (h : j ∉ ks) :
    (s.sendWaves slot ks).link j = s.link j := by
  induction ks generalizing s with
  | nil => rfl
  | cons k ks ih =>
    obtain ⟨hk, hks⟩ := not_or.mp (mt List.mem_cons.mpr h)
    exact (ih (s.sendWave slot k) hks).trans (sendWave_link_ne s slot hk)

/-- Each link that loads or is loaded is sent the slot once: the links before and after it in the list are others. -/
theorem sendWaves_waiting {ks : List Nat} {k : Nat} {s : State} (slot : Nat) (hnodup : ks.Nodup) (hmem : k ∈ ks)
    (hk : k < 48) (hload : 4 ≤ s.linkState k ∧ s.linkState k ≤ 6) : ((s.sendWaves slot ks).link k).waiting =
      (s.link k).waiting ++ [⟨(s.link k).ctlSeq, some slot, 0, 0, 0⟩] := by
  induction ks generalizing s with
  | nil => exact absurd hmem List.not_mem_nil
  | cons j ks ih =>
    obtain ⟨hj, hnodup⟩ := List.nodup_cons.mp hnodup
    rcases List.mem_cons.mp hmem with rfl | hmem
    · exact (congrArg LinkSt.waiting (sendWaves_link_of_not_mem _ slot hj)).trans (sendWave_waiting_same hk hload)
    · have hne : k ≠ j := ne_of_mem_of_not_mem hmem hj
      have hstate : (s.sendWave slot j).linkState k = s.linkState k := State.on_of_ov (sendWave_ov ..)
      have hrest := ih (s := s.sendWave slot j) hnodup hmem (by rwa [hstate])
      rwa [sendWave_link_ne s slot hne] at hrest

/-- The links of a plane. -/
def planeLinks (p : Nat) : List Nat := (List.range 12).map (fun i => 12 * p + i)

theorem planeLinks_nodup (p : Nat) : (planeLinks p).Nodup :=
  List.Pairwise.map _ (fun _ _ hne heq => hne (Nat.add_left_cancel heq)) List.nodup_range

theorem mem_planeLinks (p : Nat) (i : Fin 12) : 12 * p + i ∈ planeLinks p :=
  List.mem_map.mpr ⟨i, List.mem_range.mpr i.isLt, rfl⟩

/-- The slot shows as not loaded and is sent to the links of its plane, before the plane follows its configuration. -/
def State.sendSlot (s : State) (j : Nat) : State :=
  (s.setn (Od.waveform_slot.wave_loaded j) 0).sendWaves (j % 16) (planeLinks (j / 16))

theorem waveSet_eq (s : State) (j : Nat) : s.waveSet j = (s.sendSlot j).planeSet (j / 16) := rfl

theorem sendSlot_wave_loaded (s : State) (j : Nat) : (s.sendSlot j).on (Od.waveform_slot.wave_loaded j) = 0 := by
  rw [State.sendSlot, State.on_of_ov (sendWaves_ov ..), State.on_setn_same]

theorem sendSlot_ov_ne (s : State) {j k : Nat} (h : k ≠ Od.waveform_slot.wave_loaded j) :
    (s.sendSlot j).ov k = s.ov k := by
  rw [State.sendSlot, sendWaves_ov, State.ov_setn_ne _ _ h]

theorem link_state_ne_wave_data (k j : Nat) : Od.head_link.link_state k ≠ Od.waveform_slot.wave_data j := by
  simp only [Od.head_link.link_state, Od.waveform_slot.wave_data]
  omega

theorem link_state_ne_wave_loaded (k j : Nat) : Od.head_link.link_state k ≠ Od.waveform_slot.wave_loaded j := by
  simp only [Od.head_link.link_state, Od.waveform_slot.wave_loaded]
  omega

theorem sendSlot_waiting {s : State} {j : Nat} (hj : j < 64) (i : Fin 12)
    (hload : 4 ≤ s.linkState (12 * (j / 16) + i) ∧ s.linkState (12 * (j / 16) + i) ≤ 6) :
    ((s.sendSlot j).link (12 * (j / 16) + i)).waiting = (s.link (12 * (j / 16) + i)).waiting ++
      [⟨(s.link (12 * (j / 16) + i)).ctlSeq, some (j % 16), 0, 0, 0⟩] := by
  have hstate (k : Nat) : (s.setn (Od.waveform_slot.wave_loaded j) 0).linkState k = s.linkState k :=
    s.on_setn_ne 0 (link_state_ne_wave_loaded k j)
  exact sendWaves_waiting (j % 16) (planeLinks_nodup _) (mem_planeLinks _ i) (by omega) (by rwa [hstate])

/-! #### i2c_read_reg (R521) -/

/-- The value of a register as its width in bytes shows it. -/
def State.sensorValue (s : State) (c answer : Nat) : Nat :=
  if s.on (Od.camera_sensor.i2c_data_bytes c) = 1 then answer % 65536 % 256 else answer % 65536

theorem sensorRead_ov (s : State) (c reg answer k : Nat) : (s.sensorRead c reg ⟨some answer, none⟩).ov k =
    (s.setn (Od.camera_sensor.i2c_read_value c) (s.sensorValue c answer)).ov k := rfl

theorem sensorRead_i2c_read_value (s : State) (c reg answer : Nat) :
    (s.sensorRead c reg ⟨some answer, none⟩).on (Od.camera_sensor.i2c_read_value c) = s.sensorValue c answer := by
  rw [State.on_of_ov (sensorRead_ov ..), State.on_setn_same]

theorem sensorRead_ov_ne (s : State) {c k : Nat} (reg answer : Nat) (h : k ≠ Od.camera_sensor.i2c_read_value c) :
    (s.sensorRead c reg ⟨some answer, none⟩).ov k = s.ov k := by
  rw [sensorRead_ov, State.ov_setn_ne _ _ h]

/-! ### The maps, the waveform slots and the sensor registers -/

/-- Settles O21: maps, links and the objects that an effect reads stand as they were before the WRITE, and the links
of a plane are sent the slot one by one. -/
theorem mapAndSlotWritesAct : Obligations.MapAndSlotWritesAct := by
  refine ⟨?entry, ?learned, ?wave, ?sensor⟩
  case entry =>
    intro t se req n s h
    obtain ⟨w, b, hexec, hb⟩ := writeKey_of_taken map_entry_write_applies h
    rw [writeEffect_map_entry_write] at hexec
    exact ⟨b, _, _, congrArg ok hexec, rfl, mapEntryWrite_eq b n, hb.insp, hb.fire⟩
  case learned =>
    intro t se req p s h
    obtain ⟨w, b, hexec, hb⟩ := writeKey_of_taken map_reset_learned_applies h
    rw [writeEffect_map_reset_learned] at hexec
    refine ⟨b, b.mapReset p, _, congrArg ok hexec, rfl, hb.insp, hb.fire, ?_⟩
    rw [mapReset_eq, hb.planeMap, hb.relearn]
    rfl
  case wave =>
    intro t se req slot data s h
    obtain ⟨w, b, hexec, hb⟩ := writeKey_of_taken (wave_data_applies slot) h
    rw [writeEffect_wave_data] at hexec
    refine ⟨b.sendSlot slot, _, _, congrArg ok hexec, rfl, waveSet_eq b slot, ?data, sendSlot_wave_loaded b slot,
      fun i hlo hhi => ?sent⟩
    case data =>
      rw [State.obytes, sendSlot_ov_ne b (pllKey_ne (by decide)), hb.ov_same]
      rfl
    case sent =>
      have hstate (k : Nat) : b.linkState k = s.linkState k :=
        State.on_of_ov (hb.ov_ne (link_state_ne_wave_data k slot))
      have hwaiting := sendSlot_waiting (s := b) slot.isLt i (by rw [hstate]; exact ⟨hlo, hhi⟩)
      rw [hb.link] at hwaiting
      exact hwaiting
  case sensor =>
    intro t se req c reg answer s h
    obtain ⟨w, b, hexec, hb⟩ := writeKey_of_taken_with ⟨some answer, none⟩ (i2c_read_reg_applies c) h
    rw [writeEffect_i2c_read_reg] at hexec
    refine ⟨_, _, congrArg ok hexec, rfl, ?value, fun k hvalue hreg => ?others⟩
    case value =>
      rw [sensorRead_i2c_read_value, State.sensorValue, State.on_of_ov (hb.ov_ne (pllKey_ne (by decide)))]
      rfl
    case others =>
      exact (sensorRead_ov_ne b reg answer hvalue).trans (hb.ov_ne hreg)

/-! #### A state that meets the premises -/

/-- The session of role VND on slot 0, with a learned entry in force on plane 1, its link READY, and the registers
of camera 2 one byte wide. -/
def vndFiring : State :=
  ((vndOpen.setEntry 1 4096 (learned mapIdentity)).setn (Od.head_link.link_state 13) 5).setn
    (Od.camera_sensor.i2c_data_bytes 2) 1

/-- A waveform for slot 2 of PIEZO heads, with no active segment (R409). -/
def flatWave : List Byte := [1, 2, 0, 0, 1, 0] ++ List.replicate 122 0

/-- On that session the four writes pass their checks; the learned entry is staged again, and the slot of plane 1 has a
link to go to. -/
theorem mapAndSlotWritesAct_premises_met :
    vndFiring.takesWrite 4 0 7 Od.map_write.map_entry_write (.int (mapIdentity * 2 ^ 32 + 2 ^ 16 + 4096)) = true ∧
    vndFiring.takesWrite 4 0 7 Od.map_reset.map_reset_learned (.int 1) = true ∧
    (vndFiring.planeMap 1).filterMap (vndFiring.relearn 1) = [(4096, mapIdentity)] ∧
    vndFiring.takesWrite 4 0 7 (Od.waveform_slot.wave_data 18) (.bytes flatWave) = true ∧
    vndFiring.linkState 13 = 5 ∧
    vndFiring.takesWrite 4 0 7 (Od.camera_sensor.i2c_read_reg 2) (.int 0x300A) = true ∧
    vndFiring.sensorValue 2 0x1234 = 0x34 :=
  ⟨by decide +kernel, by decide +kernel, by decide +kernel, by decide +kernel, by decide +kernel, by decide +kernel,
    by decide +kernel⟩

end Sys2Proof.Machine

namespace Sys2Proof.Machine

/-! ### One step of the queue -/

/-- Settles O1. -/
theorem stepRunsFront : Obligations.StepRunsFront := fun _ _ _ h => step_of_front h

/-- Settles O2: idling on an empty queue is the model's choice (assumption log 2). -/
theorem emptyQueueIdles : Obligations.EmptyQueueIdles := fun _ h => step_of_idle h

/-- A WRITE stands at the front of a queue of two and runs with the other command left waiting; after reset the queue is
empty. -/
theorem step_premises_met :
    step vndWriting = exec (.write 0 0 7 ⟨Od.tracker_config.coast_limit_um / 256,
      Od.tracker_config.coast_limit_um % 256, leBytes 4 5⟩) { vndWriting with pending := [.changeLogFlush 9] } ∧
    step State.reset = .next State.reset :=
  ⟨stepRunsFront _ _ vndWriting rfl, emptyQueueIdles State.reset rfl⟩

/-! ### What every command leaves unchanged -/

/-- The bits of the parts that a list names, as `Touch` reads them. -/
def Part.bits (ps : List Part) : Nat := ps.foldr (fun p m => 2 ^ p.ctorIdx ||| m) 0

theorem Part.ctorIdx_inj {p q : Part} : p.ctorIdx = q.ctorIdx ↔ p = q :=
  (Function.LeftInverse.injective Part.ofNat_ctorIdx).eq_iff

theorem Part.bits_cons (q : Part) (ps : List Part) : Part.bits (q :: ps) = 2 ^ q.ctorIdx ||| Part.bits ps := rfl

/-- The bits of a list are those of its members. -/
theorem Part.testBit_bits (ps : List Part) (p : Part) : (Part.bits ps).testBit p.ctorIdx = decide (p ∈ ps) := by
  induction ps with
  | nil => exact Nat.zero_testBit _
  | cons q ps ih =>
    rw [Part.bits_cons, Nat.testBit_or, Nat.testBit_two_pow, ih, ← Bool.decide_or, decide_eq_decide, Part.ctorIdx_inj,
      List.mem_cons, eq_comm (a := q)]

/-- States that differ only in the parts of `m` agree in a part whose bit `m` leaves out. -/
theorem Touch.same {m : Nat} {a b : State} (h : Touch m a b) {p : Part} (hp : m.testBit p.ctorIdx = false) :
    p.same a b :=
  match p, hp with
  | .objects, hp => h.objects_same hp
  | .waiting, hp => h.waiting_same hp
  | .durable, hp => h.durable_same hp
  | .changeLog, hp => h.changeLog_same hp
  | .sessions, hp => h.sessions_same hp
  | .network, hp => h.network_same hp
  | .ptp, hp => h.ptp_same hp
  | .web, hp => h.web_same hp
  | .queues, hp => h.queues_same hp
  | .items, hp => h.items_same hp
  | .results, hp => h.results_same hp
  | .gates, hp => h.gates_same hp
  | .journal, hp => h.journal_same hp
  | .compositor, hp => h.compositor_same hp
  | .firing, hp => h.firing_same hp
  | .links, hp => h.links_same hp
  | .inspection, hp => h.inspection_same hp
  | .cameras, hp => h.cameras_same hp
  | .beam, hp => h.beam_same hp
  | .codec, hp => h.codec_same hp
  | .dma, hp => h.dma_same hp
  | .memory, hp => h.memory_same hp
  | .island, hp => h.island_same hp
  | .power, hp => h.power_same hp
  | .faults, hp => h.faults_same hp
  | .pair, hp => h.pair_same hp
  | .firmware, hp => h.firmware_same hp
  | .integrator, hp => h.integrator_same hp
  | .plls, hp => h.plls_same hp
  | .axes, hp => h.axes_same hp
  | .loops, hp => h.loops_same hp
  | .sensors, hp => h.sensors_same hp
  | .free, hp => h.free_same hp

theorem Touch.same_of_not_mem {ps : List Part} {a b : State} (h : Touch (Part.bits ps) a b) {p : Part} (hp : p ∉ ps) :
    p.same a b :=
  h.same (by rw [Part.testBit_bits, decide_eq_false hp])

/-- Any two states differ at most in the parts, all taken together. -/
theorem OutTouch.all (s : State) (o : Host.Outcome State Fault Refusal) : OutTouch (Part.bits Part.all) s o :=
  fun _ _ => by constructor <;> exact .inl rfl

/-- OPEN for itself, since a case of a proof cannot be named by a keyword. -/
theorem execOpen_touches_only_mayChange (t : Nat) (port : Fin 3) (addr : Nat) (o : OpenReq) (s : State) :
    OutTouch (Part.bits (mayChange (.open t port addr o))) s (execOpen t port addr o s) := execOpen_only

/-- What a command touches is what `mayChange` lists for it: its own law says so, and nothing is to be said of a
command that lists all parts. -/
theorem exec_touches_only_mayChange (c : Instr) (s : State) : OutTouch (Part.bits (mayChange c)) s (exec c s) := by
  cases c <;> simp only [exec, execOpen_touches_only_mayChange]
  case encoderEdge => exact execEncoderEdge_only
  case zEdge => exact execZEdge_only
  case encoderLineFault => exact execEncoderLineFault_only
  case encoderLineFaultClear => exact execEncoderLineFaultClear_only
  case edgeOverdue => exact execEdgeOverdue_only
  case coastLimitExceeded => exact execCoastLimitExceeded_only
  case lineTick => exact execLineTick_only
  case triggerEdge => exact execTriggerEdge_only
  case lubberMark => exact execLubberMark_only
  case markMissing => exact execMarkMissing_only
  case cameraTrigger => exact execCameraTrigger_only
  case barCameraTrigger => exact execBarCameraTrigger_only
  case camPulseEnd => exact execCamPulseEnd_only
  case rejectDecision => exact execRejectDecision_only
  case rejPulseEnd => exact execRejPulseEnd_only
  case speedAdvHoldExpiry => exact execSpeedAdvHoldExpiry_only
  case dataLateReasonExpiry => exact execDataLateReasonExpiry_only
  case pllLockAcquired => exact execPllLockAcquired_only
  case pllGlideDone => exact execPllGlideDone_only
  case pllLockLoss => exact execPllLockLoss_only
  case clockRangeFault => exact execClockRangeFault_only
  case crystalFault => exact execCrystalFault_only
  case netLinkDown => exact execNetLinkDown_only
  case netLinkUp => exact execNetLinkUp_only
  case sfpModuleInserted => exact execSfpModuleInserted_only
  case sfpModuleRemoved => exact execSfpModuleRemoved_only
  case pauseFrame => exact execPauseFrame_only
  case ptpEventMessage => exact execPtpEventMessage_only
  case ptpSyncTimeout => exact execPtpSyncTimeout_only
  case klpPacket => exact execKlpPacket_only
  case retransmitTimeout => exact execRetransmitTimeout_only
  case ackDue => exact execAckDue_only
  case creditUpdateDue => exact execCreditUpdateDue_only
  case keepaliveDue => exact execKeepaliveDue_only
  case sessionTimeout => exact execSessionTimeout_only
  case nop => exact execNop_only
  case close => exact execClose_only
  case read => exact execRead_only
  case itemPut => exact execItemPut_only
  case bulkOpen => exact execBulkOpen_only
  case bulkWrite => exact execBulkWrite_only
  case bulkCommit => exact execBulkCommit_only
  case bulkAbort => exact execBulkAbort_only
  case bulkDataSend => exact execBulkDataSend_only
  case subscribeEvents => exact execSubscribeEvents_only
  case subscribeCyclic => exact execSubscribeCyclic_only
  case eventSend => exact execEventSend_only
  case cyclicPeriod => exact execCyclicPeriod_only
  case authLockoutExpiry => exact execAuthLockoutExpiry_only
  case changeLogFlush => exact execChangeLogFlush_only
  case resetDeadline => exact execResetDeadline_only
  case verdictTimeout => exact execVerdictTimeout_only
  case symbolEncoded => exact execSymbolEncoded_only
  case lineCouched => exact execLineCouched_only
  case codecDoorbell => exact execCodecDoorbell_only
  case codecQueueEnable => exact execCodecQueueEnable_only
  case codecAbort => exact execCodecAbort_only
  case codecJobEnd => exact execCodecJobEnd_only
  case codecBusTimeout => exact execCodecBusTimeout_only
  case couchInitDone => exact execCouchInitDone_only
  case couchScrubWriteback => exact execCouchScrubWriteback_only
  case dramTrainingDone => exact execDramTrainingDone_only
  case dramRetrain => exact execDramRetrain_only
  case dramRefresh => exact execDramRefresh_only
  case mr4Poll => exact execMr4Poll_only
  case patrolScrub => exact execPatrolScrub_only
  case dramFrozen => exact execDramFrozen_only
  case dmaStart => exact execDmaStart_only
  case dmaResume => exact execDmaResume_only
  case dmaStopRequest => exact execDmaStopRequest_only
  case dmaStatusRead => exact execDmaStatusRead_only
  case dmaChainEnd => exact execDmaChainEnd_only
  case dmaBusTimeout => exact execDmaBusTimeout_only
  case dmaDrainEnd => exact execDmaDrainEnd_only
  case registerWrite => exact execRegisterWrite_only
  case backStatus => exact execBackStatus_only
  case backReject => exact execBackReject_only
  case backIdentity => exact execBackIdentity_only
  case backAck => exact execBackAck_only
  case backFrameBad => exact execBackFrameBad_only
  case backChannelSilent => exact execBackChannelSilent_only
  case identifyTimeout => exact execIdentifyTimeout_only
  case loadWriteTimeout => exact execLoadWriteTimeout_only
  case gateClosed => exact execGateClosed_only
  case gateOpened => exact execGateOpened_only
  case dropCountAccumulate => exact execDropCountAccumulate_only
  case dropCheckpoint => exact execDropCheckpoint_only
  case inspectionComplete => exact execInspectionComplete_only
  case barEvaluated => exact execBarEvaluated_only
  case stagingComplete => exact execStagingComplete_only
  case mapSaved => exact execMapSaved_only
  case csiFrameStart => exact execCsiFrameStart_only
  case csiLongPacket => exact execCsiLongPacket_only
  case csiFrameEnd => exact execCsiFrameEnd_only
  case frameForcedEnd => exact execFrameForcedEnd_only
  case camTriggerLost => exact execCamTriggerLost_only
  case sensorWindowTimeout => exact execSensorWindowTimeout_only
  case i2cNack => exact execI2cNack_only
  case i2cStretchTimeout => exact execI2cStretchTimeout_only
  case camResetRelease => exact execCamResetRelease_only
  case bdEdge => exact execBdEdge_only
  case bdTimeout => exact execBdTimeout_only
  case laserIlkLow => exact execLaserIlkLow_only
  case pwmPeriodBoundary => exact execPwmPeriodBoundary_only
  case focStep => exact execFocStep_only
  case driverFault => exact execDriverFault_only
  case sensingComplete => exact execSensingComplete_only
  case keAbnormal => exact execKeAbnormal_only
  case brakeHoldDone => exact execBrakeHoldDone_only
  case brakeTimeout => exact execBrakeTimeout_only
  case startTimeout => exact execStartTimeout_only
  case recatchDelayExpiry => exact execRecatchDelayExpiry_only
  case loopSampleTick => exact execLoopSampleTick_only
  case slowAdcRound => exact execSlowAdcRound_only
  case fastAdcRound => exact execFastAdcRound_only
  case tdSample => exact execTdSample_only
  case pulseInEdge => exact execPulseInEdge_only
  case pulseTimeout => exact execPulseTimeout_only
  case metPdEdge => exact execMetPdEdge_only
  case weighingWindowEnd => exact execWeighingWindowEnd_only
  case sealedRecord => exact execSealedRecord_only
  case sealOpened => exact execSealOpened_only
  case sealClosed => exact execSealClosed_only
  case zeroTracking => exact execZeroTracking_only
  case islandBootComplete => exact execIslandBootComplete_only
  case modulatorSilent => exact execModulatorSilent_only
  case islandWatchdog => exact execIslandWatchdog_only
  case wakeOnRequest => exact execWakeOnRequest_only
  case wakeOffRequest => exact execWakeOffRequest_only
  case seqEnableDelayExpiry => exact execSeqEnableDelayExpiry_only
  case seqChannelSettled => exact execSeqChannelSettled_only
  case seqUpTimeout => exact execSeqUpTimeout_only
  case seqDisableDelayExpiry => exact execSeqDisableDelayExpiry_only
  case seqChannelDown => exact execSeqChannelDown_only
  case seqDownTimeout => exact execSeqDownTimeout_only
  case seqWindowLost => exact execSeqWindowLost_only
  case minOffTimeExpiry => exact execMinOffTimeExpiry_only
  case marginRampStep => exact execMarginRampStep_only
  case supplyWarning => exact execSupplyWarning_only
  case powerStop => exact execPowerStop_only
  case supplyWarningCleared => exact execSupplyWarningCleared_only
  case journalProgram => exact execJournalProgram_only
  case stateCheckpoint => exact execStateCheckpoint_only
  case holdupJournalProgrammed => exact execHoldupJournalProgrammed_only
  case holdupBodyProgrammed => exact execHoldupBodyProgrammed_only
  case holdupStopProgrammed => exact execHoldupStopProgrammed_only
  case holdupSectorErased => exact execHoldupSectorErased_only
  case faultSourceActive => exact execFaultSourceActive_only
  case faultSourceInactive => exact execFaultSourceInactive_only
  case faultNPulseEnd => exact execFaultNPulseEnd_only
  case faultSelfTestTurn => exact execFaultSelfTestTurn_only
  case collectorSelfFault => exact execCollectorSelfFault_only
  case groupRecovered => exact execGroupRecovered_only
  case heartbeatSend => exact execHeartbeatSend_only
  case heartbeatReceived => exact execHeartbeatReceived_only
  case relinquishReceived => exact execRelinquishReceived_only
  case partnerLossTimeout => exact execPartnerLossTimeout_only
  case takeoverComplete => exact execTakeoverComplete_only
  case pairFenceInLow => exact execPairFenceInLow_only
  case pairFenceInHigh => exact execPairFenceInHigh_only
  case pairSeekTimeout => exact execPairSeekTimeout_only
  case syncComplete => exact execSyncComplete_only
  case watchdogExpiry => exact execWatchdogExpiry_only
  case firmwareImageWritten => exact execFirmwareImageWritten_only
  case autoConfirmExpiry => exact execAutoConfirmExpiry_only
  case odRead => exact execOdRead_only
  case declare => exact execDeclare_only
  case eventPush => exact execEventPush_only
  case scRespRead => exact execScRespRead_only
  case wdtKick => exact execWdtKick_only
  case integWatchdogExpiry => exact execIntegWatchdogExpiry_only
  case integRestartDelayExpiry => exact execIntegRestartDelayExpiry_only
  case integTimerInterrupt => exact execIntegTimerInterrupt_only
  case flashProgramComplete => exact execFlashProgramComplete_only
  case integImageLoaded => exact execIntegImageLoaded_only
  case pdMetroSupplyFault => exact execPdMetroSupplyFault_only
  case mirrorLaneLockLost => exact execMirrorLaneLockLost_only
  case mirrorLaneLockRegained => exact execMirrorLaneLockRegained_only
  case triggerCounterpartTimeout => exact execTriggerCounterpartTimeout_only
  case supplyGlitch => exact execSupplyGlitch_only
  case mainInputQualified => exact execMainInputQualified_only
  case holdUpExhausted => exact execHoldUpExhausted_only
  case netrefFault => exact execNetrefFault_only
  case ptpGeneralMessage => exact execPtpGeneralMessage_only
  all_goals exact OutTouch.all s _

/-- Settles O25: what a command touches it lists, and it keeps the queue it is run with. -/
theorem commandsChangeOnlyTheirParts : Obligations.CommandsChangeOnlyTheirParts := by
  intro c s u h
  have hkeeps := exec_keeps (Keeps.refl s) u h
  have htouch := exec_touches_only_mayChange c s u h
  exact ⟨hkeeps.queue, fun _ hp => htouch.same_of_not_mem hp⟩

/-- With commands waiting, LASER_ILK_LOW of unit 1 latches the interlock in the Beam Engine, which it lists; the queue
and the Change Log stand. -/
theorem commandsChangeOnlyTheirParts_premises_met :
    ∃ u, exec (.laserIlkLow 9 1) vndWriting = .next u ∧ (vndWriting.unit 1).ilkLow = false ∧
      (u.unit 1).ilkLow = true ∧ u.pending = vndWriting.pending ∧ u.log = vndWriting.log := by
  refine ⟨_, rfl, by decide +kernel, by decide +kernel, ?_⟩
  obtain ⟨hqueue, hparts⟩ := commandsChangeOnlyTheirParts (.laserIlkLow 9 1) vndWriting _ rfl
  exact ⟨hqueue, hparts .changeLog (by decide)⟩

/-! ### Every command completes -/

/-- The outcome is a next state, with neither fault nor refusal. -/
def Completes (o : Host.Outcome State Fault Refusal) : Prop := ∃ u, o = .next u

theorem completes_ok {s : State} : Completes (ok s) := ⟨s, rfl⟩

/-- A command goes on completing when the reset sequence that its responses let go is run after it (R198, R725). -/
theorem Completes.finish {o : Host.Outcome State Fault Refusal} (h : Completes o) : Completes (finish o) := by
  obtain ⟨u, rfl⟩ := h
  exact completes_ok

theorem execOpen_completes (t : Nat) (port : Fin 3) (addr : Nat) (o : OpenReq) (s : State) :
    Completes (execOpen t port addr o s) := by
  fun_cases execOpen <;> exact completes_ok

/-- Every path through the meaning of a command ends in `ok`. -/
theorem exec_completes (c : Instr) (s : State) : Completes (exec c s) := by
  cases c <;> simp only [exec, execOpen_completes]
  case encoderEdge => exact .finish (by fun_cases runEncoderEdge <;> exact completes_ok)
  case zEdge => exact .finish (by fun_cases runZEdge <;> exact completes_ok)
  case encoderLineFault => fun_cases execEncoderLineFault <;> exact completes_ok
  case edgeOverdue => fun_cases execEdgeOverdue <;> exact completes_ok
  case coastLimitExceeded => fun_cases execCoastLimitExceeded <;> exact completes_ok
  case lineTick => exact .finish (by fun_cases runLineTick <;> exact completes_ok)
  case triggerEdge => fun_cases execTriggerEdge <;> exact completes_ok
  case lubberMark => fun_cases execLubberMark <;> exact completes_ok
  case markMissing => fun_cases execMarkMissing <;> exact completes_ok
  case cameraTrigger => fun_cases execCameraTrigger <;> exact completes_ok
  case barCameraTrigger => fun_cases execBarCameraTrigger <;> exact completes_ok
  case rejectDecision => fun_cases execRejectDecision <;> exact completes_ok
  case rejPulseEnd => fun_cases execRejPulseEnd <;> exact completes_ok
  case speedAdvHoldExpiry => fun_cases execSpeedAdvHoldExpiry <;> exact completes_ok
  case pllLockAcquired => fun_cases execPllLockAcquired <;> exact completes_ok
  case pllGlideDone => exact .finish (by fun_cases runPllGlideDone <;> exact completes_ok)
  case pllLockLoss => fun_cases execPllLockLoss <;> exact completes_ok
  case clockRangeFault => fun_cases execClockRangeFault <;> exact completes_ok
  case ptpEventMessage => fun_cases execPtpEventMessage <;> exact completes_ok
  case ptpSyncTimeout => fun_cases execPtpSyncTimeout <;> exact completes_ok
  case klpPacket => fun_cases execKlpPacket <;> exact completes_ok
  case retransmitTimeout => fun_cases execRetransmitTimeout <;> exact completes_ok
  case nop => fun_cases execNop <;> exact completes_ok
  case close => fun_cases execClose <;> exact completes_ok
  case read => fun_cases execRead <;> exact completes_ok
  case batch => fun_cases execBatch <;> exact completes_ok
  case itemPut => fun_cases execItemPut <;> exact completes_ok
  case bulkOpen => fun_cases execBulkOpen <;> exact completes_ok
  case bulkWrite => fun_cases execBulkWrite <;> exact completes_ok
  case bulkCommit => fun_cases execBulkCommit <;> exact completes_ok
  case bulkAbort => fun_cases execBulkAbort <;> exact completes_ok
  case bulkDataSend => fun_cases execBulkDataSend <;> exact completes_ok
  case subscribeEvents => fun_cases execSubscribeEvents <;> exact completes_ok
  case subscribeCyclic => fun_cases execSubscribeCyclic <;> exact completes_ok
  case eventSend => fun_cases execEventSend <;> exact completes_ok
  case cyclicPeriod => fun_cases execCyclicPeriod <;> exact completes_ok
  case pendingValueApplied => fun_cases execPendingValueApplied <;> exact completes_ok
  case changeLogFlush => fun_cases execChangeLogFlush <;> exact completes_ok
  case changeLogFlushDone => fun_cases execChangeLogFlushDone <;> exact completes_ok
  case resetDeadline => fun_cases execResetDeadline <;> exact completes_ok
  case verdictTimeout => fun_cases execVerdictTimeout <;> exact completes_ok
  case symbolEncoded => fun_cases execSymbolEncoded <;> exact completes_ok
  case lineCouched => fun_cases execLineCouched <;> exact completes_ok
  case codecDoorbell => fun_cases execCodecDoorbell <;> exact completes_ok
  case codecJobEnd => fun_cases execCodecJobEnd <;> exact completes_ok
  case codecBusTimeout => fun_cases execCodecBusTimeout <;> exact completes_ok
  case dramTrainingDone => fun_cases execDramTrainingDone <;> exact completes_ok
  case dramRefresh => fun_cases execDramRefresh <;> exact completes_ok
  case mr4Poll => fun_cases execMr4Poll <;> exact completes_ok
  case patrolScrub => fun_cases execPatrolScrub <;> exact completes_ok
  case dramFrozen => fun_cases execDramFrozen <;> exact completes_ok
  case dmaStart => fun_cases execDmaStart <;> exact completes_ok
  case dmaResume => fun_cases execDmaResume <;> exact completes_ok
  case dmaStopRequest => fun_cases execDmaStopRequest <;> exact completes_ok
  case dmaChainEnd => fun_cases execDmaChainEnd <;> exact completes_ok
  case dmaBusTimeout => fun_cases execDmaBusTimeout <;> exact completes_ok
  case dmaDrainEnd => fun_cases execDmaDrainEnd <;> exact completes_ok
  case registerWrite => fun_cases execRegisterWrite <;> exact completes_ok
  case backStatus => fun_cases execBackStatus <;> exact completes_ok
  case backReject => fun_cases execBackReject <;> exact completes_ok
  case backIdentity => fun_cases execBackIdentity <;> exact completes_ok
  case backAck => fun_cases execBackAck <;> exact completes_ok
  case backChannelSilent => fun_cases execBackChannelSilent <;> exact completes_ok
  case identifyTimeout => fun_cases execIdentifyTimeout <;> exact completes_ok
  case loadWriteTimeout => fun_cases execLoadWriteTimeout <;> exact completes_ok
  case gateClosed => fun_cases execGateClosed <;> exact completes_ok
  case gateOpened => fun_cases execGateOpened <;> exact completes_ok
  case dropCheckpoint => fun_cases execDropCheckpoint <;> exact completes_ok
  case inspectionComplete => fun_cases execInspectionComplete <;> exact completes_ok
  case barEvaluated => fun_cases execBarEvaluated <;> exact completes_ok
  case csiFrameStart => fun_cases execCsiFrameStart <;> exact completes_ok
  case csiLongPacket => fun_cases execCsiLongPacket <;> exact completes_ok
  case csiFrameEnd => fun_cases execCsiFrameEnd <;> exact completes_ok
  case frameForcedEnd => fun_cases execFrameForcedEnd <;> exact completes_ok
  case camTriggerLost => fun_cases execCamTriggerLost <;> exact completes_ok
  case settingsSetArmed => fun_cases execSettingsSetArmed <;> exact completes_ok
  case sensorWindowTimeout => fun_cases execSensorWindowTimeout <;> exact completes_ok
  case camResetRelease => fun_cases execCamResetRelease <;> exact completes_ok
  case bdEdge => exact .finish (by fun_cases runBdEdge <;> exact completes_ok)
  case bdTimeout => fun_cases execBdTimeout <;> exact completes_ok
  case pwmPeriodBoundary => fun_cases execPwmPeriodBoundary <;> exact completes_ok
  case focStep => fun_cases execFocStep <;> exact completes_ok
  case driverFault => fun_cases execDriverFault <;> exact completes_ok
  case sensingComplete => fun_cases execSensingComplete <;> exact completes_ok
  case keAbnormal => fun_cases execKeAbnormal <;> exact completes_ok
  case brakeHoldDone => fun_cases execBrakeHoldDone <;> exact completes_ok
  case brakeTimeout => fun_cases execBrakeTimeout <;> exact completes_ok
  case startTimeout => fun_cases execStartTimeout <;> exact completes_ok
  case recatchDelayExpiry => fun_cases execRecatchDelayExpiry <;> exact completes_ok
  case loopSampleTick => fun_cases execLoopSampleTick <;> exact completes_ok
  case pulseInEdge => fun_cases execPulseInEdge <;> exact completes_ok
  case pulseTimeout => fun_cases execPulseTimeout <;> exact completes_ok
  case metPdEdge => fun_cases execMetPdEdge <;> exact completes_ok
  case weighingWindowEnd => fun_cases execWeighingWindowEnd <;> exact completes_ok
  case sealedRecord => fun_cases execSealedRecord <;> exact completes_ok
  case zeroTracking => fun_cases execZeroTracking <;> exact completes_ok
  case islandBootComplete => fun_cases execIslandBootComplete <;> exact completes_ok
  case wakeOnRequest => fun_cases execWakeOnRequest <;> exact completes_ok
  case wakeOffRequest => fun_cases execWakeOffRequest <;> exact completes_ok
  case seqEnableDelayExpiry => fun_cases execSeqEnableDelayExpiry <;> exact completes_ok
  case seqChannelSettled => fun_cases execSeqChannelSettled <;> exact completes_ok
  case seqUpTimeout => fun_cases execSeqUpTimeout <;> exact completes_ok
  case seqDisableDelayExpiry => fun_cases execSeqDisableDelayExpiry <;> exact completes_ok
  case seqChannelDown => fun_cases execSeqChannelDown <;> exact completes_ok
  case seqWindowLost => fun_cases execSeqWindowLost <;> exact completes_ok
  case minOffTimeExpiry => fun_cases execMinOffTimeExpiry <;> exact completes_ok
  case supplyWarning => fun_cases execSupplyWarning <;> exact completes_ok
  case powerStop => fun_cases execPowerStop <;> exact completes_ok
  case supplyWarningCleared => fun_cases execSupplyWarningCleared <;> exact completes_ok
  case mainSupplyPowerOn => fun_cases execMainSupplyPowerOn <;> exact completes_ok
  case stateCheckpoint => fun_cases execStateCheckpoint <;> exact completes_ok
  case holdupStopProgrammed => fun_cases execHoldupStopProgrammed <;> exact completes_ok
  case holdupSectorErased => fun_cases execHoldupSectorErased <;> exact completes_ok
  case faultSourceActive => fun_cases execFaultSourceActive <;> exact completes_ok
  case faultSourceInactive => fun_cases execFaultSourceInactive <;> exact completes_ok
  case groupRecovered => fun_cases execGroupRecovered <;> exact completes_ok
  case heartbeatSend => fun_cases execHeartbeatSend <;> exact completes_ok
  case heartbeatReceived => fun_cases execHeartbeatReceived <;> exact completes_ok
  case mirrorFrameReceived => fun_cases execMirrorFrameReceived <;> exact completes_ok
  case relinquishReceived => fun_cases execRelinquishReceived <;> exact completes_ok
  case takeoverComplete => fun_cases execTakeoverComplete <;> exact completes_ok
  case pairFenceInLow => fun_cases execPairFenceInLow <;> exact completes_ok
  case pairFenceInHigh => fun_cases execPairFenceInHigh <;> exact completes_ok
  case pairSeekTimeout => fun_cases execPairSeekTimeout <;> exact completes_ok
  case syncComplete => fun_cases execSyncComplete <;> exact completes_ok
  case watchdogExpiry => fun_cases execWatchdogExpiry <;> exact completes_ok
  case firmwareImageWritten => fun_cases execFirmwareImageWritten <;> exact completes_ok
  case autoConfirmExpiry => fun_cases execAutoConfirmExpiry <;> exact completes_ok
  case odRead => fun_cases execOdRead <;> exact completes_ok
  case odWrite => fun_cases execOdWrite <;> exact completes_ok
  case declare => fun_cases execDeclare <;> exact completes_ok
  case eventPush => fun_cases execEventPush <;> exact completes_ok
  case wdtKick => fun_cases execWdtKick <;> exact completes_ok
  case integWatchdogExpiry => fun_cases execIntegWatchdogExpiry <;> exact completes_ok
  case integRestartDelayExpiry => fun_cases execIntegRestartDelayExpiry <;> exact completes_ok
  case integTimerInterrupt => fun_cases execIntegTimerInterrupt <;> exact completes_ok
  case integImageLoaded => fun_cases execIntegImageLoaded <;> exact completes_ok
  case triggerCounterpartTimeout => fun_cases execTriggerCounterpartTimeout <;> exact completes_ok
  case mainInputQualified => fun_cases execMainInputQualified <;> exact completes_ok
  case holdUpExhausted => fun_cases execHoldUpExhausted <;> exact completes_ok
  case ptpGeneralMessage => fun_cases execPtpGeneralMessage <;> exact completes_ok
  all_goals exact completes_ok

/-- Settles O26. That a command completes in every state, due or not and whatever its power domain, is the model's
choice (assumption log 5 and 88). -/
theorem everyCommandCompletes : Obligations.EveryCommandCompletes := exec_completes

end Sys2Proof.Machine
